-- ==== Sys2Proof/Word.lean ====
section
/-! DEFINITION. Word.lean: the byte, and plain bit and list arithmetic that no rule of the spec decides. -/

namespace Sys2Proof

/-- One byte of a value, a frame or a BLOB, as the number it stands for (0 to 255). -/
abbrev Byte := Nat

/-- Bit `i` of `n` (R4). -/
def bit (n i : Nat) : Bool := n.testBit i

/-- `n` with bit `i` set to `b` (R4). -/
def setBit (n i : Nat) (b : Bool) : Nat :=
  if b then n ||| (1 <<< i) else if n.testBit i then n - (1 <<< i) else n

/-- The number of a Boolean: a BOOL's raw value (R10). -/
def b2n (b : Bool) : Nat := if b then 1 else 0

/-- The `k`-th element changed by `f`, in a list that reads `d` beyond its end. -/
def modAt {α : Type} (d : α) : List α → Nat → (α → α) → List α
  | [], 0, f => [f d]
  | [], k + 1, f => d :: modAt d [] k f
  | a :: l, 0, f => f a :: l
  | a :: l, k + 1, f => a :: modAt d l k f

/-- The `k`-th element replaced, in a list that reads `d` beyond its end. -/
def setAt {α : Type} (d : α) (l : List α) (k : Nat) (a : α) : List α := modAt d l k (fun _ => a)

end Sys2Proof
end

