-- ==== Sys2Proof/Syntax.lean ====
section
/-! DEFINITION. Syntax.lean: the commands the module takes, one constructor of `Instr` per row of the spec's table of
operations and events, with the operands the row's rule names. The table gives no encoding, so operands are typed data.
Every command carries `t`, the TB tick (10 ns) at which it takes place (assumption log 1). -/

namespace Sys2Proof

/-- The transports of R385. -/
inductive Transport where
  | usb | host2w | can (u : Nat) | zwl | engine
  deriving DecidableEq, Repr

/-- A request body (R382) with the requester and transport it came by (R381). Bytes are least significant first. -/
structure Req where
  op : Nat
  index : Nat
  sub : Nat
  ty : Nat
  len : Nat
  epoch : Nat
  seq : Nat
  offset : Nat
  more : Bool
  stagedView : Bool
  data : List Nat
  requester : Nat
  transport : Transport
  /-- For a read of PK_SNAP: the samples of the 16 fast channels since the latest mode tick, up to the read (R316). -/
  smp : List (List Rat) := []
  deriving DecidableEq, Repr

/-- A profile command either arrives as a write of PROF_CMD, or reaches the mode-tick boundary at which the oldest
pending one is applied (R213). -/
inductive CmdStage where
  | accept (r : Req)
  | boundary
  deriving DecidableEq, Repr

/-- The two stages of R16. -/
inductive Stage where
  | a | b
  deriving DecidableEq, Repr

/-- The two remote sense pairs of R184. -/
inductive Pair where
  | sys | bat
  deriving DecidableEq, Repr

/-- One reading of a thermistor input (R47, R231): its resistance, and the temperature of R47's thermistor at it. -/
structure TempRead where
  ohms : Rat
  celsius : Rat
  deriving DecidableEq, Repr

/-- What SUP1 latches at a mode tick (R83, R72, R231, R285): the measured quantities of the latest tick. Lists run over
the power ports k, the phases p or the thermistors j of R9. -/
structure TickIn where
  /-- The samples of the 16 fast channels since the previous mode tick, oldest first, as their converters see them: V at an even
  channel, A at an odd one, signed by R11 (R311, R312). -/
  smp : List (List Rat)
  vLink : Rat
  vSnsSys : Rat
  vSnsBat : Rat
  pStageA : Rat
  pStageB : Rat
  coolIn : Rat
  coolOut : Rat
  hs : List Rat
  sw : List Rat
  temp : List TempRead
  /-- Control-complex power, W. -/
  ccP : Rat
  /-- Coil current of CONT, A (R300). -/
  contI : Rat
  /-- Ambient temperature, °C (R58). -/
  amb : Rat
  /-- Seconds the RTC has counted since the previous mode tick (R510). -/
  rtcAdv : Nat
  /-- The resolution is complete within its tick (R82). -/
  complete : Bool
  /-- Every PCE has reported a complete loop period since the latest accepted service (R494). -/
  pcePeriod : Bool
  deriving DecidableEq, Repr

/-- The samples of one voltage-loop period (R158), and the loops' demands: the specification gives the loops' crossover
and margins and no compensator, so their outputs are operands (assumption log 8). -/
structure VLoopIn where
  vSense : Rat
  vLocal : Rat
  iSys : Rat
  /-- The Stage A loop's output: the input-side current demand of R133, A. -/
  demandA : Rat
  /-- The Stage B loop's demand of BAT current, A. -/
  demandB : Rat
  /-- The BAT-voltage loop's output: the BAT current that holds V_BAT at its reference, A (R203). -/
  demandV : Rat
  /-- The chopper loop's output: the power that holds V_SYS at the chopper's threshold, W (R94). -/
  brkDemand : Rat
  /-- The excess Stage A reports beyond its limit, as BAT current, A (R102). -/
  excess : Rat
  vIn : List Rat
  /-- The current into each input at which its terminal stays below its edge (R144). -/
  revMax : List Rat
  /-- BAT voltage at the module's terminal, and as SNS_BAT reads it (R183). -/
  vBat : Rat
  vSnsBat : Rat
  iBat : Rat
  deriving DecidableEq, Repr

/-- R358, R360: the CF of a TIME_RELAY as it arrives, and for how long the station holds the frame, ns, where it passes it on. No rule
says how a child ring learns its depth, whether the root follows SYNCI, and the conflicts of SEG_ID above it: the model lets the
head tell them here (DESIGN CHOICE, assumption log 98). -/
structure RelayCf where
  cf : Int
  residence : Rat
  depth : Nat := 0
  synci : Bool := false
  conflicts : List Nat := []
  deriving DecidableEq, Repr

/-- The samples of one switching period of one stage (R150, R157). -/
structure SwIn where
  /-- Mean current of each of the stage's eight phases, A. -/
  iPh : List Rat
  v1 : List Rat
  v2 : List Rat
  deriving DecidableEq, Repr

/-- The header of a Zwinglink frame (R345), the key its MAC was made under (R347, assumption log 6) and whether its FCS holds. -/
structure Hdr where
  cls : Nat
  typ : Nat
  turned : Bool
  ver : Nat
  src : Nat
  dst : Nat
  scope : Nat
  lant : Bool
  fenced : Bool
  relayed : Bool
  hops : Nat
  gen : Nat
  seq : Nat
  len : Nat
  epochLo : Nat
  key : Option (List Nat)
  fcsOk : Bool
  yieldMark : Bool
  /-- The destination address and EtherType are those of R344, and the length is 64 to 1518 bytes. -/
  etherOk : Bool
  /-- Bytes from the destination address to the FCS. -/
  bytes : Nat
  /-- The link that a frame has come by, where its command names none, and the source MAC-48 of the station that transmits it on this
  hop (R344). -/
  via : Nat := 0
  mac : Nat := 0
  deriving DecidableEq, Repr

/-- A role record of a beacon (R348). -/
structure RoleRec where
  seg : Nat
  idx : Nat
  holder : Nat
  gen : Nat
  prev : Nat
  state : Nat
  deriving DecidableEq, Repr

/-- A flash slot (R351), with the key its MAC was made under and the ring number, cycle and LGEN that the MAC covers. -/
structure Slot where
  stn : Nat
  present : Bool
  claim : Bool
  takeAck : Bool
  handoverAck : Bool
  fenced : Bool
  mooring : Bool
  ntimeOk : Bool
  imdCand : Bool
  idx : Nat
  gen : Nat
  key : Option (List Nat)
  ring : Nat := 0xFF
  cycle : Nat := 0
  lgen : Nat := 0
  deriving DecidableEq, Repr

/-- A beacon (R348). Times in TB ticks, CF in units of 2^-16 ns. -/
structure Beacon where
  cycle : Nat
  lgen : Nat
  stn : Nat
  slotCount : Nat
  t0 : Nat
  cf : Int
  env : Nat
  ringOpen : Bool
  traceable : Bool
  synciRef : Bool
  bound : Bool
  darkN : Nat
  depth : Nat
  ring : Nat
  roles : List RoleRec
  slots : List Slot
  /-- The key its lantern MAC was made under. -/
  key : Option (List Nat)
  /-- NET_LPRIO and MAC-48 of the sending lantern, its key under R354: R348 has no field for them (DESIGN CHOICE, assumption
  log 104). -/
  lprio : Nat
  mac : Nat
  /-- The SEG_IDs in conflict (R254), which no field of R348 carries either (DESIGN CHOICE, assumption log 98). -/
  conflicts : List Nat := []
  deriving DecidableEq, Repr

/-- A sharing report (R251, R350). -/
structure ShareRpt where
  stn : Nat
  seg : Nat
  idx : Nat
  gen : Nat
  path : Nat
  vSys : Rat
  iSys : Rat
  pSys : Rat
  room : Rat
  sinkRoom : Rat
  trim : Rat
  sysVset : Rat
  fswA : Rat
  fswB : Rat
  f : Rat
  ovlA : Rat
  ovlB : Rat
  switching : Bool
  inLimit : Bool
  atLimit : Bool
  ntimeOk : Bool
  deriving DecidableEq, Repr

/-- A TRIM frame's content (R350). -/
structure Trim where
  seg : Nat
  high : Nat
  trim : Rat
  eligible : List Nat
  gens : List Nat
  deriving DecidableEq, Repr

/-- An INTENT (R349): identifier (originator, number), segment, total step, arrival in network time, confidence. -/
structure IntentMsg where
  orig : Nat
  num : Nat
  seg : Nat
  dp : Rat
  tArr : Nat
  conf : Nat
  deriving DecidableEq, Repr

/-- An ALLOC (R349): segment, identifier, arrival, confidence, and its entries: SHARE_IDX and ΔP_m in units of 10 W. -/
structure AllocMsg where
  seg : Nat
  orig : Nat
  num : Nat
  tArr : Nat
  conf : Nat
  entries : List (Nat × Int)
  deriving DecidableEq, Repr

/-- A CLAIM (R346, R354). -/
structure ClaimMsg where
  lprio : Nat
  stn : Nat
  mac : Nat
  lgen : Nat
  deriving DecidableEq, Repr

/-- A TAKE offer (R346, R267). -/
structure TakeMsg where
  seg : Nat
  idx : Nat
  target : Nat
  gen : Nat
  deriving DecidableEq, Repr

/-- A GAP record (R366). -/
structure GapMsg where
  orig : Nat
  dst : Nat
  typ : Nat
  firstSeq : Nat
  lost : Nat
  node : Nat
  tFirst : Nat
  tLast : Nat
  deriving DecidableEq, Repr

/-- A station record request (R343, R346). -/
structure StnRec where
  mac : Nat
  stn : Nat
  lprio : Nat
  seg : Nat
  shareMode : Nat
  imdEn : Bool
  imdGsys : Nat
  deriving DecidableEq, Repr

/-- A ring of a subtree (R341, R343): its number, the MAC-48 of its lantern and of its head, its level below the ring that
reports it, and the number of its parent ring. -/
structure RingEnt where
  ring : Nat
  mac : Nat
  head : Nat
  depth : Nat
  parent : Nat
  deriving DecidableEq, Repr

/-- A ring summary (R368). -/
structure RingSum where
  /-- MAC-48 of the ring's lantern, by which its number is settled, of its head, and the rings below it (assumption log 100). -/
  mac : Nat
  head : Nat := 0
  tree : List RingEnt := []
  ring : Nat
  depthBelow : Nat
  rings : List Nat
  segs : List Nat
  imd : List (Nat × Nat)
  deriving DecidableEq, Repr

/-- A FLEET_STATE (R346). -/
structure FleetState where
  depth : Nat
  depthInt : Nat
  depthTrip : Nat
  deriving DecidableEq, Repr

/-- A DELAY_RESP (R346), with the four timestamps of R357 reduced to the difference t4 - t1 and the residence, in ns. -/
structure DelayResp where
  roundTrip : Rat
  residence : Rat
  mac : Nat
  addr : Nat
  link : Nat
  role : Nat
  ring : Nat
  deriving DecidableEq, Repr

/-- Content of a frame that FRAME_FORWARD carries to a consumer that no other row names (R346, R367). -/
inductive FwdBody where
  | intent (m : IntentMsg)
  | trip (kind k cause t : Nat) (i : Rat)
  | fenceRpt (stn seg idx gen newer tb : Nat)
  | odReq (r : Req)
  | streamB
  | streamA
  | bulk (r : Req)
  | ringSum (x : RingSum)
  | other
  deriving DecidableEq, Repr

/-- What the capture's comparators see at the sample of TB `tSample` (R320): the samples of the 16 fast channels before it and
of it, as their converters see them. -/
structure TrigIn where
  before : List Rat
  now : List Rat
  tSample : Nat
  deriving DecidableEq, Repr

/-- What the module measures of a point of an impedance scan (R233, R235). -/
structure ScanPoint where
  /-- The samples over SCAN_CYCLES whole cycles, at 2 MS/s: of SNS_BAT, of the BAT terminal's voltage and of the BAT current
  (R233). -/
  vSns : List Rat
  vLoc : List Rat
  i : List Rat
  /-- Change of the mean BAT current during the point, A (R235). -/
  shift : Rat
  deriving DecidableEq, Repr

/-- What a cable run measures (R326): the samples of its step at 2 MS/s, of the local voltage, the remote sense and the port
current, and the amperes of step left after the clamps; V_link and I of run 3. -/
structure CableRes where
  loc : List Rat
  remote : List Rat
  iPort : List Rat
  stepLeft : Rat
  v : Rat
  i : Rat
  deriving DecidableEq, Repr

/-- The values of a BAT2W Block Read (R463): six raw U16 words, and its outcome. -/
structure BmsBlock where
  words : List Nat
  count : Nat
  pecOk : Bool
  nack : Bool
  stretch : Bool
  tmo : Bool
  deriving DecidableEq, Repr

/-- A CAN frame (R469, R473). -/
structure CanFrame where
  bus : Nat
  id : Nat
  ext : Bool
  fd : Bool
  data : List Nat
  deriving DecidableEq, Repr

/-- A source's capabilities as USB PD reports them (R432). -/
structure SrcCaps where
  eprCapable : Bool
  epr : List Nat
  deriving DecidableEq, Repr

/-- How a transfer on the two-wire bus ended a HOST2W write (R454, R460). -/
inductive Ending where
  | stop
  | srInAck
  | cut
  deriving DecidableEq, Repr

/-- The wake sources of R514, in the order of the WAKE_LAST codes. -/
inductive WakeSrc where
  | pin | net (link : Nat) | usb | rtc | tamper
  deriving DecidableEq, Repr

/-- What a boot finds (R511, R411, R443, R452): the partitions of retention SRAM that pass their check, the places of
stored records that fail their CRC, the role of a USB partner already attached, whether a port branch of R19 is live,
and whether the bank to run verifies. -/
structure BootIn where
  records : Bool
  heat : Bool
  theta : Bool
  counters : Bool
  totals : Bool
  fails : Bool
  evidence : Bool
  queue : Bool
  crcBad : List Nat
  usbSource : Option Bool
  portLive : Bool
  bankOk : Bool
  deriving DecidableEq, Repr

/-- A firmware image as R451 checks it: its header fields and the outcome of the two cryptographic checks. -/
structure FwImage where
  magic : Nat
  version : Nat
  length : Nat
  floor : Nat
  hwMask : Nat
  keyIndex : Nat
  sigOk : Bool
  hashOk : Bool
  deriving DecidableEq, Repr

/-- The commands, one per row of the table. -/
inductive Instr where
  | modeTick (t : Nat) (x : TickIn)
  | autoDwellExpiry (t : Nat)
  | rotationTick (t : Nat)
  | envReqWrite (t : Nat) (r : Req)
  | couplingReqWrite (t : Nat) (r : Req)
  | powerReqWrite (t : Nat) (r : Req)
  | hibernateEntry (t : Nat)
  | activeReturnDone (t : Nat)
  | sysVsetWrite (t : Nat) (r : Req)
  | bridgeQualExpiry (t : Nat)
  | bridgeEntryDone (t : Nat)
  | bridgeExitDone (t : Nat)
  | bsTerminalLive (t : Nat) (v : Rat)
  | bsContTExpiry (t : Nat)
  | bsPrechargeDone (t : Nat) (vInt vTerm : Rat)
  | bsPrechargeTimeout (t : Nat)
  | bsSettleExpiry (t : Nat)
  | bsTimeout (t : Nat)
  | ssRampEnd (t : Nat)
  | ssSwitchOpen (t : Nat)
  | ssLinkDischarged (t : Nat) (vLink : Rat)
  | ovlExpiry (t : Nat) (st : Stage)
  | ovlClear (t : Nat) (st : Stage)
  | qualWindowEnter (t : Nat) (k : Nat) (v : Rat)
  | qualWindowExcursion (t : Nat) (k : Nat) (v : Rat)
  | insertionDelayExpiry (t : Nat) (k : Nat)
  | prechargeDone (t : Nat) (k : Nat) (vInt vTerm : Rat)
  | prechargeTimeout (t : Nat) (k : Nat)
  | rideEntry (t : Nat) (k : Nat) (v : Rat)
  | rideReturn (t : Nat) (k : Nat) (v : Rat)
  | rideExpiry (t : Nat) (k : Nat) (v : Rat)
  | flapWExpiry (t : Nat) (k : Nat)
  | inputCollapse (t : Nat) (k : Nat) (v : Rat) (fall : Rat)
  | portOvervoltage (t : Nat) (k : Nat) (v : Rat)
  | reverseCurrentFault (t : Nat) (k : Nat) (x : Rat)
  | pilotOpen (t : Nat) (k : Nat)
  | pilotClose (t : Nat) (k : Nat)
  | voltageLoopPeriod (t : Nat) (x : VLoopIn)
  | srcPolicyWrite (t : Nat) (r : Req)
  | manSlackWrite (t : Nat) (r : Req)
  | adaptPeriodExpiry (t : Nat) (k : Nat)
  | adaptStepDone (t : Nat) (k : Nat) (v i dv loadChange : Rat)
  | adaptBackoff (t : Nat) (k : Nat) (v i : Rat)
  | switchingPeriod (t : Nat) (st : Stage) (x : SwIn)
  | peakComparator (t : Nat) (p : Nat)
  | phaseArmingDone (t : Nat) (p : Nat)
  | phaseAddDone (t : Nat) (p : Nat)
  | shedTExpiry (t : Nat) (st : Stage) (g : Nat)
  | phaseShedDone (t : Nat) (p : Nat)
  | armHoldExpiry (t : Nat) (p : Nat)
  | respacingDone (t : Nat) (st : Stage)
  | phaseFault (t : Nat) (p : Nat) (cause : Nat)
  | loopPresetWrite (t : Nat) (r : Req)
  | sstDelayExpiry (t : Nat) (st : Stage)
  | softStartComplete (t : Nat) (st : Stage) (v iMean : Rat)
  | softStartAbort (t : Nat) (st : Stage)
  | hiccupRetry (t : Nat) (st : Stage)
  | sspDelayExpiry (t : Nat) (st : Stage)
  | softStopDone (t : Nat) (st : Stage)
  | senseOpen (t : Nat) (pr : Pair)
  | senseReversed (t : Nat) (pr : Pair)
  | senseRestore (t : Nat) (pr : Pair)
  | intentRx (t : Nat) (m : AllocMsg)
  | intentArm (t : Nat) (orig num : Nat)
  | prebiasStart (t : Nat) (orig num : Nat)
  | intentWithdraw (t : Nat) (orig num : Nat)
  | profStart (t : Nat) (c : CmdStage)
  | profStop (t : Nat) (c : CmdStage)
  | profRestart (t : Nat) (c : CmdStage)
  | profSkip (t : Nat) (c : CmdStage)
  | stepExit (t : Nat) (x : Nat)
  | stepRequestFail (t : Nat) (index sub status : Nat)
  | stepTimeout (t : Nat)
  | pulseLevelChange (t : Nat)
  | bmsAging (t : Nat)
  | bmsStale (t : Nat)
  | bmsWakeAttemptFail (t : Nat)
  | bmsWakeResend (t : Nat)
  | scanStart (t : Nat)
  | scanPointDone (t : Nat) (x : ScanPoint)
  | lifetimeCommit (t : Nat)
  | secondaryControlTick (t : Nat)
  | shareRptRx (t : Nat) (h : Hdr) (m : ShareRpt)
  | trimRx (t : Nat) (h : Hdr) (m : Trim)
  | trimHoldExpiry (t : Nat)
  | frTExpiry (t : Nat)
  | intentAllocate (t : Nat) (h : Hdr) (m : IntentMsg)
  | ringEnvWrite (t : Nat) (r : Req)
  | roleDrop (t : Nat) (r : Req)
  | darkDeclare (t : Nat) (stn : Nat)
  | takeRx (t : Nat) (h : Hdr) (m : TakeMsg)
  | takeOfferLapse (t : Nat)
  | shareReadmit (t : Nat) (r : Req)
  | fastTrip (t : Nat) (k : Nat) (i : Rat)
  | i2tTrip (t : Nat) (k : Nat) (i : Rat)
  | i2tClear (t : Nat) (k : Nat)
  | limitExit (t : Nat) (k : Nat)
  | sysOvervoltageTrip (t : Nat) (v : Rat)
  | brkClamp (t : Nat) (v : Rat)
  | brkClampRelease (t : Nat) (v e : Rat)
  | linkOvervoltage (t : Nat) (v : Rat)
  | switchFailure (t : Nat) (k : Nat) (i : Rat)
  | switchOvertemp (t : Nat) (k : Nat) (c : Rat)
  | switchTempClear (t : Nat) (k : Nat) (c : Rat)
  | portDisable (t : Nat) (r : Req)
  | portSwitchRelease (t : Nat) (k : Nat) (i : Rat)
  | portEnable (t : Nat) (r : Req)
  | ilkOpen (t : Nat)
  | ilkClose (t : Nat)
  | ilkOpenReqWrite (t : Nat) (r : Req)
  | estopOpen (t : Nat)
  | estopClose (t : Nat)
  | estopTest (t : Nat) (pass : Bool)
  | tamperOpen (t : Nat)
  | holdupOperation (t : Nat)
  | lockstepMismatch (t : Nat)
  | contPullExpiry (t : Nat)
  | contOpenLoad (t : Nat) (i : Rat)
  | contOvercurrent (t : Nat) (i : Rat)
  | imdGrantRx (t : Nat) (h : Hdr) (gsys node : Nat)
  | imdGrantExpiry (t : Nat)
  | imdHalfPeriod (t : Nat) (riso csys pole : Rat)
  | imdConflict (t : Nat)
  | channelSaturated (t : Nat) (ch : Nat)
  | channelRangeFail (t : Nat) (ch : Nat)
  | autoZero (t : Nat) (k : Nat) (ofs temp : Rat)
  | telWindowEnd (t : Nat) (w : Nat) (inputs store others : List (List Rat))
  | pkSnap (t : Nat) (r : Req)
  | phtSnap (t : Nat) (r : Req)
  | stepSnap (t : Nat) (r : Req)
  | capArm (t : Nat) (r : Req)
  | capTriggerCmd (t : Nat) (r : Req)
  | capStreamA (t : Nat) (r : Req)
  | capAbort (t : Nat) (r : Req)
  | captureTrigger (t : Nat) (x : TrigIn)
  | capPreHeld (t : Nat)
  | capFrozen (t : Nat)
  | streamAEnd (t : Nat) (status : Nat)
  | capTrigRx (t : Nat) (h : Hdr) (ntime : Nat)
  | streamBBlock (t : Nat)
  | gapRx (t : Nat) (h : Hdr) (m : GapMsg)
  | gapRecordTx (t : Nat) (m : GapMsg)
  | cableSys (t : Nat) (r : Req)
  | cableBat (t : Nat) (r : Req)
  | cableBrk (t : Nat) (r : Req)
  | brkAutoMeasure (t : Nat) (vLink : Rat)
  | cableResult (t : Nat) (run : Nat) (x : CableRes)
  | calSet (t : Nat) (r : Req)
  | esessOpen (t : Nat) (r : Req)
  | esessClose (t : Nat) (r : Req)
  | esessInterim (t : Nat)
  | linkUp (t : Nat) (l : Nat)
  | linkDown (t : Nat) (l : Nat)
  | delayReqTx (t : Nat) (l : Nat)
  | delayReqRx (t : Nat) (l : Nat) (h : Hdr) (residence : Rat)
  | delayRespRx (t : Nat) (l : Nat) (h : Hdr) (m : DelayResp)
  | beaconTx (t : Nat)
  | beaconRx (t : Nat) (l : Nat) (h : Hdr) (m : Beacon) (tOutDelay : Nat)
  | beaconReturn (t : Nat) (cycle : Nat) (slots : List Slot) (loopTime : Option Rat) (turned : Bool)
  | creditRx (t : Nat) (l : Nat) (h : Hdr) (freed : List Nat)
  | creditTx (t : Nat) (l : Nat)
  | claimTx (t : Nat)
  | claimRx (t : Nat) (l : Nat) (h : Hdr) (m : ClaimMsg)
  | electionWin (t : Nat)
  | ringOfOneLantern (t : Nat)
  | netHandover (t : Nat) (r : Req)
  | handoverRx (t : Nat) (h : Hdr) (target lgen : Nat)
  | handoverLapse (t : Nat)
  | timeRelayRx (t : Nat) (l : Nat) (h : Hdr) (t0 : Nat) (cf : RelayCf)
  | ntimeHoldoverExpiry (t : Nat)
  | stnRecRx (t : Nat) (h : Hdr) (m : StnRec)
  | stnAssignRx (t : Nat) (h : Hdr) (mac stn ring : Nat)
  | ringSumTx (t : Nat)
  | ringSumRx (t : Nat) (h : Hdr) (m : RingSum)
  | fleetStateTx (t : Nat)
  | fleetStateRx (t : Nat) (h : Hdr) (m : FleetState)
  | imdAlarmRx (t : Nat) (h : Hdr) (gsys state role : Nat) (riso : Rat)
  | synciEdge (t : Nat)
  | syncoPulse (t : Nat)
  | linkWakeTx (t : Nat) (r : Req)
  | odRead (t : Nat) (r : Req)
  | odWrite (t : Nat) (r : Req)
  | odCommit (t : Nat) (r : Req)
  | odDiscard (t : Nat) (r : Req)
  | journalDurable (t : Nat) (ok : Bool)
  | stageTimeout (t : Nat)
  | assemblyTimeout (t : Nat) (requester : Nat)
  | queueTimeout (t : Nat) (r : Req)
  | recordHoldExpiry (t : Nat)
  | pstoreDefaults (t : Nat) (r : Req)
  | rstCmd (t : Nat) (r : Req)
  | rtcWrite (t : Nat) (r : Req)
  | cmpModeWrite (t : Nat) (r : Req)
  | cmpMatch (t : Nat) (c : Nat)
  | kprKey (t : Nat) (r : Req)
  | kprCheckin (t : Nat) (r : Req)
  | keeperExpiry (t : Nat)
  | faultRaise (t : Nat) (b bit : Nat) (active : Bool) (value : Rat)
  | faultScan (t : Nat)
  | faultAck (t : Nat) (b bits : Nat)
  | faultEscalate (t : Nat) (b : Nat)
  | blockResetDone (t : Nat) (b : Nat)
  | faultRecover (t : Nat) (b : Nat)
  | fltStickyClear (t : Nat) (r : Req)
  | fltLatchedClear (t : Nat) (r : Req)
  | fltInject (t : Nat) (r : Req)
  | injMiss (t : Nat) (b bit : Nat)
  | faultContactRestore (t : Nat)
  | eraseDone (t : Nat)
  | eraseTimeout (t : Nat)
  | usbAttach (t : Nat) (source : Bool)
  | usbDetach (t : Nat)
  | sourceCapabilities (t : Nat) (m : SrcCaps)
  | eprKeepalive (t : Nat) (answered : Bool)
  | eprExit (t : Nat)
  | prSwap (t : Nat)
  | drSwap (t : Nat)
  | frSwap (t : Nat) (asMessage : Bool)
  | notSupported (t : Nat) (message : Nat)
  | hardReset (t : Nat) (sent : Bool)
  | vbusDischargeDone (t : Nat) (vbus : Rat)
  | discoverIdentity (t : Nat)
  | discoverSvids (t : Nat)
  | discoverModes (t : Nat) (svid : Nat)
  | enterMode (t : Nat) (svid pos : Nat)
  | exitMode (t : Nat)
  | usbTransfer (t : Nat) (length : Nat) (r : Req)
  | credLogin (t : Nat) (r : Req)
  | credLogout (t : Nat) (r : Req)
  | credSet (t : Nat) (r : Req)
  | sessionIdleTimeout (t : Nat) (requester : Nat)
  | lockoutExpiry (t : Nat) (cls : Nat)
  | secretErase (t : Nat) (r : Req)
  | scrubDone (t : Nat)
  | ringKeyOwn (t : Nat) (r : Req)
  | ringKeyPar (t : Nat) (r : Req)
  | signKeygen (t : Nat) (r : Req)
  | fwImg (t : Nat) (r : Req)
  | fwVerifyDone (t : Nat) (m : FwImage)
  | fwSwitch (t : Nat) (r : Req)
  | trialConfirm (t : Nat)
  | h2wWriteTransaction (t : Nat) (bytes : List Nat) (e : Ending)
  | h2wReadTransaction (t : Nat) (count : Nat)
  | h2wPageSelect (t : Nat) (page : Nat)
  | h2wGo (t : Nat)
  | h2wRelease (t : Nat)
  | h2wResponse (t : Nat)
  | alertCauseWrite (t : Nat) (bits : Nat)
  | alertResponse (t : Nat) (won : Bool)
  | h2wSrInAck (t : Nat)
  | sclTimeout (t : Nat) (port : Nat)
  | sdaTimeout (t : Nat) (port : Nat)
  | bat2wPoll (t : Nat) (u : Nat)
  | balertEdge (t : Nat) (u : Nat)
  | bat2wBlockReadDone (t : Nat) (u : Nat) (m : BmsBlock)
  | bat2wRetry (t : Nat) (u : Nat)
  | arbLost (t : Nat) (u : Nat) (atStop : Bool)
  | canRequest (t : Nat) (f : CanFrame)
  | canStatusFrame (t : Nat)
  | canMappedFrame (t : Nat) (f : CanFrame)
  | mapStale (t : Nat) (m : Nat)
  | canBusOff (t : Nat) (u : Nat)
  | canBusOffRecover (t : Nat) (u : Nat)
  | tcxoFail (t : Nat)
  | pllUnlock (t : Nat)
  | pllRelockTimeout (t : Nat)
  | por
  | bor
  | wrstPin (t : Nat)
  | wdrst (t : Nat)
  | sfrst (t : Nat)
  | wakeEvent (w : WakeSrc) (supply : Bool)
  | startUp (rtcAdv : Nat) (epochOk : Bool) (x : BootIn)
  | epochWriteRetry (ok : Bool)
  | aoReserveExhausted
  | sourceReturn (port : Bool)
  | holdupRechargeCheck (t : Nat) (e : Rat)
  | tamperClose (t : Nat)
  | phyLink (t : Nat) (l : Nat) (up : Bool)
  | frameForward (t : Nat) (l : Nat) (h : Hdr) (m : FwdBody)
  | fenceRampDone (t : Nat)
  | canErrorPassive (t : Nat) (u : Nat) (passive : Bool)
  | faultEventHoldExpiry (t : Nat) (b bit : Nat)
  | readSnapshotExpiry (t : Nat) (requester : Nat)
  | pdRequest (t : Nat) (volts : Nat)
  | partnerIdentityRx (t : Nat) (vdos : List Nat)
  | imdGrantTx (t : Nat)
  deriving DecidableEq, Repr

end Sys2Proof
end

