-- ==== Sys2Proof/Config.lean ====
section
/-! DEFINITION. Config.lean: what the specification leaves to the unit or leaves open. Every constant here is opaque:
nothing can compute it or prove a value of it, so a statement holds whatever it is. -/

namespace Sys2Proof.Config

/-- A value the specification leaves open, drawn afresh: the argument is the model's counter `freeCtr`
(assumption log 9). -/
opaque freeNat : Nat → Nat

/-- R333: the signature SAFE's engine makes with a key over record bytes (assumption log 6). -/
opaque signature : (key : Nat) → List Nat → List Nat

/-- R333: SHA-256 of record bytes (assumption log 6). -/
opaque sha256 : List Nat → List Nat

/-- R336: the public key of a signing key (assumption log 6). -/
opaque publicKey : Nat → List Nat

/-- R413: the serial number set at the factory. -/
opaque serial : List Nat

/-- R413: the MAC-48 address set at the factory. -/
opaque mac48 : Nat

/-- R413: the manufacturing time set at the factory. -/
opaque mfgDate : Nat

/-- R413: minor and patch numbers of the firmware the factory loaded; its line is 4 (R1). -/
opaque fwMinorPatch : Nat

/-- R336: the calibration identity set at the factory. -/
opaque calId : List Nat

/-- R336: the factory calibration date. -/
opaque calDate : Nat

/-- R329: the factory constants of a converter: gain, offset in its channel's unit at 25 °C, and the offset's change in each °C. -/
structure FactoryCal where
  gain : Rat
  offset : Rat
  tempco : Rat
  deriving DecidableEq, Repr, Inhabited

/-- R329: the factory constants of the 16 fast channels, and from 16 on of the two sense converters. -/
opaque factoryCal : Nat → FactoryCal

/-- R414: the share of the parameter store in use, per cent as F32, when it holds so many values; the layout of its records
is not given (assumption log 9). -/
opaque pstoreUsed : Nat → Nat

end Sys2Proof.Config
end

