-- ==== Sys2Proof/Machine/Entries.lean ====
section
/-! DEFINITION. Machine/Entries.lean: the object dictionary's entries (R377 to R380, R409 to R429).
One `Fam` per named entry; a family (R9, R410) is one `Fam` with `count` instances, instance `i` at
index `base + stride * i`. Defaults are the raw values of R10 (an F32 default as its binary32 pattern).
Names, types, access kinds, defaults and ranges are those of the tables of the rule each docstring cites;
the level of a write and whether a value is committed are those of the rule's bullets (R378, R411). -/

namespace Sys2Proof.Machine

/-- The types of R379. -/
inductive Ty where
  | bool | u8 | u16 | u32 | u64 | i16 | i32 | i64 | f32 | time64 | str | blob
  deriving DecidableEq, Repr

/-- The access kinds of R380. -/
inductive Acc where
  | ro | rw | wo | rws | rwc
  deriving DecidableEq, Repr

/-- The value an entry holds: a number as its raw unsigned pattern (R10), or the bytes of a STR or BLOB. -/
inductive Val where
  | num (raw : Nat)
  | bytes (b : List Nat)
  deriving DecidableEq, Repr

/-- What a table's Range column says (R6): closed intervals, the writable bits of a bit map (the others are
reserved, R5), or the length of a STR or BLOB. `any` is a dash or a range that another rule gives. -/
inductive Rng where
  | any
  | nats (ivs : List (Nat × Nat))
  | ints (ivs : List (Int × Int))
  | rats (ivs : List (Rat × Rat))
  | mask (m : Nat)
  | len (lo hi : Nat)
  deriving DecidableEq, Repr

/-- An entry, or a family of entries of one layout (R8, R9, R378). -/
structure Fam where
  name : String
  base : Nat
  stride : Nat
  count : Nat
  sub : Nat
  ty : Ty
  acc : Acc
  /-- The level a write needs (R378); an entry whose level depends on the value keeps the lowest here. -/
  wr : Nat
  /-- Committed to the parameter store (R411). -/
  committed : Bool
  dflts : List Val
  rng : Rng
  deriving DecidableEq, Repr

/-- The index of instance `i` (R9). -/
def Fam.index (f : Fam) (i : Nat) : Nat := f.base + f.stride * i

/-- The place of instance `i` in the dictionary: index in the high part, subindex in the low byte. -/
def Fam.key (f : Fam) (i : Nat) : Nat := f.index i * 256 + f.sub

/-- The default of instance `i` (R7). -/
def Fam.dflt (f : Fam) (i : Nat) : Val := (f.dflts[i]?).getD (f.dflts.getLastD (.num 0))

namespace E

/-- 2000:01 U8 RW, default 0x00, range 0x00–0x0A, unit —. Requested envelope, codes of R61 (R80) -/
def ENV_REQ : Fam :=
  ⟨"ENV_REQ", 0x2000, 0x1, 1, 0x1, .u8, .rw, 1, false, [.num 0],
    .nats [(0, 10)]⟩

/-- 2000:02 U8 RO, default 0x00, range 0x00–0x0A, unit —. Envelope in force after precedence (R80) -/
def ENV_EFF : Fam :=
  ⟨"ENV_EFF", 0x2000, 0x1, 1, 0x2, .u8, .ro, 2, false, [.num 0],
    .nats [(0, 10)]⟩

/-- 2000:03 U8 RO, default 0, range 0–3, unit —. Source of ENV_EFF: 0 host, 1 fleet command, 2 fencing, 3 SAFE (R80) -/
def ENV_SRC : Fam :=
  ⟨"ENV_SRC", 0x2000, 0x1, 1, 0x3, .u8, .ro, 2, false, [.num 0],
    .nats [(0, 3)]⟩

/-- 2000:04 U8 RO, default 0x00, range 0x00–0x09, unit —. Active path (R80) -/
def PATH_ACT : Fam :=
  ⟨"PATH_ACT", 0x2000, 0x1, 1, 0x4, .u8, .ro, 2, false, [.num 0],
    .nats [(0, 9)]⟩

/-- 2000:05 U16 RO, default 0x0000, range Bit map, R81, unit —. Causes that can separate the active path from the envelope, each reading 1 while it holds (R81) (R80) -/
def PATH_REASON : Fam :=
  ⟨"PATH_REASON", 0x2000, 0x1, 1, 0x5, .u16, .ro, 2, false, [.num 0],
    .mask 0xfff⟩

/-- 2000:06 U8 RW, default 3, range 0–3, unit —. 0 OPEN, 1 CONVERT, 2 BRIDGE, 3 AUTO (R80) -/
def COUPLING_REQ : Fam :=
  ⟨"COUPLING_REQ", 0x2000, 0x1, 1, 0x6, .u8, .rw, 2, false, [.num 3],
    .nats [(0, 3)]⟩

/-- 2000:07 U8 RO, default 0, range 0–2, unit —. Coupling in force (R80) -/
def COUPLING_ACT : Fam :=
  ⟨"COUPLING_ACT", 0x2000, 0x1, 1, 0x7, .u8, .ro, 2, false, [.num 0],
    .nats [(0, 2)]⟩

/-- 2000:08 U8 RW, default 0, range 0–2, unit —. Requested power state (R80) -/
def POWER_REQ : Fam :=
  ⟨"POWER_REQ", 0x2000, 0x1, 1, 0x8, .u8, .rw, 1, false, [.num 0],
    .nats [(0, 2)]⟩

/-- 2000:09 U8 RO, default 0, range 0–2, unit —. Power state in force (R80) -/
def POWER_ACT : Fam :=
  ⟨"POWER_ACT", 0x2000, 0x1, 1, 0x9, .u8, .ro, 2, false, [.num 0],
    .nats [(0, 2)]⟩

/-- 2000:0A U8 RO, default 0xFF, range 0x00–0x0A, 0xFF, unit —. Ring-wide envelope command in force. 0xFF: none (R80) -/
def FLEET_ENV : Fam :=
  ⟨"FLEET_ENV", 0x2000, 0x1, 1, 0xa, .u8, .ro, 2, false, [.num 0xff],
    .nats [(0, 10), (255, 255)]⟩

/-- 2000:0B U8 RO, default 0, range 0–3, unit —. 0 settled, 1 in progress, 2 superseded and in progress, 3 failed (R80) -/
def TRANS_STATE : Fam :=
  ⟨"TRANS_STATE", 0x2000, 0x1, 1, 0xb, .u8, .ro, 2, false, [.num 0],
    .nats [(0, 3)]⟩

/-- 2000:0C F32 RW, default 2000, range 500–10000, unit W. Power hysteresis of R72 (R80) -/
def AUTO_HYST_P : Fam :=
  ⟨"AUTO_HYST_P", 0x2000, 0x1, 1, 0xc, .f32, .rw, 2, true, [.num 0x44fa0000],
    .rats [(mkRat 500 1, mkRat 10000 1)]⟩

/-- 2000:0D U16 RW, default 5, range 1–100, unit mode ticks. Dwell of R72 (R80) -/
def AUTO_DWELL : Fam :=
  ⟨"AUTO_DWELL", 0x2000, 0x1, 1, 0xd, .u16, .rw, 2, true, [.num 5],
    .nats [(1, 100)]⟩

/-- 2000:0E U8 RWS, default 0x0A, range 0x01, 0x02, 0x04, 0x06, 0x0A, unit —. Envelope entered when BLACKSTART completes (R80) -/
def BS_TARGET : Fam :=
  ⟨"BS_TARGET", 0x2000, 0x1, 1, 0xe, .u8, .rws, 2, true, [.num 0xa],
    .nats [(1, 1), (2, 2), (4, 4), (6, 6), (10, 10)]⟩

/-- 2000:0F U8 RWC, default 0x00, range 0x00–0x06, 0x0A, unit —. Envelope requested at start-up (R86) (R80) -/
def ENV_BOOT : Fam :=
  ⟨"ENV_BOOT", 0x2000, 0x1, 1, 0xf, .u8, .rwc, 2, true, [.num 0],
    .nats [(0, 6), (10, 10)]⟩

/-- 2000:10 TIME64 RO, default 0, range —, unit TB ticks. TB value at the start of the latest mode tick (R80) -/
def TICK_LAST : Fam :=
  ⟨"TICK_LAST", 0x2000, 0x1, 1, 0x10, .time64, .ro, 2, false, [.num 0],
    .any⟩

/-- 2000:11 U32 RO, default 0, range 0–0xFFFF_FFFF, unit —. Count of resolutions not complete within their tick (R82) (R80) -/
def TICK_OVERRUN : Fam :=
  ⟨"TICK_OVERRUN", 0x2000, 0x1, 1, 0x11, .u32, .ro, 2, false, [.num 0],
    .nats [(0, 4294967295)]⟩

/-- 2010:01 F32 RW, default 750, range 300–1000, unit V. SYS setpoint before load line and trim (R115) -/
def SYS_VSET : Fam :=
  ⟨"SYS_VSET", 0x2010, 0x1, 1, 0x1, .f32, .rw, 1, true, [.num 0x443b8000],
    .rats [(mkRat 300 1, mkRat 1000 1)]⟩

/-- 2010:02 F32 RW, default 10, range 0.1–100, unit V/ms. Rate of movement of V_ref (R115) -/
def SYS_SLEW : Fam :=
  ⟨"SYS_SLEW", 0x2010, 0x1, 1, 0x2, .f32, .rw, 2, true, [.num 0x41200000],
    .rats [(mkRat 1 10, mkRat 100 1)]⟩

/-- 2010:03 F32 RW, default 0.5, range 0.1–2.0, unit % of SYS_VSET. Stage B's source offset in SUPPLEMENT (R90) (R115) -/
def SUPP_DV : Fam :=
  ⟨"SUPP_DV", 0x2010, 0x1, 1, 0x3, .f32, .rw, 2, true, [.num 0x3f000000],
    .rats [(mkRat 1 10, mkRat 2 1)]⟩

/-- 2010:04 F32 RW, default 1.0, range 0.5–5.0, unit % of SYS_VSET. D1 (R91) (R115) -/
def REGEN_DV1 : Fam :=
  ⟨"REGEN_DV1", 0x2010, 0x1, 1, 0x4, .f32, .rw, 2, true, [.num 0x3f800000],
    .rats [(mkRat 1 2, mkRat 5 1)]⟩

/-- 2010:05 F32 RW, default 2.0, range 0.5–5.0, unit % of SYS_VSET. D2 (R115) -/
def REGEN_DV2 : Fam :=
  ⟨"REGEN_DV2", 0x2010, 0x1, 1, 0x5, .f32, .rw, 2, true, [.num 0x40000000],
    .rats [(mkRat 1 2, mkRat 5 1)]⟩

/-- 2010:06 F32 RW, default 3.0, range 0.5–5.0, unit % of SYS_VSET. D3 (R115) -/
def REGEN_DV3 : Fam :=
  ⟨"REGEN_DV3", 0x2010, 0x1, 1, 0x6, .f32, .rw, 2, true, [.num 0x40400000],
    .rats [(mkRat 1 2, mkRat 5 1)]⟩

/-- 2010:07 F32 RO, default 0, range 0–90000, unit W. SYS power limit in force (R115) -/
def P_SYS_LIM : Fam :=
  ⟨"P_SYS_LIM", 0x2010, 0x1, 1, 0x7, .f32, .ro, 2, false, [.num 0],
    .rats [(mkRat 0 1, mkRat 90000 1)]⟩

/-- 2010:08 U8 RO, default 0, range 0–3, unit —. Highest sink rank in action. 0: none (R115) -/
def REGEN_RANK : Fam :=
  ⟨"REGEN_RANK", 0x2010, 0x1, 1, 0x8, .u8, .ro, 2, false, [.num 0],
    .nats [(0, 3)]⟩

/-- 2010:09 F32 RO, default 0, range 0–10, unit s. Stage A overload timer (R97) (R115) -/
def OVL_A : Fam :=
  ⟨"OVL_A", 0x2010, 0x1, 1, 0x9, .f32, .ro, 2, false, [.num 0],
    .rats [(mkRat 0 1, mkRat 10 1)]⟩

/-- 2010:0A F32 RO, default 0, range 0–10, unit s. Stage B overload timer (R115) -/
def OVL_B : Fam :=
  ⟨"OVL_B", 0x2010, 0x1, 1, 0xa, .f32, .ro, 2, false, [.num 0],
    .rats [(mkRat 0 1, mkRat 10 1)]⟩

/-- 2020:01 BOOL RW, default 0, range 0–1, unit —. Permits BRIDGE (R115) -/
def BRIDGE_EN : Fam :=
  ⟨"BRIDGE_EN", 0x2020, 0x1, 1, 0x1, .bool, .rw, 2, true, [.num 0],
    .nats [(0, 1)]⟩

/-- 2020:02 F32 RW, default 300, range 300–1000, unit V. Lower edge of the BAT window for BRIDGE (R115) -/
def BRIDGE_VMIN : Fam :=
  ⟨"BRIDGE_VMIN", 0x2020, 0x1, 1, 0x2, .f32, .rw, 2, true, [.num 0x43960000],
    .rats [(mkRat 300 1, mkRat 1000 1)]⟩

/-- 2020:03 F32 RW, default 1000, range 300–1000, unit V. Upper edge of that window. A value at or below BRIDGE_VMIN is refused with RANGE (R115) -/
def BRIDGE_VMAX : Fam :=
  ⟨"BRIDGE_VMAX", 0x2020, 0x1, 1, 0x3, .f32, .rw, 2, true, [.num 0x447a0000],
    .rats [(mkRat 300 1, mkRat 1000 1)]⟩

/-- 2020:04 F32 RW, default 1.0, range 0.2–3.0, unit % of V_SYS. Voltage match for entry (R115) -/
def BRIDGE_MATCH : Fam :=
  ⟨"BRIDGE_MATCH", 0x2020, 0x1, 1, 0x4, .f32, .rw, 2, true, [.num 0x3f800000],
    .rats [(mkRat 1 5, mkRat 3 1)]⟩

/-- 2020:05 U16 RW, default 10, range 1–1000, unit mode ticks. Qualifying time for entry (R115) -/
def BRIDGE_QUAL : Fam :=
  ⟨"BRIDGE_QUAL", 0x2020, 0x1, 1, 0x5, .u16, .rw, 2, true, [.num 10],
    .nats [(1, 1000)]⟩

/-- 2020:06 F32 RW, default 2.0, range 0.5–20, unit ms. Duty ramp time (R115) -/
def BRIDGE_RAMP : Fam :=
  ⟨"BRIDGE_RAMP", 0x2020, 0x1, 1, 0x6, .f32, .rw, 2, true, [.num 0x40000000],
    .rats [(mkRat 1 2, mkRat 20 1)]⟩

/-- 2020:07 U8 RO, default 0, range 0–3, unit —. 0 not bridged, 1 entering, 2 bridged, 3 leaving (R115) -/
def BRIDGE_STATE : Fam :=
  ⟨"BRIDGE_STATE", 0x2020, 0x1, 1, 0x7, .u8, .ro, 2, false, [.num 0],
    .nats [(0, 3)]⟩

/-- 2020:08 U8 RO, default 0, range 0–6, unit —. Cause of the latest exit (R108). 0: none since start-up (R115) -/
def BRIDGE_EXIT : Fam :=
  ⟨"BRIDGE_EXIT", 0x2020, 0x1, 1, 0x8, .u8, .ro, 2, false, [.num 0],
    .nats [(0, 6)]⟩

/-- 2020:09 U32 RO, default 0, range 0–0xFFFF_FFFF, unit —. Count of forced exits (R115) -/
def BRIDGE_FORCED : Fam :=
  ⟨"BRIDGE_FORCED", 0x2020, 0x1, 1, 0x9, .u32, .ro, 2, false, [.num 0],
    .nats [(0, 4294967295)]⟩

/-- 2030:01 BOOL RW, default 1, range 0–1, unit —. Permits recovery qualification (R115) -/
def DEAD_EN : Fam :=
  ⟨"DEAD_EN", 0x2030, 0x1, 1, 0x1, .bool, .rw, 2, true, [.num 1],
    .nats [(0, 1)]⟩

/-- 2030:02 F32 RWS, default 200, range 200–1000, unit V. Lower window edge in recovery (R115) -/
def DEAD_VMIN : Fam :=
  ⟨"DEAD_VMIN", 0x2030, 0x1, 1, 0x2, .f32, .rws, 2, true, [.num 0x43480000],
    .rats [(mkRat 200 1, mkRat 1000 1)]⟩

/-- 2030:03 F32 RW, default 2.0, range 0.5–10, unit A. Current limit in recovery (R115) -/
def DEAD_IMAX : Fam :=
  ⟨"DEAD_IMAX", 0x2030, 0x1, 1, 0x3, .f32, .rw, 2, true, [.num 0x40000000],
    .rats [(mkRat 1 2, mkRat 10 1)]⟩

/-- 2030:04 U8 RO, default 0, range 0–2, unit —. 0 not in recovery, 1 recovering, 2 recovered since the latest qualification (R115) -/
def DEAD_STATE : Fam :=
  ⟨"DEAD_STATE", 0x2030, 0x1, 1, 0x4, .u8, .ro, 2, false, [.num 0],
    .nats [(0, 2)]⟩

/-- 2040:01 F32 RO, default 0, range 0–1000, unit Ω. Measured resistor (R41). 0: not measured. 1000: no resistor (R115) -/
def BRK_R : Fam :=
  ⟨"BRK_R", 0x2040, 0x1, 1, 0x1, .f32, .ro, 2, true, [.num 0],
    .rats [(mkRat 0 1, mkRat 1000 1)]⟩

/-- 2040:02 F32 RWS, default 5000, range 500–100000, unit W. Resistor's continuous rating (R115) -/
def BRK_PCONT : Fam :=
  ⟨"BRK_PCONT", 0x2040, 0x1, 1, 0x2, .f32, .rws, 2, true, [.num 0x459c4000],
    .rats [(mkRat 500 1, mkRat 100000 1)]⟩

/-- 2040:03 F32 RWS, default 60, range 5–3600, unit s. Resistor's thermal time constant (R115) -/
def BRK_TAU : Fam :=
  ⟨"BRK_TAU", 0x2040, 0x1, 1, 0x3, .f32, .rws, 2, true, [.num 0x42700000],
    .rats [(mkRat 5 1, mkRat 3600 1)]⟩

/-- 2040:04 F32 RO, default 0, range 0–3.6e8, unit J. Heat state H (R115) -/
def BRK_HEAT : Fam :=
  ⟨"BRK_HEAT", 0x2040, 0x1, 1, 0x4, .f32, .ro, 2, false, [.num 0],
    .rats [(mkRat 0 1, mkRat 360000000 1)]⟩

/-- 2040:05 F32 RO, default 0, range 0–200, unit % of H_max. H relative to H_max (R115) -/
def BRK_HEAT_PCT : Fam :=
  ⟨"BRK_HEAT_PCT", 0x2040, 0x1, 1, 0x5, .f32, .ro, 2, false, [.num 0],
    .rats [(mkRat 0 1, mkRat 200 1)]⟩

/-- 2040:06 F32 RW, default 80, range 50–95, unit % of H_max. Warning level (R115) -/
def BRK_WARN : Fam :=
  ⟨"BRK_WARN", 0x2040, 0x1, 1, 0x6, .f32, .rw, 2, true, [.num 0x42a00000],
    .rats [(mkRat 50 1, mkRat 95 1)]⟩

/-- 2040:07 BOOL RO, default 0, range 0–1, unit —. Thermal limit in action (R115) -/
def BRK_LIMITING : Fam :=
  ⟨"BRK_LIMITING", 0x2040, 0x1, 1, 0x7, .bool, .ro, 2, false, [.num 0],
    .nats [(0, 1)]⟩

/-- 2050:01 U16 RW, default 500, range 50–5000, unit ms. Time for the BAT terminal to become live (R115) -/
def BS_CONT_T : Fam :=
  ⟨"BS_CONT_T", 0x2050, 0x1, 1, 0x1, .u16, .rw, 2, true, [.num 500],
    .nats [(50, 5000)]⟩

/-- 2050:02 BOOL RW, default 1, range 0–1, unit —. Waits for fresh battery-management limits (R115) -/
def BS_BMS_REQ : Fam :=
  ⟨"BS_BMS_REQ", 0x2050, 0x1, 1, 0x2, .bool, .rw, 2, true, [.num 1],
    .nats [(0, 1)]⟩

/-- 2050:03 F32 RW, default 2.0, range 0.2–20, unit s. Ramp time for a dead bus (R115) -/
def BS_RAMP_T : Fam :=
  ⟨"BS_RAMP_T", 0x2050, 0x1, 1, 0x3, .f32, .rw, 2, true, [.num 0x40000000],
    .rats [(mkRat 1 5, mkRat 20 1)]⟩

/-- 2050:04 U16 RW, default 100, range 10–1000, unit ms. Settling hold (R115) -/
def BS_SETTLE : Fam :=
  ⟨"BS_SETTLE", 0x2050, 0x1, 1, 0x4, .u16, .rw, 2, true, [.num 100],
    .nats [(10, 1000)]⟩

/-- 2050:05 F32 RW, default 10, range 1–60, unit s. Overall time limit (R115) -/
def BS_TIMEOUT : Fam :=
  ⟨"BS_TIMEOUT", 0x2050, 0x1, 1, 0x5, .f32, .rw, 2, true, [.num 0x41200000],
    .rats [(mkRat 1 1, mkRat 60 1)]⟩

/-- 2050:06 F32 RW, default 20000, range 1000–60000, unit W. Power limit during BLACKSTART (R115) -/
def BS_PMAX : Fam :=
  ⟨"BS_PMAX", 0x2050, 0x1, 1, 0x6, .f32, .rw, 2, true, [.num 0x469c4000],
    .rats [(mkRat 1000 1, mkRat 60000 1)]⟩

/-- 2050:07 U8 RO, default 0, range 0–7, unit —. Step of R110. 0: idle (R115) -/
def BS_STATE : Fam :=
  ⟨"BS_STATE", 0x2050, 0x1, 1, 0x7, .u8, .ro, 2, false, [.num 0],
    .nats [(0, 7)]⟩

/-- 2060:01 F32 RW, default 20, range 1–1000, unit ms. SAFESTOP current ramp time (R115) -/
def SS_RAMP : Fam :=
  ⟨"SS_RAMP", 0x2060, 0x1, 1, 0x1, .f32, .rw, 2, true, [.num 0x41a00000],
    .rats [(mkRat 1 1, mkRat 1000 1)]⟩

/-- 2060:02 BOOL RW, default 1, range 0–1, unit —. Releases CONT in SAFESTOP (R115) -/
def SS_CONT_REL : Fam :=
  ⟨"SS_CONT_REL", 0x2060, 0x1, 1, 0x2, .bool, .rw, 2, true, [.num 1],
    .nats [(0, 1)]⟩

/-- 2060:03 U8 RO, default 0, range 0–4, unit —. Step of R112. 0: not in SAFESTOP (R115) -/
def SS_STATE : Fam :=
  ⟨"SS_STATE", 0x2060, 0x1, 1, 0x3, .u8, .ro, 2, false, [.num 0],
    .nats [(0, 4)]⟩

/-- 3000:01 U8 RW, default 0, range 0–4, unit —. Requested source policy, codes of R61 (R146) -/
def SRC_POLICY : Fam :=
  ⟨"SRC_POLICY", 0x3000, 0x1, 1, 0x1, .u8, .rw, 1, true, [.num 0],
    .nats [(0, 4)]⟩

/-- 3000:02 U8 RO, default 0, range 0–4, unit —. Policy in force (R135) (R146) -/
def POLICY_EFF : Fam :=
  ⟨"POLICY_EFF", 0x3000, 0x1, 1, 0x2, .u8, .ro, 2, false, [.num 0],
    .nats [(0, 4)]⟩

/-- 3000:03 F32 RW, default 200, range 0–200, unit A. Total input-current limit (R146) -/
def IN_ITOT : Fam :=
  ⟨"IN_ITOT", 0x3000, 0x1, 1, 0x3, .f32, .rw, 2, true, [.num 0x43480000],
    .rats [(mkRat 0 1, mkRat 200 1)]⟩

/-- 3000:04 F32 RO, default 0, range 0–200, unit A. Total input current, mean over the latest mode tick (R146) -/
def IN_DRAW_TOT : Fam :=
  ⟨"IN_DRAW_TOT", 0x3000, 0x1, 1, 0x4, .f32, .ro, 2, false, [.num 0],
    .rats [(mkRat 0 1, mkRat 200 1)]⟩

/-- 3000:05 U8 RW, default 0, range 0–3, unit —. Slack input under MANUAL, as port k (R146) -/
def MAN_SLACK : Fam :=
  ⟨"MAN_SLACK", 0x3000, 0x1, 1, 0x5, .u8, .rw, 2, true, [.num 0],
    .nats [(0, 3)]⟩

/-- 3000:06 F32 RW, default 1.0, range 0.1–5.0, unit % of V_max. Band of DIODE_OR (R146) -/
def DOR_BAND : Fam :=
  ⟨"DOR_BAND", 0x3000, 0x1, 1, 0x6, .f32, .rw, 2, true, [.num 0x3f800000],
    .rats [(mkRat 1 10, mkRat 5 1)]⟩

/-- 3000:07 BOOL RW, default 1, range 0–1, unit —. Enables adaptive limiting (R146) -/
def ADAPT_EN : Fam :=
  ⟨"ADAPT_EN", 0x3000, 0x1, 1, 0x7, .bool, .rw, 2, true, [.num 1],
    .nats [(0, 1)]⟩

/-- 3000:08 U16 RW, default 1000, range 100–60000, unit ms. Interval between measurements per input (R146) -/
def ADAPT_PERIOD : Fam :=
  ⟨"ADAPT_PERIOD", 0x3000, 0x1, 1, 0x8, .u16, .rw, 2, true, [.num 1000],
    .nats [(100, 60000)]⟩

/-- 3000:09 F32 RW, default 2.0, range 0.5–10, unit % of input current. Step size (R139) (R146) -/
def ADAPT_STEP : Fam :=
  ⟨"ADAPT_STEP", 0x3000, 0x1, 1, 0x9, .f32, .rw, 2, true, [.num 0x40000000],
    .rats [(mkRat 1 2, mkRat 10 1)]⟩

/-- 3000:0A F32 RW, default 85, range 60–98, unit % of V_oc. Floor (R141) (R146) -/
def ADAPT_VFLR : Fam :=
  ⟨"ADAPT_VFLR", 0x3000, 0x1, 1, 0xa, .f32, .rw, 2, true, [.num 0x42aa0000],
    .rats [(mkRat 60 1, mkRat 98 1)]⟩

/-- 3000:0B F32 RW, default 10, range 0–50, unit %. Margin (R141) (R146) -/
def ADAPT_MARGIN : Fam :=
  ⟨"ADAPT_MARGIN", 0x3000, 0x1, 1, 0xb, .f32, .rw, 2, true, [.num 0x41200000],
    .rats [(mkRat 0 1, mkRat 50 1)]⟩

/-- 3000:0C F32 RW, default 20, range 1–160, unit A. Ceiling before two estimates (R143) (R146) -/
def ADAPT_START : Fam :=
  ⟨"ADAPT_START", 0x3000, 0x1, 1, 0xc, .f32, .rw, 2, true, [.num 0x41a00000],
    .rats [(mkRat 1 1, mkRat 160 1)]⟩

/-- 3000:0D U8 RW, default 5, range 1–50, unit —. Drops that lengthen the insertion delay (R129) (R146) -/
def FLAP_N : Fam :=
  ⟨"FLAP_N", 0x3000, 0x1, 1, 0xd, .u8, .rw, 2, true, [.num 5],
    .nats [(1, 50)]⟩

/-- 3000:0E U16 RW, default 60, range 1–3600, unit s. Window for FLAP_N (R146) -/
def FLAP_W : Fam :=
  ⟨"FLAP_W", 0x3000, 0x1, 1, 0xe, .u16, .rw, 2, true, [.num 60],
    .nats [(1, 3600)]⟩

/-- 3100+0x10·k:01 F32 RWS, default 150; BAT 200, range 150–1000; BAT 200–1000, unit V. Lower window edge (R147) -/
def QUAL_UV : Fam :=
  ⟨"QUAL_UV", 0x3100, 0x10, 5, 0x1, .f32, .rws, 2, true, [.num 0x43160000, .num 0x43160000, .num 0x43160000, .num 0x43160000, .num 0x43480000],
    .rats [(mkRat 150 1, mkRat 1000 1)]⟩

/-- 3100+0x10·k:02 F32 RWS, default 1000, range 150–1000; BAT 200–1000, unit V. Upper window edge (R147) -/
def QUAL_OV : Fam :=
  ⟨"QUAL_OV", 0x3100, 0x10, 5, 0x2, .f32, .rws, 2, true, [.num 0x447a0000],
    .rats [(mkRat 150 1, mkRat 1000 1)]⟩

/-- 3100+0x10·k:03 F32 RW, default 2.0, range 0.5–10, unit %. Inward hysteresis h × 100 (R120) (R147) -/
def QUAL_HYST : Fam :=
  ⟨"QUAL_HYST", 0x3100, 0x10, 5, 0x3, .f32, .rw, 2, true, [.num 0x40000000],
    .rats [(mkRat 1 2, mkRat 10 1)]⟩

/-- 3100+0x10·k:04 U16 RW, default 500; BAT 1000, range 10–10000, unit ms. Insertion delay (R147) -/
def QUAL_DLY : Fam :=
  ⟨"QUAL_DLY", 0x3100, 0x10, 5, 0x4, .u16, .rw, 2, true, [.num 500, .num 500, .num 500, .num 500, .num 1000],
    .nats [(10, 10000)]⟩

/-- 3100+0x10·k:05 U16 RO, default As QUAL_DLY, range 10–10000, unit ms. Insertion delay in force (R129) (R147) -/
def QUAL_DLY_EFF : Fam :=
  ⟨"QUAL_DLY_EFF", 0x3100, 0x10, 5, 0x5, .u16, .ro, 2, false, [.num 500, .num 500, .num 500, .num 500, .num 1000],
    .nats [(10, 10000)]⟩

/-- 3100+0x10·k:06 F32 RW, default 5.0, range 0.1–100, unit ms. Ride-through (R124) (R147) -/
def QUAL_RIDE_T : Fam :=
  ⟨"QUAL_RIDE_T", 0x3100, 0x10, 5, 0x6, .f32, .rw, 2, true, [.num 0x40a00000],
    .rats [(mkRat 1 10, mkRat 100 1)]⟩

/-- 3100+0x10·k:07 U8 RO, default 0, range 0–7, unit —. State of R119 (R147) -/
def QUAL_STATE : Fam :=
  ⟨"QUAL_STATE", 0x3100, 0x10, 5, 0x7, .u8, .ro, 2, false, [.num 0],
    .nats [(0, 7)]⟩

/-- 3100+0x10·k:08 U8 RO, default 0, range 0–8, unit —. Latest exit: 0 none, 1 undervoltage, 2 overvoltage, 3 collapse, 4 pilot open, 5 precharge failure, 6 reverse current, 7 trip, 8 disabled (R147) -/
def QUAL_CAUSE : Fam :=
  ⟨"QUAL_CAUSE", 0x3100, 0x10, 5, 0x8, .u8, .ro, 2, false, [.num 0],
    .nats [(0, 8)]⟩

/-- 3100+0x10·k:09 U32 RO, default 0, range 0–0xFFFF_FFFF, unit —. Drops counted under R129 (R147) -/
def QUAL_DROPS : Fam :=
  ⟨"QUAL_DROPS", 0x3100, 0x10, 5, 0x9, .u32, .ro, 2, false, [.num 0],
    .nats [(0, 4294967295)]⟩

/-- 3100+0x10·k:0A U8 RO, default 0, range 0–3, unit —. Consecutive precharge failures (R147) -/
def QUAL_PREFAIL : Fam :=
  ⟨"QUAL_PREFAIL", 0x3100, 0x10, 5, 0xa, .u8, .ro, 2, false, [.num 0],
    .nats [(0, 3)]⟩

/-- 3200+0x10·k:01 F32 RW, default 160, range 0–160, unit A. Port current limit (R148) -/
def IN_ILIM : Fam :=
  ⟨"IN_ILIM", 0x3200, 0x10, 4, 0x1, .f32, .rw, 2, true, [.num 0x43200000],
    .rats [(mkRat 0 1, mkRat 160 1)]⟩

/-- 3200+0x10·k:02 F32 RW, default 0, range 0–160000, unit W. Port power limit. 0: none (R148) -/
def IN_PLIM : Fam :=
  ⟨"IN_PLIM", 0x3200, 0x10, 4, 0x2, .f32, .rw, 2, true, [.num 0],
    .rats [(mkRat 0 1, mkRat 160000 1)]⟩

/-- 3200+0x10·k:03 U8 RW, default k + 1, range 1–4, unit —. Rank under PRIORITY. 1 is first (R148) -/
def IN_PRIO : Fam :=
  ⟨"IN_PRIO", 0x3200, 0x10, 4, 0x3, .u8, .rw, 2, true, [.num 1, .num 2, .num 3, .num 4],
    .nats [(1, 4)]⟩

/-- 3200+0x10·k:04 F32 RW, default 25, range 0–100, unit —. Weight under BLEND (R148) -/
def IN_WEIGHT : Fam :=
  ⟨"IN_WEIGHT", 0x3200, 0x10, 4, 0x4, .f32, .rw, 2, true, [.num 0x41c80000],
    .rats [(mkRat 0 1, mkRat 100 1)]⟩

/-- 3200+0x10·k:05 F32 RW, default 0, range 0–1000000, unit cost units/MWh. Cost under COST (R148) -/
def IN_COST : Fam :=
  ⟨"IN_COST", 0x3200, 0x10, 4, 0x5, .f32, .rw, 1, true, [.num 0],
    .rats [(mkRat 0 1, mkRat 1000000 1)]⟩

/-- 3200+0x10·k:06 F32 RW, default 0, range 0–160000, unit W. Fixed reference under MANUAL (R148) -/
def IN_MAN_P : Fam :=
  ⟨"IN_MAN_P", 0x3200, 0x10, 4, 0x6, .f32, .rw, 2, false, [.num 0],
    .rats [(mkRat 0 1, mkRat 160000 1)]⟩

/-- 3200+0x10·k:07 BOOL RWS, default 0, range 0–1, unit —. Permits reverse power (R148) -/
def IN_BIDIR : Fam :=
  ⟨"IN_BIDIR", 0x3200, 0x10, 4, 0x7, .bool, .rws, 2, true, [.num 0],
    .nats [(0, 1)]⟩

/-- 3200+0x10·k:08 F32 RW, default 0, range 0–160, unit A. Reverse current limit (R148) -/
def IN_IREV : Fam :=
  ⟨"IN_IREV", 0x3200, 0x10, 4, 0x8, .f32, .rw, 2, true, [.num 0],
    .rats [(mkRat 0 1, mkRat 160 1)]⟩

/-- 3200+0x10·k:09 F32 RW, default 20, range 1–200, unit A/ms. Rise rate of the ceiling (R131) (R148) -/
def IN_RAMP : Fam :=
  ⟨"IN_RAMP", 0x3200, 0x10, 4, 0x9, .f32, .rw, 2, true, [.num 0x41a00000],
    .rats [(mkRat 1 1, mkRat 200 1)]⟩

/-- 3200+0x10·k:0A F32 RO, default 0, range 0–160, unit A. Ceiling in force (R130) (R148) -/
def IN_ICEIL : Fam :=
  ⟨"IN_ICEIL", 0x3200, 0x10, 4, 0xa, .f32, .ro, 2, false, [.num 0],
    .rats [(mkRat 0 1, mkRat 160 1)]⟩

/-- 3200+0x10·k:0B U8 RO, default 0, range 0–8, unit —. Lowest term of the ceiling, codes of R130, whatever the input draws (R148) -/
def IN_CEIL_SRC : Fam :=
  ⟨"IN_CEIL_SRC", 0x3200, 0x10, 4, 0xb, .u8, .ro, 2, false, [.num 0],
    .nats [(0, 8)]⟩

/-- 3200+0x10·k:0C U8 RO, default 0, range 0–8, unit —. Phases tapped to the input's rail (R148) -/
def IN_PHASES : Fam :=
  ⟨"IN_PHASES", 0x3200, 0x10, 4, 0xc, .u8, .ro, 2, false, [.num 0],
    .nats [(0, 8)]⟩

/-- 3200+0x10·k:0D F32 RO, default 0, range 0–50, unit Ω. Source resistance estimate (R148) -/
def ADAPT_RS : Fam :=
  ⟨"ADAPT_RS", 0x3200, 0x10, 4, 0xd, .f32, .ro, 2, false, [.num 0],
    .rats [(mkRat 0 1, mkRat 50 1)]⟩

/-- 3200+0x10·k:0E F32 RO, default 0, range 0–1100, unit V. Open-circuit voltage estimate (R148) -/
def ADAPT_VOC : Fam :=
  ⟨"ADAPT_VOC", 0x3200, 0x10, 4, 0xe, .f32, .ro, 2, false, [.num 0],
    .rats [(mkRat 0 1, mkRat 1100 1)]⟩

/-- 3200+0x10·k:0F F32 RO, default 0, range 0–160, unit A. Adaptive limit (R141) (R148) -/
def ADAPT_ILIM : Fam :=
  ⟨"ADAPT_ILIM", 0x3200, 0x10, 4, 0xf, .f32, .ro, 2, false, [.num 0],
    .rats [(mkRat 0 1, mkRat 160 1)]⟩

/-- 3200+0x10·k:10 U8 RO, default 0, range 0–3, unit —. 0 no estimate, 1 valid, 2 below resolution, 3 paused (R148) -/
def ADAPT_STATE : Fam :=
  ⟨"ADAPT_STATE", 0x3200, 0x10, 4, 0x10, .u8, .ro, 2, false, [.num 0],
    .nats [(0, 3)]⟩

/-- 3200+0x10·k:11 U32 RO, default 0, range 0–0xFFFF_FFFF, unit —. Count of backoffs (R142) (R148) -/
def ADAPT_BACKOFFS : Fam :=
  ⟨"ADAPT_BACKOFFS", 0x3200, 0x10, 4, 0x11, .u32, .ro, 2, false, [.num 0],
    .nats [(0, 4294967295)]⟩

/-- 4000:01 F32 RWS, default 80, range 40–160, unit kHz. Switching frequency (R152, R153) (R197) -/
def STG_FSW : Fam :=
  ⟨"STG_FSW", 0x4000, 0x40, 2, 0x1, .f32, .rws, 2, true, [.num 0x42a00000],
    .rats [(mkRat 40 1, mkRat 160 1)]⟩

/-- 4000:02 U32 RO, default 25000, range 12500–50000, unit counts. Carrier period in force (R197) -/
def STG_PERIOD : Fam :=
  ⟨"STG_PERIOD", 0x4000, 0x40, 2, 0x2, .u32, .ro, 2, false, [.num 25000],
    .nats [(12500, 50000)]⟩

/-- 4000:03 F32 RWS, default 80, range 20–500, unit ns. Dead time (R151) (R197) -/
def STG_DEADT : Fam :=
  ⟨"STG_DEADT", 0x4000, 0x40, 2, 0x3, .f32, .rws, 2, true, [.num 0x42a00000],
    .rats [(mkRat 20 1, mkRat 500 1)]⟩

/-- 4000:04 F32 RWS, default 0; Stage B 0.0625, range 0–0.99, unit periods. Stage origin offset (R154) (R197) -/
def STG_ORIGIN : Fam :=
  ⟨"STG_ORIGIN", 0x4000, 0x40, 2, 0x4, .f32, .rws, 2, true, [.num 0, .num 0x3d800000],
    .rats [(mkRat 0 1, mkRat 99 100)]⟩

/-- 4000:05 U8 RW, default 1, range 0–2, unit —. Loop preset (R159) (R197) -/
def LOOP_PRESET : Fam :=
  ⟨"LOOP_PRESET", 0x4000, 0x40, 2, 0x5, .u8, .rw, 2, true, [.num 1],
    .nats [(0, 2)]⟩

/-- 4000:06 F32 RO, default 0, range 0–0.0412, unit F. Capacitance estimate (R160). 0: not measured (R197) -/
def LOOP_CEST : Fam :=
  ⟨"LOOP_CEST", 0x4000, 0x40, 2, 0x6, .f32, .ro, 2, true, [.num 0],
    .rats [(mkRat 0 1, mkRat 103 2500)]⟩

/-- 4000:07 U8 RO, default 0, range 0–8, unit —. Active phases (R197) -/
def STG_NACT : Fam :=
  ⟨"STG_NACT", 0x4000, 0x40, 2, 0x7, .u8, .ro, 2, false, [.num 0],
    .nats [(0, 8)]⟩

/-- 4000:08 U8 RW, default 1, range 1–8, unit —. Minimum active phases (R165) (R197) -/
def STG_NMIN : Fam :=
  ⟨"STG_NMIN", 0x4000, 0x40, 2, 0x8, .u8, .rw, 2, true, [.num 1],
    .nats [(1, 8)]⟩

/-- 4000:09 U8 RW, default 2, range 1–16, unit periods. Periods above threshold before an add (R197) -/
def STG_ADD_N : Fam :=
  ⟨"STG_ADD_N", 0x4000, 0x40, 2, 0x9, .u8, .rw, 2, true, [.num 2],
    .nats [(1, 16)]⟩

/-- 4000:0A F32 RW, default 40, range 30–70, unit A. Emergency-add threshold (R164) (R197) -/
def STG_FASTADD_I : Fam :=
  ⟨"STG_FASTADD_I", 0x4000, 0x40, 2, 0xa, .f32, .rw, 2, true, [.num 0x42200000],
    .rats [(mkRat 30 1, mkRat 70 1)]⟩

/-- 4000:0B F32 RW, default 2.0, range 0.1–100, unit ms. Shed qualifying time (R197) -/
def STG_SHED_T : Fam :=
  ⟨"STG_SHED_T", 0x4000, 0x40, 2, 0xb, .f32, .rw, 2, true, [.num 0x40000000],
    .rats [(mkRat 1 10, mkRat 100 1)]⟩

/-- 4000:0C U8 RW, default 16, range 4–64, unit periods. Shed ramp (R197) -/
def STG_SHED_RAMP : Fam :=
  ⟨"STG_SHED_RAMP", 0x4000, 0x40, 2, 0xc, .u8, .rw, 2, true, [.num 16],
    .nats [(4, 64)]⟩

/-- 4000:0D U8 RW, default 4, range 2–16, unit periods. Re-spacing time (R156) (R197) -/
def STG_RESPACE : Fam :=
  ⟨"STG_RESPACE", 0x4000, 0x40, 2, 0xd, .u8, .rw, 2, true, [.num 4],
    .nats [(2, 16)]⟩

/-- 4000:0E U16 RW, default 10, range 0–1000, unit ms. Time a shed phase stays ARMED (R197) -/
def STG_ARM_HOLD : Fam :=
  ⟨"STG_ARM_HOLD", 0x4000, 0x40, 2, 0xe, .u16, .rw, 2, true, [.num 10],
    .nats [(0, 1000)]⟩

/-- 4000:0F BOOL RW, default 1, range 0–1, unit —. Enables rotation (R197) -/
def ROT_EN : Fam :=
  ⟨"ROT_EN", 0x4000, 0x40, 2, 0xf, .bool, .rw, 2, true, [.num 1],
    .nats [(0, 1)]⟩

/-- 4000:10 U8 RW, default 5, range 1–16, unit periods. Periods over which a rotation moves the carriers (R197) -/
def ROT_SPREAD : Fam :=
  ⟨"ROT_SPREAD", 0x4000, 0x40, 2, 0x10, .u8, .rw, 2, true, [.num 5],
    .nats [(1, 16)]⟩

/-- 4000:11 U32 RO, default 0, range 0–0xFFFF_FFFF, unit —. Rotations made (R197) -/
def ROT_COUNT : Fam :=
  ⟨"ROT_COUNT", 0x4000, 0x40, 2, 0x11, .u32, .ro, 2, false, [.num 0],
    .nats [(0, 4294967295)]⟩

/-- 4000:12 U32 RO, default 0, range 0–0xFFFF_FFFF, unit —. Sheds cancelled (R166) (R197) -/
def STG_SHED_CANCEL : Fam :=
  ⟨"STG_SHED_CANCEL", 0x4000, 0x40, 2, 0x12, .u32, .ro, 2, false, [.num 0],
    .nats [(0, 4294967295)]⟩

/-- 4000:13 U32 RO, default 0, range 0–0xFFFF_FFFF, unit —. Emergency adds (R197) -/
def STG_FASTADDS : Fam :=
  ⟨"STG_FASTADDS", 0x4000, 0x40, 2, 0x13, .u32, .ro, 2, false, [.num 0],
    .nats [(0, 4294967295)]⟩

/-- 4000:14 U16 RW, default 10, range 0–10000, unit ms. Soft-start delay (R197) -/
def SST_DELAY : Fam :=
  ⟨"SST_DELAY", 0x4000, 0x40, 2, 0x14, .u16, .rw, 2, true, [.num 10],
    .nats [(0, 10000)]⟩

/-- 4000:15 F32 RW, default 500, range 10–20000, unit ms. Dead-bus ramp, 0 V to SYS_VSET (R197) -/
def SST_RAMP : Fam :=
  ⟨"SST_RAMP", 0x4000, 0x40, 2, 0x15, .f32, .rw, 2, true, [.num 0x43fa0000],
    .rats [(mkRat 10 1, mkRat 20000 1)]⟩

/-- 4000:16 F32 RW, default 1.0, range 0.1–100, unit ms. Current-limit ramp (R197) -/
def SST_IRAMP : Fam :=
  ⟨"SST_IRAMP", 0x4000, 0x40, 2, 0x16, .f32, .rw, 2, true, [.num 0x3f800000],
    .rats [(mkRat 1 10, mkRat 100 1)]⟩

/-- 4000:17 U16 RW, default 0, range 0–10000, unit ms. Soft-stop delay (R197) -/
def SSP_DELAY : Fam :=
  ⟨"SSP_DELAY", 0x4000, 0x40, 2, 0x17, .u16, .rw, 2, true, [.num 0],
    .nats [(0, 10000)]⟩

/-- 4000:18 F32 RW, default 20, range 1–1000, unit ms. Soft-stop ramp (R197) -/
def SSP_RAMP : Fam :=
  ⟨"SSP_RAMP", 0x4000, 0x40, 2, 0x18, .f32, .rw, 2, true, [.num 0x41a00000],
    .rats [(mkRat 1 1, mkRat 1000 1)]⟩

/-- 4000:19 U8 RO, default 0, range 0–5, unit —. 0 idle, 1 delay, 2 ramp, 3 complete, 4 aborted, 5 waiting to retry (R197) -/
def SST_STATE : Fam :=
  ⟨"SST_STATE", 0x4000, 0x40, 2, 0x19, .u8, .ro, 2, false, [.num 0],
    .nats [(0, 5)]⟩

/-- 4000:1A U8 RO, default 0, range 0–3, unit —. Retries used (R180) (R197) -/
def SST_HICCUP : Fam :=
  ⟨"SST_HICCUP", 0x4000, 0x40, 2, 0x1a, .u8, .ro, 2, false, [.num 0],
    .nats [(0, 3)]⟩

/-- 4000:1B F32 RW, default 80, range 20–95, unit % of V_ref. Foldback knee (R181) (R197) -/
def FB_KNEE : Fam :=
  ⟨"FB_KNEE", 0x4000, 0x40, 2, 0x1b, .f32, .rw, 2, true, [.num 0x42a00000],
    .rats [(mkRat 20 1, mkRat 95 1)]⟩

/-- 4000:1C F32 RW, default 20, range 5–100, unit % of I_max. Limit at 0 V (R197) -/
def FB_IMIN : Fam :=
  ⟨"FB_IMIN", 0x4000, 0x40, 2, 0x1c, .f32, .rw, 2, true, [.num 0x41a00000],
    .rats [(mkRat 5 1, mkRat 100 1)]⟩

/-- 4000:1D BOOL RO, default 0, range 0–1, unit —. Foldback acting (R197) -/
def FB_ACTIVE : Fam :=
  ⟨"FB_ACTIVE", 0x4000, 0x40, 2, 0x1d, .bool, .ro, 2, false, [.num 0],
    .nats [(0, 1)]⟩

/-- 4200+0x10·p:01 BOOL RWS, default 1, range 0–1, unit —. Permits the phase (R171) (R198) -/
def PH_EN : Fam :=
  ⟨"PH_EN", 0x4200, 0x10, 16, 0x1, .bool, .rws, 2, true, [.num 1],
    .nats [(0, 1)]⟩

/-- 4200+0x10·p:02 U8 RO, default 0, range 0–7, unit —. State of R161 (R198) -/
def PH_STATE : Fam :=
  ⟨"PH_STATE", 0x4200, 0x10, 16, 0x2, .u8, .ro, 2, false, [.num 0],
    .nats [(0, 7)]⟩

/-- 4200+0x10·p:03 F32 RO, default 0, range −70–70, unit A. Mean current over the latest period, side 1 to side 2 positive (R198) -/
def PH_I : Fam :=
  ⟨"PH_I", 0x4200, 0x10, 16, 0x3, .f32, .ro, 2, false, [.num 0],
    .rats [(mkRat (-70) 1, mkRat 70 1)]⟩

/-- 4200+0x10·p:04 F32 RO, default 0, range −70–70, unit A. Current reference (R198) -/
def PH_IREF : Fam :=
  ⟨"PH_IREF", 0x4200, 0x10, 16, 0x4, .f32, .ro, 2, false, [.num 0],
    .rats [(mkRat (-70) 1, mkRat 70 1)]⟩

/-- 4200+0x10·p:05 F32 RW, default 24, range 8–40, unit A. Add threshold (R162) (R198) -/
def PH_ADD_I : Fam :=
  ⟨"PH_ADD_I", 0x4200, 0x10, 16, 0x5, .f32, .rw, 2, true, [.num 0x41c00000],
    .rats [(mkRat 8 1, mkRat 40 1)]⟩

/-- 4200+0x10·p:06 F32 RW, default 16, range 2–38, unit A. Shed threshold (R162) (R198) -/
def PH_SHED_I : Fam :=
  ⟨"PH_SHED_I", 0x4200, 0x10, 16, 0x6, .f32, .rw, 2, true, [.num 0x41800000],
    .rats [(mkRat 2 1, mkRat 38 1)]⟩

/-- 4200+0x10·p:07 U8 RO, default 0xFF, range 0–7, 0xFF, unit —. Slot. 0xFF: not switching (R198) -/
def PH_SLOT : Fam :=
  ⟨"PH_SLOT", 0x4200, 0x10, 16, 0x7, .u8, .ro, 2, false, [.num 0xff],
    .nats [(0, 7), (255, 255)]⟩

/-- 4200+0x10·p:08 U8 RO, default Stage A 0xFF; Stage B 4, range 0–4, 0xFF, unit —. Port k that the phase serves. 0xFF: untapped (R198) -/
def PH_TAP : Fam :=
  ⟨"PH_TAP", 0x4200, 0x10, 16, 0x8, .u8, .ro, 2, false, [.num 255, .num 255, .num 255, .num 255, .num 255, .num 255, .num 255, .num 255, .num 4, .num 4, .num 4, .num 4, .num 4, .num 4, .num 4, .num 4],
    .nats [(0, 4), (255, 255)]⟩

/-- 4200+0x10·p:09 U8 RO, default 0, range 0–3, unit —. Pattern of R150 (R198) -/
def PH_MODE : Fam :=
  ⟨"PH_MODE", 0x4200, 0x10, 16, 0x9, .u8, .ro, 2, false, [.num 0],
    .nats [(0, 3)]⟩

/-- 4200+0x10·p:0A U32 RO, default 0, range 0–0xFFFF_FFFF, unit —. Periods with peak-comparator action (R198) -/
def PH_PEAK_CNT : Fam :=
  ⟨"PH_PEAK_CNT", 0x4200, 0x10, 16, 0xa, .u32, .ro, 2, false, [.num 0],
    .nats [(0, 4294967295)]⟩

/-- 4200+0x10·p:0B U32 RO, default 0, range 0–0xFFFF_FFFF, unit —. Times added (R198) -/
def PH_ADDS : Fam :=
  ⟨"PH_ADDS", 0x4200, 0x10, 16, 0xb, .u32, .ro, 2, false, [.num 0],
    .nats [(0, 4294967295)]⟩

/-- 4200+0x10·p:0C U8 RO, default 0, range 0–3, unit —. 0 none, 1 peak, 2 current sensing, 3 gate drive (R198) -/
def PH_FAULT : Fam :=
  ⟨"PH_FAULT", 0x4200, 0x10, 16, 0xc, .u8, .ro, 2, false, [.num 0],
    .nats [(0, 3)]⟩

/-- 4200+0x10·p:0D F32 RO, default 0, range −40–150, unit °C. Phase heat-sink temperature (R198) -/
def PH_HS_TEMP : Fam :=
  ⟨"PH_HS_TEMP", 0x4200, 0x10, 16, 0xd, .f32, .ro, 2, false, [.num 0],
    .rats [(mkRat (-40) 1, mkRat 150 1)]⟩

/-- 4080:01 F32 RW, default 100, range 0–1000, unit mΩ. Load-line slope (R175) (R199) -/
def LL_R : Fam :=
  ⟨"LL_R", 0x4080, 0x1, 1, 0x1, .f32, .rw, 2, true, [.num 0x42c80000],
    .rats [(mkRat 0 1, mkRat 1000 1)]⟩

/-- 4080:02 F32 RW, default 50, range 10–10000, unit µs. Current filter time constant (R199) -/
def LL_TAU : Fam :=
  ⟨"LL_TAU", 0x4080, 0x1, 1, 0x2, .f32, .rw, 2, true, [.num 0x42480000],
    .rats [(mkRat 10 1, mkRat 10000 1)]⟩

/-- 4080:03 F32 RW, default 3.0, range 0.5–10, unit % of SYS_VSET. Bound on the droop term (R199) -/
def LL_MAXDEV : Fam :=
  ⟨"LL_MAXDEV", 0x4080, 0x1, 1, 0x3, .f32, .rw, 2, true, [.num 0x40400000],
    .rats [(mkRat 1 2, mkRat 10 1)]⟩

/-- 4080:04 F32 RO, default 0, range −100–100, unit V. Common trim in force (R199) -/
def LL_TRIM : Fam :=
  ⟨"LL_TRIM", 0x4080, 0x1, 1, 0x4, .f32, .ro, 2, false, [.num 0],
    .rats [(mkRat (-100) 1, mkRat 100 1)]⟩

/-- 4080:05 F32 RO, default 0, range 0–1100, unit V. V_ref in force (R199) -/
def V_REF : Fam :=
  ⟨"V_REF", 0x4080, 0x1, 1, 0x5, .f32, .ro, 2, false, [.num 0],
    .rats [(mkRat 0 1, mkRat 1100 1)]⟩

/-- 4080:06 F32 RO, default 0, range −100–100, unit V. LL_R × I_f in force (R199) -/
def LL_DROOP_V : Fam :=
  ⟨"LL_DROOP_V", 0x4080, 0x1, 1, 0x6, .f32, .ro, 2, false, [.num 0],
    .rats [(mkRat (-100) 1, mkRat 100 1)]⟩

/-- 4090:01 BOOL RWS, default 1, range 0–1, unit —. Uses the remote pair (R199) -/
def SNS_EN : Fam :=
  ⟨"SNS_EN", 0x4090, 0x10, 2, 0x1, .bool, .rws, 2, true, [.num 1],
    .nats [(0, 1)]⟩

/-- 4090:02 U8 RO, default 2; 0 with SNS_EN 0, range 0–3, unit —. State of R184. Starts in 2 with SNS_EN 1 (R184) (R199) -/
def SNS_STATE : Fam :=
  ⟨"SNS_STATE", 0x4090, 0x10, 2, 0x2, .u8, .ro, 2, false, [.num 2],
    .nats [(0, 3)]⟩

/-- 4090:03 F32 RW, default 0, range 0–1000, unit mΩ. Cable loop resistance (R186) (R199) -/
def SNS_RC : Fam :=
  ⟨"SNS_RC", 0x4090, 0x10, 2, 0x3, .f32, .rw, 2, true, [.num 0],
    .rats [(mkRat 0 1, mkRat 1000 1)]⟩

/-- 4090:04 F32 RW, default 3.0, range 0.5–10, unit % of V_local. Compensation bound (R199) -/
def SNS_MAXCOMP : Fam :=
  ⟨"SNS_MAXCOMP", 0x4090, 0x10, 2, 0x4, .f32, .rw, 2, true, [.num 0x40400000],
    .rats [(mkRat 1 2, mkRat 10 1)]⟩

/-- 4090:05 F32 RO, default 0, range 0–100, unit V. Compensation in force (R199) -/
def SNS_DROP : Fam :=
  ⟨"SNS_DROP", 0x4090, 0x10, 2, 0x5, .f32, .ro, 2, false, [.num 0],
    .rats [(mkRat 0 1, mkRat 100 1)]⟩

/-- 4090:06 U32 RO, default 0, range 0–0xFFFF_FFFF, unit —. Entries to states 2 and 3 (R199) -/
def SNS_OPEN_CNT : Fam :=
  ⟨"SNS_OPEN_CNT", 0x4090, 0x10, 2, 0x6, .u32, .ro, 2, false, [.num 0],
    .nats [(0, 4294967295)]⟩

/-- 4100:01 BOOL RW, default 1, range 0–1, unit —. Acts on intents (R200) -/
def INT_EN : Fam :=
  ⟨"INT_EN", 0x4100, 0x1, 1, 0x1, .bool, .rw, 2, true, [.num 1],
    .nats [(0, 1)]⟩

/-- 4100:02 F32 RW, default 2.0, range 0.5–20, unit ms. Furthest lead accepted (R187) (R200) -/
def INT_HORIZON : Fam :=
  ⟨"INT_HORIZON", 0x4100, 0x1, 1, 0x2, .f32, .rw, 2, true, [.num 0x40000000],
    .rats [(mkRat 1 2, mkRat 20 1)]⟩

/-- 4100:03 F32 RW, default 500, range 100–5000, unit µs. Arming lead (R189) (R200) -/
def INT_T_ARM : Fam :=
  ⟨"INT_T_ARM", 0x4100, 0x1, 1, 0x3, .f32, .rw, 2, true, [.num 0x43fa0000],
    .rats [(mkRat 100 1, mkRat 5000 1)]⟩

/-- 4100:04 F32 RW, default 100, range 20–1000, unit µs. Pre-bias lead (R190) (R200) -/
def INT_T_PB : Fam :=
  ⟨"INT_T_PB", 0x4100, 0x1, 1, 0x4, .f32, .rw, 2, true, [.num 0x42c80000],
    .rats [(mkRat 20 1, mkRat 1000 1)]⟩

/-- 4100:05 F32 RW, default 0.5, range 0–1.0, unit % of SYS_VSET. Pre-bias bound (R200) -/
def INT_PB_MAX : Fam :=
  ⟨"INT_PB_MAX", 0x4100, 0x1, 1, 0x5, .f32, .rw, 2, true, [.num 0x3f000000],
    .rats [(mkRat 0 1, mkRat 1 1)]⟩

/-- 4100:06 F32 RW, default 200, range 50–2000, unit µs. Arrival window (R191) (R200) -/
def INT_WIN : Fam :=
  ⟨"INT_WIN", 0x4100, 0x1, 1, 0x6, .f32, .rw, 2, true, [.num 0x43480000],
    .rats [(mkRat 50 1, mkRat 2000 1)]⟩

/-- 4100:07 F32 RW, default 50, range 20–90, unit % of ΔI_m. Detection level (R200) -/
def INT_DET : Fam :=
  ⟨"INT_DET", 0x4100, 0x1, 1, 0x7, .f32, .rw, 2, true, [.num 0x42480000],
    .rats [(mkRat 20 1, mkRat 90 1)]⟩

/-- 4100:08 F32 RW, default 1.0, range 0.1–20, unit ms. Withdrawal ramp (R192) (R200) -/
def INT_WD_RAMP : Fam :=
  ⟨"INT_WD_RAMP", 0x4100, 0x1, 1, 0x8, .f32, .rw, 2, true, [.num 0x3f800000],
    .rats [(mkRat 1 10, mkRat 20 1)]⟩

/-- 4100:09 U8 RW, default 32, range 0–255, unit —. Lowest confidence acted on (R200) -/
def INT_CMIN : Fam :=
  ⟨"INT_CMIN", 0x4100, 0x1, 1, 0x9, .u8, .rw, 2, true, [.num 32],
    .nats [(0, 255)]⟩

/-- 4100:0A U8 RO, default 0, range 0–8, unit —. Intents pending (R200) -/
def INT_PENDING : Fam :=
  ⟨"INT_PENDING", 0x4100, 0x1, 1, 0xa, .u8, .ro, 2, false, [.num 0],
    .nats [(0, 8)]⟩

/-- 4100:0B TIME64 RO, default 0, range —, unit TB ticks. Earliest pending t_arr, network time (R200) -/
def INT_NEXT_T : Fam :=
  ⟨"INT_NEXT_T", 0x4100, 0x1, 1, 0xb, .time64, .ro, 2, false, [.num 0],
    .any⟩

/-- 4100:0C F32 RO, default 0, range −10–10, unit V. Pre-bias in force (R200) -/
def INT_PB_V : Fam :=
  ⟨"INT_PB_V", 0x4100, 0x1, 1, 0xc, .f32, .ro, 2, false, [.num 0],
    .rats [(mkRat (-10) 1, mkRat 10 1)]⟩

/-- 4100:0D U32 RO, default 0, range 0–0xFFFF_FFFF, unit —. Intents accepted (R200) -/
def INT_RX : Fam :=
  ⟨"INT_RX", 0x4100, 0x1, 1, 0xd, .u32, .ro, 2, false, [.num 0],
    .nats [(0, 4294967295)]⟩

/-- 4100:0E U32 RO, default 0, range 0–0xFFFF_FFFF, unit —. Intents detected (R200) -/
def INT_HIT : Fam :=
  ⟨"INT_HIT", 0x4100, 0x1, 1, 0xe, .u32, .ro, 2, false, [.num 0],
    .nats [(0, 4294967295)]⟩

/-- 4100:0F U32 RO, default 0, range 0–0xFFFF_FFFF, unit —. Intents withdrawn (R200) -/
def INT_MISSED : Fam :=
  ⟨"INT_MISSED", 0x4100, 0x1, 1, 0xf, .u32, .ro, 2, false, [.num 0],
    .nats [(0, 4294967295)]⟩

/-- 4100:10 U32 RO, default 0, range 0–0xFFFF_FFFF, unit —. Received after their window (R200) -/
def INT_LATE : Fam :=
  ⟨"INT_LATE", 0x4100, 0x1, 1, 0x10, .u32, .ro, 2, false, [.num 0],
    .nats [(0, 4294967295)]⟩

/-- 4100:11 U32 RO, default 0, range 0–0xFFFF_FFFF, unit —. Received beyond the horizon (R200) -/
def INT_FAR : Fam :=
  ⟨"INT_FAR", 0x4100, 0x1, 1, 0x11, .u32, .ro, 2, false, [.num 0],
    .nats [(0, 4294967295)]⟩

/-- 4100:12 U32 RO, default 0, range 0–0xFFFF_FFFF, unit —. Displaced or discarded with the list full (R200) -/
def INT_DROPPED : Fam :=
  ⟨"INT_DROPPED", 0x4100, 0x1, 1, 0x12, .u32, .ro, 2, false, [.num 0],
    .nats [(0, 4294967295)]⟩

/-- 4100:13 U32 RO, default 0, range 0–0xFFFF_FFFF, unit —. Discarded by the first check of R187 (R200) -/
def INT_IGNORED : Fam :=
  ⟨"INT_IGNORED", 0x4100, 0x1, 1, 0x13, .u32, .ro, 2, false, [.num 0],
    .nats [(0, 4294967295)]⟩

/-- 5000:01 U8 RW, default 0, range 0–15, unit —. Selected profile (R240) -/
def PROF_SEL : Fam :=
  ⟨"PROF_SEL", 0x5000, 0x1, 1, 0x1, .u8, .rw, 1, true, [.num 0],
    .nats [(0, 15)]⟩

/-- 5000:02 U8 WO, default —, range 1–4, unit —. Command of R213 (R240) -/
def PROF_CMD : Fam :=
  ⟨"PROF_CMD", 0x5000, 0x1, 1, 0x2, .u8, .wo, 1, false, [.num 0],
    .nats [(1, 4)]⟩

/-- 5000:03 BOOL RW, default 0, range 0–1, unit —. Starts on connection (R217) (R240) -/
def PROF_AUTOSTART : Fam :=
  ⟨"PROF_AUTOSTART", 0x5000, 0x1, 1, 0x3, .bool, .rw, 2, true, [.num 0],
    .nats [(0, 1)]⟩

/-- 5000:04 U8 RO, default 0, range 0–3, unit —. 0 IDLE, 1 RUNNING, 2 SUSPENDED, 3 ENDED (R240) -/
def PROF_STATE : Fam :=
  ⟨"PROF_STATE", 0x5000, 0x1, 1, 0x4, .u8, .ro, 2, false, [.num 0],
    .nats [(0, 3)]⟩

/-- 5000:05 U8 RO, default 0xFF, range 0–15, 0xFF, unit —. Running or latest profile. 0xFF: none (R240) -/
def PROF_ACT : Fam :=
  ⟨"PROF_ACT", 0x5000, 0x1, 1, 0x5, .u8, .ro, 2, false, [.num 0xff],
    .nats [(0, 15), (255, 255)]⟩

/-- 5000:06 U8 RO, default 0xFF, range 0–15, 0xFF, unit —. Running step (R240) -/
def STEP_ACT : Fam :=
  ⟨"STEP_ACT", 0x5000, 0x1, 1, 0x6, .u8, .ro, 2, false, [.num 0xff],
    .nats [(0, 15), (255, 255)]⟩

/-- 5000:07 F32 RO, default 0, range 0–3.2e7, unit s. Time in the step (R214) (R240) -/
def STEP_TIME : Fam :=
  ⟨"STEP_TIME", 0x5000, 0x1, 1, 0x7, .f32, .ro, 2, false, [.num 0],
    .rats [(mkRat 0 1, mkRat 32000000 1)]⟩

/-- 5000:08 U16 RO, default 0, range 0–65535, unit —. Step entries since START (R240) -/
def STEP_VISITS : Fam :=
  ⟨"STEP_VISITS", 0x5000, 0x1, 1, 0x8, .u16, .ro, 2, false, [.num 0],
    .nats [(0, 65535)]⟩

/-- 5000:09 U8 RO, default 0, range 0–6, unit —. 0 none, 1–3 exit, 4 T_MAX, 5 SKIP, 6 recovery entry (R240) -/
def STEP_EXIT : Fam :=
  ⟨"STEP_EXIT", 0x5000, 0x1, 1, 0x9, .u8, .ro, 2, false, [.num 0],
    .nats [(0, 6)]⟩

/-- 5000:0A U8 RO, default 0, range 0–3, unit —. Cause of R214. 0: not suspended (R240) -/
def SUSP_CAUSE : Fam :=
  ⟨"SUSP_CAUSE", 0x5000, 0x1, 1, 0xa, .u8, .ro, 2, false, [.num 0],
    .nats [(0, 3)]⟩

/-- 5000:0B U8 RO, default 0, range 0–7, unit —. Result of R216. 0: none (R240) -/
def PROF_RESULT : Fam :=
  ⟨"PROF_RESULT", 0x5000, 0x1, 1, 0xb, .u8, .ro, 2, false, [.num 0],
    .nats [(0, 7)]⟩

/-- 5000:0C F32 RO, default 0, range −200–200, unit A. BAT current reference in force (R240) -/
def CHG_IREF : Fam :=
  ⟨"CHG_IREF", 0x5000, 0x1, 1, 0xc, .f32, .ro, 2, false, [.num 0],
    .rats [(mkRat (-200) 1, mkRat 200 1)]⟩

/-- 5000:0D F32 RO, default 0, range 0–200, unit A. Effective charge limit (R219) (R240) -/
def CHG_ILIM_EFF : Fam :=
  ⟨"CHG_ILIM_EFF", 0x5000, 0x1, 1, 0xd, .f32, .ro, 2, false, [.num 0],
    .rats [(mkRat 0 1, mkRat 200 1)]⟩

/-- 5000:0E F32 RO, default 0, range 0–1000, unit V. Effective voltage ceiling (R240) -/
def CHG_VCEIL_EFF : Fam :=
  ⟨"CHG_VCEIL_EFF", 0x5000, 0x1, 1, 0xe, .f32, .ro, 2, false, [.num 0],
    .rats [(mkRat 0 1, mkRat 1000 1)]⟩

/-- 5000:0F U8 RO, default 0, range 0–7, unit —. Binding term of R219 (R240) -/
def CLAMP_SRC : Fam :=
  ⟨"CLAMP_SRC", 0x5000, 0x1, 1, 0xf, .u8, .ro, 2, false, [.num 0],
    .nats [(0, 7)]⟩

/-- 5000:10 U64 RO, default 0, range 0–0xFFFF_FFFF_FFFF_FFFF, unit mAh. Lifetime charge in (R240) -/
def BAT_AH_IN_LIFE : Fam :=
  ⟨"BAT_AH_IN_LIFE", 0x5000, 0x1, 1, 0x10, .u64, .ro, 2, true, [.num 0],
    .nats [(0, 18446744073709551615)]⟩

/-- 5000:11 U64 RO, default 0, range 0–0xFFFF_FFFF_FFFF_FFFF, unit mAh. Lifetime charge out (R240) -/
def BAT_AH_OUT_LIFE : Fam :=
  ⟨"BAT_AH_OUT_LIFE", 0x5000, 0x1, 1, 0x11, .u64, .ro, 2, true, [.num 0],
    .nats [(0, 18446744073709551615)]⟩

/-- 5000:12 U64 RO, default 0, range 0–0xFFFF_FFFF_FFFF_FFFF, unit Wh. Lifetime energy in (R240) -/
def BAT_WH_IN_LIFE : Fam :=
  ⟨"BAT_WH_IN_LIFE", 0x5000, 0x1, 1, 0x12, .u64, .ro, 2, false, [.num 0],
    .nats [(0, 18446744073709551615)]⟩

/-- 5000:13 U64 RO, default 0, range 0–0xFFFF_FFFF_FFFF_FFFF, unit Wh. Lifetime energy out (R240) -/
def BAT_WH_OUT_LIFE : Fam :=
  ⟨"BAT_WH_OUT_LIFE", 0x5000, 0x1, 1, 0x13, .u64, .ro, 2, false, [.num 0],
    .nats [(0, 18446744073709551615)]⟩

/-- 5100+n:01 STR RWC, default Empty, range 0–16 bytes, unit —. Name (R241) -/
def PROF_NAME : Fam :=
  ⟨"PROF_NAME", 0x5100, 0x1, 16, 0x1, .str, .rwc, 2, true, [.bytes []],
    .len 0 16⟩

/-- 5100+n:02 U8 RWC, default 0, range 0–15, unit —. Step entered at START (R241) -/
def PROF_FIRST : Fam :=
  ⟨"PROF_FIRST", 0x5100, 0x1, 16, 0x2, .u8, .rwc, 2, true, [.num 0],
    .nats [(0, 15)]⟩

/-- 5100+n:03 U8 RWC, default 0xFF, range 0–15, 0xFF, unit —. Recovery step (R229) (R241) -/
def PROF_PRE_STEP : Fam :=
  ⟨"PROF_PRE_STEP", 0x5100, 0x1, 16, 0x3, .u8, .rwc, 2, true, [.num 0xff],
    .nats [(0, 15), (255, 255)]⟩

/-- 5100+n:04 F32 RWC, default 0, range 0, 200–1000, unit V. Voltage ceiling. 0: no charge (R241) -/
def PROF_VCEIL : Fam :=
  ⟨"PROF_VCEIL", 0x5100, 0x1, 16, 0x4, .f32, .rwc, 2, true, [.num 0],
    .rats [(mkRat 0 1, mkRat 0 1), (mkRat 200 1, mkRat 1000 1)]⟩

/-- 5100+n:05 F32 RWC, default 0, range 0, 200–1000, unit V. Discharge floor. 0: none (R241) -/
def PROF_VFLOOR : Fam :=
  ⟨"PROF_VFLOOR", 0x5100, 0x1, 16, 0x5, .f32, .rwc, 2, true, [.num 0],
    .rats [(mkRat 0 1, mkRat 0 1), (mkRat 200 1, mkRat 1000 1)]⟩

/-- 5100+n:06 F32 RWC, default 0, range 0–200, unit A. Charge current bound (R241) -/
def PROF_IMAX : Fam :=
  ⟨"PROF_IMAX", 0x5100, 0x1, 16, 0x6, .f32, .rwc, 2, true, [.num 0],
    .rats [(mkRat 0 1, mkRat 200 1)]⟩

/-- 5100+n:07 F32 RWC, default 0, range −5–0, unit V/K. Temperature compensation (R207) (R241) -/
def PROF_VTC : Fam :=
  ⟨"PROF_VTC", 0x5100, 0x1, 16, 0x7, .f32, .rwc, 2, true, [.num 0],
    .rats [(mkRat (-5) 1, mkRat 0 1)]⟩

/-- 5100+n:08 F32 RWC, default 10, range 0.1–100, unit A/ms. Current reference rate (R241) -/
def PROF_IRAMP : Fam :=
  ⟨"PROF_IRAMP", 0x5100, 0x1, 16, 0x8, .f32, .rwc, 2, true, [.num 0x41200000],
    .rats [(mkRat 1 10, mkRat 100 1)]⟩

/-- 5100+n:09 F32 RWC, default 1.0, range 0.01–10, unit V/ms. Voltage reference rate (R241) -/
def PROF_VRAMP : Fam :=
  ⟨"PROF_VRAMP", 0x5100, 0x1, 16, 0x9, .f32, .rwc, 2, true, [.num 0x3f800000],
    .rats [(mkRat 1 100, mkRat 10 1)]⟩

/-- 5100+n:0A U32 RWC, default 3600, range 0–604800, unit s. Longest suspension that resumes the same step (R241) -/
def PROF_RESUME_T : Fam :=
  ⟨"PROF_RESUME_T", 0x5100, 0x1, 16, 0xa, .u32, .rwc, 2, true, [.num 3600],
    .nats [(0, 604800)]⟩

/-- 5100+n:0B U8 RWC, default 0xFF, range 0–15, 0xFF, unit —. Step after a longer suspension. 0xFF: PROF_FIRST (R241) -/
def PROF_RESUME_STEP : Fam :=
  ⟨"PROF_RESUME_STEP", 0x5100, 0x1, 16, 0xb, .u8, .rwc, 2, true, [.num 0xff],
    .nats [(0, 15), (255, 255)]⟩

/-- 5100+n:0C U16 RWC, default 1000, range 16–65535, unit —. Bound on STEP_VISITS (R241) -/
def PROF_MAXVISITS : Fam :=
  ⟨"PROF_MAXVISITS", 0x5100, 0x1, 16, 0xc, .u16, .rwc, 2, true, [.num 1000],
    .nats [(16, 65535)]⟩

/-- 5100+n:0D U8 RWC, default 0xFF, range 0–15, 0xFF, unit —. Profile started after COMPLETE (R241) -/
def PROF_CHAIN : Fam :=
  ⟨"PROF_CHAIN", 0x5100, 0x1, 16, 0xd, .u8, .rwc, 2, true, [.num 0xff],
    .nats [(0, 15), (255, 255)]⟩

/-- 5100+n:0E BOOL RO, default 0, range 0–1, unit —. Checks of R202 pass (R241) -/
def PROF_VALID : Fam :=
  ⟨"PROF_VALID", 0x5100, 0x1, 16, 0xe, .bool, .ro, 2, false, [.num 0],
    .nats [(0, 1)]⟩

/-- 5100+n:0F U16 RO, default 0x01FF, range Bit map, R202, unit —. First failed check. 0x0000: none (R241) -/
def PROF_ERR : Fam :=
  ⟨"PROF_ERR", 0x5100, 0x1, 16, 0xf, .u16, .ro, 2, false, [.num 0x1ff],
    .mask 0xffff⟩

/-- 5200+0x10·n+s:01 U8 RWC, default 0, range 0–10, unit —. Step kind (R203) (R242) -/
def KIND : Fam :=
  ⟨"KIND", 0x5200, 0x1, 256, 0x1, .u8, .rwc, 2, true, [.num 0],
    .nats [(0, 10)]⟩

/-- 5200+0x10·n+s:02 F32 RWC, default 0, range R203, unit A, V or W. First setpoint (R242) -/
def SP_A : Fam :=
  ⟨"SP_A", 0x5200, 0x1, 256, 0x2, .f32, .rwc, 2, true, [.num 0],
    .rats [(mkRat 0 1, mkRat 90000 1)]⟩

/-- 5200+0x10·n+s:03 F32 RWC, default 0, range R203, unit A. Second current (R242) -/
def SP_B : Fam :=
  ⟨"SP_B", 0x5200, 0x1, 256, 0x3, .f32, .rwc, 2, true, [.num 0],
    .rats [(mkRat 0 1, mkRat 200 1)]⟩

/-- 5200+0x10·n+s:04 F32 RWC, default 0, range 0–86400, unit s. Taper time, or PULSE time at SP_A (R242) -/
def SP_T : Fam :=
  ⟨"SP_T", 0x5200, 0x1, 256, 0x4, .f32, .rwc, 2, true, [.num 0],
    .rats [(mkRat 0 1, mkRat 86400 1)]⟩

/-- 5200+0x10·n+s:05 F32 RWC, default 0, range 0–600, unit s. PULSE time at SP_B (R242) -/
def SP_T2 : Fam :=
  ⟨"SP_T2", 0x5200, 0x1, 256, 0x5, .f32, .rwc, 2, true, [.num 0],
    .rats [(mkRat 0 1, mkRat 600 1)]⟩

/-- 5200+0x10·n+s:06 F32 RWC, default 0, range 0–200, unit A. Current limit (R242) -/
def LIM_I : Fam :=
  ⟨"LIM_I", 0x5200, 0x1, 256, 0x6, .f32, .rwc, 2, true, [.num 0],
    .rats [(mkRat 0 1, mkRat 200 1)]⟩

/-- 5200+0x10·n+s:07 F32 RWC, default 0, range 0, 200–1000, unit V. Voltage ceiling (R242) -/
def LIM_V : Fam :=
  ⟨"LIM_V", 0x5200, 0x1, 256, 0x7, .f32, .rwc, 2, true, [.num 0],
    .rats [(mkRat 0 1, mkRat 0 1), (mkRat 200 1, mkRat 1000 1)]⟩

/-- 5200+0x10·n+s:08 F32 RWC, default 0, range 0–604800, unit s. Step time limit. 0: none (R242) -/
def T_MAX : Fam :=
  ⟨"T_MAX", 0x5200, 0x1, 256, 0x8, .f32, .rwc, 2, true, [.num 0],
    .rats [(mkRat 0 1, mkRat 604800 1)]⟩

/-- 5200+0x10·n+s:09 U8 RWC, default 0xFE, range 0–15, 0xFD, 0xFE, unit —. Next step, or end (R242) -/
def NEXT : Fam :=
  ⟨"NEXT", 0x5200, 0x1, 256, 0x9, .u8, .rwc, 2, true, [.num 0xfe],
    .nats [(0, 15), (253, 253), (254, 254)]⟩

/-- 5200+0x10·n+s:0A U32 RWC, default 0x0000_FF00, range Bit map, R208, unit —. First exit (R242) -/
def EX1 : Fam :=
  ⟨"EX1", 0x5200, 0x1, 256, 0xa, .u32, .rwc, 2, true, [.num 0xff00],
    .mask 0xffffffff⟩

/-- 5200+0x10·n+s:0B F32 RWC, default 0, range R209, unit R209. Its threshold (R242) -/
def EX1_VAL : Fam :=
  ⟨"EX1_VAL", 0x5200, 0x1, 256, 0xb, .f32, .rwc, 2, true, [.num 0],
    .any⟩

/-- 5200+0x10·n+s:0C U32 RWC, default 0x0000_FF00, range Bit map, R208, unit —. Second exit (R242) -/
def EX2 : Fam :=
  ⟨"EX2", 0x5200, 0x1, 256, 0xc, .u32, .rwc, 2, true, [.num 0xff00],
    .mask 0xffffffff⟩

/-- 5200+0x10·n+s:0D F32 RWC, default 0, range R209, unit R209. Its threshold (R242) -/
def EX2_VAL : Fam :=
  ⟨"EX2_VAL", 0x5200, 0x1, 256, 0xd, .f32, .rwc, 2, true, [.num 0],
    .any⟩

/-- 5200+0x10·n+s:0E U32 RWC, default 0x0000_FF00, range Bit map, R208, unit —. Third exit (R242) -/
def EX3 : Fam :=
  ⟨"EX3", 0x5200, 0x1, 256, 0xe, .u32, .rwc, 2, true, [.num 0xff00],
    .mask 0xffffffff⟩

/-- 5200+0x10·n+s:0F F32 RWC, default 0, range R209, unit R209. Its threshold (R242) -/
def EX3_VAL : Fam :=
  ⟨"EX3_VAL", 0x5200, 0x1, 256, 0xf, .f32, .rwc, 2, true, [.num 0],
    .any⟩

/-- 5300+s:01 U16 RO, default 0, range 0–65535, unit —. Entries into step s (R243) -/
def RUN_ENTRIES : Fam :=
  ⟨"RUN_ENTRIES", 0x5300, 0x1, 16, 0x1, .u16, .ro, 2, false, [.num 0],
    .nats [(0, 65535)]⟩

/-- 5300+s:02 F32 RO, default 0, range 0–3.2e7, unit s. STEP_TIME summed over entries (R243) -/
def RUN_T : Fam :=
  ⟨"RUN_T", 0x5300, 0x1, 16, 0x2, .f32, .ro, 2, false, [.num 0],
    .rats [(mkRat 0 1, mkRat 32000000 1)]⟩

/-- 5300+s:03 F32 RO, default 0, range 0–1e6, unit Ah. Charge in (R243) -/
def RUN_AH_IN : Fam :=
  ⟨"RUN_AH_IN", 0x5300, 0x1, 16, 0x3, .f32, .ro, 2, false, [.num 0],
    .rats [(mkRat 0 1, mkRat 1000000 1)]⟩

/-- 5300+s:04 F32 RO, default 0, range 0–1e6, unit Ah. Charge out, including while suspended (R243) -/
def RUN_AH_OUT : Fam :=
  ⟨"RUN_AH_OUT", 0x5300, 0x1, 16, 0x4, .f32, .ro, 2, false, [.num 0],
    .rats [(mkRat 0 1, mkRat 1000000 1)]⟩

/-- 5300+s:05 F32 RO, default 0, range 0–1e9, unit Wh. Energy in (R243) -/
def RUN_WH_IN : Fam :=
  ⟨"RUN_WH_IN", 0x5300, 0x1, 16, 0x5, .f32, .ro, 2, false, [.num 0],
    .rats [(mkRat 0 1, mkRat 1000000000 1)]⟩

/-- 5300+s:06 F32 RO, default 0, range 0–1e9, unit Wh. Energy out (R243) -/
def RUN_WH_OUT : Fam :=
  ⟨"RUN_WH_OUT", 0x5300, 0x1, 16, 0x6, .f32, .ro, 2, false, [.num 0],
    .rats [(mkRat 0 1, mkRat 1000000000 1)]⟩

/-- 5300+s:07 F32 RO, default 0, range 0–3.2e7, unit s. Time under the reduction of R102 (R243) -/
def RUN_SYSPRIO_T : Fam :=
  ⟨"RUN_SYSPRIO_T", 0x5300, 0x1, 16, 0x7, .f32, .ro, 2, false, [.num 0],
    .rats [(mkRat 0 1, mkRat 32000000 1)]⟩

/-- 5300+s:08 F32 RO, default 0, range 0–3.2e7, unit s. Time with CLAMP_SRC 1–6 (R243) -/
def RUN_CLAMP_T : Fam :=
  ⟨"RUN_CLAMP_T", 0x5300, 0x1, 16, 0x8, .f32, .ro, 2, false, [.num 0],
    .rats [(mkRat 0 1, mkRat 32000000 1)]⟩

/-- 5300+s:09 F32 RO, default 0, range 0–3.2e7, unit s. Time with CHG_ILIM_EFF at 0 (R243) -/
def RUN_HELD_T : Fam :=
  ⟨"RUN_HELD_T", 0x5300, 0x1, 16, 0x9, .f32, .ro, 2, false, [.num 0],
    .rats [(mkRat 0 1, mkRat 32000000 1)]⟩

/-- 5300+s:0A F32 RO, default 0, range 0–1000, unit V. V_BAT at the latest exit (R243) -/
def RUN_V_END : Fam :=
  ⟨"RUN_V_END", 0x5300, 0x1, 16, 0xa, .f32, .ro, 2, false, [.num 0],
    .rats [(mkRat 0 1, mkRat 1000 1)]⟩

/-- 5300+s:0B U8 RO, default 0, range 0–6, unit —. STEP_EXIT at the latest exit (R243) -/
def RUN_EXIT : Fam :=
  ⟨"RUN_EXIT", 0x5300, 0x1, 16, 0xb, .u8, .ro, 2, false, [.num 0],
    .nats [(0, 6)]⟩

/-- 5010:01 U8 RWS, default 0, range 0–3, unit —. Source of R222. 0: none (R244) -/
def BMS_SRC : Fam :=
  ⟨"BMS_SRC", 0x5010, 0x1, 1, 0x1, .u8, .rws, 2, true, [.num 0],
    .nats [(0, 3)]⟩

/-- 5010:02 BOOL RW, default 1, range 0–1, unit —. Fresh limits required for BAT (R223) (R244) -/
def BMS_REQ : Fam :=
  ⟨"BMS_REQ", 0x5010, 0x1, 1, 0x2, .bool, .rw, 2, true, [.num 1],
    .nats [(0, 1)]⟩

/-- 5010:03 U16 RW, default 1000, range 100–60000, unit ms. Age at which limits begin to age (R244) -/
def BMS_STALE_T : Fam :=
  ⟨"BMS_STALE_T", 0x5010, 0x1, 1, 0x3, .u16, .rw, 2, true, [.num 1000],
    .nats [(100, 60000)]⟩

/-- 5010:04 U16 RW, default 2000, range 0–60000, unit ms. Length of AGING (R244) -/
def BMS_GRACE_T : Fam :=
  ⟨"BMS_GRACE_T", 0x5010, 0x1, 1, 0x4, .u16, .rw, 2, true, [.num 2000],
    .nats [(0, 60000)]⟩

/-- 5010:05 F32 RW, default 5.0, range 0–200, unit A. Charge limit while aging (R244) -/
def BMS_GRACE_I : Fam :=
  ⟨"BMS_GRACE_I", 0x5010, 0x1, 1, 0x5, .f32, .rw, 2, true, [.num 0x40a00000],
    .rats [(mkRat 0 1, mkRat 200 1)]⟩

/-- 5010:06 F32 RO, default 0, range 0–200, unit A. Charge current limit (R244) -/
def BMS_ICHG : Fam :=
  ⟨"BMS_ICHG", 0x5010, 0x1, 1, 0x6, .f32, .ro, 2, false, [.num 0],
    .rats [(mkRat 0 1, mkRat 200 1)]⟩

/-- 5010:07 F32 RO, default 0, range 0–200, unit A. Discharge current limit (R244) -/
def BMS_IDIS : Fam :=
  ⟨"BMS_IDIS", 0x5010, 0x1, 1, 0x7, .f32, .ro, 2, false, [.num 0],
    .rats [(mkRat 0 1, mkRat 200 1)]⟩

/-- 5010:08 F32 RO, default 0, range 0–1000, unit V. Charge voltage limit (R244) -/
def BMS_VMAX : Fam :=
  ⟨"BMS_VMAX", 0x5010, 0x1, 1, 0x8, .f32, .ro, 2, false, [.num 0],
    .rats [(mkRat 0 1, mkRat 1000 1)]⟩

/-- 5010:09 F32 RO, default 0, range 0–1000, unit V. Discharge voltage limit (R244) -/
def BMS_VMIN : Fam :=
  ⟨"BMS_VMIN", 0x5010, 0x1, 1, 0x9, .f32, .ro, 2, false, [.num 0],
    .rats [(mkRat 0 1, mkRat 1000 1)]⟩

/-- 5010:0A F32 RO, default 0, range 0–100, unit %. State of charge (R244) -/
def BMS_SOC : Fam :=
  ⟨"BMS_SOC", 0x5010, 0x1, 1, 0xa, .f32, .ro, 2, false, [.num 0],
    .rats [(mkRat 0 1, mkRat 100 1)]⟩

/-- 5010:0B U16 RO, default 0x0000, range Bit map, R225, unit —. Battery-management flags (R244) -/
def BMS_FLAGS : Fam :=
  ⟨"BMS_FLAGS", 0x5010, 0x1, 1, 0xb, .u16, .ro, 2, false, [.num 0],
    .mask 0x7f⟩

/-- 5010:0C F32 RO, default 0, range 0–4.3e9, unit ms. Age of the oldest limit (R244) -/
def BMS_AGE : Fam :=
  ⟨"BMS_AGE", 0x5010, 0x1, 1, 0xc, .f32, .ro, 2, false, [.num 0],
    .rats [(mkRat 0 1, mkRat 4300000000 1)]⟩

/-- 5010:0D U8 RO, default 3, range 0–3, unit —. State of R223 (R244) -/
def BMS_FRESH : Fam :=
  ⟨"BMS_FRESH", 0x5010, 0x1, 1, 0xd, .u8, .ro, 2, false, [.num 3],
    .nats [(0, 3)]⟩

/-- 5010:0E U32 RO, default 0, range 0–0xFFFF_FFFF, unit —. Entries into STALE (R244) -/
def BMS_STALE_CNT : Fam :=
  ⟨"BMS_STALE_CNT", 0x5010, 0x1, 1, 0xe, .u32, .ro, 2, false, [.num 0],
    .nats [(0, 4294967295)]⟩

/-- 5010:0F U32 RO, default 0, range 0–0xFFFF_FFFF, unit —. Writes ignored from other sources (R244) -/
def BMS_SRC_REJ : Fam :=
  ⟨"BMS_SRC_REJ", 0x5010, 0x1, 1, 0xf, .u32, .ro, 2, false, [.num 0],
    .nats [(0, 4294967295)]⟩

/-- 5010:10 U8 RW, default 1, range 0–2, unit —. CONT request mode (R227) (R244) -/
def BMS_CONT_MODE : Fam :=
  ⟨"BMS_CONT_MODE", 0x5010, 0x1, 1, 0x10, .u8, .rw, 2, true, [.num 1],
    .nats [(0, 2)]⟩

/-- 5010:11 BOOL RW, default 1, range 0–1, unit —. Enables the wake series (R228) (R244) -/
def BMS_WAKE_EN : Fam :=
  ⟨"BMS_WAKE_EN", 0x5010, 0x1, 1, 0x11, .bool, .rw, 2, true, [.num 1],
    .nats [(0, 1)]⟩

/-- 5010:12 U16 RW, default 5000, range 500–60000, unit ms. Wait per attempt (R244) -/
def BMS_WAKE_T : Fam :=
  ⟨"BMS_WAKE_T", 0x5010, 0x1, 1, 0x12, .u16, .rw, 2, true, [.num 5000],
    .nats [(500, 60000)]⟩

/-- 5010:13 U8 RW, default 3, range 1–10, unit —. Attempts per series (R244) -/
def BMS_WAKE_TRIES : Fam :=
  ⟨"BMS_WAKE_TRIES", 0x5010, 0x1, 1, 0x13, .u8, .rw, 2, true, [.num 3],
    .nats [(1, 10)]⟩

/-- 5010:14 U16 RO, default 0x0000, range Bit map, R226, unit —. Flags published to the battery management. Written by requester 0x4400 only (R218) (R244) -/
def MOD_FLAGS : Fam :=
  ⟨"MOD_FLAGS", 0x5010, 0x1, 1, 0x14, .u16, .ro, 2, false, [.num 0],
    .mask 0x3f⟩

/-- 5020+j:01 BOOL RW, default 0, range 0–1, unit —. Uses input j (R245) -/
def TEMP_EN : Fam :=
  ⟨"TEMP_EN", 0x5020, 0x1, 4, 0x1, .bool, .rw, 2, true, [.num 0],
    .nats [(0, 1)]⟩

/-- 5020+j:02 F32 RO, default 0, range −40–125, unit °C. Filtered reading (R245) -/
def TEMP_VAL : Fam :=
  ⟨"TEMP_VAL", 0x5020, 0x1, 4, 0x2, .f32, .ro, 2, false, [.num 0],
    .rats [(mkRat (-40) 1, mkRat 125 1)]⟩

/-- 5020+j:03 U8 RO, default 0, range 0–3, unit —. 0 disabled, 1 good, 2 open, 3 short (R245) -/
def TEMP_STATE : Fam :=
  ⟨"TEMP_STATE", 0x5020, 0x1, 4, 0x3, .u8, .ro, 2, false, [.num 0],
    .nats [(0, 3)]⟩

/-- 5030:01 F32 RW, default 0, range −40–60, unit °C. f_cold reaches 0 (R245) -/
def TD_COLD_STOP : Fam :=
  ⟨"TD_COLD_STOP", 0x5030, 0x1, 1, 0x1, .f32, .rw, 2, true, [.num 0],
    .rats [(mkRat (-40) 1, mkRat 60 1)]⟩

/-- 5030:02 F32 RW, default 10, range −40–60, unit °C. f_cold reaches 1 (R245) -/
def TD_COLD_FULL : Fam :=
  ⟨"TD_COLD_FULL", 0x5030, 0x1, 1, 0x2, .f32, .rw, 2, true, [.num 0x41200000],
    .rats [(mkRat (-40) 1, mkRat 60 1)]⟩

/-- 5030:03 F32 RW, default 40, range 0–80, unit °C. f_hot starts to fall (R245) -/
def TD_HOT_FULL : Fam :=
  ⟨"TD_HOT_FULL", 0x5030, 0x1, 1, 0x3, .f32, .rw, 2, true, [.num 0x42200000],
    .rats [(mkRat 0 1, mkRat 80 1)]⟩

/-- 5030:04 F32 RW, default 55, range 0–80, unit °C. f_hot reaches 0 (R245) -/
def TD_HOT_STOP : Fam :=
  ⟨"TD_HOT_STOP", 0x5030, 0x1, 1, 0x4, .f32, .rw, 2, true, [.num 0x425c0000],
    .rats [(mkRat 0 1, mkRat 80 1)]⟩

/-- 5030:05 F32 RW, default 0, range 0–1, unit —. Bound on TD_F with a failed input (R245) -/
def TD_FAIL : Fam :=
  ⟨"TD_FAIL", 0x5030, 0x1, 1, 0x5, .f32, .rw, 2, true, [.num 0],
    .rats [(mkRat 0 1, mkRat 1 1)]⟩

/-- 5030:06 F32 RO, default 1, range 0–1, unit —. Factor in force (R232) (R245) -/
def TD_F : Fam :=
  ⟨"TD_F", 0x5030, 0x1, 1, 0x6, .f32, .ro, 2, false, [.num 0x3f800000],
    .rats [(mkRat 0 1, mkRat 1 1)]⟩

/-- 5030:07 F32 RO, default 0, range −40–125, unit °C. Highest good reading (R245) -/
def TD_TEMP_HI : Fam :=
  ⟨"TD_TEMP_HI", 0x5030, 0x1, 1, 0x7, .f32, .ro, 2, false, [.num 0],
    .rats [(mkRat (-40) 1, mkRat 125 1)]⟩

/-- 5030:08 F32 RO, default 0, range −40–125, unit °C. Lowest good reading (R245) -/
def TD_TEMP_LO : Fam :=
  ⟨"TD_TEMP_LO", 0x5030, 0x1, 1, 0x8, .f32, .ro, 2, false, [.num 0],
    .rats [(mkRat (-40) 1, mkRat 125 1)]⟩

/-- 5400:01 F32 RW, default 1.0, range 0.1–1.0, unit % of 200 A. Excitation amplitude, peak (R246) -/
def SCAN_AMP : Fam :=
  ⟨"SCAN_AMP", 0x5400, 0x1, 1, 0x1, .f32, .rw, 2, true, [.num 0x3f800000],
    .rats [(mkRat 1 10, mkRat 1 1)]⟩

/-- 5400:02 F32 RW, default 1, range 0.1–2000, unit Hz. Lowest frequency (R246) -/
def SCAN_FMIN : Fam :=
  ⟨"SCAN_FMIN", 0x5400, 0x1, 1, 0x2, .f32, .rw, 2, true, [.num 0x3f800000],
    .rats [(mkRat 1 10, mkRat 2000 1)]⟩

/-- 5400:03 F32 RW, default 1000, range 0.1–2000, unit Hz. Highest frequency (R246) -/
def SCAN_FMAX : Fam :=
  ⟨"SCAN_FMAX", 0x5400, 0x1, 1, 0x3, .f32, .rw, 2, true, [.num 0x447a0000],
    .rats [(mkRat 1 10, mkRat 2000 1)]⟩

/-- 5400:04 U8 RW, default 5, range 1–20, unit —. Points per decade (R246) -/
def SCAN_PPD : Fam :=
  ⟨"SCAN_PPD", 0x5400, 0x1, 1, 0x4, .u8, .rw, 2, true, [.num 5],
    .nats [(1, 20)]⟩

/-- 5400:05 U8 RW, default 2, range 1–16, unit cycles. Cycles discarded per point (R246) -/
def SCAN_SETTLE : Fam :=
  ⟨"SCAN_SETTLE", 0x5400, 0x1, 1, 0x5, .u8, .rw, 2, true, [.num 2],
    .nats [(1, 16)]⟩

/-- 5400:06 U8 RW, default 8, range 1–64, unit cycles. Cycles integrated per point (R246) -/
def SCAN_CYCLES : Fam :=
  ⟨"SCAN_CYCLES", 0x5400, 0x1, 1, 0x6, .u8, .rw, 2, true, [.num 8],
    .nats [(1, 64)]⟩

/-- 5400:07 U8 RO, default 0, range 0–3, unit —. 0 idle, 1 running, 2 done, 3 aborted. Written as 1 by requester 0x4400 only (R218) (R246) -/
def SCAN_STATE : Fam :=
  ⟨"SCAN_STATE", 0x5400, 0x1, 1, 0x7, .u8, .ro, 2, false, [.num 0],
    .nats [(0, 3)]⟩

/-- 5400:08 U8 RO, default 0, range 0–64, unit —. Points in SCAN_RESULT (R246) -/
def SCAN_NPTS : Fam :=
  ⟨"SCAN_NPTS", 0x5400, 0x1, 1, 0x8, .u8, .ro, 2, false, [.num 0],
    .nats [(0, 64)]⟩

/-- 5400:09 BLOB RO, default Empty, range 0–1056 bytes, unit —. Result of R237 (R246) -/
def SCAN_RESULT : Fam :=
  ⟨"SCAN_RESULT", 0x5400, 0x1, 1, 0x9, .blob, .ro, 2, false, [.bytes []],
    .len 0 1056⟩

/-- 5400:0A TIME64 RO, default 0, range —, unit TB ticks. Start of the latest scan (R246) -/
def SCAN_T : Fam :=
  ⟨"SCAN_T", 0x5400, 0x1, 1, 0xa, .time64, .ro, 2, false, [.num 0],
    .any⟩

/-- 6000:01 U8 RWS, default 1, range 0–2, unit —. 0 SOLO only, 1 member, 2 spare (R274) -/
def SHARE_MODE : Fam :=
  ⟨"SHARE_MODE", 0x6000, 0x1, 1, 0x1, .u8, .rws, 2, true, [.num 1],
    .nats [(0, 2)]⟩

/-- 6000:02 U16 RWS, default 0, range 0–0xFFFF, unit —. Bus segment (R247). 0: alone (R274) -/
def SEG_ID : Fam :=
  ⟨"SEG_ID", 0x6000, 0x1, 1, 0x2, .u16, .rws, 2, true, [.num 0],
    .nats [(0, 65535)]⟩

/-- 6000:03 U8 RO, default 0, range 0–3, unit —. Sharing role, codes of R61 (R274) -/
def SHARE_ROLE : Fam :=
  ⟨"SHARE_ROLE", 0x6000, 0x1, 1, 0x3, .u8, .ro, 2, true, [.num 0],
    .nats [(0, 3)]⟩

/-- 6000:04 U8 RO, default 0xFF, range 0–127, 0xFF, unit —. Role index. 0xFF: none (R274) -/
def SHARE_IDX : Fam :=
  ⟨"SHARE_IDX", 0x6000, 0x1, 1, 0x4, .u8, .ro, 2, true, [.num 0xff],
    .nats [(0, 127), (255, 255)]⟩

/-- 6000:05 U16 RO, default 0, range 0–65535, unit —. Role generation (R264). 0: none (R274) -/
def SHARE_GEN : Fam :=
  ⟨"SHARE_GEN", 0x6000, 0x1, 1, 0x5, .u16, .ro, 2, true, [.num 0],
    .nats [(0, 65535)]⟩

/-- 6000:06 U8 RO, default 0, range 0–128, unit —. Roles in the group, N_g (R274) -/
def SEG_N : Fam :=
  ⟨"SEG_N", 0x6000, 0x1, 1, 0x6, .u8, .ro, 2, false, [.num 0],
    .nats [(0, 128)]⟩

/-- 6000:07 U16 RO, default 0x0000, range Bit map, R275, unit —. Sharing conditions (R274) -/
def SHARE_FLAGS : Fam :=
  ⟨"SHARE_FLAGS", 0x6000, 0x1, 1, 0x7, .u16, .ro, 2, false, [.num 0],
    .mask 0x7f⟩

/-- 6000:08 U8 RO, default 0, range 0–2, unit —. 0 none, 1 newer generation, 2 duplicate role (R274) -/
def FENCE_CAUSE : Fam :=
  ⟨"FENCE_CAUSE", 0x6000, 0x1, 1, 0x8, .u8, .ro, 2, false, [.num 0],
    .nats [(0, 2)]⟩

/-- 6000:09 F32 RW, default 500, range 10–10000, unit ms. Ramp-off when fenced (R270) (R274) -/
def FENCE_RAMP : Fam :=
  ⟨"FENCE_RAMP", 0x6000, 0x1, 1, 0x9, .f32, .rw, 2, true, [.num 0x43fa0000],
    .rats [(mkRat 10 1, mkRat 10000 1)]⟩

/-- 6000:0A U8 WO, default —, range 1, unit —. Re-admission (R272) (R274) -/
def SHARE_READMIT : Fam :=
  ⟨"SHARE_READMIT", 0x6000, 0x1, 1, 0xa, .u8, .wo, 2, false, [.num 0],
    .nats [(1, 1)]⟩

/-- 6000:0B U32 RO, default 0, range 0–0xFFFF_FFFF, unit —. Times fenced (R274) -/
def FENCE_CNT : Fam :=
  ⟨"FENCE_CNT", 0x6000, 0x1, 1, 0xb, .u32, .ro, 2, false, [.num 0],
    .nats [(0, 4294967295)]⟩

/-- 6000:0C BOOL RW, default 1, range 0–1, unit —. Enables interleave (R256) (R274) -/
def IL_EN : Fam :=
  ⟨"IL_EN", 0x6000, 0x1, 1, 0xc, .bool, .rw, 2, false, [.num 1],
    .nats [(0, 1)]⟩

/-- 6000:0D U32 RO, default 0, range 0–50000, unit counts. Stage A offset (R255) (R274) -/
def IL_OFFSET_A : Fam :=
  ⟨"IL_OFFSET_A", 0x6000, 0x1, 1, 0xd, .u32, .ro, 2, false, [.num 0],
    .nats [(0, 50000)]⟩

/-- 6000:0E U32 RO, default 0, range 0–50000, unit counts. Stage B offset (R274) -/
def IL_OFFSET_B : Fam :=
  ⟨"IL_OFFSET_B", 0x6000, 0x1, 1, 0xe, .u32, .ro, 2, false, [.num 0],
    .nats [(0, 50000)]⟩

/-- 6000:0F BOOL RO, default 0, range 0–1, unit —. First responder in the present cycle (R274) -/
def FR_SELF : Fam :=
  ⟨"FR_SELF", 0x6000, 0x1, 1, 0xf, .bool, .ro, 2, false, [.num 0],
    .nats [(0, 1)]⟩

/-- 6000:10 U32 RO, default 0, range 0–0xFFFF_FFFF, unit —. Steps led as first responder (R274) -/
def FR_HEADS : Fam :=
  ⟨"FR_HEADS", 0x6000, 0x1, 1, 0x10, .u32, .ro, 2, false, [.num 0],
    .nats [(0, 4294967295)]⟩

/-- 6010:01 BOOL RW, default 1, range 0–1, unit —. Enables the common trim (R276) -/
def TRIM_EN : Fam :=
  ⟨"TRIM_EN", 0x6010, 0x1, 1, 0x1, .bool, .rw, 2, true, [.num 1],
    .nats [(0, 1)]⟩

/-- 6010:02 F32 RW, default 20, range 1–200, unit 1/s. Integral gain (R252) (R276) -/
def TRIM_KI : Fam :=
  ⟨"TRIM_KI", 0x6010, 0x1, 1, 0x2, .f32, .rw, 2, true, [.num 0x41a00000],
    .rats [(mkRat 1 1, mkRat 200 1)]⟩

/-- 6010:03 F32 RW, default 3.0, range 0–10, unit % of SYS_VSET. Trim bound (R276) -/
def TRIM_MAX : Fam :=
  ⟨"TRIM_MAX", 0x6010, 0x1, 1, 0x3, .f32, .rw, 2, true, [.num 0x40400000],
    .rats [(mkRat 0 1, mkRat 10 1)]⟩

/-- 6010:04 F32 RW, default 1.0, range 0.1–10, unit V/ms. Trim rate (R276) -/
def TRIM_SLEW : Fam :=
  ⟨"TRIM_SLEW", 0x6010, 0x1, 1, 0x4, .f32, .rw, 2, true, [.num 0x3f800000],
    .rats [(mkRat 1 10, mkRat 10 1)]⟩

/-- 6010:05 U16 RW, default 10, range 1–1000, unit ms. Hold without updates (R253) (R276) -/
def TRIM_HOLD : Fam :=
  ⟨"TRIM_HOLD", 0x6010, 0x1, 1, 0x5, .u16, .rw, 2, true, [.num 10],
    .nats [(1, 1000)]⟩

/-- 6020:01 BOOL RW, default 1, range 0–1, unit —. Enables the first-responder limit (R276) -/
def FR_EN : Fam :=
  ⟨"FR_EN", 0x6020, 0x1, 1, 0x1, .bool, .rw, 2, true, [.num 1],
    .nats [(0, 1)]⟩

/-- 6020:02 F32 RW, default 0.3, range 0.1–1.0, unit % of SYS_VSET. Step detection (R258) (R276) -/
def FR_DET : Fam :=
  ⟨"FR_DET", 0x6020, 0x1, 1, 0x2, .f32, .rw, 2, true, [.num 0x3e99999a],
    .rats [(mkRat 1 10, mkRat 1 1)]⟩

/-- 6020:03 F32 RW, default 100, range 20–1000, unit µs. Limit duration (R276) -/
def FR_T : Fam :=
  ⟨"FR_T", 0x6020, 0x1, 1, 0x3, .f32, .rw, 2, true, [.num 0x42c80000],
    .rats [(mkRat 20 1, mkRat 1000 1)]⟩

/-- 6020:04 F32 RW, default 0.5, range 0.05–10, unit A/µs. Demand rate of a non-responder (R276) -/
def FR_SLEW : Fam :=
  ⟨"FR_SLEW", 0x6020, 0x1, 1, 0x4, .f32, .rw, 2, true, [.num 0x3f000000],
    .rats [(mkRat 1 20, mkRat 10 1)]⟩

/-- 6020:05 F32 RW, default 1.0, range 0.3–2.0, unit % of SYS_VSET. Early release (R276) -/
def FR_REL : Fam :=
  ⟨"FR_REL", 0x6020, 0x1, 1, 0x5, .f32, .rw, 2, true, [.num 0x3f800000],
    .rats [(mkRat 3 10, mkRat 2 1)]⟩

/-- 6040:01 U8 RW, default 8, range 3–255, unit cycles. Missed flash responses before dark (R277) -/
def DARK_N : Fam :=
  ⟨"DARK_N", 0x6040, 0x1, 1, 0x1, .u8, .rw, 2, true, [.num 8],
    .nats [(3, 255)]⟩

/-- 6040:02 BOOL RW, default 1, range 0–1, unit —. Permits takeover by spares (R277) -/
def TAKE_EN : Fam :=
  ⟨"TAKE_EN", 0x6040, 0x1, 1, 0x2, .bool, .rw, 2, true, [.num 1],
    .nats [(0, 1)]⟩

/-- 6040:03 U8 RW, default 0xFF, range 0x00–0x06, 0x08, 0x0A, 0xFF, unit —. Ring-wide command (R262). 0xFF: none (R277) -/
def RING_ENV : Fam :=
  ⟨"RING_ENV", 0x6040, 0x1, 1, 0x3, .u8, .rw, 1, false, [.num 0xff],
    .nats [(0, 6), (8, 8), (10, 10), (255, 255)]⟩

/-- 6040:04 U32 WO, default —, range Bit map, unit —. Deletes a dark role (R263) (R277) -/
def ROLE_DROP : Fam :=
  ⟨"ROLE_DROP", 0x6040, 0x1, 1, 0x4, .u32, .wo, 2, false, [.num 0],
    .mask 0x7fffff⟩

/-- 6040:05 U32 RO, default 0, range 0–0xFFFF_FFFF, unit —. Dark declarations (R277) -/
def DARK_CNT : Fam :=
  ⟨"DARK_CNT", 0x6040, 0x1, 1, 0x5, .u32, .ro, 2, false, [.num 0],
    .nats [(0, 4294967295)]⟩

/-- 6040:06 U32 RO, default 0, range 0–0xFFFF_FFFF, unit —. Committed takeovers (R277) -/
def TAKE_CNT : Fam :=
  ⟨"TAKE_CNT", 0x6040, 0x1, 1, 0x6, .u32, .ro, 2, false, [.num 0],
    .nats [(0, 4294967295)]⟩

/-- 6040:07 U32 RO, default 0, range 0–0xFFFF_FFFF, unit —. Intents allocated (R277) -/
def ALLOC_CNT : Fam :=
  ⟨"ALLOC_CNT", 0x6040, 0x1, 1, 0x7, .u32, .ro, 2, false, [.num 0],
    .nats [(0, 4294967295)]⟩

/-- 6040:08 U32 RO, default 0, range 0–0xFFFF_FFFF, unit —. Intents discarded (R259) (R277) -/
def ALLOC_DROP : Fam :=
  ⟨"ALLOC_DROP", 0x6040, 0x1, 1, 0x8, .u32, .ro, 2, false, [.num 0],
    .nats [(0, 4294967295)]⟩

/-- 6040:09 F32 RO, default 0, range 0–1e7, unit W. Unallocated part of the latest intent (R277) -/
def ALLOC_SHORT : Fam :=
  ⟨"ALLOC_SHORT", 0x6040, 0x1, 1, 0x9, .f32, .ro, 2, false, [.num 0],
    .rats [(mkRat 0 1, mkRat 10000000 1)]⟩

/-- 6040:0A U8 RO, default 0, range 0–127, unit —. Depth D of the tree (R277) -/
def FLEET_DEPTH : Fam :=
  ⟨"FLEET_DEPTH", 0x6040, 0x1, 1, 0xa, .u8, .ro, 2, false, [.num 0],
    .nats [(0, 127)]⟩

/-- 6040:0B U8 RO, default 6, range 0–127, unit —. D_int at the present settings (R277) -/
def DEPTH_INT : Fam :=
  ⟨"DEPTH_INT", 0x6040, 0x1, 1, 0xb, .u8, .ro, 2, false, [.num 6],
    .nats [(0, 127)]⟩

/-- 6040:0C BLOB RO, default Empty, range 16–3088 bytes, unit —. Role table (R278) (R277) -/
def RING_TABLE : Fam :=
  ⟨"RING_TABLE", 0x6040, 0x1, 1, 0xc, .blob, .ro, 2, false, [.bytes []],
    .len 16 3088⟩

/-- 7000+0x10·k:01 BOOL RW, default 1, range 0–1, unit —. Port enable (R292) (R307) -/
def PORT_EN : Fam :=
  ⟨"PORT_EN", 0x7000, 0x10, 8, 0x1, .bool, .rw, 1, false, [.num 1],
    .nats [(0, 1)]⟩

/-- 7000+0x10·k:02 U8 RO, default 0, range 0–3, unit —. State of R279 (R307) -/
def PROT_STATE : Fam :=
  ⟨"PROT_STATE", 0x7000, 0x10, 8, 0x2, .u8, .ro, 2, false, [.num 0],
    .nats [(0, 3)]⟩

/-- 7000+0x10·k:03 U8 RO, default 0, range 0–8, unit —. Cause of R280. 0: none (R307) -/
def PROT_CAUSE : Fam :=
  ⟨"PROT_CAUSE", 0x7000, 0x10, 8, 0x3, .u8, .ro, 2, false, [.num 0],
    .nats [(0, 8)]⟩

/-- 7000+0x10·k:04 F32 RWS, default 2.2, range 1.5–3.0, unit × port rating. Fast-trip threshold (R307) -/
def FT_MULT : Fam :=
  ⟨"FT_MULT", 0x7000, 0x10, 8, 0x4, .f32, .rws, 2, true, [.num 0x400ccccd],
    .rats [(mkRat 3 2, mkRat 3 1)]⟩

/-- 7000+0x10·k:05 F32 RO, default As FT_MULT, range 22.5–750, unit A. Threshold in force (R307) -/
def FT_I : Fam :=
  ⟨"FT_I", 0x7000, 0x10, 8, 0x5, .f32, .ro, 2, false, [.num 0x43b00000, .num 0x43b00000, .num 0x43b00000, .num 0x43b00000, .num 0x43dc0000, .num 0x44098000, .num 0x44098000, .num 0x42040000],
    .rats [(mkRat 45 2, mkRat 750 1)]⟩

/-- 7000+0x10·k:06 F32 RW, default 4.6, range 0.5–50, unit s. i²t trip level (R285) (R307) -/
def I2T_K : Fam :=
  ⟨"I2T_K", 0x7000, 0x10, 8, 0x6, .f32, .rw, 2, true, [.num 0x40933333],
    .rats [(mkRat 1 2, mkRat 50 1)]⟩

/-- 7000+0x10·k:07 F32 RW, default 60, range 5–3600, unit s. Cooling time constant (R307) -/
def I2T_TAU : Fam :=
  ⟨"I2T_TAU", 0x7000, 0x10, 8, 0x7, .f32, .rw, 2, true, [.num 0x42700000],
    .rats [(mkRat 5 1, mkRat 3600 1)]⟩

/-- 7000+0x10·k:08 F32 RW, default 80, range 50–95, unit % of I2T_K. LIMIT level (R307) -/
def I2T_WARN : Fam :=
  ⟨"I2T_WARN", 0x7000, 0x10, 8, 0x8, .f32, .rw, 2, true, [.num 0x42a00000],
    .rats [(mkRat 50 1, mkRat 95 1)]⟩

/-- 7000+0x10·k:09 F32 RW, default 20, range 5–80, unit % of I2T_K. Automatic clear level (R307) -/
def I2T_RESET : Fam :=
  ⟨"I2T_RESET", 0x7000, 0x10, 8, 0x9, .f32, .rw, 2, true, [.num 0x41a00000],
    .rats [(mkRat 5 1, mkRat 80 1)]⟩

/-- 7000+0x10·k:0A F32 RO, default 0, range 0–100, unit % of I2T_K. Heat state (R307) -/
def I2T_STATE : Fam :=
  ⟨"I2T_STATE", 0x7000, 0x10, 8, 0xa, .f32, .ro, 2, false, [.num 0],
    .rats [(mkRat 0 1, mkRat 100 1)]⟩

/-- 7000+0x10·k:0B U8 RW, default 3, range 1–10, unit —. Trips that latch (R294) (R307) -/
def PROT_LATCH_N : Fam :=
  ⟨"PROT_LATCH_N", 0x7000, 0x10, 8, 0xb, .u8, .rw, 2, true, [.num 3],
    .nats [(1, 10)]⟩

/-- 7000+0x10·k:0C U16 RW, default 600, range 10–65535, unit s. Window for PROT_LATCH_N (R307) -/
def PROT_LATCH_W : Fam :=
  ⟨"PROT_LATCH_W", 0x7000, 0x10, 8, 0xc, .u16, .rw, 2, true, [.num 600],
    .nats [(10, 65535)]⟩

/-- 7000+0x10·k:0D U32 RO, default 0, range 0–0xFFFF_FFFF, unit —. Entries to TRIPPED and LATCHED (R307) -/
def TRIP_CNT : Fam :=
  ⟨"TRIP_CNT", 0x7000, 0x10, 8, 0xd, .u32, .ro, 2, false, [.num 0],
    .nats [(0, 4294967295)]⟩

/-- 7000+0x10·k:0E F32 RO, default 0, range −750–750, unit A. Port current at the latest trip (R307) -/
def TRIP_I : Fam :=
  ⟨"TRIP_I", 0x7000, 0x10, 8, 0xe, .f32, .ro, 2, false, [.num 0],
    .rats [(mkRat (-750) 1, mkRat 750 1)]⟩

/-- 7000+0x10·k:0F F32 RO, default 0, range −40–200, unit °C. Switch temperature (R307) -/
def SW_TEMP : Fam :=
  ⟨"SW_TEMP", 0x7000, 0x10, 8, 0xf, .f32, .ro, 2, false, [.num 0],
    .rats [(mkRat (-40) 1, mkRat 200 1)]⟩

/-- 7080:01 BOOL RWS, default 1, range 0–1, unit —. Acts on ESTOP (R297) (R308) -/
def ESTOP_EN : Fam :=
  ⟨"ESTOP_EN", 0x7080, 0x1, 1, 0x1, .bool, .rws, 3, true, [.num 1],
    .nats [(0, 1)]⟩

/-- 7080:02 U8 RO, default 0, range 0–3, unit —. 0 closed, 1 open, 2 disabled, 3 test failed (R308) -/
def ESTOP_STATE : Fam :=
  ⟨"ESTOP_STATE", 0x7080, 0x1, 1, 0x2, .u8, .ro, 2, false, [.num 0],
    .nats [(0, 3)]⟩

/-- 7080:03 BOOL RW, default 1, range 0–1, unit —. Drops CONT on ESTOP (R308) -/
def ESTOP_CONT : Fam :=
  ⟨"ESTOP_CONT", 0x7080, 0x1, 1, 0x3, .bool, .rw, 2, true, [.num 1],
    .nats [(0, 1)]⟩

/-- 7080:04 BOOL RW, default 1, range 0–1, unit —. Opens ILKO on ESTOP (R308) -/
def ESTOP_ILKO : Fam :=
  ⟨"ESTOP_ILKO", 0x7080, 0x1, 1, 0x4, .bool, .rw, 2, true, [.num 1],
    .nats [(0, 1)]⟩

/-- 7080:05 BOOL RWS, default 0, range 0–1, unit —. Acts on ILKI (R298) (R308) -/
def ILK_EN : Fam :=
  ⟨"ILK_EN", 0x7080, 0x1, 1, 0x5, .bool, .rws, 2, true, [.num 0],
    .nats [(0, 1)]⟩

/-- 7080:06 U8 RO, default 0, range 0–2, unit —. 0 closed, 1 open, 2 disabled (R308) -/
def ILK_STATE : Fam :=
  ⟨"ILK_STATE", 0x7080, 0x1, 1, 0x6, .u8, .ro, 2, false, [.num 0],
    .nats [(0, 2)]⟩

/-- 7080:07 F32 RW, default 1.0, range 0.1–10, unit ms. Opening filter (R308) -/
def ILK_FILT : Fam :=
  ⟨"ILK_FILT", 0x7080, 0x1, 1, 0x7, .f32, .rw, 2, true, [.num 0x3f800000],
    .rats [(mkRat 1 10, mkRat 10 1)]⟩

/-- 7080:08 BOOL RW, default 0, range 0–1, unit —. Drops CONT on an open interlock (R308) -/
def ILK_CONT : Fam :=
  ⟨"ILK_CONT", 0x7080, 0x1, 1, 0x8, .bool, .rw, 2, true, [.num 0],
    .nats [(0, 1)]⟩

/-- 7080:09 BOOL RW, default 0, range 0–1, unit —. Holds ILKO open (R308) -/
def ILK_OPEN_REQ : Fam :=
  ⟨"ILK_OPEN_REQ", 0x7080, 0x1, 1, 0x9, .bool, .rw, 1, false, [.num 0],
    .nats [(0, 1)]⟩

/-- 7080:0A BOOL RO, default 0, range 0–1, unit —. 1: ILKO conducting (R308) -/
def ILKO_STATE : Fam :=
  ⟨"ILKO_STATE", 0x7080, 0x1, 1, 0xa, .bool, .ro, 2, false, [.num 0],
    .nats [(0, 1)]⟩

/-- 7080:0B U16 RO, default 0x0000, range Bit map, R309, unit —. Causes of R296 in force (R308) -/
def SAFE_FORCE_SRC : Fam :=
  ⟨"SAFE_FORCE_SRC", 0x7080, 0x1, 1, 0xb, .u16, .ro, 2, false, [.num 0],
    .mask 0x1f⟩

/-- 7090:01 U8 RO, default 0, range 0–4, unit —. 0 off, 1 pull-in, 2 hold, 3 open load, 4 overcurrent (R308) -/
def CONT_STATE : Fam :=
  ⟨"CONT_STATE", 0x7090, 0x1, 1, 0x1, .u8, .ro, 2, false, [.num 0],
    .nats [(0, 4)]⟩

/-- 7090:02 U16 RW, default 200, range 50–200, unit ms. Pull-in time (R308) -/
def CONT_PULL : Fam :=
  ⟨"CONT_PULL", 0x7090, 0x1, 1, 0x2, .u16, .rw, 2, true, [.num 200],
    .nats [(50, 200)]⟩

/-- 7090:03 F32 RW, default 100, range 30–100, unit %. Hold duty (R308) -/
def CONT_HOLD : Fam :=
  ⟨"CONT_HOLD", 0x7090, 0x1, 1, 0x3, .f32, .rw, 2, true, [.num 0x42c80000],
    .rats [(mkRat 30 1, mkRat 100 1)]⟩

/-- 7090:04 F32 RO, default 0, range 0–12, unit A. Coil current (R308) -/
def CONT_I : Fam :=
  ⟨"CONT_I", 0x7090, 0x1, 1, 0x4, .f32, .ro, 2, false, [.num 0],
    .rats [(mkRat 0 1, mkRat 12 1)]⟩

/-- 7090:05 U32 RO, default 0, range 0–0xFFFF_FFFF, unit —. Overcurrent shutdowns (R308) -/
def CONT_OC_CNT : Fam :=
  ⟨"CONT_OC_CNT", 0x7090, 0x1, 1, 0x5, .u32, .ro, 2, false, [.num 0],
    .nats [(0, 4294967295)]⟩

/-- 70A0:01 F32 RW, default 5.0, range 1.5–8.0, unit % of SYS_VSET. SYS overvoltage offset (R288) (R310) -/
def OVP_DV : Fam :=
  ⟨"OVP_DV", 0x70a0, 0x1, 1, 0x1, .f32, .rw, 2, true, [.num 0x40a00000],
    .rats [(mkRat 3 2, mkRat 8 1)]⟩

/-- 70A0:02 F32 RW, default 50, range 10–1000, unit µs. SYS overvoltage time (R310) -/
def OVP_T : Fam :=
  ⟨"OVP_T", 0x70a0, 0x1, 1, 0x2, .f32, .rw, 2, true, [.num 0x42480000],
    .rats [(mkRat 10 1, mkRat 1000 1)]⟩

/-- 70A0:03 F32 RWS, default 1080, range 1075–1090, unit V. BRK clamp threshold (R289) (R310) -/
def CLAMP_V : Fam :=
  ⟨"CLAMP_V", 0x70a0, 0x1, 1, 0x3, .f32, .rws, 2, true, [.num 0x44870000],
    .rats [(mkRat 1075 1, mkRat 1090 1)]⟩

/-- 70A0:04 U32 RO, default 0, range 0–0xFFFF_FFFF, unit —. Clamp actions (R310) -/
def CLAMP_CNT : Fam :=
  ⟨"CLAMP_CNT", 0x70a0, 0x1, 1, 0x4, .u32, .ro, 2, false, [.num 0],
    .nats [(0, 4294967295)]⟩

/-- 70A0:05 F32 RO, default 0, range 0–1e9, unit J. Clamp energy since start-up (R310) -/
def CLAMP_E : Fam :=
  ⟨"CLAMP_E", 0x70a0, 0x1, 1, 0x5, .f32, .ro, 2, false, [.num 0],
    .rats [(mkRat 0 1, mkRat 1000000000 1)]⟩

/-- 70A0:06 U32 RO, default 0, range 0–0xFFFF_FFFF, unit —. Link overvoltage responses (R290) (R310) -/
def LINK_OV_CNT : Fam :=
  ⟨"LINK_OV_CNT", 0x70a0, 0x1, 1, 0x6, .u32, .ro, 2, false, [.num 0],
    .nats [(0, 4294967295)]⟩

/-- 70A0:07 F32 RW, default 95, range 80–100, unit °C. Heat-sink derating start (R291) (R310) -/
def HS_DERATE : Fam :=
  ⟨"HS_DERATE", 0x70a0, 0x1, 1, 0x7, .f32, .rw, 2, true, [.num 0x42be0000],
    .rats [(mkRat 80 1, mkRat 100 1)]⟩

/-- 70A0:08 F32 RW, default 110, range 100–115, unit °C. Heat-sink limit reaches 0 (R310) -/
def HS_STOP : Fam :=
  ⟨"HS_STOP", 0x70a0, 0x1, 1, 0x8, .f32, .rw, 2, true, [.num 0x42dc0000],
    .rats [(mkRat 100 1, mkRat 115 1)]⟩

/-- 70B0:01 BOOL RWS, default 0, range 0–1, unit —. Enables the monitor (R310) -/
def IMD_EN : Fam :=
  ⟨"IMD_EN", 0x70b0, 0x1, 1, 0x1, .bool, .rws, 2, true, [.num 0],
    .nats [(0, 1)]⟩

/-- 70B0:02 U16 RWS, default 0, range 0–0xFFFF, unit —. Galvanic system (R301). 0: alone (R310) -/
def IMD_GSYS : Fam :=
  ⟨"IMD_GSYS", 0x70b0, 0x1, 1, 0x2, .u16, .rws, 2, true, [.num 0],
    .nats [(0, 65535)]⟩

/-- 70B0:03 U8 RO, default 0, range 0–3, unit —. 0 passive, 1 injecting, 2 candidate, 3 conflict (R310) -/
def IMD_ROLE : Fam :=
  ⟨"IMD_ROLE", 0x70b0, 0x1, 1, 0x3, .u8, .ro, 2, false, [.num 0],
    .nats [(0, 3)]⟩

/-- 70B0:04 U8 RO, default 0, range 0–4, unit —. 0 off, 1 good, 2 warning, 3 alarm, 4 settling (R310) -/
def IMD_STATE : Fam :=
  ⟨"IMD_STATE", 0x70b0, 0x1, 1, 0x4, .u8, .ro, 2, false, [.num 0],
    .nats [(0, 4)]⟩

/-- 70B0:05 F32 RO, default 0, range 0–10000, unit kΩ. Insulation resistance (R310) -/
def IMD_RISO : Fam :=
  ⟨"IMD_RISO", 0x70b0, 0x1, 1, 0x5, .f32, .ro, 2, false, [.num 0],
    .rats [(mkRat 0 1, mkRat 10000 1)]⟩

/-- 70B0:06 F32 RO, default 0, range 0–100, unit %. Fault position (R301) (R310) -/
def IMD_POLE : Fam :=
  ⟨"IMD_POLE", 0x70b0, 0x1, 1, 0x6, .f32, .ro, 2, false, [.num 0],
    .rats [(mkRat 0 1, mkRat 100 1)]⟩

/-- 70B0:07 F32 RO, default 0, range 0–200, unit µF. System capacitance (R310) -/
def IMD_CSYS : Fam :=
  ⟨"IMD_CSYS", 0x70b0, 0x1, 1, 0x7, .f32, .ro, 2, false, [.num 0],
    .rats [(mkRat 0 1, mkRat 200 1)]⟩

/-- 70B0:08 F32 RW, default 300, range 10–10000, unit kΩ. Warning level (R310) -/
def IMD_WARN : Fam :=
  ⟨"IMD_WARN", 0x70b0, 0x1, 1, 0x8, .f32, .rw, 2, true, [.num 0x43960000],
    .rats [(mkRat 10 1, mkRat 10000 1)]⟩

/-- 70B0:09 F32 RW, default 100, range 10–10000, unit kΩ. Alarm level (R310) -/
def IMD_ALARM : Fam :=
  ⟨"IMD_ALARM", 0x70b0, 0x1, 1, 0x9, .f32, .rw, 2, true, [.num 0x42c80000],
    .rats [(mkRat 10 1, mkRat 10000 1)]⟩

/-- 70B0:0A F32 RW, default 4, range 1–60, unit s. Injection period (R310) -/
def IMD_PERIOD : Fam :=
  ⟨"IMD_PERIOD", 0x70b0, 0x1, 1, 0xa, .f32, .rw, 2, true, [.num 0x40800000],
    .rats [(mkRat 1 1, mkRat 60 1)]⟩

/-- 70B0:0B U8 RW, default 0, range 0–2, unit —. Fault raised on alarm (R304) (R310) -/
def IMD_ACTION : Fam :=
  ⟨"IMD_ACTION", 0x70b0, 0x1, 1, 0xb, .u8, .rw, 2, true, [.num 0],
    .nats [(0, 2)]⟩

/-- 8000:01 U32 RW, default 100, range 1–60000, unit ms. Short window (R315) (R336) -/
def TEL_WIN1 : Fam :=
  ⟨"TEL_WIN1", 0x8000, 0x1, 1, 0x1, .u32, .rw, 2, true, [.num 100],
    .nats [(1, 60000)]⟩

/-- 8000:02 U32 RW, default 10000, range 1000–3600000, unit ms. Long window (R336) -/
def TEL_WIN2 : Fam :=
  ⟨"TEL_WIN2", 0x8000, 0x1, 1, 0x2, .u32, .rw, 2, true, [.num 10000],
    .nats [(1000, 3600000)]⟩

/-- 8000:03 U16 RW, default 20, range 1–2000, unit samples. Peak averaging (R316) (R336) -/
def PK_AVG : Fam :=
  ⟨"PK_AVG", 0x8000, 0x1, 1, 0x3, .u16, .rw, 2, true, [.num 20],
    .nats [(1, 2000)]⟩

/-- 8000:04 F32 RO, default 0, range −40–125, unit °C. Coolant inlet (R336) -/
def COOL_IN : Fam :=
  ⟨"COOL_IN", 0x8000, 0x1, 1, 0x4, .f32, .ro, 2, false, [.num 0],
    .rats [(mkRat (-40) 1, mkRat 125 1)]⟩

/-- 8000:05 F32 RO, default 0, range −40–125, unit °C. Coolant outlet (R336) -/
def COOL_OUT : Fam :=
  ⟨"COOL_OUT", 0x8000, 0x1, 1, 0x5, .f32, .ro, 2, false, [.num 0],
    .rats [(mkRat (-40) 1, mkRat 125 1)]⟩

/-- 8000:06 F32 RO, default 1, range 0–1, unit —. Lower of the two stages' F in force (R56) (R336) -/
def DERATE_F : Fam :=
  ⟨"DERATE_F", 0x8000, 0x1, 1, 0x6, .f32, .ro, 2, false, [.num 0x3f800000],
    .rats [(mkRat 0 1, mkRat 1 1)]⟩

/-- 8000:07 F32 RO, default 0, range 0–2.5, unit J. Stored hold-up energy (R59) (R336) -/
def HOLDUP_E : Fam :=
  ⟨"HOLDUP_E", 0x8000, 0x1, 1, 0x7, .f32, .ro, 2, false, [.num 0],
    .rats [(mkRat 0 1, mkRat 5 2)]⟩

/-- 8000:08 F32 RO, default 0, range 0–12, unit W. Control-complex power (R336) -/
def CC_P : Fam :=
  ⟨"CC_P", 0x8000, 0x1, 1, 0x8, .f32, .ro, 2, false, [.num 0],
    .rats [(mkRat 0 1, mkRat 12 1)]⟩

/-- 8000:09 U16 RO, default 0x0000, range Bit per channel, unit —. Saturated in the latest TEL_WIN1 (R336) -/
def CH_SAT : Fam :=
  ⟨"CH_SAT", 0x8000, 0x1, 1, 0x9, .u16, .ro, 2, false, [.num 0],
    .any⟩

/-- 8000:0A U16 RO, default 0x0000, range Bit per channel, unit —. Range-check failure in force (R336) -/
def CH_INVALID : Fam :=
  ⟨"CH_INVALID", 0x8000, 0x1, 1, 0xa, .u16, .ro, 2, false, [.num 0],
    .any⟩

/-- 8010:01 BLOB RO, default —, range 52 bytes, unit —. Step record. A read clears (R317) (R336) -/
def STEP_SNAP : Fam :=
  ⟨"STEP_SNAP", 0x8010, 0x1, 1, 0x1, .blob, .ro, 2, false, [.bytes []],
    .len 52 52⟩

/-- 8010:02 BLOB RO, default —, range 52 bytes, unit —. Latest returned step record (R336) -/
def STEP_LAST : Fam :=
  ⟨"STEP_LAST", 0x8010, 0x1, 1, 0x2, .blob, .ro, 2, false, [.bytes (List.replicate 52 0)],
    .len 52 52⟩

/-- 8100+0x10·k:01 F32 RO, default 0, range R311, unit V, A, W. Means over TEL_WIN1 (R336) -/
def TEL_V : Fam :=
  ⟨"TEL_V", 0x8100, 0x10, 8, 0x1, .f32, .ro, 2, false, [.num 0],
    .any⟩

/-- 8100+0x10·k:02 F32 RO, default 0, range R311, unit V, A, W. Means over TEL_WIN1 (R336) -/
def TEL_I : Fam :=
  ⟨"TEL_I", 0x8100, 0x10, 8, 0x2, .f32, .ro, 2, false, [.num 0],
    .any⟩

/-- 8100+0x10·k:03 F32 RO, default 0, range R311, unit V, A, W. Means over TEL_WIN1 (R336) -/
def TEL_P : Fam :=
  ⟨"TEL_P", 0x8100, 0x10, 8, 0x3, .f32, .ro, 2, false, [.num 0],
    .any⟩

/-- 8100+0x10·k:04 F32 RO, default 0, range R311, unit V, A, W. Means over TEL_WIN2 (R336) -/
def TEL_V2 : Fam :=
  ⟨"TEL_V2", 0x8100, 0x10, 8, 0x4, .f32, .ro, 2, false, [.num 0],
    .any⟩

/-- 8100+0x10·k:05 F32 RO, default 0, range R311, unit V, A, W. Means over TEL_WIN2 (R336) -/
def TEL_I2 : Fam :=
  ⟨"TEL_I2", 0x8100, 0x10, 8, 0x5, .f32, .ro, 2, false, [.num 0],
    .any⟩

/-- 8100+0x10·k:06 F32 RO, default 0, range R311, unit V, A, W. Means over TEL_WIN2 (R336) -/
def TEL_P2 : Fam :=
  ⟨"TEL_P2", 0x8100, 0x10, 8, 0x6, .f32, .ro, 2, false, [.num 0],
    .any⟩

/-- 8100+0x10·k:07 BLOB RO, default —, range 88 bytes, unit —. Peaks. A read clears (R316) (R336) -/
def PK_SNAP : Fam :=
  ⟨"PK_SNAP", 0x8100, 0x10, 8, 0x7, .blob, .ro, 2, false, [.bytes []],
    .len 88 88⟩

/-- 8100+0x10·k:08 BLOB RO, default —, range 88 bytes, unit —. Latest returned peaks (R336) -/
def PK_LAST : Fam :=
  ⟨"PK_LAST", 0x8100, 0x10, 8, 0x8, .blob, .ro, 2, false, [.bytes (List.replicate 88 0)],
    .len 88 88⟩

/-- 8100+0x10·k:09 U64 RO, default 0, range 0–0xFFFF_FFFF_FFFF_FFFF, unit mWh. Positive energy (R318) (R336) -/
def E_POS : Fam :=
  ⟨"E_POS", 0x8100, 0x10, 8, 0x9, .u64, .ro, 2, true, [.num 0],
    .nats [(0, 18446744073709551615)]⟩

/-- 8100+0x10·k:0A U64 RO, default 0, range 0–0xFFFF_FFFF_FFFF_FFFF, unit mWh. Negative energy (R336) -/
def E_NEG : Fam :=
  ⟨"E_NEG", 0x8100, 0x10, 8, 0xa, .u64, .ro, 2, true, [.num 0],
    .nats [(0, 18446744073709551615)]⟩

/-- 8100+0x10·k:0B F32 RO, default 0, range −5–5, unit A. Current offset in force (R313) (R336) -/
def I_ZERO : Fam :=
  ⟨"I_ZERO", 0x8100, 0x10, 8, 0xb, .f32, .ro, 2, false, [.num 0],
    .rats [(mkRat (-5) 1, mkRat 5 1)]⟩

/-- 8200+0x10·p:01 F32 RO, default 0, range −70–70, unit A. Mean of PH_I over TEL_WIN1 (R336) -/
def PHT_I : Fam :=
  ⟨"PHT_I", 0x8200, 0x10, 16, 0x1, .f32, .ro, 2, false, [.num 0],
    .rats [(mkRat (-70) 1, mkRat 70 1)]⟩

/-- 8200+0x10·p:02 F32 RO, default 0, range 0–70, unit A. RMS of PH_I over TEL_WIN1 (R336) -/
def PHT_IRMS : Fam :=
  ⟨"PHT_IRMS", 0x8200, 0x10, 16, 0x2, .f32, .ro, 2, false, [.num 0],
    .rats [(mkRat 0 1, mkRat 70 1)]⟩

/-- 8200+0x10·p:03 BLOB RO, default —, range 16 bytes, unit —. Phase extremes. A read clears (R336) -/
def PHT_SNAP : Fam :=
  ⟨"PHT_SNAP", 0x8200, 0x10, 16, 0x3, .blob, .ro, 2, false, [.bytes []],
    .len 16 16⟩

/-- 8400:01 U16 RW, default 0xFFFF, range 0x0001–0xFFFF, unit —. Channels captured (R336) -/
def CAP_MASK : Fam :=
  ⟨"CAP_MASK", 0x8400, 0x1, 1, 0x1, .u16, .rw, 2, true, [.num 0xffff],
    .nats [(1, 65535)]⟩

/-- 8400:02 U16 RW, default 1, range 1–1000, unit samples. Decimation (R319) (R336) -/
def CAP_DEC : Fam :=
  ⟨"CAP_DEC", 0x8400, 0x1, 1, 0x2, .u16, .rw, 2, true, [.num 1],
    .nats [(1, 1000)]⟩

/-- 8400:03 F32 RW, default 25, range 0–100, unit % of CAP_LEN. Pre-trigger share (R336) -/
def CAP_PRE : Fam :=
  ⟨"CAP_PRE", 0x8400, 0x1, 1, 0x3, .f32, .rw, 2, true, [.num 0x41c80000],
    .rats [(mkRat 0 1, mkRat 100 1)]⟩

/-- 8400:04 U16 RW, default 0x0018, range Bit map, R320, unit —. Triggers enabled (R336) -/
def CAP_TRIG_SRC : Fam :=
  ⟨"CAP_TRIG_SRC", 0x8400, 0x1, 1, 0x4, .u16, .rw, 2, true, [.num 0x18],
    .mask 0x7ff⟩

/-- 8400:05 U8 RW, default 10, range 0–15, unit —. Level-trigger channel (R336) -/
def CAP_LVL_CH : Fam :=
  ⟨"CAP_LVL_CH", 0x8400, 0x1, 1, 0x5, .u8, .rw, 2, true, [.num 10],
    .nats [(0, 15)]⟩

/-- 8400:06 F32 RW, default 1050, range Channel full scale, unit V or A. Rising level (R336) -/
def CAP_LVL_HI : Fam :=
  ⟨"CAP_LVL_HI", 0x8400, 0x1, 1, 0x6, .f32, .rw, 2, true, [.num 0x44834000],
    .any⟩

/-- 8400:07 F32 RW, default 0, range Channel full scale, unit V or A. Falling level (R336) -/
def CAP_LVL_LO : Fam :=
  ⟨"CAP_LVL_LO", 0x8400, 0x1, 1, 0x7, .f32, .rw, 2, true, [.num 0],
    .any⟩

/-- 8400:08 U8 RW, default 0, range 0–31, unit —. Compare channel c (R336) -/
def CAP_CMP : Fam :=
  ⟨"CAP_CMP", 0x8400, 0x1, 1, 0x8, .u8, .rw, 2, true, [.num 0],
    .nats [(0, 31)]⟩

/-- 8400:09 F32 RW, default 2.0, range 0.5–10, unit % of SYS_VSET. Dip trigger (R336) -/
def CAP_DIP : Fam :=
  ⟨"CAP_DIP", 0x8400, 0x1, 1, 0x9, .f32, .rw, 2, true, [.num 0x40000000],
    .rats [(mkRat 1 2, mkRat 10 1)]⟩

/-- 8400:0A BOOL RW, default 0, range 0–1, unit —. Sends network triggers (R322) (R336) -/
def CAP_NET_TX : Fam :=
  ⟨"CAP_NET_TX", 0x8400, 0x1, 1, 0xa, .bool, .rw, 2, true, [.num 0],
    .nats [(0, 1)]⟩

/-- 8400:0B U8 WO, default —, range 1–4, unit —. 1 ARM, 2 TRIGGER, 3 STREAM_A, 4 ABORT (R336) -/
def CAP_CMD : Fam :=
  ⟨"CAP_CMD", 0x8400, 0x1, 1, 0xb, .u8, .wo, 2, false, [.num 0],
    .nats [(1, 4)]⟩

/-- 8400:0C U8 RO, default 0, range 0–5, unit —. State of R321 (R336) -/
def CAP_STATE : Fam :=
  ⟨"CAP_STATE", 0x8400, 0x1, 1, 0xc, .u8, .ro, 2, false, [.num 0],
    .nats [(0, 5)]⟩

/-- 8400:0D U32 RO, default 0, range 0–0xFFFF_FFFF, unit —. Captures triggered (R336) -/
def CAP_NUM : Fam :=
  ⟨"CAP_NUM", 0x8400, 0x1, 1, 0xd, .u32, .ro, 2, false, [.num 0],
    .nats [(0, 4294967295)]⟩

/-- 8400:0E TIME64 RO, default 0, range —, unit TB ticks. Trigger sample (R336) -/
def CAP_TRIG_T : Fam :=
  ⟨"CAP_TRIG_T", 0x8400, 0x1, 1, 0xe, .time64, .ro, 2, false, [.num 0],
    .any⟩

/-- 8400:0F U16 RO, default 0x0000, range Bit map, R320, unit —. Bits that fired (R336) -/
def CAP_TRIG_CAUSE : Fam :=
  ⟨"CAP_TRIG_CAUSE", 0x8400, 0x1, 1, 0xf, .u16, .ro, 2, false, [.num 0],
    .mask 0x7ff⟩

/-- 8400:10 U8 RO, default 0, range Bit map, unit —. [0] SHORT_PRE, [1] LATE_TRIG, [2] invalid samples held (R336) -/
def CAP_FLAGS : Fam :=
  ⟨"CAP_FLAGS", 0x8400, 0x1, 1, 0x10, .u8, .ro, 2, false, [.num 0],
    .mask 0x7⟩

/-- 8400:11 U32 RO, default 131072, range 131072–2097152, unit samples. Length per channel (R336) -/
def CAP_LEN : Fam :=
  ⟨"CAP_LEN", 0x8400, 0x1, 1, 0x11, .u32, .ro, 2, false, [.num 131072],
    .nats [(131072, 2097152)]⟩

/-- 8400:12 U32 RO, default 0, range 0–0xFFFF_FFFF, unit —. Triggers ignored (R336) -/
def CAP_TRIG_LOST : Fam :=
  ⟨"CAP_TRIG_LOST", 0x8400, 0x1, 1, 0x12, .u32, .ro, 2, false, [.num 0],
    .nats [(0, 4294967295)]⟩

/-- 8400:13 U16 RW, default 0xFFFF, range 0x0000–0x3FFF, 0xFFFF, unit —. Stream A destination. 0xFFFF: none (R336) -/
def CAP_DEST : Fam :=
  ⟨"CAP_DEST", 0x8400, 0x1, 1, 0x13, .u16, .rw, 2, true, [.num 0xffff],
    .nats [(0, 16383), (65535, 65535)]⟩

/-- 8400:14 BOOL RW, default 0, range 0–1, unit —. Re-arms after stream A (R336) -/
def CAP_AUTO_REARM : Fam :=
  ⟨"CAP_AUTO_REARM", 0x8400, 0x1, 1, 0x14, .bool, .rw, 2, true, [.num 0],
    .nats [(0, 1)]⟩

/-- 8400:15 U32 RW, default 0, range 0–4,294,151, unit bytes. Read offset (R324) (R336) -/
def CAP_RD_OFS : Fam :=
  ⟨"CAP_RD_OFS", 0x8400, 0x1, 1, 0x15, .u32, .rw, 2, false, [.num 0],
    .nats [(0, 4294151)]⟩

/-- 8400:16 BLOB RO, default —, range 0–1024 bytes, unit —. Data at CAP_RD_OFS (R336) -/
def CAP_RD_DATA : Fam :=
  ⟨"CAP_RD_DATA", 0x8400, 0x1, 1, 0x16, .blob, .ro, 2, false, [.bytes []],
    .len 0 1024⟩

/-- 8400:17 U8 RO, default 0x00, range Status codes, unit —. Status of the latest stream A (R336) -/
def CAP_STRM_STATUS : Fam :=
  ⟨"CAP_STRM_STATUS", 0x8400, 0x1, 1, 0x17, .u8, .ro, 2, false, [.num 0],
    .any⟩

/-- 8400:18 U16 RW, default 5000, range 100–60000, unit ms. Credit timeout (R336) -/
def CAP_TMO : Fam :=
  ⟨"CAP_TMO", 0x8400, 0x1, 1, 0x18, .u16, .rw, 2, true, [.num 5000],
    .nats [(100, 60000)]⟩

/-- 8410:01 BOOL RW, default 0, range 0–1, unit —. Enables stream B (R336) -/
def STRB_EN : Fam :=
  ⟨"STRB_EN", 0x8410, 0x1, 1, 0x1, .bool, .rw, 2, true, [.num 0],
    .nats [(0, 1)]⟩

/-- 8410:02 U16 RW, default 0x0C00, range 0x0001–0xFFFF, unit —. Channels streamed (R336) -/
def STRB_MASK : Fam :=
  ⟨"STRB_MASK", 0x8410, 0x1, 1, 0x2, .u16, .rw, 2, true, [.num 0xc00],
    .nats [(1, 65535)]⟩

/-- 8410:03 U16 RW, default 100, range 1–10000, unit samples. Decimation (R336) -/
def STRB_DEC : Fam :=
  ⟨"STRB_DEC", 0x8410, 0x1, 1, 0x3, .u16, .rw, 2, true, [.num 100],
    .nats [(1, 10000)]⟩

/-- 8410:04 U16 RW, default 0x0000, range 0x0000–0x3FFF, unit —. Destination node (R336) -/
def STRB_DEST : Fam :=
  ⟨"STRB_DEST", 0x8410, 0x1, 1, 0x4, .u16, .rw, 2, true, [.num 0],
    .nats [(0, 16383)]⟩

/-- 8410:05 F32 RW, default 20, range 1–100, unit Mbit/s. Payload bound (R325) (R336) -/
def STRB_MAXBW : Fam :=
  ⟨"STRB_MAXBW", 0x8410, 0x1, 1, 0x5, .f32, .rw, 2, true, [.num 0x41a00000],
    .rats [(mkRat 1 1, mkRat 100 1)]⟩

/-- 8410:06 U32 RO, default 0, range 0–0xFFFF_FFFF, unit —. Gap records (R336) -/
def STRB_GAPS : Fam :=
  ⟨"STRB_GAPS", 0x8410, 0x1, 1, 0x6, .u32, .ro, 2, false, [.num 0],
    .nats [(0, 4294967295)]⟩

/-- 8410:07 U64 RO, default 0, range 0–0xFFFF_FFFF_FFFF_FFFF, unit samples. Samples lost (R336) -/
def STRB_LOST : Fam :=
  ⟨"STRB_LOST", 0x8410, 0x1, 1, 0x7, .u64, .ro, 2, false, [.num 0],
    .nats [(0, 18446744073709551615)]⟩

/-- 8500:01 U8 WO, default —, range 1–3, unit —. Measurement of R326 (R336) -/
def CABLE_CMD : Fam :=
  ⟨"CABLE_CMD", 0x8500, 0x1, 1, 0x1, .u8, .wo, 2, false, [.num 0],
    .nats [(1, 3)]⟩

/-- 8500:02 F32 RW, default 20, range 5–40, unit A. Step size (R336) -/
def CABLE_STEP : Fam :=
  ⟨"CABLE_STEP", 0x8500, 0x1, 1, 0x2, .f32, .rw, 2, true, [.num 0x41a00000],
    .rats [(mkRat 5 1, mkRat 40 1)]⟩

/-- 8500:03 U8 RO, default 0, range 0–3, unit —. 0 none, 1 running, 2 valid, 3 invalid (R336) -/
def CABLE_STATE : Fam :=
  ⟨"CABLE_STATE", 0x8500, 0x1, 1, 0x3, .u8, .ro, 2, false, [.num 0],
    .nats [(0, 3)]⟩

/-- 8510:01 F32 RO, default 0, range 0–1000, unit mΩ. Loop resistance, SYS / BAT run (R336) -/
def CABLE_R : Fam :=
  ⟨"CABLE_R", 0x8510, 0x10, 2, 0x1, .f32, .ro, 2, true, [.num 0],
    .rats [(mkRat 0 1, mkRat 1000 1)]⟩

/-- 8510:02 F32 RO, default 0, range 0–1000, unit µH. Loop inductance (R336) -/
def CABLE_L : Fam :=
  ⟨"CABLE_L", 0x8510, 0x10, 2, 0x2, .f32, .ro, 2, true, [.num 0],
    .rats [(mkRat 0 1, mkRat 1000 1)]⟩

/-- 8510:03 F32 RO, default 0, range 0–41.2, unit mF. Capacitance, SYS only. BAT reads 0 (R336) -/
def CABLE_C : Fam :=
  ⟨"CABLE_C", 0x8510, 0x10, 2, 0x3, .f32, .ro, 2, true, [.num 0],
    .rats [(mkRat 0 1, mkRat 206 5)]⟩

/-- 8510:04 TIME64 RO, default 0, range —, unit TB ticks. Time of the result (R336) -/
def CABLE_T : Fam :=
  ⟨"CABLE_T", 0x8510, 0x10, 2, 0x4, .time64, .ro, 2, true, [.num 0],
    .any⟩

/-- 8510:05 BOOL RO, default 0, range 0–1, unit —. Inductance beyond R283 (R336) -/
def CABLE_LWARN : Fam :=
  ⟨"CABLE_LWARN", 0x8510, 0x10, 2, 0x5, .bool, .ro, 2, true, [.num 0],
    .nats [(0, 1)]⟩

/-- 8600:01 U8 RO, default 0, range 0–1, unit —. 0 factory constants, 1 nominal constants (R336) -/
def CAL_STATE : Fam :=
  ⟨"CAL_STATE", 0x8600, 0x1, 1, 0x1, .u8, .ro, 2, false, [.num 0],
    .nats [(0, 1)]⟩

/-- 8600:02 STR RO, default —, range 0–16 bytes, unit —. Calibration identifier (R336) -/
def CAL_ID : Fam :=
  ⟨"CAL_ID", 0x8600, 0x1, 1, 0x2, .str, .ro, 2, false, [.bytes []],
    .len 0 16⟩

/-- 8600:03 U64 RO, default 0, range —, unit s since 1970. Factory calibration time (R336) -/
def CAL_DATE : Fam :=
  ⟨"CAL_DATE", 0x8600, 0x1, 1, 0x3, .u64, .ro, 2, false, [.num 0],
    .any⟩

/-- 8600:04 U16 RO, default 0, range 0–65535, unit —. Field adjustments (R330) (R336) -/
def CAL_FIELD_CNT : Fam :=
  ⟨"CAL_FIELD_CNT", 0x8600, 0x1, 1, 0x4, .u16, .ro, 2, true, [.num 0],
    .nats [(0, 65535)]⟩

/-- 8600:05 BLOB WO, default —, range 12 bytes, unit —. Field adjustment (R336) -/
def CAL_SET : Fam :=
  ⟨"CAL_SET", 0x8600, 0x1, 1, 0x5, .blob, .wo, 3, false, [.bytes []],
    .len 12 12⟩

/-- 8700:01 U8 WO, default —, range 1–2, unit —. 1 OPEN, 2 CLOSE (R336) -/
def ESESS_CMD : Fam :=
  ⟨"ESESS_CMD", 0x8700, 0x1, 1, 0x1, .u8, .wo, 1, false, [.num 0],
    .nats [(1, 2)]⟩

/-- 8700:02 BOOL RW, default 0, range 0–1, unit —. Follows the profile (R331) (R336) -/
def ESESS_AUTO : Fam :=
  ⟨"ESESS_AUTO", 0x8700, 0x1, 1, 0x2, .bool, .rw, 2, true, [.num 0],
    .nats [(0, 1)]⟩

/-- 8700:03 U32 RW, default 900, range 60–86400, unit s. Interim interval (R336) -/
def ESESS_INT : Fam :=
  ⟨"ESESS_INT", 0x8700, 0x1, 1, 0x3, .u32, .rw, 2, true, [.num 900],
    .nats [(60, 86400)]⟩

/-- 8700:04 U8 RO, default 0, range 0–1, unit —. 0 closed, 1 open (R336) -/
def ESESS_STATE : Fam :=
  ⟨"ESESS_STATE", 0x8700, 0x1, 1, 0x4, .u8, .ro, 2, false, [.num 0],
    .nats [(0, 1)]⟩

/-- 8700:05 U32 RO, default 0, range 0–0xFFFF_FFFF, unit —. Latest session number (R336) -/
def ESESS_NUM : Fam :=
  ⟨"ESESS_NUM", 0x8700, 0x1, 1, 0x5, .u32, .ro, 2, true, [.num 0],
    .nats [(0, 4294967295)]⟩

/-- 8700:06 U32 RW, default 0, range 0–0xFFFF_FFFF, unit —. Session to read (R336) -/
def ESESS_RD_NUM : Fam :=
  ⟨"ESESS_RD_NUM", 0x8700, 0x1, 1, 0x6, .u32, .rw, 2, false, [.num 0],
    .nats [(0, 4294967295)]⟩

/-- 8700:07 U32 RW, default 0, range 0–0xFFFF_FFFF, unit —. Record to read (R336) -/
def ESESS_RD_SEQ : Fam :=
  ⟨"ESESS_RD_SEQ", 0x8700, 0x1, 1, 0x7, .u32, .rw, 2, false, [.num 0],
    .nats [(0, 4294967295)]⟩

/-- 8700:08 BLOB RO, default —, range 0 or 224 bytes, unit —. Record of R332 (R336) -/
def ESESS_REC : Fam :=
  ⟨"ESESS_REC", 0x8700, 0x1, 1, 0x8, .blob, .ro, 2, false, [.bytes []],
    .len 0 224⟩

/-- 8700:09 BLOB RO, default —, range 64 bytes, unit —. Signing public key (R336) -/
def ESIG_PUB : Fam :=
  ⟨"ESIG_PUB", 0x8700, 0x1, 1, 0x9, .blob, .ro, 2, false, [.bytes (List.replicate 64 0)],
    .len 64 64⟩

/-- 8700:0A U8 RO, default 0, range 0–1, unit —. 0 key present, 1 erased (R336) -/
def ESIG_STATE : Fam :=
  ⟨"ESIG_STATE", 0x8700, 0x1, 1, 0xa, .u8, .ro, 2, false, [.num 0],
    .nats [(0, 1)]⟩

/-- 9000:01 U8 RWS, default 0xFF, range 0–127, 0xFF, unit —. Ring number wanted. 0xFF: automatic (R373) -/
def NET_RING : Fam :=
  ⟨"NET_RING", 0x9000, 0x1, 1, 0x1, .u8, .rws, 2, true, [.num 0xff],
    .nats [(0, 127), (255, 255)]⟩

/-- 9000:02 U8 RWS, default 0xFF, range 0–127, 0xFF, unit —. Station number wanted. 0xFF: automatic (R373) -/
def NET_STN : Fam :=
  ⟨"NET_STN", 0x9000, 0x1, 1, 0x2, .u8, .rws, 2, true, [.num 0xff],
    .nats [(0, 127), (255, 255)]⟩

/-- 9000:03 U16 RO, default 0xFFFF, range 0x0000–0x3FFF, 0xFFFF, unit —. Node address in the own ring (R373) -/
def NET_ADDR : Fam :=
  ⟨"NET_ADDR", 0x9000, 0x1, 1, 0x3, .u16, .ro, 2, false, [.num 0xffff],
    .nats [(0, 16383), (65535, 65535)]⟩

/-- 9000:04 U16 RO, default 0xFFFF, range 0x0000–0x3FFF, 0xFFFF, unit —. Address in the parent ring, for a head (R373) -/
def NET_ADDR_P : Fam :=
  ⟨"NET_ADDR_P", 0x9000, 0x1, 1, 0x4, .u16, .ro, 2, false, [.num 0xffff],
    .nats [(0, 16383), (65535, 65535)]⟩

/-- 9000:05 U8 RO, default 0, range 0–2, unit —. Network role, codes of R61. Reads 0 (STATION) from every start until an election makes the module LANTERN, including in a ring of one (R354, R520) (R373) -/
def NET_ROLE : Fam :=
  ⟨"NET_ROLE", 0x9000, 0x1, 1, 0x5, .u8, .ro, 2, false, [.num 0],
    .nats [(0, 2)]⟩

/-- 9000:06 U16 RO, default 0x0000, range Bit map, R374, unit —. Network conditions (R373) -/
def NET_FLAGS : Fam :=
  ⟨"NET_FLAGS", 0x9000, 0x1, 1, 0x6, .u16, .ro, 2, false, [.num 0],
    .mask 0x3ff⟩

/-- 9000:07 U8 RW, default 128, range 0–255, unit —. Election priority. Lower wins. 255: never lantern (R373) -/
def NET_LPRIO : Fam :=
  ⟨"NET_LPRIO", 0x9000, 0x1, 1, 0x7, .u8, .rw, 2, true, [.num 128],
    .nats [(0, 255)]⟩

/-- 9000:08 U16 RO, default 0, range 0–65535, unit —. Current lantern generation (R373) -/
def LGEN : Fam :=
  ⟨"LGEN", 0x9000, 0x1, 1, 0x8, .u16, .ro, 2, true, [.num 0],
    .nats [(0, 65535)]⟩

/-- 9000:09 U16 RO, default 0xFFFF, range 0x0000–0x3FFF, 0xFFFF, unit —. Lantern of the own ring (R373) -/
def LANT_ADDR : Fam :=
  ⟨"LANT_ADDR", 0x9000, 0x1, 1, 0x9, .u16, .ro, 2, false, [.num 0xffff],
    .nats [(0, 16383), (65535, 65535)]⟩

/-- 9000:0A U8 WO, default —, range 0–127, unit —. Hands the lantern role to a station (R356) (R373) -/
def NET_HANDOVER : Fam :=
  ⟨"NET_HANDOVER", 0x9000, 0x1, 1, 0xa, .u8, .wo, 2, false, [.num 0],
    .nats [(0, 127)]⟩

/-- 9000:0B U8 RO, default 1, range 1–128, unit —. Stations on the ring (R373) -/
def RING_N : Fam :=
  ⟨"RING_N", 0x9000, 0x1, 1, 0xb, .u8, .ro, 2, false, [.num 1],
    .nats [(1, 128)]⟩

/-- 9000:0C F32 RO, default 0, range 0–1000, unit µs. Beacon loop time (R370) (R373) -/
def RING_LOOP : Fam :=
  ⟨"RING_LOOP", 0x9000, 0x1, 1, 0xc, .f32, .ro, 2, false, [.num 0],
    .rats [(mkRat 0 1, mkRat 1000 1)]⟩

/-- 9000:0D F32 RO, default 0, range 0–100, unit µs. Bound on RING_LOOP (R373) -/
def RING_LOOP_MAX : Fam :=
  ⟨"RING_LOOP_MAX", 0x9000, 0x1, 1, 0xd, .f32, .ro, 2, false, [.num 0],
    .rats [(mkRat 0 1, mkRat 100 1)]⟩

/-- 9000:0E U8 RO, default 0, range 0–255, unit —. Class 1–2 frames allowed beside one's own (R373) -/
def RING_EXP_ROOM : Fam :=
  ⟨"RING_EXP_ROOM", 0x9000, 0x1, 1, 0xe, .u8, .ro, 2, false, [.num 0],
    .nats [(0, 255)]⟩

/-- 9000:0F U8 RO, default 0, range 0–127, unit —. Depth of the own ring (R373) -/
def RING_DEPTH : Fam :=
  ⟨"RING_DEPTH", 0x9000, 0x1, 1, 0xf, .u8, .ro, 2, false, [.num 0],
    .nats [(0, 127)]⟩

/-- 9000:10 F32 RW, default 2.0, range 0.5–20, unit ms. Fleet trip budget (R371) (R373) -/
def TRIP_BUDGET : Fam :=
  ⟨"TRIP_BUDGET", 0x9000, 0x1, 1, 0x10, .f32, .rw, 2, true, [.num 0x40000000],
    .rats [(mkRat 1 2, mkRat 20 1)]⟩

/-- 9000:11 U8 RO, default 9, range 0–127, unit —. Depth allowed by TRIP_BUDGET (R373) -/
def DEPTH_TRIP : Fam :=
  ⟨"DEPTH_TRIP", 0x9000, 0x1, 1, 0x11, .u8, .ro, 2, false, [.num 9],
    .nats [(0, 127)]⟩

/-- 9000:12 I64 RO, default 0, range —, unit ns. Network time less TB (R373) -/
def NTIME_OFS : Fam :=
  ⟨"NTIME_OFS", 0x9000, 0x1, 1, 0x12, .i64, .ro, 2, false, [.num 0],
    .any⟩

/-- 9000:13 I32 RO, default 0, range −200000–200000, unit ppb. Rate trim (R373) -/
def NTIME_TRIM : Fam :=
  ⟨"NTIME_TRIM", 0x9000, 0x1, 1, 0x13, .i32, .ro, 2, false, [.num 0],
    .ints [(-200000, 200000)]⟩

/-- 9000:14 F32 RO, default 0, range −1e6–1e6, unit ns. Latest error e (R359) (R373) -/
def NTIME_ERR : Fam :=
  ⟨"NTIME_ERR", 0x9000, 0x1, 1, 0x14, .f32, .ro, 2, false, [.num 0],
    .rats [(mkRat (-1000000) 1, mkRat 1000000 1)]⟩

/-- 9000:15 F32 RW, default 5.4, range 4.0–6.5, unit ns/m. Cable delay per metre (R373) -/
def NET_TPM : Fam :=
  ⟨"NET_TPM", 0x9000, 0x1, 1, 0x15, .f32, .rw, 2, true, [.num 0x40accccd],
    .rats [(mkRat 4 1, mkRat 13 2)]⟩

/-- 9000:16 BOOL RW, default 0, range 0–1, unit —. Enables SYNCO (R373) -/
def SYNCO_EN : Fam :=
  ⟨"SYNCO_EN", 0x9000, 0x1, 1, 0x16, .bool, .rw, 2, true, [.num 0],
    .nats [(0, 1)]⟩

/-- 9000:17 U32 RW, default 1000, range 1–1000, unit ms. SYNCO period (R373) -/
def SYNCO_PER : Fam :=
  ⟨"SYNCO_PER", 0x9000, 0x1, 1, 0x17, .u32, .rw, 2, true, [.num 1000],
    .nats [(1, 1000)]⟩

/-- 9000:18 U8 RWS, default 0, range 0–2, unit —. 0 off, 1 timestamp, 2 reference at the root (R373) -/
def SYNCI_MODE : Fam :=
  ⟨"SYNCI_MODE", 0x9000, 0x1, 1, 0x18, .u8, .rws, 2, true, [.num 0],
    .nats [(0, 2)]⟩

/-- 9000:19 U32 RO, default 0, range 0–0xFFFF_FFFF, unit —. SYNCI edges (R373) -/
def SYNCI_CNT : Fam :=
  ⟨"SYNCI_CNT", 0x9000, 0x1, 1, 0x19, .u32, .ro, 2, false, [.num 0],
    .nats [(0, 4294967295)]⟩

/-- 9000:1A U32 RO, default 0, range 0–0xFFFF_FFFF, unit —. Elections won (R373) -/
def ELECT_CNT : Fam :=
  ⟨"ELECT_CNT", 0x9000, 0x1, 1, 0x1a, .u32, .ro, 2, false, [.num 0],
    .nats [(0, 4294967295)]⟩

/-- 9000:1B U32 RO, default 0, range 0–0xFFFF_FFFF, unit —. Class 1–2 frames held to a later cycle (R373) -/
def EXP_DEFER : Fam :=
  ⟨"EXP_DEFER", 0x9000, 0x1, 1, 0x1b, .u32, .ro, 2, false, [.num 0],
    .nats [(0, 4294967295)]⟩

/-- 9000:1C U32 RO, default 0, range 0–0xFFFF_FFFF, unit —. Class 0–2 frames delayed by an unyielding frame (R373) -/
def EXP_LATE : Fam :=
  ⟨"EXP_LATE", 0x9000, 0x1, 1, 0x1c, .u32, .ro, 2, false, [.num 0],
    .nats [(0, 4294967295)]⟩

/-- 9000:1D U32 RO, default 0, range 0–0xFFFF_FFFF, unit —. MAC failures (R373) -/
def NET_AUTH_FAIL : Fam :=
  ⟨"NET_AUTH_FAIL", 0x9000, 0x1, 1, 0x1d, .u32, .ro, 2, false, [.num 0],
    .nats [(0, 4294967295)]⟩

/-- 9000:1E U32 RO, default 0, range 0–0xFFFF_FFFF, unit —. Replayed frames (R373) -/
def NET_REPLAY : Fam :=
  ⟨"NET_REPLAY", 0x9000, 0x1, 1, 0x1e, .u32, .ro, 2, false, [.num 0],
    .nats [(0, 4294967295)]⟩

/-- 9000:1F U32 RO, default 0, range 0–0xFFFF_FFFF, unit —. Frames rejected under R271 (R373) -/
def NET_GEN_STALE : Fam :=
  ⟨"NET_GEN_STALE", 0x9000, 0x1, 1, 0x1f, .u32, .ro, 2, false, [.num 0],
    .nats [(0, 4294967295)]⟩

/-- 9000:20 U32 RO, default 0, range 0–0xFFFF_FFFF, unit —. Frames at an old lantern generation (R373) -/
def NET_LGEN_OLD : Fam :=
  ⟨"NET_LGEN_OLD", 0x9000, 0x1, 1, 0x20, .u32, .ro, 2, false, [.num 0],
    .nats [(0, 4294967295)]⟩

/-- 9000:21 U32 RO, default 0, range 0–0xFFFF_FFFF, unit —. Malformed frames (R373) -/
def NET_BAD_HDR : Fam :=
  ⟨"NET_BAD_HDR", 0x9000, 0x1, 1, 0x21, .u32, .ro, 2, false, [.num 0],
    .nats [(0, 4294967295)]⟩

/-- 9000:22 U32 RO, default 0, range 0–0xFFFF_FFFF, unit —. Class 0–2 frames lost at a full queue (R373) -/
def NET_EXP_DROP : Fam :=
  ⟨"NET_EXP_DROP", 0x9000, 0x1, 1, 0x22, .u32, .ro, 2, false, [.num 0],
    .nats [(0, 4294967295)]⟩

/-- 9100+0x10·l:01 U8 RWS, default 1 for l = 0, 1; 2 for l = 2, 3, range 0–2, unit —. Role of R337 (R375) -/
def LINK_ROLE : Fam :=
  ⟨"LINK_ROLE", 0x9100, 0x10, 4, 0x1, .u8, .rws, 2, true, [.num 1, .num 1, .num 2, .num 2],
    .nats [(0, 2)]⟩

/-- 9100+0x10·l:02 U8 RO, default 0, range 0–4, unit —. 0 off, 1 no PHY link, 2 identifying, 3 UP, 4 declared down (R375) -/
def LINK_STATE : Fam :=
  ⟨"LINK_STATE", 0x9100, 0x10, 4, 0x2, .u8, .ro, 2, false, [.num 0],
    .nats [(0, 4)]⟩

/-- 9100+0x10·l:03 U16 RO, default 0xFFFF, range 0x0000–0x3FFF, 0xFFFF, unit —. Partner's address (R375) -/
def LINK_PEER : Fam :=
  ⟨"LINK_PEER", 0x9100, 0x10, 4, 0x3, .u16, .ro, 2, false, [.num 0xffff],
    .nats [(0, 16383), (65535, 65535)]⟩

/-- 9100+0x10·l:04 F32 RO, default 0, range 0–1000, unit ns. Link delay (R357) (R375) -/
def LINK_DLY : Fam :=
  ⟨"LINK_DLY", 0x9100, 0x10, 4, 0x4, .f32, .ro, 2, false, [.num 0],
    .rats [(mkRat 0 1, mkRat 1000 1)]⟩

/-- 9100+0x10·l:05 F32 RO, default 0, range 0–200, unit m. Cable length (R375) -/
def LINK_LEN : Fam :=
  ⟨"LINK_LEN", 0x9100, 0x10, 4, 0x5, .f32, .ro, 2, false, [.num 0],
    .rats [(mkRat 0 1, mkRat 200 1)]⟩

/-- 9100+0x10·l:06 U32 RO, default 0, range 0–0xFFFF_FFFF, unit —. FCS failures (R375) -/
def LINK_FCS_ERR : Fam :=
  ⟨"LINK_FCS_ERR", 0x9100, 0x10, 4, 0x6, .u32, .ro, 2, false, [.num 0],
    .nats [(0, 4294967295)]⟩

/-- 9100+0x10·l:07 U32 RO, default 0, range 0–0xFFFF_FFFF, unit —. Yielded frames received (R375) -/
def LINK_YIELDS : Fam :=
  ⟨"LINK_YIELDS", 0x9100, 0x10, 4, 0x7, .u32, .ro, 2, false, [.num 0],
    .nats [(0, 4294967295)]⟩

/-- 9100+0x10·l:08 U32 RO, default 0, range 0–0xFFFF_FFFF, unit —. Declarations of R338 (R375) -/
def LINK_DOWN_CNT : Fam :=
  ⟨"LINK_DOWN_CNT", 0x9100, 0x10, 4, 0x8, .u32, .ro, 2, false, [.num 0],
    .nats [(0, 4294967295)]⟩

/-- 9100+0x10·l:09 BOOL RW, default 1, range 0–1, unit —. Wakes from HIBERNATE (R372) (R375) -/
def LINK_WAKE : Fam :=
  ⟨"LINK_WAKE", 0x9100, 0x10, 4, 0x9, .bool, .rw, 2, true, [.num 1],
    .nats [(0, 1)]⟩

/-- 9100+0x10·l:0A BOOL WO, default —, range 1, unit —. Sends a wake pulse (R375) -/
def LINK_WAKE_TX : Fam :=
  ⟨"LINK_WAKE_TX", 0x9100, 0x10, 4, 0xa, .bool, .wo, 2, false, [.num 0],
    .nats [(0, 1)]⟩

/-- 9200+c:01 U16 RW, default 0 for classes 0–2; class 3: 2048; classes 4, 5, 7: 1536; class 6: 1024, range 0 for classes 0–2; 256–8192 for classes 3–7, unit bytes. Round-robin quantum (R365) (R376) -/
def CLS_QUANTUM : Fam :=
  ⟨"CLS_QUANTUM", 0x9200, 0x1, 8, 0x1, .u16, .rw, 2, true, [.num 0, .num 0, .num 0, .num 2048, .num 1536, .num 1536, .num 1024, .num 1536],
    .nats [(256, 8192)]⟩

/-- 9200+c:02 U32 RO, default 0, range 0–0xFFFF_FFFF, unit —. Frames originated (R376) -/
def CLS_TX : Fam :=
  ⟨"CLS_TX", 0x9200, 0x1, 8, 0x2, .u32, .ro, 2, false, [.num 0],
    .nats [(0, 4294967295)]⟩

/-- 9200+c:03 U32 RO, default 0, range 0–0xFFFF_FFFF, unit —. Frames consumed (R376) -/
def CLS_RX : Fam :=
  ⟨"CLS_RX", 0x9200, 0x1, 8, 0x3, .u32, .ro, 2, false, [.num 0],
    .nats [(0, 4294967295)]⟩

/-- 9200+c:04 U32 RO, default 0, range 0–0xFFFF_FFFF, unit —. Frames dropped here (class 6) (R376) -/
def CLS_DROP : Fam :=
  ⟨"CLS_DROP", 0x9200, 0x1, 8, 0x4, .u32, .ro, 2, false, [.num 0],
    .nats [(0, 4294967295)]⟩

/-- 9200+c:05 U32 RO, default 0, range 0–0xFFFF_FFFF, unit —. GAP records sent or received (R376) -/
def CLS_GAPS : Fam :=
  ⟨"CLS_GAPS", 0x9200, 0x1, 8, 0x5, .u32, .ro, 2, false, [.num 0],
    .nats [(0, 4294967295)]⟩

/-- 1010:01 U32 RO, default —, range 1–0xFFFF_FFFF, unit —. Current epoch (R407) -/
def EPOCH : Fam :=
  ⟨"EPOCH", 0x1010, 0x1, 1, 0x1, .u32, .ro, 2, false, [.num 0],
    .nats [(1, 4294967295)]⟩

/-- 1010:02 U16 RW, default 250, range 10–5000, unit ms. Longest wait in a queue before acceptance (R387) (R407) -/
def OD_QTMO : Fam :=
  ⟨"OD_QTMO", 0x1010, 0x1, 1, 0x2, .u16, .rw, 2, true, [.num 250],
    .nats [(10, 5000)]⟩

/-- 1010:03 U16 RW, default 10, range 1–600, unit s. Record hold after completion (R397) (R407) -/
def REC_HOLD : Fam :=
  ⟨"REC_HOLD", 0x1010, 0x1, 1, 0x3, .u16, .rw, 2, true, [.num 10],
    .nats [(1, 600)]⟩

/-- 1010:04 U16 RO, default 0, range 0–256, unit —. Records held (R407) -/
def REC_USED : Fam :=
  ⟨"REC_USED", 0x1010, 0x1, 1, 0x4, .u16, .ro, 2, false, [.num 0],
    .nats [(0, 256)]⟩

/-- 1010:05 U32 RO, default 0, range 0–0xFFFF_FFFF, unit —. Records taken before REC_HOLD (R407) -/
def REC_EARLY : Fam :=
  ⟨"REC_EARLY", 0x1010, 0x1, 1, 0x5, .u32, .ro, 2, false, [.num 0],
    .nats [(0, 4294967295)]⟩

/-- 1010:06 U16 RO, default 0xFFFF, range 0x0000–0x4400, 0xFFFF, unit —. Stage owner (R381). 0xFFFF: none (R407) -/
def STAGE_OWNER : Fam :=
  ⟨"STAGE_OWNER", 0x1010, 0x1, 1, 0x6, .u16, .ro, 2, false, [.num 0xffff],
    .nats [(0, 17408), (65535, 65535)]⟩

/-- 1010:07 U16 RO, default 0, range 0–512, unit —. Entries staged (R407) -/
def STAGE_CNT : Fam :=
  ⟨"STAGE_CNT", 0x1010, 0x1, 1, 0x7, .u16, .ro, 2, false, [.num 0],
    .nats [(0, 512)]⟩

/-- 1010:08 U16 RW, default 60, range 5–3600, unit s. Idle time before discard (R392) (R407) -/
def STAGE_TMO : Fam :=
  ⟨"STAGE_TMO", 0x1010, 0x1, 1, 0x8, .u16, .rw, 2, true, [.num 60],
    .nats [(5, 3600)]⟩

/-- 1010:09 U32 RO, default 0, range 0–0xFFFF_FFFF, unit —. Stages discarded (R407) -/
def STAGE_DISCARDS : Fam :=
  ⟨"STAGE_DISCARDS", 0x1010, 0x1, 1, 0x9, .u32, .ro, 2, false, [.num 0],
    .nats [(0, 4294967295)]⟩

/-- 1010:0A U32 RO, default 0, range 0–0xFFFF_FFFF, unit —. Journal records rolled back at boot (R395) (R407) -/
def JOURNAL_ROLLBACK : Fam :=
  ⟨"JOURNAL_ROLLBACK", 0x1010, 0x1, 1, 0xa, .u32, .ro, 2, false, [.num 0],
    .nats [(0, 4294967295)]⟩

/-- 9300+q:01 U16 RO, default R401, range 8–256, unit —. Depth (R408) -/
def Q_DEPTH : Fam :=
  ⟨"Q_DEPTH", 0x9300, 0x1, 32, 0x1, .u16, .ro, 2, false, [.num 8, .num 16, .num 16, .num 32, .num 32, .num 32, .num 64, .num 64, .num 8, .num 16, .num 16, .num 32, .num 32, .num 32, .num 64, .num 32, .num 32, .num 32, .num 32, .num 32, .num 16, .num 16, .num 32, .num 32, .num 32, .num 32, .num 256, .num 64, .num 64, .num 32, .num 16, .num 32],
    .nats [(8, 256)]⟩

/-- 9300+q:02 U32 RO, default R401, range 2048–98304, unit bytes. Buffer (R408) -/
def Q_BYTES : Fam :=
  ⟨"Q_BYTES", 0x9300, 0x1, 32, 0x2, .u32, .ro, 2, false, [.num 2048, .num 4096, .num 4096, .num 16384, .num 24576, .num 24576, .num 49152, .num 49152, .num 2048, .num 4096, .num 4096, .num 16384, .num 24576, .num 24576, .num 32768, .num 32768, .num 4096, .num 4096, .num 4096, .num 4096, .num 4096, .num 4096, .num 16384, .num 16384, .num 4096, .num 4096, .num 65536, .num 98304, .num 49152, .num 8192, .num 4096, .num 16384],
    .nats [(2048, 98304)]⟩

/-- 9300+q:03 U8 RO, default R401, range 0–4, unit —. 0 HOLD, 1 CREDIT, 2 REFUSE, 3 DROP_NEW, 4 DROP_OLD (R408) -/
def Q_POLICY : Fam :=
  ⟨"Q_POLICY", 0x9300, 0x1, 32, 0x3, .u8, .ro, 2, false, [.num 0, .num 0, .num 0, .num 0, .num 0, .num 0, .num 3, .num 0, .num 3, .num 3, .num 3, .num 1, .num 1, .num 1, .num 3, .num 1, .num 0, .num 2, .num 0, .num 2, .num 2, .num 0, .num 2, .num 0, .num 0, .num 0, .num 4, .num 0, .num 3, .num 0, .num 3, .num 0],
    .nats [(0, 4)]⟩

/-- 9300+q:04 F32 RO, default 0, range 0–100, unit %. Fill (R405) (R408) -/
def Q_FILL : Fam :=
  ⟨"Q_FILL", 0x9300, 0x1, 32, 0x4, .f32, .ro, 2, false, [.num 0],
    .rats [(mkRat 0 1, mkRat 100 1)]⟩

/-- 9300+q:05 F32 RO, default 0, range 0–100, unit %. Highest fill since start-up (R408) -/
def Q_MAX : Fam :=
  ⟨"Q_MAX", 0x9300, 0x1, 32, 0x5, .f32, .ro, 2, false, [.num 0],
    .rats [(mkRat 0 1, mkRat 100 1)]⟩

/-- 9300+q:06 U8 RW, default 75, range 10–100, unit %. High watermark (R408) -/
def Q_HWM : Fam :=
  ⟨"Q_HWM", 0x9300, 0x1, 32, 0x6, .u8, .rw, 2, true, [.num 75],
    .nats [(10, 100)]⟩

/-- 9300+q:07 U8 RW, default 50, range 0–95, unit %. Low watermark (R408) -/
def Q_LWM : Fam :=
  ⟨"Q_LWM", 0x9300, 0x1, 32, 0x7, .u8, .rw, 2, true, [.num 50],
    .nats [(0, 95)]⟩

/-- 9300+q:08 BOOL RO, default 0, range 0–1, unit —. Above the high watermark (R405) (R408) -/
def Q_HIGH : Fam :=
  ⟨"Q_HIGH", 0x9300, 0x1, 32, 0x8, .bool, .ro, 2, false, [.num 0],
    .nats [(0, 1)]⟩

/-- 9300+q:09 U32 RO, default 0, range 0–0xFFFF_FFFF, unit —. High-watermark crossings (R408) -/
def Q_HWM_CNT : Fam :=
  ⟨"Q_HWM_CNT", 0x9300, 0x1, 32, 0x9, .u32, .ro, 2, false, [.num 0],
    .nats [(0, 4294967295)]⟩

/-- 9300+q:0A U32 RO, default 0, range 0–0xFFFF_FFFF, unit —. Items dropped (R404) (R408) -/
def Q_DROP : Fam :=
  ⟨"Q_DROP", 0x9300, 0x1, 32, 0xa, .u32, .ro, 2, false, [.num 0],
    .nats [(0, 4294967295)]⟩

/-- 9300+q:0B U32 RO, default 0, range 0–0xFFFF_FFFF, unit —. Items completed HW_FAULT (R408) -/
def Q_ERR : Fam :=
  ⟨"Q_ERR", 0x9300, 0x1, 32, 0xb, .u32, .ro, 2, false, [.num 0],
    .nats [(0, 4294967295)]⟩

/-- 1000:01 STR RO, default "Trelgar", range 0–16 bytes, unit —. Vendor (R413) -/
def VENDOR : Fam :=
  ⟨"VENDOR", 0x1000, 0x1, 1, 0x1, .str, .ro, 2, false, [.bytes [84, 114, 101, 108, 103, 97, 114]],
    .len 0 16⟩

/-- 1000:02 STR RO, default "Yutatos", range 0–16 bytes, unit —. Family (R413) -/
def FAMILY : Fam :=
  ⟨"FAMILY", 0x1000, 0x1, 1, 0x2, .str, .ro, 2, false, [.bytes [89, 117, 116, 97, 116, 111, 115]],
    .len 0 16⟩

/-- 1000:03 STR RO, default "YTX-60K", range 0–16 bytes, unit —. Part number (R413) -/
def PART : Fam :=
  ⟨"PART", 0x1000, 0x1, 1, 0x3, .str, .ro, 2, false, [.bytes [89, 84, 88, 45, 54, 48, 75]],
    .len 0 16⟩

/-- 1000:04 U8 RO, default 0x42, range 0x41–0x5A, unit —. Hardware revision as an ASCII capital. 0x42: revision B (R413) -/
def HW_REV : Fam :=
  ⟨"HW_REV", 0x1000, 0x1, 1, 0x4, .u8, .ro, 2, false, [.num 0x42],
    .nats [(65, 90)]⟩

/-- 1000:05 U32 RO, default —, range —, unit —. Running firmware: [31:24] line, [23:16] minor, [15:0] patch. Line 4 reads 0x04 in [31:24] (R413) -/
def FW_VER : Fam :=
  ⟨"FW_VER", 0x1000, 0x1, 1, 0x5, .u32, .ro, 2, false, [.num 0],
    .any⟩

/-- 1000:06 STR RO, default —, range 16 bytes, unit —. Serial number, as energy records carry it (R332) (R413) -/
def SERIAL : Fam :=
  ⟨"SERIAL", 0x1000, 0x1, 1, 0x6, .str, .ro, 2, false, [.bytes []],
    .len 16 16⟩

/-- 1000:07 BLOB RO, default —, range 6 bytes, unit —. MAC-48 address (R344, R354) (R413) -/
def MAC48 : Fam :=
  ⟨"MAC48", 0x1000, 0x1, 1, 0x7, .blob, .ro, 2, false, [.bytes []],
    .len 6 6⟩

/-- 1000:08 U64 RO, default —, range —, unit s since 1970. Manufacturing time (R413) -/
def MFG_DATE : Fam :=
  ⟨"MFG_DATE", 0x1000, 0x1, 1, 0x8, .u64, .ro, 2, false, [.num 0],
    .any⟩

/-- 1000:09 U16 RO, default 0x0400, range —, unit —. Object-dictionary layout. 0x0400: the layout of this manual (R413) -/
def OD_MAP_VER : Fam :=
  ⟨"OD_MAP_VER", 0x1000, 0x1, 1, 0x9, .u16, .ro, 2, false, [.num 0x400],
    .any⟩

/-- 1000:0A STR RW, default Empty, range 0–32 bytes, unit —. Free text set by the integrator (R413) -/
def USER_TAG : Fam :=
  ⟨"USER_TAG", 0x1000, 0x1, 1, 0xa, .str, .rw, 1, true, [.bytes []],
    .len 0 32⟩

/-- 1020:01 F32 RO, default 0, range 0–100, unit %. Share of the 2 MB parameter store in use (R414) -/
def PSTORE_USED : Fam :=
  ⟨"PSTORE_USED", 0x1020, 0x1, 1, 0x1, .f32, .ro, 2, false, [.num 0],
    .rats [(mkRat 0 1, mkRat 100 1)]⟩

/-- 1020:02 U32 RO, default 0, range 0–0xFFFF_FFFF, unit —. Entries returned to default at start-up (R411) (R414) -/
def PSTORE_ERR : Fam :=
  ⟨"PSTORE_ERR", 0x1020, 0x1, 1, 0x2, .u32, .ro, 2, false, [.num 0],
    .nats [(0, 4294967295)]⟩

/-- 1020:03 U16 WO, default —, range 0xD5F0, unit —. Restores defaults at the next boot (R415) (R414) -/
def PSTORE_DEFAULTS : Fam :=
  ⟨"PSTORE_DEFAULTS", 0x1020, 0x1, 1, 0x3, .u16, .wo, 3, false, [.num 0],
    .nats [(54768, 54768)]⟩

/-- A000:01 U8 RO, default 0, range 0–3, unit —. 0 detached, 1 attached without contract, 2 contract in force, 3 Deep Service (R416) -/
def USB_STATE : Fam :=
  ⟨"USB_STATE", 0xa000, 0x1, 1, 0x1, .u8, .ro, 2, false, [.num 0],
    .nats [(0, 3)]⟩

/-- A000:02 U8 RO, default 0, range 0–1, unit —. 0 sink, 1 source (R416) -/
def USB_PWR_ROLE : Fam :=
  ⟨"USB_PWR_ROLE", 0xa000, 0x1, 1, 0x2, .u8, .ro, 2, false, [.num 0],
    .nats [(0, 1)]⟩

/-- A000:03 U8 RO, default 0, range 0–1, unit —. 0 UFP, 1 DFP (R416) -/
def USB_DATA_ROLE : Fam :=
  ⟨"USB_DATA_ROLE", 0xa000, 0x1, 1, 0x3, .u8, .ro, 2, false, [.num 0],
    .nats [(0, 1)]⟩

/-- A000:04 F32 RO, default 0, range 0–48, unit V. Contract voltage (R416) -/
def USB_V : Fam :=
  ⟨"USB_V", 0xa000, 0x1, 1, 0x4, .f32, .ro, 2, false, [.num 0],
    .rats [(mkRat 0 1, mkRat 48 1)]⟩

/-- A000:05 F32 RO, default 0, range 0–5, unit A. Contract current (R416) -/
def USB_I : Fam :=
  ⟨"USB_I", 0xa000, 0x1, 1, 0x5, .f32, .ro, 2, false, [.num 0],
    .rats [(mkRat 0 1, mkRat 5 1)]⟩

/-- A000:06 BOOL RO, default 0, range 0–1, unit —. Contract is EPR (R416) -/
def USB_EPR : Fam :=
  ⟨"USB_EPR", 0xa000, 0x1, 1, 0x6, .bool, .ro, 2, false, [.num 0],
    .nats [(0, 1)]⟩

/-- A000:07 BOOL RW, default 1, range 0–1, unit —. Offers source contracts when the module has power (R416) -/
def USB_SRC_EN : Fam :=
  ⟨"USB_SRC_EN", 0xa000, 0x1, 1, 0x7, .bool, .rw, 2, true, [.num 1],
    .nats [(0, 1)]⟩

/-- A000:08 U8 RW, default 0x0F, range 0x01–0x0F, unit —. Offered: [0] 5 V, [1] 9 V, [2] 15 V, [3] 20 V, each at 3 A (R416) -/
def USB_SRC_PDO : Fam :=
  ⟨"USB_SRC_PDO", 0xa000, 0x1, 1, 0x8, .u8, .rw, 2, true, [.num 0xf],
    .nats [(1, 15)]⟩

/-- A000:09 U8 RW, default 0, range 0–1, unit —. 0 sink preferred, 1 source preferred (R416) -/
def USB_ROLE_PREF : Fam :=
  ⟨"USB_ROLE_PREF", 0xa000, 0x1, 1, 0x9, .u8, .rw, 2, true, [.num 0],
    .nats [(0, 1)]⟩

/-- A000:0A U32 RO, default 0, range 0–0xFFFF_FFFF, unit —. Hard Resets sent or received (R416) -/
def USB_HRST_CNT : Fam :=
  ⟨"USB_HRST_CNT", 0xa000, 0x1, 1, 0xa, .u32, .ro, 2, false, [.num 0],
    .nats [(0, 4294967295)]⟩

/-- A000:0B BLOB RO, default Empty, range 0–28 bytes, unit —. Partner's Discover Identity VDOs, in the order received (R416) -/
def USB_PARTNER : Fam :=
  ⟨"USB_PARTNER", 0xa000, 0x1, 1, 0xb, .blob, .ro, 2, false, [.bytes []],
    .len 0 28⟩

/-- A000:0C U16 RO, default 0x3A71, range —, unit —. Trelgar's SVID (R416) -/
def USB_SVID : Fam :=
  ⟨"USB_SVID", 0xa000, 0x1, 1, 0xc, .u16, .ro, 2, false, [.num 0x3a71],
    .any⟩

/-- A010:01 U8 RWS, default 0x4A, range 0x08–0x77, not 0x0C, unit —. 7-bit target address (R417) -/
def H2W_ADDR : Fam :=
  ⟨"H2W_ADDR", 0xa010, 0x1, 1, 0x1, .u8, .rws, 2, true, [.num 0x4a],
    .nats [(0x08, 0x0B), (0x0D, 0x77)]⟩

/-- A010:02 U8 RO, default 0, range 0–255, unit —. Page selected by window byte 0xFF (R417) -/
def H2W_PAGE : Fam :=
  ⟨"H2W_PAGE", 0xa010, 0x1, 1, 0x2, .u8, .ro, 2, false, [.num 0],
    .nats [(0, 255)]⟩

/-- A010:03 U16 RW, default 0x0000, range Bit map, unit —. Sticky: [0] PROTO_SR_IN_ACK, [1] WRAP_PAGE, [2] SCL_TMO, [3] SDA_TMO, [4] NACK_BUSY. [15:5] reserved (R417) -/
def H2W_FLAGS : Fam :=
  ⟨"H2W_FLAGS", 0xa010, 0x1, 1, 0x3, .u16, .rw, 1, false, [.num 0],
    .mask 0x1f⟩

/-- A010:04 BOOL RW, default 1, range 0–1, unit —. Drives HALERT (R417) -/
def HALERT_EN : Fam :=
  ⟨"HALERT_EN", 0xa010, 0x1, 1, 0x4, .bool, .rw, 2, true, [.num 1],
    .nats [(0, 1)]⟩

/-- A010:05 U32 RO, default 0, range 0–0xFFFF_FFFF, unit —. Addresses NACKed while busy (R417) -/
def H2W_NACKS : Fam :=
  ⟨"H2W_NACKS", 0xa010, 0x1, 1, 0x5, .u32, .ro, 2, false, [.num 0],
    .nats [(0, 4294967295)]⟩

/-- A010:06 U32 RO, default 0, range 0–0xFFFF_FFFF, unit —. Transactions completed (R417) -/
def H2W_XFERS : Fam :=
  ⟨"H2W_XFERS", 0xa010, 0x1, 1, 0x6, .u32, .ro, 2, false, [.num 0],
    .nats [(0, 4294967295)]⟩

/-- A020+0x10·u:01 U8 RWS, default 0, range 0–2, unit —. 0 100 kHz, 1 400 kHz, 2 1000 kHz (R417) -/
def B2W_SPEED : Fam :=
  ⟨"B2W_SPEED", 0xa020, 0x10, 2, 0x1, .u8, .rws, 2, true, [.num 0],
    .nats [(0, 2)]⟩

/-- A020+0x10·u:02 U8 RWS, default 0x0B, range 0x08–0x77, unit —. Battery-management target address (R417) -/
def B2W_TARGET : Fam :=
  ⟨"B2W_TARGET", 0xa020, 0x10, 2, 0x2, .u8, .rws, 2, true, [.num 0xb],
    .nats [(8, 119)]⟩

/-- A020+0x10·u:03 U16 RW, default 250, range 50–5000, unit ms. Poll period (R417) -/
def B2W_POLL : Fam :=
  ⟨"B2W_POLL", 0xa020, 0x10, 2, 0x3, .u16, .rw, 2, true, [.num 250],
    .nats [(50, 5000)]⟩

/-- A020+0x10·u:04 BOOL RW, default 1, range 0–1, unit —. Uses packet error checking (R417) -/
def B2W_PEC : Fam :=
  ⟨"B2W_PEC", 0xa020, 0x10, 2, 0x4, .bool, .rw, 2, true, [.num 1],
    .nats [(0, 1)]⟩

/-- A020+0x10·u:05 U16 RW, default 0x0000, range Bit map, unit —. Sticky: [0] ARB_LOST, [1] ARB_LOST_SR_STOP, [2] SCL_TMO, [3] SDA_TMO, [4] NACK, [5] PEC_ERR, [6] STRETCH_TMO. [15:7] reserved (R417) -/
def B2W_FLAGS : Fam :=
  ⟨"B2W_FLAGS", 0xa020, 0x10, 2, 0x5, .u16, .rw, 1, false, [.num 0],
    .mask 0x7f⟩

/-- A020+0x10·u:06 U32 RO, default 0, range 0–0xFFFF_FFFF, unit —. Failed transactions (R417) -/
def B2W_ERR_CNT : Fam :=
  ⟨"B2W_ERR_CNT", 0xa020, 0x10, 2, 0x6, .u32, .ro, 2, false, [.num 0],
    .nats [(0, 4294967295)]⟩

/-- A020+0x10·u:07 U32 RO, default 0, range 0–0xFFFF_FFFF, unit —. Falling edges on BALERT (R417) -/
def BALERT_CNT : Fam :=
  ⟨"BALERT_CNT", 0xa020, 0x10, 2, 0x7, .u32, .ro, 2, false, [.num 0],
    .nats [(0, 4294967295)]⟩

/-- A040+0x10·u:01 BOOL RWS, default 1, range 0–1, unit —. Enables the port (R418) -/
def CAN_EN : Fam :=
  ⟨"CAN_EN", 0xa040, 0x10, 2, 0x1, .bool, .rws, 2, true, [.num 1],
    .nats [(0, 1)]⟩

/-- A040+0x10·u:02 U8 RWS, default 1, range 1–127, unit —. Node number for the compact transport (R418) -/
def CAN_NODE : Fam :=
  ⟨"CAN_NODE", 0xa040, 0x10, 2, 0x2, .u8, .rws, 2, true, [.num 1],
    .nats [(1, 127)]⟩

/-- A040+0x10·u:03 U32 RWS, default 1000000, range 125000, 250000, 500000, 1000000, unit bit/s. Arbitration rate (R418) -/
def CAN_ARB : Fam :=
  ⟨"CAN_ARB", 0xa040, 0x10, 2, 0x3, .u32, .rws, 2, true, [.num 1000000],
    .nats [(125000, 125000), (250000, 250000), (500000, 500000), (1000000, 1000000)]⟩

/-- A040+0x10·u:04 U32 RWS, default 5000000, range 1000000–5000000, unit bit/s. Data-phase rate (R418) -/
def CAN_DATA : Fam :=
  ⟨"CAN_DATA", 0xa040, 0x10, 2, 0x4, .u32, .rws, 2, true, [.num 5000000],
    .nats [(1000000, 5000000)]⟩

/-- A040+0x10·u:05 BOOL RW, default 0, range 0–1, unit —. 120 Ω termination (R418) -/
def CAN_TERM : Fam :=
  ⟨"CAN_TERM", 0xa040, 0x10, 2, 0x5, .bool, .rw, 2, true, [.num 0],
    .nats [(0, 1)]⟩

/-- A040+0x10·u:06 U16 RWS, default 0x300, range 0x000–0x7C0, unit —. First 11-bit identifier of the compact transport (R418) -/
def CAN_OD_BASE : Fam :=
  ⟨"CAN_OD_BASE", 0xa040, 0x10, 2, 0x6, .u16, .rws, 2, true, [.num 0x300],
    .nats [(0, 1984)]⟩

/-- A040+0x10·u:07 U8 RO, default 0, range 0–2, unit —. 0 error-active, 1 error-passive, 2 bus-off (R418) -/
def CAN_STATE : Fam :=
  ⟨"CAN_STATE", 0xa040, 0x10, 2, 0x7, .u8, .ro, 2, false, [.num 0],
    .nats [(0, 2)]⟩

/-- A040+0x10·u:08 U32 RO, default 0, range 0–0xFFFF_FFFF, unit —. Entries to bus-off (R418) -/
def CAN_BUSOFF_CNT : Fam :=
  ⟨"CAN_BUSOFF_CNT", 0xa040, 0x10, 2, 0x8, .u32, .ro, 2, false, [.num 0],
    .nats [(0, 4294967295)]⟩

/-- A100+m:01 BOOL RWC, default 0, range 0–1, unit —. Enables the mapping (R419) -/
def MAP_EN : Fam :=
  ⟨"MAP_EN", 0xa100, 0x1, 32, 0x1, .bool, .rwc, 2, true, [.num 0],
    .nats [(0, 1)]⟩

/-- A100+m:02 U8 RWC, default 0, range 0–1, unit —. Bus u (R419) -/
def MAP_BUS : Fam :=
  ⟨"MAP_BUS", 0xa100, 0x1, 32, 0x2, .u8, .rwc, 2, true, [.num 0],
    .nats [(0, 1)]⟩

/-- A100+m:03 U32 RWC, default 0, range Bit map, unit —. [28:0] identifier, [31] extended. [30:29] reserved (R419) -/
def MAP_ID : Fam :=
  ⟨"MAP_ID", 0xa100, 0x1, 32, 0x3, .u32, .rwc, 2, true, [.num 0],
    .mask 0x9fffffff⟩

/-- A100+m:04 U32 RWC, default 0x1FFF_FFFF, range 0–0x1FFF_FFFF, unit —. Identifier bits compared (R419) -/
def MAP_MASK : Fam :=
  ⟨"MAP_MASK", 0xa100, 0x1, 32, 0x4, .u32, .rwc, 2, true, [.num 0x1fffffff],
    .nats [(0, 536870911)]⟩

/-- A100+m:05 U8 RWC, default 0, range 0–63, unit bytes. Field offset in the data (R419) -/
def MAP_OFS : Fam :=
  ⟨"MAP_OFS", 0xa100, 0x1, 32, 0x5, .u8, .rwc, 2, true, [.num 0],
    .nats [(0, 63)]⟩

/-- A100+m:06 U8 RWC, default 0, range Bit map, unit —. [2:0] 0 U8, 1 U16, 2 U32, 3 I16, 4 I32, 5 F32. [3] most significant byte first. [7:4] reserved (R419) -/
def MAP_FMT : Fam :=
  ⟨"MAP_FMT", 0xa100, 0x1, 32, 0x6, .u8, .rwc, 2, true, [.num 0],
    .mask 0xf⟩

/-- A100+m:07 F32 RWC, default 1, range −1e6–1e6, unit —. Scale (R419) -/
def MAP_SCALE : Fam :=
  ⟨"MAP_SCALE", 0xa100, 0x1, 32, 0x7, .f32, .rwc, 2, true, [.num 0x3f800000],
    .rats [(mkRat (-1000000) 1, mkRat 1000000 1)]⟩

/-- A100+m:08 F32 RWC, default 0, range −1e6–1e6, unit —. Offset, in the target's unit (R419) -/
def MAP_OFFSET : Fam :=
  ⟨"MAP_OFFSET", 0xa100, 0x1, 32, 0x8, .f32, .rwc, 2, true, [.num 0],
    .rats [(mkRat (-1000000) 1, mkRat 1000000 1)]⟩

/-- A100+m:09 U32 RWC, default 0, range Bit map, unit —. [15:0] index, [23:16] subindex, [31:24] reserved (R419) -/
def MAP_TARGET : Fam :=
  ⟨"MAP_TARGET", 0xa100, 0x1, 32, 0x9, .u32, .rwc, 2, true, [.num 0],
    .mask 0xffffff⟩

/-- A100+m:0A U16 RWC, default 0, range 0–60000, unit ms. Staleness timeout. 0: none (R419) -/
def MAP_STALE_T : Fam :=
  ⟨"MAP_STALE_T", 0xa100, 0x1, 32, 0xa, .u16, .rwc, 2, true, [.num 0],
    .nats [(0, 60000)]⟩

/-- A100+m:0B U8 RO, default 0, range 0–3, unit —. 0 unused, 1 fresh, 2 stale, 3 target refused the latest write (R419) -/
def MAP_STATE : Fam :=
  ⟨"MAP_STATE", 0xa100, 0x1, 32, 0xb, .u8, .ro, 2, false, [.num 0],
    .nats [(0, 3)]⟩

/-- A100+m:0C U32 RO, default 0, range 0–0xFFFF_FFFF, unit —. Frames decoded (R419) -/
def MAP_RX_CNT : Fam :=
  ⟨"MAP_RX_CNT", 0xa100, 0x1, 32, 0xc, .u32, .ro, 2, false, [.num 0],
    .nats [(0, 4294967295)]⟩

/-- B000:01 U8 RW, default 2, range 1–3, unit —. Lowest class that stops FAULT conducting: 1 C, 2 U, 3 F (R420) -/
def FAULT_MINCLASS : Fam :=
  ⟨"FAULT_MINCLASS", 0xb000, 0x1, 1, 0x1, .u8, .rw, 2, true, [.num 2],
    .nats [(1, 3)]⟩

/-- B000:02 BOOL RO, default 0, range 0–1, unit —. 1: FAULT conducting (R48) (R420) -/
def FAULT_OUT : Fam :=
  ⟨"FAULT_OUT", 0xb000, 0x1, 1, 0x2, .bool, .ro, 2, false, [.num 0],
    .nats [(0, 1)]⟩

/-- B000:03 U16 RO, default 0x0000, range Bit per block b, unit —. Blocks with an uncleared fault (R420) -/
def FLT_SUMMARY : Fam :=
  ⟨"FLT_SUMMARY", 0xb000, 0x1, 1, 0x3, .u16, .ro, 2, false, [.num 0],
    .any⟩

/-- B000:04 BOOL RWS, default 0, range 0–1, unit —. Permits FLT_INJECT (R420) -/
def INJ_EN : Fam :=
  ⟨"INJ_EN", 0xb000, 0x1, 1, 0x4, .bool, .rws, 3, true, [.num 0],
    .nats [(0, 1)]⟩

/-- B010:01 U32 RW, default 1000000, range 1000–0x7FFF_FFFF, unit TB ticks. t_open after the latest accepted service (R421) -/
def KPR_OPEN : Fam :=
  ⟨"KPR_OPEN", 0xb010, 0x1, 1, 0x1, .u32, .rw, 2, false, [.num 1000000],
    .nats [(1000, 2147483647)]⟩

/-- B010:02 U32 RW, default 10000000, range 2000–0xFFFF_FFFF, unit TB ticks. t_close after the latest accepted service (R421) -/
def KPR_CLOSE : Fam :=
  ⟨"KPR_CLOSE", 0xb010, 0x1, 1, 0x2, .u32, .rw, 2, false, [.num 10000000],
    .nats [(2000, 4294967295)]⟩

/-- B010:03 U16 RW, default 0x0001, range 0x0001–0xFFFF, unit —. Enabled tasks (R421) -/
def KPR_TASKS : Fam :=
  ⟨"KPR_TASKS", 0xb010, 0x1, 1, 0x3, .u16, .rw, 2, false, [.num 1],
    .nats [(1, 65535)]⟩

/-- B010:04 U16 WO, default —, range 0x0000–0xFFFF, unit —. Service key. 0xB7E1 services (R421) -/
def KPR_KEY : Fam :=
  ⟨"KPR_KEY", 0xb010, 0x1, 1, 0x4, .u16, .wo, 2, false, [.num 0],
    .nats [(0, 65535)]⟩

/-- B010:05 U16 WO, default —, range 0x0001–0xFFFF, unit —. Check-in, one bit per task (R421) -/
def KPR_CHECKIN : Fam :=
  ⟨"KPR_CHECKIN", 0xb010, 0x1, 1, 0x5, .u16, .wo, 2, false, [.num 0],
    .nats [(1, 65535)]⟩

/-- B010:06 U8 RO, default 0, range 0–2, unit —. 0 off, 1 running, 2 suspended for flash erase (R421) -/
def KPR_STATE : Fam :=
  ⟨"KPR_STATE", 0xb010, 0x1, 1, 0x6, .u8, .ro, 2, false, [.num 0],
    .nats [(0, 2)]⟩

/-- B010:07 TIME64 RO, default 0, range —, unit TB ticks. t_open in force (R421) -/
def KPR_OPEN_T : Fam :=
  ⟨"KPR_OPEN_T", 0xb010, 0x1, 1, 0x7, .time64, .ro, 2, false, [.num 0],
    .any⟩

/-- B010:08 TIME64 RO, default 0, range —, unit TB ticks. t_close in force (R421) -/
def KPR_CLOSE_T : Fam :=
  ⟨"KPR_CLOSE_T", 0xb010, 0x1, 1, 0x8, .time64, .ro, 2, false, [.num 0],
    .any⟩

/-- B010:09 U16 RO, default 0x0000, range Bit per task, unit —. Checked in since the latest service (R421) -/
def KPR_SEEN : Fam :=
  ⟨"KPR_SEEN", 0xb010, 0x1, 1, 0x9, .u16, .ro, 2, false, [.num 0],
    .any⟩

/-- B010:0A U16 RW, default 0x0000, range Bit per task, unit —. Sticky DOUBLE flags. A write of 1 clears a bit (R421) -/
def KPR_DOUBLE : Fam :=
  ⟨"KPR_DOUBLE", 0xb010, 0x1, 1, 0xa, .u16, .rw, 2, false, [.num 0],
    .any⟩

/-- B010:0B U16 RO, default 0x0000, range Bit per task, unit —. Tasks missing at the latest expiry (R421) -/
def KPR_MISSING : Fam :=
  ⟨"KPR_MISSING", 0xb010, 0x1, 1, 0xb, .u16, .ro, 2, false, [.num 0],
    .any⟩

/-- B010:0C U8 RO, default 0, range 0–2, unit —. Latest expiry: 0 none, 1 late, 2 early (R421) -/
def KPR_CAUSE : Fam :=
  ⟨"KPR_CAUSE", 0xb010, 0x1, 1, 0xc, .u8, .ro, 2, false, [.num 0],
    .nats [(0, 2)]⟩

/-- B010:0D U32 RO, default 0, range —, unit —. SUP0 program counter at the latest expiry (R421) -/
def KPR_PC0 : Fam :=
  ⟨"KPR_PC0", 0xb010, 0x1, 1, 0xd, .u32, .ro, 2, false, [.num 0],
    .any⟩

/-- B010:0E U32 RO, default 0, range —, unit —. SUP1 program counter at the latest expiry (R421) -/
def KPR_PC1 : Fam :=
  ⟨"KPR_PC1", 0xb010, 0x1, 1, 0xe, .u32, .ro, 2, false, [.num 0],
    .any⟩

/-- B010:0F TIME64 RO, default 0, range —, unit TB ticks. Latest accepted service before that expiry (R421) -/
def KPR_LAST_SVC : Fam :=
  ⟨"KPR_LAST_SVC", 0xb010, 0x1, 1, 0xf, .time64, .ro, 2, false, [.num 0],
    .any⟩

/-- B010:10 U32 RO, default 0, range 0–0xFFFF_FFFF, unit —. Expiries (R421) -/
def KPR_EXP_CNT : Fam :=
  ⟨"KPR_EXP_CNT", 0xb010, 0x1, 1, 0x10, .u32, .ro, 2, true, [.num 0],
    .nats [(0, 4294967295)]⟩

/-- B010:11 U32 RO, default 0, range 0–0xFFFF_FFFF, unit —. Key writes rejected (R421) -/
def KPR_REJ_CNT : Fam :=
  ⟨"KPR_REJ_CNT", 0xb010, 0x1, 1, 0x11, .u32, .ro, 2, false, [.num 0],
    .nats [(0, 4294967295)]⟩

/-- B100+0x10·b:01 U32 RW, default 0, range Bit per source, unit —. Sources seen since cleared (R422) -/
def FLT_STICKY : Fam :=
  ⟨"FLT_STICKY", 0xb100, 0x10, 16, 0x1, .u32, .rw, 1, false, [.num 0],
    .any⟩

/-- B100+0x10·b:02 U32 RO, default 0, range Bit per source, unit —. Sources active now (R422) -/
def FLT_ACTIVE : Fam :=
  ⟨"FLT_ACTIVE", 0xb100, 0x10, 16, 0x2, .u32, .ro, 2, false, [.num 0],
    .any⟩

/-- B100+0x10·b:03 U8 RO, default 0, range 0–3, unit —. Highest uncleared class: 0 none, 1 C, 2 U, 3 F (R422) -/
def FLT_CLASS : Fam :=
  ⟨"FLT_CLASS", 0xb100, 0x10, 16, 0x3, .u8, .ro, 2, false, [.num 0],
    .nats [(0, 3)]⟩

/-- B100+0x10·b:04 U32 RW, default 0xFFFF_FFFF, range Bit per source, unit —. Sources that interrupt SUP (R422) -/
def FLT_IRQ_EN : Fam :=
  ⟨"FLT_IRQ_EN", 0xb100, 0x10, 16, 0x4, .u32, .rw, 1, true, [.num 0xffffffff],
    .any⟩

/-- B100+0x10·b:05 U32 RW, default 100, range 1–10000, unit ms. Grace time for class U (R422) -/
def FLT_GRACE : Fam :=
  ⟨"FLT_GRACE", 0xb100, 0x10, 16, 0x5, .u32, .rw, 2, true, [.num 100],
    .nats [(1, 10000)]⟩

/-- B100+0x10·b:06 U8 RW, default R424, range 0–2, unit —. Escalation: 0 block reset, 1 stage trip, 2 module SAFESTOP (R422) -/
def FLT_ACTION : Fam :=
  ⟨"FLT_ACTION", 0xb100, 0x10, 16, 0x6, .u8, .rw, 2, true, [.num 2, .num 1, .num 1, .num 0, .num 2, .num 2, .num 0, .num 0, .num 0, .num 0, .num 0, .num 0, .num 2, .num 2, .num 2, .num 0],
    .nats [(0, 2)]⟩

/-- B100+0x10·b:07 U32 RW, default 1000, range 10–600000, unit ms. Quiet period before recovery (R422) -/
def FLT_QUIET : Fam :=
  ⟨"FLT_QUIET", 0xb100, 0x10, 16, 0x7, .u32, .rw, 2, true, [.num 1000],
    .nats [(10, 600000)]⟩

/-- B100+0x10·b:08 U32 RO, default 0, range 0–0xFFFF_FFFF, unit —. Recoveries counted (R422) -/
def FLT_RECOV : Fam :=
  ⟨"FLT_RECOV", 0xb100, 0x10, 16, 0x8, .u32, .ro, 2, false, [.num 0],
    .nats [(0, 4294967295)]⟩

/-- B100+0x10·b:09 U8 RW, default 5, range 1–255, unit —. Recoveries that latch (R422) -/
def FLT_RLIM : Fam :=
  ⟨"FLT_RLIM", 0xb100, 0x10, 16, 0x9, .u8, .rw, 2, true, [.num 5],
    .nats [(1, 255)]⟩

/-- B100+0x10·b:0A U32 RW, default 3600, range 1–86400, unit s. Window for FLT_RLIM (R422) -/
def FLT_RWIN : Fam :=
  ⟨"FLT_RWIN", 0xb100, 0x10, 16, 0xa, .u32, .rw, 2, true, [.num 3600],
    .nats [(1, 86400)]⟩

/-- B100+0x10·b:0B BOOL RW, default 0, range 0–1, unit —. Fault latched by the recovery limit (R422) -/
def FLT_LATCHED : Fam :=
  ⟨"FLT_LATCHED", 0xb100, 0x10, 16, 0xb, .bool, .rw, 2, false, [.num 0],
    .nats [(0, 1)]⟩

/-- B100+0x10·b:0C U32 WO, default —, range Bit per source, unit —. Inverts the check bits of the named sources once. Refused with MODE_FORBIDS while INJ_EN is 0 (R422) -/
def FLT_INJECT : Fam :=
  ⟨"FLT_INJECT", 0xb100, 0x10, 16, 0xc, .u32, .wo, 3, false, [.num 0],
    .any⟩

/-- B100+0x10·b:0D U32 RO, default 0, range 0–0xFFFF_FFFF, unit —. Escalations by hardware (R422) -/
def FLT_ESC_CNT : Fam :=
  ⟨"FLT_ESC_CNT", 0xb100, 0x10, 16, 0xd, .u32, .ro, 2, false, [.num 0],
    .nats [(0, 4294967295)]⟩

/-- C000:01 TIME64 RO, default 0, range —, unit TB ticks. TB at the read's acceptance (R425) -/
def TB : Fam :=
  ⟨"TB", 0xc000, 0x1, 1, 0x1, .time64, .ro, 2, false, [.num 0],
    .any⟩

/-- C000:02 BOOL RO, default 0, range 0–1, unit —. Main PLL locked (R425) -/
def PLL_LOCK : Fam :=
  ⟨"PLL_LOCK", 0xc000, 0x1, 1, 0x2, .bool, .ro, 2, false, [.num 0],
    .nats [(0, 1)]⟩

/-- C000:03 U64 RW, default 0, range 0–0xFFFF_FFFF_FFFF, unit s since 1970. Real-time clock, UTC. A write sets it (R425) -/
def RTC : Fam :=
  ⟨"RTC", 0xc000, 0x1, 1, 0x3, .u64, .rw, 2, false, [.num 0],
    .nats [(0, 281474976710655)]⟩

/-- C000:04 U32 RO, default 0, range 0–0xFFFF_FFFF, unit —. PLL or TCXO failures (R425) -/
def CLK_FAIL_CNT : Fam :=
  ⟨"CLK_FAIL_CNT", 0xc000, 0x1, 1, 0x4, .u32, .ro, 2, false, [.num 0],
    .nats [(0, 4294967295)]⟩

/-- C100+c:01 U8 RW, default 0, range 0–2, unit —. 0 off, 1 one-shot, 2 auto-add (R425) -/
def CMP_MODE : Fam :=
  ⟨"CMP_MODE", 0xc100, 0x1, 32, 0x1, .u8, .rw, 2, false, [.num 0],
    .nats [(0, 2)]⟩

/-- C100+c:02 TIME64 RW, default 0, range —, unit TB ticks. Compare register (R425) -/
def CMP_VAL : Fam :=
  ⟨"CMP_VAL", 0xc100, 0x1, 32, 0x2, .time64, .rw, 2, false, [.num 0],
    .any⟩

/-- C100+c:03 TIME64 RW, default 0, range 0–0xFFFF_FFFF_FFFF_FFFF, unit TB ticks. Interval added at each match in auto-add (R425) -/
def CMP_INT : Fam :=
  ⟨"CMP_INT", 0xc100, 0x1, 32, 0x3, .time64, .rw, 2, false, [.num 0],
    .nats [(0, 18446744073709551615)]⟩

/-- C100+c:04 U8 RO, default 0, range 0–2, unit —. 0 off, 1 armed, 2 matched and stopped (R425) -/
def CMP_STATE : Fam :=
  ⟨"CMP_STATE", 0xc100, 0x1, 32, 0x4, .u8, .ro, 2, false, [.num 0],
    .nats [(0, 2)]⟩

/-- C100+c:05 U32 RO, default 0, range 0–0xFFFF_FFFF, unit —. Matches (R425) -/
def CMP_CNT : Fam :=
  ⟨"CMP_CNT", 0xc100, 0x1, 32, 0x5, .u32, .ro, 2, false, [.num 0],
    .nats [(0, 4294967295)]⟩

/-- C200:01 U8 RO, default 1, range 1–8, unit —. Latest reset: 1 POR, 2 BOR, 3 WRST by pin, 4 WRST by command, 5 WDRST, 6 SFRST, 7 NRST, 8 wake from HIBERNATE (R425) -/
def RST_CAUSE : Fam :=
  ⟨"RST_CAUSE", 0xc200, 0x1, 1, 0x1, .u8, .ro, 2, false, [.num 1],
    .nats [(1, 8)]⟩

/-- C200:02 U8 WO, default —, range 1, unit —. Commands a reset (R426) (R425) -/
def RST_CMD : Fam :=
  ⟨"RST_CMD", 0xc200, 0x1, 1, 0x2, .u8, .wo, 2, false, [.num 0],
    .nats [(1, 1)]⟩

/-- C200:03 BLOB RO, default Zeros, range 32 bytes, unit —. U32 count for each RST_CAUSE code 1–8, in code order (R425) -/
def RST_CNTS : Fam :=
  ⟨"RST_CNTS", 0xc200, 0x1, 1, 0x3, .blob, .ro, 2, true, [.bytes (List.replicate 32 0)],
    .len 32 32⟩

/-- C200:04 BOOL RWS, default 0, range 0–1, unit —. Accepts network-commanded resets (R425) -/
def NRST_EN : Fam :=
  ⟨"NRST_EN", 0xc200, 0x1, 1, 0x4, .bool, .rws, 2, true, [.num 0],
    .nats [(0, 1)]⟩

/-- C200:05 BOOL RO, default 0, range 0–1, unit —. Retention SRAM survived the latest reset (R425) -/
def RET_VALID : Fam :=
  ⟨"RET_VALID", 0xc200, 0x1, 1, 0x5, .bool, .ro, 2, false, [.num 0],
    .nats [(0, 1)]⟩

/-- C300:01 U8 RW, default 0x0F, range 0x00–0x0F, unit —. Wake sources: [0] WAKE pin, [1] network, [2] USB attach, [3] RTC (R425) -/
def WAKE_EN : Fam :=
  ⟨"WAKE_EN", 0xc300, 0x1, 1, 0x1, .u8, .rw, 2, true, [.num 0xf],
    .nats [(0, 15)]⟩

/-- C300:02 U64 RW, default 0, range 0–0xFFFF_FFFF_FFFF, unit s since 1970. RTC wake time. 0: none (R425) -/
def WAKE_RTC : Fam :=
  ⟨"WAKE_RTC", 0xc300, 0x1, 1, 0x2, .u64, .rw, 2, false, [.num 0],
    .nats [(0, 281474976710655)]⟩

/-- C300:03 U8 RO, default 0, range 0–5, unit —. Latest wake: 0 none, 1 WAKE pin, 2 network, 3 USB attach, 4 RTC, 5 tamper switch (R514) (R425) -/
def WAKE_LAST : Fam :=
  ⟨"WAKE_LAST", 0xc300, 0x1, 1, 0x3, .u8, .ro, 2, false, [.num 0],
    .nats [(0, 5)]⟩

/-- D000:01 U32 RO, default 0, range 0–0xFFFF_FFFF, unit —. Event records held (R427) -/
def LOG_CNT : Fam :=
  ⟨"LOG_CNT", 0xd000, 0x1, 1, 0x1, .u32, .ro, 2, false, [.num 0],
    .nats [(0, 4294967295)]⟩

/-- D000:02 U32 RO, default 0, range 0–0xFFFF_FFFF, unit —. Sequence number of the next record, counted over the life of the module (R427) -/
def LOG_NEXT : Fam :=
  ⟨"LOG_NEXT", 0xd000, 0x1, 1, 0x2, .u32, .ro, 2, false, [.num 0],
    .nats [(0, 4294967295)]⟩

/-- D000:03 U32 RO, default 0, range 0–0xFFFF_FFFF, unit —. Oldest records overwritten (R427) -/
def LOG_OVERWRITE : Fam :=
  ⟨"LOG_OVERWRITE", 0xd000, 0x1, 1, 0x3, .u32, .ro, 2, false, [.num 0],
    .nats [(0, 4294967295)]⟩

/-- D000:04 U32 RW, default 0, range 0–0xFFFF_FFFF, unit —. Record to read (R427) -/
def LOG_RD_SEQ : Fam :=
  ⟨"LOG_RD_SEQ", 0xd000, 0x1, 1, 0x4, .u32, .rw, 2, false, [.num 0],
    .nats [(0, 4294967295)]⟩

/-- D000:05 BLOB RO, default —, range 0–64 bytes, unit —. Record at LOG_RD_SEQ. Empty when it is no longer held (R427) -/
def LOG_REC : Fam :=
  ⟨"LOG_REC", 0xd000, 0x1, 1, 0x5, .blob, .ro, 2, false, [.bytes []],
    .len 0 64⟩

/-- D000:06 U8 RW, default 1, range 1–2, unit —. Lowest fault class recorded: 1 C, 2 U. Classes U and F are always recorded (R427) -/
def LOG_MINCLASS : Fam :=
  ⟨"LOG_MINCLASS", 0xd000, 0x1, 1, 0x6, .u8, .rw, 2, true, [.num 1],
    .nats [(1, 2)]⟩

/-- E000:01 U8 RO, default 0, range 0–3, unit —. Level of the reading requester's session (R428) -/
def SESSION_LVL : Fam :=
  ⟨"SESSION_LVL", 0xe000, 0x1, 1, 0x1, .u8, .ro, 2, false, [.num 0],
    .nats [(0, 3)]⟩

/-- E000:02 BLOB WO, default —, range 1–64 bytes, unit —. Presents a credential. A failure is answered AUTH_FAIL (R428) -/
def CRED_LOGIN : Fam :=
  ⟨"CRED_LOGIN", 0xe000, 0x1, 1, 0x2, .blob, .wo, 0, false, [.bytes []],
    .len 1 64⟩

/-- E000:03 U8 WO, default —, range 1, unit —. Returns the session to L0 (R428) -/
def CRED_LOGOUT : Fam :=
  ⟨"CRED_LOGOUT", 0xe000, 0x1, 1, 0x3, .u8, .wo, 0, false, [.num 0],
    .nats [(1, 1)]⟩

/-- E000:04 BLOB WO, default —, range 2–65 bytes, unit —. Byte 0: level 1–3. Then the new credential (R428) -/
def CRED_SET : Fam :=
  ⟨"CRED_SET", 0xe000, 0x1, 1, 0x4, .blob, .wo, 2, false, [.bytes []],
    .len 2 65⟩

/-- E000:05 U8 RO, default 0x00, range Bit map, unit —. [0] L1, [1] L2, [2] L3 credential set. [7:3] reserved (R428) -/
def CRED_STATE : Fam :=
  ⟨"CRED_STATE", 0xe000, 0x1, 1, 0x5, .u8, .ro, 2, false, [.num 0],
    .mask 0x7⟩

/-- E000:06 U8 RO, default 0, range 0–2, unit —. 0 present, 1 erasing, 2 erased (R428) -/
def SECRET_STATE : Fam :=
  ⟨"SECRET_STATE", 0xe000, 0x1, 1, 0x6, .u8, .ro, 2, false, [.num 0],
    .nats [(0, 2)]⟩

/-- E000:07 U16 WO, default —, range 0xE5E5, unit —. Erases every secret (R428) -/
def SECRET_ERASE : Fam :=
  ⟨"SECRET_ERASE", 0xe000, 0x1, 1, 0x7, .u16, .wo, 3, false, [.num 0],
    .nats [(58853, 58853)]⟩

/-- E000:08 U8 RO, default 0, range 0–3, unit —. Latest erase: 0 none, 1 Deep Service, 2 tamper, 3 command (R428) -/
def ERASE_CAUSE : Fam :=
  ⟨"ERASE_CAUSE", 0xe000, 0x1, 1, 0x8, .u8, .ro, 2, false, [.num 0],
    .nats [(0, 3)]⟩

/-- E000:09 TIME64 RO, default 0, range —, unit TB ticks. Completion of the latest erase (R428) -/
def ERASE_T : Fam :=
  ⟨"ERASE_T", 0xe000, 0x1, 1, 0x9, .time64, .ro, 2, false, [.num 0],
    .any⟩

/-- E000:0A U8 RO, default 0, range 0–2, unit —. 0 closed, 1 open, 2 closed again after an opening (R428) -/
def TAMPER_STATE : Fam :=
  ⟨"TAMPER_STATE", 0xe000, 0x1, 1, 0xa, .u8, .ro, 2, false, [.num 0],
    .nats [(0, 2)]⟩

/-- E000:0B BLOB WO, default —, range 16 bytes, unit —. Authentication key of the own ring (R428) -/
def RING_KEY_OWN : Fam :=
  ⟨"RING_KEY_OWN", 0xe000, 0x1, 1, 0xb, .blob, .wo, 3, false, [.bytes []],
    .len 16 16⟩

/-- E000:0C BLOB WO, default —, range 16 bytes, unit —. Authentication key of the parent ring (R428) -/
def RING_KEY_PAR : Fam :=
  ⟨"RING_KEY_PAR", 0xe000, 0x1, 1, 0xc, .blob, .wo, 3, false, [.bytes []],
    .len 16 16⟩

/-- E000:0D U8 RO, default 0x00, range Bit map, unit —. [0] own ring key, [1] parent ring key, [2] signing key present. [7:3] reserved (R428) -/
def KEY_STATE : Fam :=
  ⟨"KEY_STATE", 0xe000, 0x1, 1, 0xd, .u8, .ro, 2, false, [.num 0],
    .mask 0x7⟩

/-- E000:0E U8 WO, default —, range 1, unit —. Generates a new energy-record signing key, and ESIG_PUB with it (R428) -/
def SIGN_KEYGEN : Fam :=
  ⟨"SIGN_KEYGEN", 0xe000, 0x1, 1, 0xe, .u8, .wo, 3, false, [.num 0],
    .nats [(1, 1)]⟩

/-- E000:0F U8 RO, default 0, range 0–1, unit —. Bank running (R428) -/
def FW_BANK : Fam :=
  ⟨"FW_BANK", 0xe000, 0x1, 1, 0xf, .u8, .ro, 2, false, [.num 0],
    .nats [(0, 1)]⟩

/-- E000:10 U32 RO, default 0, range —, unit —. Version in the other bank, laid out as FW_VER. 0: empty (R428) -/
def FW_ALT_VER : Fam :=
  ⟨"FW_ALT_VER", 0xe000, 0x1, 1, 0x10, .u32, .ro, 2, false, [.num 0],
    .any⟩

/-- E000:11 U8 RO, default 0, range 0–3, unit —. Other bank: 0 empty, 1 loading, 2 verified, 3 failed verification (R428) -/
def FW_ALT_STATE : Fam :=
  ⟨"FW_ALT_STATE", 0xe000, 0x1, 1, 0x11, .u8, .ro, 2, false, [.num 0],
    .nats [(0, 3)]⟩

/-- E000:12 BLOB WO, default —, range 0–8,388,608 bytes, unit —. Image for the other bank, written in segments (R386) (R428) -/
def FW_IMG : Fam :=
  ⟨"FW_IMG", 0xe000, 0x1, 1, 0x12, .blob, .wo, 3, false, [.bytes []],
    .len 0 8388608⟩

/-- E000:13 U8 WO, default —, range 1, unit —. Runs the other bank from the next reset (R428) -/
def FW_SWITCH : Fam :=
  ⟨"FW_SWITCH", 0xe000, 0x1, 1, 0x13, .u8, .wo, 3, false, [.num 0],
    .nats [(1, 1)]⟩

/-- E000:14 U32 RO, default 0, range 0–0xFFFF_FFFF, unit —. Entries to Deep Service (R428) -/
def DEEP_CNT : Fam :=
  ⟨"DEEP_CNT", 0xe000, 0x1, 1, 0x14, .u32, .ro, 2, false, [.num 0],
    .nats [(0, 4294967295)]⟩

end E

/-- Part 0 of the table of every entry (R409). -/
def families0 : List Fam := [
  E.ENV_REQ, E.ENV_EFF, E.ENV_SRC, E.PATH_ACT, E.PATH_REASON,
  E.COUPLING_REQ, E.COUPLING_ACT, E.POWER_REQ, E.POWER_ACT, E.FLEET_ENV,
  E.TRANS_STATE, E.AUTO_HYST_P, E.AUTO_DWELL, E.BS_TARGET, E.ENV_BOOT,
  E.TICK_LAST, E.TICK_OVERRUN, E.SYS_VSET, E.SYS_SLEW, E.SUPP_DV,
  E.REGEN_DV1, E.REGEN_DV2, E.REGEN_DV3, E.P_SYS_LIM, E.REGEN_RANK,
  E.OVL_A, E.OVL_B, E.BRIDGE_EN, E.BRIDGE_VMIN, E.BRIDGE_VMAX,
  E.BRIDGE_MATCH, E.BRIDGE_QUAL, E.BRIDGE_RAMP, E.BRIDGE_STATE, E.BRIDGE_EXIT,
  E.BRIDGE_FORCED, E.DEAD_EN, E.DEAD_VMIN, E.DEAD_IMAX, E.DEAD_STATE]

/-- Part 1 of the table of every entry (R409). -/
def families1 : List Fam := [
  E.BRK_R, E.BRK_PCONT, E.BRK_TAU, E.BRK_HEAT, E.BRK_HEAT_PCT,
  E.BRK_WARN, E.BRK_LIMITING, E.BS_CONT_T, E.BS_BMS_REQ, E.BS_RAMP_T,
  E.BS_SETTLE, E.BS_TIMEOUT, E.BS_PMAX, E.BS_STATE, E.SS_RAMP,
  E.SS_CONT_REL, E.SS_STATE, E.SRC_POLICY, E.POLICY_EFF, E.IN_ITOT,
  E.IN_DRAW_TOT, E.MAN_SLACK, E.DOR_BAND, E.ADAPT_EN, E.ADAPT_PERIOD,
  E.ADAPT_STEP, E.ADAPT_VFLR, E.ADAPT_MARGIN, E.ADAPT_START, E.FLAP_N,
  E.FLAP_W, E.QUAL_UV, E.QUAL_OV, E.QUAL_HYST, E.QUAL_DLY,
  E.QUAL_DLY_EFF, E.QUAL_RIDE_T, E.QUAL_STATE, E.QUAL_CAUSE, E.QUAL_DROPS]

/-- Part 2 of the table of every entry (R409). -/
def families2 : List Fam := [
  E.QUAL_PREFAIL, E.IN_ILIM, E.IN_PLIM, E.IN_PRIO, E.IN_WEIGHT,
  E.IN_COST, E.IN_MAN_P, E.IN_BIDIR, E.IN_IREV, E.IN_RAMP,
  E.IN_ICEIL, E.IN_CEIL_SRC, E.IN_PHASES, E.ADAPT_RS, E.ADAPT_VOC,
  E.ADAPT_ILIM, E.ADAPT_STATE, E.ADAPT_BACKOFFS, E.STG_FSW, E.STG_PERIOD,
  E.STG_DEADT, E.STG_ORIGIN, E.LOOP_PRESET, E.LOOP_CEST, E.STG_NACT,
  E.STG_NMIN, E.STG_ADD_N, E.STG_FASTADD_I, E.STG_SHED_T, E.STG_SHED_RAMP,
  E.STG_RESPACE, E.STG_ARM_HOLD, E.ROT_EN, E.ROT_SPREAD, E.ROT_COUNT,
  E.STG_SHED_CANCEL, E.STG_FASTADDS, E.SST_DELAY, E.SST_RAMP, E.SST_IRAMP]

/-- Part 3 of the table of every entry (R409). -/
def families3 : List Fam := [
  E.SSP_DELAY, E.SSP_RAMP, E.SST_STATE, E.SST_HICCUP, E.FB_KNEE,
  E.FB_IMIN, E.FB_ACTIVE, E.PH_EN, E.PH_STATE, E.PH_I,
  E.PH_IREF, E.PH_ADD_I, E.PH_SHED_I, E.PH_SLOT, E.PH_TAP,
  E.PH_MODE, E.PH_PEAK_CNT, E.PH_ADDS, E.PH_FAULT, E.PH_HS_TEMP,
  E.LL_R, E.LL_TAU, E.LL_MAXDEV, E.LL_TRIM, E.V_REF,
  E.LL_DROOP_V, E.SNS_EN, E.SNS_STATE, E.SNS_RC, E.SNS_MAXCOMP,
  E.SNS_DROP, E.SNS_OPEN_CNT, E.INT_EN, E.INT_HORIZON, E.INT_T_ARM,
  E.INT_T_PB, E.INT_PB_MAX, E.INT_WIN, E.INT_DET, E.INT_WD_RAMP]

/-- Part 4 of the table of every entry (R409). -/
def families4 : List Fam := [
  E.INT_CMIN, E.INT_PENDING, E.INT_NEXT_T, E.INT_PB_V, E.INT_RX,
  E.INT_HIT, E.INT_MISSED, E.INT_LATE, E.INT_FAR, E.INT_DROPPED,
  E.INT_IGNORED, E.PROF_SEL, E.PROF_CMD, E.PROF_AUTOSTART, E.PROF_STATE,
  E.PROF_ACT, E.STEP_ACT, E.STEP_TIME, E.STEP_VISITS, E.STEP_EXIT,
  E.SUSP_CAUSE, E.PROF_RESULT, E.CHG_IREF, E.CHG_ILIM_EFF, E.CHG_VCEIL_EFF,
  E.CLAMP_SRC, E.BAT_AH_IN_LIFE, E.BAT_AH_OUT_LIFE, E.BAT_WH_IN_LIFE, E.BAT_WH_OUT_LIFE,
  E.PROF_NAME, E.PROF_FIRST, E.PROF_PRE_STEP, E.PROF_VCEIL, E.PROF_VFLOOR,
  E.PROF_IMAX, E.PROF_VTC, E.PROF_IRAMP, E.PROF_VRAMP, E.PROF_RESUME_T]

/-- Part 5 of the table of every entry (R409). -/
def families5 : List Fam := [
  E.PROF_RESUME_STEP, E.PROF_MAXVISITS, E.PROF_CHAIN, E.PROF_VALID, E.PROF_ERR,
  E.KIND, E.SP_A, E.SP_B, E.SP_T, E.SP_T2,
  E.LIM_I, E.LIM_V, E.T_MAX, E.NEXT, E.EX1,
  E.EX1_VAL, E.EX2, E.EX2_VAL, E.EX3, E.EX3_VAL,
  E.RUN_ENTRIES, E.RUN_T, E.RUN_AH_IN, E.RUN_AH_OUT, E.RUN_WH_IN,
  E.RUN_WH_OUT, E.RUN_SYSPRIO_T, E.RUN_CLAMP_T, E.RUN_HELD_T, E.RUN_V_END,
  E.RUN_EXIT, E.BMS_SRC, E.BMS_REQ, E.BMS_STALE_T, E.BMS_GRACE_T,
  E.BMS_GRACE_I, E.BMS_ICHG, E.BMS_IDIS, E.BMS_VMAX, E.BMS_VMIN]

/-- Part 6 of the table of every entry (R409). -/
def families6 : List Fam := [
  E.BMS_SOC, E.BMS_FLAGS, E.BMS_AGE, E.BMS_FRESH, E.BMS_STALE_CNT,
  E.BMS_SRC_REJ, E.BMS_CONT_MODE, E.BMS_WAKE_EN, E.BMS_WAKE_T, E.BMS_WAKE_TRIES,
  E.MOD_FLAGS, E.TEMP_EN, E.TEMP_VAL, E.TEMP_STATE, E.TD_COLD_STOP,
  E.TD_COLD_FULL, E.TD_HOT_FULL, E.TD_HOT_STOP, E.TD_FAIL, E.TD_F,
  E.TD_TEMP_HI, E.TD_TEMP_LO, E.SCAN_AMP, E.SCAN_FMIN, E.SCAN_FMAX,
  E.SCAN_PPD, E.SCAN_SETTLE, E.SCAN_CYCLES, E.SCAN_STATE, E.SCAN_NPTS,
  E.SCAN_RESULT, E.SCAN_T, E.SHARE_MODE, E.SEG_ID, E.SHARE_ROLE,
  E.SHARE_IDX, E.SHARE_GEN, E.SEG_N, E.SHARE_FLAGS, E.FENCE_CAUSE]

/-- Part 7 of the table of every entry (R409). -/
def families7 : List Fam := [
  E.FENCE_RAMP, E.SHARE_READMIT, E.FENCE_CNT, E.IL_EN, E.IL_OFFSET_A,
  E.IL_OFFSET_B, E.FR_SELF, E.FR_HEADS, E.TRIM_EN, E.TRIM_KI,
  E.TRIM_MAX, E.TRIM_SLEW, E.TRIM_HOLD, E.FR_EN, E.FR_DET,
  E.FR_T, E.FR_SLEW, E.FR_REL, E.DARK_N, E.TAKE_EN,
  E.RING_ENV, E.ROLE_DROP, E.DARK_CNT, E.TAKE_CNT, E.ALLOC_CNT,
  E.ALLOC_DROP, E.ALLOC_SHORT, E.FLEET_DEPTH, E.DEPTH_INT, E.RING_TABLE,
  E.PORT_EN, E.PROT_STATE, E.PROT_CAUSE, E.FT_MULT, E.FT_I,
  E.I2T_K, E.I2T_TAU, E.I2T_WARN, E.I2T_RESET, E.I2T_STATE]

/-- Part 8 of the table of every entry (R409). -/
def families8 : List Fam := [
  E.PROT_LATCH_N, E.PROT_LATCH_W, E.TRIP_CNT, E.TRIP_I, E.SW_TEMP,
  E.ESTOP_EN, E.ESTOP_STATE, E.ESTOP_CONT, E.ESTOP_ILKO, E.ILK_EN,
  E.ILK_STATE, E.ILK_FILT, E.ILK_CONT, E.ILK_OPEN_REQ, E.ILKO_STATE,
  E.SAFE_FORCE_SRC, E.CONT_STATE, E.CONT_PULL, E.CONT_HOLD, E.CONT_I,
  E.CONT_OC_CNT, E.OVP_DV, E.OVP_T, E.CLAMP_V, E.CLAMP_CNT,
  E.CLAMP_E, E.LINK_OV_CNT, E.HS_DERATE, E.HS_STOP, E.IMD_EN,
  E.IMD_GSYS, E.IMD_ROLE, E.IMD_STATE, E.IMD_RISO, E.IMD_POLE,
  E.IMD_CSYS, E.IMD_WARN, E.IMD_ALARM, E.IMD_PERIOD, E.IMD_ACTION]

/-- Part 9 of the table of every entry (R409). -/
def families9 : List Fam := [
  E.TEL_WIN1, E.TEL_WIN2, E.PK_AVG, E.COOL_IN, E.COOL_OUT,
  E.DERATE_F, E.HOLDUP_E, E.CC_P, E.CH_SAT, E.CH_INVALID,
  E.STEP_SNAP, E.STEP_LAST, E.TEL_V, E.TEL_I, E.TEL_P,
  E.TEL_V2, E.TEL_I2, E.TEL_P2, E.PK_SNAP, E.PK_LAST,
  E.E_POS, E.E_NEG, E.I_ZERO, E.PHT_I, E.PHT_IRMS,
  E.PHT_SNAP, E.CAP_MASK, E.CAP_DEC, E.CAP_PRE, E.CAP_TRIG_SRC,
  E.CAP_LVL_CH, E.CAP_LVL_HI, E.CAP_LVL_LO, E.CAP_CMP, E.CAP_DIP,
  E.CAP_NET_TX, E.CAP_CMD, E.CAP_STATE, E.CAP_NUM, E.CAP_TRIG_T]

/-- Part 10 of the table of every entry (R409). -/
def families10 : List Fam := [
  E.CAP_TRIG_CAUSE, E.CAP_FLAGS, E.CAP_LEN, E.CAP_TRIG_LOST, E.CAP_DEST,
  E.CAP_AUTO_REARM, E.CAP_RD_OFS, E.CAP_RD_DATA, E.CAP_STRM_STATUS, E.CAP_TMO,
  E.STRB_EN, E.STRB_MASK, E.STRB_DEC, E.STRB_DEST, E.STRB_MAXBW,
  E.STRB_GAPS, E.STRB_LOST, E.CABLE_CMD, E.CABLE_STEP, E.CABLE_STATE,
  E.CABLE_R, E.CABLE_L, E.CABLE_C, E.CABLE_T, E.CABLE_LWARN,
  E.CAL_STATE, E.CAL_ID, E.CAL_DATE, E.CAL_FIELD_CNT, E.CAL_SET,
  E.ESESS_CMD, E.ESESS_AUTO, E.ESESS_INT, E.ESESS_STATE, E.ESESS_NUM,
  E.ESESS_RD_NUM, E.ESESS_RD_SEQ, E.ESESS_REC, E.ESIG_PUB, E.ESIG_STATE]

/-- Part 11 of the table of every entry (R409). -/
def families11 : List Fam := [
  E.NET_RING, E.NET_STN, E.NET_ADDR, E.NET_ADDR_P, E.NET_ROLE,
  E.NET_FLAGS, E.NET_LPRIO, E.LGEN, E.LANT_ADDR, E.NET_HANDOVER,
  E.RING_N, E.RING_LOOP, E.RING_LOOP_MAX, E.RING_EXP_ROOM, E.RING_DEPTH,
  E.TRIP_BUDGET, E.DEPTH_TRIP, E.NTIME_OFS, E.NTIME_TRIM, E.NTIME_ERR,
  E.NET_TPM, E.SYNCO_EN, E.SYNCO_PER, E.SYNCI_MODE, E.SYNCI_CNT,
  E.ELECT_CNT, E.EXP_DEFER, E.EXP_LATE, E.NET_AUTH_FAIL, E.NET_REPLAY,
  E.NET_GEN_STALE, E.NET_LGEN_OLD, E.NET_BAD_HDR, E.NET_EXP_DROP, E.LINK_ROLE,
  E.LINK_STATE, E.LINK_PEER, E.LINK_DLY, E.LINK_LEN, E.LINK_FCS_ERR]

/-- Part 12 of the table of every entry (R409). -/
def families12 : List Fam := [
  E.LINK_YIELDS, E.LINK_DOWN_CNT, E.LINK_WAKE, E.LINK_WAKE_TX, E.CLS_QUANTUM,
  E.CLS_TX, E.CLS_RX, E.CLS_DROP, E.CLS_GAPS, E.EPOCH,
  E.OD_QTMO, E.REC_HOLD, E.REC_USED, E.REC_EARLY, E.STAGE_OWNER,
  E.STAGE_CNT, E.STAGE_TMO, E.STAGE_DISCARDS, E.JOURNAL_ROLLBACK, E.Q_DEPTH,
  E.Q_BYTES, E.Q_POLICY, E.Q_FILL, E.Q_MAX, E.Q_HWM,
  E.Q_LWM, E.Q_HIGH, E.Q_HWM_CNT, E.Q_DROP, E.Q_ERR,
  E.VENDOR, E.FAMILY, E.PART, E.HW_REV, E.FW_VER,
  E.SERIAL, E.MAC48, E.MFG_DATE, E.OD_MAP_VER, E.USER_TAG]

/-- Part 13 of the table of every entry (R409). -/
def families13 : List Fam := [
  E.PSTORE_USED, E.PSTORE_ERR, E.PSTORE_DEFAULTS, E.USB_STATE, E.USB_PWR_ROLE,
  E.USB_DATA_ROLE, E.USB_V, E.USB_I, E.USB_EPR, E.USB_SRC_EN,
  E.USB_SRC_PDO, E.USB_ROLE_PREF, E.USB_HRST_CNT, E.USB_PARTNER, E.USB_SVID,
  E.H2W_ADDR, E.H2W_PAGE, E.H2W_FLAGS, E.HALERT_EN, E.H2W_NACKS,
  E.H2W_XFERS, E.B2W_SPEED, E.B2W_TARGET, E.B2W_POLL, E.B2W_PEC,
  E.B2W_FLAGS, E.B2W_ERR_CNT, E.BALERT_CNT, E.CAN_EN, E.CAN_NODE,
  E.CAN_ARB, E.CAN_DATA, E.CAN_TERM, E.CAN_OD_BASE, E.CAN_STATE,
  E.CAN_BUSOFF_CNT, E.MAP_EN, E.MAP_BUS, E.MAP_ID, E.MAP_MASK]

/-- Part 14 of the table of every entry (R409). -/
def families14 : List Fam := [
  E.MAP_OFS, E.MAP_FMT, E.MAP_SCALE, E.MAP_OFFSET, E.MAP_TARGET,
  E.MAP_STALE_T, E.MAP_STATE, E.MAP_RX_CNT, E.FAULT_MINCLASS, E.FAULT_OUT,
  E.FLT_SUMMARY, E.INJ_EN, E.KPR_OPEN, E.KPR_CLOSE, E.KPR_TASKS,
  E.KPR_KEY, E.KPR_CHECKIN, E.KPR_STATE, E.KPR_OPEN_T, E.KPR_CLOSE_T,
  E.KPR_SEEN, E.KPR_DOUBLE, E.KPR_MISSING, E.KPR_CAUSE, E.KPR_PC0,
  E.KPR_PC1, E.KPR_LAST_SVC, E.KPR_EXP_CNT, E.KPR_REJ_CNT, E.FLT_STICKY,
  E.FLT_ACTIVE, E.FLT_CLASS, E.FLT_IRQ_EN, E.FLT_GRACE, E.FLT_ACTION,
  E.FLT_QUIET, E.FLT_RECOV, E.FLT_RLIM, E.FLT_RWIN, E.FLT_LATCHED]

/-- Part 15 of the table of every entry (R409). -/
def families15 : List Fam := [
  E.FLT_INJECT, E.FLT_ESC_CNT, E.TB, E.PLL_LOCK, E.RTC,
  E.CLK_FAIL_CNT, E.CMP_MODE, E.CMP_VAL, E.CMP_INT, E.CMP_STATE,
  E.CMP_CNT, E.RST_CAUSE, E.RST_CMD, E.RST_CNTS, E.NRST_EN,
  E.RET_VALID, E.WAKE_EN, E.WAKE_RTC, E.WAKE_LAST, E.LOG_CNT,
  E.LOG_NEXT, E.LOG_OVERWRITE, E.LOG_RD_SEQ, E.LOG_REC, E.LOG_MINCLASS,
  E.SESSION_LVL, E.CRED_LOGIN, E.CRED_LOGOUT, E.CRED_SET, E.CRED_STATE,
  E.SECRET_STATE, E.SECRET_ERASE, E.ERASE_CAUSE, E.ERASE_T, E.TAMPER_STATE,
  E.RING_KEY_OWN, E.RING_KEY_PAR, E.KEY_STATE, E.SIGN_KEYGEN, E.FW_BANK]

/-- Part 16 of the table of every entry (R409). -/
def families16 : List Fam := [
  E.FW_ALT_VER, E.FW_ALT_STATE, E.FW_IMG, E.FW_SWITCH, E.DEEP_CNT]

/-- Every entry of the object dictionary (R409). -/
def families : List Fam :=
  families0 ++ families1 ++ families2 ++ families3 ++ families4 ++ families5 ++ families6 ++ families7 ++ families8 ++ families9 ++ families10 ++ families11 ++ families12 ++ families13 ++ families14 ++ families15 ++ families16

end Sys2Proof.Machine
end

