-- ==== Sys2Proof/Machine/Num.lean ====
section
/-! DEFINITION. Machine/Num.lean: numbers as the dictionary carries them (R10). An F32 is an IEEE 754 binary32
pattern. The model computes with exact rationals and rounds to the nearest binary32, ties to even, when a value is
stored in an F32 entry (assumption log 3); values on the wire travel least significant byte first. -/

namespace Sys2Proof.Machine

/-- An F32 pattern that is neither a NaN nor an infinity (R379). -/
def f32Finite (raw : Nat) : Bool := (raw >>> 23) &&& 0xFF != 0xFF

/-- The number an F32 pattern stands for; 0 for a NaN or an infinity, which no entry holds (R379). -/
def f32ToRat (raw : Nat) : Rat :=
  let e := (raw >>> 23) &&& 0xFF
  let m := raw &&& 0x7FFFFF
  let mag : Rat :=
    if e == 0xFF then 0
    else if e == 0 then mkRat m (2 ^ 149)
    else if e ≥ 150 then ((0x800000 + m) * 2 ^ (e - 150) : Nat)
    else mkRat (0x800000 + m : Nat) (2 ^ (150 - e))
  if raw.testBit 31 then -mag else mag

/-- `n / d` rounded to the nearest whole number, ties to even. -/
def roundDiv (n d : Nat) : Nat :=
  let q := n / d
  let r := n % d
  if 2 * r > d || (2 * r == d && q % 2 == 1) then q + 1 else q

/-- The binary32 pattern nearest to a magnitude `n / d`, without its sign. -/
def f32OfMag (n d : Nat) : Nat :=
  if n == 0 || d == 0 then 0
  else
    let e0 : Int := (Nat.log2 n : Int) - (Nat.log2 d : Int) - 23
    let below : Bool := if e0 ≥ 0 then n < d * 2 ^ (23 + e0.toNat) else n * 2 ^ (-e0).toNat < d * 2 ^ 23
    let e1 : Int := if below then e0 - 1 else e0
    let e : Int := if e1 < -149 then -149 else e1
    let m := if e ≥ 0 then roundDiv n (d * 2 ^ e.toNat) else roundDiv (n * 2 ^ (-e).toNat) d
    let (m, e) := if m == 0x1000000 then (0x800000, e + 1) else (m, e)
    if m < 0x800000 then m
    else if e > 104 then 0x7F800000
    else (e + 150).toNat * 0x800000 + (m - 0x800000)

/-- The binary32 pattern nearest to `q`. -/
def f32OfRat (q : Rat) : Nat :=
  let mag := f32OfMag q.num.natAbs q.den
  if q < 0 && mag != 0 then mag + 0x80000000 else mag

/-- `q` rounded to binary32 and taken as a number again. -/
def f32Round (q : Rat) : Rat := f32ToRat (f32OfRat q)

/-- `q` on a grid of 2^-40, for the accumulators the module keeps beside its entries (assumption log 4). -/
def grid (q : Rat) : Rat := mkRat ((q * (2 ^ 40 : Nat)).floor) (2 ^ 40)

/-- `q` held within `lo` and `hi`. -/
def clampR (lo hi q : Rat) : Rat := if q < lo then lo else if hi < q then hi else q

def minR (a b : Rat) : Rat := if a ≤ b then a else b
def maxR (a b : Rat) : Rat := if a ≤ b then b else a

/-- The magnitude of `q`. -/
def absR (q : Rat) : Rat := if q < 0 then -q else q

/-- The nearest whole number, halves away from zero (the specification's round, R152, R154, R234). -/
def roundR (q : Rat) : Int := if q < 0 then -((-q + mkRat 1 2).floor) else (q + mkRat 1 2).floor

/-- A rational from a decimal: `dec 15 1` is 1.5. -/
def dec (m : Int) (digits : Nat) : Rat := mkRat m (10 ^ digits)

/-- `q` on a grid of 2^-80, within a computation. -/
def fine (q : Rat) : Rat := mkRat ((q * (2 ^ 80 : Nat)).floor) (2 ^ 80)

/-- The first `n` terms of a power series at `x`, by Horner's rule: term k + 1 is term k times x / d k. -/
def series (d : Nat → Rat) (x : Rat) : Nat → Nat → Rat
  | 0, _ => 1
  | n + 1, k => fine (1 + x / d k * series d x n (k + 1))

/-- `q` squared `n` times over. -/
def squared : Nat → Rat → Rat
  | 0, q => q
  | n + 1, q => squared n (fine (q * q))

/-- exp(−x) for x at least 0, far inside the grid of the accumulators (R96, R287, assumption log 4). -/
def expNeg (x : Rat) : Rat :=
  if x ≤ 0 then 1 else if 64 ≤ x then 0 else squared 6 (series (fun k => -((k + 1 : Nat) : Rat)) (x / 64) 24 0)

/-- sin(2πu) and, from the same series, the sinusoid of R233; π to 40 digits. -/
def sinTurns (u : Rat) : Rat :=
  let y := 2 * dec 31415926535897932384626433832795028841972 40 * (u - roundR u)
  fine (y * series (fun k => -(((2 * k + 2) * (2 * k + 3) : Nat) : Rat)) (y * y) 24 0)

/-- The greatest number of steps of 2^-20 whose `d`th power, times 10^`k`, stays within that of `top`. -/
def rootSteps (top : Rat) (d k : Nat) : Nat → Nat → Nat
  | 0, lo => lo
  | n + 1, lo =>
    let mid := lo + 2 ^ n
    rootSteps top d k n (if (mkRat mid (2 ^ 20)) ^ d * (10 ^ k : Nat) ≤ top ^ d then mid else lo)

/-- R234: `top` × 10^(−k / d), in steps of 2^-20. -/
def decadeBelow (top : Rat) (d k : Nat) : Rat := if d = 0 ∨ top ≤ 0 then top else mkRat (rootSteps top d k 40 0) (2 ^ 20)

/-- The greatest number of steps of 2^-20 whose square stays within `q`. -/
def sqrtSteps (q : Rat) : Nat → Nat → Nat
  | 0, lo => lo
  | n + 1, lo =>
    let mid := lo + 2 ^ n
    sqrtSteps q n (if mkRat mid (2 ^ 20) * mkRat mid (2 ^ 20) ≤ q then mid else lo)

/-- √`q` in steps of 2^-20, for `q` below 2^40. -/
def sqrtR (q : Rat) : Rat := if q ≤ 0 then 0 else mkRat (sqrtSteps q 40 0) (2 ^ 20)

/-- The greatest part of 255 that |V| = √`v2` has in |V| + `r` (R233): n with n·r ≤ (255 − n)·√v2. -/
def quality255 (v2 r : Rat) : Nat :=
  if r ≤ 0 then (if v2 ≤ 0 then 0 else 255)
  else ((List.range 255).filter (fun n => decide ((n + 1 : Nat) * (n + 1 : Nat) * r * r ≤ (254 - n : Nat) * (254 - n : Nat) * v2))).length

/-- The `n` bytes of `v`, least significant first (R10). -/
def leBytes : Nat → Nat → List Nat
  | 0, _ => []
  | n + 1, v => v % 256 :: leBytes n (v / 256)

/-- The number that little-endian bytes spell (R10). -/
def leNat : List Nat → Nat
  | [] => 0
  | b :: bs => b % 256 + 256 * leNat bs

/-- Two's complement of `n` bits read as a signed number. -/
def toSigned (bits n : Nat) : Int :=
  if n.testBit (bits - 1) then (n : Int) - (2 ^ bits : Nat) else n

/-- A signed number as `bits` bits of two's complement. -/
def ofSigned (bits : Nat) (z : Int) : Nat := (z % (2 ^ bits : Nat)).toNat

/-- R264: generation or sequence `a` is newer than `b` when (a - b) mod 65536 lies within 1 to 32767. -/
def newer (a b : Nat) : Bool :=
  let d := (a + 65536 - b % 65536) % 65536
  1 ≤ d && d ≤ 32767

/-- R264: the generation after `g`; an increment from 65535 gives 1. -/
def nextGen (g : Nat) : Nat := if g ≥ 65535 then 1 else g + 1

/-- A U32 counter that counts one up, staying within its 32 bits. -/
def inc32 (n : Nat) : Nat := (n + 1) % 2 ^ 32

/-- One byte of UTF-8 continuation. -/
def utf8Cont (b : Nat) : Bool := 0x80 ≤ b && b ≤ 0xBF

/-- R379: the bytes are valid UTF-8 (no overlong form, no surrogate, at most U+10FFFF). The first argument bounds the
recursion and is the length. -/
def utf8ValidFuel : Nat → List Nat → Bool
  | _, [] => true
  | 0, _ :: _ => false
  | n + 1, b :: rest =>
    if b < 0x80 then utf8ValidFuel n rest
    else if 0xC2 ≤ b && b ≤ 0xDF then
      match rest with
      | c :: r => utf8Cont c && utf8ValidFuel n r
      | _ => false
    else if 0xE0 ≤ b && b ≤ 0xEF then
      match rest with
      | c :: d :: r =>
        utf8Cont c && utf8Cont d && (b != 0xE0 || 0xA0 ≤ c) && (b != 0xED || c ≤ 0x9F) && utf8ValidFuel n r
      | _ => false
    else if 0xF0 ≤ b && b ≤ 0xF4 then
      match rest with
      | c :: d :: e :: r =>
        utf8Cont c && utf8Cont d && utf8Cont e && (b != 0xF0 || 0x90 ≤ c) && (b != 0xF4 || c ≤ 0x8F)
          && utf8ValidFuel n r
      | _ => false
    else false

/-- R379: the bytes are valid UTF-8. -/
def utf8Valid (l : List Nat) : Bool := utf8ValidFuel l.length l

end Sys2Proof.Machine
end

