-- ==== Sys2Proof/Machine/State.lean ====
section
/-! DEFINITION. Machine/State.lean: everything the module holds, as plain data, and its value right after reset.
The object dictionary's entries (R409) stand in one sparse store, ordered by place, in which an entry at its default is
not listed. Beside it stand the parameter store (R411), the timers, and what each chapter gives the module that no
entry shows. `Mod` is the module proper; `Srv` is what the object-dictionary server keeps about requesters
(R381 to R399); `State` adds the queue of commands that wait. -/

namespace Sys2Proof.Machine

/-- Why a step stops. -/
inductive Fault where
  /-- Raised by MODE_TICK where the terminal voltage of power port `k` lies beyond its absolute maximum: the module's
  behaviour there is outside the manual (R37). Safe: nothing is said about what the module then does. -/
  | outsideManual (k : Nat)
  deriving DecidableEq, Repr

/-- Why a command has no meaning here. -/
inductive Refusal where
  /-- A command of the table that the model gives no meaning. Safe: the machine stops. -/
  | notModelled (mnemonic : String)
  deriving DecidableEq, Repr

/-- The supply and boot condition of the control complex (R28, R510, R517, R518). -/
inductive Phase where
  | off | hibernate | booting | epochWait | running | holdup | stopped
  deriving DecidableEq, Repr

/-- The timers the rules start, each ended by the command that its rule names. -/
inductive Tmr where
  | hibernate | activeReturn
  | bsCont | bsPre | bsSettle | bsTimeout
  | ssRamp | ssOpen
  | bridge | insertion (k : Nat) | precharge (k : Nat) | ride (k : Nat) | flap (k : Nat) | adapt (k : Nat)
  | switchRelease (k : Nat) | limitExit (k : Nat)
  | sstDelay (a : Bool) | hiccup (a : Bool) | sspDelay (a : Bool) | shed (k : Nat) | armHold (p : Nat)
  | arming (p : Nat)
  | contPull | imdGrant | trimHold | fr | handover | fenceRamp | bmsWake
  | stage | assembly (req : Nat) | snapshot (req : Nat) | session (req : Nat) | lockout (cls : Nat)
  | grace (b : Nat) | eventHold (b bit : Nat) | blockReset (b : Nat) | faultContact
  | erase | scrub | pllRelock | wdrst | reset | trial | fwVerify
  | mapStale (m : Nat) | b2wRetry (u : Nat) | streamA | holdup300 | lifetime | injMiss (b bit : Nat)
  | ntime | esess
  deriving DecidableEq, Repr

/-- A response body (R384) on the transport on which the request came. -/
structure Resp where
  requester : Nat
  transport : Transport
  op : Nat
  status : Nat
  index : Nat
  sub : Nat
  ty : Nat
  epoch : Nat
  seq : Nat
  dup : Bool
  more : Bool
  staged : Bool
  recorded : Bool
  detail : Nat
  total : Nat
  data : List Nat
  deriving DecidableEq, Repr

/-- What the module puts out at one of its ports. `frame` is a Zwinglink frame by its link, its header, with the key its MAC is
made under (R345, R347), and its payload; `pd` a USB PD message by name. -/
inductive Out where
  | resp (r : Resp)
  | frame (link : Option Nat) (h : Hdr) (content : List Nat)
  | beacon (link : Option Nat) (h : Hdr) (b : Beacon)
  | slot (x : Slot)
  | can (f : CanFrame)
  | pd (message : String) (args : List Nat)
  | twoWire (port target : Nat) (bytes : List Nat)
  | h2w (bytes : List Nat)
  | h2wAck (acks : List Bool)
  | synco
  | wakePulse (link : Nat)
  | forward (link : Nat) (h : Hdr)
  | busClear (port : Nat)
  deriving DecidableEq, Repr

/-- The account of one step, or its value at a visit's start (R238): mode ticks, coulombs and joules. -/
structure RunAcc where
  t : Nat := 0
  ahIn : Rat := 0
  ahOut : Rat := 0
  whIn : Rat := 0
  whOut : Rat := 0
  prio : Nat := 0
  clamp : Nat := 0
  held : Nat := 0
  deriving DecidableEq, Repr

/-- What the record of a step exit says of the visit (R238): profile, step, STEP_EXIT, the account of the visit, V_BAT at exit
and the lowest TD_F. -/
structure Visit where
  prof : Nat
  step : Nat
  exit : Nat
  acc : RunAcc
  vEnd : Rat
  minTd : Rat
  deriving DecidableEq, Repr

/-- One event record (R498). -/
structure LogRec where
  seq : Nat
  epoch : Nat
  tb : Nat
  rtc : Nat
  kind : Nat
  cls : Nat
  blk : Nat
  src : Nat
  flags : Nat
  merged : Nat
  dropped : Nat
  index : Nat
  sub : Nat
  status : Nat
  data : List Nat
  /-- The visit that the record of a step exit tells of (R238); the manual gives it no bytes. -/
  visit : Option Visit := none
  deriving DecidableEq, Repr

/-- Who waits for the answer to an accepted request. -/
structure Asker where
  requester : Nat
  transport : Transport
  op : Nat
  index : Nat
  sub : Nat
  ty : Nat
  epoch : Nat
  seq : Nat
  deriving DecidableEq, Repr

/-- A journal record on its way to flash (R394, R395): the values, what stood before, and who is answered. -/
structure JRec where
  writes : List (Nat × Val)
  olds : List (Nat × Val)
  ask : Option Asker
  /-- 0 entry values, 1 a stage commit, 2 the request of R415, 3 a credential, 4 own ring key, 5 parent ring key,
  6 signing key. -/
  kind : Nat
  deriving DecidableEq, Repr

/-- A completion record (R397). `eff` says what of the request the next boot reports (R399). -/
structure CRec where
  requester : Nat
  epoch : Nat
  seq : Nat
  op : Nat
  index : Nat
  sub : Nat
  /-- 0xFF while not complete. -/
  status : Nat
  detail : Nat
  /-- 0 not applied, 1 applied and durable, 2 applied and volatile, 3 staged (R399). -/
  eff : Nat
  doneAt : Nat
  deriving DecidableEq, Repr

/-- A session of R381. -/
structure Sess where
  requester : Nat
  level : Nat
  lastUse : Nat
  deriving DecidableEq, Repr

/-- An assembly of write segments (R386). -/
structure Asm where
  requester : Nat
  key : Nat
  bytes : List Nat
  deriving DecidableEq, Repr

/-- A snapshot of a BLOB under read (R386). -/
structure Snap where
  requester : Nat
  key : Nat
  bytes : List Nat
  deriving DecidableEq, Repr

/-- One staged value (R391). -/
structure Staged where
  key : Nat
  val : Val
  level : Nat
  /-- SEQ of the write that staged it (R399). -/
  seq : Nat := 0
  deriving DecidableEq, Repr

/-- What the server of R26 keeps about requesters. -/
structure Srv where
  sessions : List Sess := []
  recs : List CRec := []
  /-- Latest accepted SEQ of each requester, most recently used first (R397). -/
  seqs : List (Nat × Nat) := []
  stage : List Staged := []
  owner : Option Nat := none
  /-- A COMMIT waiting for its mode tick (R394). -/
  commit : Option Asker := none
  asms : List Asm := []
  snaps : List Snap := []
  /-- Failed logins in succession per transport class: Zwinglink, USB, HOST2W, CAN (R445). -/
  fails : List Nat := [0, 0, 0, 0]
  deriving DecidableEq, Repr

/-- One item of a hardware queue (R402, R403). -/
structure QItem where
  bytes : Nat
  peer : Nat
  seq : Nat
  gap : Bool
  tb : Nat
  deriving DecidableEq, Repr

/-- One hardware queue (R401): its items, oldest first, whether the next one accepted carries GAP (R404), and the completion status
of the item that ended last, 0xFF before the first (R402, R403). -/
structure Queue where
  items : List QItem := []
  gapNext : Bool := false
  status : Nat := 0xFF
  deriving DecidableEq, Repr

/-- What a fault block keeps beside its entries (R477 to R486). -/
structure Flt where
  /-- Class U sources raised since the timer started and not acknowledged (R479). -/
  unacked : Nat := 0
  /-- Sources that hold a class F state, promoted ones included (R483). -/
  fActive : Nat := 0
  /-- The latest raising, end of activity, or end of a block reset (R484). -/
  since : Nat := 0
  /-- TB ticks of the recoveries counted (R485). -/
  recov : List Nat := []
  /-- Raisings of each source since its latest record (R477). -/
  counts : List (Nat × Nat) := []
  resetting : Bool := false
  trip : Bool := false
  /-- Injected sources that the checker has not reported (R488), and those a report will flag. -/
  injected : Nat := 0
  /-- Class of source 15:0 at its raising (R304). -/
  imdClass : Nat := 0
  /-- Sources that SUP0 has been told of, by interrupt or scan (R477, R479). -/
  told : Nat := 0
  deriving DecidableEq, Repr

/-- What SAFE keeps of a port's protection (R279 to R294). -/
structure Prot where
  closed : Bool := false
  /-- Θ in seconds (R285), on the grid of assumption log 4. -/
  theta : Rat := 0
  /-- TB ticks of the latest entries to TRIPPED (R294), below 0 for those before a start at which TB began anew, and the mode tick of the latest: its number plus 1 (R280). -/
  trips : List Int := []
  tripTick : Nat := 0
  pilotOpen : Bool := false
  /-- The switch was commanded open at this tick, for the check of R290. -/
  openedAt : Option Nat := none
  /-- The tick 10 ms after which the current channel is auto-zeroed: of the switch's opening, or of the chopper's stop (R313). -/
  zeroFrom : Option Nat := none
  /-- Mode ticks that the present transient has lasted above the absolute maximum, and the end of the latest (R36). -/
  over_ : Nat := 0
  overEnd : Option Nat := none
  deriving DecidableEq, Repr

/-- What qualification keeps of a port beside its entries (R120 to R129). -/
structure Qual where
  /-- TB ticks of the latest drops (R129). -/
  drops : List Nat := []
  cold : Bool := false
  branch : Bool := false
  /-- Mode tick of the latest cause: its number plus 1 (R128). -/
  causeAt : Nat := 0
  /-- The phase that runs this port's warm join (R122). -/
  joinPh : Option Nat := none
  deriving DecidableEq, Repr

/-- What the module keeps of an input (R130 to R143). -/
structure InS where
  ceil : Rat := 0
  /-- The ceiling without the cut of R117, and what a change of the ladder lets the input rise to while it ramps (R137). -/
  free : Rat := 0
  polTop : Option Rat := none
  /-- Latest valid estimates, newest first: R_s and V_oc (R139). -/
  ests : List (Rat × Rat) := []
  discards : Nat := 0
  stepping : Option Rat := none
  /-- The current that the step in progress leaves the input (R139). -/
  stepTop : Rat := 0
  /-- The mode tick in which its latest step ended: its number plus 1 (R139). -/
  stepEnd : Nat := 0
  starting : Bool := false
  meanI : Rat := 0
  take : Rat := 0
  /-- IN_PRIO, IN_WEIGHT, IN_COST and IN_MAN_P as the latest mode tick took them (R133, R137). -/
  prio : Nat := 0
  weight : Rat := 0
  cost : Rat := 0
  manP : Rat := 0
  deriving DecidableEq, Repr

/-- What a stage keeps beside its entries (R149 to R182). Its counts are of 500 ps (R152). -/
structure Stg where
  /-- Causes that hold the gates off: bit 0 SAFE force, 1 port trip, 2 stage trip, 3 block reset, 4 clock,
  5 path, 6 power state, 7 keeper expiry, 8 link overvoltage. -/
  gate : Nat := 0x20
  addPtr : Nat := 0
  rotPending : Bool := false
  rotLeft : Nat := 0
  respLeft : Nat := 0
  /-- An add calls for a rotation at the end of this period's events; one has already run in it (R168, R174). -/
  rotWanted : Bool := false
  rotDone : Bool := false
  /-- The module carrier origin as the stage's carriers follow it, in counts of local TB (R155). -/
  origin : Nat := 0
  /-- LOOP_PRESET, STG_DEADT in counts and the capacitance that scales the voltage loop, F, as in force (R151, R159, R160). -/
  preset : Nat := 1
  deadT : Nat := 0
  cEst : Rat := dec 12 4
  /-- The path by which the stage runs, and its references where a stop began (R112, R178). -/
  runPath : Nat := 0
  refs : List Rat := []
  /-- Current limit in force as a fraction of full, where its present ramp down began, and how long that ramp is in
  ms (R112, R177, R178); `stopping` while the ramp down of a soft stop or of SAFESTOP runs. -/
  lim : Rat := 0
  limFrom : Rat := 0
  stopMs : Rat := 0
  stopping : Bool := false
  /-- The soft stop that ends a profile runs to its end (R216). -/
  endStop : Bool := false
  deadBus : Bool := false
  mooringStart : Bool := false
  /-- Power limit in force, W, ramped at 10 kW/ms (R56, R97). -/
  pLim : Rat := 0
  /-- Overload timer in mode ticks (R97), and whether it has reached 10 s. -/
  ovl : Nat := 0
  ovlHeld : Bool := false
  /-- Mode ticks without overload (R97). -/
  ovlClear : Nat := 0
  iref : Rat := 0
  deriving DecidableEq, Repr

/-- What a phase keeps beside its entries (R150 to R174). -/
structure Ph where
  aboveAdd : Nat := 0
  peakRun : Nat := 0
  peakNow : Bool := false
  /-- Periods into ADDING or SHEDDING. -/
  step : Nat := 0
  activeSince : Nat := 0
  /-- Port whose group the phase is leaving for (R167). -/
  retap : Option Nat := none
  held : Bool := false
  fresh : Bool := true
  /-- Excluded by its heat sink until that is below HS_DERATE − 10 K (R291). -/
  hot : Bool := false
  /-- Its carrier's place after the stage origin, in counts (R154, R156). -/
  pos : Nat := 0
  deriving DecidableEq, Repr

/-- What a group of phases keeps: group k serves port k, 0 to 3 in Stage A and 4 in Stage B. -/
structure Grp where
  adding : Bool := false
  iref : Rat := 0
  /-- Phase count of R117. -/
  count : Nat := 0
  cut : Bool := false
  retapRetry : Bool := false
  deriving DecidableEq, Repr

/-- A step allocated to this module (R349): its identifier, the share in W, arrival and confidence. -/
structure Share where
  orig : Nat
  num : Nat
  dpm : Rat
  tArr : Nat
  conf : Nat
  deriving DecidableEq, Repr

/-- A pending intent (R187 to R192). -/
structure Intent where
  orig : Nat
  num : Nat
  dpm : Rat
  tArr : Nat
  conf : Nat
  dIm : Rat
  armed : Bool
  iSysArm : Rat
  /-- 0 pending, 1 detected, 2 missed: its contribution ramps out from `pbEnd` (R191, R192). -/
  phase : Nat
  /-- Its pre-bias ramp has begun (R190). -/
  pre : Bool
  pbEnd : Rat
  endT : Nat
  deriving DecidableEq, Repr

/-- A sense pair beside its entries (R185): the voltage used moves from `start` since tick `since` over `span` ticks;
`bad` since a fall-back that raised a fault. -/
structure SnsS where
  start : Rat := 0
  since : Nat := 0
  span : Nat := 0
  bad : Bool := false
  /-- The last good reading (R185). -/
  good : Option Rat := none
  deriving DecidableEq, Repr

/-- The latched inputs before any mode tick: nothing connected, at 20 °C (assumption log 13). -/
def noInput : TickIn :=
  { smp := [], vLink := 0, vSnsSys := 0, vSnsBat := 0,
    pStageA := 0, pStageB := 0, coolIn := 20, coolOut := 20, hs := List.replicate 16 20,
    sw := List.replicate 8 20, temp := List.replicate 4 { ohms := 1000000, celsius := 20 }, ccP := 0, contI := 0, amb := 20,
    rtcAdv := 0, complete := true, pcePeriod := false }

/-- The mode tick's own memory (R72, R84, R86, R106, R110). -/
structure Modes where
  dwellCand : Option Nat := none
  dwellCnt : Nat := 0
  bootIssued : Bool := false
  transFail : Bool := false
  bridgeQual : Nat := 0
  /-- A return to ACTIVE is running (R76, R512). -/
  raising : Bool := false
  /-- HIBERNATE is accepted and being entered (R513). -/
  hibernating : Bool := false
  /-- OFF or STANDBY has been written in this SAFESTOP, or OFF brought it out of BLACKSTART (R85). -/
  stopFreed : Bool := false
  /-- A SAFE force has arisen since the latest resolution (R63). -/
  forceSeen : Bool := false
  /-- The path before the latest change of it (R122). -/
  cameFrom : Nat := 0
  /-- The number of the latest mode tick (R82): what "within one mode tick" is told by (R128, R139, R280). -/
  tickNo : Nat := 0
  /-- CHARGE runs on under an envelope that routes energy to BRK, which is ruled out (R17, R69). -/
  brkHold : Bool := false
  /-- The step that ran as BRIDGE was entered, counted from 1 in the step family; 0 for none (R108). -/
  bridgeStep : Nat := 0
  /-- Tick at which a peak comparator ended BRIDGE (R108). -/
  bridgeLeft : Option Nat := none
  deriving DecidableEq, Repr

/-- SYS regulation (R88, R175): V_set on its way to SYS_VSET and the filtered SYS current. -/
structure Reg where
  vset : Rat := 0
  iF : Rat := 0
  /-- SYS_VSET as the latest mode tick took it (R26). -/
  goal : Rat := 750
  /-- End point forced by BRIDGE entry: V_BAT as it moves (R107). -/
  bridgeTo : Option Rat := none
  /-- How far Stage B's duty has ramped toward 100 % (R107). -/
  bridgeDuty : Rat := 0
  /-- Power and duty of the chopper (R94). -/
  brkP : Rat := 0
  brkDuty : Rat := 0
  /-- Demand of the voltage loops and what is left after the ladder (R133). -/
  demandA : Rat := 0
  demandB : Rat := 0
  unmet : Rat := 0
  /-- The excess that Stage A reports beyond its limit, A (R102). -/
  excess : Rat := 0
  /-- Change of SYS current loaded into the integrators in this loop period (R191). -/
  ffwd : Rat := 0
  /-- Current of SYS in the latest loop period (R191), and the demand of SYS current it brought (R258). -/
  iPrev : Rat := 0
  sysDemand : Rat := 0
  /-- The SYS current of both stages together in the latest loop period (R258). -/
  sysTot : Rat := 0
  /-- The step in progress of R258, with its start; whether the module leads it. -/
  frAt : Option Nat := none
  frLead : Bool := false
  /-- MAN_SLACK as the latest mode tick took it (R137). -/
  slack : Nat := 0
  /-- Stage B, which regulated SYS, keeps it until Stage A has soft-started (R84). -/
  hand : Bool := false
  deriving DecidableEq, Repr

/-- SAFE's own state (R289, R296 to R300). -/
structure Safe where
  clampArmed : Bool := true
  clamping : Bool := false
  /-- The energy of the clamp's present action that H already holds, J (R95). -/
  clampJ : Rat := 0
  chopperOff : Bool := false
  /-- The internal bleeder discharges the link (R69, R112). -/
  bleeder : Bool := false
  /-- Hold-up operation: its tick, how long the store lasts at the least, and whether the page program that it found in
  progress may still end (R28, R59). -/
  holdupAt : Nat := 0
  holdupFor : Nat := 0
  pageLeft : Bool := false
  /-- Latched by ESTOP detection and by its loop test (R297). -/
  estopOpen : Bool := false
  estopFails : Nat := 0
  ilkOpen : Bool := false
  ilkOpenAt : Nat := 0
  tamperOpen : Bool := false
  holdup : Bool := false
  contOn : Bool := false
  contReq : Bool := false
  /-- BLACKSTART has asked for CONT (R227, assumption log 24). -/
  contBs : Bool := false
  /-- BRK heat H in joules (R95), on the grid of assumption log 4. -/
  heat : Rat := 0
  heatWarned : Bool := false
  /-- The injection period in force, s (R303); 0 while IMD_PERIOD is. -/
  imdPeriod : Rat := 0
  /-- Nodes left out of the next injection grant (R302), and the candidates this lantern knows: system and node. -/
  imdBarred : List Nat := []
  imdCands : List (Nat × Nat) := []
  deriving DecidableEq, Repr

/-- The keeper beside its entries (R490 to R497). -/
structure Kpr where
  starting : Bool := false
  locked : Bool := false
  hostParty : Bool := false
  running : Bool := false
  suspendedAt : Option Nat := none
  svc : Nat := 0
  rejected : Bool := false
  expiredAt : Option Nat := none
  deriving DecidableEq, Repr

/-- SAFE's key store (R446). Keys and credentials are the bytes they were set from (assumption log 6). -/
structure Keys where
  own : Option (List Nat) := none
  par : Option (List Nat) := none
  cred : List (Option (List Nat)) := [none, none, none]
  sign : Option Nat := none
  sealKey : Option Nat := none
  /-- SECRET_STATE is 2 since the latest erase; false: secrets present. -/
  erased : Bool := false
  /-- An erase has taken the signing key (R333); meant while there is none. -/
  signErased : Bool := false
  cause : Nat := 0
  /-- The sealed copies in flash are still to be scrubbed (R447). -/
  scrub : Bool := false
  latch : Bool := false
  latchErased : Bool := false
  latchNoted : Bool := false
  deriving DecidableEq, Repr

/-- The two firmware banks (R451, R452). -/
structure Fw where
  bank : Nat := 0
  ver : Nat := 0x04000000 + Config.fwMinorPatch % 0x1000000
  altVer : Nat := 0
  altState : Nat := 0
  /-- Bytes written to the other bank (R451). -/
  altLen : Nat := 0
  altFloor : Nat := 0
  floor : Nat := 0
  runFloor : Nat := 0
  switchPending : Bool := false
  trial : Bool := false
  trialBoots : Nat := 0
  /-- Sectors of the other bank that its erase has still to reach (R451, R496). -/
  sectors : Nat := 0
  deriving DecidableEq, Repr

/-- The profile engine beside its entries (R206 to R215, R229). -/
structure Prof where
  /-- Codes of the PROF_CMD writes that wait for a mode tick, oldest first (R213). -/
  cmds : List Nat := []
  /-- STEP_TIME in mode ticks. -/
  ticks : Nat := 0
  /-- Qualifying timers of EX1 to EX3, in mode ticks (R210). -/
  exT : List Nat := [0, 0, 0]
  suspAt : Nat := 0
  runs : List RunAcc := List.replicate 16 {}
  entry : RunAcc := {}
  minTd : Rat := 1
  /-- PULSE: at SP_B, the tick of the step at which the present level began, and completed SP_A intervals. -/
  pulseLow : Bool := false
  pulseFrom : Nat := 0
  pulses : Nat := 0
  /-- R205: a step that requires CONVERT waits for the end of BRIDGE. -/
  waitBridge : Bool := false
  /-- R206: the step's current reference as it moves at PROF_IRAMP, A. -/
  iRef : Rat := 0
  /-- R229: BAT qualifies only within its normal window. -/
  recBarred : Bool := false
  /-- R206: the step's voltage reference as it moves at PROF_VRAMP, and the voltage that it moves to. -/
  vRef : Rat := 0
  vGoal : Rat := 0
  /-- R205: the voltage that bounds the step before, while the next one waits for the end of BRIDGE. -/
  keepV : Option Rat := none
  /-- R219, R220: the charge clamp in force: lowered at once, raised along the ramps. -/
  clampI : Rat := 0
  clampV : Rat := 0
  /-- V_BAT of the step's latest mode ticks, newest first, as far back as 60 s (R209). -/
  vHist : List Rat := []
  deriving DecidableEq, Repr

/-- Battery management and thermistors beside their entries (R222 to R231). -/
structure Bms where
  /-- TB ticks of the latest writes of BMS_ICHG, BMS_IDIS, BMS_VMAX, BMS_VMIN and BMS_FLAGS (R223). -/
  last : List Nat := [0, 0, 0, 0, 0]
  written : Bool := false
  contReq : Bool := false
  /-- A wake series: running, waiting for a resend, failed attempts, when the latest began, released by ENV_REQ. -/
  wake : Bool := false
  waiting : Bool := false
  tries : Nat := 0
  series : Option Nat := none
  released : Bool := false
  /-- The thermistor filters (R231), °C. -/
  temps : List Rat := [0, 0, 0, 0]
  deriving DecidableEq, Repr

/-- One point of SCAN_RESULT (R237). -/
structure ScanPt where
  freq : Rat
  re : Rat
  im : Rat
  quality : Nat
  deriving DecidableEq, Repr

/-- The impedance scan (R233 to R237). -/
structure ScanS where
  /-- SCAN_STATE has been asked for at step entry (R218) and not yet been written. -/
  req : Bool := false
  k : Nat := 0
  retried : Bool := false
  disturbed : Bool := false
  clamp : Nat := 0
  pts : List ScanPt := []
  prof : Nat := 0
  step : Nat := 0
  bias : Rat := 0
  amp : Rat := 0
  /-- Tick at which the point in progress began. -/
  from_ : Nat := 0
  remote : Bool := false
  vSum : Rat := 0
  deriving DecidableEq, Repr

/-- What the fast channels show of the latest mode tick (R311, R312): each port's mean voltage, current and power, and the means of
the positive and of the negative part of its power and of BAT's current (R238, R318). -/
structure Means where
  v : List Rat := List.replicate 8 0
  i : List Rat := List.replicate 8 0
  p : List Rat := List.replicate 8 0
  pPos : List Rat := List.replicate 8 0
  pNeg : List Rat := List.replicate 8 0
  iPos : Rat := 0
  iNeg : Rat := 0
  deriving DecidableEq, Repr

/-- A window of R315 in progress: samples and sum of each channel's values and of each port's power; periods, sum and sum of
squares of each phase's period means. `idx` is the place of the window on its grid; the window before has taken the first
`taken` samples since the latest mode tick. -/
structure Tel where
  idx : Nat := 0
  taken : Nat := 0
  ch : List (Nat × Rat) := List.replicate 16 (0, 0)
  pw : List (Nat × Rat) := List.replicate 8 (0, 0)
  ph : List (Nat × Rat × Rat) := List.replicate 16 (0, 0, 0)
  deriving DecidableEq, Repr

/-- A run of decimated samples (R319, R325) of all 16 channels: TB of its first fast sample, the sample that is being averaged (its
TB, with count and sum of valid codes of each channel), and those done, newest first, by TB. -/
structure Rec where
  base : Nat := 0
  part : Option (Nat × Nat × List (Nat × Int)) := none
  done : List (Nat × List Int) := []
  /-- The channels of which the sample being averaged holds a saturated fast sample, and the samples done that hold any (R323). -/
  partSat : Nat := 0
  sat : List (Nat × Nat) := []
  deriving DecidableEq, Repr

/-- One peak of R316: its value and TB; none before a sample. -/
structure Peak where
  v : Rat
  t : Nat
  deriving DecidableEq, Repr

/-- Measurement beside its entries (R315 to R318). -/
structure Meas where
  /-- Peaks of each port: V max, V min, I max, I min, P max, P min. -/
  peaks : List (List (Option Peak)) := List.replicate 8 (List.replicate 6 none)
  /-- TB of the latest read of each port's peaks. -/
  pkT : List Nat := List.replicate 8 0
  /-- Largest and smallest period mean of each phase since its latest read. -/
  phMax : List (Option Rat) := List.replicate 16 none
  phMin : List (Option Rat) := List.replicate 16 none
  /-- Remainders of E_POS and E_NEG below 1 mWh, in J, and of the BAT charges below 1 mAh, in C. -/
  ePos : List Rat := List.replicate 8 0
  eNeg : List Rat := List.replicate 8 0
  qIn : Rat := 0
  qOut : Rat := 0
  /-- The step record of R317: steps counted, deepest dip and largest overshoot with start and recovery in TB ticks
  (none: NaN), and the step in progress. -/
  steps : Nat := 0
  stepT : Nat := 0
  dip : Rat := 0
  dipT : Nat := 0
  dipR : Option Nat := some 0
  over_ : Rat := 0
  overT : Nat := 0
  overR : Option Nat := some 0
  stepOn : Bool := false
  stepAt : Nat := 0
  /-- The latest period of the step in progress outside ±0.5 % (R195). -/
  stepOut : Nat := 0
  stepDip : Rat := 0
  stepOver : Rat := 0
  /-- TB ticks of the latest complete TEL windows, and windows that a change of length discards. -/
  telSkip : List Bool := [false, false]
  /-- Channels saturated in the TEL_WIN1 in progress (R312, R336), and the samples that each has been saturated without a break. -/
  satWin : Nat := 0
  satRun : List Nat := List.replicate 16 0
  /-- Samples since the latest mode tick that a read of PK_SNAP has taken (R316). -/
  pkTaken : Nat := 0
  /-- The codes of the latest PK_AVG samples, newest first (R316), and the windows in progress (R315). -/
  tail : List (List Int) := []
  tel : List Tel := [{}, {}]
  deriving DecidableEq, Repr

/-- The capture buffer and stream B (R319 to R325) beside their entries. A sample that no mode tick has brought is a value left
open (log 20). -/
structure Cap where
  /-- A stream A is being sent: blocks left; the link and the use of class 7 credit after its last block (R324). -/
  blocks : Nat := 0
  lastUsed : Option (Nat × Nat) := none
  /-- Mask, decimation and length of the capture held. -/
  mask : Nat := 0
  dec : Nat := 1
  len : Nat := 0
  /-- TB of the oldest sample held, and the free value that samples not brought are drawn from. -/
  first : Nat := 0
  free : Nat := 0
  rec_ : Rec := {}
  /-- Next block sequence of stream B, and its samples. -/
  strB : Nat := 0
  /-- The latest block of stream B was left out, while Q28 stands above its high watermark (R405). -/
  skipB : Bool := false
  recB : Rec := {}
  deriving DecidableEq, Repr

/-- The cable measurements (R326): the run in progress (0 none, 1 SYS, 2 BAT, 3 BRK), the one that starts at the next mode
tick, and whether the run that needs no command has taken place. -/
structure Cable where
  run : Nat := 0
  next : Nat := 0
  brkDone : Bool := false
  /-- Tick at which the run began, V_SYS then, and whether V_SYS has moved by 0.5 % of SYS_VSET since. -/
  from_ : Nat := 0
  v0 : Rat := 0
  moved : Bool := false
  deriving DecidableEq, Repr

/-- A compare channel (R508): what it holds until a write of its entries takes effect, at tick `upTo`. -/
structure CmpS where
  upTo : Nat := 0
  mode : Nat := 0
  val : Nat := 0
  int : Nat := 0
  deriving DecidableEq, Repr

/-- An energy session (R331 to R334). -/
structure Esess where
  /-- The counters at the open: BAT in, out (mWh), BAT in, out (mAh), IN1 to IN4, SYS out, in. -/
  base : List Nat := []
  tot : List Nat := []
  interim : List Nat := []
  maxI : Rat := 0
  seq : Nat := 0
  prev : List Nat := []
  clockSet : Bool := false
  gap : Bool := false
  updRtc : Nat := 0
  deriving DecidableEq, Repr

/-- One energy record in flash: its session, sequence, place in the log, and bytes (R332). -/
structure ERec where
  num : Nat
  seq : Nat
  pos : Nat
  bytes : List Nat
  deriving DecidableEq, Repr

/-- The HOST2W window (R453 to R461): its registers and its request buffer, a memory of bytes in which an address not
listed reads 0. -/
structure H2w where
  ptr : Nat := 0
  page : Nat := 0
  xstate : Nat := 0
  reqLen : Nat := 0
  rsp : List Nat := []
  mask : Nat := 0x3F
  /-- Low bytes of REQ_LEN, ALERT_CAUSE, ALERT_MASK and FLAGS that wait for their high bytes. -/
  lows : List Nat := [0, 0, 0, 0]
  buf : List Host.Cell := []
  /-- Page 1 as the latest mode tick left it, and as latched at the first byte of a read transaction (R459). -/
  live : List Nat := []
  snap : List Nat := []
  busyTo : Nat := 0
  /-- HALERT is pulled low. -/
  pulled : Bool := false
  /-- Target address in force where a new H2W_ADDR waits for a STOP (R417). -/
  addr : Option Nat := none
  /-- A U16 of page 0 latched when its low byte was read: offset and value (R454). -/
  rlatch : Option (Nat × Nat) := none
  /-- Response bodies that wait for the window, and the request in flight (R457). -/
  waiting : List (List Nat) := []
  go : Option Asker := none
  /-- TB ticks of the latest timeouts (R462). -/
  tmos : List Nat := []
  deriving DecidableEq, Repr

/-- A BAT2W port (R463 to R467). -/
structure B2w where
  lastPoll : Option Nat := none
  /-- A poll's Block Read is in progress; it is the repeat of R465; retries of R466. -/
  running : Bool := false
  /-- The tick at which the poll's latest Write Word began (R463); none before it. -/
  wrote : Option Nat := none
  repeated : Bool := false
  arbTries : Nat := 0
  failed : Nat := 0
  /-- The bus counts as busy until this tick (R466). -/
  busyTo : Nat := 0
  tmos : List Nat := []
  deriving DecidableEq, Repr

/-- A mapping of R473 beside its entries. -/
structure MapS where
  last : Option Nat := none
  shortNoted : Bool := false
  deriving DecidableEq, Repr

/-- The CAN ports beside their entries (R472). -/
structure CanS where
  maps : List MapS := List.replicate 32 {}
  lastStatus : List (Option Nat) := [none, none]
  sentFlags : List Nat := [0, 0]
  /-- Frames that wait in Q16 or Q18 while their port is bus-off (R468). -/
  held : List CanFrame := []
  /-- The 120 Ω terminations that are switched in (R52). -/
  term : List Bool := [false, false]
  deriving DecidableEq, Repr

/-- The auxiliary supply (R19, R40, R58): the sources that are live, in the order IN1 to IN4, BAT, SYS, VBUS, AUX24; the one
that carries the load; what AUX24 may put out, A; whether an external supply carries AUX24; and the power drawn. -/
structure Aux where
  live : List Bool := List.replicate 8 false
  source : Option Nat := none
  lim : Rat := 0
  external : Bool := false
  draw : Rat := 0
  deriving DecidableEq, Repr

/-- USB-C beside its entries (R430 to R442). -/
structure Usb where
  attached : Bool := false
  /-- The attach role is source (R431). -/
  attachSrc : Bool := false
  /-- An explicit contract stands. -/
  contract : Bool := false
  /-- Swaps already sent since the attach (R435). -/
  prSent : Bool := false
  drSent : Bool := false
  /-- VBUS is to reach vSafe0V before the source switch closes (R434); the switch is closed. -/
  discharging : Bool := false
  srcOn : Bool := false
  /-- The module is becoming the source of a PR_Swap, which it has yet to complete with PS_RDY (R435). -/
  swapping : Bool := false
  /-- SBU1 and SBU2 are switched to the engines' debug access (R441). -/
  sbu : Bool := false
  /-- A port branch of R19 is live, or AUX24 is back-fed (R431). -/
  powered : Bool := false
  /-- The auxiliary supply draws from VBUS (R432). -/
  vbusLive : Bool := false
  deriving DecidableEq, Repr

/-- A frame of class 3 to 7 on the wire of a link (R363): what is sent, its bytes, how often it has yielded, and its ticks. -/
structure TxF where
  out : Out
  bytes : Nat
  yields : Nat := 0
  start : Nat
  stop : Nat
  /-- The link that a forwarded frame came by (R362). -/
  via : Option Nat := none
  cls : Nat := 3
  deriving DecidableEq, Repr

/-- A frame that waits for its transmitter or for credit (R364, R365): its class, credits, and the link a forwarded one came by. -/
structure HeldF where
  cls : Nat
  credits : Nat
  out : Out
  via : Option Nat := none
  /-- The tick at which it was ready. -/
  since : Nat := 0
  deriving DecidableEq, Repr

/-- A Zwinglink link beside its entries (R338, R357, R363 to R365). -/
structure LinkS where
  /-- The PHY reports link, since tick `phyAt`; a declaration down and its tick. -/
  phy : Bool := false
  phyAt : Nat := 0
  downAt : Option Nat := none
  /-- Consecutive error-free exchanges since the declaration. -/
  good : Nat := 0
  /-- Delays of the latest 16 exchanges, newest first, ns. -/
  dlys : List Rat := []
  /-- The tick of the latest DELAY_REQ sent (R357). -/
  reqAt : Option Nat := none
  peerMac : Nat := 0
  /-- Cycles of 100 µs in which a frame failed its FCS, newest first, and the tick of the latest frame. -/
  badCycles : List Nat := []
  lastRx : Nat := 0
  /-- Cumulative credits of classes 3, 4, 5 and 7: used here, freed by the partner, freed here, and as last told. -/
  used : List Nat := [0, 0, 0, 0]
  freedIn : List Nat := [0, 0, 0, 0]
  freedOut : List Nat := [0, 0, 0, 0]
  told : List Nat := [0, 0, 0, 0]
  creditAt : Nat := 0
  /-- The frame of class 3 to 7 on the wire, or the last one; the class whose turn it is, and what each class may still send of its
  turns, bytes (R363, R365). -/
  tx : Option TxF := none
  turn : Nat := 3
  deficit : List Nat := List.replicate 8 0
  /-- A DELAY_REQ has not been answered yet (R338). -/
  awaiting : Bool := false
  deriving DecidableEq, Repr

/-- What the lantern keeps of a station of its ring (R263, R266, R343, R351). -/
structure Stn where
  stn : Nat
  mac : Nat := 0
  lprio : Nat := 128
  seg : Nat := 0
  mode : Nat := 0
  imdEn : Bool := false
  imdGsys : Nat := 0
  /-- Consecutive cycles without its flash response (R266). -/
  misses : Nat := 0
  dark : Bool := false
  /-- Its latest flash slot. -/
  slot : Option Slot := none
  deriving DecidableEq, Repr

/-- A takeover offered by the lantern (R267). -/
structure Offer where
  seg : Nat
  idx : Nat
  target : Nat
  gen : Nat
  since : Nat
  deriving DecidableEq, Repr

/-- Consecutive class 6 drops of one flow (R366). -/
structure DropS where
  orig : Nat
  dst : Nat
  typ : Nat
  first : Nat
  lost : Nat
  tFirst : Nat
  tLast : Nat
  deriving DecidableEq, Repr

/-- Zwinglink and the ring beside their entries (chapters Zwinglink and Many Modules as One). -/
structure Net where
  links : List LinkS := List.replicate 4 {}
  /-- Network time less TB in ns, on the grid of assumption log 4, at tick `ofsAt` (R359). -/
  ofs : Rat := 0
  ofsAt : Nat := 0
  locked : Bool := false
  /-- Accepted beacons since lock, and the tick of the latest. -/
  accepted : Nat := 0
  lastBeacon : Option Nat := none
  /-- The latest time reading: network time and TB, in ns. -/
  lastNt : Option (Rat × Rat) := none
  /-- Link on which beacons arrive (R340). -/
  upstream : Option Nat := none
  darkN : Option Nat := none
  /-- Number of the latest cycle, and the ring's command in its beacon (R262). -/
  cycle : Nat := 0
  command : Nat := 0xFF
  /-- The role table of the ring (R278, R348). -/
  roles : List RoleRec := []
  eligible : List Nat := []
  /-- Found at a beacon or a trim and done at the next mode tick: a trim (R253), a fencing cause with the newer
  generation (R270), a role taken over (R268). -/
  trimNext : Option Rat := none
  fenceNext : Option (Nat × Nat) := none
  roleNext : Option RoleRec := none
  /-- An offer that this spare acknowledges (R267), and its acknowledgement of a handover, in its own ring and in its parent ring
  (R356). -/
  takeFor : Option TakeMsg := none
  handAck : Bool := false
  handAckPar : Bool := false
  /-- The module has a role claim that no lantern has settled (R265). -/
  claimOpen : Bool := false
  /-- At the lantern: its stations, their latest reports, the groups' trims. -/
  stns : List Stn := []
  rpts : List (ShareRpt × Nat) := []
  trims : List (Nat × Rat) := []
  /-- The SEG_IDs that the beacons or the head tell to be in conflict above (R254). -/
  aboveSegs : List Nat := []
  /-- Groups that the lantern holds frozen by a conflict (R254), and stations that have let an offer lapse (R267). -/
  conflicts : List Nat := []
  lapsed : List Nat := []
  offer : Option Offer := none
  /-- A handover offered: target and LGEN. -/
  handTo : Option (Nat × Nat) := none
  /-- V_SYS, SYS current and SYS power of the mode ticks of the latest 1 ms, newest first (R251). -/
  sysWin : List (Rat × Rat × Rat) := []
  /-- Role records that go into the next beacons, with how many, and the place of the cycling ones (R348). -/
  recNew : List (RoleRec × Nat) := []
  recPtr : Nat := 0
  loops : List Rat := []
  /-- Summaries of the child rings, with their confirmed numbers (R343, R368); at a head, its own ring's latest summary. -/
  kids : List RingSum := []
  below : Option RingSum := none
  /-- The own ring's number has been confirmed (R343); what the root lantern has told each ring's lantern, by its MAC-48. -/
  confirmed : Bool := false
  given : List (Nat × Nat) := []
  /-- The tick of the first station record that no STN_ASSIGN has answered (R339). -/
  stnRecAt : Option Nat := none
  /-- Beacons that have passed once, by ring (parent or own), station, LGEN and cycle, latest first (R340). -/
  passed : List (Bool × Nat × Nat × Nat) := []
  /-- Level of the parent ring, or at a lantern below the root that of its own (R341), and the ring's head by its number there (R360). -/
  parDepth : Nat := 0
  headStn : Option Nat := none
  /-- Role-2 links that would close a cycle of rings (R341). -/
  loopLinks : List Nat := []
  /-- Election (R354): claiming, LGEN proposed, newest LGEN seen, own claims returned, better claims with their ticks. -/
  claiming : Bool := false
  proposed : Nat := 0
  newest : Nat := 0
  returns : Nat := 0
  /-- The cycle of local time in which its own claim last returned. -/
  returnAt : Nat := 0
  better : List (ClaimMsg × Nat) := []
  /-- Latest EPOCH_LO and SEQ of each originator and class (R367). -/
  rx : List ((Nat × Nat) × (Nat × Nat)) := []
  txSeq : List Nat := List.replicate 8 0
  /-- Class 1 and 2 frames originated in cycle `expCycle`, and those held to a later one (R362). -/
  expSent : List Nat := [0, 0]
  expCycle : Nat := 0
  expHeld : List Out := []
  drops : List DropS := []
  synciAt : Option Nat := none
  /-- The role table that the module keeps as lantern of a ring (R263), and the tick of the latest TIME_RELAY (R360). -/
  lead : List RoleRec := []
  relayAt : Option Nat := none
  /-- What a head keeps of its parent ring: lantern generation, tick of the latest beacon, the link it came by. -/
  parLgen : Nat := 0
  /-- The command in the parent ring's latest beacon (R262). -/
  parEnv : Nat := 0xFF
  parBeacon : Option Nat := none
  parUp : Option Nat := none
  /-- Links on which a source of block 3 is injected and not yet checked: source bit and link (R488). -/
  inj : List (Nat × Nat) := []
  /-- Frames that wait for a transmitter or for credit (R364, R365). -/
  held : List HeldF := []
  /-- The cycle, plus one, in which the lantern last sent ALLOC frames, and their intent as the first 6 bytes name it (R362). -/
  allocCycle : Nat × List Nat := (0, [])
  /-- Ring and station number in use and committed (R343). -/
  ring : Nat := 0xFF
  stn : Nat := 0xFF
  deriving DecidableEq, Repr

/-- The module proper. -/
structure Mod where
  /-- Values of the dictionary's entries that differ from their defaults, by place, strictly rising. -/
  od : List (Nat × Val) := []
  /-- Committed values that are durable in the parameter store (R411). -/
  pst : List (Nat × Val) := []
  /-- TB (R507) at the latest command. -/
  tb : Nat := 0
  /-- The dictionary as the latest mode tick found it: the settings that the owners of the controls have taken up (R26). -/
  ctl : List (Nat × Val) := []
  phase : Phase := .off
  /-- RST_CAUSE of the reset in progress (R510, R515), until its start-up. -/
  rst : Option Nat := some 1
  /-- What a boot that waits for its epoch has found: the RTC's advance and its checks (R518). -/
  boot : Option (Nat × BootIn) := none
  /-- A wake event held until a source returns (R514). -/
  heldWake : Bool := false
  lockstep : Bool := false
  /-- The model's own counter for values the specification leaves open (assumption log 9). -/
  freeCtr : Nat := 0
  sens : TickIn := noInput
  mean : Means := {}
  /-- What the latest command put out at the ports, oldest first. -/
  out : List Out := []
  timers : List (Tmr × Nat) := []
  journal : List JRec := []
  /-- The event log, newest record first (R498, R500), and Q26's items that wait for an erase. -/
  log : List LogRec := []
  q26 : List LogRec := []
  q26Lost : Nat := 0
  /-- Sectors retired from the event log and from the energy log (R496). -/
  retired : List Nat := [0, 0]
  /-- A sector erase in progress: 1 event log, 2 energy log, 3 firmware bank, 4 scrub; and the tick it began. -/
  eraseOp : Option (Nat × Nat) := none
  queues : List Queue := List.replicate 32 {}
  modes : Modes := {}
  reg : Reg := {}
  safe : Safe := {}
  kpr : Kpr := {}
  keys : Keys := {}
  fw : Fw := {}
  flt : List Flt := List.replicate 16 {}
  prot : List Prot := List.replicate 8 {}
  qual : List Qual := List.replicate 5 {}
  inp : List InS := List.replicate 4 {}
  stg : List Stg := List.replicate 2 {}
  phs : List Ph := List.replicate 16 {}
  grp : List Grp := List.replicate 5 {}
  intents : List Intent := []
  sns : List SnsS := [{}, {}]
  /-- ALERT_CAUSE of the HOST2W window, and its bits set in the present mode tick (R458). -/
  alert : Nat := 0
  alertNew : Nat := 0
  prof : Prof := {}
  bms : Bms := {}
  scan : ScanS := {}
  meas : Meas := {}
  cap : Cap := {}
  cable : Cable := {}
  cmp : List CmpS := List.replicate 32 {}
  /-- Field adjustments of R330: channel, gain factor and offset as written. -/
  cal : List (Nat × Nat × Nat) := []
  esess : Esess := {}
  /-- The energy log, newest record first, and the place of its next record (R331, R500). -/
  elog : List ERec := []
  ePos : Nat := 0
  /-- Energy records that wait for flash, oldest first (R28, R331, R401). -/
  elogQ : List ERec := []
  h2w : H2w := {}
  b2w : List B2w := [{}, {}]
  can : CanS := {}
  usb : Usb := {}
  aux : Aux := {}
  net : Net := {}
  /-- Node addresses known to be FENCED or superseded (R271). -/
  stale : List Nat := []
  /-- A MOORING module stands in the own group, as beacons show it (R249). -/
  segMooring : Bool := false
  deriving DecidableEq, Repr

/-- The machine: the module, its server's memory of requesters, and the commands that wait. -/
structure State where
  m : Mod
  srv : Srv
  pending : List Instr
  deriving DecidableEq, Repr

/-- The machine right after a power-on reset, before START_UP (R515, R517): no source has yet brought the control
complex up, every volatile entry is at its default, nothing is committed and no command waits. Register values that
no rule gives are those of assumption log 13. -/
def State.reset : State := { m := {}, srv := {}, pending := [] }

end Sys2Proof.Machine
end

