-- ==== Sys2Proof/Machine/Ops.lean ====
section
/-! DEFINITION. Machine/Ops.lean: the named operations over the module that every chapter's commands share: the
dictionary's store, time and timers, the outputs, the event log, the hardware queues, the parameter store's journal,
the fault blocks, the port switches, gate-off, CONT, ILKO and the SAFE force. -/

namespace Sys2Proof.Machine

open Sys2Proof

/-! ## The dictionary's store -/

/-- The value listed at a place. -/
def odGet : List (Nat × Val) → Nat → Option Val
  | [], _ => none
  | (k', v) :: r, k => if k' = k then some v else odGet r k

/-- The store with `v` listed at place `k`, in rising order of places. -/
def odPut : List (Nat × Val) → Nat → Val → List (Nat × Val)
  | [], k, v => [(k, v)]
  | (k', v') :: r, k, v =>
    if k < k' then (k, v) :: (k', v') :: r
    else if k' = k then (k, v) :: r
    else (k', v') :: odPut r k v

/-- The store with nothing listed at place `k`. -/
def odDel : List (Nat × Val) → Nat → List (Nat × Val)
  | [], _ => []
  | (k', v') :: r, k => if k' = k then odDel r k else (k', v') :: odDel r k

/-- The store's form: places strictly rising. -/
def odSorted : List (Nat × Val) → Bool
  | [] => true
  | (k, _) :: r => (match r with | [] => true | (k', _) :: _ => k < k') && odSorted r

/-- The raw number of a value. -/
def Val.toNat : Val → Nat
  | .num n => n
  | .bytes _ => 0

/-- The bytes of a STR or BLOB value. -/
def Val.toBytes : Val → List Nat
  | .num _ => []
  | .bytes b => b

/-- The value an entry holds (R7, R377). -/
def Mod.getV (m : Mod) (f : Fam) (i : Nat) : Val := (odGet m.od (f.key i)).getD (f.dflt i)

/-- The raw number an entry holds. -/
def Mod.n (m : Mod) (f : Fam) (i : Nat) : Nat := (m.getV f i).toNat

/-- The number an F32 entry holds (R10). -/
def Mod.q (m : Mod) (f : Fam) (i : Nat) : Rat := f32ToRat (m.n f i)

/-- Whether a BOOL entry holds 1. -/
def Mod.b (m : Mod) (f : Fam) (i : Nat) : Bool := m.n f i != 0

/-- R26: a setting as its owner has taken it up at the latest mode tick. -/
def Mod.ctlV (m : Mod) (f : Fam) (i : Nat) : Val := (odGet m.ctl (f.key i)).getD (f.dflt i)
def Mod.cn (m : Mod) (f : Fam) (i : Nat) : Nat := (m.ctlV f i).toNat
def Mod.cq (m : Mod) (f : Fam) (i : Nat) : Rat := f32ToRat (m.cn f i)
def Mod.cb (m : Mod) (f : Fam) (i : Nat) : Bool := m.cn f i != 0

/-- R26, R82: the owners take up the settings as they stand. -/
def Mod.latchControls (m : Mod) : Mod := { m with ctl := m.od }

/-- The bytes a STR or BLOB entry holds. -/
def Mod.bytes (m : Mod) (f : Fam) (i : Nat) : List Nat := (m.getV f i).toBytes

/-- Entry `i` of a family takes a value; an instance the family does not have changes nothing. -/
def Mod.setV (m : Mod) (f : Fam) (i : Nat) (v : Val) : Mod :=
  { m with od := if i < f.count then (if v = f.dflt i then odDel m.od (f.key i) else odPut m.od (f.key i) v) else m.od }

def Mod.setN (m : Mod) (f : Fam) (i : Nat) (v : Nat) : Mod := m.setV f i (.num v)

/-- An F32 entry takes the binary32 nearest to `v` (assumption log 3). -/
def Mod.setQ (m : Mod) (f : Fam) (i : Nat) (v : Rat) : Mod := m.setN f i (f32OfRat v)

def Mod.setB (m : Mod) (f : Fam) (i : Nat) (v : Bool) : Mod := m.setN f i (b2n v)

def Mod.setBytes (m : Mod) (f : Fam) (i : Nat) (v : List Nat) : Mod := m.setV f i (.bytes v)

/-- A U32 counter entry counts one up. -/
def Mod.inc (m : Mod) (f : Fam) (i : Nat) : Mod := m.setN f i (inc32 (m.n f i))

/-- A U32 counter entry counts `k` up. -/
def Mod.add (m : Mod) (f : Fam) (i k : Nat) : Mod := m.setN f i ((m.n f i + k) % 2 ^ 32)

/-- One bit of a bit-map entry. -/
def Mod.bitOf (m : Mod) (f : Fam) (i k : Nat) : Bool := bit (m.n f i) k

def Mod.setBit (m : Mod) (f : Fam) (i k : Nat) (v : Bool) : Mod := m.setN f i (Sys2Proof.setBit (m.n f i) k v)

/-- A change made only under a condition. -/
def Mod.when (m : Mod) (c : Bool) (f : Mod → Mod) : Mod := if c then f m else m

/-- A change made for each of the numbers below `n`, in order. -/
def Mod.each (m : Mod) (n : Nat) (f : Nat → Mod → Mod) : Mod := (List.range n).foldl (fun a k => f k a) m

/-! ## Time -/

/-- TB ticks of a whole number of microseconds, milliseconds, seconds (R10: 10 ns). -/
def us (x : Nat) : Nat := x * 100
def ms (x : Nat) : Nat := x * 100000
def sec (x : Nat) : Nat := x * 100000000

/-- TB ticks of a duration given as a rational number of milliseconds or seconds. -/
def ticksMs (x : Rat) : Nat := (x * 100000).ceil.toNat
def ticksS (x : Rat) : Nat := (x * 100000000).ceil.toNat
def ticksUs (x : Rat) : Nat := (x * 100).ceil.toNat

/-- The main domain runs: TB counts (R507, R519). -/
def Mod.counting (m : Mod) : Bool :=
  match m.phase with
  | .off | .hibernate => false
  | _ => true

/-- The control complex runs: requests and events take effect. -/
def Mod.alive (m : Mod) : Bool :=
  match m.phase with
  | .running => true
  | .holdup => true
  | _ => false

/-- The command takes place at tick `t`: TB has reached it, and never goes back (R507, assumption log 1). -/
def Mod.at (m : Mod) (t : Nat) : Mod :=
  { m with out := [], tb := if m.counting && m.tb ≤ t then t else m.tb }

/-- A command of the running module, at tick `t`. -/
def execM (t : Nat) (f : Mod → Mod) (s : State) : Host.Outcome State Fault Refusal :=
  .next { s with m := if (s.m.at t).alive then f (s.m.at t) else s.m.at t }

/-- An entry's value in another module stands in this one. -/
def Mod.carry (m old : Mod) (f : Fam) : Mod := m.each f.count (fun i m => m.setV f i (old.getV f i))

def Mod.carryAll (m old : Mod) (fs : List Fam) : Mod := fs.foldl (fun m f => m.carry old f) m

/-- R305, R515, R517, R518: SAFE and the comparators act while the control complex is in a reset, or in a boot that waits or has
stopped. -/
def Mod.safeAlone (m : Mod) : Bool := m.counting && m.phase != .off && !m.alive

/-- R305: what an action of SAFE or of a comparator changes while the control complex does not run. -/
def Mod.safeOnly (m x : Mod) : Mod :=
  ({ m with safe := x.safe, prot := x.prot, lockstep := x.lockstep } : Mod).carryAll x
    [E.PROT_STATE, E.PROT_CAUSE, E.TRIP_CNT, E.TRIP_I, E.CLAMP_CNT, E.CLAMP_E, E.LINK_OV_CNT, E.SAFE_FORCE_SRC, E.ESTOP_STATE,
     E.ILK_STATE, E.BRK_HEAT, E.BRK_HEAT_PCT, E.BRK_LIMITING]

/-- R289, R305: a command that SAFE or a comparator acts on by itself, at tick `t`. -/
def execSafe (t : Nat) (f : Mod → Mod) (s : State) : Host.Outcome State Fault Refusal :=
  .next { s with m := if (s.m.at t).alive then f (s.m.at t) else if (s.m.at t).safeAlone then (s.m.at t).safeOnly (f (s.m.at t)) else s.m.at t }

/-- A command of the running module that also concerns its server's memory, at tick `t`. -/
def execS (t : Nat) (f : Mod × Srv → Mod × Srv) (s : State) : Host.Outcome State Fault Refusal :=
  .next (if (s.m.at t).alive then { s with m := (f (s.m.at t, s.srv)).1, srv := (f (s.m.at t, s.srv)).2 }
         else { s with m := s.m.at t })

/-- Network time in ns: TB and its offset, advanced at 1 + NTIME_TRIM (R359). -/
def Mod.ntimeNs (m : Mod) : Rat :=
  let trim : Int := toSigned 32 (m.n E.NTIME_TRIM 0)
  10 * m.tb + m.net.ofs + 10 * (m.tb - m.net.ofsAt : Nat) * mkRat trim 1000000000

/-- Network time in TB ticks. -/
def Mod.ntime (m : Mod) : Nat := (m.ntimeNs / 10).floor.toNat

/-- Network time is valid (R374). -/
def Mod.ntimeOk (m : Mod) : Bool := m.bitOf E.NET_FLAGS 0 0

/-! ## Timers -/

/-- A timer runs and ends at tick `d`. -/
def Mod.arm (m : Mod) (T : Tmr) (d : Nat) : Mod :=
  { m with timers := (T, d) :: m.timers.filter (fun x => decide (x.1 ≠ T)) }

/-- A timer is stopped. -/
def Mod.disarm (m : Mod) (T : Tmr) : Mod :=
  { m with timers := m.timers.filter (fun x => decide (x.1 ≠ T)) }

/-- The end of a running timer. -/
def Mod.deadline (m : Mod) (T : Tmr) : Option Nat := (m.timers.find? (fun x => decide (x.1 = T))).map (·.2)

def Mod.armed (m : Mod) (T : Tmr) : Bool := (m.deadline T).isSome

/-- A running timer has reached its end. -/
def Mod.due (m : Mod) (T : Tmr) : Bool :=
  match m.deadline T with
  | some d => decide (d ≤ m.tb)
  | none => false

/-! ## Outputs and values the specification leaves open -/

def Mod.emit (m : Mod) (o : Out) : Mod := { m with out := m.out ++ [o] }

/-- Frames can leave: some Zwinglink link is UP (R338), and the own ring's key is held (R449). -/
def Mod.onRing (m : Mod) : Bool := m.keys.own.isSome && (List.range 4).any (fun l => m.n E.LINK_STATE l == 3)

/-- R449: frames can leave into the parent ring, or the own one: a link is UP, and that ring's key is held. -/
def Mod.onRingOf (m : Mod) (par : Bool) : Bool :=
  if par then m.keys.par.isSome && (List.range 4).any (fun l => m.n E.LINK_STATE l == 3) else m.onRing

/-- The next value the specification leaves open (assumption log 9). -/
def Mod.freeVal (m : Mod) : Nat := Config.freeNat m.freeCtr

def Mod.freeStep (m : Mod) : Mod := { m with freeCtr := m.freeCtr + 1 }

/-- R461: HALERT is pulled low when a bit of ALERT_CAUSE & ALERT_MASK comes, and released when none is left. -/
def Mod.alertTo (m : Mod) (cause mask : Nat) : Mod :=
  let was := m.alert &&& m.h2w.mask
  let now := cause &&& mask
  let rise := now - (now &&& was)
  let pulled := if now = 0 then false else m.h2w.pulled || (rise != 0 && m.b E.HALERT_EN 0)
  { m with alert := cause, h2w := { m.h2w with mask := mask, pulled := pulled } }

/-- A bit of ALERT_CAUSE is set (R458). -/
def Mod.alertSet (m : Mod) (k : Nat) : Mod :=
  { m with alertNew := Sys2Proof.setBit m.alertNew k true }.alertTo (Sys2Proof.setBit m.alert k true) m.h2w.mask

/-! ## The event log (R498 to R500) -/

def recordsPerSector : Nat := 1024
def eventSectors : Nat := 160

/-- The keeper stands still while a sector is erased (R496). -/
def Mod.eraseStart (m : Mod) (which : Nat) : Mod :=
  { m with eraseOp := some (which, m.tb)
           kpr := if m.kpr.running then { m.kpr with suspendedAt := some m.tb } else m.kpr }
  |>.when m.kpr.running (·.setN E.KPR_STATE 0 2)
  |>.arm .erase (m.tb + ms 400)

/-- A record reaches flash: it takes the next sequence number; entering the last erased sector starts an erase
of the oldest one (R500). -/
def Mod.logWrite (m : Mod) (r : LogRec) : Mod :=
  let m := { m with log := { r with seq := m.n E.LOG_NEXT 0, dropped := min m.q26Lost 65535 } :: m.log, q26Lost := 0 }
  let m := (m.inc E.LOG_CNT 0).inc E.LOG_NEXT 0
  m.when (m.n E.LOG_NEXT 0 % recordsPerSector == 1 && m.n E.LOG_CNT 0 > (eventSectors - 1 - (m.retired[0]?).getD 0) * recordsPerSector
          && m.eraseOp.isNone) (·.eraseStart 1)

/-- The class C item of Q26 that has waited longest gives way (R404, DROP_OLD). -/
def dropOldC : List LogRec → Option (List LogRec)
  | [] => none
  | r :: rs => if r.cls ≤ 1 then some rs else (dropOldC rs).map (r :: ·)

/-- A record waits in Q26 while flash erases: a full queue gives up its oldest item of class C, or the producer waits
(R401, R404). -/
def Mod.logWait (m : Mod) (r : LogRec) : Mod :=
  if m.q26.length < 256 then { m with q26 := m.q26 ++ [r] }
  else
    match dropOldC m.q26 with
    | some rest => ({ m with q26 := rest ++ [r], q26Lost := m.q26Lost + 1 } : Mod).inc E.Q_DROP 26
    | none => { m with q26 := m.q26 ++ [r] }

/-- A record of the present moment. -/
def Mod.record (m : Mod) (kind cls blk src flags index sub status : Nat) (data : List Nat) : LogRec :=
  { seq := 0, epoch := m.n E.EPOCH 0, tb := m.tb, rtc := m.n E.RTC 0, kind := kind, cls := cls, blk := blk, src := src,
    flags := flags + (if m.ntimeOk then 8 else 0), merged := 1, dropped := 0, index := index, sub := sub,
    status := status, data := data }

/-- The bytes of a value in an 8-byte field, padded with zeros (R499). -/
def pad8 (ty : Ty) (v : Val) : List Nat :=
  let l := match v with
    | .bytes b => b.take 8
    | .num n => leBytes (match ty with
      | .bool | .u8 => 1
      | .u16 | .i16 => 2
      | .u32 | .i32 | .f32 => 4
      | _ => 8) n
  l ++ List.replicate (8 - l.length) 0

/-- R405: a queue's fill, its maximum and its watermarks, for a fill `f` in per cent. -/
def Mod.fillMarks (m : Mod) (q : Nat) (f : Rat) : Mod :=
  let m := m.setQ E.Q_FILL q f
  let m := m.when (decide (m.q E.Q_MAX q < f)) (·.setQ E.Q_MAX q f)
  let m := m.when (!m.b E.Q_HIGH q && decide ((m.n E.Q_HWM q : Rat) ≤ f)) (fun m => (m.setB E.Q_HIGH q true).inc E.Q_HWM_CNT q)
  m.when (m.b E.Q_HIGH q && decide (f < (m.n E.Q_LWM q : Rat))) (·.setB E.Q_HIGH q false)

/-- R405: Q26's marks follow the records that wait in it, of which the depth holds fewer than the buffer; one event records
each episode of Q_HIGH. -/
def Mod.q26Marks (m : Mod) : Mod :=
  let x := m.fillMarks 26 (mkRat (min m.q26.length 256 * 100) 256)
  x.when (x.b E.Q_HIGH 26 && !m.b E.Q_HIGH 26) (fun x => x.logWait (x.record 0x0F00 0 0xFF 0xFF 0 (E.Q_HIGH.index 26)
    E.Q_HIGH.sub 0xFF (pad8 .bool (.num 0) ++ pad8 .bool (.num 1))))

/-- SUP0 writes to flash: no sector is being erased, and SAFE has not taken the flash controller for hold-up operation (R28,
R401). -/
def Mod.flashFree (m : Mod) : Bool := m.eraseOp.isNone && m.phase != .holdup

/-- A record goes through Q26: straight to flash, or waiting there while flash is taken (R498, R401). -/
def Mod.logPut (m : Mod) (r : LogRec) : Mod := if m.flashFree then m.logWrite r else (m.logWait r).q26Marks

/-- An event that is not a fault (R499). -/
def Mod.event (m : Mod) (kind : Nat) (data : List Nat) : Mod :=
  m.logPut (m.record kind 0 0xFF 0xFF 0 0 0 0xFF data)

/-- R499 STATE_NOTE about an entry: its value before, and its value now. -/
def Mod.note (m : Mod) (f : Fam) (i : Nat) (old : Val) : Mod :=
  m.logPut (m.record 0x0F00 0 0xFF 0xFF 0 (f.index i) f.sub 0xFF (pad8 f.ty old ++ pad8 f.ty (m.getV f i)))

/-- R499 STATE_NOTE about an entry whose value the event leaves as it is. -/
def Mod.noteAt (m : Mod) (f : Fam) (i : Nat) : Mod := m.note f i (m.getV f i)

/-- R499: a refused internal request, with its status. -/
def Mod.noteRefused (m : Mod) (f : Fam) (i status : Nat) : Mod :=
  m.logPut (m.record 0x0F00 0 0xFF 0xFF 0 (f.index i) f.sub status (pad8 f.ty (m.getV f i) ++ pad8 f.ty (m.getV f i)))

/-- An entry changes and the change is recorded. -/
def Mod.setNoted (m : Mod) (f : Fam) (i v : Nat) : Mod := (m.setN f i v).note f i (m.getV f i)

/-! ## The hardware queues (R401 to R405) -/

/-- R401: depth, buffer bytes and policy (0 HOLD, 1 CREDIT, 2 REFUSE, 3 DROP_NEW, 4 DROP_OLD) of each queue. -/
def queueTable : List (Nat × Nat × Nat) :=
  [(8, 2048, 0), (16, 4096, 0), (16, 4096, 0), (32, 16384, 0), (32, 24576, 0), (32, 24576, 0), (64, 49152, 3),
   (64, 49152, 0), (8, 2048, 3), (16, 4096, 3), (16, 4096, 3), (32, 16384, 1), (32, 24576, 1), (32, 24576, 1),
   (64, 32768, 3), (32, 32768, 1)] ++
  [(32, 4096, 0), (32, 4096, 2), (32, 4096, 0), (32, 4096, 2), (16, 4096, 2), (16, 4096, 0), (32, 16384, 2),
   (32, 16384, 0), (32, 4096, 0), (32, 4096, 0), (256, 65536, 4), (64, 98304, 0), (64, 49152, 3), (32, 8192, 0),
   (16, 4096, 3), (32, 16384, 0)]

def queueRow (q : Nat) : Nat × Nat × Nat := (queueTable[q]?).getD (0, 0, 0)

def Mod.queue (m : Mod) (q : Nat) : Queue := (m.queues[q]?).getD {}

def Queue.bytes (q : Queue) : Nat := (q.items.map (·.bytes)).sum

/-- R405: fill in per cent, the greater of items and bytes. -/
def Mod.queueFill (m : Mod) (q : Nat) : Rat :=
  let a := mkRat ((m.queue q).items.length * 100) (queueRow q).1
  let b := mkRat ((m.queue q).bytes * 100) (queueRow q).2.1
  if a < b then b else a

/-- R405: fill, its maximum, and the watermarks follow the queue's content. -/
def Mod.queueMarks (m : Mod) (q : Nat) : Mod := if q = 26 then m.q26Marks else m.fillMarks q (m.queueFill q)

/-- R404: an item would exceed the queue's depth or buffer. -/
def Mod.queueFull (m : Mod) (q bytes : Nat) : Bool :=
  decide ((queueRow q).1 < (m.queue q).items.length + 1) || decide ((queueRow q).2.1 < (m.queue q).bytes + bytes)

/-- An item enters a queue that has room for it (R402). -/
def Mod.enqueue (m : Mod) (q bytes peer seq : Nat) : Mod :=
  let x := m.queue q
  let it : QItem := { bytes := bytes, peer := peer, seq := seq, gap := x.gapNext, tb := m.tb }
  let m : Mod := { m with queues := setAt {} m.queues q { x with items := x.items ++ [it], gapNext := false } }
  m.queueMarks q

/-- The oldest item leaves its queue, acted on (R403). -/
def Mod.dequeue (m : Mod) (q : Nat) : Mod :=
  let x := m.queue q
  ({ m with queues := setAt {} m.queues q { x with items := x.items.drop 1, status := 0 } } : Mod).queueMarks q

/-- R404: an arriving item is dropped; the next one accepted carries GAP under DROP_NEW. -/
def Mod.queueDrop (m : Mod) (q : Nat) : Mod :=
  let x := m.queue q
  let x : Queue := { x with gapNext := decide ((queueRow q).2.2 = 3) || x.gapNext, status := 0x31 }
  ({ m with queues := setAt {} m.queues q x } : Mod).inc E.Q_DROP q

/-- R406: a queue is flushed: each item held completes ABORTED_RESET. -/
def Mod.queueFlush (m : Mod) (q : Nat) : Mod :=
  let x := m.queue q
  ({ m with queues := setAt {} m.queues q { status := if x.items.isEmpty then x.status else 0x40 } } : Mod).queueMarks q

/-- An item passes through a queue at once: it enters and its consumer takes it. -/
def Mod.through (m : Mod) (q bytes peer seq : Nat) : Mod := (m.enqueue q bytes peer seq).dequeue q

/-! ## Frames out (R340, R345, R362, R364) -/

/-- R364: the credits of a frame of so many bytes, the place of a class among the classes under credit, its buffer. -/
def frameCredits (bytes : Nat) : Nat := (bytes + 63) / 64
def creditPlace (cls : Nat) : Option Nat :=
  match cls with
  | 3 => some 0 | 4 => some 1 | 5 => some 2 | 7 => some 3 | _ => none
def creditBuffer : List Nat := [128, 256, 256, 512]

def Mod.linkOf (m : Mod) (l : Nat) : LinkS := (m.net.links[l]?).getD {}
def Mod.modLink (m : Mod) (l : Nat) (f : LinkS → LinkS) : Mod :=
  { m with net := { m.net with links := modAt {} m.net.links l f } }

/-- R364: credit available on a link: buffer + freed − used, counters modulo 2^32. -/
def Mod.credit (m : Mod) (l c : Nat) : Nat :=
  let x := m.linkOf l
  ((creditBuffer[c]?).getD 0 + (x.freedIn[c]?).getD 0 + 2 ^ 32 - (x.used[c]?).getD 0) % 2 ^ 32

/-- The UP links of a role (R337, R338). -/
def Mod.upLinks (m : Mod) (role : Nat) : List Nat :=
  (List.range 4).filter (fun l => m.n E.LINK_STATE l == 3 && m.n E.LINK_ROLE l == role)

/-- R61 sharing roles. -/
def Mod.mooring (m : Mod) : Bool := m.n E.SHARE_ROLE 0 == 2
def Mod.fenced (m : Mod) : Bool := m.n E.SHARE_ROLE 0 == 3

/-- R341: the module leads its own ring, or as head the parent ring. -/
def Mod.parentLantern (m : Mod) : Bool := m.bitOf E.NET_FLAGS 0 5
def Mod.isLantern (m : Mod) : Bool := m.n E.NET_ROLE 0 == 1
def Mod.isHead (m : Mod) : Bool := m.n E.NET_ROLE 0 == 2
def Mod.leads (m : Mod) : Bool := m.isLantern || m.parentLantern

/-- R346: the SCOPE of a TYPE that the module originates: 0 unicast, 1 ring or link, 2 fleet. -/
def typeScope (typ : Nat) : Nat :=
  if [0x21, 0x30, 0x35, 0x40, 0x50, 0x51, 0x60, 0x70, 0x71].contains typ then 0
  else if [0x20, 0x23, 0x36, 0x37].contains typ then 2
  else 1

/-- R345: the TYPEs that a lantern sends as lantern. -/
def lanternType (typ : Nat) : Bool := [0x01, 0x06, 0x11, 0x31, 0x32, 0x34, 0x35, 0x36, 0x37].contains typ

/-- The ring in which the module originates a TYPE: the parent ring as its lantern, or with no UP link of its own ring. -/
def Mod.txParent (m : Mod) (typ : Nat) : Bool := (m.parentLantern && lanternType typ) || (m.upLinks 1).isEmpty

/-- R344, R345: bytes of a frame whose payload has so many, with its MAC: 4 bytes in classes 0 to 2, 8 in the others. -/
def frameBytes (cls len : Nat) : Nat := max 64 (34 + (if cls ≤ 2 then 4 else 8) + len)

/-- R340, R344, R345, R347: the header of a frame that the module originates in its own ring, or in its parent ring; a line end sets
TURNED. -/
def Mod.txHeader (m : Mod) (par : Bool) (cls typ dst seq len : Nat) : Hdr :=
  let lant := m.leads && lanternType typ
  { cls := cls, typ := typ, turned := (m.upLinks (if par then 2 else 1)).length == 1, ver := 1,
    src := m.n (if par then E.NET_ADDR_P else E.NET_ADDR) 0, dst := dst, scope := typeScope typ, lant := lant,
    fenced := m.fenced, relayed := false, hops := 255,
    gen := if lant then (if par then m.net.parLgen else m.n E.LGEN 0) else m.n E.SHARE_GEN 0, seq := seq, len := len,
    epochLo := m.n E.EPOCH 0 % 65536, key := if par then m.keys.par else m.keys.own, fcsOk := true, yieldMark := false,
    etherOk := true, bytes := frameBytes cls len, mac := Config.mac48 }

/-- R340: downstream among the UP links of a ring: a lantern's lowest, a station's link other than the one by which beacons arrive, a
line end's one link. -/
def Mod.downOf (m : Mod) (role : Nat) (lead : Bool) (up : Option Nat) : Option Nat :=
  let ls := m.upLinks role
  if lead then ls.head? else (ls.find? (fun l => up != some l)).orElse (fun _ => ls.head?)

/-- The link on which the module originates in its parent ring, and in its own ring, where it has links there. -/
def Mod.parLink (m : Mod) : Option Nat := m.downOf 2 m.parentLantern m.net.parUp
def Mod.downLink (m : Mod) : Option Nat :=
  if (m.upLinks 1).isEmpty then m.parLink else m.downOf 1 m.isLantern m.net.upstream
def Mod.txLink (m : Mod) (par : Bool) : Option Nat := if par then m.parLink else m.downLink

/-- The link of a frame on its way out, and its bytes. -/
def Out.link : Out → Option Nat
  | .frame l _ _ => l
  | .forward l _ => some l
  | .beacon l _ _ => l
  | _ => none

def Out.bytes : Out → Nat
  | .frame _ h _ => h.bytes
  | .forward _ h => h.bytes
  | .beacon _ h _ => h.bytes
  | _ => 64

/-- R340, R364: a frame that waited for another link leaves on this one, turned. -/
def Out.toLink (k : Nat) : Out → Out
  | .frame l h c => if l = some k then .frame l h c else .frame (some k) { h with turned := true } c
  | .forward l h => if l = k then .forward l h else .forward k { h with turned := true }
  | o => o

/-- R363: a frame that is broken off ends in the yield mark. -/
def Out.cut : Out → Out
  | .frame l h c => .frame l { h with yieldMark := true, fcsOk := false } c
  | .forward l h => .forward l { h with yieldMark := true, fcsOk := false }
  | o => o

/-- R340, R364: the link on which a frame leaves: its own while that is UP, else the ring's other one, to which it turns. -/
def Mod.outLink (m : Mod) (o : Out) : Option Nat :=
  match o.link with
  | some l => if m.n E.LINK_STATE l = 3 then some l else (m.upLinks (m.n E.LINK_ROLE l)).head?.orElse (fun _ => m.downLink)
  | none => m.downLink

/-- R364: a frame leaves and uses its credits. -/
def Mod.useCredit (m : Mod) (cls credits : Nat) (o : Out) : Mod :=
  (match creditPlace cls, m.outLink o with
    | some c, some l => m.modLink l (fun x => { x with used := modAt 0 x.used c (fun u => (u + credits) % 2 ^ 32) })
    | _, _ => m).emit o

/-- R364: the class holds the credits of a frame on its link, or needs none. -/
def Mod.hasCredit (m : Mod) (cls credits : Nat) (o : Out) : Bool :=
  match creditPlace cls, m.outLink o with
  | some c, some l => decide (credits ≤ m.credit l c)
  | _, _ => true

/-- R364: the credits of a frame that came by link `l` are freed. -/
def Mod.freeClass (m : Mod) (l cls credits : Nat) : Mod :=
  match creditPlace cls with
  | some c => m.modLink l (fun x => { x with freedOut := modAt 0 x.freedOut c (fun u => (u + credits) % 2 ^ 32) })
  | none => m

/-- Ticks that so many bytes take on the wire at 1000 Mbit/s, with preamble and inter-frame gap. -/
def wireTicks (bytes : Nat) : Nat := ((bytes + 20) * 4 + 4) / 5

/-- The tick at which the frame of class 3 to 7 on the wire of a link ends. -/
def Mod.wireEnd (m : Mod) (k : Nat) : Nat := ((m.linkOf k).tx.map (·.stop)).getD 0

/-- R363, R364: a frame of class 3 to 7 goes on the wire: its credits are used, those it held here as a forwarded one are freed. -/
def Mod.launch (m : Mod) (f : HeldF) : Mod :=
  match m.outLink f.out with
  | none => m.emit f.out
  | some k =>
    let o := f.out.toLink k
    let start := max f.since (m.wireEnd k)
    let m := (m.useCredit f.cls f.credits o).modLink k (fun x => { x with
      tx := some { out := o, bytes := o.bytes, start := start, stop := start + wireTicks o.bytes, via := f.via, cls := f.cls } })
    match f.via with
    | some v => m.freeClass v f.cls f.credits
    | none => m

/-- The frames that wait for link `k`; the first of a class. -/
def Mod.heldOn (m : Mod) (k : Nat) : List HeldF := m.net.held.filter (fun f => m.outLink f.out == some k)
def Mod.firstOn (m : Mod) (k c : Nat) : Option HeldF := (m.heldOn k).find? (·.cls == c)

/-- R365: the deficit round robin of one transmitter finds the next frame: a class sends while what is left of its turns lasts, one that
has none left gives its deficit up, one without credit is passed over and keeps it; the first argument bounds the turns. -/
def Mod.drrPick (k : Nat) : Nat → Mod → Mod × Option HeldF
  | 0, m => (m, none)
  | n + 1, m =>
    let c := (m.linkOf k).turn
    let have_ := ((m.linkOf k).deficit[c]?).getD 0
    let next := fun (m : Mod) =>
      let c := if c < 7 then c + 1 else 3
      let more := match m.firstOn k c with
        | some f => if m.hasCredit c f.credits f.out then m.n E.CLS_QUANTUM c else 0
        | none => 0
      Mod.drrPick k n (m.modLink k (fun x => { x with turn := c, deficit := modAt 0 x.deficit c (· + more) }))
    match m.firstOn k c with
    | some f =>
      if m.hasCredit c f.credits f.out && f.out.bytes ≤ have_ then
        (m.modLink k (fun x => { x with deficit := setAt 0 x.deficit c (have_ - f.out.bytes) }), some f)
      else next m
    | none => next (m.modLink k (fun x => { x with deficit := setAt 0 x.deficit c 0 }))

/-- R364, R365: the transmitter of link `k` serves what waits for it, as far as credit goes, up to the present; the first argument
bounds the frames. -/
def Mod.serveLink (k : Nat) : Nat → Mod → Mod
  | 0, m => m
  | n + 1, m =>
    if m.wireEnd k ≤ m.tb && (m.heldOn k).any (fun f => m.hasCredit f.cls f.credits f.out) then
      match Mod.drrPick k 40 m with
      | (m, some f) =>
        let m : Mod := { m with net := { m.net with held := m.net.held.erase f } }
        Mod.serveLink k n ((if f.via.isNone then m.dequeue f.cls else m).launch f)
      | (m, none) => m
    else m

def Mod.serveOne (m : Mod) (k : Nat) : Mod := Mod.serveLink k m.net.held.length m

/-- R364, R365: every transmitter serves what waits for it. -/
def Mod.creditFlush (m : Mod) : Mod := [0, 1, 2, 3].foldl Mod.serveOne m

/-- R363: a frame of class 0 to 2 breaks off the frame of class 3 to 7 on its wire, which is sent again whole behind it; one that has
yielded three times ends first. -/
def Mod.cutIn (m : Mod) (o : Out) : Mod :=
  let k := (o.link.orElse (fun _ => m.downLink)).getD 4
  match (m.linkOf k).tx with
  | none => m.emit o
  | some f =>
    let w := wireTicks o.bytes
    if f.stop ≤ m.tb then m.emit o
    else if m.tb < f.start then
      -- a further one while the broken frame waits to be sent again
      ({ m with out := if m.out.getLast? = some f.out then m.out.dropLast ++ [o, f.out] else m.out ++ [o] } : Mod).modLink k
        (fun x => { x with tx := some { f with start := f.start + w, stop := f.stop + w } })
    else if f.yields < 3 then
      (((m.emit f.out.cut).emit o).emit f.out).modLink k (fun x => { x with
        tx := some { f with yields := f.yields + 1, start := m.tb + w, stop := m.tb + w + wireTicks f.bytes } })
    else ((m.emit o).inc E.EXP_LATE 0).modLink k (fun x => { x with tx := some { f with stop := f.stop + w } })

/-- R364: a frame of class 3 to 7 may leave at once: its wire is free, its class holds the credits, and none of its class waits
there. -/
def Mod.mayLaunch (m : Mod) (f : HeldF) : Bool :=
  match m.outLink f.out with
  | none => true
  | some k => decide (m.wireEnd k ≤ m.tb) && m.hasCredit f.cls f.credits f.out && !(m.heldOn k).any (·.cls == f.cls)

/-- R362 to R365: a frame goes to its transmitter: one of class 0 to 2 leaves at once, another when the wire is free and its class
holds the credits. `via` is the link by which a forwarded frame came; one of the module's own waits in its class's queue. -/
def Mod.sendVia (via : Option Nat) (m : Mod) (cls credits : Nat) (o : Out) : Mod :=
  if cls ≤ 2 then m.cutIn o
  else
    let m := match m.outLink o with
      | some k => m.serveOne k
      | none => m
    let f : HeldF := { cls := cls, credits := credits, out := o, via := via, since := m.tb }
    if m.mayLaunch f then m.launch f
    else
      let m := if via.isNone then m.enqueue cls o.bytes 0xFFFF 0 else m
      { m with net := { m.net with held := m.net.held ++ [f] } }

def Mod.sendFrame (m : Mod) (cls credits : Nat) (o : Out) : Mod := m.sendVia none cls credits o

/-- The class's SEQ goes up by one (R345), CLS_TX counts. -/
def Mod.seqStep (m : Mod) (cls : Nat) : Mod :=
  ({ m with net := { m.net with txSeq := modAt 0 m.net.txSeq cls (fun s => (s + 1) % 65536) } } : Mod).inc E.CLS_TX cls
def Mod.nextSeq (m : Mod) (cls : Nat) : Nat := (m.net.txSeq[cls]?).getD 0

/-- A frame that the module originates in its own ring or in its parent ring. `link` is that of a link frame, which no line end turns. -/
def Mod.transmitOn (m : Mod) (link : Option Nat) (par : Bool) (cls typ dst : Nat) (content : List Nat) : Mod :=
  let h := m.txHeader par cls typ dst (m.nextSeq cls) content.length
  let h : Hdr := { h with turned := link.isNone && h.turned }
  let on := match link with
    | some l => some l
    | none => m.txLink par
  (m.sendFrame cls (frameCredits h.bytes) (.frame on h content)).seqStep cls

/-- R343: while the ring's number is unconfirmed, a frame addressed beyond the ring is not originated; RING_SUM brings the number. -/
def Mod.barredBeyond (m : Mod) (typ dst : Nat) : Bool :=
  m.bitOf E.NET_FLAGS 0 8 && typ != 0x35 &&
    (typeScope typ == 2 || (typeScope typ == 0 && dst != 0xFFFF && dst / 128 != m.net.ring))

/-- R343, R449: a frame of the TYPE can leave now for the address, in the ring in which the module originates it. -/
def Mod.canReach (m : Mod) (typ dst : Nat) : Bool := m.onRingOf (m.txParent typ) && !m.barredBeyond typ dst

def Mod.transmit (m : Mod) (cls typ dst : Nat) (content : List Nat) : Mod :=
  if m.barredBeyond typ dst then m else m.transmitOn none (m.txParent typ) cls typ dst content

/-- R362: what a cycle allows of classes 1 and 2: one frame of each, and at the lantern the ALLOC frames of one intent; a frame does not
pass one of its class that is held. The answer is the module's account with this frame in it. -/
def Mod.expAllowed (m : Mod) (cls typ : Nat) (content : List Nat) : Option Net :=
  let cyc := m.ntime / 10000
  let behind := m.net.expHeld.any (fun o => match o with
    | .frame _ h _ => h.cls == cls && (h.typ == 0x11) == (typ == 0x11)
    | _ => false)
  if cls ≠ 1 ∧ cls ≠ 2 then some m.net
  else if behind then none
  else if typ = 0x11 then
    if m.net.allocCycle.1 ≠ cyc + 1 ∨ m.net.allocCycle.2 = content.take 6 then
      some { m.net with allocCycle := (cyc + 1, content.take 6) }
    else none
  else
    let sent := if m.net.expCycle = cyc then m.net.expSent else [0, 0]
    if 1 ≤ (sent[cls - 1]?).getD 0 then none
    else some { m.net with expCycle := cyc, expSent := setAt 0 sent (cls - 1) 1 }

/-- R362: a frame beyond its cycle's limit is held, in order. -/
def Mod.expHold (m : Mod) (o : Out) : Mod := { m with net := { m.net with expHeld := m.net.expHeld ++ [o] } }

/-- R362: a station originates a frame; one of class 1 or 2 beyond the limit of its cycle waits for the next one. -/
def Mod.originateIn (m : Mod) (par : Bool) (cls typ dst : Nat) (content : List Nat) : Mod :=
  if !m.onRingOf par || m.barredBeyond typ dst then m
  else
    match m.expAllowed cls typ content with
    | some net => ({ m with net := net } : Mod).transmitOn none par cls typ dst content
    | none => (m.expHold (.frame none (m.txHeader par cls typ dst 0 content.length) content)).inc E.EXP_DEFER 0

def Mod.originate (m : Mod) (cls typ dst : Nat) (content : List Nat) : Mod := m.originateIn (m.txParent typ) cls typ dst content

/-- R384, R385: a response leaves on the transport of its request, through the transport's response queue. -/
def respQueue : Transport → Nat
  | .usb => 23
  | .host2w => 21
  | .can u => if u = 0 then 16 else 18
  | .zwl => 5
  | .engine => 29

/-- R384: a response body as bytes. -/
def Resp.flags (r : Resp) : Nat := b2n r.dup + 2 * b2n r.more + 4 * b2n r.staged + 8 * b2n r.recorded

def Resp.body (r : Resp) : List Nat :=
  [r.op, r.status] ++ leBytes 2 r.index ++ [r.sub, r.ty] ++ leBytes 2 r.data.length ++ leBytes 4 r.epoch ++
  leBytes 2 r.seq ++ [r.flags, r.detail] ++ leBytes 4 r.total ++ r.data

/-- R470: the smallest CAN FD data length of at least `n` bytes. -/
def canLength (n : Nat) : Nat := ([8, 12, 16, 20, 24, 32, 48, 64].find? (fun k => decide (n ≤ k))).getD 64

/-- R469, R471: a compact response on CAN port `u`. -/
def Mod.canResponse (m : Mod) (u : Nat) (r : Resp) : CanFrame :=
  let b := [m.n E.CAN_NODE u, r.op, r.status, r.detail] ++ leBytes 2 r.index ++ [r.sub, r.ty] ++ leBytes 4 r.epoch ++
    leBytes 2 r.seq ++ [r.flags, r.data.length] ++ leBytes 4 r.total ++ r.data
  { bus := u, id := m.n E.CAN_OD_BASE u + 0x20 + r.requester % 0x80, ext := false, fd := true,
    data := b ++ List.replicate (canLength b.length - b.length) 0 }

/-- R468: a frame leaves CAN port `u` through Q16 or Q18, and waits there while the port is bus-off. -/
def Mod.canSend (m : Mod) (u peer seq : Nat) (f : CanFrame) : Mod :=
  let q := if u = 0 then 16 else 18
  if m.n E.CAN_STATE u = 2 then
    if m.queueFull q f.data.length then m
    else
      let m := m.enqueue q f.data.length peer seq
      { m with can := { m.can with held := m.can.held ++ [f] } }
  else (m.through q f.data.length peer seq).emit (.can f)

/-- R384, R385: a response leaves on the transport of its request; HOST2W's waits for its window (R457). -/
def Mod.respond (m : Mod) (r : Resp) : Mod :=
  match r.transport with
  | .engine => m.emit (.resp r)
  | .host2w =>
    let m := m.enqueue 21 (20 + r.data.length) r.requester r.seq
    { m with h2w := { m.h2w with waiting := m.h2w.waiting ++ [r.body] } }
  | .usb => (m.through 23 (20 + r.data.length) r.requester r.seq).emit (.resp r)
  | .can u => m.canSend u r.requester r.seq (m.canResponse u r)
  | .zwl => (m.through 5 (20 + r.data.length) r.requester r.seq).transmit 5 0x50 r.requester r.body

/-! ## The parameter store (R394, R395, R411) -/

/-- A committed entry takes a value in force and its journal record is on its way. -/
def Mod.commit (m : Mod) (f : Fam) (i : Nat) (v : Val) : Mod :=
  let old := m.getV f i
  let m := m.setV f i v
  { m with journal := m.journal ++
      [{ writes := [(f.key i, v)], olds := [(f.key i, old)], ask := none, kind := 0 }] }

def Mod.commitN (m : Mod) (f : Fam) (i v : Nat) : Mod := m.commit f i (.num v)
def Mod.commitQ (m : Mod) (f : Fam) (i : Nat) (v : Rat) : Mod := m.commit f i (.num (f32OfRat v))

/-! ## Fault blocks (R476 to R487) -/

/-- R476: class of source `bit` of block `b`: 1 C, 2 U, 3 F; none where the table lists no source. Source 15:0 has the
class its raising gives it. -/
def srcClass (b bit : Nat) : Option Nat :=
  if bit = 15 ∧ b < 16 then some (if b = 4 then 3 else 2)
  else
    let rows : List (List Nat) :=
      [[1, 2, 2], [2, 2, 2, 2, 1, 2], [2, 2, 2, 2, 1], [1, 1, 1, 1, 1, 2], [3, 2, 1], [1, 2, 1, 2, 1], [1, 2, 2],
       [2, 2], [1, 2, 2, 1], [1, 2], [1, 1], [1, 1], [1, 2, 3, 1, 1], [1, 2, 3], [3, 3, 1], [1, 1]]
    match rows[b]? with
    | some r => r[bit]?
    | none => none

/-- R522: the source reports an event, active for 1 ms. -/
def srcEvent (b bit : Nat) : Bool :=
  bit == 15 || b == 0 || (b == 1 && (bit ≤ 3 || bit == 5)) || (b == 2 && bit ≤ 3) ||
  (b == 3 && (bit == 1 || bit == 2 || bit == 3 || bit == 5)) || (b == 4 && (bit == 1 || bit == 2)) ||
  (b == 5 && bit == 2) || b == 6 || b == 7 || b == 8 || (b == 9 && bit == 0) || b == 10 ||
  (b == 13 && bit == 1)

def Mod.fltOf (m : Mod) (b : Nat) : Flt := (m.flt[b]?).getD {}

def Mod.modFlt (m : Mod) (b : Nat) (f : Flt → Flt) : Mod := { m with flt := modAt {} m.flt b f }

/-- R487: some block asserts its line into FAULT. -/
def Mod.faultLine (m : Mod) : Bool :=
  (List.range 16).any (fun b => decide (m.n E.FAULT_MINCLASS 0 ≤ m.n E.FLT_CLASS b))

/-- R487, R48: FAULT stops conducting as soon as a line is asserted, and stays so for at least 100 ms. -/
def Mod.faultPin (m : Mod) : Mod :=
  if m.faultLine && m.b E.FAULT_OUT 0 then
    ((m.setB E.FAULT_OUT 0 false).arm .faultContact (m.tb + ms 100)).alertSet 1
  else m

/-- R299: what makes SAFE hold CONT off. -/
def Mod.contHeld (m : Mod) : Bool :=
  let f := m.n E.SAFE_FORCE_SRC 0
  (bit f 0 && m.b E.ESTOP_CONT 0) || (m.safe.ilkOpen && m.b E.ILK_EN 0 && m.b E.ILK_CONT 0) || m.safe.tamperOpen ||
    bit f 2 || m.safe.holdup || m.lockstep

/-- R299: CONT's output goes off. -/
def Mod.contOff (m : Mod) : Mod :=
  let m := { m with safe := { m.safe with contOn := false } }
  ((m.when (m.n E.CONT_STATE 0 != 4) (·.setN E.CONT_STATE 0 0)).setQ E.CONT_I 0 0).disarm .contPull

/-- R299, R300: SAFE closes CONT where nothing holds it off and no overcurrent bars it. -/
def Mod.contClose (m : Mod) : Mod :=
  if m.contHeld || m.safe.contOn || m.n E.CONT_STATE 0 == 4 then m
  else
    ({ m with safe := { m.safe with contOn := true } }.setN E.CONT_STATE 0 1).arm .contPull
      (m.tb + ms (m.n E.CONT_PULL 0))

/-- R298: ILKO conducts while the module is powered and none of its opening conditions holds. -/
def Mod.ilko (m : Mod) : Mod :=
  let f := m.n E.SAFE_FORCE_SRC 0
  m.setB E.ILKO_STATE 0 (m.alive && !m.lockstep && !((bit f 0 && m.b E.ESTOP_ILKO 0) || bit f 2 || bit f 3 || bit f 4) &&
    !m.b E.ILK_OPEN_REQ 0)

/-! ## Stages: gate-off (R27, R170) -/

def Mod.stgOf (m : Mod) (g : Nat) : Stg := (m.stg[g]?).getD {}
def Mod.modStg (m : Mod) (g : Nat) (f : Stg → Stg) : Mod := { m with stg := modAt {} m.stg g f }
def Mod.phOf (m : Mod) (p : Nat) : Ph := (m.phs[p]?).getD {}
def Mod.modPh (m : Mod) (p : Nat) (f : Ph → Ph) : Mod := { m with phs := modAt {} m.phs p f }
def Mod.grpOf (m : Mod) (k : Nat) : Grp := (m.grp[k]?).getD {}
def Mod.modGrp (m : Mod) (k : Nat) (f : Grp → Grp) : Mod := { m with grp := modAt {} m.grp k f }
def Mod.inpOf (m : Mod) (k : Nat) : InS := (m.inp[k]?).getD {}
def Mod.modInp (m : Mod) (k : Nat) (f : InS → InS) : Mod := { m with inp := modAt {} m.inp k f }
def Mod.protOf (m : Mod) (k : Nat) : Prot := (m.prot[k]?).getD {}
def Mod.modProt (m : Mod) (k : Nat) (f : Prot → Prot) : Mod := { m with prot := modAt {} m.prot k f }
def Mod.qualOf (m : Mod) (k : Nat) : Qual := (m.qual[k]?).getD {}
def Mod.modQual (m : Mod) (k : Nat) (f : Qual → Qual) : Mod := { m with qual := modAt {} m.qual k f }

/-- Stage of phase `p`: 0 for A, 1 for B (R9). -/
def stageOf (p : Nat) : Nat := if p < 8 then 0 else 1

/-- The eight phases of a stage, in the order A0 to A7 or B0 to B7. -/
def stagePhases (g : Nat) : List Nat := (List.range 8).map (8 * g + ·)

/-- STG_NACT and IN_PHASES follow the phases (R161, R148). -/
def Mod.countPhases (m : Mod) : Mod :=
  let act := fun g => ((stagePhases g).filter (fun p => m.n E.PH_STATE p == 4)).length
  let tap := fun k => ((List.range 8).filter (fun p => m.n E.PH_TAP p == k)).length
  let m := (m.setN E.STG_NACT 0 (act 0)).setN E.STG_NACT 1 (act 1)
  m.each 4 (fun k m => m.setN E.IN_PHASES k (tap k))

/-- A phase's gates go off: it is in state `st`, with no slot and no reference. -/
def Mod.phaseOff (m : Mod) (p st : Nat) : Mod :=
  ((((m.setN E.PH_STATE p st).setN E.PH_SLOT p 0xFF).setQ E.PH_IREF p 0).setQ E.PH_I p 0).modPh p
    (fun x => { x with step := 0, aboveAdd := 0, retap := none, held := false, fresh := true })

/-- The stage's gates are held off. -/
def Mod.gated (m : Mod) (g : Nat) : Bool := (m.stgOf g).gate != 0

/-- The stage switches: neither gated off nor idle. -/
def Mod.running (m : Mod) (g : Nat) : Bool := !m.gated g && (m.n E.SST_STATE g == 2 || m.n E.SST_STATE g == 3)

/-- R170: every phase that switches becomes SHED; adds, sheds, re-spacing and rotation are abandoned. -/
def Mod.abandonStage (m : Mod) (g : Nat) : Mod :=
  let m := (stagePhases g).foldl (fun m p =>
    let st := m.n E.PH_STATE p
    let m := m.disarm (.arming p)
    if st == 3 || st == 4 || st == 5 || st == 7 then m.phaseOff p 1 else m) m
  let m := m.modStg g (fun x => { x with rotPending := false, rotWanted := false, rotLeft := 0, respLeft := 0, lim := 0,
                                         stopping := false, endStop := false, refs := [] })
  let m := if g = 0 then m.each 4 (fun k m => m.modGrp k (fun x => { x with adding := false }))
    else m.modGrp 4 (fun x => { x with adding := false })
  m.countPhases

/-- R27: SAFE's gate-off of a stage, for cause `c`; on its release the path starts the stage afresh. -/
def Mod.gateOff (m : Mod) (g c : Nat) : Mod :=
  let m := m.abandonStage g
  let m := m.modStg g (fun x => { x with gate := Sys2Proof.setBit (Sys2Proof.setBit x.gate c true) 5 true })
  let m := m.setN E.SST_STATE g (if m.n E.SST_STATE g == 5 then 5 else 0)
  let m := (m.disarm (.sstDelay (g == 0))).disarm (.sspDelay (g == 0))
  (m.setN E.FB_ACTIVE g 0).when (g == 1) (fun m => if m.n E.BRIDGE_STATE 0 == 0 then m else m.setN E.BRIDGE_STATE 0 0)

def Mod.gateOffBoth (m : Mod) (c : Nat) : Mod := (m.gateOff 0 c).gateOff 1 c

/-! ## Port switches -/

def Mod.closed (m : Mod) (k : Nat) : Bool := (m.protOf k).closed

/-- A port switch is commanded open (R290 watches the current that remains). -/
def Mod.openSwitch (m : Mod) (k : Nat) : Mod :=
  m.modProt k (fun x => { x with closed := false, openedAt := if x.closed then some m.tb else x.openedAt,
                                 zeroFrom := if x.closed && k != 6 then some m.tb else x.zeroFrom })

/-- A port switch closes, unless hardware holds it open after a lockstep mismatch (R296) or its pilot pair is open (R33). One that
closes within 10 ms of its opening leaves no current-free channel, and its auto-zero is left out: the model's choice (assumption
log 104, R313). -/
def Mod.closeSwitch (m : Mod) (k : Nat) : Mod :=
  if m.lockstep || (m.protOf k).pilotOpen then m else m.modProt k (fun x => { x with closed := true, openedAt := none, zeroFrom := none })

/-- The switches that SAFE opens in a stop (R112, R296): IN1 to IN4, BAT, SYS. -/
def stopPorts : List Nat := [0, 1, 2, 3, 4, 5]

/-- R130: an input's ceiling falls to 0 by its window state, which IN_CEIL_SRC shows once a tick has computed a ceiling. -/
def Mod.zeroCeil (m : Mod) (k : Nat) : Mod :=
  let m := (m.modInp k (fun x => { x with ceil := 0, free := 0, stepping := none, polTop := none })).setQ E.IN_ICEIL k 0
  m.when (m.n E.IN_CEIL_SRC k != 0) (·.setN E.IN_CEIL_SRC k 8)

/-- R122: a warm join is over: a phase that ran for it alone, in a stage that does not run, is SHED. -/
def Mod.joinEnd (m : Mod) (k : Nat) : Mod :=
  match (m.qualOf k).joinPh with
  | some p => if m.n E.PH_STATE p = 4 ∧ !m.running (stageOf p) then (m.phaseOff p 1).countPhases else m
  | none => m

/-- A port of a qualification family leaves for `st`: its timers stop, its ceiling is 0 unless it is CONNECTED; a BAT
that is no longer qualified is not in recovery (R103). -/
def Mod.qualTo (m : Mod) (k st : Nat) : Mod :=
  let m := (m.joinEnd k).setN E.QUAL_STATE k st
  let m := ((m.disarm (.insertion k)).disarm (.precharge k)).disarm (.ride k)
  let m := m.modQual k (fun x => { x with cold := false, branch := false, joinPh := none })
  let m := m.when (k == 4 && (st < 3 || st == 7) && m.n E.DEAD_STATE 0 == 1) (·.setN E.DEAD_STATE 0 0)
  m.when (k < 4 && st != 5) (·.zeroCeil k)

/-- R128: rank of a cause among those that act within one mode tick. -/
def causeRank (c : Nat) : Nat :=
  match c with
  | 7 => 0 | 4 => 1 | 3 => 2 | 2 => 3 | 6 => 4 | 1 => 5 | _ => 6

/-- R128: QUAL_CAUSE takes a cause, unless one that comes first acted in the same mode tick. -/
def Mod.setCause (m : Mod) (k c : Nat) : Mod :=
  let now := m.modes.tickNo + 1
  if (m.qualOf k).causeAt == now && causeRank (m.n E.QUAL_CAUSE k) < causeRank c then m
  else (m.setN E.QUAL_CAUSE k c).modQual k (fun x => { x with causeAt := now })

def Mod.qualStop (m : Mod) (k st cause : Nat) : Mod :=
  if k < 5 then (m.qualTo k st).setCause k cause else m

/-- The lower edge of a port's window, and its upper edge (R120). -/
def Mod.winLo (m : Mod) (k : Nat) : Rat := m.cq E.QUAL_UV k * (1 + m.cq E.QUAL_HYST k / 100)
def Mod.winHi (m : Mod) (k : Nat) : Rat := m.cq E.QUAL_OV k * (1 - m.cq E.QUAL_HYST k / 100)

/-- The ratings of R36 that R282 and R285 name as the basis, A. -/
def portRating (k : Nat) : Rat :=
  match k with
  | 0 | 1 | 2 | 3 => 160
  | 4 => 200
  | 5 => 250
  | 6 => 250
  | _ => 15

/-! ## The capture's triggers (R320 to R322) -/

def setBits (n m : Nat) : Nat := n ||| m
def clearBits (n m : Nat) : Nat := n - (n &&& m)

/-- R312: the sampling instant at or before a tick. -/
def sampleAt (t : Nat) : Nat := t / 50 * 50

/-- The first sampling instant after the present tick. -/
def Mod.nextSample (m : Mod) : Nat := sampleAt m.tb + 50

/-- R319: samples before the trigger sample. -/
def Mod.capPre (m : Mod) : Nat := (m.q E.CAP_PRE 0 / 100 * m.cap.len).floor.toNat

/-- TB ticks of one stored sample of a capture (R312, R319). -/
def Mod.capTick (m : Mod) : Nat := 50 * m.cap.dec

/-- R322: network time of a sample, in ticks. -/
def Mod.ntimeAt (m : Mod) (t : Nat) : Nat := m.ntime - (m.tb - t)

/-- R321: the trigger sample at tick `t`: the record starts `pre` samples before it, or at the oldest sample held. -/
def Mod.capPlace (m : Mod) (cause t : Nat) : Mod :=
  let short := m.n E.CAP_STATE 0 == 1
  let at_ := m.cap.first + (t - m.cap.first) / m.capTick * m.capTick - m.capPre * m.capTick
  let m : Mod := if short then m.setBit E.CAP_FLAGS 0 0 true
    else { m with cap := { m.cap with first := max m.cap.first at_ } }
  (((m.setN E.CAP_STATE 0 3).setN E.CAP_TRIG_T 0 t).setN E.CAP_TRIG_CAUSE 0 cause).inc E.CAP_NUM 0

/-- R322: the trigger goes to the ring. -/
def Mod.capTell (m : Mod) (t : Nat) : Mod :=
  m.when (m.b E.CAP_NET_TX 0) (·.originate 2 0x22 0xFFFF (leBytes 8 (m.ntimeAt t)))

/-- R320, R321: conditions `bits` hold in the sample of tick `t`. Bits that fire in the trigger sample itself join its
cause; a trigger in states 3 to 5 is lost. -/
def Mod.capTrigger (bits t : Nat) (m : Mod) : Mod :=
  let c := bits &&& m.n E.CAP_TRIG_SRC 0
  let t := sampleAt (min t m.tb)
  let st := m.n E.CAP_STATE 0
  if c = 0 ∨ st = 0 then m
  else if st = 1 ∨ st = 2 then (m.capPlace c t).capTell t
  else if st = 3 ∧ t = m.n E.CAP_TRIG_T 0 then m.setN E.CAP_TRIG_CAUSE 0 (setBits (m.n E.CAP_TRIG_CAUSE 0) c)
  else m.inc E.CAP_TRIG_LOST 0

/-! ## SAFE force (R296, R113, R309) -/

/-- A cause of R296 arises: gate-off, then the stop of R112 without its ramp, which ignores intents at once (R192), and ILKO
and CONT as its row gives. The next mode tick records it, though it may have cleared by then (R63). -/
def Mod.force (m : Mod) (c : Nat) : Mod :=
  let was := m.n E.SAFE_FORCE_SRC 0
  let m : Mod := { m.setBit E.SAFE_FORCE_SRC 0 c true with modes := { m.modes with forceSeen := true } }
  let m := m.when (!bit was c) (fun m => ((m.note E.SAFE_FORCE_SRC 0 (.num was)).alertSet 4).capTrigger 0x20 m.tb)
  let m := m.gateOffBoth 0
  let m := m.when (!bit was c) (·.originate 2 0x20 0xFFFF ([if c = 2 then 3 else 2, 0xFF, c, 0] ++ leBytes 8 m.ntime ++ leBytes 4 0))
  let m := m.ilko
  let m : Mod := (((({ m with intents := [] } : Mod).setN E.INT_PENDING 0 0).setN E.INT_NEXT_T 0 0).setQ E.INT_PB_V 0 0)
  if m.n E.SS_STATE 0 == 0 || m.n E.SS_STATE 0 == 1 then
    ((m.setN E.SS_STATE 0 2).disarm .ssRamp).arm .ssOpen (m.tb + us 100)
  else if m.n E.SS_STATE 0 == 2 then m
  else m.when m.contHeld Mod.contOff

/-- A cause of R296 clears; the stages stay off until the mode tick resolves afresh. -/
def Mod.unforce (m : Mod) (c : Nat) : Mod :=
  let was := m.n E.SAFE_FORCE_SRC 0
  let m := (m.setBit E.SAFE_FORCE_SRC 0 c false).ilko
  let m := m.when (m.n E.SAFE_FORCE_SRC 0 == 0 && !m.lockstep) (·.each 2 (fun g m =>
    m.modStg g (fun x => { x with gate := Sys2Proof.setBit x.gate 0 false })))
  m.when (bit was c) (·.note E.SAFE_FORCE_SRC 0 (.num was))

/-! ## Raising and ending sources (R477, R479, R483, R522) -/

/-- The latest record of a source within 1 s takes `n` more raisings, with the flags of the new one (R498). -/
def mergeRec (b bit now n flags : Nat) : List LogRec → Option (List LogRec)
  | [] => none
  | r :: rs =>
    if now > r.tb + sec 1 then none
    else if r.kind = 1 ∧ r.blk = b ∧ r.src = bit then
      some ({ r with merged := r.merged + n, flags := setBits r.flags (setBits 2 flags) } :: rs)
    else (mergeRec b bit now n flags rs).map (r :: ·)

/-- R477: how often source `bit` has been raised since its latest record, this raising included. -/
def Mod.fltCount (m : Mod) (b bit : Nat) : Nat :=
  (((m.fltOf b).counts.find? (·.1 == bit)).map (·.2)).getD 0 + 1

/-- The raising is recorded: merged with a record of the last second, in Q26 or in flash, or a record of its own (R498). -/
def Mod.logFault (m : Mod) (b bit cls : Nat) (value : Option Rat) : Mod :=
  if cls < m.n E.LOG_MINCLASS 0 then m
  else
    let n := m.fltCount b bit
    let flags := if Sys2Proof.bit (m.fltOf b).injected bit then 4 else 0
    let told := m.modFlt b (fun x => { x with counts := x.counts.filter (·.1 != bit) })
    match mergeRec b bit m.tb n flags m.q26.reverse, mergeRec b bit m.tb n flags m.log with
    | some l, _ => { told with q26 := l.reverse }
    | none, some l => { told with log := l }
    | none, none =>
      let v := match value with
        | some q => f32OfRat q
        | none => 0x7FC00000
      let r := m.record 1 cls b bit (flags + (if n > 1 then 2 else 0)) 0 0 0xFF (leBytes 4 (m.n E.FLT_ACTIVE b) ++ leBytes 4 v)
      told.logPut { r with merged := n }

/-- R483, R486: SAFE forces the module while a class F state holds; an escalation timer that runs stops. -/
def Mod.classF (m : Mod) (b bits : Nat) : Mod :=
  let m := m.modFlt b (fun x => { x with fActive := setBits x.fActive bits, unacked := 0 })
  let m := (m.setN E.FLT_CLASS b 3).disarm (.grace b)
  m.force 2

/-- R488: an injected source has been reported; one of block 3 is checked link by link. -/
def Mod.injFound (m : Mod) (b bit : Nat) : Mod :=
  if b = 3 then m
  else (m.modFlt b (fun x => { x with injected := Sys2Proof.setBit x.injected bit false })).disarm (.injMiss b bit)

/-- R477, R522: a source becomes active. `cls` is its class, `value` the quantity that raised it. One that is active already
is counted, and an event holds it for 1 ms more. -/
def Mod.raiseAs (m : Mod) (b bit cls : Nat) (value : Option Rat) : Mod :=
  if Sys2Proof.bit (m.n E.FLT_ACTIVE b) bit then
    let m := m.modFlt b (fun x => { x with counts := (bit, m.fltCount b bit) :: x.counts.filter (·.1 != bit), since := m.tb })
    (m.when (srcEvent b bit) (·.arm (.eventHold b bit) (m.tb + ms 1))).injFound b bit
  else
    let m := (m.setBit E.FLT_ACTIVE b bit true).setBit E.FLT_STICKY b bit true
    let m := m.when (m.n E.FLT_CLASS b < cls) (·.setN E.FLT_CLASS b cls)
    let m := m.setBit E.FLT_SUMMARY 0 b true
    let m := m.modFlt b (fun x => { x with since := m.tb })
    let m := m.when (m.bitOf E.FLT_IRQ_EN b bit) (·.modFlt b (fun x => { x with told := Sys2Proof.setBit x.told bit true }))
    let m := m.when (srcEvent b bit) (·.arm (.eventHold b bit) (m.tb + ms 1))
    let m := (m.logFault b bit cls value).injFound b bit
    let m := m.when (cls == 2) (fun m =>
      let m := m.modFlt b (fun x => { x with unacked := Sys2Proof.setBit x.unacked bit true })
      m.when (!m.armed (.grace b) && !(m.fltOf b).resetting)
        (·.arm (.grace b) (m.tb + ms (m.n E.FLT_GRACE b))))
    let m := (m.when (cls == 3) (·.classF b (1 <<< bit))).when (2 ≤ cls) (fun m => m.capTrigger 0x40 m.tb)
    m.faultPin

/-- R476, R477: a source of the table becomes active. -/
def Mod.raise (m : Mod) (b bit : Nat) (value : Option Rat := none) : Mod :=
  match srcClass b bit with
  | some cls => m.raiseAs b bit cls value
  | none => m

/-- R477, R484: a source is no longer active; the quiet period counts from here. -/
def Mod.lower (m : Mod) (b bit : Nat) : Mod :=
  if Sys2Proof.bit (m.n E.FLT_ACTIVE b) bit then
    ((m.setBit E.FLT_ACTIVE b bit false).modFlt b (fun x => { x with since := m.tb })).disarm (.eventHold b bit)
  else m

/-- R522: a condition source follows its condition. -/
def Mod.sync (m : Mod) (b bit : Nat) (cond : Bool) (value : Option Rat := none) : Mod :=
  if cond then (if Sys2Proof.bit (m.n E.FLT_ACTIVE b) bit then m else m.raise b bit value) else m.lower b bit

/-! ## The resistor's heat (R95, R96) -/

/-- R95, R96: H takes a value: the entries that show it, its limit, and the event of its warning. -/
def Mod.heatTo (m : Mod) (h : Rat) : Mod :=
  let h := grid (maxR 0 h)
  let top := m.q E.BRK_PCONT 0 * m.q E.BRK_TAU 0
  let pct := if top ≤ 0 then 0 else 100 * h / top
  let m := ((m.setQ E.BRK_HEAT 0 h).setQ E.BRK_HEAT_PCT 0 (clampR 0 200 pct)).setB E.BRK_LIMITING 0 (decide (top ≤ h))
  let warm := decide (m.q E.BRK_WARN 0 < pct)
  let m := m.when (warm && !m.safe.heatWarned) (·.noteAt E.BRK_HEAT_PCT 0)
  { m with safe := { m.safe with heat := h, heatWarned := warm } }

/-- R289, R94: the power that the clamp puts into the resistor, at full duty. -/
def Mod.clampPower (m : Mod) : Rat := if m.q E.BRK_R 0 ≤ 0 then 0 else m.sens.vLink * m.sens.vLink / m.q E.BRK_R 0

/-- R289, R96: the clamp's action ends with energy `e`, J: it counts in CLAMP_E, and what H does not yet hold of it is added. -/
def Mod.clampOver (m : Mod) (e : Rat) : Mod :=
  let m := (m.heatTo (m.safe.heat + maxR 0 e - m.safe.clampJ)).setQ E.CLAMP_E 0 (m.q E.CLAMP_E 0 + maxR 0 e)
  { m with safe := { m.safe with clamping := false, clampJ := 0 } }

/-- R289: an action that a trip or a reset ends has run at its power since the latest mode tick. -/
def Mod.clampEnd (m : Mod) : Mod :=
  m.when m.safe.clamping (fun m => m.clampOver (m.safe.clampJ + m.clampPower * mkRat (m.tb - m.n E.TICK_LAST 0 : Nat) 100000000))

/-! ## Trips (R279, R280, R294) -/

/-- Sources 12:0 to 12:2 follow the ports' states (R522). -/
def Mod.syncPorts (m : Mod) : Mod :=
  let any := fun (p : Nat → Bool) => (List.range 8).any p
  let m := m.sync 12 0 (any (fun k => m.n E.PROT_STATE k == 2))
  let m := m.sync 12 1 (any (fun k => m.n E.PROT_STATE k == 3))
  m.sync 12 2 (any (fun k => m.n E.PROT_STATE k == 3 && m.n E.PROT_CAUSE k == 8))

/-- A port enters TRIPPED or LATCHED: its counters, its event and its qualification follow (R279, R280). -/
def Mod.protEnter (m : Mod) (k st cause : Nat) (i : Rat) : Mod :=
  let m := ((m.setN E.PROT_STATE k st).setN E.PROT_CAUSE k cause).inc E.TRIP_CNT k
  let m := m.setQ E.TRIP_I k (if i < -750 then -750 else if 750 < i then 750 else i)
  let m := (m.openSwitch k).qualStop k 0 7
  let m := (m.disarm (.switchRelease k)).disarm (.limitExit k)
  let m := m.event 0x0040 ([k, cause, st] ++ leBytes 4 (f32OfRat i))
  let m := m.originate 2 0x20 0xFFFF ([1, k, cause, 0] ++ leBytes 8 m.ntime ++ leBytes 4 (f32OfRat i))
  ((((m.alertSet 3).raise 12 (st - 2)).when (cause == 8) (·.raise 12 2)).syncPorts).capTrigger 0x10 m.tb

/-- R294, R280: a trip of cause `cause`. The repeated trip latches; of two causes in one mode tick the lower stands. -/
def Mod.trip (m : Mod) (k cause : Nat) (i : Rat) : Mod :=
  let p := m.protOf k
  if 2 ≤ m.n E.PROT_STATE k then
    m.when (m.n E.PROT_STATE k == 2 && p.tripTick == m.modes.tickNo + 1 && cause < m.n E.PROT_CAUSE k) (·.setN E.PROT_CAUSE k cause)
  else
    let recent := (m.tb : Int) :: p.trips.filter (fun t => decide ((m.tb : Int) < t + sec (m.n E.PROT_LATCH_W k)))
    let m := m.modProt k (fun x => { x with trips := recent, tripTick := m.modes.tickNo + 1 })
    if m.n E.PROT_LATCH_N k ≤ recent.length then m.protEnter k 3 7 i else m.protEnter k 2 cause i

/-- R284, R296: the stages that a tripped or latched SYS or BAT holds off (gate cause 1). -/
def Mod.portGates (m : Mod) : Mod :=
  let sys := 2 ≤ m.n E.PROT_STATE 5
  let bat := 2 ≤ m.n E.PROT_STATE 4
  let put := fun (m : Mod) (g : Nat) (on : Bool) =>
    if on && !bit (m.stgOf g).gate 1 then m.gateOff g 1
    else if on then m else m.modStg g (fun x => { x with gate := Sys2Proof.setBit x.gate 1 false })
  put (put m 0 sys) 1 (sys || bat)

/-! ## The keeper's own tasks (R494) -/

/-- A task of the module checks in by itself: its bit is set where enabled and not yet seen. -/
def Mod.kprTask (m : Mod) (k : Nat) : Mod :=
  if m.kpr.running && m.bitOf E.KPR_TASKS 0 k && !m.bitOf E.KPR_SEEN 0 k then m.setBit E.KPR_SEEN 0 k true else m

end Sys2Proof.Machine
end

