-- ==== Sys2Proof/Machine/Operands.lean ====
section
/-! DEFINITION. Machine/Operands.lean: the operands of a request (R379, R382, R386): finding the entry it names, the
value its data spell, and whether a value lies within an entry's type and range (R5, R6, R10, R379). -/

namespace Sys2Proof.Machine

open Sys2Proof

/-- R379: TYPE code. -/
def tyCode : Ty → Nat
  | .bool => 1 | .u8 => 2 | .u16 => 3 | .u32 => 4 | .u64 => 5 | .i16 => 6 | .i32 => 7 | .i64 => 8 | .f32 => 9
  | .time64 => 10 | .str => 11 | .blob => 12

/-- R379: length in bytes; none for STR and BLOB. -/
def tySize : Ty → Option Nat
  | .bool => some 1 | .u8 => some 1 | .u16 => some 2 | .u32 => some 4 | .u64 => some 8 | .i16 => some 2
  | .i32 => some 4 | .i64 => some 8 | .f32 => some 4 | .time64 => some 8 | .str => none | .blob => none

/-- The instance of a family that an index names. -/
def Fam.inst (f : Fam) (index : Nat) : Option Nat :=
  if index < f.base then none
  else
    let d := index - f.base
    if d % f.stride = 0 ∧ d / f.stride < f.count then some (d / f.stride) else none

/-- The entry that an index and a subindex name (R377, R409). -/
def findEntry (index sub : Nat) : List Fam → Option (Fam × Nat)
  | [] => none
  | f :: fs =>
    if f.sub = sub then
      match f.inst index with
      | some i => some (f, i)
      | none => findEntry index sub fs
    else findEntry index sub fs

/-- R377: the index exists. -/
def indexExists (index : Nat) : Bool := families.any (fun f => (f.inst index).isSome)

/-- R377: the highest subindex present at an index, which its subindex 0 reads. -/
def highestSub (index : Nat) : Nat :=
  families.foldl (fun a f => if (f.inst index).isSome then max a f.sub else a) 0

/-- The entry at a place of the store. -/
def entryAt (key : Nat) : Option (Fam × Nat) := findEntry (key / 256) (key % 256) families

/-- R5: the reserved bits of a bit map are ignored. -/
def Fam.mask (f : Fam) (v : Val) : Val :=
  match f.rng, v with
  | .mask k, .num n => .num (n &&& k)
  | _, _ => v

/-- Signed value of a raw number of an integer type (R379). -/
def Fam.signed (f : Fam) (n : Nat) : Int :=
  match f.ty with
  | .i16 => toSigned 16 n
  | .i32 => toSigned 32 n
  | .i64 => toSigned 64 n
  | _ => n

/-- R6, R379: the value lies within the entry's range and is valid for its type. A range end of an F32 entry is the
binary32 nearest to the written number (assumption log 3). -/
def Fam.inRange (f : Fam) (v : Val) : Bool :=
  let typed := match f.ty, v with
    | .f32, .num n => f32Finite n
    | .str, .bytes b => utf8Valid b
    | .bool, .num n => n ≤ 1
    | _, _ => true
  let ranged := match f.rng, v with
    | .nats ivs, .num n => ivs.any (fun x => x.1 ≤ n && n ≤ x.2)
    | .ints ivs, .num n => ivs.any (fun x => x.1 ≤ f.signed n && f.signed n ≤ x.2)
    | .rats ivs, .num n => ivs.any (fun x => decide (f32Round x.1 ≤ f32ToRat n) && decide (f32ToRat n ≤ f32Round x.2))
    | .len lo hi, .bytes b => lo ≤ b.length && b.length ≤ hi
    | _, _ => true
  typed && ranged

/-- R386: the longest value of a STR or BLOB entry. -/
def Fam.maxLen (f : Fam) : Nat :=
  match f.rng with
  | .len _ hi => hi
  | _ => 1024

/-- R379, R386: a length that a whole value of the entry can have: up to the entry's maximum, or the fixed length of its layout. A
value shorter than its range allows is refused by that range (R6). -/
def Fam.lengthOk (f : Fam) (n : Nat) : Bool :=
  match f.rng with
  | .len lo hi => n ≤ hi && (lo != hi || n == lo)
  | _ => n ≤ 1024

/-- R384: TYPE of the entry that an index and a subindex name; 0 where there is none. -/
def entryType (index sub : Nat) : Nat :=
  if sub = 0 then (if indexExists index then 2 else 0)
  else ((findEntry index sub families).map (fun p => tyCode p.1.ty)).getD 0

/-- A value as bytes, least significant first (R10). -/
def Fam.encode (f : Fam) (v : Val) : List Nat :=
  match v, tySize f.ty with
  | .num n, some k => leBytes k n
  | .num n, none => leBytes 8 n
  | .bytes b, _ => b

/-- The value that whole, unsegmented data spell (R10). -/
def Fam.decode (f : Fam) (data : List Nat) : Val :=
  match tySize f.ty with
  | some _ => .num (leNat data)
  | none => .bytes data

/-- A request that a command carries names entry family `f` as a WRITE or, for a read-clear entry, a READ. -/
def reqNames (r : Req) (op : Nat) (f : Fam) : Bool := r.op == op && r.sub == f.sub && (f.inst r.index).isSome

/-- The instance of `f` that a request names. -/
def reqInst (r : Req) (f : Fam) : Nat := (f.inst r.index).getD 0

end Sys2Proof.Machine
end

