-- ==== Sys2Proof/Machine/Serve.lean ====
section
/-! DEFINITION. Machine/Serve.lean: the object-dictionary server (R381 to R400): sessions, the checks of R387 in their
order, completion records, segments, staging, and the answers. What one entry's own rule adds is a `Rule`. -/

namespace Sys2Proof.Machine

open Sys2Proof

/-- The module and its server. -/
abbrev Sys := Mod × Srv

/-- How an accepted write ends: answered now with status, DETAIL, data and what of it a reset would leave (R399), or
answered later, when its journal record is durable or its boundary has come. -/
inductive Reply where
  | final (status detail : Nat) (data : List Nat) (eff : Nat)
  | deferred

/-- What an entry's own rule adds to R387: the level a value needs (step 13), a READ_ONLY of R380, a lock (14), a
cross-entry rule (15), FENCED (16), MODE_FORBIDS (17), BUSY (18), what an accepted write does, what a read returns, and
what a read clears. The checks answer true where the request is refused. -/
structure Rule where
  lvl : Mod → Val → Nat
  ro : Mod → Req → Bool
  locked : Sys → Req → Val → Bool
  range : Mod → Val → Bool
  fenced : Mod → Val → Bool
  forbids : Sys → Req → Val → Bool
  busy : Mod → Val → Bool
  act : Asker → Req → Val → Sys → Sys × Reply
  get : Sys → Req → Val
  clear : Option (Mod → Mod)
  /-- What an accepted segment at OFFSET 0 does (R451). -/
  first : Mod → Mod
  /-- A read that is refused with RANGE (R324). -/
  unread : Mod → Bool
  /-- A cross-entry rule that only a commit checks (R419): true where it is refused with RANGE. -/
  late : Mod → Bool

/-- The asker of a request, with the TYPE of the entry it names (R384). -/
def askerOf (r : Req) (epoch : Nat) : Asker :=
  { requester := r.requester, transport := r.transport, op := r.op, index := r.index, sub := r.sub,
    ty := if r.op = 1 ∨ r.op = 2 then entryType r.index r.sub else 0, epoch := epoch, seq := r.seq }

/-! ## Sessions (R381, R443) -/

def Srv.session (v : Srv) (req : Nat) : Option Sess := v.sessions.find? (·.requester == req)

/-- R381: the transport gives every requester a session at its first request; the USB session runs from attach. -/
def Srv.sessionValid (v : Srv) (r : Req) : Bool :=
  match r.transport with
  | .usb => (v.session r.requester).isSome
  | _ => true

/-- The level of a request is the level its session holds; the profile engine's is L2 (R218). -/
def Srv.level (v : Srv) (r : Req) : Nat :=
  match r.transport with
  | .engine => 2
  | _ => ((v.session r.requester).map (·.level)).getD 0

def Srv.setLevel (v : Srv) (req level now : Nat) : Srv :=
  { v with sessions := { requester := req, level := level, lastUse := now } ::
      v.sessions.filter (·.requester != req) }

/-- A session is used; those of Zwinglink and CAN return to L0 after 900 s (R443). -/
def touchSession (x : Sys) (r : Req) : Sys :=
  match r.transport with
  | .engine => x
  | .usb => x
  | .host2w => (x.1, if (x.2.session r.requester).isSome then x.2 else x.2.setLevel r.requester 0 x.1.tb)
  | _ =>
    let lvl := ((x.2.session r.requester).map (·.level)).getD 0
    (x.1.arm (.session r.requester) (x.1.tb + sec 900), x.2.setLevel r.requester lvl x.1.tb)

/-! ## The stage (R391, R392) -/

/-- R399: what is in force of the staged writes in `l` goes from `old` to `new` in their records. -/
def markStaged (x : Sys) (l : List Staged) (old new : Nat) : Sys :=
  (x.1, { x.2 with recs := x.2.recs.map (fun c =>
    if some c.requester = x.2.owner ∧ c.epoch = x.1.n E.EPOCH 0 ∧ c.eff = old ∧ l.any (·.seq == c.seq) then
      { c with eff := new } else c) })

/-- R392: the stage is discarded, counted and recorded. -/
def discardStage (x : Sys) : Sys :=
  if x.2.stage.isEmpty then x
  else
    let m := (x.1.inc E.STAGE_DISCARDS 0).noteAt E.STAGE_DISCARDS 0
    (m.disarm .stage, { (markStaged x x.2.stage 3 0).2 with stage := [], owner := none, commit := none })

/-- R392: the stage goes when its owner's session ends or falls below a staged entry's level. -/
def stageLevel (x : Sys) (req level : Nat) : Sys :=
  if x.2.owner = some req ∧ x.2.stage.any (fun e => level < e.level) then discardStage x else x

/-- A session takes a level (R443), with what that does to the stage (R392). -/
def setSession (x : Sys) (req level : Nat) : Sys :=
  stageLevel (x.1, x.2.setLevel req level x.1.tb) req level

/-- A session ends (R381). -/
def endSession (x : Sys) (req : Nat) : Sys :=
  let x : Sys := if x.2.owner = some req then discardStage x else x
  (x.1.disarm (.session req), { x.2 with sessions := x.2.sessions.filter (·.requester != req),
                                         asms := x.2.asms.filter (·.requester != req),
                                         snaps := x.2.snaps.filter (·.requester != req) })

/-! ## Completion records (R397) -/

def CRec.free (c : CRec) : Bool := c.status != 0xFF

/-- The record of a request. -/
def Srv.recOf (v : Srv) (req epoch seq : Nat) : Option CRec :=
  v.recs.find? (fun c => c.requester == req && c.epoch == epoch && c.seq == seq)

/-- The completed record that finished first. -/
def oldestDone : List CRec → Option CRec
  | [] => none
  | c :: cs =>
    match oldestDone cs with
    | none => if c.free then some c else none
    | some d => if c.free && c.doneAt ≤ d.doneAt then some c else some d

/-- R397: a record can be had: fewer than 256 are held, or one of them is complete. -/
def Srv.recordFree (v : Srv) : Bool := v.recs.length < 256 || v.recs.any CRec.free

/-- R397: a record is made at acceptance; a full table gives up its oldest completed record, and REC_EARLY counts one
younger than REC_HOLD. -/
def makeRecord (x : Sys) (a : Asker) : Sys :=
  let c : CRec :=
    { requester := a.requester, epoch := a.epoch, seq := a.seq, op := a.op, index := a.index,
      sub := a.sub, status := 0xFF, detail := 0, eff := 0, doneAt := 0 }
  if x.2.recs.length < 256 then (x.1, { x.2 with recs := c :: x.2.recs })
  else
    match oldestDone x.2.recs with
    | none => x
    | some d =>
      let m := x.1.when (decide (x.1.tb < d.doneAt + sec (x.1.n E.REC_HOLD 0))) (·.inc E.REC_EARLY 0)
      (m, { x.2 with recs := c :: x.2.recs.erase d })

/-- R397: the latest accepted SEQ of at most 64 requesters; the one idle longest gives up its place. -/
def noteSeq (v : Srv) (req seq : Nat) : Srv :=
  { v with seqs := ((req, seq) :: v.seqs.filter (·.1 != req)).take 64 }

/-- A record takes its final status. -/
def completeRecord (x : Sys) (a : Asker) (status detail eff : Nat) : Sys :=
  (x.1, { x.2 with recs := x.2.recs.map (fun c =>
    if c.requester = a.requester ∧ c.epoch = a.epoch ∧ c.seq = a.seq ∧ c.status = 0xFF then
      { c with status := status, detail := detail, eff := eff, doneAt := x.1.tb } else c) })

/-- R399: what of a request is in force, while it is not complete. -/
def markRecord (x : Sys) (a : Asker) (eff : Nat) : Sys :=
  (x.1, { x.2 with recs := x.2.recs.map (fun c =>
    if c.requester = a.requester ∧ c.epoch = a.epoch ∧ c.seq = a.seq then { c with eff := eff } else c) })

/-! ## Answers (R384) -/

/-- A response to an asker. -/
def Asker.resp (a : Asker) (m : Mod) (status detail : Nat) (data : List Nat) : Resp :=
  { requester := a.requester, transport := a.transport, op := a.op + 128, status := status, index := a.index,
    sub := a.sub, ty := a.ty, epoch := m.n E.EPOCH 0, seq := a.seq, dup := false, more := false, staged := false,
    recorded := false, detail := detail, total := 0, data := data }

/-- A request completes: its record takes the status, its answer leaves, and SUP0's task checks in (R494). -/
def finish (x : Sys) (a : Asker) (status detail : Nat) (data : List Nat) (eff : Nat) (staged : Bool := false) : Sys :=
  let x := completeRecord x a status detail eff
  let rec? := (x.2.recOf a.requester a.epoch a.seq).isSome
  let r := a.resp x.1 status detail data
  ((x.1.respond { r with recorded := rec?, staged := staged }).kprTask 1, x.2)

/-- A refusal before acceptance: no record (R388). -/
def reject (x : Sys) (r : Req) (status detail : Nat) (data : List Nat) : Sys :=
  (x.1.respond ((askerOf r (x.1.n E.EPOCH 0)).resp x.1 status detail data), x.2)

/-- R388: a refusal at the queue, with the fields it can fill. -/
def rejectEarly (x : Sys) (r : Req) (status : Nat) : Sys :=
  (x.1.respond ({ askerOf r (x.1.n E.EPOCH 0) with ty := 0 }.resp x.1 status 0 []), x.2)

/-- R389: a refusal in steps 8 to 18, with the data its status's row gives. -/
def refuse (x : Sys) (a : Asker) (status : Nat) (data : List Nat := []) (detail : Nat := 0) : Sys :=
  finish x a status detail data 0

/-! ## Reads (R386, R400) -/

/-- R386, R471: the longest segment that a read returns on a transport. -/
def segLength : Transport → Nat
  | .can _ => 44
  | _ => 1024

/-- A read of an entry: the value or the segment from OFFSET, or RANGE. -/
def answerRead (x : Sys) (a : Asker) (r : Req) (f : Fam) (v : Val) (staged : Bool) : Sys :=
  match tySize f.ty with
  | some _ =>
    if r.offset ≠ 0 then refuse x a 0x14
    else finish x a 0 0 (f.encode v) 2 staged
  | none =>
    let key := r.index * 256 + r.sub
    let snap := x.2.snaps.find? (fun s => s.requester == r.requester && s.key == key)
    let whole : Option (List Nat) := if r.offset = 0 then some v.toBytes else snap.map (·.bytes)
    match whole with
    | none => refuse x a 0x14
    | some b =>
      if r.offset ≠ 0 ∧ b.length ≤ r.offset then refuse x a 0x14
      else
        let part := (b.drop r.offset).take (segLength r.transport)
        let x : Sys := (x.1.arm (.snapshot r.requester) (x.1.tb + sec 5),
          { x.2 with snaps := { requester := r.requester, key := key, bytes := b } ::
              x.2.snaps.filter (fun s => s.requester != r.requester || s.key != key) })
        let x := completeRecord x a 0 0 2
        let rec? := (x.2.recOf a.requester a.epoch a.seq).isSome
        let resp := a.resp x.1 0 0 part
        ((x.1.respond { resp with recorded := rec?, total := b.length, staged := staged,
                                  more := decide (r.offset + part.length < b.length) }).kprTask 1, x.2)

/-! ## Writes -/

/-- A plain entry takes its value: in force at once; a committed one is answered when its record is durable (R395). -/
def plainAct (f : Fam) (i : Nat) (a : Asker) (v : Val) (x : Sys) : Sys × Reply :=
  if f.committed then
    let old := x.1.getV f i
    let m := x.1.setV f i v
    let m := { m with journal := m.journal ++
      [{ writes := [(f.key i, v)], olds := [(f.key i, old)], ask := some a, kind := 0 }] }
    (markRecord (m, x.2) a 2, .deferred)
  else ((x.1.setV f i v, x.2), .final 0 0 [] 2)

/-- An entry with no rule of its own beyond its table row. -/
def Rule.plain (f : Fam) (i : Nat) : Rule :=
  { lvl := fun _ _ => f.wr, ro := fun _ _ => decide (f.acc = .ro), locked := fun _ _ _ => false, range := fun _ _ => false,
    fenced := fun _ _ => false, forbids := fun _ _ _ => false, busy := fun _ _ => false,
    act := fun a _ v x => plainAct f i a v x, get := fun x _ => x.1.getV f i, clear := none, first := id,
    unread := fun _ => false, late := fun _ => false }

/-- Steps 12 to 18 of R387 in order: the status refused with, and its data. Of a value that has come only in part
(R386), step 15 is left to its last segment. -/
def checkValue (x : Sys) (f : Fam) (i : Nat) (ru : Rule) (r : Req) (level : Nat) (v : Val) (commit part : Bool) :
    Option (Nat × List Nat) :=
  if level < ru.lvl x.1 v then some (0x20, [ru.lvl x.1 v])
  else if f.acc = .rwc ∧ !x.2.stage.isEmpty ∧ x.2.owner ≠ some r.requester then
    some (0x22, leBytes 2 (x.2.owner.getD 0xFFFF))
  else if ru.locked x r v then some (0x22, [0xFF, 0xFF])
  else if !part && (!f.inRange v || ru.range x.1 v) then some (0x14, [])
  else if ru.fenced x.1 v then some (0x42, [])
  else if f.acc = .rws ∧ !(x.1.n E.ENV_EFF 0 == 0 || x.1.n E.ENV_EFF 0 == 1) then some (0x21, [])
  else if ru.forbids x r v then some (0x21, [])
  else if ru.busy x.1 v then some (0x30, [])
  else if !commit && x.2.asms.any (fun s => s.key == f.key i && s.requester != r.requester) then some (0x30, [])
  else none

/-- R391, R392: a value of an RWC entry is held in the stage. -/
def stageWrite (x : Sys) (a : Asker) (f : Fam) (i : Nat) (level : Nat) (v : Val) : Sys :=
  let key := f.key i
  let others := x.2.stage.filter (·.key != key)
  if 512 < others.length + 1 then refuse x a 0x31
  else
    let v' := (markStaged x (x.2.stage.filter (·.key == key)) 3 0).2
    let srv := { v' with stage := others ++ [{ key := key, val := v, level := level, seq := a.seq }], owner := some a.requester }
    let x : Sys := (x.1.arm .stage (x.1.tb + sec (x.1.n E.STAGE_TMO 0)), srv)
    finish x a 1 0 [] 3 true

/-- A whole value has arrived: the checks, then the stage or the entry's effect. -/
def writeValue (x : Sys) (a : Asker) (r : Req) (f : Fam) (i : Nat) (ru : Rule) (v : Val) : Sys :=
  match checkValue x f i ru r (x.2.level r) v false false with
  | some (st, data) => refuse x a st data
  | none =>
    if f.acc = .rwc then stageWrite x a f i (ru.lvl x.1 v) (f.mask v)
    else
      match ru.act a r (f.mask v) x with
      | (x, .final st d data eff) => finish x a st d data eff
      | (x, .deferred) => x

/-- R386: a segment of a STR or BLOB value. -/
def writeSegment (x : Sys) (a : Asker) (r : Req) (f : Fam) (i : Nat) (ru : Rule) : Sys :=
  let key := f.key i
  let drop : Sys → Sys := fun x => (x.1.disarm (.assembly r.requester),
    { x.2 with asms := x.2.asms.filter (·.requester != r.requester) })
  let mine := x.2.asms.find? (fun s => s.requester == r.requester && s.key == key)
  let before : Option (List Nat) := if r.offset = 0 then some [] else
    match mine with
    | some s => if s.bytes.length = r.offset then some s.bytes else none
    | none => none
  match before with
  | none => refuse (drop x) a 0x13
  | some b =>
    let whole := b ++ r.data
    if f.maxLen < whole.length ∨ (!r.more ∧ !f.lengthOk whole.length) then refuse (drop x) a 0x13
    else if ru.ro x.1 r then refuse (drop x) a 0x15
    else if r.more then
      match checkValue x f i ru r (x.2.level r) (.bytes whole) false true with
      | none =>
        let x := drop x
        let x : Sys := if r.offset = 0 then (ru.first x.1, x.2) else x
        let x : Sys := (x.1.arm (.assembly r.requester) (x.1.tb + sec 5),
          { x.2 with asms := { requester := r.requester, key := key, bytes := whole } :: x.2.asms })
        finish x a 1 0 [] 0
      | some (st, data) => refuse (drop x) a st data
    else writeValue (drop x) a r f i ru (.bytes whole)

/-- Steps 11 to 18 of R387 and the effect, for a WRITE of an existing entry of the right type. -/
def serveWrite (x : Sys) (a : Asker) (r : Req) (f : Fam) (i : Nat) (ru : Rule) : Sys :=
  match tySize f.ty with
  | some k =>
    if r.data.length ≠ k ∨ r.len ≠ k ∨ r.offset ≠ 0 ∨ r.more then refuse x a 0x13
    else if ru.ro x.1 r then refuse x a 0x15
    else writeValue x a r f i ru (f.decode r.data)
  | none =>
    if r.len ≠ r.data.length ∨ 1024 < r.len then refuse x a 0x13
    else if r.more ∨ r.offset ≠ 0 then writeSegment x a r f i ru
    else if !f.lengthOk r.data.length then refuse x a 0x13
    else if ru.ro x.1 r then refuse x a 0x15
    else writeValue x a r f i ru (.bytes r.data)

/-- R390: a read reflects what was written before; a STAGED_VIEW read returns the staged value where one exists. A read
above OFFSET 0 returns a snapshot (R386) and clears nothing. -/
def serveRead (x : Sys) (a : Asker) (r : Req) (f : Fam) (ru : Rule) : Sys :=
  if r.len ≠ 0 ∨ !r.data.isEmpty then refuse x a 0x13
  else if f.acc = .wo then refuse x a 0x16
  else if ru.unread x.1 then refuse x a 0x14
  else
    let st := x.2.stage.find? (fun e => e.key == r.index * 256 + r.sub)
    let found := r.stagedView && st.isSome
    let v := match r.stagedView, st with
      | true, some e => e.val
      | _, _ => ru.get x r
    match ru.clear with
    | some c =>
      let x : Sys := if r.offset = 0 then (c x.1, x.2) else x
      answerRead x a r f v found
    | none => answerRead x a r f v found

/-- R377: subindex 0 of an index that exists. -/
def serveSubZero (x : Sys) (a : Asker) (r : Req) : Sys :=
  if r.op = 1 then
    if r.ty ≠ 0 ∧ r.ty ≠ 2 then refuse x a 0x12
    else if r.len ≠ 0 ∨ !r.data.isEmpty then refuse x { a with ty := 2 } 0x13
    else if r.offset ≠ 0 then refuse x { a with ty := 2 } 0x14
    else finish x { a with ty := 2 } 0 0 [highestSub r.index] 2
  else if r.ty ≠ 2 then refuse x a 0x12
  else if r.data.length ≠ 1 ∨ r.len ≠ 1 ∨ r.offset ≠ 0 ∨ r.more then refuse x a 0x13
  else refuse x a 0x15

/-- R393: a DISCARD by the owner empties the stage; on an empty stage it changes nothing. -/
def serveDiscard (x : Sys) (a : Asker) : Sys :=
  if x.2.stage.isEmpty then finish x a 0 0 [] 0
  else if x.2.owner ≠ some a.requester then refuse x a 0x22 (leBytes 2 (x.2.owner.getD 0xFFFF))
  else
    let v := (markStaged x x.2.stage 3 0).2
    finish (x.1.disarm .stage, { v with stage := [], owner := none, commit := none }) a 0 0 [] 1

/-- R394: a COMMIT by the owner waits for the next mode tick. -/
def serveCommit (x : Sys) (a : Asker) : Sys :=
  if x.2.stage.isEmpty then finish x a 0 0 [] 0
  else if x.2.owner ≠ some a.requester then refuse x a 0x22 (leBytes 2 (x.2.owner.getD 0xFFFF))
  else (x.1.arm .stage (x.1.tb + sec (x.1.n E.STAGE_TMO 0)), { x.2 with commit := some a })

/-- Steps 8 to 19 of R387. -/
def serveEntry (rules : Fam → Nat → Rule) (x : Sys) (a : Asker) (r : Req) : Sys :=
  if r.op = 3 then serveCommit x a
  else if r.op = 4 then serveDiscard x a
  else if r.op ≠ 1 ∧ r.op ≠ 2 then refuse x { a with ty := 0 } 0x10 [] 0xFF
  else if r.sub = 0 ∧ indexExists r.index then serveSubZero x a r
  else
    match findEntry r.index r.sub families with
    | none => refuse x { a with ty := 0 } (if indexExists r.index then 0x11 else 0x10)
    | some (f, i) =>
      let a := { a with ty := tyCode f.ty }
      if r.ty ≠ tyCode f.ty ∧ !(r.op = 1 ∧ r.ty = 0) then refuse x a 0x12
      else if r.op = 1 then serveRead x a r f (rules f i)
      else serveWrite x a r f i (rules f i)

/-- R397: a read of an entry that is not read-clear gets no record. DESIGN CHOICE (assumption log 104): nor does a read of an index or
subindex that does not exist. -/
def needsRecord (rules : Fam → Nat → Rule) (r : Req) : Bool :=
  if r.op = 1 then
    match findEntry r.index r.sub families with
    | some (f, i) => (rules f i).clear.isSome
    | none => false
  else true

/-- R397, R392, R443: a request is taken: its record is made, a request of the stage's owner starts the stage's timer afresh,
its SEQ is the latest of its requester, and its session is used. -/
def takeIn (a : Asker) (r : Req) (x : Sys) : Sys :=
  let x := makeRecord x a
  touchSession (x.1.when (decide (x.2.owner = some r.requester) && !x.2.stage.isEmpty && r.op != 1)
    (fun m => m.arm .stage (m.tb + sec (m.n E.STAGE_TMO 0))), noteSeq x.2 r.requester r.seq) r

/-- Acceptance (steps 7 onward): the record, the SEQ, then the entry. -/
def accept (rules : Fam → Nat → Rule) (x : Sys) (r : Req) : Sys :=
  let a := askerOf r (x.1.n E.EPOCH 0)
  if needsRecord rules r then
    if !x.2.recordFree then reject x r 0x31 0 [] else serveEntry rules (takeIn a r x) a r
  else serveEntry rules (touchSession (x.1, noteSeq x.2 r.requester r.seq) r) a r

/-- R385: the queue on which a request arrives. -/
def reqQueue : Transport → Nat
  | .usb => 22
  | .host2w => 20
  | .can u => if u = 0 then 17 else 19
  | .zwl => 12
  | .engine => 29

/-- R404: a request finds its queue full. Under CREDIT the link never sends one that finds no room. -/
def Mod.requestFull (m : Mod) (r : Req) : Bool := m.queueFull (reqQueue r.transport) (20 + r.data.length)

/-- A request passes through its transport's queue. -/
def queued (r : Req) (x : Sys) : Sys := (x.1.through (reqQueue r.transport) (20 + r.data.length) r.requester r.seq, x.2)

/-- R387: a request is served, from its queue to its answer. -/
def serve (rules : Fam → Nat → Rule) (r : Req) (x : Sys) : Sys :=
  let cur := x.1.n E.EPOCH 0
  let old := leBytes 4 r.epoch
  if x.1.requestFull r then rejectEarly x r 0x31
  else
    let x := queued r x
    if !x.2.sessionValid r then reject x r 0x50 0 []
    else if r.transport = .zwl ∧ x.1.stale.contains r.requester then reject x r 0x43 0 []
    else if r.epoch = 0 ∧ r.op ≠ 1 then reject x r 0x41 2 old
    else if cur < r.epoch then reject x r 0x41 0 old
    else if r.epoch ≠ 0 ∧ r.epoch < cur then
      match x.2.recOf r.requester r.epoch r.seq with
      | some c =>
        let resp := (askerOf r cur).resp x.1 0x40 c.eff (old ++ [c.status])
        (x.1.respond { resp with recorded := true }, x.2)
      | none => reject x r 0x41 0 old
    else
      match x.2.seqs.find? (·.1 == r.requester) with
      | none => accept rules x r
      | some (_, last) =>
        if newer r.seq last then accept rules x r
        else
          match x.2.recOf r.requester cur r.seq with
          | none => reject x r 0x41 1 old
          | some c =>
            if c.status = 0xFF then x
            else
              let resp := (askerOf r cur).resp x.1 c.status c.detail []
              (x.1.respond { resp with dup := true, recorded := true }, x.2)

end Sys2Proof.Machine
end

