-- ==== Sys2Proof/Machine/JournalOps.lean ====
section
/-! DEFINITION. Machine/JournalOps.lean: the parameter store's journal (R394, R395), SAFE's key store (R446, R447), and
the way into a reset or out of HIBERNATE (R514, R515). -/

namespace Sys2Proof.Machine

open Sys2Proof

/-! ## The journal -/

/-- A value goes to a place of the dictionary; a place that no entry holds changes nothing. -/
def Mod.putPlace (m : Mod) (key : Nat) (v : Val) : Mod :=
  match entryAt key with
  | some (f, i) => m.setV f i v
  | none => m

/-- The credential of level `l` (1 to 3). -/
def Mod.credOf (m : Mod) (l : Nat) : Option (List Nat) := (m.keys.cred[l - 1]?).getD none

/-- A secret of SAFE's key store takes a value; `[]` after a credential's level byte, or an empty key, is none. -/
def Mod.putSecret (m : Mod) (kind : Nat) (v : Val) : Mod :=
  let key : Option (List Nat) := if v.toBytes.isEmpty then none else some v.toBytes
  match kind with
  | 3 =>
    let l := (v.toBytes[0]?).getD 1
    let c := v.toBytes.drop 1
    { m with keys := { m.keys with cred := setAt none m.keys.cred (l - 1) (if c.isEmpty then none else some c) } }
  | 4 => { m with keys := { m.keys with own := key } }
  | 5 => { m with keys := { m.keys with par := key } }
  | 6 => { m with keys := { m.keys with sign := if v.toNat = 0 then none else some (v.toNat - 1) } }
  | _ => m

/-- What a durable record leaves in the parameter store; secrets go sealed to a place of their own (R446). -/
def JRec.store (j : JRec) (p : List (Nat × Val)) : List (Nat × Val) :=
  if j.kind ≤ 2 then j.writes.foldl (fun p w => odPut p w.1 w.2) p else p

/-- A value comes back that a failed record had replaced: to the record that replaced it in turn, if there is one. -/
def restoreIn (kind key : Nat) (old : Val) : List JRec → Option (List JRec)
  | [] => none
  | j :: js =>
    if (j.kind = kind ∨ (j.kind < 3 ∧ kind < 3)) ∧
        j.writes.any (fun w => w.1 == key && (kind != 3 || w.2.toBytes.head? == old.toBytes.head?)) then
      some ({ j with olds := j.olds.map (fun o => if o.1 = key then (key, old) else o) } :: js)
    else (restoreIn kind key old js).map (j :: ·)

/-- R394, R395: a failed record puts back every value that was in force before it. -/
def Mod.putBack (m : Mod) (j : JRec) : Mod :=
  j.olds.foldl (fun m o =>
    match restoreIn j.kind o.1 o.2 m.journal with
    | some l => { m with journal := l }
    | none => if j.kind < 3 then m.putPlace o.1 o.2 else m.putSecret j.kind o.2) m

/-- The place that an HW_FAULT names (R389). -/
def JRec.named (j : JRec) : List Nat :=
  match j.writes with
  | (k, _) :: _ => leBytes 2 (k / 256) ++ [k % 256]
  | [] => []

/-- R394: the stage gives up the values that a commit has made durable, and keeps what its owner has staged since. -/
def stageDone (x : Sys) (j : JRec) : Sys :=
  if j.kind ≠ 1 then x
  else
    let rest := x.2.stage.filter (fun e => !j.writes.any (fun w => w.1 == e.key && w.2 == e.val))
    let x := markStaged x (x.2.stage.filter (fun e => j.writes.any (fun w => w.1 == e.key && w.2 == e.val))) 2 1
    if rest.isEmpty then (x.1.disarm .stage, { x.2 with stage := [], owner := none })
    else (x.1, { x.2 with stage := rest })

/-- R395: the oldest journal record is durable: its values are stored and its request is answered OK. -/
def journalDone (x : Sys) : Sys :=
  match x.1.journal with
  | [] => x
  | j :: js =>
    let x := stageDone ({ x.1 with journal := js, pst := j.store x.1.pst }, x.2) j
    match j.ask with
    | some a => finish x a 0 0 [] 1
    | none => x

/-- R394, R395, R481: the oldest journal record fails: what it replaced is in force again and its request is answered
HW_FAULT; a commit's stage is kept. -/
def journalFail (x : Sys) : Sys :=
  match x.1.journal with
  | [] => x
  | j :: js =>
    let x : Sys := (({ x.1 with journal := js } : Mod).putBack j, x.2)
    let x := if j.kind = 1 then markStaged x x.2.stage 2 3 else x
    match j.ask with
    | some a => finish x a 0x60 0 j.named 0
    | none => x

/-- R513: every pending journal record becomes durable, oldest first; their requests are answered. -/
def journalAll (x : Sys) : Sys := x.1.journal.foldl (fun y _ => journalDone y) x

/-- R28, R306: the last fault record that waits in Q26 is written by SAFE directly, with bit 0 of its flags. -/
def Mod.lastRecord (m : Mod) : Mod :=
  match (m.q26.filter (fun r => r.kind == 1)).getLast? with
  | some r => { m with q26 := m.q26.erase r }.logWrite { r with flags := setBits r.flags 1 }
  | none => m

/-! ## Secrets (R446, R447) -/

/-- R446: the first secret written after an erase makes SAFE generate a new sealing key, a value no rule gives. -/
def Mod.newSecret (m : Mod) : Mod :=
  let m := if m.keys.sealKey.isNone then
      ({ m with keys := { m.keys with sealKey := some m.freeVal } } : Mod).freeStep
    else m
  { m with keys := { m.keys with erased := false } }

/-- R447: SAFE clears the sealing key and every live secret, which completes the erase; SUP0 then has 5 s to scrub the
sealed copies. -/
def Mod.eraseSecrets (m : Mod) (cause : Nat) : Mod :=
  let m : Mod := { m with keys := { m.keys with own := none, par := none, cred := [none, none, none], sign := none,
                                                sealKey := none, erased := true, signErased := true, cause := cause, scrub := true } }
  let m : Mod := { m with journal := m.journal.map (fun j => if 3 ≤ j.kind then { j with olds := [] } else j) }
  (m.setN E.ERASE_T 0 m.tb).arm .scrub (m.tb + sec 5)

/-! ## Into a reset, and out of HIBERNATE -/

/-- R442, R515, R516: a reset of kind `c` begins: outputs go to their safe states and the module waits for its start-up; of
causes that coincide the lowest code is recorded. A command's reset opens every switch, and loss of the rails all
that needs power; the clamp acts on through a reset that leaves BRK's switch closed (R289). -/
def Mod.resetBegin (m : Mod) (c : Nat) : Mod :=
  let m := m.gateOffBoth 5
  let m := (if c = 3 ∨ c = 5 ∨ c = 6 then stopPorts else List.range 8).foldl Mod.openSwitch m
  let m := (m.contOff).setB E.FAULT_OUT 0 false
  let m : Mod := { m with rst := some (min c (m.rst.getD c)), phase := if c ≤ 2 then .off else .booting
                          timers := [], usb := { m.usb with sbu := false } }
  (m.when (!m.closed 6) Mod.clampEnd).ilko

/-- R514: a wake source with WAKE_LAST code `code` fires in HIBERNATE: the module starts as a wake, or while no source
is live the AO domain holds the wake. -/
def Mod.wakeBegin (m : Mod) (code : Nat) (supply : Bool) : Mod :=
  if m.phase = .hibernate then
    let m := m.setN E.WAKE_LAST 0 (if m.heldWake then min code (m.n E.WAKE_LAST 0) else code)
    let m := m.when (code == 4) (·.setN E.WAKE_RTC 0 0)
    if supply then { m with phase := .booting, rst := some 8, heldWake := false }
    else { m with heldWake := true }
  else m

end Sys2Proof.Machine
end

