-- ==== Sys2Proof/Machine/StageOps.lean ====
section
/-! DEFINITION. Machine/StageOps.lean: what the rules of multiphase control share: derating (R55, R56), the stages'
limits (R97), thresholds (R162), add, shed, rotation (R163 to R174), soft start and soft stop (R177, R178). -/

namespace Sys2Proof.Machine

open Sys2Proof

/-! ## Derating (R55, R56, R171, R291) -/

/-- Straight line from (x0, y0) to (x1, y1). -/
def lerp (x0 y0 x1 y1 x : Rat) : Rat := y0 + (y1 - y0) * (x - x0) / (x1 - x0)

/-- R55: coolant factor. -/
def coolantFactor (c : Rat) : Rat :=
  if c < -10 then 0
  else if c ≤ 45 then 1
  else if c ≤ 50 then lerp 45 1 50 (dec 8 1) c
  else if c ≤ 55 then lerp 50 (dec 8 1) 55 (dec 6 1) c
  else 0

/-- R55: switching factor of a frequency in kHz. -/
def switchingFactor (f : Rat) : Rat :=
  if f ≤ 100 then 1
  else if f ≤ 120 then lerp 100 1 120 (dec 95 2) f
  else if f ≤ 140 then lerp 120 (dec 95 2) 140 (dec 9 1) f
  else if f ≤ 160 then lerp 140 (dec 9 1) 160 (dec 85 2) f
  else dec 85 2

/-- R152: the switching frequency in force, kHz. -/
def Mod.fsw (m : Mod) (g : Nat) : Rat := mkRat 2000000 (m.n E.STG_PERIOD g)

/-- R56: derating factor F of a stage. -/
def Mod.stageF (m : Mod) (g : Nat) : Rat := coolantFactor m.sens.coolIn * switchingFactor (m.fsw g)

/-- R56: the lower of the two stages' factors. -/
def Mod.derateF (m : Mod) : Rat := if m.stageF 0 ≤ m.stageF 1 then m.stageF 0 else m.stageF 1

/-- R171, R291: the phase is excluded. -/
def Mod.excluded (m : Mod) (p : Nat) : Bool :=
  m.n E.PH_STATE p == 6 || !m.b E.PH_EN p || (m.phOf p).hot

def Mod.excludedCount (m : Mod) (g : Nat) : Nat := ((stagePhases g).filter m.excluded).length

/-- R171: derated continuous and 10 s ratings of a stage, W. -/
def Mod.contRating (m : Mod) (g : Nat) : Rat := 60000 * m.stageF g * mkRat (8 - m.excludedCount g : Nat) 8
def Mod.tenRating (m : Mod) (g : Nat) : Rat := 90000 * m.stageF g * mkRat (8 - m.excludedCount g : Nat) 8

/-- R97: P_A or P_B. -/
def Mod.stageRating (m : Mod) (g : Nat) : Rat :=
  if (m.stgOf g).ovlHeld then m.contRating g else m.tenRating g

/-- R55: derated continuous phase rating, A. -/
def Mod.iPh (m : Mod) (g : Nat) : Rat := 30 * m.stageF g

/-- R291: the part of its limit that a phase's heat sink leaves it. -/
def Mod.hsFactor (m : Mod) (p : Nat) : Rat :=
  let d := m.q E.HS_DERATE 0
  let s := m.q E.HS_STOP 0
  let h := m.q E.PH_HS_TEMP p
  if (m.phOf p).hot then 0 else if h ≤ d then 1 else if s ≤ h then 0 else if s ≤ d then 0 else (s - h) / (s - d)

/-- R23, R55, R56: what a phase may carry, A: 48 A for 10 s and 30 A beyond, derated by F, or less where its heat sink leaves
less (R291). The 10 s are those of its stage's overload timer (R97, assumption log 92). -/
def Mod.phaseTop (m : Mod) (p : Nat) : Rat :=
  let rated : Rat := if (m.stgOf (stageOf p)).ovlHeld then 30 else 48
  minR (rated * m.stageF (stageOf p)) (rated * m.hsFactor p)

/-! ## The loops (R159, R160)

The loops' outputs come in as operands of VOLTAGE_LOOP_PERIOD: the manual gives their crossovers and margins and no law. -/

/-- R159: a row of the preset's table: the divisor of the switching frequency at which the current loop crosses over, the
voltage loop's crossover in kHz, and the phase margin in degrees and the gain margin in dB that both loops keep. -/
structure LoopRow where
  divisor : Nat
  voltage : Rat
  phaseMargin : Nat
  gainMargin : Nat
  deriving DecidableEq, Repr

/-- R159: SOFT, NORMAL and STIFF. -/
def loopRow : Nat → LoopRow
  | 0 => ⟨12, 1, 60, 10⟩
  | 1 => ⟨8, dec 25 1, 50, 8⟩
  | _ => ⟨6, 4, 45, 6⟩

/-- R159: the current loop's crossover under the preset in force, kHz. -/
def Mod.currentCrossover (m : Mod) (g : Nat) : Rat := m.fsw g / (loopRow (m.stgOf g).preset).divisor

/-- R160: the factor by which the voltage loop's gain is scaled from that of the smallest capacitance, 1.2 mF. -/
def Mod.loopGain (m : Mod) (g : Nat) : Rat := (m.stgOf g).cEst / dec 12 4

/-! ## Thresholds and groups (R116, R162) -/

/-- R162: add threshold in force. -/
def Mod.addEff (m : Mod) (p : Nat) : Rat :=
  let e := dec 8 1 * m.iPh (stageOf p)
  if m.q E.PH_ADD_I p ≤ e then m.q E.PH_ADD_I p else e

/-- R162: shed threshold in force. -/
def Mod.shedEff (m : Mod) (p : Nat) : Rat := m.q E.PH_SHED_I p * m.addEff p / m.q E.PH_ADD_I p

/-- The stage of group `k`: Stage A serves the inputs, Stage B serves BAT. -/
def groupStage (k : Nat) : Nat := if k < 4 then 0 else 1

/-- The phases tapped to port `k`, in the order of the stage. -/
def Mod.groupPhases (m : Mod) (k : Nat) : List Nat := (stagePhases (groupStage k)).filter (fun p => m.n E.PH_TAP p == k)

def Mod.active (m : Mod) (k : Nat) : List Nat := (m.groupPhases k).filter (fun p => m.n E.PH_STATE p == 4)

def Mod.stageActive (m : Mod) (g : Nat) : List Nat := (stagePhases g).filter (fun p => m.n E.PH_STATE p == 4)

/-- Phases that hold a slot: ADDING, ACTIVE, SHEDDING. -/
def Mod.switching (m : Mod) (g : Nat) : List Nat :=
  (stagePhases g).filter (fun p => let s := m.n E.PH_STATE p; s == 3 || s == 4 || s == 5)

/-- R163: the phases of a stage from its add pointer onward. -/
def Mod.fromPointer (m : Mod) (g : Nat) : List Nat :=
  let a := (m.stgOf g).addPtr
  (List.range 8).map (fun i => 8 * g + (a + i) % 8)

/-- R164: phases of a group that may start, ARMED before SHED, each kind in the pointer's order. -/
def Mod.addable (m : Mod) (k : Nat) : List Nat :=
  let c := (m.fromPointer (groupStage k)).filter (fun p => m.n E.PH_TAP p == k && !m.excluded p && !m.armed (.arming p))
  c.filter (fun p => m.n E.PH_STATE p == 2) ++ c.filter (fun p => m.n E.PH_STATE p == 1)

/-- R163: the first phase at or after the pointer that is SHED or ARMED. -/
def Mod.nextAdd (m : Mod) (k : Nat) : Option Nat :=
  (m.fromPointer (groupStage k)).find? (fun p => m.n E.PH_TAP p == k && !m.excluded p &&
    (m.n E.PH_STATE p == 1 || m.n E.PH_STATE p == 2))

/-! ## Intents (R187 to R194) -/

/-- The phase groups' stage that an intent arms (R189, R193): in SUPPLEMENT both; a release arms the stage that holds
rank 1 of R92. -/
def Mod.armsStage (m : Mod) (i : Intent) (g : Nat) : Bool :=
  let path := m.n E.PATH_ACT 0
  if i.dpm < 0 then
    (match path with
     | 2 => g == (if m.n E.COUPLING_ACT 0 == 0 then 0 else 1)
     | _ => g == 1)
  else
    match path with
    | 4 => true
    | 6 => g == 1
    | _ => g == 0

/-- R166, R188: an intent is pending for the stage. -/
def Mod.intentPending (m : Mod) (g : Nat) : Bool := m.intents.any (fun i => i.phase == 0 && m.armsStage i g)

/-- R165, R189, R192: phases are held until the intent is detected, or its withdrawal has ramped out. -/
def Mod.intentHolds (m : Mod) (g : Nat) : Bool := m.intents.any (fun i => i.phase != 1 && m.armsStage i g)

/-- R190: the bound of the pre-bias, V. -/
def Mod.pbBound (m : Mod) : Rat :=
  let a := m.cq E.INT_PB_MAX 0
  let b := m.cq E.REGEN_DV1 0 / 2
  (if a ≤ b then a else b) / 100 * m.cq E.SYS_VSET 0

/-- R190: what an intent aims to contribute: by the sign of its ΔP_m. -/
def Mod.pbTarget (m : Mod) (i : Intent) : Rat :=
  let v := mkRat i.conf 255 * m.pbBound
  if i.dpm < 0 then -v else if i.dpm = 0 then 0 else v

/-- R190 to R192: what an intent contributes to the pre-bias now. -/
def Mod.pbNow (m : Mod) (i : Intent) : Rat :=
  let since := mkRat (m.ntime - i.endT : Nat) 100000
  match i.phase with
  | 0 =>
    if !i.pre then 0
    else
      let lead := ticksUs (m.cq E.INT_T_PB 0)
      if i.tArr ≤ m.ntime then m.pbTarget i
      else if i.tArr ≤ m.ntime + lead ∧ 0 < lead then m.pbTarget i * mkRat (m.ntime + lead - i.tArr : Nat) lead else 0
  | 1 =>
    let fall := m.cq E.SYS_SLEW 0 * since
    if absR i.pbEnd ≤ fall then 0 else if i.pbEnd < 0 then i.pbEnd + fall else i.pbEnd - fall
  | _ =>
    let len := m.cq E.INT_WD_RAMP 0
    if len ≤ since then 0 else i.pbEnd * (1 - since / len)

/-- R188, R190: INT_PENDING, INT_NEXT_T and INT_PB_V follow the list; contributions that have ramped out leave it. -/
def Mod.intentShow (m : Mod) : Mod :=
  let m : Mod := { m with intents := m.intents.filter (fun i =>
    i.phase == 0 || (i.phase == 1 && m.pbNow i != 0) ||
    (i.phase == 2 && decide (m.ntime < i.endT + ticksMs (m.cq E.INT_WD_RAMP 0)))) }
  let pend := m.intents.filter (fun i => i.phase == 0)
  let next := pend.foldl (fun (a : Nat) i => if a = 0 ∨ i.tArr < a then i.tArr else a) 0
  let v := (m.intents.map m.pbNow).sum
  ((m.setN E.INT_PENDING 0 pend.length).setN E.INT_NEXT_T 0 next).setQ E.INT_PB_V 0 (clampR (-m.pbBound) m.pbBound v)

/-- R192: an intent is withdrawn: its contribution ramps out over INT_WD_RAMP. -/
def Mod.withdrawn (m : Mod) (i : Intent) : Intent := { i with phase := 2, pbEnd := m.pbNow i, endT := m.ntime }

/-- R192, R270: every pending intent is withdrawn. -/
def Mod.withdrawAll (m : Mod) : Mod :=
  let n := (m.intents.filter (fun i => i.phase == 0)).length
  let m : Mod := { m with intents := m.intents.map (fun i => if i.phase = 0 then m.withdrawn i else i) }
  (m.add E.INT_MISSED 0 n).intentShow

/-! ## References, slots and spacing (R154, R156, R157) -/

/-- R157: every ACTIVE phase of a group takes the group's reference over its active count, within its own limit. -/
def Mod.shareRef (m : Mod) (k : Nat) : Mod :=
  let a := m.active k
  let r := (m.grpOf k).iref / (if a.length = 0 then 1 else a.length : Nat)
  a.foldl (fun m p => m.setQ E.PH_IREF p (clampR (-m.phaseTop p) (m.phaseTop p) r)) m

/-- R152, R154: the place of slot `i` of `n` after the stage origin, in counts. -/
def slotPlace (period n i : Nat) : Nat := if n = 0 then 0 else (roundR (mkRat (i * period) n)).toNat

def Mod.slotGoal (m : Mod) (g p : Nat) : Nat := slotPlace (m.n E.STG_PERIOD g) (m.switching g).length (m.n E.PH_SLOT p)

/-- The phases of a stage that hold a slot, in the slots' order. -/
def Mod.slotOrder (m : Mod) (g : Nat) : List Nat :=
  (List.range 8).flatMap (fun s => (m.switching g).filter (fun p => m.n E.PH_SLOT p == s))

/-- R154: slots 0 to N − 1, each held by one phase. -/
def Mod.putSlots (m : Mod) (order : List Nat) : Mod := (order.zipIdx).foldl (fun m x => m.setN E.PH_SLOT x.1 x.2) m

/-- R156: the gap after each occupied place, in counts; a single one leaves the whole period. -/
def Mod.gaps (m : Mod) (period : Nat) (order : List Nat) : List Nat :=
  let n := order.length
  (List.range n).map (fun i =>
    let at_ := fun (j : Nat) => (m.phOf ((order[j % n]?).getD 0)).pos
    if n = 1 then period else (at_ (i + 1) + period - at_ i) % period)

/-- The first place of a list's greatest number. -/
def greatest (l : List Nat) : Nat :=
  (l.zipIdx.foldl (fun (a : Nat × Nat) x => if a.1 < x.1 then x else a) (0, 0)).2

/-- R156, R163: a phase that joins enters in the middle of the largest gap between occupied slots. -/
def Mod.joinGap (m : Mod) (g p : Nat) : Mod :=
  let period := m.n E.STG_PERIOD g
  let order := (m.slotOrder g).filter (· != p)
  let gs := m.gaps period order
  let i := greatest gs
  match order[i]? with
  | none => (m.setN E.PH_SLOT p 0).modPh p (fun x => { x with pos := 0 })
  | some q =>
    let place := ((m.phOf q).pos + ((gs[i]?).getD 0) / 2) % (if period = 0 then 1 else period)
    (m.modPh p (fun x => { x with pos := place })).putSlots (order.take (i + 1) ++ p :: order.drop (i + 1))

/-- R156: the carriers move to their slots over STG_RESPACE periods; the slots close where a phase has left. A rotation in progress
goes over into it: the slots are those it has given. -/
def Mod.respace (m : Mod) (g : Nat) : Mod :=
  ((m.putSlots (m.slotOrder g)).modStg g (fun x => { x with respLeft := m.n E.STG_RESPACE g, rotLeft := 0 })).countPhases

/-- R154: the carriers stand at their slots. -/
def Mod.atSlots (m : Mod) (g : Nat) : Mod :=
  (m.switching g).foldl (fun m p => m.modPh p (fun x => { x with pos := m.slotGoal g p })) m

/-- R156: how far a carrier at `at_` is from `goal`, the shorter way round its period, in counts. -/
def carrierWay (period at_ goal : Nat) : Int :=
  let d := (goal + period - at_ % period) % period
  if 2 * d ≤ period then d else (d : Int) - period

/-- R156: one of the equal increments of a re-spacing, of which `left` remain. -/
def Mod.respaceStep (m : Mod) (g left : Nat) : Mod :=
  let period := max 1 (m.n E.STG_PERIOD g)
  (m.switching g).foldl (fun m p => m.modPh p (fun x =>
    { x with pos := (((x.pos : Int) + roundR ((carrierWay period x.pos (m.slotGoal g p) : Rat) / (left : Rat))) % (period : Int)).toNat })) m

/-- R154, R155: where a phase's carrier stands in local TB, in counts: the stage origin lies STG_ORIGIN of a period after the
module carrier origin. -/
def Mod.carrierPlace (m : Mod) (p : Nat) : Nat :=
  let g := stageOf p
  let period := m.n E.STG_PERIOD g
  ((m.stgOf g).origin + (roundR (m.q E.STG_ORIGIN g * period)).toNat + (m.phOf p).pos) % (if period = 0 then 1 else period)

/-! ## Rotation (R172 to R174) -/

/-- R173: some phase of the stage is shedding. -/
def Mod.anyShedding (m : Mod) (g : Nat) : Bool := (stagePhases g).any (fun p => m.n E.PH_STATE p == 5)

/-- R173: a rotation event. -/
def Mod.rotationEvent (m : Mod) (g : Nat) : Mod :=
  let s := m.stgOf g
  if s.respLeft != 0 || m.anyShedding g || s.rotLeft != 0 then m.modStg g (fun x => { x with rotPending := true })
  else if !m.b E.ROT_EN g then m
  else
    let m := m.modStg g (fun x => { x with addPtr := (x.addPtr + 1) % 8 })
    let n := m.n E.STG_NACT g
    let m := if 2 ≤ n then
        let m := m.modStg g (fun x => { x with rotLeft := m.n E.ROT_SPREAD g })
        (m.stageActive g).foldl (fun m p => m.setN E.PH_SLOT p ((m.n E.PH_SLOT p + 1) % n)) m
      else m
    m.inc E.ROT_COUNT g

/-- R174: a rotation event, one a period: an add and a rotation tick in the same period count once. -/
def Mod.rotateOnce (m : Mod) (g : Nat) : Mod :=
  if (m.stgOf g).rotDone then m
  else (m.rotationEvent g).modStg g (fun x => { x with rotDone := true })

/-- R168: the rotation that this period's adds call for comes last of its events. -/
def Mod.rotateWanted (m : Mod) (g : Nat) : Mod :=
  if (m.stgOf g).rotWanted then (m.modStg g (fun x => { x with rotWanted := false })).rotateOnce g else m

/-- R173: at the end of re-spacing, shedding or rotation a pending rotation runs. -/
def Mod.rotationResume (m : Mod) (g : Nat) : Mod :=
  if (m.stgOf g).rotPending then (m.modStg g (fun x => { x with rotPending := false })).rotationEvent g else m

/-- R173: one period of a rotation, of which `left` remain: every active phase's carrier lengthens its period by the stretch,
and after the last one stands at its new slot. -/
def Mod.rotationStep (m : Mod) (g left : Nat) : Mod :=
  let period := m.n E.STG_PERIOD g
  let n := m.n E.STG_NACT g
  if left ≤ 1 ∨ n = 0 ∨ period = 0 then m.atSlots g
  else
    let step := slotPlace period n 1
    (m.stageActive g).foldl (fun m p => m.modPh p (fun x =>
      { x with pos := (x.pos + step / m.n E.ROT_SPREAD g) % period })) m

/-! ## Adding (R163, R164) -/

/-- R163: a phase starts switching: PH_ADDS counts, its reference rises over 2 periods; it enters the largest gap, and
spacing begins anew. -/
def Mod.startPhase (m : Mod) (p : Nat) : Mod :=
  let g := stageOf p
  let m := (((m.setN E.PH_STATE p 3).joinGap g p).inc E.PH_ADDS p).setQ E.PH_IREF p 0
  let m := (m.disarm (.arming p)).disarm (.armHold p)
  let m := m.modPh p (fun x => { x with step := 0, fresh := true, aboveAdd := 0, peakRun := 0 })
  m.respace g

/-- R163: a phase is added: an ARMED one starts at once, a SHED one after 20 µs of arming. -/
def Mod.addPhase (m : Mod) (p : Nat) : Mod :=
  if m.n E.PH_STATE p == 2 then m.startPhase p
  else if m.n E.PH_STATE p == 1 && !m.armed (.arming p) then m.arm (.arming p) (m.tb + us 20)
  else m

/-- R112, R169: adds are frozen in SAFESTOP, and in Stage B while it is bridged. -/
def Mod.addsFrozen (m : Mod) (k : Nat) : Bool := m.n E.SS_STATE 0 != 0 || (k == 4 && m.n E.BRIDGE_STATE 0 == 2)

/-- R163, R27: an add sequence for the phases named of a stage that switches, which is also a rotation event, at the end of the
period's events. -/
def Mod.addSequence (m : Mod) (k : Nat) (ps : List Nat) : Mod :=
  if ps.isEmpty || m.addsFrozen k || !m.running (groupStage k) then m
  else
    let m := m.modGrp k (fun x => { x with adding := true })
    (ps.foldl Mod.addPhase m).modStg (groupStage k) (fun x => { x with rotWanted := true })

/-- R163: an add sequence is over once no phase of the group is arming or ADDING. -/
def Mod.settleAdding (m : Mod) (k : Nat) : Mod :=
  if (m.groupPhases k).any (fun q => m.n E.PH_STATE q == 3 || m.armed (.arming q)) then m
  else m.modGrp k (fun x => { x with adding := false })

/-- How many phases bring a group of current `i` to at most `lim` per phase, within what is tapped. -/
def phasesFor (i lim : Rat) : Nat := if lim ≤ 0 then 8 else (absR i / lim).ceil.toNat

/-- R235: the scan point in progress is invalid. -/
def Mod.scanDisturb (m : Mod) : Mod :=
  if m.n E.SCAN_STATE 0 == 1 then { m with scan := { m.scan with disturbed := true } } else m

/-- R164: an emergency add: as many phases as bring the share to PH_ADD_EFF or below, in one sequence. -/
def Mod.emergencyAdd (m : Mod) (k : Nat) : Mod :=
  let a := m.active k
  let coming := (m.groupPhases k).filter (fun p => m.n E.PH_STATE p == 3 || m.armed (.arming p))
  match a with
  | [] => m
  | p :: _ =>
    let total := ((a ++ coming).map (fun p => m.q E.PH_I p)).sum
    let need := phasesFor total (m.addEff p)
    let need := if coming.isEmpty then max need (a.length + 1) else need
    let want := need - (a.length + coming.length)
    let ps := (m.addable k).take want
    if ps.isEmpty || m.addsFrozen k || !m.running (groupStage k) then m
    else
      let m := (m.addSequence k ps).inc E.STG_FASTADDS (groupStage k)
      m.when (k == 4) Mod.scanDisturb

/-- R164: the emergency condition of a group in this period. -/
def Mod.emergency (m : Mod) (k : Nat) : Bool :=
  (m.active k).any (fun p => decide (m.q E.STG_FASTADD_I (groupStage k) < absR (m.q E.PH_I p)) || (m.phOf p).peakNow)

/-- R235: while a scan point runs, ordinary adds and sheds of Stage B are held. -/
def Mod.scanHold (m : Mod) (k : Nat) : Bool := k == 4 && m.n E.SCAN_STATE 0 == 1

/-- R163: the ordinary add condition of a group. -/
def Mod.ordinaryAdd (m : Mod) (k : Nat) : Bool :=
  !(m.grpOf k).adding && !m.scanHold k && (m.active k).any (fun p => m.n E.STG_ADD_N (groupStage k) ≤ (m.phOf p).aboveAdd)

/-! ## Shedding (R165 to R167) -/

/-- R166: a phase of the group is shedding. -/
def Mod.groupShedding (m : Mod) (k : Nat) : Bool := (m.groupPhases k).any (fun p => m.n E.PH_STATE p == 5)

/-- R165: the phase that has been ACTIVE longest. -/
def Mod.longestActive (m : Mod) (k : Nat) : Option Nat :=
  (m.active k).foldl (fun (acc : Option Nat) p =>
    match acc with
    | none => some p
    | some q => if (m.phOf p).activeSince < (m.phOf q).activeSince then some p else some q) none

/-- R165: the least of the shed thresholds of the group's ACTIVE phases. -/
def Mod.minShed (m : Mod) (k : Nat) : Rat :=
  ((m.active k).map m.shedEff).foldl (fun a b => if b < a then b else a) 1000

/-- R165: the conditions of an ordinary shed hold now. -/
def Mod.shedHolds (m : Mod) (k : Nat) : Bool :=
  let a := m.active k
  let n := a.length
  let total := absR ((a.map (fun p => m.q E.PH_I p)).sum)
  m.n E.STG_NMIN (groupStage k) < n && decide (total / (n - 1 : Nat) < m.minShed k) && decide (1 < n) &&
    !m.intentHolds (groupStage k) && !(m.grpOf k).adding && !m.scanHold k

/-- R165: a phase begins to shed, for another group where `dest` names one (R167). -/
def Mod.shedStart (m : Mod) (p : Nat) (dest : Option Nat) : Mod :=
  (m.setN E.PH_STATE p 5).modPh p (fun x => { x with step := 0, retap := dest }) |>.countPhases

/-- R165, R167: a phase leaves: its gates turn off and it is ARMED, for STG_ARM_HOLD. -/
def Mod.shedEnd (m : Mod) (p : Nat) : Mod :=
  let g := stageOf p
  let m := (m.phaseOff p 2).arm (.armHold p) (m.tb + ms (m.n E.STG_ARM_HOLD g))
  m.respace g

/-- R116: a phase's tap is set, while its gates are off. -/
def Mod.tap (m : Mod) (p k : Nat) : Mod := (m.setN E.PH_TAP p k).countPhases

/-- R167: every phase tapped to an input leaves at once and becomes ARMED. -/
def Mod.forcedShed (m : Mod) (k : Nat) : Mod :=
  let m := (m.groupPhases k).foldl (fun m p =>
    let s := m.n E.PH_STATE p
    let m := m.disarm (.arming p)
    if s == 3 || s == 4 || s == 5 then m.shedEnd p else m) m
  (m.modGrp k (fun x => { x with adding := false, iref := 0 })).disarm (.shed k)

/-- R166: a shed in progress is cancelled: the phase is ACTIVE with the full share. -/
def Mod.shedCancel (m : Mod) (k : Nat) : Mod :=
  (m.groupPhases k).foldl (fun m p =>
    if m.n E.PH_STATE p == 5 then
      let m := m.modGrp k (fun x => { x with retapRetry := x.retapRetry || (m.phOf p).retap.isSome })
      let m := (m.setN E.PH_STATE p 4).modPh p (fun x => { x with step := 0, retap := none })
      let m := (m.inc E.STG_SHED_CANCEL (stageOf p)).disarm (.shed k)
      (m.countPhases).shareRef k
    else m) m

/-- R166: a shed of the group is cancelled in this period. -/
def Mod.cancelHolds (m : Mod) (k : Nat) : Bool :=
  (m.active k).any (fun p => decide (m.addEff p < absR (m.q E.PH_I p))) || m.intentPending (groupStage k) || m.emergency k

/-! ## Soft start and soft stop (R177, R178) -/

/-- R161: as a stage starts, its phases that are tapped and enabled are SHED. -/
def Mod.idlePhases (m : Mod) (g : Nat) : Mod :=
  (stagePhases g).foldl (fun m p =>
    if m.n E.PH_STATE p == 0 && m.b E.PH_EN p && m.n E.PH_TAP p != 0xFF then m.setN E.PH_STATE p 1 else m) m

/-- R177: time 0 of a soft start, but for its phases. A new STG_FSW comes into force (R153). `skip` where SST_DELAY does not
apply. -/
def Mod.softStart (m : Mod) (g : Nat) (dead skip : Bool) : Mod :=
  let half := (roundR (1000000 / m.q E.STG_FSW g)).toNat
  let m := (m.setN E.STG_PERIOD g (2 * half)).idlePhases g
  let m := m.modStg g (fun x => { x with lim := 0, stopping := false, endStop := false, refs := [], deadBus := dead,
                                         gate := Sys2Proof.setBit x.gate 5 false })
  let m := (m.setN E.SST_STATE g 1).disarm (.hiccup (g == 0))
  m.arm (.sstDelay (g == 0)) (if skip then m.tb else m.tb + ms (m.cn E.SST_DELAY g))

/-- The references of a stage now: Stage A's input currents, Stage B's BAT current. -/
def Mod.presentRefs (m : Mod) (g : Nat) : List Rat :=
  if g = 0 then (List.range 4).map (fun k => (m.inpOf k).take) else [m.q E.CHG_IREF 0]

/-- R178, R112: the stage's current limit begins to fall to zero over `len` ms. -/
def Mod.rampDown (m : Mod) (g : Nat) (len : Rat) : Mod :=
  m.modStg g (fun x => { x with stopping := true, limFrom := x.lim, stopMs := len,
                                refs := if x.refs.isEmpty then m.presentRefs g else x.refs })

/-- What remains of the references that a stop found: all of them before its ramp, and in it as much as of the limit. -/
def Stg.stopPart (x : Stg) : Rat := if !x.stopping then 1 else if x.limFrom ≤ 0 then 0 else x.lim / x.limFrom

/-- R178: a stage that the path removes begins its soft stop after SSP_DELAY. -/
def Mod.softStop (m : Mod) (g : Nat) : Mod :=
  if (m.stgOf g).stopping || m.armed (.sspDelay (g == 0)) || m.gated g then m
  else (m.modStg g (fun x => { x with refs := m.presentRefs g })).arm (.sspDelay (g == 0)) (m.tb + ms (m.cn E.SSP_DELAY g))

/-- R161, R178: the stage's gates turn off at the end of its soft stop: its phases are OFF, and the path holds it off until
it starts again. -/
def Mod.stageOff (m : Mod) (g : Nat) : Mod :=
  let m := (stagePhases g).foldl (fun m p =>
    if m.n E.PH_STATE p == 6 then m else (m.phaseOff p 0).disarm (.armHold p)) (m.abandonStage g)
  let m := m.modStg g (fun x => { x with gate := Sys2Proof.setBit x.gate 5 true })
  let m := (m.setN E.SST_STATE g 0).setN E.SST_HICCUP g 0
  let m := ((m.disarm (.sstDelay (g == 0))).disarm (.sspDelay (g == 0))).disarm (.hiccup (g == 0))
  m.setN E.FB_ACTIVE g 0

end Sys2Proof.Machine
end

