-- ==== Sys2Proof/Machine/Flags.lean ====
section
/-! DEFINITION. Machine/Flags.lean: conditions the mode axes are resolved from, and the bits that report them:
availability (R70), BRK (R69), PATH_REASON (R81), battery-management terms (R219 to R224), and the auxiliary supply (R19, R40). -/

namespace Sys2Proof.Machine

open Sys2Proof

/-- A stage trip or a block reset holds the stage off (R482). -/
def Mod.faultGated (m : Mod) (g : Nat) : Bool := bit (m.stgOf g).gate 2 || bit (m.stgOf g).gate 3

/-- R119: the port is qualified. -/
def Mod.qualified (m : Mod) (k : Nat) : Bool := 3 ≤ m.n E.QUAL_STATE k && m.n E.QUAL_STATE k ≤ 6

/-- R279: NORMAL or LIMIT. -/
def Mod.protOk (m : Mod) (k : Nat) : Bool := m.n E.PROT_STATE k ≤ 1

/-- R70, R482: an input is available. -/
def Mod.inputAvail (m : Mod) (k : Nat) : Bool := m.qualified k && m.protOk k && !m.faultGated 0

def Mod.anyInput (m : Mod) : Bool := (List.range 4).any m.inputAvail

/-- R223: the battery-management limits are fresh where R70 needs them. -/
def Mod.bmsOk (m : Mod) : Bool := !m.b E.BMS_REQ 0 || m.n E.BMS_FRESH 0 ≤ 1

/-- R104: BAT is in recovery. -/
def Mod.recovering (m : Mod) : Bool := m.n E.DEAD_STATE 0 == 1

/-- R70, R104, R482: BAT is available. -/
def Mod.batAvail (m : Mod) : Bool :=
  m.qualified 4 && m.protOk 4 && m.bmsOk && !m.recovering && !m.faultGated 1

/-- R214, R70: a profile step is running, a suspended one included. -/
def Mod.stepRunning (m : Mod) : Bool := m.n E.PROF_STATE 0 == 1 || m.n E.PROF_STATE 0 == 2

/-- The place of the running step in the step family (R242: 16 n + s). -/
def Mod.stepIdx (m : Mod) : Nat := 16 * m.n E.PROF_ACT 0 + m.n E.STEP_ACT 0

/-- R69: the measurement or the port rules BRK out. -/
def Mod.brkBad (m : Mod) : Bool :=
  let r := m.q E.BRK_R 0
  (m.n E.BRK_R 0 != 0 && (decide (1000 ≤ r) || decide (r < dec 38 1))) || !m.protOk 6

/-- R69: BRK is unavailable, an unmeasured resistor included. -/
def Mod.brkUnavail (m : Mod) : Bool := m.n E.BRK_R 0 == 0 || m.brkBad

/-- R296: SAFE forces the module. -/
def Mod.forced (m : Mod) : Bool := m.n E.SAFE_FORCE_SRC 0 != 0 || m.lockstep

/-- R81: every cause that holds at this tick, but for MOORING_HOLD, which the resolution adds. DESIGN CHOICE (assumption log 24):
BMS_STALE reads 1 in BMS_FRESH 3 as in 2, and with BMS_REQ 0 too. -/
def Mod.causes (m : Mod) (env : Nat) : Nat :=
  let b := fun (k : Nat) (c : Bool) => if c then 1 <<< k else 0
  b 0 (!m.anyInput) + b 1 (!m.batAvail) + b 2 m.brkUnavail + b 3 (decide (m.derateF = 0)) +
  b 4 (m.n E.FLEET_ENV 0 != 0xFF) + b 6 m.fenced + b 7 m.forced + b 8 (env == 3 && !m.stepRunning) +
  b 9 (2 ≤ m.n E.BMS_FRESH 0) + b 10 ((List.range 8).any (fun k => m.n E.PROT_STATE k == 1)) + b 11 m.modes.transFail

/-! ## Battery-management terms (R219, R221, R224) -/

def Mod.bmsFlag (m : Mod) (k : Nat) : Bool := m.bitOf E.BMS_FLAGS 0 k

/-- R224: charge, or discharge, is barred by the battery management's flags. -/
def Mod.noCharge (m : Mod) : Bool := m.n E.BMS_FRESH 0 ≤ 1 && (!m.bmsFlag 0 || m.bmsFlag 6)
def Mod.noDischarge (m : Mod) : Bool := m.n E.BMS_FRESH 0 ≤ 1 && (!m.bmsFlag 1 || m.bmsFlag 6)

/-- R221: the discharge limit at BAT, A. -/
def Mod.disLimit (m : Mod) : Rat :=
  if m.noDischarge then 0
  else if m.n E.BMS_FRESH 0 ≤ 2 then minR 200 (m.q E.BMS_IDIS 0) else 200

/-- The measured terminal voltage of port `k` at the latest tick, its current and its power. -/
def Mod.vPort (m : Mod) (k : Nat) : Rat := (m.mean.v[k]?).getD 0
def Mod.iPort (m : Mod) (k : Nat) : Rat := (m.mean.i[k]?).getD 0
def Mod.pPort (m : Mod) (k : Nat) : Rat := (m.mean.p[k]?).getD 0

/-- R184: the cable compensation of a pair, V: its sign is the current's. -/
def Mod.sensComp (m : Mod) (j : Nat) (loc i : Rat) : Rat :=
  let c := minR (m.q E.SNS_RC j / 1000 * absR i) (m.cq E.SNS_MAXCOMP j / 100 * absR loc)
  if i < 0 then -c else c

/-- R185: a remote reading is consistent with the local voltage. -/
def Mod.senseGood (m : Mod) (j : Nat) (remote loc : Rat) : Bool :=
  decide (loc * (1 - (m.cq E.SNS_MAXCOMP j + 1) / 100) ≤ remote) && decide (remote ≤ loc * (101 / 100)) && decide (0 ≤ remote) &&
    decide (remote ≤ 1100)

/-- R185: a good reading of a pair in state 1 is kept. -/
def Mod.keepGood (j : Nat) (remote loc : Rat) (m : Mod) : Mod :=
  if m.n E.SNS_STATE j == 1 && m.senseGood j remote loc then
    { m with sns := modAt {} m.sns j (fun x => { x with good := some remote }) }
  else m

/-- R183 to R185: the voltage that pair `j` supplies, from its remote reading, the local voltage and the port current. -/
def Mod.senseFrom (m : Mod) (j : Nat) (remote loc i : Rat) : Rat :=
  let goal := if m.n E.SNS_STATE j == 1 then remote else loc - m.sensComp j loc i
  let x := (m.sns[j]?).getD {}
  if x.span ≠ 0 ∧ m.tb < x.since + x.span then x.start + (goal - x.start) * mkRat (m.tb - x.since : Nat) x.span else goal

/-- R183, R184: the voltage used for SYS and for BAT. -/
def Mod.senseV (m : Mod) (sys : Bool) : Rat :=
  if sys then m.senseFrom 0 m.sens.vSnsSys (m.vPort 5) (m.iPort 5)
  else m.senseFrom 1 m.sens.vSnsBat (m.vPort 4) (m.iPort 4)

def Mod.vSys (m : Mod) : Rat := m.senseV true
def Mod.vBat (m : Mod) : Rat := m.senseV false

/-- A current or voltage term of R219 with its code; none binds where `none`. -/
abbrev Term := Nat × Rat

/-- R219: current terms of codes 1 to 5 for profile `n` (R221), and code 6 in recovery. -/
def Mod.chargeTerms (m : Mod) (n : Nat) : List Term :=
  let imax := m.q E.PROF_IMAX n
  let fr := m.n E.BMS_FRESH 0
  let vb := m.vBat
  [(1, imax), (2, m.q E.TD_F 0 * imax)] ++
  (if fr == 0 then [(3, if m.noCharge then 0 else m.q E.BMS_ICHG 0)] else []) ++
  (if fr == 1 || (fr == 2 && !m.b E.BMS_REQ 0) then
    [(4, if fr == 1 && m.noCharge then 0 else minR (m.q E.BMS_ICHG 0) (m.q E.BMS_GRACE_I 0))] else []) ++
  [(5, minR 200 (if vb ≤ 0 then 200 else m.stageRating 1 / vb))] ++
  (if m.recovering then [(6, m.q E.DEAD_IMAX 0)] else [])

/-- R219: voltage terms of codes 1, 3 and 4. -/
def Mod.voltTerms (m : Mod) (n : Nat) : List Term :=
  let fr := m.n E.BMS_FRESH 0
  [(1, m.q E.PROF_VCEIL n)] ++ (if fr == 0 then [(3, m.q E.BMS_VMAX 0)] else []) ++
  (if fr == 1 || (fr == 2 && !m.b E.BMS_REQ 0) then [(4, m.q E.BMS_VMAX 0)] else [])

/-- The lowest of a list of terms; of equal ones the lowest code (R219). -/
def lowestTerm : List Term → Option Term
  | [] => none
  | t :: ts =>
    match lowestTerm ts with
    | none => some t
    | some u => if t.2 < u.2 ∨ (t.2 = u.2 ∧ t.1 ≤ u.1) then some t else some u

/-! ## The auxiliary supply (R19, R40, R58) -/

/-- R58: what AUX24 delivers at an ambient temperature: 15 A up to +55 °C, and 10 A at +70 °C. -/
def auxRating (amb : Rat) : Rat := clampR 10 15 (15 - (amb - 55) / 3)

/-- R19, R40: which sources are live, in the order of `Aux.live`. DESIGN CHOICE (assumption log 97): a port branch is live from 100 V
at its terminal, and beside VBUS an AUX24 terminal counts as back-fed above 24.5 V only. -/
def Mod.auxLive (m : Mod) : List Bool :=
  let ports := (List.range 6).map (fun k => decide (100 ≤ m.vPort k))
  let v := m.vPort 7
  let vbus := m.usb.vbusLive
  ports ++ [vbus, !ports.any (fun b => b) && decide (20 ≤ v) && decide (v ≤ 30) && (!vbus || decide (dec 245 1 < v))]

/-- The voltage of a source of the auxiliary supply. -/
def Mod.auxVolts (m : Mod) (k : Nat) : Rat := if k = 6 then m.q E.USB_V 0 else m.vPort k

/-- R19: the highest-voltage live source carries the load. -/
def Mod.auxSource (m : Mod) (live : List Bool) : Option Nat :=
  (List.range 8).foldl (fun (a : Option Nat) k =>
    if !(live[k]?).getD false then a
    else match a with
      | some j => if m.auxVolts j < m.auxVolts k then some k else a
      | none => some k) none

/-- R40, R58, R281, R292: the output limit of AUX24: none while it is back-fed or disabled, the budget less CONT's draw otherwise, and at most
95 % of the port's rating in LIMIT. -/
def Mod.auxLimit (m : Mod) (live : List Bool) : Rat :=
  let on := fun k => (live[k]?).getD false
  let budget := if on 7 || !m.b E.PORT_EN 7 then 0 else if (List.range 6).any on then auxRating m.sens.amb else if on 6 then 2 else 0
  let lim := maxR 0 (budget - m.q E.CONT_I 0)
  if m.n E.PROT_STATE 7 == 1 then minR lim (15 * (95 / 100)) else lim

/-- R19, R40, R432: the most that a source gives the auxiliary supply, W. -/
def Mod.auxMost (m : Mod) : Option Nat → Rat
  | none => 0
  | some 6 => m.q E.USB_V 0 * m.q E.USB_I 0
  | some 7 => maxR 0 (m.vPort 7)
  | some _ => 400

/-- R40: VBUS is the only live source: CONT and AUX24 share 2 A. -/
def Mod.vbusOnly (m : Mod) : Bool :=
  let live := m.auxLive
  (live[6]?).getD false && !(live.take 6).any (fun b => b) && !(live[7]?).getD false

/-- R19, R40, R431: the auxiliary supply at a mode tick. AUX24 sources no current while an external supply carries it (R40). -/
def Mod.auxTick (m : Mod) : Mod :=
  let live := m.auxLive
  let on := fun k => (live[k]?).getD false
  let port := (List.range 6).any on
  let src := m.auxSource live
  let ext := (port || on 6) && decide (dec 245 1 < m.vPort 7)
  let out := if on 7 || ext then 0 else 24 * (maxR 0 (m.iPort 7) + m.q E.CONT_I 0)
  { m with
    usb := { m.usb with powered := port || on 7 }
    aux := { live := live, source := src, lim := if ext then 0 else m.auxLimit live
             external := ext
             draw := minR (m.auxMost src) (maxR 0 m.sens.ccP + out) } }

/-- R39, R513: the auxiliary supply in HIBERNATE: 150 mW in total at the most, from the highest live source; AUX24 is off. -/
def Mod.auxHibernate (m : Mod) : Mod :=
  let src := m.auxSource m.auxLive
  { m with aux := { m.aux with source := src, lim := 0, draw := minR (minR m.aux.draw (m.auxMost src)) (dec 15 2) } }

end Sys2Proof.Machine
end

