-- ==== Sys2Proof/Machine/MeterOps.lean ====
section
/-! DEFINITION. Machine/MeterOps.lean: the lifetime counters and energy sessions (R239, R318, R331 to R334), the
averages and peaks (R315 to R317), and the energy log (R500). -/

namespace Sys2Proof.Machine

open Sys2Proof

/-! ## The fast channels (R311, R312, R330) -/

/-- R311: one LSB of a fast channel, V or A. -/
def chLsb (ch : Nat) : Rat := if 14 ≤ ch then dec 2 3 else if ch % 2 = 0 then dec 40 3 else dec 25 3

/-- R330: the adjustment of a channel in force: gain factor and offset as F32. -/
def Mod.calOf (m : Mod) (ch : Nat) : Nat × Nat := ((m.cal.find? (·.1 == ch)).map (·.2)).getD (0x3F800000, 0)

/-- R311, R313, R330: the whole number of LSBs nearest to a sample of a channel, its offset in force taken off and its field
adjustment applied (assumption log 99). -/
def Mod.sampleLsbs (m : Mod) (ch : Nat) (x : Rat) : Int :=
  let z := if ch % 2 = 1 then m.q E.I_ZERO (ch / 2) else 0
  let (g, o) := m.calOf ch
  roundR (((x - z) * f32ToRat g + f32ToRat o) / chLsb ch)

/-- R312: the code that marks an invalid sample. -/
def invalidCode : Int := -32768

/-- R312: the code of a sample: ±32767 beyond full scale, −32768 while the channel's samples are invalid. -/
def Mod.sampleCode (m : Mod) (ch : Nat) (x : Rat) : Int :=
  if m.bitOf E.CH_INVALID 0 ch then invalidCode else max (-32767) (min 32767 (m.sampleLsbs ch x))

/-- R311: what a code stands for; none where it is invalid. -/
def codeValue (ch : Nat) (c : Int) : Option Rat := if c = invalidCode then none else some (c * chLsb ch)

/-- The codes of one sampling instant. -/
def Mod.codes (m : Mod) (row : List Rat) : List Int := (List.range 16).map (fun ch => m.sampleCode ch ((row[ch]?).getD 0))

def valueOf (row : List Int) (ch : Nat) : Option Rat := (row[ch]?).bind (codeValue ch)

/-- R312, R315: a port's power at one instant, where both its channels are valid. -/
def powerOf (row : List Int) (k : Nat) : Option Rat :=
  match valueOf row (2 * k), valueOf row (2 * k + 1) with
  | some v, some i => some (v * i)
  | _, _ => none

/-- The mean of the valid ones; none where there are none (R312). -/
def meanOf (l : List (Option Rat)) : Option Rat :=
  let l := l.filterMap id
  if l.isEmpty then none else some (l.sum / (l.length : Rat))

/-- R238, R312, R318: the means of a mode tick over its samples; a mean without a valid sample stands, and adds no energy. -/
def Mod.meansOf (m : Mod) (rows : List (List Int)) : Means :=
  let ch := fun (c : Nat) => meanOf (rows.map (valueOf · c))
  let pw := fun (k : Nat) (f : Rat → Rat) => meanOf (rows.map (fun r => (powerOf r k).map f))
  let part := fun (c : Nat) (f : Rat → Rat) => (meanOf (rows.map (fun r => (valueOf r c).map f))).getD 0
  let ports := List.range 8
  { v := ports.map (fun k => (ch (2 * k)).getD ((m.mean.v[k]?).getD 0))
    i := ports.map (fun k => (ch (2 * k + 1)).getD ((m.mean.i[k]?).getD 0))
    p := ports.map (fun k => (pw k id).getD ((m.mean.p[k]?).getD 0))
    pPos := ports.map (fun k => (pw k (maxR 0)).getD 0)
    pNeg := ports.map (fun k => (pw k (fun q => maxR 0 (-q))).getD 0)
    iPos := part 9 (maxR 0)
    iNeg := part 9 (fun q => maxR 0 (-q)) }

/-- R312: the channels of which a sample lies beyond full scale. -/
def Mod.saturated (m : Mod) (smp : List (List Rat)) : List Nat :=
  (List.range 16).filter (fun ch => smp.any (fun row => decide (32767 < (m.sampleLsbs ch ((row[ch]?).getD 0)).natAbs)))

/-- R312: the samples of a mode tick with their TB: the latest is that of the tick's own instant. -/
def Mod.stamped (m : Mod) (rows : List (List Int)) : List (Nat × List Int) :=
  rows.zipIdx.map (fun x => (sampleAt m.tb - 50 * (rows.length - 1 - x.2), x.1))

/-! ## Decimated samples (R319, R325) -/

/-- The mean of the valid codes of a channel, in codes; −32768 where there is none (R312). -/
def meanCode (x : Nat × Int) : Int := if x.1 = 0 then invalidCode else roundR (mkRat x.2 x.1)

/-- R319: the sample being averaged is done; `keep` are held. -/
def Rec.close (keep : Nat) (r : Rec) : Rec :=
  match r.part with
  | none => r
  | some (t, _, l) => { r with part := none, partSat := 0, done := (t, l.map meanCode) :: r.done.take (keep - 1)
                               sat := (if r.partSat = 0 then [] else [(t, r.partSat)]) ++ r.sat.take (keep - 1) }

/-- R319: a fast sample joins the decimated sample, of `n` fast ones, to whose time it belongs. -/
def Rec.feed (n keep : Nat) (r : Rec) (x : Nat × List Int) : Rec :=
  if x.1 < r.base then r
  else
    let t := r.base + (x.1 - r.base) / (50 * n) * (50 * n)
    let add := fun (l : List (Nat × Int)) =>
      (List.range 16).map (fun ch =>
        let c := (x.2[ch]?).getD invalidCode
        let y := (l[ch]?).getD (0, 0)
        if c = invalidCode then y else (y.1 + 1, y.2 + c))
    let r := match r.part with
      | some (u, _, _) => if u = t then r else r.close keep
      | none => r
    let (k, l) := match r.part with
      | some (_, k, l) => (k, l)
      | none => (0, [])
    let full := (List.range 16).filter (fun ch => ((x.2[ch]?).getD 0).natAbs == 32767)
    let r := { r with part := some (t, k + 1, add l), partSat := full.foldl (fun a ch => a ||| 1 <<< ch) r.partSat }
    if n ≤ k + 1 then r.close keep else r

/-- The codes of the decimated sample at `t`, where it has been brought. -/
def Rec.at_ (r : Rec) (t : Nat) : Option (List Int) := (r.done.find? (·.1 == t)).map (·.2)

/-! ## Lifetime counters -/

/-- R239, R318: the lifetime totals and the port energy counters go into one journal record. They are in force as they
count, so that a record that fails puts nothing back. -/
def Mod.lifetimeCommit (m : Mod) : Mod :=
  let fams := [(E.BAT_AH_IN_LIFE, 0), (E.BAT_AH_OUT_LIFE, 0)] ++ (List.range 8).map (fun k => (E.E_POS, k)) ++
    (List.range 8).map (fun k => (E.E_NEG, k))
  ({ m with journal := m.journal ++ [{ writes := fams.map (fun x => (x.1.key x.2, m.getV x.1 x.2)), olds := [],
                                       ask := none, kind := 0 }] } : Mod).arm .lifetime (m.tb + sec 3600)

/-- R239: 3600 s have passed since the latest commit. -/
def execLifetimeCommit (t : Nat) (s : State) : Host.Outcome State Fault Refusal :=
  execM t (fun m => if m.due .lifetime then m.lifetimeCommit else m) s

/-- A U64 counter takes the whole units of what has gathered, and keeps the rest: `unit` is one count. -/
def Mod.gather (m : Mod) (f : Fam) (i : Nat) (unit have_ : Rat) : Mod × Rat :=
  let n := (have_ / unit).floor.toNat
  (m.setN f i ((m.n f i + n) % 2 ^ 64), grid (have_ - unit * n))

/-- R318, R239: the energies of one mode tick. -/
def Mod.energyTick (m : Mod) : Mod :=
  let dt := mkRat 1 10000
  let m := m.each 8 (fun k m =>
    let (m, rp) := m.gather E.E_POS k (dec 36 1) (((m.meas.ePos[k]?).getD 0) + ((m.mean.pPos[k]?).getD 0) * dt)
    let (m, rn) := m.gather E.E_NEG k (dec 36 1) (((m.meas.eNeg[k]?).getD 0) + ((m.mean.pNeg[k]?).getD 0) * dt)
    { m with meas := { m.meas with ePos := setAt 0 m.meas.ePos k rp, eNeg := setAt 0 m.meas.eNeg k rn } })
  let (m, a) := m.gather E.BAT_AH_IN_LIFE 0 (dec 36 1) (m.meas.qIn + m.mean.iPos * dt)
  let (m, b) := m.gather E.BAT_AH_OUT_LIFE 0 (dec 36 1) (m.meas.qOut + m.mean.iNeg * dt)
  { m with meas := { m.meas with qIn := a, qOut := b } }

/-! ## Energy records -/

/-- R331: the counters a session's totals are taken from, in the order of R332. -/
def Mod.sessCounters (m : Mod) : List Nat :=
  [m.n E.E_POS 4, m.n E.E_NEG 4, m.n E.BAT_AH_IN_LIFE 0, m.n E.BAT_AH_OUT_LIFE 0] ++
  (List.range 4).map (m.n E.E_POS) ++ [m.n E.E_POS 5, m.n E.E_NEG 5]

/-- R334: the session totals of this mode tick. -/
def Mod.sessTick (m : Mod) : Mod :=
  if m.n E.ESESS_STATE 0 == 1 then
    let e := m.esess
    { m with esess := { e with tot := List.zipWith (· - ·) m.sessCounters e.base, updRtc := m.n E.RTC 0,
                               maxI := maxR e.maxI (absR (m.iPort 4)) } }
  else m

/-- Exactly `n` bytes of a list, zeros after its end. -/
def fit (n : Nat) (l : List Nat) : List Nat := (l ++ List.replicate n 0).take n

/-- R332: bytes 0 to 159 of a record. -/
def Mod.recordHead (m : Mod) (kind seq : Nat) (tot : List Nat) (rtc : Nat) : List Nat :=
  let e := m.esess
  let flags := (if m.keys.sign.isNone then 1 else 0) + (if m.n E.CAL_STATE 0 == 1 then 2 else 0) +
    (if e.gap then 4 else 0) + (if e.clockSet then 8 else 0)
  [kind, flags] ++ leBytes 2 1 ++ leBytes 4 (m.n E.ESESS_NUM 0) ++ leBytes 4 seq ++ leBytes 4 (m.n E.EPOCH 0) ++
  leBytes 2 (m.n E.NET_ADDR 0) ++ leBytes 2 0 ++ fit 16 Config.serial ++ leBytes 8 rtc ++ leBytes 8 m.tb ++
  (fit 10 tot).flatMap (leBytes 8) ++ leBytes 4 (f32OfRat m.vBat) ++ leBytes 4 (f32OfRat e.maxI) ++
  (if e.prev.isEmpty then List.replicate 16 0 else fit 16 (Config.sha256 e.prev)) ++ leBytes 4 0

/-- R333: a record with its signature, or zeros without a key. -/
def Mod.recordBytes (m : Mod) (kind seq : Nat) (tot : List Nat) (rtc : Nat) : List Nat :=
  let h := m.recordHead kind seq tot rtc
  h ++ (match m.keys.sign with
    | some k => fit 64 (Config.signature k h)
    | none => List.replicate 64 0)

def recordsPerEnergySector : Nat := 292
def energySectors : Nat := 64

/-- The sectors of the energy log that hold records, and the oldest that holds none of session `open_` (R500). -/
def elogSectors (l : List ERec) : List Nat := (l.map (fun r => r.pos / recordsPerEnergySector)).eraseDups

def elogOldest (l : List ERec) (open_ : Option Nat) : Option Nat :=
  ((elogSectors l).filter (fun s => !l.any (fun r => r.pos / recordsPerEnergySector == s && some r.num == open_))).getLast?

/-- R28, R331, R401: an energy record waits: while a sector is erased, in hold-up operation, or until the number of its session is
durable. -/
def Mod.elogHeld (m : Mod) : Bool :=
  !m.flashFree || m.journal.any (fun j => j.writes.any (fun w => w.1 == E.ESESS_NUM.key 0))

/-- R500: a record reaches flash; entering the last erased sector starts an erase. -/
def Mod.elogPlace (m : Mod) (r : ERec) : Mod :=
  let m : Mod := { m with elog := r :: m.elog }
  m.when (r.pos % recordsPerEnergySector == 0 && energySectors ≤ (elogSectors m.elog).length + (m.retired[1]?).getD 0 && m.eraseOp.isNone &&
    (elogOldest m.elog (if m.n E.ESESS_STATE 0 == 1 then some (m.n E.ESESS_NUM 0) else none)).isSome) (·.eraseStart 2)

def Mod.elogPut (m : Mod) (r : ERec) : Mod := if m.elogHeld then { m with elogQ := m.elogQ ++ [r] } else m.elogPlace r

/-- The records that wait go to flash, until another erase begins. -/
def Mod.elogFlush (m : Mod) : Mod := m.elogQ.foldl Mod.elogPut { m with elogQ := [] }

/-- R331, R395: the number of a session has not become durable: what waits of it is not written, and it is not open. -/
def Mod.elogDrop (m : Mod) (num : Nat) : Mod :=
  let lost := m.elogQ.filter (fun r => r.num == num)
  if lost.isEmpty then m
  else ({ m with elogQ := m.elogQ.filter (fun r => r.num != num), ePos := m.ePos - lost.length } : Mod).when
    (m.n E.ESESS_STATE 0 == 1) (fun m => (m.setN E.ESESS_STATE 0 0).disarm .esess)

/-- R500: an energy record is made, and goes to flash; a record that finds no sector is not written, and the next one carries
GAP. -/
def Mod.elogWrite (m : Mod) (kind seq : Nat) (tot : List Nat) (rtc : Nat) : Mod :=
  let b := m.recordBytes kind seq tot rtc
  let used := (elogSectors (m.elogQ ++ m.elog)).length + (m.retired[1]?).getD 0
  if m.ePos % recordsPerEnergySector == 0 && energySectors ≤ used then { m with esess := { m.esess with gap := true } }
  else
    ({ m with ePos := m.ePos + 1, esess := { m.esess with seq := seq + 1, prev := b, gap := false } } : Mod).elogPut
      { num := m.n E.ESESS_NUM 0, seq := seq, pos := m.ePos, bytes := b }

/-- R331: a session opens: its number is committed; the OPEN record is written once that is durable. -/
def Mod.sessOpen (m : Mod) : Mod :=
  let m := (m.commitN E.ESESS_NUM 0 (inc32 (m.n E.ESESS_NUM 0))).setN E.ESESS_STATE 0 1
  let m : Mod := { m with esess := { base := m.sessCounters, tot := List.replicate 10 0, updRtc := m.n E.RTC 0 } }
  (m.elogWrite 1 0 m.esess.tot (m.n E.RTC 0)).arm .esess (m.tb + sec (m.n E.ESESS_INT 0))

/-- R331: a session closes with its CLOSE record; the lifetime counters are committed (R239). -/
def Mod.sessClose (m : Mod) : Mod :=
  let m := m.sessTick
  let m := m.elogWrite 3 m.esess.seq m.esess.tot (m.n E.RTC 0)
  ((m.setN E.ESESS_STATE 0 0).disarm .esess).lifetimeCommit

/-- R331: an INTERIM record every ESESS_INT. -/
def Mod.sessInterim (m : Mod) : Mod :=
  if m.n E.ESESS_STATE 0 == 1 && m.due .esess then
    let m := m.sessTick
    let m := m.elogWrite 2 m.esess.seq m.esess.tot (m.n E.RTC 0)
    ({ m with esess := { m.esess with interim := m.esess.tot } } : Mod).arm .esess (m.tb + sec (m.n E.ESESS_INT 0))
  else m

def execEsessInterim (t : Nat) (s : State) : Host.Outcome State Fault Refusal := execM t Mod.sessInterim s

/-- R331: the record named by ESESS_RD_NUM and ESESS_RD_SEQ; an empty BLOB where it is no longer held. -/
def Mod.sessRecord (m : Mod) : List Nat :=
  ((m.elog.find? (fun r => r.num == m.n E.ESESS_RD_NUM 0 && r.seq == m.n E.ESESS_RD_SEQ 0)).map (·.bytes)).getD []

/-! ## Averages and peaks (R315, R316) -/

def maxPeak (x : Option Peak) (v : Rat) (t : Nat) : Option Peak :=
  match x with
  | none => some ⟨v, t⟩
  | some p => if p.v < v then some ⟨v, t⟩ else some p

def minPeak (x : Option Peak) (v : Rat) (t : Nat) : Option Peak :=
  match x with
  | none => some ⟨v, t⟩
  | some p => if v < p.v then some ⟨v, t⟩ else some p

/-- R312, R316: the two peaks of one quantity take a running mean, where it has a valid sample. -/
def peakPair (hi lo : Option Peak) (v : Option Rat) (t : Nat) : List (Option Peak) :=
  match v with
  | some v => [maxPeak hi v t, minPeak lo v t]
  | none => [hi, lo]

/-- R316: a port's peaks take the running means of its voltage, current and power. -/
def peakSample (l : List (Option Peak)) (v i p : Option Rat) (t : Nat) : List (Option Peak) :=
  match l with
  | [a, b, c, d, e, f] => peakPair a b v t ++ peakPair c d i t ++ peakPair e f p t
  | _ => l

/-- R316: the peaks take the running mean of the latest PK_AVG samples, once so many have been taken. -/
def Mod.peakTick (m : Mod) (x : Nat × List Int) : Mod :=
  let n := max 1 (m.n E.PK_AVG 0)
  let rows := (x.2 :: m.meas.tail).take n
  let m : Mod := { m with meas := { m.meas with tail := rows } }
  if rows.length < n then m
  else { m with meas := { m.meas with
      peaks := m.meas.peaks.zipIdx.map (fun y => peakSample y.1 (meanOf (rows.map (valueOf · (2 * y.2))))
        (meanOf (rows.map (valueOf · (2 * y.2 + 1)))) (meanOf (rows.map (powerOf · y.2))) x.1) } }

/-- R316: the samples since the latest mode tick that a read brings join the peaks, those not yet taken. -/
def Mod.peakTake (m : Mod) (smp : List (List Rat)) : Mod :=
  let new := (m.stamped (smp.map m.codes)).drop m.meas.pkTaken
  let m := new.foldl Mod.peakTick m
  { m with meas := { m.meas with pkTaken := max m.meas.pkTaken smp.length } }

/-- R316: the 88 bytes of a port's peaks. Peaks without a running mean since the previous read give NaN and TB 0, which is the
model's choice (assumption log 104). -/
def Mod.peakBytes (m : Mod) (k : Nat) : List Nat :=
  leBytes 8 m.tb ++ leBytes 8 ((m.meas.pkT[k]?).getD 0) ++
  ((m.meas.peaks[k]?).getD []).flatMap (fun p => match p with
    | some p => leBytes 4 (f32OfRat p.v) ++ leBytes 8 p.t
    | none => leBytes 4 0x7FC00000 ++ leBytes 8 0)

/-- R316: a read of PK_SNAP restarts the port's peaks and copies what it returned to PK_LAST. -/
def Mod.peakSnap (m : Mod) (k : Nat) : Mod :=
  let m := m.setBytes E.PK_LAST k (m.peakBytes k)
  { m with meas := { m.meas with peaks := setAt [] m.meas.peaks k (List.replicate 6 none), pkT := setAt 0 m.meas.pkT k m.tb } }

/-- The bytes of a value, NaN where there is none (assumption log 104). -/
def f32Opt (x : Option Rat) : Nat := match x with
  | some q => f32OfRat q
  | none => 0x7FC00000

/-- R316: the 16 bytes of a phase's extremes, and their restart. -/
def Mod.phtBytes (m : Mod) (p : Nat) : List Nat :=
  leBytes 8 m.tb ++ leBytes 4 (f32Opt ((m.meas.phMax[p]?).getD none)) ++ leBytes 4 (f32Opt ((m.meas.phMin[p]?).getD none))

def Mod.phtSnap (m : Mod) (p : Nat) : Mod :=
  { m with meas := { m.meas with phMax := setAt none m.meas.phMax p none, phMin := setAt none m.meas.phMin p none } }

/-- R314, R315, R316: a phase's extremes and its TEL_WIN1 in progress take a period mean. -/
def Mod.phSample (m : Mod) (p : Nat) (i : Rat) : Mod :=
  { m with meas := { m.meas with
      phMax := modAt none m.meas.phMax p (fun x => match x with | none => some i | some y => some (maxR y i))
      phMin := modAt none m.meas.phMin p (fun x => match x with | none => some i | some y => some (minR y i))
      tel := modAt {} m.meas.tel 0 (fun w =>
        { w with ph := modAt (0, 0, 0) w.ph p (fun y => (y.1 + 1, y.2.1 + i, y.2.2 + i * i)) }) } }

/-- A count and sum take a value, where it is valid. -/
def addOpt (x : Nat × Rat) (v : Option Rat) : Nat × Rat := match v with
  | some v => (x.1 + 1, x.2 + v)
  | none => x

/-- R315: samples join a window in progress. -/
def Tel.feed (w : Tel) (rows : List (List Int)) : Tel :=
  { w with
    ch := w.ch.zipIdx.map (fun x => rows.foldl (fun a r => addOpt a (valueOf r x.2)) x.1)
    pw := w.pw.zipIdx.map (fun x => rows.foldl (fun a r => addOpt a (powerOf r x.2)) x.1) }

/-- R315: the samples of a mode tick join both windows in progress, but for those that the window before has taken. -/
def Mod.telTick (m : Mod) (rows : List (List Int)) : Mod :=
  { m with meas := { m.meas with tel := m.meas.tel.map (fun w => { w.feed (rows.drop w.taken) with taken := 0 }) } }

/-- The window `w` in progress. -/
def Mod.telOf (m : Mod) (w : Nat) : Tel := (m.meas.tel[w]?).getD {}

/-- R311: the samples of IN1 to IN4, of BAT and SYS, and of BRK and AUX24, as rows of the sixteen channels. -/
def sampleRows (inputs store others : List (List Rat)) : List (List Rat) :=
  List.zipWith (· ++ ·) inputs (List.zipWith (· ++ ·) store others)

/-- Channels as bits of a map. -/
def bitsOf (l : List Nat) : Nat := l.foldl (fun a ch => a ||| 1 <<< ch) 0

/-- R312, R315: the samples since the latest mode tick, up to the end of window `w`, join it. -/
def Mod.telLast (w : Nat) (smp : List (List Rat)) (m : Mod) : Mod :=
  let new := smp.drop (m.telOf w).taken
  { m with meas := { m.meas with
      tel := modAt {} m.meas.tel w (·.feed (new.map m.codes))
      satWin := if w = 0 then m.meas.satWin ||| bitsOf (m.saturated new) else m.meas.satWin } }

/-- R315: the place of the present instant on the grid of a window: whole multiples of its length in network time, or in TB. -/
def Mod.telIdx (m : Mod) (w : Nat) : Nat :=
  (if m.ntimeOk then m.ntime else m.tb) / max 1 (ms (if w = 0 then m.n E.TEL_WIN1 0 else m.n E.TEL_WIN2 0))

def telMean (x : Option (Nat × Rat)) : Option Rat := match x with
  | some (0, _) => none
  | some (n, s) => some (s / (n : Rat))
  | none => none

/-- An entry takes a mean, where the window has one. -/
def Mod.setMean (m : Mod) (f : Fam) (k : Nat) (v : Option Rat) : Mod := match v with
  | some v => m.setQ f k v
  | none => m

/-- R315: the means of the window that ends are published: voltage, current and power of each port. -/
def Mod.telPublish (m : Mod) (v i p : Fam) (w : Tel) : Mod :=
  m.each 8 (fun k m => ((m.setMean v k (telMean w.ch[2 * k]?)).setMean i k (telMean w.ch[2 * k + 1]?)).setMean p k (telMean w.pw[k]?))

/-- R314, R315: a phase that does not switch has a period mean of 0 in its stage's TEL_WIN1. -/
def Mod.phIdle (m : Mod) (p : Nat) : Mod :=
  { m with meas := { m.meas with
      tel := modAt {} m.meas.tel 0 (fun w => { w with ph := modAt (0, 0, 0) w.ph p (fun y => (y.1 + 1, y.2.1, y.2.2)) }) } }

/-- R315: the mean and the RMS of each phase over TEL_WIN1: of PH_I as it stands where its stage has had no period in it. -/
def Mod.phPublish (m : Mod) (w : Tel) : Mod :=
  m.each 16 (fun p m =>
    let x := (w.ph[p]?).getD (0, 0, 0)
    let i := m.q E.PH_I p
    let (n, s, s2) := if x.1 = 0 then (1, i, i * i) else x
    (m.setMean E.PHT_I p (telMean (some (n, s)))).setMean E.PHT_IRMS p ((telMean (some (n, s2))).map sqrtR))

/-- R336: CH_SAT reports the TEL_WIN1 that has ended. -/
def Mod.satPublish (m : Mod) : Mod :=
  let m := m.setN E.CH_SAT 0 m.meas.satWin
  ({ m with meas := { m.meas with satWin := 0 } } : Mod).when (m.n E.CH_SAT 0 == 0) (·.lower 5 0)

/-- R315: a window that ends is published, unless a change of its length discards it; the next one begins. -/
def Mod.telWindow (w : Nat) (smp : List (List Rat)) (m : Mod) : Mod :=
  if 2 ≤ w ∨ m.telIdx w = (m.telOf w).idx then m
  else
    let m := m.telLast w smp
    let x := m.telOf w
    let skip := (m.meas.telSkip[w]?).getD false
    let m : Mod := { m with meas := { m.meas with
      telSkip := setAt false m.meas.telSkip w false
      tel := setAt {} m.meas.tel w { idx := m.telIdx w, taken := smp.length } } }
    if skip then m.when (w == 0) (fun m => { m with meas := { m.meas with satWin := 0 } })
    else if w = 0 then ((m.telPublish E.TEL_V E.TEL_I E.TEL_P x).phPublish x).satPublish
    else m.telPublish E.TEL_V2 E.TEL_I2 E.TEL_P2 x

def execTelWindowEnd (t : Nat) (w : Nat) (inputs store others : List (List Rat)) (s : State) :
    Host.Outcome State Fault Refusal := execM t (Mod.telWindow w (sampleRows inputs store others)) s

/-- R315: the windows begin at the grid's present place. -/
def Mod.telBegin (m : Mod) : Mod :=
  { m with meas := { m.meas with tel := m.meas.tel.zipIdx.map (fun x => { x.1 with idx := m.telIdx x.2 }) } }

/-- R315: a change of a window's length: the window in progress is discarded, and the next one starts at the new grid's boundary. -/
def Mod.telRestart (m : Mod) (w : Nat) : Mod :=
  { m with meas := { m.meas with telSkip := setAt false m.meas.telSkip w true
                                 tel := modAt {} m.meas.tel w (fun x => { x with idx := m.telIdx w }) } }

/-! ## The step record (R317, R196) -/

/-- R317, R195: one voltage-loop period of the step record. A step begins with the first period in which the error passes
FR_DET per cent of SYS_VSET. Its recovery is the last period outside 0.5 % of `final`, the reference without pre-bias,
and reads NaN beyond 10 ms. The step ends 10 ms after its start, or with a later return into the band. -/
def Mod.stepRecord (vref final v : Rat) (m : Mod) : Mod :=
  let x := m.meas
  let base := m.cq E.SYS_VSET 0
  let err := if base ≤ 0 then 0 else 100 * (v - vref) / base
  let rel := if final ≤ 0 then 0 else 100 * (v - final) / final
  let out_ := decide (mkRat 1 2 < absR rel)
  let x := if !x.stepOn && decide (m.cq E.FR_DET 0 < absR err) then
    { x with stepOn := true, stepAt := m.tb, stepOut := m.tb, stepDip := 0, stepOver := 0, steps := (x.steps + 1) % 2 ^ 32 }
    else x
  if !x.stepOn then { m with meas := x }
  else
    let x := { x with stepDip := maxR x.stepDip (-rel), stepOver := maxR x.stepOver rel
                      stepOut := if out_ then m.tb else x.stepOut }
    let rec_ := if out_ || decide (x.stepAt + ms 10 < x.stepOut) then none else some (x.stepOut - x.stepAt)
    let x := if x.dip < x.stepDip ∨ (0 < x.dip ∧ x.dip = x.stepDip ∧ x.dipT = x.stepAt) then
      { x with dip := x.stepDip, dipT := x.stepAt, dipR := rec_ } else x
    let x := if x.over_ < x.stepOver ∨ (0 < x.over_ ∧ x.over_ = x.stepOver ∧ x.overT = x.stepAt) then
      { x with over_ := x.stepOver, overT := x.stepAt, overR := rec_ } else x
    { m with meas := { x with stepOn := out_ || decide (m.tb < x.stepAt + ms 10) } }

/-- R317: the 52 bytes of the step record. -/
def Mod.stepBytes (m : Mod) : List Nat :=
  let x := m.meas
  let r := fun (o : Option Nat) => match o with
    | some n => f32OfRat (mkRat n 100)
    | none => 0x7FC00000
  leBytes 8 m.tb ++ leBytes 8 x.stepT ++ leBytes 4 x.steps ++ leBytes 4 (f32OfRat x.dip) ++ leBytes 8 x.dipT ++
  leBytes 4 (r x.dipR) ++ leBytes 4 (f32OfRat x.over_) ++ leBytes 8 x.overT ++ leBytes 4 (r x.overR)

/-- R317: a read of STEP_SNAP clears the record and copies what it returned to STEP_LAST. -/
def Mod.stepSnap (m : Mod) : Mod :=
  let m := m.setBytes E.STEP_LAST 0 m.stepBytes
  { m with meas := { m.meas with steps := 0, stepT := m.tb, dip := 0, dipT := 0, dipR := some 0, over_ := 0, overT := 0,
                                 overR := some 0, stepDip := 0, stepOver := 0 } }

/-! ## Channels (R312, R313) -/

/-- R319: a recording capture that holds channel `ch` holds invalid samples from here. -/
def Mod.capInvalid (m : Mod) (ch : Nat) : Mod :=
  m.when (1 ≤ m.n E.CAP_STATE 0 && m.n E.CAP_STATE 0 ≤ 3 && m.bitOf E.CAP_MASK 0 ch) (·.setBit E.CAP_FLAGS 0 2 true)

/-- R312: how many samples a channel has been saturated without a break, and the longest such run that a mode tick's samples
hold. -/
def Mod.satRunOf (m : Mod) (smp : List (List Rat)) (ch : Nat) : Nat × Nat :=
  smp.foldl (fun (a : Nat × Nat) row =>
    let n := if 32767 < (m.sampleLsbs ch ((row[ch]?).getD 0)).natAbs then a.1 + 1 else 0
    (n, max a.2 n)) ((m.meas.satRun[ch]?).getD 0, 0)

/-- R312: a channel saturated for more than 10 µs, 20 sampling intervals, raises its class C fault. -/
def Mod.satTick (smp : List (List Rat)) (m : Mod) : Mod :=
  let runs := (List.range 16).map (m.satRunOf smp)
  ({ m with meas := { m.meas with satRun := runs.map (·.1) } } : Mod).when (runs.any (fun x => decide (20 < x.2))) (·.raise 5 0)

/-- R312: the channel may have been saturated for more than 10 µs by now: the run at the latest mode tick and the time since. -/
def Mod.satLong (m : Mod) (ch : Nat) : Bool := 20 < (m.meas.satRun[ch]?).getD 0 + (m.tb - m.n E.TICK_LAST 0) / 50

/-- R312: a fast channel has been saturated for more than 10 µs: its bit is set, and a class C fault raised. -/
def Mod.channelSaturated (ch : Nat) (m : Mod) : Mod :=
  if ch < 16 && m.satLong ch then
    let m : Mod := { m with meas := { m.meas with satWin := m.meas.satWin ||| 1 <<< ch } }
    (m.setBit E.CH_SAT 0 ch true).raise 5 0
  else m

def execChannelSaturated (t : Nat) (ch : Nat) (s : State) : Host.Outcome State Fault Refusal :=
  execM t (Mod.channelSaturated ch) s

/-- R312: a converter's range check fails: its samples are invalid, and a class U fault is raised. -/
def Mod.channelRangeFail (ch : Nat) (m : Mod) : Mod :=
  if ch < 16 then ((m.setBit E.CH_INVALID 0 ch true).capInvalid ch).raise 5 1 else m

def execChannelRangeFail (t : Nat) (ch : Nat) (s : State) : Host.Outcome State Fault Refusal :=
  execM t (Mod.channelRangeFail ch) s

/-- R319, R321: the samples of a mode tick reach a recording capture, up to its last one. -/
def Mod.capFeed (m : Mod) (l : List (Nat × List Int)) : Mod :=
  let st := m.n E.CAP_STATE 0
  if st = 0 then m
  else
    let stop := if st ≤ 2 then none else some (m.cap.first + m.cap.len * (50 * m.cap.dec))
    let l := l.filter (fun x => match stop with
      | some e => decide (x.1 < e)
      | none => true)
    let bad := l.any (fun x => (List.range 16).any (fun ch => bit m.cap.mask ch && (x.2[ch]?).getD 0 == invalidCode))
    let m : Mod := { m with cap := { m.cap with rec_ := l.foldl (Rec.feed m.cap.dec m.cap.len) m.cap.rec_ } }
    m.when bad (·.setBit E.CAP_FLAGS 0 2 true)

/-- How many channels a mask holds, and the samples per channel of a full block of them (R323). -/
def channels (mask : Nat) : Nat := ((List.range 16).filter (bit mask)).length
def blockSamples (mask : Nat) : Nat := 512 / max 1 (channels mask)

/-- R325: the samples of a mode tick reach stream B, which holds those of one block to come. -/
def Mod.strbFeed (m : Mod) (l : List (Nat × List Int)) : Mod :=
  m.when (m.b E.STRB_EN 0) (fun m => { m with cap := { m.cap with
    recB := l.foldl (Rec.feed (max 1 (m.n E.STRB_DEC 0)) (2 * blockSamples (m.n E.STRB_MASK 0))) m.cap.recB } })

/-- R312, R315 to R319, R325: what is done with the samples of a mode tick beside their means. -/
def Mod.sampleTick (m : Mod) (rows : List (List Int)) (sat : List Nat) : Mod :=
  let l := m.stamped rows
  let m := sat.foldl (fun (m : Mod) ch => m.setBit E.CH_SAT 0 ch true)
    { m with meas := { m.meas with satWin := m.meas.satWin ||| bitsOf sat } }
  let m := (l.drop m.meas.pkTaken).foldl Mod.peakTick m
  ((({ m with meas := { m.meas with pkTaken := 0 } } : Mod).telTick rows).capFeed l).strbFeed l

/-- R313: 10 ms have passed since the port's switch opened, or for BRK since the chopper stopped. -/
def Mod.zeroDue (m : Mod) (k : Nat) : Bool :=
  match (m.protOf k).zeroFrom with
  | some u => decide (k < 8) && decide (u + ms 10 ≤ m.tb)
  | none => false

/-- R329: the constants of a converter in force: the factory's, or nominal ones (assumption log 106). -/
def Mod.calConst (m : Mod) (ch : Nat) : Config.FactoryCal := if m.n E.CAL_STATE 0 = 1 then ⟨1, 0, 0⟩ else Config.factoryCal ch

/-- R313, R329: the factory value of a channel's offset at a temperature, °C. -/
def Mod.factoryOffset (m : Mod) (ch : Nat) (temp : Rat) : Rat := (m.calConst ch).offset + (m.calConst ch).tempco * (temp - 25)

/-- R313: a current channel is auto-zeroed; the offset applies, and beyond 0.5 A from its factory value raises a class C fault. -/
def Mod.autoZero (k : Nat) (ofs temp : Rat) (m : Mod) : Mod :=
  if m.zeroDue k then
    let m := (m.modProt k (fun x => { x with zeroFrom := none })).setQ E.I_ZERO k (clampR (-5) 5 ofs)
    let d := ofs - m.factoryOffset (2 * k + 1) temp
    m.when (decide (mkRat 1 2 < absR d)) (·.raise 5 2 (some d))
  else m

def execAutoZero (t : Nat) (k : Nat) (ofs temp : Rat) (s : State) : Host.Outcome State Fault Refusal :=
  execM t (Mod.autoZero k ofs temp) s

end Sys2Proof.Machine
end

