-- ==== Sys2Proof/Machine/PathOps.lean ====
section
/-! DEFINITION. Machine/PathOps.lean: the mode-tick resolution's helper functions (R70 to R74, R84, R106) and the
actions of its transitions: qualification, precharge, closing SYS, starting and stopping the stages (R84, R89, R110,
R112, R120 to R123). -/

namespace Sys2Proof.Machine

open Sys2Proof

/-! ## Choosing the path -/

/-- R17, R69: an envelope that routes energy to BRK. -/
def usesBrk (env : Nat) : Bool := env == 2 || env == 4 || env == 5 || env == 6 || env == 7 || env == 10

/-- R84, R69: the entry preconditions of an envelope, from OFF or STANDBY. DEDUCED (assumption log 94): ABSORB, which has no row
from STANDBY, is entered like BUS; an envelope that routes energy to BRK waits while BRK is ruled out. -/
def Mod.entryReady (m : Mod) (env : Nat) : Bool :=
  !(usesBrk env && m.brkBad) &&
  match env with
  | 2 | 3 | 4 | 5 => m.anyInput
  | 6 => m.batAvail
  | 7 => !m.brkUnavail && (m.usb.vbusLive || decide (100 ≤ m.vPort 4))
  | 10 => m.anyInput || m.batAvail
  | _ => true

/-- R104: CHARGE is kept for a recovering battery while an input is available. -/
def Mod.recoveryCharge (m : Mod) (env : Nat) : Bool :=
  m.recovering && (env == 3 || env == 10) && m.anyInput && m.stepRunning && m.n E.KIND m.stepIdx == 1 &&
    m.n E.PROT_STATE 4 ≤ 1

/-- R70, R110, R223: the BAT of a running BLACKSTART is lost: from step 3 on no longer qualified, tripped or held off, from
step 4 on by limits that R223 no longer takes as fresh (assumption log 43). -/
def Mod.bsBatLost (m : Mod) : Bool :=
  (3 ≤ m.n E.BS_STATE 0 && (!m.qualified 4 || !m.protOk 4 || m.faultGated 1)) || (4 ≤ m.n E.BS_STATE 0 && !m.bmsOk)

/-- R70: the fallback of a running path; the joint rows first. -/
def Mod.fallback (m : Mod) (env path : Nat) : Nat :=
  let bat := m.batAvail
  let inp := m.anyInput
  let prof := m.stepRunning
  if decide (m.derateF = 0) && 2 ≤ path && path ≤ 7 then 1
  else
    match env with
    | 2 => if inp then path else 1
    | 3 => if !inp then 1 else if m.recoveryCharge env then 3 else if !bat || !prof then 2 else path
    | 4 | 5 => if !bat && !inp then 8 else if !bat then 2 else if !inp then 6 else path
    | 6 => if bat then path else 8
    | 7 => if m.bsBatLost then 8 else path
    | 10 => if m.recoveryCharge env then 3 else if !bat && !inp then 8 else if !bat then 2 else if !inp then 6 else path
    | _ => path

/-- R72: choices 3 to 6 of AUTO: the path they name; none for choice 7. -/
def Mod.autoChoice (m : Mod) : Option Nat :=
  let h := m.q E.AUTO_HYST_P 0
  let ps := m.pPort 5
  let pb := m.pPort 4
  if ps < -h then some 5
  else if pb < -h then some 4
  else if h < pb && m.stepRunning then some 3
  else if absR pb ≤ h then some (if m.stepRunning then 3 else 2)
  else none

/-- The paths that regulate SYS under a label of AUTO: those that MOORING holds at STANDBY (R74). -/
def moored (path : Nat) : Bool := 2 ≤ path && path ≤ 6

/-- R72: AUTO's path at this tick, and the dwell's candidate and count. DEDUCED (assumption log 95): after BLACKSTART no label
of AUTO is running either, so the first choice takes effect without the dwell. -/
def Mod.autoSelect (m : Mod) : Nat × Option Nat × Nat :=
  let act := m.n E.PATH_ACT 0
  if !m.batAvail then (2, none, 0)
  else if !m.anyInput then (6, none, 0)
  else
    match m.autoChoice with
    | none => if !moored act then (if m.stepRunning then 3 else 2, none, 0) else (act, none, 0)
    | some r =>
      if !moored act then (r, none, 0)
      else if r = act then (act, none, 0)
      else (act, some r, if m.modes.dwellCand = some r then m.modes.dwellCnt + 1 else 1)

/-- R85: SAFESTOP holds until every SAFE force has cleared, the sequence has stopped, and OFF or STANDBY has been
written in it, or OFF brought it out of BLACKSTART (R111). -/
def Mod.safestopHolds (m : Mod) : Bool :=
  m.n E.PATH_ACT 0 == 8 && !(m.modes.stopFreed && m.n E.SS_STATE 0 == 4 && !m.forced)

/-- R17, R69: CHARGE goes on in its place while BRK is ruled out: an envelope that routes energy to BRK does not follow it. -/
def Mod.brkHeld (m : Mod) (env : Nat) : Bool :=
  usesBrk env && m.brkBad && 2 ≤ m.n E.PATH_ACT 0 && m.n E.PATH_ACT 0 ≤ 6 && (m.n E.ENV_EFF 0 == 3 || m.modes.brkHold)

/-- R83: the path for an envelope in force, before MOORING_HOLD. SAFESTOP and SERVICE are left by way of OFF and STANDBY
(R84); a running BLACKSTART is interrupted by OFF, SAFESTOP or fencing alone (R111, assumption log 43); MOORING admits
neither BLACKSTART nor SERVICE (R74). DEDUCED (assumption log 94): an envelope that routes energy to BRK does not replace
CHARGE while BRK is ruled out. DESIGN CHOICE (assumption log 95): a fleet command does not raise the power state; the path
waits at STANDBY. -/
def Mod.pathFor (m : Mod) (env : Nat) : Nat × Option Nat × Nat :=
  let act := m.n E.PATH_ACT 0
  if env = 8 then (8, none, 0)
  else if m.safestopHolds then (8, none, 0)
  else if act = 7 ∧ env ≠ 7 ∧ m.n E.BS_STATE 0 ≠ 7 then (if env = 0 ∨ m.fenced then 8 else m.fallback 7 7, none, 0)
  else if env ≤ 1 then (env, none, 0)
  else if act = 8 ∨ (act = 9 ∧ env ≠ 9) then (1, none, 0)
  else if m.n E.POWER_ACT 0 ≠ 0 then (1, none, 0)
  else if m.mooring ∧ (env = 9 ∨ (env = 7 ∧ act ≠ 7)) then (1, none, 0)
  else if env = 9 then (if act ≤ 1 ∨ act = 9 then 9 else act, none, 0)
  else if act ≤ 1 ∧ !m.entryReady env then (1, none, 0)
  else if m.brkHeld env then (m.fallback 3 3, none, 0)
  else if env = 7 then (if act ≤ 1 ∨ act = 7 then m.fallback 7 7 else act, none, 0)
  else if env = 10 then
    let (p, c, n) := m.autoSelect
    (m.fallback 10 p, c, n)
  else (m.fallback env env, none, 0)

/-! ## Coupling (R73, R106) -/

/-- R73: kinds of step that require CONVERT. -/
def convertOnly (kind : Nat) : Bool := kind == 1 || kind == 6 || kind == 7 || kind == 8 || kind == 10

/-- R249: no other module stands on the module's bus segment. -/
def Mod.aloneOnSegment (m : Mod) : Bool :=
  m.n E.SEG_ID 0 == 0 || (m.n E.SHARE_ROLE 0 == 1 && m.n E.SEG_N 0 == 1 && !m.segMooring)

/-- The BAT current limits a bridge must keep: the step's, or R221's where no step runs (R106, R108); a BAT port in LIMIT keeps
95 % of its rating, and a current beyond that is not under control (R281). -/
def Mod.bridgeLimits (m : Mod) : Rat × Rat :=
  let terms := m.chargeTerms (if m.stepRunning then m.n E.PROF_ACT 0 else m.n E.PROF_SEL 0)
  let chg := ((lowestTerm terms).map (·.2)).getD 200
  let chg := if m.n E.PROF_STATE 0 == 1 then minR chg (m.q E.CHG_ILIM_EFF 0) else chg
  let top := if m.n E.PROT_STATE 4 == 1 then (190 : Rat) else 200
  (minR top chg, minR top m.disLimit)

/-- R106: conditions 1 to 7. -/
def Mod.bridgeConditions (m : Mod) (path : Nat) : Bool :=
  let v := m.vBat
  let (chg, dis) := m.bridgeLimits
  let i := m.iPort 4
  m.b E.BRIDGE_EN 0 && (path == 3 || path == 4 || path == 5) &&
  !(path == 3 && m.stepRunning && convertOnly (m.n E.KIND m.stepIdx)) &&
  decide (m.q E.BRIDGE_VMIN 0 * (101 / 100) ≤ v) && decide (v ≤ m.q E.BRIDGE_VMAX 0 * (99 / 100)) &&
  decide (absR (v - m.vSys) ≤ m.q E.BRIDGE_MATCH 0 / 100 * m.vSys) &&
  (if i < 0 then decide (-i < dis * (95 / 100)) else decide (i < chg * (95 / 100))) &&
  m.aloneOnSegment && !m.recovering

/-- R73: the coupling for a path; BRIDGE is kept or left by R108. DESIGN CHOICE (assumption log 95): SERVICE couples only where
COUPLING_REQ asks for CONVERT. -/
def Mod.couple (m : Mod) (path env : Nat) : Nat :=
  let req := m.n E.COUPLING_REQ 0
  match path with
  | 2 => if env = 2 then 0 else if m.batAvail then 1 else 0
  | 3 | 4 | 5 => if m.n E.COUPLING_ACT 0 = 2 ∧ (req = 2 ∨ req = 3) then 2 else 1
  | 6 | 7 => 1
  | 9 => if req = 1 then 1 else 0
  | _ => 0

/-- R73: the couplings the host may ask for in the path and step in force. -/
def Mod.coupleLegal (m : Mod) (req : Nat) : Bool :=
  let path := m.n E.PATH_ACT 0
  let one := fun (need : Nat) => req == need
  req == 3 ||
  (match path with
   | 2 => one (if m.n E.ENV_EFF 0 == 2 then 0 else if m.batAvail then 1 else 0)
   | 3 => req == 1 || (req == 2 && !(m.stepRunning && convertOnly (m.n E.KIND m.stepIdx)))
   | 4 | 5 => req == 1 || req == 2
   | 6 | 7 => one 1
   | 9 => req == 0 || req == 1
   | _ => one 0)

/-! ## Power limits (R24, R97 to R99) -/

def Mod.batPower (m : Mod) : Rat := dec 988 3 * m.vBat * minR 200 m.disLimit

/-- What the input limits let Stage A put out, W. -/
def Mod.inputPower (m : Mod) : Rat :=
  let per := (List.range 4).map (fun k => if m.n E.QUAL_STATE k == 5 then m.q E.IN_ICEIL k * m.vPort k else 0)
  minR (m.stgOf 0).pLim (dec 988 3 * per.sum)

/-- R98, R99, R181: the SYS power limit of a path. -/
def Mod.sysLimit (m : Mod) (path : Nat) : Rat :=
  let v := 250 * maxR 0 m.vSys
  let a := (m.stgOf 0).pLim
  let b := (m.stgOf 1).pLim
  match path with
  | 2 | 3 | 5 => minR a v
  | 4 => minR (minR 90000 (a + b)) (minR v (m.inputPower + m.batPower))
  | 6 => minR (minR b v) m.batPower
  | 7 => minR (minR b v) (minR m.batPower (m.cq E.BS_PMAX 0))
  | _ => 0

/-! ## Qualification and precharge (R120 to R123) -/

/-- R119: the port may qualify: enabled, in NORMAL or LIMIT, its pilot closed. -/
def Mod.portUsable (m : Mod) (k : Nat) : Bool := m.b E.PORT_EN k && m.protOk k && !(m.protOf k).pilotOpen

/-- R68: qualification runs in every path but OFF and SAFESTOP. -/
def qualRuns (path : Nat) : Bool := path != 0 && path != 8

/-- R84: qualification starts: an IDLE port that may qualify waits for its window. -/
def Mod.qualBegin (m : Mod) (k : Nat) : Mod :=
  m.when (m.n E.QUAL_STATE k == 0 && m.portUsable k) (·.qualTo k 1)

/-- R120: in its window, a port waiting for it starts its insertion delay. -/
def Mod.qualDelay (m : Mod) (k : Nat) : Mod :=
  (m.qualTo k 2).arm (.insertion k) (m.tb + ms (m.n E.QUAL_DLY_EFF k))

/-- R120: the edge a BAT in recovery uses instead (R103). -/
def Mod.qualLow (m : Mod) (k : Nat) : Rat :=
  if k = 4 ∧ m.cb E.DEAD_EN 0 ∧ !m.prof.recBarred ∧ m.cq E.DEAD_VMIN 0 < m.winLo 4 then m.cq E.DEAD_VMIN 0 else m.winLo k

/-- R119: a port switch closes and the port is in service (R122, R123). -/
def Mod.connect (m : Mod) (k : Nat) : Mod :=
  let m := (m.closeSwitch k).qualTo k 5
  let m := m.setN E.QUAL_PREFAIL k 0
  let m := m.when (m.n E.QUAL_DLY_EFF k != m.n E.QUAL_DLY k) (·.arm (.flap k) (m.tb + sec (m.cn E.FLAP_W 0)))
  m.when (k < 4) (fun m => m.modInp k (fun x => { x with starting := m.cb E.ADAPT_EN 0, ests := [], discards := 0 })
    |>.setN E.ADAPT_STATE k 0 |>.arm (.adapt k) (m.tb + ms 50))

/-- R122: another input is CONNECTED. -/
def Mod.otherConnected (m : Mod) (k : Nat) : Bool :=
  (List.range 4).any (fun j => j != k && m.n E.QUAL_STATE j == 5)

/-- R116, R189: a phase may be put to another use: its gates are off, nothing arms it, and no intent holds it ARMED. -/
def Mod.retappable (m : Mod) (p : Nat) : Bool :=
  !m.excluded p && m.n E.PH_STATE p ≤ 2 && !m.armed (.arming p) && !(m.n E.PH_STATE p == 2 && m.intentHolds (stageOf p))

/-- R122: the phase that runs a warm join: one tapped to the port's rail, or a free one that is tapped to it, with its gates
off so far. In a stage that runs, it joins its group; in a stage that is held off it runs for the join alone. -/
def Mod.joinPhase (m : Mod) (k : Nat) : Option Nat :=
  let free := (stagePhases (groupStage k)).filter m.retappable
  (free.find? (fun p => m.n E.PH_TAP p == k)).orElse (fun _ =>
    (free.find? (fun p => m.n E.PH_TAP p == 0xFF)).orElse (fun _ => free.head?))

/-- R122: a phase runs from the link for a warm join alone, while its stage does not run. -/
def Mod.runAlone (m : Mod) (p : Nat) : Mod :=
  let m := (((m.setN E.PH_STATE p 4).joinGap (stageOf p) p).inc E.PH_ADDS p).disarm (.armHold p)
  (m.modPh p (fun x => { x with step := 0, fresh := true, aboveAdd := 0, peakRun := 0, activeSince := m.tb })).countPhases

/-- R122: a warm join begins: its phase joins its group in a stage that runs, and runs alone in one that only its path, or its
start, holds off. -/
def Mod.warmJoin (m : Mod) (k : Nat) : Mod :=
  match m.joinPhase k with
  | none => m
  | some p =>
    let g := groupStage k
    let m := (m.modQual k (fun x => { x with joinPh := some p })).tap p k
    if m.running g then m.startPhase p
    else if (m.stgOf g).gate = 0 ∨ (m.stgOf g).gate = 0x20 then m.runAlone p else m

/-- R123: a precharge fails: WINDOW, or PRE_FAILED after the third in succession. -/
def Mod.prechargeFail (m : Mod) (k : Nat) : Mod :=
  let n := m.n E.QUAL_PREFAIL k + 1
  let m := (m.openSwitch k).qualTo k (if 3 ≤ n then 7 else 1)
  (m.setN E.QUAL_PREFAIL k (min n 3)).setCause k 5

/-- R122: Stage B is to raise the link from BAT: in BLACKSTART, and in a start from OFF or STANDBY to ISLAND. -/
def Mod.branchStart (m : Mod) : Bool :=
  m.n E.PATH_ACT 0 == 7 || (m.n E.PATH_ACT 0 == 6 && m.modes.cameFrom ≤ 1)

/-- R121, R122: a QUALIFIED port's internal side is brought to its terminal: by warm join, by cold join, or for BAT on a dead link
through the branch of R109. A port that can use none of them yet waits in PRECHARGE, which ends by R123; a BAT on a dead link
in another transition fails at once, and fails the transition. -/
def Mod.prechargeStart (m : Mod) (k : Nat) : Mod :=
  let dead := decide (m.sens.vLink < 100)
  if k = 4 ∧ dead ∧ !m.branchStart ∧ !m.bitOf E.PATH_REASON 0 5 then
    { (m.qualTo 4 4).prechargeFail 4 with modes := { m.modes with transFail := true } }.setN E.TRANS_STATE 0 3
  else
    let cold := dead && k < 4 && !m.otherConnected k
    let m := (m.qualTo k 4).modQual k (fun x => { x with cold := cold, branch := dead && k == 4 && m.branchStart })
    (m.when (!dead) (·.warmJoin k)).arm (.precharge k) (m.tb + ms 250)

/-- R121: which ports the path wants joined, and which it keeps. -/
def wantsInput (path : Nat) (hold : Bool) : Bool :=
  hold || path == 2 || path == 3 || path == 4 || path == 5

def Mod.keepsInput (m : Mod) (path : Nat) (hold : Bool) : Bool := wantsInput path hold || (path == 6 && m.n E.ENV_EFF 0 != 6)

def wantsBat (path coupling : Nat) (hold : Bool) : Bool := hold || (coupling != 0 && path != 7)

/-! ## The ladder (R133 to R136) -/

/-- A group of the ladder (R133). -/
inductive Rung where
  | fill (k : Nat)
  | share (ms : List (Nat × Rat))
  deriving DecidableEq, Repr

/-- Inputs sorted by a key, ties by IN_PRIO and then by port (R136). -/
def insertBy (lt : Nat → Nat → Bool) (k : Nat) : List Nat → List Nat
  | [] => [k]
  | x :: xs => if lt k x then k :: x :: xs else x :: insertBy lt k xs

def Mod.sortInputs (m : Mod) (lt : Nat → Nat → Bool) (eq : Nat → Nat → Bool) (ks : List Nat) : List Nat :=
  let pr := fun k => (m.inpOf k).prio
  let prio := fun a b => pr a < pr b || (pr a == pr b && decide (a < b))
  ks.foldl (fun acc k => insertBy (fun a b => lt a b || (eq a b && prio a b)) k acc) []

/-- R135: MANUAL applies while its slack input is available. -/
def Mod.policyEff (m : Mod) : Nat :=
  if m.n E.SRC_POLICY 0 == 4 && !m.inputAvail (m.n E.MAN_SLACK 0) then 0 else m.n E.SRC_POLICY 0


/-- R134: the ladder of a policy over the CONNECTED inputs. DESIGN CHOICE (assumption log 104): under BLEND whether every weight
is 0 is judged over the CONNECTED inputs, of which the ladder is built (R133). -/
def Mod.ladder (m : Mod) (policy : Nat) (v : Nat → Rat) : List Rung :=
  let cs := (List.range 4).filter (fun k => m.n E.QUAL_STATE k == 5)
  match policy with
  | 1 =>
    let w := fun k => (m.inpOf k).weight
    let pos := cs.filter (fun k => decide (0 < w k))
    if pos.isEmpty then (if cs.isEmpty then [] else [.share (cs.map (fun k => (k, 1)))])
    else .share (pos.map (fun k => (k, w k))) :: (cs.filter (fun k => !decide (0 < w k))).map .fill
  | 2 =>
    let vmax := ((List.range 4).filter m.inputAvail).foldl (fun a k => maxR a (v k)) 0
    let edge := vmax * (1 - m.q E.DOR_BAND 0 / 100)
    let band := cs.filter (fun k => decide (edge ≤ v k))
    let rest := m.sortInputs (fun a b => decide (v b < v a)) (fun a b => decide (v a = v b))
      (cs.filter (fun k => !decide (edge ≤ v k)))
    (if band.isEmpty then [] else [.share (band.map (fun k => (k, v k - edge)))]) ++ rest.map .fill
  | 3 =>
    let c := fun k => (m.inpOf k).cost
    (m.sortInputs (fun a b => decide (c a < c b)) (fun a b => decide (c a = c b)) cs).map .fill
  | 4 =>
    let sl := m.reg.slack
    ((cs.filter (· != sl)) ++ cs.filter (· == sl)).map .fill
  | _ => (m.sortInputs (fun _ _ => false) (fun _ _ => true) cs).map .fill

/-- The inputs of each rung. -/
def Rung.ports : Rung → List Nat
  | .fill k => [k]
  | .share ms => ms.map (·.1)

/-! ## Closing SYS and running the stages (R84, R87, R89, R177) -/

/-- R89: the bus counts as dead. -/
def Mod.busDead (m : Mod) : Bool := decide (m.vPort 5 < m.cq E.SYS_VSET 0 / 10)

/-- R89: SYS may close: within 10 V on a dead bus, within 2 % of a live terminal. -/
def Mod.sysMatched (m : Mod) : Bool :=
  let d := absR (m.sens.vLink - m.vPort 5)
  if m.busDead then decide (d ≤ 10) else decide (d ≤ absR (m.vPort 5) / 50)

/-- R87: the stage that regulates SYS in the active path; Stage B until a hand-over to Stage A is done (R84). -/
def Mod.regStage (m : Mod) : Option Nat :=
  match m.n E.PATH_ACT 0 with
  | 2 | 3 | 4 | 5 => some (if m.reg.hand then 1 else 0)
  | 6 | 7 => some 1
  | _ => none

/-- R88, R107: where V_set moves. -/
def Mod.vsetEnd (m : Mod) : Rat := m.reg.bridgeTo.getD m.reg.goal

/-- R107: V_set has come to its end, where a stage moves it. -/
def Mod.vsetDone (m : Mod) : Bool :=
  match m.regStage with
  | none => true
  | some g => !m.running g || decide (m.reg.vset = m.vsetEnd)

/-- R87: the path runs Stage A, or Stage B. -/
def pathWantsA (path : Nat) : Bool := path == 2 || path == 3 || path == 4 || path == 5
def pathWantsB (path coupling bs : Nat) : Bool :=
  (coupling != 0 && (path == 2 || path == 3 || path == 4 || path == 5 || path == 6)) || (path == 7 && 5 ≤ bs)

/-- R89: the SYS switch closes and V_ref starts from the terminal voltage. -/
def Mod.closeSys (m : Mod) : Mod :=
  { (m.closeSwitch 5) with reg := { m.reg with vset := m.vPort 5 } }

/-- R177: time 0 of a stage's soft start: the stage that regulates takes V_ref from the terminal; STG_NMIN phases of its first group become ARMED: of BAT's, or in Stage A of the
first input of the ladder, tapped to it where they are not (R116, R165). -/
def Mod.stageStart (m : Mod) (g : Nat) (dead skip : Bool) : Mod :=
  let m := m.softStart g dead skip
  let m : Mod := if dead || m.regStage == some g then { m with reg := { m.reg with vset := maxR 0 (m.vPort 5) } } else m
  let free := (stagePhases g).filter (fun p => !m.excluded p && m.n E.PH_STATE p ≤ 2)
  let k : Option Nat := if g = 0 then ((m.ladder m.policyEff m.vPort).flatMap Rung.ports).head? else some 4
  match k with
  | none => m
  | some k =>
    let own := free.filter (fun p => m.n E.PH_TAP p == k)
    let rest := if g = 0 then free.filter (fun p => m.n E.PH_TAP p != k) else []
    (((own ++ rest).take (m.n E.STG_NMIN g)).foldl
      (fun m p => ((m.setN E.PH_TAP p k).setN E.PH_STATE p 2).disarm (.armHold p)) m).countPhases

/-- R79: a soft stop under way is left where the path runs the stage again: its limit rises from where it is. That of a
profile's end runs on (R216). -/
def Mod.stopCancel (m : Mod) (g : Nat) : Mod :=
  if !m.gated g && !(m.stgOf g).endStop && ((m.stgOf g).stopping || m.armed (.sspDelay (g == 0))) then
    let m := (m.disarm (.sspDelay (g == 0))).modStg g (fun x => { x with stopping := false, refs := [] })
    m.when (decide ((m.stgOf g).lim < 1)) (·.setN E.SST_STATE g 2)
  else m

/-- R84, R87, R177, R178: the stages are brought to what the path needs: a stage it runs is started once its ports are
joined and SYS is closed, one it does not run is stopped softly; into ISLAND without an input Stage A is gated off. -/
def Mod.runStages (m : Mod) (path coupling : Nat) (hold : Bool) : Mod :=
  let wantA := pathWantsA path
  let wantB := pathWantsB path coupling (m.n E.BS_STATE 0) || (m.reg.hand && wantA)
  let readyA := (List.range 4).any (fun k => m.n E.QUAL_STATE k == 5)
  let readyB := m.n E.QUAL_STATE 4 == 5
  let sysUp := (wantA && readyA) || (wantB && readyB && (path == 6 || path == 7)) || hold
  let retry := fun (g : Nat) => m.n E.SST_STATE g == 4 || m.n E.SST_STATE g == 5
  let m := m.when (sysUp && !retry 0 && !retry 1 && !m.closed 5 && m.portUsable 5 && m.sysMatched) Mod.closeSys
  let only5 := fun (g : Nat) => (m.stgOf g).gate == 0x20
  let m := m.when (wantA && readyA && m.closed 5 && only5 0 && m.n E.SST_STATE 0 == 0)
    (fun m => m.stageStart 0 m.busDead (m.stgOf 0).mooringStart)
  let m := m.when (wantB && readyB && (m.closed 5 || path == 6 || path == 7) && only5 1 && m.n E.SST_STATE 1 == 0)
    (fun m => m.stageStart 1 (m.busDead && (path == 6 || path == 7)) ((m.stgOf 1).mooringStart || path == 7))
  let m := m.when wantA (·.stopCancel 0)
  let m := m.when wantB (·.stopCancel 1)
  let idle := fun (g : Nat) => m.n E.SST_STATE g == 4 || m.n E.SST_STATE g == 5 || m.n E.SST_STATE g == 1
  let m := m.when (!wantA && path != 8 && !m.gated 0)
    (fun m => if idle 0 || (path == 6 && !readyA) then m.stageOff 0 else m.softStop 0)
  let m := m.when (!wantB && path != 8 && path != 7 && !m.gated 1) (fun m => if idle 1 then m.stageOff 1 else m.softStop 1)
  let m := m.when (!wantA && (m.n E.SST_STATE 0 == 4 || m.n E.SST_STATE 0 == 5)) (·.stageOff 0)
  m.when (!wantB && (m.n E.SST_STATE 1 == 4 || m.n E.SST_STATE 1 == 5)) (·.stageOff 1)

/-- R68: the switches that a path keeps open are opened once its stages are off. DESIGN CHOICE (assumption log 95): in OFF the
switches of BRK and AUX24 stay closed all the same: the hardware clamp acts in every envelope (R69), and AUX24 runs on (R112). -/
def Mod.openUnused (m : Mod) (path coupling : Nat) (hold : Bool) : Mod :=
  let offA := m.gated 0
  let offB := m.gated 1
  let m := m.each 4 (fun k m =>
    m.when (!m.keepsInput path hold && path != 8 && offA && (m.n E.QUAL_STATE k == 5 || m.n E.QUAL_STATE k == 6
      || m.n E.QUAL_STATE k == 4)) (fun m => (m.openSwitch k).qualTo k (if qualRuns path then 3 else 0)))
  let m := m.when (!wantsBat path coupling hold && path != 8 && path != 7 && path != 9 && offB &&
      (m.n E.QUAL_STATE 4 == 5 || m.n E.QUAL_STATE 4 == 6 || m.n E.QUAL_STATE 4 == 4))
    (fun m => (m.openSwitch 4).qualTo 4 (if qualRuns path then 3 else 0))
  m.when (path ≤ 1 && !hold && offA && offB && m.closed 5) (·.openSwitch 5)

/-- R112: the SAFESTOP sequence begins with its ramps; under a SAFE force it has begun without them (R113). -/
def Mod.safestopBegin (m : Mod) : Mod :=
  if m.n E.SS_STATE 0 != 0 then m
  else
    let m := (m.setN E.SS_STATE 0 1).arm .ssRamp (m.tb + ticksMs (m.cq E.SS_RAMP 0))
    let m := (m.rampDown 0 (m.cq E.SS_RAMP 0)).rampDown 1 (m.cq E.SS_RAMP 0)
    let m := ((m.disarm .bsCont).disarm .bsPre).disarm .bsSettle
    ({ m.disarm .bsTimeout with intents := [] } : Mod).intentShow

/-- R110: BLACKSTART begins: CONT closes unless the BAT terminal already lies within its window. -/
def Mod.blackstartBegin (m : Mod) : Mod :=
  let m := m.arm .bsTimeout (m.tb + ticksS (m.q E.BS_TIMEOUT 0))
  if decide (m.winLo 4 ≤ m.vPort 4) && decide (m.vPort 4 ≤ m.winHi 4) then (m.setN E.BS_STATE 0 2).qualBegin 4
  else ((m.setN E.BS_STATE 0 1).contClose).arm .bsCont (m.tb + ms (m.n E.BS_CONT_T 0))

/-- R111: a step of BLACKSTART fails: SAFESTOP, TRANS_FAIL and TRANS_STATE 3; BS_STATE keeps the step. -/
def Mod.blackstartFail (m : Mod) : Mod :=
  let was := m.n E.PATH_ACT 0
  let m := ({ m with modes := { m.modes with transFail := true, stopFreed := false } }.setN E.TRANS_STATE 0 3).setN
    E.PATH_ACT 0 8
  let m := (m.setBit E.PATH_REASON 0 11 true).setN E.COUPLING_ACT 0 0
  let m := m.event 0x0030 ([was, 8] ++ leBytes 2 (m.n E.PATH_REASON 0) ++ [m.n E.ENV_SRC 0])
  (m.alertSet 2).safestopBegin

/-- R84: a change of path or coupling starts its transition. -/
def Mod.startTransition (m : Mod) (old path : Nat) : Mod :=
  let m := m.when (path != old) (fun m =>
    (m.event 0x0030 ([old, path] ++ leBytes 2 (m.n E.PATH_REASON 0) ++ [m.n E.ENV_SRC 0])).alertSet 2)
  let ts := m.n E.TRANS_STATE 0
  let m := m.setN E.TRANS_STATE 0 (if ts == 1 || ts == 2 then 2 else 1)
  let m : Mod := { m with modes := { m.modes with
    transFail := false
    cameFrom := if path = old then m.modes.cameFrom else old
    stopFreed := if path = 8 ∧ old ≠ 8 then old == 7 && m.n E.ENV_REQ 0 == 0 && !m.forced else m.modes.stopFreed } }
  let m := m.when (!qualRuns path && qualRuns old) (·.each 5 (fun k m =>
    m.when (1 ≤ m.n E.QUAL_STATE k && m.n E.QUAL_STATE k ≤ 4) (·.qualTo k 0)))
  let m := m.when (old == 8 && path != 8) (·.setN E.SS_STATE 0 0)
  let m := m.when (qualRuns path && !qualRuns old) (·.each 5 (fun k m => m.qualBegin k))
  let m := m.when (path == 8 && old != 8) Mod.safestopBegin
  let m := m.when (path == 7 && old != 7) Mod.blackstartBegin
  let m := m.when (old == 7 && path != 7) (fun m =>
    ((((m.disarm .bsCont).disarm .bsPre).disarm .bsSettle).disarm .bsTimeout))
  m.when (path != old && path != 8 && !moored path) Mod.withdrawAll

/-- R84: the transition has come to rest. -/
def Mod.settled (m : Mod) (path coupling : Nat) : Bool :=
  let okA := if pathWantsA path then m.n E.SST_STATE 0 == 3 else m.gated 0
  let okB := if pathWantsB path coupling (m.n E.BS_STATE 0) || m.reg.hand then m.n E.SST_STATE 1 == 3 else m.gated 1
  okA && okB && (path != 8 || m.n E.SS_STATE 0 == 4) && (m.n E.BRIDGE_STATE 0 == 0 || m.n E.BRIDGE_STATE 0 == 2) &&
    path != 7

/-! ## The split and the ceilings (R130 to R136) -/

/-- R133: weighted water-fill; the first argument bounds the rounds. Members are (port, weight, ceiling). -/
def waterFill : Nat → Rat → List (Nat × Rat × Rat) → List (Nat × Rat)
  | 0, _, ms => ms.map (fun x => (x.1, 0))
  | n + 1, need, ms =>
    let w := (ms.map (fun x => x.2.1)).sum
    let ms := if w ≤ 0 then ms.map (fun x => (x.1, (1 : Rat), x.2.2)) else ms
    let w := if w ≤ 0 then (ms.length : Rat) else w
    let full := ms.filter (fun x => decide (0 < x.2.1) && decide (x.2.2 ≤ need * x.2.1 / w))
    if full.isEmpty || ms.isEmpty then ms.map (fun x => (x.1, need * x.2.1 / w))
    else
      let rest := ms.filter (fun x => !(decide (0 < x.2.1) && decide (x.2.2 ≤ need * x.2.1 / w)))
      full.map (fun x => (x.1, x.2.2)) ++ waterFill n (need - (full.map (fun x => x.2.2)).sum) rest

/-- R133: a demand split down the ladder: the current each input takes, and what is left of the demand. The demand counts `u k`
for each ampere of input `k`: 1 for a demand in amperes, the input's voltage for one in watts. -/
def splitLadder (u ceil : Nat → Rat) : Rat → List Rung → List (Nat × Rat) × Rat
  | need, [] => ([], need)
  | need, .fill k :: gs =>
    let t := minR need (ceil k * u k)
    let (ts, un) := splitLadder u ceil (need - t) gs
    ((k, t / u k) :: ts, un)
  | need, .share ms :: gs =>
    let ts0 := waterFill 5 (minR need ((ms.map (fun x => ceil x.1 * u x.1)).sum))
      (ms.map (fun x => (x.1, x.2 * u x.1, ceil x.1 * u x.1)))
    let (ts, un) := splitLadder u ceil (need - (ts0.map (·.2)).sum) gs
    (ts0.map (fun x => (x.1, x.2 / u x.1)) ++ ts, un)

/-- R135: MANUAL's split: fixed references scaled down in proportion where the demand is smaller, the slack the rest; `back` is
the current that may flow back into the slack (R144). The demand counts `u k` for each ampere of input `k`. -/
def Mod.splitManual (m : Mod) (u ceil v : Nat → Rat) (back need : Rat) : List (Nat × Rat) × Rat :=
  let sl := m.reg.slack
  let cs := (List.range 4).filter (fun k => m.n E.QUAL_STATE k == 5)
  let ref := fun k => if v k ≤ 0 then 0 else minR ((m.inpOf k).manP / v k) (ceil k) * u k
  let fixed := (cs.filter (· != sl)).map (fun k => (k, ref k))
  let total := (fixed.map (·.2)).sum
  let back := if cs.contains sl then back * u sl else 0
  let scale := if need + back < total ∧ 0 < total then (need + back) / total else 1
  let fixed := fixed.map (fun x => (x.1, x.2 * scale))
  let left := need - (fixed.map (·.2)).sum
  let s := if cs.contains sl then minR left (ceil sl * u sl) else 0
  ((fixed ++ (if cs.contains sl then [(sl, s)] else [])).map (fun x => (x.1, x.2 / u x.1)), if left < s then 0 else left - s)

/-- R133: the demand split by the policy in force. -/
def Mod.split (m : Mod) (u ceil v : Nat → Rat) (back need : Rat) : List (Nat × Rat) × Rat :=
  let p := m.n E.POLICY_EFF 0
  if p = 4 then m.splitManual u ceil v back need else splitLadder u ceil need (m.ladder p v)

def takeOf (ts : List (Nat × Rat)) (k : Nat) : Rat := (ts.filter (·.1 == k)).foldl (fun a x => a + x.2) 0

/-- R137: the policy and what its ladder is built from come into force at the mode tick. An input that the new ladder would give
more rises from what it takes, at IN_RAMP; its ceiling in force stays (R131). DESIGN CHOICE (assumption log 96). -/
def Mod.latchPolicy (m : Mod) : Mod :=
  let key := fun (m : Mod) => (m.n E.POLICY_EFF 0, m.reg.slack,
    (List.range 4).map (fun k => ((m.inpOf k).prio, (m.inpOf k).weight, (m.inpOf k).cost, (m.inpOf k).manP)))
  let was := key m
  let m := m.each 4 (fun k m => m.modInp k (fun x =>
    { x with prio := m.n E.IN_PRIO k, weight := m.q E.IN_WEIGHT k, cost := m.q E.IN_COST k, manP := m.q E.IN_MAN_P k }))
  let m := { m with reg := { m.reg with slack := m.n E.MAN_SLACK 0 } }.setN E.POLICY_EFF 0 m.policyEff
  if key m = was then m
  else
    let r := m.split (fun _ => 1) (fun k => (m.inpOf k).ceil) m.vPort 0 (maxR 0 m.reg.demandA)
    m.each 4 (fun k m => m.modInp k (fun x =>
      if x.take < takeOf r.1 k then { x with polTop := some (maxR 0 x.take) } else x))

/-- R137, R131: what a change of the ladder lets an input rise to climbs by one tick's ramp, and ends at its ceiling. -/
def Mod.climb (m : Mod) : Mod :=
  m.each 4 (fun k m => m.modInp k (fun x =>
    { x with polTop := match x.polTop with
        | some p => if x.ceil ≤ p then none else some (grid (p + m.q E.IN_RAMP k / 10))
        | none => none }))

/-- R130: the ceiling terms of codes 1, 2, 3, 6 and 8 for input `k`. -/
def Mod.ownTerms (m : Mod) (k : Nat) : List Term :=
  let v := m.vPort k
  let lim1 := if m.n E.PROT_STATE k == 1 then minR (m.q E.IN_ILIM k) (160 * (95 / 100)) else m.q E.IN_ILIM k
  let x := m.inpOf k
  [(1, lim1)] ++
  (if m.q E.IN_PLIM k ≤ 0 ∨ v ≤ 0 then [] else [(2, m.q E.IN_PLIM k / v)]) ++
  (if !m.cb E.ADAPT_EN 0 then []
   else if x.starting then [(3, m.cq E.ADAPT_START 0)]
   else if m.n E.ADAPT_STATE k == 0 || x.ests.isEmpty then [] else [(3, m.q E.ADAPT_ILIM k)]) ++
  (if m.n E.POLICY_EFF 0 == 4 && k != m.reg.slack && decide (0 < v) then [(6, x.manP / v)] else []) ++
  (if m.n E.QUAL_STATE k == 5 then [] else [(8, 0)])

/-- R130: code 5: what the phases left to a cut input carry. -/
def Mod.cutTerm (m : Mod) (k : Nat) : List Term :=
  if (m.grpOf k).cut then
    [(5, m.iPh 0 * (m.grpOf k).count / (maxR 1 (if m.vSys ≤ 0 then 1 else m.vPort k / m.vSys)))] else []

/-- R130, R133: the most that member `j` of a share group can take, as the water-fill for input `k` counts it: a fellow's by all of its
own limits, the cut of its phases among them. -/
def Mod.memberTop (m : Mod) (k j : Nat) : Rat :=
  maxR 0 (((lowestTerm (m.ownTerms j ++ (if j = k then [] else m.cutTerm j))).map (·.2)).getD 0)

/-- R130: code 4: the share of IN_ITOT left to input `k` by the groups ahead of it; an input outside the ladder has none. -/
def Mod.itotShare (m : Mod) (rungs : List Rung) (k : Nat) : List Term :=
  let rec go (left : Rat) : List Rung → List Term
    | [] => []
    | g :: gs =>
      if g.ports.contains k then
        match g with
        | .fill _ => [(4, maxR 0 left)]
        | .share ms =>
          [(4, takeOf (waterFill 5 (maxR 0 left) (ms.map (fun x => (x.1, x.2, m.memberTop k x.1)))) k)]
      else go (left - (g.ports.map (fun j => maxR 0 (m.inpOf j).meanI)).sum) gs
  go (m.cq E.IN_ITOT 0) rungs

/-- R130: the ceiling terms of input `k` without the phase capacity. -/
def Mod.freeTerms (m : Mod) (rungs : List Rung) (k : Nat) : List Term := m.ownTerms k ++ m.itotShare rungs k

/-- R131: a ceiling of this tick from the one in force: lowered at once, raised along IN_RAMP from the higher of it and the
present current. -/
def Mod.rampCeil (m : Mod) (k : Nat) (now want : Rat) : Rat :=
  if want ≤ now then want else grid (minR want (maxR now (minR (maxR 0 (m.iPort k)) want) + m.q E.IN_RAMP k / 10))

/-- R117: what the ceiling of an input would be without a cut. -/
def Mod.freeCeil (m : Mod) (rungs : List Rung) (k : Nat) : Mod :=
  let want := ((lowestTerm (m.freeTerms rungs k)).map (·.2)).getD 0
  m.modInp k (fun x => { x with free := m.rampCeil k x.free want })

/-- R130, R131: the ceiling of an input at a mode tick. -/
def Mod.updateCeil (m : Mod) (rungs : List Rung) (k : Nat) : Mod :=
  let (code, want) := (lowestTerm (m.freeTerms rungs k ++ m.cutTerm k)).getD (1, 0)
  let c := m.rampCeil k (m.inpOf k).ceil want
  ((m.modInp k (fun x => { x with ceil := c })).setQ E.IN_ICEIL k c).setN E.IN_CEIL_SRC k (if c < want then 7 else code)

/-- R117: the phase count of each input of the ladder, cut from its last group until at most eight remain; the first input of
the ladder counts as drawing (assumption log 27), one that draws nothing has the count 0. The counts follow the ceilings
without a cut. DESIGN CHOICE (assumption log 96): within a share group the members are cut in the ladder's order of ports. -/
def Mod.phaseCounts (m : Mod) (rungs : List Rung) : List (Nat × Nat × Bool) :=
  let all := rungs.flatMap Rung.ports
  let draws := fun k => decide (0 < m.iPort k) || decide (0 < (m.inpOf k).take) || all.head? == some k
  let need := fun k =>
    let r := if m.vSys ≤ 0 then 1 else maxR 1 (m.vPort k / m.vSys)
    let i := m.iPh 0
    if i ≤ 0 || !draws k then 0 else ((m.inpOf k).free * r / i).ceil.toNat
  (all.foldl (fun (acc : List (Nat × Nat × Bool) × Nat) k =>
    let n := need k
    let g := min n acc.2
    (acc.1 ++ [(k, g, decide (g < n))], acc.2 - g)) (([] : List (Nat × Nat × Bool)), 8)).1

/-- The phases of a group that count for R117: an excluded one carries nothing. -/
def Mod.holds (m : Mod) (k : Nat) : Nat := ((m.groupPhases k).filter (fun p => !m.excluded p)).length

/-- R116, R117: one tap is moved for a group short of its count: a shed phase first, else the last group with more than
its count sheds one for it (R167). -/
def Mod.moveTap (counts : List (Nat × Nat × Bool)) (m : Mod) (c : Nat × Nat × Bool) : Mod :=
  let k := c.1
  if c.2.1 ≤ m.holds k then m
  else
    let free := (stagePhases 0).filter (fun p => m.retappable p && m.n E.PH_TAP p != k &&
      (m.n E.PH_TAP p == 0xFF || counts.all (fun d => d.1 != m.n E.PH_TAP p) ||
        counts.any (fun d => d.1 == m.n E.PH_TAP p && d.2.1 < m.holds d.1)))
    match free with
    | p :: _ => ((m.tap p k).setN E.PH_STATE p (if m.gated 0 then m.n E.PH_STATE p else 1)).disarm (.armHold p)
    | [] =>
      let donors := counts.filter (fun d => d.1 != k && decide (d.2.1 < m.holds d.1))
      match donors.getLast? with
      | some d => if m.anyShedding 0 then m else
        match m.longestActive d.1 with
        | some p => m.shedStart p (some k)
        | none => m
      | none => m

/-- R117: every group takes phases until it holds its count. -/
def Mod.moveTaps (m : Mod) (counts : List (Nat × Nat × Bool)) : Mod :=
  counts.foldl (fun m c => (List.range 8).foldl (fun m _ => m.moveTap counts c) m) m

/-- R117, R167: the counts and the cuts come into force; a group that lacks phases, as while it waits for one of another group, stays cut
to those it holds. -/
def Mod.setCounts (m : Mod) (counts : List (Nat × Nat × Bool)) : Mod :=
  m.each 4 (fun k m =>
    let c := (counts.find? (·.1 == k)).getD (k, 0, false)
    let waits := decide (m.holds k < c.2.1)
    m.modGrp k (fun x => { x with count := if waits then m.holds k else c.2.1, cut := c.2.2 || waits, retapRetry := false }))

/-- R118: a phase for input `b` to keep ARMED: one of its own, an ARMED one first, or else an untapped one or one beyond another
group's count that may be tapped anew (R116). -/
def Mod.holdPhase (m : Mod) (b : Nat) : Option Nat :=
  let own := (m.groupPhases b).filter (fun p => !m.excluded p && m.n E.PH_STATE p ≤ 2 && !m.armed (.arming p))
  let spare := (stagePhases 0).filter (fun p => m.retappable p && !(m.phOf p).held && m.n E.PH_TAP p != b &&
    (m.n E.PH_TAP p == 0xFF || (m.grpOf (m.n E.PH_TAP p)).count < m.holds (m.n E.PH_TAP p)))
  ((own.find? (fun p => m.n E.PH_STATE p == 2)).orElse (fun _ => own.head?)).orElse (fun _ =>
    (spare.find? (fun p => m.n E.PH_STATE p != 2)).orElse (fun _ => spare.head?))

/-- R118: the next input of the ladder keeps one phase tapped and ARMED while a drawing input stands above 80 % of its ceiling. -/
def Mod.holdNext (m : Mod) (rungs : List Rung) : Mod :=
  let m := (stagePhases 0).foldl (fun m p => m.modPh p (fun x => { x with held := false })) m
  let rec go : List Nat → Mod → Mod
    | a :: b :: rest, m =>
      let hot := decide (0 < m.iPort a) && decide ((m.inpOf a).ceil * (8 / 10) < m.iPort a)
      let m := match (if hot then m.holdPhase b else none) with
        | some p =>
          let m := if m.n E.PH_STATE p == 2 then m else m.arm (.armHold p) (m.tb + ms (m.n E.STG_ARM_HOLD 0))
          ((m.tap p b).setN E.PH_STATE p 2).modPh p (fun x => { x with held := true })
        | none => m
      go (b :: rest) m
    | _, m => m
  if m.gated 0 then m else go (rungs.flatMap Rung.ports) m

end Sys2Proof.Machine
end

