-- ==== Sys2Proof/Machine/ProfileOps.lean ====
section
/-! DEFINITION. Machine/ProfileOps.lean: profiles and their engine (R201 to R218, R229, R230), the clamps (R219 to
R221), the impedance scan (R233 to R237) and the step accounts (R238). -/

namespace Sys2Proof.Machine

open Sys2Proof

/-! ## Checking a profile (R202) -/

/-- The three exits of a step: the condition word and its value. -/
def exitFams : List (Fam × Fam) := [(E.EX1, E.EX1_VAL), (E.EX2, E.EX2_VAL), (E.EX3, E.EX3_VAL)]

/-- R208: TYPE, GO and QUAL of exit `x` (1 to 3) of the step at place `j`. -/
def Mod.exWord (m : Mod) (j x : Nat) : Nat := m.n ((exitFams[x - 1]?).getD (E.EX1, E.EX1_VAL)).1 j
def Mod.exType (m : Mod) (j x : Nat) : Nat := m.exWord j x % 256
def Mod.exGo (m : Mod) (j x : Nat) : Nat := m.exWord j x / 256 % 256
def Mod.exQual (m : Mod) (j x : Nat) : Nat := m.exWord j x / 65536
def Mod.exVal (m : Mod) (j x : Nat) : Rat := m.q ((exitFams[x - 1]?).getD (E.EX1, E.EX1_VAL)).2 j

/-- The kinds that use a field as R203 lists them: SP_A as a current, SP_A as a voltage, LIM_I, LIM_V. -/
def currentKind (k : Nat) : Bool := k == 1 || k == 2 || k == 5 || k == 6 || k == 10
def voltageKind (k : Nat) : Bool := k == 3 || k == 8 || k == 9
/-- The kinds whose current reference moves at PROF_IRAMP (R206): all that regulate no voltage. -/
def rampedKind (k : Nat) : Bool := !voltageKind k
def usesLimI (k : Nat) : Bool := k == 3 || k == 4 || k == 8 || k == 9
def usesLimV (k : Nat) : Bool := k == 1 || k == 2 || k == 4 || k == 5 || k == 6 || k == 10

/-- A value lies within a range whose ends are taken as binary32 numbers (assumption log 3). -/
def within (lo hi x : Rat) : Bool := decide (f32Round lo ≤ x) && decide (x ≤ f32Round hi)

/-- R202 cause 2: a target of step `s` names a defined step or an end; a GO that names nothing fails (log 22). -/
def Mod.targetOk (m : Mod) (n go : Nat) : Bool :=
  if go < 16 then m.n E.KIND (16 * n + go) != 0 else go == 0xFD || go == 0xFE || go == 0xFF

/-- R202 cause 5: the setpoints of R203. -/
def Mod.setpointsOk (m : Mod) (j kind : Nat) : Bool :=
  let a := m.q E.SP_A j
  let b := m.q E.SP_B j
  let t := m.q E.SP_T j
  match kind with
  | 1 => within (mkRat 1 2) 10 a
  | 2 | 10 => within 0 200 a
  | 3 | 8 | 9 => within 200 1000 a
  | 4 => within 0 90000 a
  | 5 => within 0 200 a && decide (0 ≤ b) && decide (b ≤ a) && within 1 86400 t
  | 6 => within 0 200 a && decide (0 ≤ b) && decide (b ≤ a) && within (dec 1 2) 600 t && within (dec 1 2) 600 (m.q E.SP_T2 j)
  | _ => true

/-- R209: an exit type is permitted in a kind of step. -/
def exitPermitted (ty kind : Nat) : Bool :=
  match ty with
  | 0 => true
  | 4 => kind != 7
  | 12 => kind == 10
  | 13 => kind == 6
  | _ => ty ≤ 11

/-- R202: the first check that a step fails; 0 where it passes. -/
def Mod.stepError (m : Mod) (n s : Nat) : Nat :=
  let j := 16 * n + s
  let kind := m.n E.KIND j
  let used := [1, 2, 3].filter (fun x => m.exType j x != 0)
  let imax := m.q E.PROF_IMAX n
  let vmax := m.q E.PROF_VCEIL n
  if kind = 0 then 0
  else if !(m.targetOk n (m.n E.NEXT j) && used.all (fun x => m.targetOk n (m.exGo j x))) then 2
  else if kind != 9 && used.isEmpty && !decide (0 < m.q E.T_MAX j) then 3
  else if (currentKind kind && decide (imax < m.q E.SP_A j)) ||
      ((kind == 5 || kind == 6) && decide (imax < m.q E.SP_B j)) ||
      (usesLimI kind && decide (imax < m.q E.LIM_I j)) || (voltageKind kind && decide (vmax < m.q E.SP_A j)) ||
      (usesLimV kind && decide (vmax < m.q E.LIM_V j)) then 4
  else if !m.setpointsOk j kind then 5
  else if !used.all (fun x => exitPermitted (m.exType j x) kind) then 7
  else 0

/-- R202: PROF_ERR of a profile: step in the low byte, cause in the high one; 0 where every check passes. -/
def Mod.profileError (m : Mod) (n : Nat) : Nat :=
  let pre := m.n E.PROF_PRE_STEP n
  if m.n E.KIND (16 * n + m.n E.PROF_FIRST n) = 0 then 0x1FF
  else if pre ≠ 0xFF ∧ m.n E.KIND (16 * n + pre) ≠ 1 then 0x6FF
  else if m.q E.PROF_VCEIL n = 0 then 0x8FF
  else
    match (List.range 16).find? (fun s => m.stepError n s != 0) with
    | some s => 256 * m.stepError n s + s
    | none => 0

/-- R202: the checks set PROF_VALID and PROF_ERR. -/
def Mod.profileCheck (m : Mod) (n : Nat) : Mod :=
  let e := m.profileError n
  (m.setN E.PROF_ERR n e).setB E.PROF_VALID n (e == 0)

/-! ## Temperature compensation, references and clamps (R203, R207, R219 to R221) -/

/-- R207: the mean of the good enabled thermistors, 25 °C without one. -/
def Mod.meanTemp (m : Mod) : Option Rat :=
  let good := (List.range 4).filter (fun j => m.b E.TEMP_EN j && m.n E.TEMP_STATE j == 1)
  if good.isEmpty then none else some ((good.map (m.q E.TEMP_VAL)).sum / (good.length : Nat))

def Mod.compensate (m : Mod) (n : Nat) (v : Rat) : Rat := v + m.q E.PROF_VTC n * (m.meanTemp.getD 25 - 25)

/-- R233: the scan's amplitude, A. -/
def Mod.scanAmp (m : Mod) : Rat := m.q E.SCAN_AMP 0 * 2

/-- R203: the current that the running step asks for. -/
def Mod.stepGoal (m : Mod) : Rat :=
  let j := m.stepIdx
  let a := m.q E.SP_A j
  let b := m.q E.SP_B j
  match m.n E.KIND j with
  | 1 | 2 | 10 => a
  | 5 =>
    let t := mkRat m.prof.ticks 10000
    let d := m.q E.SP_T j
    if d ≤ t ∨ d ≤ 0 then b else a - (a - b) * t / d
  | 6 => if m.prof.pulseLow then b else a
  | 4 => minR (m.q E.LIM_I j) (if m.vBat ≤ 0 then 200 else a / m.vBat)
  | 3 | 8 | 9 => m.q E.LIM_I j
  | _ => 0

/-- R219: the running step's own current term; for a scan SP_A + A. -/
def Mod.stepCurrent (m : Mod) : Rat := if m.n E.KIND m.stepIdx = 10 then m.stepGoal + m.scanAmp else m.stepGoal

/-- R203, R219: the running step's own voltage term. -/
def Mod.stepVoltage (m : Mod) : Option Rat :=
  let j := m.stepIdx
  let n := m.n E.PROF_ACT 0
  match m.n E.KIND j with
  | 3 | 8 | 9 => some (m.compensate n (m.q E.SP_A j))
  | 7 => none
  | 6 => if m.prof.pulseLow then none else some (m.compensate n (m.q E.LIM_V j))
  | _ => some (m.compensate n (m.q E.LIM_V j))

/-- A RUNNING step regulates. -/
def Mod.regulating (m : Mod) : Bool := m.n E.PROF_STATE 0 == 1 && !m.prof.waitBridge

/-- The profile whose bounds apply (R221). -/
def Mod.boundProfile (m : Mod) : Nat := if m.stepRunning then m.n E.PROF_ACT 0 else m.n E.PROF_SEL 0

/-- R205: the step before a step that waits for the end of BRIDGE keeps its references. -/
def Mod.keepsRefs (m : Mod) : Bool := m.n E.PROF_STATE 0 == 1 && m.prof.waitBridge

/-- The current terms of R219, code 7 included while R102 reduces: the reference in force, or a lower limit, less the
excess. -/
def Mod.currentTerms (m : Mod) : List Term :=
  let base := (if m.regulating then [(0, m.stepCurrent)] else if m.keepsRefs then [(0, m.prof.iRef)] else []) ++
    m.chargeTerms m.boundProfile
  let low := ((lowestTerm base).map (·.2)).getD 0
  let low := if m.regulating && rampedKind (m.n E.KIND m.stepIdx) then minR low m.prof.iRef else low
  base ++ (if 0 < m.reg.excess ∧ m.n E.PATH_ACT 0 = 3 then [(7, maxR 0 (low - m.reg.excess))] else [])

/-- R205: the voltage terms that a step which waits keeps of the one before. -/
def Mod.keptVolts (m : Mod) : List Term :=
  if !m.keepsRefs then []
  else (if 0 < m.prof.vRef then [(0, m.prof.vRef)] else []) ++ (match m.prof.keepV with
    | some v => [(0, v)]
    | none => [])

def Mod.voltageTerms (m : Mod) : List Term :=
  (match m.regulating, m.stepVoltage with
   | true, some v => [(0, v)]
   | _, _ => m.keptVolts) ++ m.voltTerms m.boundProfile

/-- R219: the charge clamp: codes 1 to 7 with the step's LIM_I and LIM_V where its kind uses them. -/
def Mod.chargeClamp (m : Mod) : Rat × Rat :=
  let j := m.stepIdx
  let kind := m.n E.KIND j
  let n := m.boundProfile
  let cur := (m.currentTerms.filter (·.1 != 0)) ++
    (if m.regulating && usesLimI kind then [(0, m.q E.LIM_I j)] else [])
  let vol := m.voltTerms n ++ (if m.regulating && usesLimV kind && !(kind == 6 && m.prof.pulseLow) then
    [(0, m.compensate n (m.q E.LIM_V j))] else []) ++ m.keptVolts
  (((lowestTerm cur).map (·.2)).getD 0, ((lowestTerm vol).map (·.2)).getD 0)

/-- R204: V_BAT counts as held at a ceiling within the 0.1 % its regulation keeps (assumption log 21). -/
def heldAt (v ceil : Rat) : Bool := decide (0 < ceil) && decide (ceil * (999 / 1000) ≤ v)

/-- R220: the charge clamp in force follows its terms: down at once, up along PROF_IRAMP and PROF_VRAMP. -/
def Mod.moveClamp (m : Mod) : Mod :=
  let n := m.boundProfile
  let (i, v) := m.chargeClamp
  let v0 := maxR m.prof.clampV (minR v m.vBat)
  { m with prof := { m.prof with
      clampI := if i ≤ m.prof.clampI then i else grid (minR i (m.prof.clampI + m.q E.PROF_IRAMP n / 10))
      clampV := if v ≤ v0 then v else grid (minR v (v0 + m.q E.PROF_VRAMP n / 10)) } }

/-- R219, R220: CHG_ILIM_EFF, CHG_VCEIL_EFF and CLAMP_SRC of this tick: lowered at once, raised along the ramps; a
PULSE's own level changes at once (R206). -/
def Mod.postRefs (m : Mod) : Mod :=
  let n := m.boundProfile
  let (ic, it) := (lowestTerm m.currentTerms).getD (1, 0)
  let (vc, vt) := (lowestTerm m.voltageTerms).getD (1, 0)
  let it := clampR 0 200 it
  let vt := clampR 0 1000 vt
  let i0 := m.q E.CHG_ILIM_EFF 0
  let v0 := maxR (m.q E.CHG_VCEIL_EFF 0) (minR vt m.vBat)
  let jump := m.regulating && m.n E.KIND m.stepIdx == 6 && ic == 0 && 0 < m.prof.pulseFrom
  let i1 := if it ≤ i0 ∨ jump then it else minR it (i0 + m.q E.PROF_IRAMP n / 10)
  let v1 := if vt ≤ v0 then vt else minR vt (v0 + m.q E.PROF_VRAMP n / 10)
  let m := ((m.setQ E.CHG_ILIM_EFF 0 i1).setQ E.CHG_VCEIL_EFF 0 v1).moveClamp
  m.setN E.CLAMP_SRC 0
    (if 0 < m.reg.excess ∧ m.n E.PATH_ACT 0 = 3 then 7 else if heldAt m.vBat v1 then vc else ic)

/-- `now` moved toward `goal` by at most `d`. -/
def toward (now goal d : Rat) : Rat := if goal < now - d then now - d else if now + d < goal then now + d else goal

/-- R206, R177: one tick of the step's references: the current reference moves at PROF_IRAMP, the voltage reference of a
step that regulates voltage at PROF_VRAMP, from the present V_BAT where it changes. While Stage B starts, its current limit alone raises the current; a PULSE changes
its level without a ramp; LIM_I only bounds a step that regulates voltage. -/
def Mod.moveRef (m : Mod) : Mod :=
  let n := m.boundProfile
  let kind := m.n E.KIND m.stepIdx
  let free := m.n E.SST_STATE 1 != 3 || !rampedKind kind || (kind == 6 && 0 < m.prof.pulseFrom)
  let i := if free then m.stepGoal else toward m.prof.iRef m.stepGoal (m.q E.PROF_IRAMP n / 10)
  let goal := m.stepVoltage.getD 0
  let from_ := if goal = m.prof.vGoal then m.prof.vRef else m.vBat
  let v := if voltageKind kind then toward from_ goal (m.q E.PROF_VRAMP n / 10) else 0
  { m with prof := { m.prof with iRef := grid i, vRef := grid v, vGoal := goal } }

/-- R219, R220: the clamp that binds now: the ramped one, or the present terms where they are lower. -/
def Mod.clampNow (m : Mod) : Rat × Rat :=
  let c := m.chargeClamp
  (minR m.prof.clampI c.1, minR m.prof.clampV c.2)

/-- R233: I_bias under a charge clamp: SP_A, or what the clamp leaves above A. -/
def Mod.scanBias (m : Mod) (clamp : Rat) : Rat :=
  let a := m.q E.SP_A m.stepIdx
  if a + m.scanAmp ≤ clamp then a else clamp - m.scanAmp

/-- R234: the frequency of point `k`, Hz. -/
def Mod.scanFreq (m : Mod) (k : Nat) : Rat := decadeBelow (m.q E.SCAN_FMAX 0) (m.n E.SCAN_PPD 0) k

/-- R234: how long a point takes: (SCAN_SETTLE + SCAN_CYCLES) / f_k, in TB ticks. -/
def Mod.scanSpan (m : Mod) : Nat :=
  let f := m.scanFreq m.scan.k
  if f ≤ 0 then 0 else ticksS ((m.n E.SCAN_SETTLE 0 + m.n E.SCAN_CYCLES 0 : Nat) / f)

/-- R233: the BAT current that a running scan drives now. -/
def Mod.scanRef (m : Mod) : Rat :=
  m.scan.bias + m.scan.amp * sinTurns (m.scanFreq m.scan.k * mkRat (m.tb - m.scan.from_ : Nat) 100000000)

/-- R102, R203 to R206, R219, R220, R233: the BAT current that the running step asks of Stage B at the BAT voltage `vb`, where
its BAT-voltage loop asks for `demandV`: within the step's current reference, the clamps, and its voltage or ceiling, less
the excess of Stage A. A battery above the voltage gets 0 A; only a scan's sinusoid goes below 0. -/
def Mod.stepRef (m : Mod) (vb demandV : Rat) : Rat :=
  if !(m.regulating || m.keepsRefs) then 0
  else
    let c := m.clampNow
    let scan := m.n E.SCAN_STATE 0 == 1 && m.regulating && m.n E.KIND m.stepIdx == 10
    let goal := if 0 < m.prof.vRef then minR m.prof.vRef c.2 else c.2
    let ask := if scan then m.scanRef else m.prof.iRef
    let ref := if goal < vb then 0 else minR (minR ask (maxR 0 demandV)) m.chargeClamp.1
    let ref := if 0 < m.reg.excess then maxR 0 (ref - m.reg.excess) else ref
    minR (if scan then ref else maxR 0 ref) (maxR 0 c.1)

/-! ## MOD_FLAGS (R226, R218) -/

/-- R226: the bits as their causes stand; CHG_END is kept. -/
def Mod.flagsRefresh (m : Mod) : Mod :=
  let b := fun (k : Nat) (c : Bool) => if c then 1 <<< k else 0
  let run := m.n E.PROF_STATE 0 == 1
  m.setN E.MOD_FLAGS 0 (b 0 (run && m.n E.PATH_ACT 0 == 3) + b 1 (run && m.n E.KIND m.stepIdx == 8) +
    b 2 (m.n E.SCAN_STATE 0 == 1) + (m.n E.MOD_FLAGS 0 &&& 8) + b 4 m.bms.wake + b 5 (m.n E.DEAD_STATE 0 == 1))

/-! ## The scan (R233 to R237) -/

def nanBits : Nat := 0x7FC00000

/-- R237: the bytes of SCAN_RESULT. -/
def Mod.scanBytes (m : Mod) (aborted : Bool) : List Nat :=
  let s := m.scan
  let n := s.pts.length
  leBytes 8 (m.n E.SCAN_T 0) ++ [s.prof, s.step, n, (if s.remote then 1 else 0) + (if aborted then 2 else 0)] ++
  leBytes 4 (f32OfRat s.bias) ++ leBytes 4 (f32OfRat s.amp) ++
  leBytes 4 (if n = 0 then f32OfRat m.vBat else f32OfRat (s.vSum / (n : Nat))) ++
  leBytes 4 (match m.meanTemp with | some t => f32OfRat t | none => nanBits) ++
  leBytes 4 (if m.n E.BMS_FRESH 0 = 0 then m.n E.BMS_SOC 0 else nanBits) ++
  s.pts.flatMap (fun p => leBytes 4 (f32OfRat p.freq) ++ leBytes 4 (f32OfRat p.re) ++ leBytes 4 (f32OfRat p.im) ++
    [p.quality, 0, 0, 0])

/-- SCAN_STATE takes `st` and the result is written. -/
def Mod.scanEnd (m : Mod) (st : Nat) : Mod :=
  let m := (m.setN E.SCAN_STATE 0 st).setN E.SCAN_NPTS 0 m.scan.pts.length
  (m.setBytes E.SCAN_RESULT 0 (m.scanBytes (st == 3))).flagsRefresh

/-- R235: a scan that runs is aborted. -/
def Mod.scanAbort (m : Mod) : Mod :=
  let m : Mod := { m with scan := { m.scan with req := false } }
  if m.n E.SCAN_STATE 0 == 1 then m.scanEnd 3 else m

/-- R234: K + 1 points of a range: K is the largest k with 10^k at most (FMAX/FMIN)^PPD × 10^(10^-6). -/
def scanPoints (fmin fmax : Rat) (ppd : Nat) : Nat :=
  if fmin ≤ 0 then 0
  else
    let x := (fmax / fmin) ^ ppd * (1 + mkRat 2302588 1000000000000)
    ((List.range 100).filter (fun k => decide ((10 ^ k : Nat) ≤ x))).length

def Mod.scanCount (m : Mod) : Nat := scanPoints (m.q E.SCAN_FMIN 0) (m.q E.SCAN_FMAX 0) (m.n E.SCAN_PPD 0)

/-- R233, R218: the request of the step's entry comes into force: the scan starts at its highest frequency, or aborts
where the charge clamp lies below A. -/
def Mod.scanStart (m : Mod) : Mod :=
  if m.scan.req && m.regulating && m.n E.KIND m.stepIdx == 10 then
    let a := m.scanAmp
    let (clamp, _) := m.chargeClamp
    let bias := m.scanBias clamp
    let m := (m.setN E.SCAN_T 0 m.tb).setN E.SCAN_STATE 0 1
    let m : Mod := { m with scan := { prof := m.n E.PROF_ACT 0, step := m.n E.STEP_ACT 0, bias := bias, amp := a, from_ := m.tb
                                      remote := m.n E.SNS_STATE 1 == 1, clamp := m.n E.CLAMP_SRC 0 } }
    let m := ((m.setN E.SCAN_NPTS 0 0).setBytes E.SCAN_RESULT 0 (m.scanBytes false)).flagsRefresh
    if clamp < a then m.scanEnd 3 else m
  else m

/-- R233, R235: while a scan runs, the charge clamp falling below A aborts it at once, a lower clamp lowers I_bias, and a change
of CLAMP_SRC or a reduction of R102 makes the point in progress invalid. -/
def Mod.scanWatch (m : Mod) : Mod :=
  if m.n E.SCAN_STATE 0 != 1 then m
  else
    let clamp := m.chargeClamp.1
    if clamp < m.scan.amp then m.scanAbort
    else
      let m : Mod := { m with scan := { m.scan with bias := minR m.scan.bias (m.scanBias clamp) } }
      m.when (m.n E.CLAMP_SRC 0 != m.scan.clamp || decide (0 < m.reg.excess)) Mod.scanDisturb

/-- The magnitude of a complex number, squared. -/
def norm2 (re im : Rat) : Rat := re * re + im * im

/-- The mean of a list; 0 of an empty one. -/
def meanRat (l : List Rat) : Rat := l.sum / (l.length : Nat)

/-- R233: the single-bin DFT of samples that span `c` whole cycles, real and imaginary part. DESIGN CHOICE (assumption log 104): its
magnitude is the amplitude of the sinusoid. -/
def dftBin (c : Nat) (l : List Rat) : Rat × Rat :=
  let n : Rat := (l.length : Nat)
  let at_ := fun (u : Rat) => 2 * ((l.zipIdx.map (fun x => x.1 * sinTurns (u + c * (x.2 : Nat) / n))).sum) / n
  (at_ (mkRat 1 4), -(at_ 0))

/-- R233: the RMS of what is left of samples without the fundamental `v` and the DC term. -/
def dftResidual (l : List Rat) (v : Rat × Rat) : Rat :=
  let mean := meanRat l
  sqrtR (maxR 0 (meanRat (l.map (fun x => (x - mean) * (x - mean))) - norm2 v.1 v.2 / 2))

/-- R233: the voltage samples of a point: SNS_BAT's where its SNS_STATE is 1, else the local channel's. -/
def Mod.scanVolts (m : Mod) (x : ScanPoint) : List Rat := if m.n E.SNS_STATE 1 = 1 then x.vSns else x.vLoc

/-- R233, R237: a point of the result: Z = V / I in mΩ, and its quality. Where the spec states no value, I = 0 or no voltage at
all, the point holds a free one (assumption log 9). -/
def Mod.scanResult (m : Mod) (x : ScanPoint) (bad : Bool) : ScanPt :=
  let c := m.n E.SCAN_CYCLES 0
  let v := dftBin c (m.scanVolts x)
  let i := dftBin c x.i
  let d := norm2 i.1 i.2
  let free := f32ToRat m.freeVal
  let v2 := norm2 v.1 v.2
  let res := dftResidual (m.scanVolts x) v
  { freq := m.scanFreq m.scan.k
    re := if d = 0 then free else 1000 * (v.1 * i.1 + v.2 * i.2) / d
    im := if d = 0 then free else 1000 * (v.2 * i.1 - v.1 * i.2) / d
    quality := if bad then 0 else if v2 = 0 ∧ res ≤ 0 then m.freeVal % 256 else quality255 v2 res }

/-- R233 to R235: a point is complete, once its cycles have passed: an invalid one is repeated once, and then stays with quality
0. -/
def Mod.scanPoint (x : ScanPoint) (m : Mod) : Mod :=
  if m.n E.SCAN_STATE 0 != 1 || decide (m.tb < m.scan.from_ + m.scanSpan) then m
  else
    let s := m.scan
    let bad := s.disturbed || decide (s.amp / 20 < absR x.shift)
    if bad && !s.retried then
      { m with scan := { s with retried := true, disturbed := false, clamp := m.n E.CLAMP_SRC 0, from_ := m.tb } }
    else
      let m : Mod := { m with scan := { s with pts := s.pts ++ [m.scanResult x bad], k := s.k + 1, retried := false,
                                               disturbed := false, clamp := m.n E.CLAMP_SRC 0, from_ := m.tb,
                                               vSum := s.vSum + meanRat (m.scanVolts x) } }
      let m := m.freeStep
      let m := (m.setN E.SCAN_NPTS 0 m.scan.pts.length).setBytes E.SCAN_RESULT 0 (m.scanBytes false)
      if m.scanCount ≤ m.scan.k then m.scanEnd 2 else m

/-! ## Entering, leaving and ending (R211, R212, R216, R218, R238) -/

def Mod.runOf (m : Mod) (s : Nat) : RunAcc := (m.prof.runs[s]?).getD {}

def u16max (n : Nat) : Nat := min n 65535

/-- R238, R243: the run family shows the step's account, within the entries' ranges. -/
def Mod.runShow (m : Mod) (s : Nat) : Mod :=
  let r := m.runOf s
  let ah := fun (x : Rat) => minR 1000000 (x / 3600)
  let wh := fun (x : Rat) => minR 1000000000 (x / 3600)
  let tt := fun (n : Nat) => minR 32000000 (mkRat n 10000)
  let m := (((m.setQ E.RUN_T s (tt r.t)).setQ E.RUN_AH_IN s (ah r.ahIn)).setQ E.RUN_AH_OUT s (ah r.ahOut)).setQ E.RUN_WH_IN s
    (wh r.whIn)
  (((m.setQ E.RUN_WH_OUT s (wh r.whOut)).setQ E.RUN_SYSPRIO_T s (tt r.prio)).setQ E.RUN_CLAMP_T s (tt r.clamp)).setQ
    E.RUN_HELD_T s (tt r.held)

/-- R238, R243: one mode tick of the step's account, while RUNNING or SUSPENDED; STEP_TIME stands still while SUSPENDED. -/
def Mod.runTick (m : Mod) : Mod :=
  let s := m.n E.STEP_ACT 0
  if !m.stepRunning then m
  else
    let dt := mkRat 1 10000
    let i := (m.mean.iPos, m.mean.iNeg)
    let p := ((m.mean.pPos[4]?).getD 0, (m.mean.pNeg[4]?).getD 0)
    let one := fun (c : Bool) => if c then 1 else 0
    let cl := m.n E.CLAMP_SRC 0
    let m : Mod := { m with prof := { m.prof with
      minTd := minR m.prof.minTd (m.q E.TD_F 0)
      runs := modAt {} m.prof.runs s (fun r =>
        { t := r.t + one m.regulating
          ahIn := grid (r.ahIn + i.1 * dt), ahOut := grid (r.ahOut + i.2 * dt)
          whIn := grid (r.whIn + p.1 * dt), whOut := grid (r.whOut + p.2 * dt)
          prio := r.prio + one (decide (0 < m.reg.excess)), clamp := r.clamp + one (1 ≤ cl && cl ≤ 6)
          held := r.held + one (m.n E.CHG_ILIM_EFF 0 == 0) }) } }
    m.runShow s

/-- R238: the account of the present visit: what the step's totals have gained since its entry. -/
def Mod.visitAcc (m : Mod) (s : Nat) : RunAcc :=
  let r := m.runOf s
  let e := m.prof.entry
  { t := r.t - e.t, ahIn := r.ahIn - e.ahIn, ahOut := r.ahOut - e.ahOut, whIn := r.whIn - e.whIn, whOut := r.whOut - e.whOut
    prio := r.prio - e.prio, clamp := r.clamp - e.clamp, held := r.held - e.held }

/-- R238: the record of a step exit. -/
def Mod.visitLog (m : Mod) (s : Nat) (old : Val) : Mod :=
  m.logPut { m.record 0x0F00 0 0xFF 0xFF 0 (E.STEP_EXIT.index 0) E.STEP_EXIT.sub 0xFF
      (pad8 E.STEP_EXIT.ty old ++ pad8 E.STEP_EXIT.ty (m.getV E.STEP_EXIT 0)) with
    visit := some { prof := m.n E.PROF_ACT 0, step := s, exit := m.n E.STEP_EXIT 0, acc := m.visitAcc s, vEnd := m.vBat,
                    minTd := m.prof.minTd } }

/-- R238: the running step is left, by `code`: its record goes to the log and its scan is aborted. -/
def Mod.leaveStep (m : Mod) (code : Option Nat) : Mod :=
  let s := m.n E.STEP_ACT 0
  if 16 ≤ s then m
  else
    let old := m.getV E.STEP_EXIT 0
    let m := match code with
      | some c => m.setN E.STEP_EXIT 0 c
      | none => m
    let m := m.scanAbort
    let m := ((m.setQ E.RUN_V_END s (clampR 0 1000 m.vBat)).setN E.RUN_EXIT s (m.n E.STEP_EXIT 0)).runShow s
    m.visitLog s old

/-- R216: Stage B, where it serves the profile, stops through its soft stop, which nothing but a new start ends
(assumption log 93). -/
def Mod.endStop (m : Mod) : Mod :=
  if m.n E.PATH_ACT 0 == 3 && m.n E.BRIDGE_STATE 0 == 0 && m.running 1 then
    (m.softStop 1).modStg 1 (fun x => { x with endStop := true })
  else m

/-- R216: the profile ends with its result. -/
def Mod.profileEnd (m : Mod) (result : Nat) : Mod :=
  let m := (((m.scanAbort).setN E.PROF_STATE 0 3).setN E.PROF_RESULT 0 result).endStop
  let m := ((m.setN E.SUSP_CAUSE 0 0).setN E.STEP_ACT 0 0xFF).setBit E.MOD_FLAGS 0 3 (result == 1)
  ({ m with prof := { m.prof with waitBridge := false } } : Mod).flagsRefresh.lifetimeCommit

/-- R331: with ESESS_AUTO a profile's end closes the session, unless a chained profile goes on with it. -/
def Mod.autoClose (m : Mod) : Mod :=
  if m.b E.ESESS_AUTO 0 && m.n E.ESESS_STATE 0 == 1 && m.n E.PROF_STATE 0 == 3 then m.sessClose else m

/-- R206: the references of the step in progress begin from the present current and from the present V_BAT. -/
def Mod.seedRefs (m : Mod) : Mod :=
  { m with prof := { m.prof with
      vRef := if voltageKind (m.n E.KIND m.stepIdx) then m.vBat else 0
      vGoal := m.stepVoltage.getD 0
      iRef := if m.n E.SST_STATE 1 = 3 then maxR 0 (m.q E.CHG_IREF 0) else m.prof.iRef } }

/-- R205, R211, R212, R218: a step is entered; past PROF_MAXVISITS the profile ends instead. A step that waits for the end of
BRIDGE leaves the references of the previous one. -/
def Mod.enterStep (m : Mod) (s : Nat) : Mod :=
  let n := m.n E.PROF_ACT 0
  if m.n E.PROF_MAXVISITS n < m.n E.STEP_VISITS 0 + 1 then (m.profileEnd 4).autoClose
  else
    let kind := m.n E.KIND (16 * n + s)
    let keepV := if m.regulating then m.stepVoltage else m.prof.keepV
    let m := ((m.setN E.STEP_VISITS 0 (m.n E.STEP_VISITS 0 + 1)).setN E.STEP_ACT 0 s).setN E.STEP_TIME 0 0
    let m := m.setN E.RUN_ENTRIES s (u16max (m.n E.RUN_ENTRIES s + 1))
    let wait := m.n E.BRIDGE_STATE 0 != 0 && convertOnly kind
    let m : Mod := { m with
      prof := { m.prof with ticks := 0, exT := [0, 0, 0], entry := m.runOf s, minTd := m.q E.TD_F 0, pulseLow := false,
                            pulseFrom := 0, pulses := 0, vHist := [m.vBat], waitBridge := wait,
                            keepV := if wait then keepV else none }
      scan := { m.scan with req := kind == 10 } }
    let m := m.when (!wait) Mod.seedRefs
    let m := m.through 29 (20 + 2) 0x4400 0
    (m.when (kind == 10) (·.through 29 (20 + 1) 0x4400 0)).flagsRefresh

/-- R213: a profile starts: accounts cleared, PROF_FIRST entered. -/
def Mod.profileStart (m : Mod) (n : Nat) : Mod :=
  let m := ((m.setN E.PROF_ACT 0 n).setN E.PROF_STATE 0 1).setN E.SUSP_CAUSE 0 0
  let m := m.modStg 1 (fun x => { x with endStop := false })
  let m := (m.setN E.STEP_VISITS 0 0).setBit E.MOD_FLAGS 0 3 false
  let m := m.each 16 (fun s m =>
    (((m.setN E.RUN_ENTRIES s 0).setN E.RUN_V_END s 0).setN E.RUN_EXIT s 0))
  let m : Mod := { m with prof := { m.prof with runs := List.replicate 16 {}, recBarred := false } }
  let m := m.each 16 (fun s m => m.runShow s)
  let m := m.when (m.b E.ESESS_AUTO 0 && m.n E.ESESS_STATE 0 == 0) Mod.sessOpen
  m.enterStep (m.n E.PROF_FIRST n)

/-- R216: a COMPLETE profile chains to a valid one at the same tick; an invalid chain is recorded. -/
def Mod.profileComplete (m : Mod) : Mod :=
  let c := m.n E.PROF_CHAIN (m.n E.PROF_ACT 0)
  let m := m.profileEnd 1
  if c < 16 then
    let m := m.profileCheck c
    if m.b E.PROF_VALID c then ((m.commitN E.PROF_SEL 0 c).profileStart c) else (m.noteAt E.PROF_VALID c).autoClose
  else m.autoClose

/-- R212: go(): a step, the step's NEXT, or an end. -/
def Mod.go (m : Mod) (target : Nat) : Mod :=
  let t := if target = 0xFF then m.n E.NEXT m.stepIdx else target
  if t < 16 then m.enterStep t else if t = 0xFE then m.profileComplete else (m.profileEnd 5).autoClose

/-! ## Commands of PROF_CMD (R213) -/

/-- R213: a command's row accepts it. -/
def Mod.profAccepts (m : Mod) (code : Nat) : Bool :=
  let st := m.n E.PROF_STATE 0
  match code with
  | 1 => (st == 0 || st == 3) && m.profileError (m.n E.PROF_SEL 0) == 0
  | 2 => true
  | 3 => (st == 1 || st == 2) && m.profileError (m.n E.PROF_ACT 0) == 0
  | 4 => st == 1
  | _ => false

/-- R213: a command is applied; one that its row no longer accepts is recorded and has no effect. -/
def Mod.profApply (m : Mod) (code : Nat) : Mod :=
  let st := m.n E.PROF_STATE 0
  if code = 2 ∧ st ≠ 1 ∧ st ≠ 2 then m
  else
    let m := if code = 1 then m.profileCheck (m.n E.PROF_SEL 0)
      else if code = 3 ∧ (st = 1 ∨ st = 2) then m.profileCheck (m.n E.PROF_ACT 0) else m
    if !m.profAccepts code then m.noteAt E.PROF_CMD 0
    else
      match code with
      | 1 => m.profileStart (m.n E.PROF_SEL 0)
      | 2 => ((m.leaveStep none).profileEnd 2).autoClose
      | 3 => (m.leaveStep none).profileStart (m.n E.PROF_ACT 0)
      | 4 => (m.leaveStep (some 5)).go 0xFF
      | _ => m

/-- R213: the commands that wait are applied at the mode tick, in the order of their arrival. -/
def Mod.profApplyAll (m : Mod) : Mod :=
  m.prof.cmds.foldl Mod.profApply { m with prof := { m.prof with cmds := [] } }

/-- R213: the oldest command that waits is applied, where it is of this code. -/
def Mod.profBoundary (code : Nat) (m : Mod) : Mod :=
  match m.prof.cmds with
  | c :: cs => if c = code then ({ m with prof := { m.prof with cmds := cs } } : Mod).profApply c else m
  | [] => m

/-- R217: BAT enters CONNECTED: PROF_SEL starts under the conditions of START; a refusal is recorded. -/
def Mod.autostart (m : Mod) : Mod :=
  if m.b E.PROF_AUTOSTART 0 && (m.n E.PROF_STATE 0 == 0 || m.n E.PROF_STATE 0 == 3) then
    let m := m.profileCheck (m.n E.PROF_SEL 0)
    if m.b E.PROF_VALID (m.n E.PROF_SEL 0) then m.profileStart (m.n E.PROF_SEL 0)
    else m.noteRefused E.PROF_AUTOSTART 0 0x21
  else m

/-- R122, R217: a port enters CONNECTED. -/
def Mod.connectPort (m : Mod) (k : Nat) : Mod := (m.connect k).when (k == 4) Mod.autostart

/-! ## Recovery (R229, R230) -/

/-- R229: BAT enters recovery: PROF_PRE_STEP of PROF_SEL becomes the running step; without one, no step runs
(assumption log 23). -/
def Mod.recoveryEntry (m : Mod) : Mod :=
  let n := m.n E.PROF_SEL 0
  let pre := m.n E.PROF_PRE_STEP n
  let m := m.setN E.DEAD_STATE 0 1
  if pre = 0xFF ∨ !m.b E.PROF_VALID n then
    let m := m.when m.stepRunning (fun m => ((m.leaveStep none).profileEnd 6).autoClose)
    (m.noteAt E.DEAD_STATE 0).flagsRefresh
  else
    let m := m.when m.stepRunning (·.leaveStep (some 6))
    let m := m.when (m.n E.PROF_ACT 0 != n) (fun m =>
      let m : Mod := { m with prof := { m.prof with runs := List.replicate 16 {} } }
      (m.each 16 (fun s m => (((m.setN E.RUN_ENTRIES s 0).setN E.RUN_V_END s 0).setN E.RUN_EXIT s 0).runShow s)).setN
        E.STEP_VISITS 0 0)
    let m := ((m.setN E.PROF_ACT 0 n).setN E.PROF_STATE 0 1).setN E.SUSP_CAUSE 0 0
    (m.enterStep pre).setN E.STEP_EXIT 0 6

/-- R229: recovery fails. DESIGN CHOICE (assumption log 104): the BAT switch opens at once, as Stage B's soft stop begins. -/
def Mod.recoveryFail (m : Mod) : Mod :=
  let m := ((m.profileEnd 6).autoClose.softStop 1).setN E.DEAD_STATE 0 0
  let m := ((m.openSwitch 4).qualTo 4 1).flagsRefresh
  { m with prof := { m.prof with recBarred := true } }

/-- R230: the BAT terminal lies inside its qualifying window. -/
def Mod.batInWindow (m : Mod) : Bool := decide (m.winLo 4 ≤ m.vPort 4) && decide (m.vPort 4 ≤ m.winHi 4)

/-- The target that an exit of the step at place `j` names, NEXT resolved. -/
def Mod.exitTarget (m : Mod) (j x : Nat) : Nat := if m.exGo j x = 0xFF then m.n E.NEXT j else m.exGo j x

/-! ## Exits (R209, R210) -/

/-- R209: condition of exit `x` of the running step. -/
def Mod.exitCond (m : Mod) (x : Nat) : Bool :=
  let j := m.stepIdx
  let n := m.n E.PROF_ACT 0
  let s := m.n E.STEP_ACT 0
  let val := m.exVal j x
  let r := m.runOf s
  let e := m.prof.entry
  match m.exType j x with
  | 1 => decide (val ≤ mkRat m.prof.ticks 10000)
  | 2 => decide (m.compensate n val ≤ m.vBat)
  | 3 => decide (m.vBat ≤ m.compensate n val)
  | 4 => decide (m.iPort 4 ≤ val) && m.n E.CLAMP_SRC 0 == 0
  | 5 => decide (val ≤ (r.ahIn - e.ahIn) / 3600)
  | 6 => decide (val ≤ (r.whIn - e.whIn) / 3600)
  | 7 => decide (val ≤ m.q E.BMS_SOC 0) && m.n E.BMS_FRESH 0 == 0
  | 8 => m.meanTemp.isSome && decide (val ≤ m.q E.TD_TEMP_HI 0)
  | 9 => m.meanTemp.isSome && decide (m.q E.TD_TEMP_LO 0 ≤ val)
  | 10 => 600000 ≤ m.prof.ticks && decide (1000 * (m.vBat - (m.prof.vHist[600000]?).getD m.vBat) ≤ val)
  | 11 => decide (0 ≤ val) && m.bitOf E.BMS_FLAGS 0 val.floor.toNat && m.n E.BMS_FRESH 0 ≤ 1
  | 12 => !m.scan.req && m.scan.prof == n && m.scan.step == s && (m.n E.SCAN_STATE 0 == 2 || m.n E.SCAN_STATE 0 == 3)
  | 13 => decide (val ≤ (m.prof.pulses : Nat))
  | _ => false

/-- R210, R230: the qualifying timers of this tick. -/
def Mod.exitTimers (m : Mod) : Mod :=
  let j := m.stepIdx
  let t := [1, 2, 3].map (fun x =>
    let old := (m.prof.exT[x - 1]?).getD 0
    if m.recovering && decide (m.vPort 4 < m.winLo 4) && m.exitTarget j x < 16 then 0
    else if m.exType j x = 4 ∧ m.n E.CLAMP_SRC 0 ≠ 0 then old
    else if m.exitCond x then old + 1 else 0)
  { m with prof := { m.prof with exT := t } }

/-- R210: exit `x` has qualified. -/
def Mod.exitTaken (m : Mod) (x : Nat) : Bool :=
  let j := m.stepIdx
  m.exType j x != 0 && decide (max 1 (10 * m.exQual j x) ≤ (m.prof.exT[x - 1]?).getD 0)

/-- R210: the exit that stands: the lowest-numbered one taken. -/
def Mod.exitStands (m : Mod) : Option Nat := [1, 2, 3].find? m.exitTaken

/-! ## Suspension and the tick (R212, R214, R215) -/

/-- R214: the first cause of suspension that holds. -/
def Mod.suspendCause (m : Mod) : Nat :=
  let path := m.n E.PATH_ACT 0
  if path = 8 then 1
  else if !m.batAvail && !(m.recovering && m.n E.KIND m.stepIdx == 1) then 2
  else if path ≠ 3 then 3
  else 0

/-- R209: V_BAT of this tick joins what the step has seen in the latest 60 s. -/
def Mod.seeVoltage (m : Mod) : Mod := { m with prof := { m.prof with vHist := (m.vBat :: m.prof.vHist).take 600001 } }

/-- R214: the profile is suspended; its scan is aborted, and starts again with the step. -/
def Mod.suspend (m : Mod) (cause : Nat) : Mod :=
  let m := m.when (m.n E.PROF_STATE 0 == 1) (fun m =>
    let again := m.scan.req || m.n E.SCAN_STATE 0 == 1
    let m := m.scanAbort
    ({ m with prof := { m.prof with suspAt := m.tb }, scan := { m.scan with req := again } } : Mod).setN E.PROF_STATE 0 2)
  m.setN E.SUSP_CAUSE 0 cause

/-- R215: the suspension ends: Stage B starts through its soft start, also where another path has kept it running, and the
step's current rises with its limit. DESIGN CHOICE (assumption log 93): in BRIDGE, where Stage B does not switch, the step's current
rises from 0 at PROF_IRAMP instead. -/
def Mod.resume (m : Mod) : Mod :=
  let m := ((m.setN E.PROF_STATE 0 1).setN E.SUSP_CAUSE 0 0).when (m.n E.SST_STATE 1 == 3 && !m.gated 1 && m.n E.BRIDGE_STATE 0 == 0)
    (fun m => (m.abandonStage 1).stageStart 1 false false)
  { m with prof := { m.prof with exT := [0, 0, 0], iRef := if m.n E.BRIDGE_STATE 0 = 0 then m.prof.iRef else 0 } }

/-- R212, R214, R215: the profile engine at a mode tick. -/
def Mod.profileTick (m : Mod) : Mod :=
  let m := m.profApplyAll
  if !m.stepRunning then (m.postRefs).flagsRefresh
  else
    let m := m.seeVoltage
    let cause := m.suspendCause
    if cause ≠ 0 then (((m.suspend cause).postRefs).runTick).flagsRefresh
    else
      let was := m.n E.PROF_STATE 0 == 2
      let n := m.n E.PROF_ACT 0
      let late := was && sec (m.n E.PROF_RESUME_T n) < m.tb - m.prof.suspAt
      let m := (m.when late Mod.runTick).when was Mod.resume
      if was && sec (m.n E.PROF_RESUME_T n) < m.tb - m.prof.suspAt then
        let r := m.n E.PROF_RESUME_STEP n
        (m.leaveStep none).enterStep (if r = 0xFF then m.n E.PROF_FIRST n else r)
      else
        let m := m.when (m.prof.waitBridge && m.n E.BRIDGE_STATE 0 == 0)
          (fun m => { m with prof := { m.prof with waitBridge := false } }.seedRefs)
        if m.prof.waitBridge then ((m.postRefs).runTick).flagsRefresh
        else
          let m : Mod := { m with prof := { m.prof with ticks := m.prof.ticks + 1 } }
          let m := ((m.setQ E.STEP_TIME 0 (mkRat m.prof.ticks 10000)).exitTimers).moveRef.postRefs
          ((m.scanWatch).runTick).flagsRefresh

/-- R281: what BAT may carry, A: a BAT port in LIMIT keeps 95 % of its rating. -/
def Mod.batAmpsTop (m : Mod) : Rat := if m.n E.PROT_STATE 4 == 1 then 190 else 200

/-- R221: the discharge limit now: V_BAT at its floor admits none, nor does a terminal that rides through (R124); a BAT port in
LIMIT keeps 95 % (R281). -/
def Mod.disNow (m : Mod) (vBat : Rat) : Rat :=
  let fl := m.q E.PROF_VFLOOR m.boundProfile
  let floor := if m.n E.BMS_FRESH 0 ≤ 2 then maxR fl (m.q E.BMS_VMIN 0) else fl
  let top := m.batAmpsTop
  if vBat ≤ floor ∨ m.n E.QUAL_STATE 4 = 6 then 0 else minR top m.disLimit

end Sys2Proof.Machine
end

