-- ==== Sys2Proof/Machine/ModeCmds.lean ====
section
/-! DEFINITION. Machine/ModeCmds.lean: the resolution of the mode tick (R83) and the commands of the mode axes and of
the power path (chapters Modes and The Power Path): AUTO's dwell, rotation ticks, power states, BRIDGE, BLACKSTART,
SAFESTOP and the overload timers. -/

namespace Sys2Proof.Machine

open Sys2Proof

/-- R108: the BAT current that seeds Stage B's loop as it leaves BRIDGE for cause `code`: the limit that was passed, zero, or the
present current. -/
def Mod.bridgeSeed (m : Mod) (code : Nat) : Rat :=
  let i := m.iPort 4
  let (chg, dis) := m.bridgeLimits
  match code with
  | 2 => if i < 0 then -dis else chg
  | 5 => 0
  | _ => i

/-- R107, R108: Stage B's current loop takes up `i` A of BAT current, shared by its ACTIVE phases. A step that waits for the end of
BRIDGE leaves the references of the one before (R205). -/
def Mod.seedB (m : Mod) (i : Rat) : Mod :=
  let ratio := if m.vSys ≤ 0 then 1 else maxR 1 (m.vBat / m.vSys)
  let m : Mod := { m with prof := { m.prof with iRef := if m.prof.waitBridge then m.prof.iRef else grid (maxR 0 i) } }
  ((m.setQ E.CHG_IREF 0 (clampR (-200) 200 i)).modGrp 4 (fun x => { x with iref := grid (i * ratio) })).shareRef 4

/-- R107, R108, R169: BRIDGE is left for cause `code`: Stage B resumes switching with its BRIDGED phases ACTIVE and its duty
ramps down from where it stands, or under code 4 is gated off; codes 2 to 6 count in BRIDGE_FORCED. V_ref moves on from the
present V_SYS. -/
def Mod.bridgeLeave (m : Mod) (code : Nat) : Mod :=
  let m := (m.setN E.BRIDGE_EXIT 0 code).when (2 ≤ code) (·.inc E.BRIDGE_FORCED 0)
  let m : Mod := { m with reg := { m.reg with bridgeTo := none, vset := m.vSys } }
  if code = 4 then
    ((({ m with reg := { m.reg with bridgeDuty := 0 } } : Mod).setN E.BRIDGE_STATE 0 0).setN E.COUPLING_ACT 0 0).disarm .bridge
  else
    let was := m.n E.BRIDGE_STATE 0
    let m := (stagePhases 1).foldl (fun m p =>
      if m.n E.PH_STATE p == 7 then
        ((m.setN E.PH_STATE p 4).setN E.PH_MODE p 0).modPh p (fun x => { x with fresh := true, activeSince := m.tb })
      else m) m
    let m := m.when (was == 2) (fun m =>
      (((m.putSlots (m.switching 1)).atSlots 1).countPhases).seedB (m.bridgeSeed code))
    let m := m.setN E.BRIDGE_STATE 0 3
    (m.setN E.COUPLING_ACT 0 1).arm .bridge (m.tb + ticksMs (m.reg.bridgeDuty * m.cq E.BRIDGE_RAMP 0))

/-- BRIDGE is being entered, or in force. -/
def Mod.bridging (m : Mod) : Bool := m.n E.BRIDGE_STATE 0 == 1 || m.n E.BRIDGE_STATE 0 == 2

/-- R83: a path and a coupling come into force. A path that forbids BRIDGE brings its normal exit (R108); Stage B keeps the
SYS it has regulated until Stage A has soft-started (R84). -/
def Mod.changePath (m : Mod) (path coupling : Nat) : Mod :=
  let old := m.n E.PATH_ACT 0
  let m := if path != old || coupling != m.n E.COUPLING_ACT 0 then m.startTransition old path else m
  let m := m.when (m.bridging && coupling != 2) (·.bridgeLeave 1)
  let m := (m.setN E.PATH_ACT 0 path).setN E.COUPLING_ACT 0 coupling
  let m := m.when ((old == 6 || old == 7) && pathWantsA path && m.running 1)
    (fun m => { m with reg := { m.reg with hand := true } })
  m.setQ E.P_SYS_LIM 0 (m.sysLimit path)

/-- R84: the hand-over ends when Stage A has soft-started, or Stage B or the path no longer takes part in it. -/
def Mod.handOver (m : Mod) : Mod :=
  if m.reg.hand && (!m.running 1 || m.n E.SST_STATE 0 == 3 || !pathWantsA (m.n E.PATH_ACT 0)) then
    { m with reg := { m.reg with hand := false } }
  else m

/-- R63, R296: SAFE forces the module, or has forced it since the latest resolution. -/
def Mod.forceHeld (m : Mod) : Bool := m.forced || m.modes.forceSeen

/-- R83: the envelope in force and its source. -/
def Mod.envelope (m : Mod) : Nat × Nat :=
  if m.forceHeld then (8, 3)
  else if m.fenced then (1, 2)
  else if m.n E.FLEET_ENV 0 ≠ 0xFF ∧ m.n E.ENV_REQ 0 ≠ 8 then (m.n E.FLEET_ENV 0, 1)
  else (m.n E.ENV_REQ 0, 0)

/-- R83: the procedure of the resolution, on the inputs latched in `sens` and in the entries. -/
def Mod.resolve (m : Mod) : Mod :=
  let (env, src) := m.envelope
  let late := m.modes.forceSeen && !m.forced
  let keep := m.brkHeld env
  let (path, cand, cnt) : Nat × Option Nat × Nat := if m.forceHeld then (8, none, 0) else m.pathFor env
  let hold := !m.forceHeld && m.mooring && moored path
  let path := if hold then 1 else path
  let m : Mod := { m with modes := { m.modes with dwellCand := cand, dwellCnt := cnt, forceSeen := false
                                                  brkHold := keep && path != 8 } }
  let m := (m.setN E.ENV_EFF 0 env).setN E.ENV_SRC 0 src
  let m := m.setN E.PATH_REASON 0 (m.causes env + (if hold then 32 else 0) + (if late then 128 else 0))
  let m := m.changePath path (m.couple path env)
  let m := (m.handOver).runStages path (m.n E.COUPLING_ACT 0) hold
  let m := m.openUnused path (m.n E.COUPLING_ACT 0) hold
  m.when ((m.n E.TRANS_STATE 0 == 1 || m.n E.TRANS_STATE 0 == 2) && m.settled path (m.n E.COUPLING_ACT 0))
    (·.setN E.TRANS_STATE 0 0)

/-- MOORING_HOLD of the latest resolution (R81). -/
def Mod.mooringHold (m : Mod) : Bool := m.bitOf E.PATH_REASON 0 5

/-! ## AUTO_DWELL_EXPIRY, ROTATION_TICK -/

/-- R72: a choice of AUTO that has held at AUTO_DWELL consecutive ticks takes effect. -/
def Mod.autoDwellExpiry (m : Mod) : Mod :=
  match m.modes.dwellCand with
  | some r =>
    if m.n E.ENV_EFF 0 == 10 && m.n E.AUTO_DWELL 0 ≤ m.modes.dwellCnt && moored (m.n E.PATH_ACT 0) then
      let m : Mod := { m with modes := { m.modes with dwellCand := none, dwellCnt := 0 } }
      m.changePath r (m.couple r 10)
    else m
  | none => m

def execAutoDwellExpiry (t : Nat) (s : State) : Host.Outcome State Fault Refusal := execM t Mod.autoDwellExpiry s

/-- R172: a rotation tick of both stages; a bridged stage does not rotate (R169). -/
def Mod.rotationTick (m : Mod) : Mod :=
  let m := m.rotateOnce 0
  if m.n E.BRIDGE_STATE 0 == 2 then m else m.rotateOnce 1

def execRotationTick (t : Nat) (s : State) : Host.Outcome State Fault Refusal := execM t Mod.rotationTick s

/-! ## Power states (R512, R513) -/

/-- R513: the module enters HIBERNATE: journal durable, an event, the links' and CAN's stop, Rd at CC, AUX24 and CONT
off, FAULT not conducting and ILKO open; not where an envelope other than OFF has come into force since (R76). The hold-up store empties (R59) and the CAN terminations are off (R52). The heat
states keep the RTC of this moment with them. -/
def hibernateEntry (x : Sys) : Sys :=
  if x.1.modes.hibernating && x.1.n E.POWER_REQ 0 == 2 && x.1.n E.ENV_EFF 0 == 0 && x.1.envelope.1 == 0 then
    let (m, v) := journalAll x
    let m : Mod := (m.elogQ.foldl Mod.elogPlace { m with elogQ := [] }).auxHibernate
    let act := m.n E.POWER_ACT 0
    let m := m.setN E.POWER_ACT 0 2
    let m := m.note E.POWER_ACT 0 (.num act)
    let m := (m.each 4 (fun l m => m.setN E.LINK_STATE l 0)).contOff
    let m := (m.setN E.USB_STATE 0 0).gateOffBoth 6
    let m := stopPorts.foldl Mod.openSwitch m
    let m := (m.openSwitch 7).setB E.FAULT_OUT 0 false
    let m := (m.setN E.HOLDUP_E 0 0).disarm .holdup300
    ({ m with phase := .hibernate, modes := { m.modes with hibernating := false }, usb := { m.usb with sbu := false },
              can := { m.can with term := [false, false] } }.ilko, v)
  else x

def execHibernateEntry (t : Nat) (s : State) : Host.Outcome State Fault Refusal := execS t hibernateEntry s

/-- R512: the return to ACTIVE is complete: the PCEs have recalibrated and the gate drivers have power. -/
def Mod.activeReturnDone (m : Mod) : Mod :=
  if m.modes.raising then
    let m := { m with modes := { m.modes with raising := false } }.setN E.POWER_ACT 0 0
    let m := m.each 2 (fun g m => m.modStg g (fun x => { x with gate := Sys2Proof.setBit x.gate 6 false }))
    m.disarm .activeReturn
  else m

def execActiveReturnDone (t : Nat) (s : State) : Host.Outcome State Fault Refusal := execM t Mod.activeReturnDone s

/-! ## BRIDGE (R105 to R108, R169) -/

/-- R108: the step that runs, counted from 1 in the step family; 0 for none. -/
def Mod.bridgeStepNow (m : Mod) : Nat := if m.stepRunning then m.stepIdx + 1 else 0

/-- R106, R107: the conditions have held for BRIDGE_QUAL ticks: BRIDGE is entered. V_ref follows V_BAT as it moves (R107). -/
def Mod.bridgeQualExpiry (m : Mod) : Mod :=
  if m.n E.BRIDGE_QUAL 0 ≤ m.modes.bridgeQual && m.n E.BRIDGE_STATE 0 == 0 && m.n E.COUPLING_ACT 0 == 1 && m.running 1 then
    let m := { m with modes := { m.modes with bridgeQual := 0, bridgeStep := m.bridgeStepNow }, reg := { m.reg with bridgeTo := some m.vBat } }
    let m := m.startTransition (m.n E.PATH_ACT 0) (m.n E.PATH_ACT 0)
    let m := (m.setN E.COUPLING_ACT 0 2).setN E.BRIDGE_STATE 0 1
    m.arm .bridge (m.tb + ticksMs (m.cq E.BRIDGE_RAMP 0))
  else m

def execBridgeQualExpiry (t : Nat) (s : State) : Host.Outcome State Fault Refusal := execM t Mod.bridgeQualExpiry s

/-- R107, R169: Stage B has reached 100 % and stopped switching; every phase of it that may run is BRIDGED. -/
def Mod.bridgeEntryDone (m : Mod) : Mod :=
  if m.n E.BRIDGE_STATE 0 == 1 && m.due .bridge then
    let m := (stagePhases 1).foldl (fun m p =>
      if 1 ≤ m.n E.PH_STATE p && m.n E.PH_STATE p ≤ 5 && !m.excluded p then
        (((m.setN E.PH_STATE p 7).setN E.PH_MODE p 3).disarm (.arming p)).disarm (.armHold p) else m) m
    let m : Mod := { m with reg := { m.reg with bridgeDuty := 1 } }
    let m := (m.modStg 1 (fun x => { x with rotPending := false, rotLeft := 0, respLeft := 0 })).modGrp 4
      (fun x => { x with adding := false })
    ((m.setN E.BRIDGE_STATE 0 2).disarm .bridge).countPhases
  else m

def execBridgeEntryDone (t : Nat) (s : State) : Host.Outcome State Fault Refusal := execM t Mod.bridgeEntryDone s

/-- R108: BRIDGE is left where it is being entered or in force. -/
def Mod.bridgeExit (m : Mod) (code : Nat) : Mod :=
  if m.bridging then
    let m := m.bridgeLeave code
    m.when (code != 4 && m.n E.TRANS_STATE 0 == 0) (·.setN E.TRANS_STATE 0 1)
  else m

/-- R107: the normal exit has come to its end: the duty is down and V_ref at its target. -/
def Mod.bridgeExitDone (m : Mod) : Mod :=
  if m.n E.BRIDGE_STATE 0 == 3 && m.due .bridge && m.vsetDone then
    (({ m with reg := { m.reg with bridgeDuty := 0 } } : Mod).setN E.BRIDGE_STATE 0 0).disarm .bridge
  else m

def execBridgeExitDone (t : Nat) (s : State) : Host.Outcome State Fault Refusal := execM t Mod.bridgeExitDone s

/-! ## BLACKSTART (R109 to R111) -/

/-- R110: step 2 ends when BAT is qualified, step 3 when the limits are fresh or not asked for; step 4 then begins. -/
def Mod.bsAdvance (m : Mod) : Mod :=
  let m := m.when (m.n E.BS_STATE 0 == 2 && m.qualified 4 && !m.recovering && m.n E.PATH_ACT 0 == 7) (·.setN E.BS_STATE 0 3)
  m.when (m.n E.BS_STATE 0 == 3 && m.n E.PATH_ACT 0 == 7 && (!m.b E.BS_BMS_REQ 0 || m.n E.BMS_FRESH 0 ≤ 1))
    (fun m => (((m.setN E.BS_STATE 0 4).prechargeStart 4).disarm (.precharge 4)).arm .bsPre (m.tb + ms 200))

/-- R110: step 1 ends: the BAT terminal lies within its window. -/
def Mod.bsTerminalLive (v : Rat) (m : Mod) : Mod :=
  if m.n E.PATH_ACT 0 == 7 && m.n E.BS_STATE 0 == 1 && decide (m.winLo 4 ≤ v) && decide (v ≤ m.winHi 4) then
    ((m.setN E.BS_STATE 0 2).disarm .bsCont).qualBegin 4
  else m

def execBsTerminalLive (t : Nat) (v : Rat) (s : State) : Host.Outcome State Fault Refusal :=
  execM t (Mod.bsTerminalLive v) s

/-- R110, R111: the BAT terminal was not live within BS_CONT_T. -/
def Mod.bsContTExpiry (m : Mod) : Mod :=
  if m.n E.PATH_ACT 0 == 7 && m.n E.BS_STATE 0 == 1 && m.due .bsCont then m.blackstartFail else m

def execBsContTExpiry (t : Nat) (s : State) : Host.Outcome State Fault Refusal := execM t Mod.bsContTExpiry s

/-- The two sides of a switch lie within 2 % of the terminal voltage (R122). -/
def joined (vInt vTerm : Rat) : Bool := decide (absR (vInt - vTerm) ≤ absR vTerm / 50)

/-- R110: step 4 ends: both sides within 2 %; the BAT switch closes. -/
def Mod.bsPrechargeDone (vInt vTerm : Rat) (m : Mod) : Mod :=
  if m.n E.PATH_ACT 0 == 7 && m.n E.BS_STATE 0 == 4 && joined vInt vTerm then
    ((m.connectPort 4).setN E.BS_STATE 0 5).disarm .bsPre
  else m

def execBsPrechargeDone (t : Nat) (vInt vTerm : Rat) (s : State) : Host.Outcome State Fault Refusal :=
  execM t (Mod.bsPrechargeDone vInt vTerm) s

/-- R110, R111: 200 ms have passed in step 4. -/
def Mod.bsPrechargeTimeout (m : Mod) : Mod :=
  if m.n E.PATH_ACT 0 == 7 && m.n E.BS_STATE 0 == 4 && m.due .bsPre then m.blackstartFail else m

def execBsPrechargeTimeout (t : Nat) (s : State) : Host.Outcome State Fault Refusal := execM t Mod.bsPrechargeTimeout s

/-- R110: the bus has been raised: V_ref stands at its target, and V_SYS within 2 % of it. -/
def Mod.sysSettled (m : Mod) : Bool :=
  decide (m.reg.vset = m.vsetEnd) && decide (absR (m.vSys - m.q E.V_REF 0) ≤ absR (m.q E.V_REF 0) / 50)

/-- R110: steps 5 and 6 at a mode tick: settling begins, and begins again when V_SYS leaves its band. After step 7 the run
is idle again. -/
def Mod.bsWatch (m : Mod) : Mod :=
  let m := (m.bsAdvance).when (m.n E.PATH_ACT 0 != 7 && m.n E.BS_STATE 0 == 7) (·.setN E.BS_STATE 0 0)
  if m.n E.PATH_ACT 0 == 7 && m.n E.BS_STATE 0 == 5 && m.n E.SST_STATE 1 != 0 && m.closed 5 && m.sysSettled then
    (m.setN E.BS_STATE 0 6).arm .bsSettle (m.tb + ms (m.n E.BS_SETTLE 0))
  else if m.n E.PATH_ACT 0 == 7 && m.n E.BS_STATE 0 == 6 && !m.sysSettled then
    m.arm .bsSettle (m.tb + ms (m.n E.BS_SETTLE 0))
  else m

/-- R110: step 7: ENV_REQ takes BS_TARGET as an internal request, and the resolution selects it at the same tick. -/
def Mod.bsSettleExpiry (m : Mod) : Mod :=
  if m.n E.PATH_ACT 0 == 7 && m.n E.BS_STATE 0 == 6 && m.due .bsSettle then
    let m := ((m.setN E.BS_STATE 0 7).disarm .bsSettle).disarm .bsTimeout
    (m.setN E.ENV_REQ 0 (m.n E.BS_TARGET 0)).resolve
  else m

def execBsSettleExpiry (t : Nat) (s : State) : Host.Outcome State Fault Refusal := execM t Mod.bsSettleExpiry s

/-- R110, R111: BS_TIMEOUT has run out over the steps. -/
def Mod.bsTimeout (m : Mod) : Mod :=
  if m.n E.PATH_ACT 0 == 7 && 1 ≤ m.n E.BS_STATE 0 && m.n E.BS_STATE 0 ≤ 6 && m.due .bsTimeout then m.blackstartFail
  else m

def execBsTimeout (t : Nat) (s : State) : Host.Outcome State Fault Refusal := execM t Mod.bsTimeout s

/-! ## SAFESTOP (R112, R113) -/

/-- R112: at the end of the ramp SAFE gates both stages off. -/
def Mod.ssRampEnd (m : Mod) : Mod :=
  if m.n E.SS_STATE 0 == 1 && m.due .ssRamp then
    (((m.gateOffBoth 5).setN E.SS_STATE 0 2).disarm .ssRamp).arm .ssOpen (m.tb + us 100)
  else m

def execSsRampEnd (t : Nat) (s : State) : Host.Outcome State Fault Refusal := execM t Mod.ssRampEnd s

/-- R112, R296, R299: SAFE opens the switches; CONT is released after BAT's; the link begins its discharge, by the chopper or,
where BRK is unavailable, by the internal bleeder (R69). In hold-up operation SAFE then commits the last fault record (R28, R306). -/
def Mod.ssSwitchOpen (m : Mod) : Mod :=
  if m.n E.SS_STATE 0 == 2 && m.due .ssOpen then
    let m := stopPorts.foldl Mod.openSwitch m
    let m := m.each 5 (fun k m => m.when (m.n E.QUAL_STATE k != 7) (·.qualTo k 0))
    let m := m.when (m.b E.SS_CONT_REL 0 || m.contHeld) Mod.contOff
    let m : Mod := { m with safe := { m.safe with bleeder := m.brkUnavail } }
    ((m.setN E.SS_STATE 0 3).disarm .ssOpen).when (m.phase == .holdup) Mod.lastRecord
  else m

def execSsSwitchOpen (t : Nat) (s : State) : Host.Outcome State Fault Refusal := execM t Mod.ssSwitchOpen s

/-- R112: the SYS link is below 60 V: stopped. -/
def Mod.ssLinkDischarged (vLink : Rat) (m : Mod) : Mod :=
  if m.n E.SS_STATE 0 == 3 && decide (vLink < 60) then
    { m with safe := { m.safe with bleeder := false } }.setN E.SS_STATE 0 4 else m

def execSsLinkDischarged (t : Nat) (vLink : Rat) (s : State) : Host.Outcome State Fault Refusal :=
  execM t (Mod.ssLinkDischarged vLink) s

/-! ## Overload timers (R97) -/

def Stage.idx : Stage → Nat
  | .a => 0
  | .b => 1

def ovlFam (g : Nat) : Fam := if g = 0 then E.OVL_A else E.OVL_B

/-- R97: the timer has reached 10 s: the stage is limited to its derated continuous rating. -/
def Mod.ovlExpiry (g : Nat) (m : Mod) : Mod :=
  if 100000 ≤ (m.stgOf g).ovl && !(m.stgOf g).ovlHeld then
    (m.modStg g (fun x => { x with ovlHeld := true })).setQ (ovlFam g) 0 10
  else m

def execOvlExpiry (t : Nat) (st : Stage) (s : State) : Host.Outcome State Fault Refusal :=
  execM t (Mod.ovlExpiry (Stage.idx st)) s

/-- R97: 60 s without a break at or below the rating: the timer returns to 0. -/
def Mod.ovlClear (g : Nat) (m : Mod) : Mod :=
  if 600000 ≤ (m.stgOf g).ovlClear then
    (m.modStg g (fun x => { x with ovl := 0, ovlHeld := false })).setQ (ovlFam g) 0 0
  else m

def execOvlClear (t : Nat) (st : Stage) (s : State) : Host.Outcome State Fault Refusal :=
  execM t (Mod.ovlClear (Stage.idx st)) s

end Sys2Proof.Machine
end

