-- ==== Sys2Proof/Machine/ProfileCmds.lean ====
section
/-! DEFINITION. Machine/ProfileCmds.lean: the events of the chapter Charging the Battery: step exits and time limits,
PULSE levels, battery-management ageing and waking (R222 to R228), thermistors (R231, R232) and the scan. -/

namespace Sys2Proof.Machine

open Sys2Proof

/-! ## Steps -/

/-- R210, R229, R230: exit `x` is taken. -/
def Mod.stepExit (x : Nat) (m : Mod) : Mod :=
  if m.regulating && m.exitStands == some x && m.suspendCause == 0 then
    let j := m.stepIdx
    let target := m.exitTarget j x
    let m := m.leaveStep (some x)
    if m.recovering then
      if 16 ≤ target then m.recoveryFail
      else (m.when m.batInWindow (·.setN E.DEAD_STATE 0 2)).go target
    else m.go target
  else m

def execStepExit (t : Nat) (x : Nat) (s : State) : Host.Outcome State Fault Refusal := execM t (Mod.stepExit x) s

/-- R211, R229: STEP_TIME has reached T_MAX and no exit is taken at that tick. -/
def Mod.stepTimeout (m : Mod) : Mod :=
  let tmax := m.q E.T_MAX m.stepIdx
  if m.regulating && m.suspendCause == 0 && decide (0 < tmax) && decide (tmax ≤ mkRat m.prof.ticks 10000) &&
      m.exitStands.isNone then
    let m := m.leaveStep (some 4)
    if m.recovering then m.recoveryFail else (m.profileEnd 3).autoClose
  else m

def execStepTimeout (t : Nat) (s : State) : Host.Outcome State Fault Refusal := execM t Mod.stepTimeout s

/-- R218: a request of requester 0x4400 completes with a status other than OK or ACCEPTED. -/
def Mod.stepRequestFail (index sub status : Nat) (m : Mod) : Mod :=
  if m.stepRunning && status != 0 && status != 1 then
    let m := m.logPut (m.record 0x0F00 0 0xFF 0xFF 0 index sub status [])
    ((m.leaveStep none).profileEnd 7).autoClose
  else m

def execStepRequestFail (t : Nat) (index sub status : Nat) (s : State) : Host.Outcome State Fault Refusal :=
  execM t (Mod.stepRequestFail index sub status) s

/-- R203, R206: a PULSE step changes its level at the end of SP_T or SP_T2, without a ramp. -/
def Mod.pulseChange (m : Mod) : Mod :=
  let j := m.stepIdx
  let p := m.prof
  let len := if p.pulseLow then m.q E.SP_T2 j else m.q E.SP_T j
  if m.regulating && m.n E.KIND j == 6 && decide (len ≤ mkRat (p.ticks - p.pulseFrom) 10000) then
    ({ m with prof := { p with pulseLow := !p.pulseLow, pulseFrom := p.ticks,
                               pulses := if p.pulseLow then p.pulses else p.pulses + 1 } } : Mod).postRefs.moveRef
  else m

def execPulseLevelChange (t : Nat) (s : State) : Host.Outcome State Fault Refusal := execM t Mod.pulseChange s

/-! ## Battery management (R222 to R224) -/

/-- R223: BMS_AGE in TB ticks. -/
def Mod.bmsAge (m : Mod) : Nat := m.tb - m.bms.last.foldl min m.tb

/-- R223: the state that an age gives. -/
def Mod.freshOf (m : Mod) (age : Nat) : Nat :=
  if m.n E.BMS_SRC 0 = 0 ∨ !m.bms.written then 3
  else if age ≤ ms (m.n E.BMS_STALE_T 0) then 0
  else if age ≤ ms (m.n E.BMS_STALE_T 0 + m.n E.BMS_GRACE_T 0) then 1
  else 2

/-- BMS_AGE shows the age, in ms. -/
def Mod.ageShow (m : Mod) : Mod := m.setQ E.BMS_AGE 0 (minR 4300000000 (mkRat m.bmsAge 100000))

/-- R228: the series ends and WAKE reads 0. -/
def Mod.wakeEnd (m : Mod) : Mod :=
  (({ m with bms := { m.bms with wake := false, waiting := false } } : Mod).disarm .bmsWake).flagsRefresh

/-- R223, R228, R458: BMS_FRESH takes a state. -/
def Mod.setFresh (m : Mod) (f : Nat) : Mod :=
  let old := m.n E.BMS_FRESH 0
  let m := m.setN E.BMS_FRESH 0 f
  let m := m.when (f == 2 && old != 2) (fun m => (m.inc E.BMS_STALE_CNT 0).alertSet 5)
  m.when (f == 0 && m.bms.wake) Mod.wakeEnd

/-- R222 to R224: the source named by BMS_SRC writes entry `f`, number `i` of the five that age, or none of them. -/
def Mod.bmsPut (m : Mod) (f : Fam) (v : Nat) (i : Option Nat) : Mod :=
  let fault := !m.bmsFlag 6
  let m := m.setN f 0 v
  let m : Mod := match i with
    | some i => { m with bms := { m.bms with last := setAt 0 m.bms.last i m.tb, written := true } }
    | none => m
  let m := m.when (f == E.BMS_FLAGS) (fun m => { m with bms := { m.bms with contReq := m.bmsFlag 5 } })
  m.when (f == E.BMS_FLAGS && fault && m.bmsFlag 6) (·.noteAt E.BMS_FLAGS 0)

/-- R223: after a write, the age and the state follow. -/
def Mod.bmsSettle (m : Mod) : Mod := (m.setFresh (m.freshOf m.bmsAge)).ageShow

/-- R222, R223: BMS_SRC changes, and at start-up: no limit has been written since. -/
def Mod.bmsRestart (m : Mod) : Mod :=
  (({ m with bms := { m.bms with last := List.replicate 5 m.tb, written := false } } : Mod).setN E.BMS_FRESH 0 3).ageShow

/-- R222: a write from a source that BMS_SRC does not name is ignored and counted. -/
def Mod.bmsReject (m : Mod) : Mod := m.inc E.BMS_SRC_REJ 0

/-- R223: BMS_AGE has passed BMS_STALE_T. -/
def Mod.bmsAging (m : Mod) : Mod :=
  if m.n E.BMS_FRESH 0 == 0 && ms (m.n E.BMS_STALE_T 0) < m.bmsAge && m.freshOf m.bmsAge == 1 then (m.setFresh 1).ageShow
  else m

def execBmsAging (t : Nat) (s : State) : Host.Outcome State Fault Refusal := execM t Mod.bmsAging s

/-- R223: BMS_AGE has passed the grace. -/
def Mod.bmsStale (m : Mod) : Mod :=
  if m.n E.BMS_FRESH 0 ≤ 1 && m.freshOf m.bmsAge == 2 then (m.setFresh 2).ageShow else m

def execBmsStale (t : Nat) (s : State) : Host.Outcome State Fault Refusal := execM t Mod.bmsStale s

/-! ## Waking (R228, R467, R472) -/

/-- R472: the status frame of CAN port `u`. -/
def Mod.statusFrame (m : Mod) (u : Nat) : CanFrame :=
  { bus := u, id := m.n E.CAN_OD_BASE u, ext := false, fd := false,
    data := [m.n E.CAN_NODE u, 0] ++ leBytes 2 (m.n E.MOD_FLAGS 0) ++
      leBytes 2 (ofSigned 16 (roundR (10 * m.q E.CHG_IREF 0))) ++
      leBytes 2 (roundR (10 * m.q E.CHG_ILIM_EFF 0)).toNat }

/-- R463: the Write Word of MOD_FLAGS. -/
def Mod.flagsWord (m : Mod) : List Nat := 0x31 :: leBytes 2 (m.n E.MOD_FLAGS 0)

/-- R228: the wake action of the transport that BMS_SRC names. -/
def Mod.wakeAction (m : Mod) : Mod :=
  match m.n E.BMS_SRC 0 with
  | 1 | 2 =>
    let u := m.n E.BMS_SRC 0 - 1
    let m := (List.range 3).foldl (fun m _ => m.emit (.twoWire (u + 1) (m.n E.B2W_TARGET u) [])) m
    m.emit (.twoWire (u + 1) (m.n E.B2W_TARGET u) m.flagsWord)
  | 3 =>
    (List.range 2).foldl (fun m u => if m.b E.CAN_EN u then
      (List.range 3).foldl (fun m _ => m.canSend u 0xFFFF 0 (m.statusFrame u)) m else m) m
  | _ => m

/-- R228: a wake series starts at a tick at which its conditions hold. -/
def Mod.wakeStart (m : Mod) : Mod :=
  let env := m.n E.ENV_EFF 0
  let ready := match m.bms.series with
    | none => true
    | some t => decide (t + sec 600 ≤ m.tb) || m.bms.released
  if !m.bms.wake && m.b E.BMS_WAKE_EN 0 && m.n E.BMS_SRC 0 != 0 && 2 ≤ m.n E.BMS_FRESH 0 &&
      (env == 3 || env == 4 || env == 5 || env == 6 || env == 10) && ready then
    let m : Mod := { m with bms := { m.bms with wake := true, waiting := false, tries := 0, series := some m.tb,
                                                released := false } }
    (m.flagsRefresh.wakeAction).arm .bmsWake (m.tb + ms (m.n E.BMS_WAKE_T 0))
  else m

/-- R228: an attempt has failed; after BMS_WAKE_TRIES of them the series ends. -/
def Mod.wakeFail (m : Mod) : Mod :=
  if m.bms.wake && !m.bms.waiting && m.due .bmsWake then
    let m : Mod := { m with bms := { m.bms with tries := m.bms.tries + 1 } }
    if m.n E.BMS_WAKE_TRIES 0 ≤ m.bms.tries then (m.wakeEnd).noteAt E.BMS_WAKE_TRIES 0
    else ({ m with bms := { m.bms with waiting := true } } : Mod).arm .bmsWake (m.tb + sec 10)
  else m

def execBmsWakeAttemptFail (t : Nat) (s : State) : Host.Outcome State Fault Refusal := execM t Mod.wakeFail s

/-- R228: 10 s after a failed attempt the wake action is sent again. -/
def Mod.wakeResend (m : Mod) : Mod :=
  if m.bms.wake && m.bms.waiting && m.due .bmsWake then
    (({ m with bms := { m.bms with waiting := false } } : Mod).wakeAction).arm .bmsWake
      (m.tb + ms (m.n E.BMS_WAKE_T 0))
  else m

def execBmsWakeResend (t : Nat) (s : State) : Host.Outcome State Fault Refusal := execM t Mod.wakeResend s

/-! ## CONT (R227) -/

/-- R227, R299: SUP1's request of this tick. CONT is released once the BAT switch is open. In mode 0 only what BLACKSTART asked
stands, until SAFESTOP (assumption log 24). -/
def Mod.contRequest (m : Mod) : Mod :=
  let path := m.n E.PATH_ACT 0
  let env := m.n E.ENV_EFF 0
  let bs := path == 7 && m.n E.BS_STATE 0 == 1
  let want := bs || (match m.n E.BMS_CONT_MODE 0 with
    | 0 => m.safe.contBs
    | 1 => m.bms.contReq
    | _ => env != 0 && env != 1 && env != 8)
  if path = 8 then
    m.when (2 ≤ m.n E.SS_STATE 0 && m.b E.SS_CONT_REL 0) 
      (fun m => { m with safe := { m.safe with contReq := false, contBs := false } })
  else
    let m : Mod := { m with safe := { m.safe with contReq := want, contBs := bs || m.safe.contBs } }
    if want then m.contClose
    else (m.when (m.safe.contOn && !m.closed 4) Mod.contOff).when (m.n E.CONT_STATE 0 == 4) (·.setN E.CONT_STATE 0 0)

/-! ## Thermistors (R231, R232) -/

/-- R231, R47: what a resistance says of an enabled input: good, open above 400 kΩ, short below 100 Ω. -/
def tempClass (ohms : Rat) : Nat := if 400000 < ohms then 2 else if ohms < 100 then 3 else 1

/-- R231: input `j` is read: filtered over 1 s within R47's range, and classed. -/
def Mod.tempRead (j : Nat) (m : Mod) : Mod :=
  let x := (m.sens.temp[j]?).getD { ohms := 1000000, celsius := 0 }
  let old := m.n E.TEMP_STATE j
  let st := if m.b E.TEMP_EN j then tempClass x.ohms else 0
  let m := if tempClass x.ohms = 1 then
      let f := (m.bms.temps[j]?).getD 0
      let g := grid (f + (x.celsius - f) / 10000)
      ({ m with bms := { m.bms with temps := setAt 0 m.bms.temps j g } } : Mod).setQ E.TEMP_VAL j (clampR (-40) 125 g)
    else m
  let m := m.setN E.TEMP_STATE j st
  m.when (2 ≤ st && old ≤ 1) (·.note E.TEMP_STATE j (.num old))

/-- R232: the factors at a temperature. -/
def coldFactor (stop full t : Rat) : Rat := if t < stop then 0 else if full ≤ t then 1 else (t - stop) / (full - stop)
def hotFactor (full stop t : Rat) : Rat := if stop < t then 0 else if t ≤ full then 1 else (stop - t) / (stop - full)

/-- R231, R232: every input is read, and TD_F follows. -/
def Mod.tempTick (m : Mod) : Mod :=
  let m := m.each 4 Mod.tempRead
  let en := (List.range 4).filter (m.b E.TEMP_EN)
  let good := en.filter (fun j => m.n E.TEMP_STATE j == 1)
  match good with
  | [] => m.setQ E.TD_F 0 (if en.isEmpty then 1 else m.q E.TD_FAIL 0)
  | j :: js =>
    let hi := js.foldl (fun a k => maxR a (m.q E.TEMP_VAL k)) (m.q E.TEMP_VAL j)
    let lo := js.foldl (fun a k => minR a (m.q E.TEMP_VAL k)) (m.q E.TEMP_VAL j)
    let f := minR (coldFactor (m.q E.TD_COLD_STOP 0) (m.q E.TD_COLD_FULL 0) lo)
      (hotFactor (m.q E.TD_HOT_FULL 0) (m.q E.TD_HOT_STOP 0) hi)
    let f := if good.length < en.length then minR f (m.q E.TD_FAIL 0) else f
    ((m.setQ E.TD_TEMP_HI 0 hi).setQ E.TD_TEMP_LO 0 lo).setQ E.TD_F 0 f

/-! ## The scan -/

def execScanStart (t : Nat) (s : State) : Host.Outcome State Fault Refusal := execM t Mod.scanStart s

def execScanPointDone (t : Nat) (x : ScanPoint) (s : State) : Host.Outcome State Fault Refusal :=
  execM t (Mod.scanPoint x) s

end Sys2Proof.Machine
end

