-- ==== Sys2Proof/Machine/SourceCmds.lean ====
section
/-! DEFINITION. Machine/SourceCmds.lean: the events of the chapter Input Sources: qualification, precharge, leaving and
returning (R119 to R129), pilots (R33), reverse current (R145) and adaptive limiting (R139 to R143). -/

namespace Sys2Proof.Machine

open Sys2Proof

/-! ## Qualification (R120 to R123) -/

/-- R120, R103: the terminal lies within the port's window. -/
def Mod.inWindow (m : Mod) (k : Nat) (v : Rat) : Bool := decide (m.qualLow k ≤ v) && decide (v ≤ m.winHi k)

/-- R120: a port in WINDOW whose terminal lies within the window starts its insertion delay. -/
def Mod.windowEnter (k : Nat) (v : Rat) (m : Mod) : Mod :=
  if k < 5 && m.n E.QUAL_STATE k == 1 && m.portUsable k && qualRuns (m.n E.PATH_ACT 0) && m.inWindow k v then m.qualDelay k
  else m

def execQualWindowEnter (t : Nat) (k : Nat) (v : Rat) (s : State) : Host.Outcome State Fault Refusal :=
  execM t (Mod.windowEnter k v) s

/-- R120, R123: an excursion in DELAY, QUALIFIED or PRECHARGE returns the port to WINDOW. -/
def Mod.windowExcursion (k : Nat) (v : Rat) (m : Mod) : Mod :=
  let st := m.n E.QUAL_STATE k
  if k < 5 && (st == 2 || st == 3 || st == 4) && !m.inWindow k v then (m.openSwitch k).qualTo k 1 else m

def execQualWindowExcursion (t : Nat) (k : Nat) (v : Rat) (s : State) : Host.Outcome State Fault Refusal :=
  execM t (Mod.windowExcursion k v) s

/-- R120, R103, R229: the insertion delay ends. A BAT below its normal window enters recovery; one inside it neither
recovers nor has recovered since this qualification (R115). -/
def Mod.insertionExpiry (k : Nat) (m : Mod) : Mod :=
  if k < 5 && m.n E.QUAL_STATE k == 2 && m.due (.insertion k) then
    let m := m.qualTo k 3
    if k = 4 then
      if decide (m.vPort 4 < m.winLo 4) then m.recoveryEntry
      else ((m.setN E.DEAD_STATE 0 0).flagsRefresh).bsAdvance
    else m
  else m

def execInsertionDelayExpiry (t : Nat) (k : Nat) (s : State) : Host.Outcome State Fault Refusal :=
  execM t (Mod.insertionExpiry k) s

/-- R122: both sides lie within 2 %: the switch closes and the port is CONNECTED. -/
def Mod.prechargeDone (k : Nat) (vInt vTerm : Rat) (m : Mod) : Mod :=
  if k < 5 && m.n E.QUAL_STATE k == 4 && !(k == 4 && m.n E.PATH_ACT 0 == 7) && joined vInt vTerm then m.connectPort k else m

def execPrechargeDone (t : Nat) (k : Nat) (vInt vTerm : Rat) (s : State) : Host.Outcome State Fault Refusal :=
  execM t (Mod.prechargeDone k vInt vTerm) s

/-- R123: a precharge that has not ended within 250 ms fails; the third in succession leaves the port in PRE_FAILED. -/
def Mod.prechargeTimeout (k : Nat) (m : Mod) : Mod :=
  if k < 5 && m.n E.QUAL_STATE k == 4 && m.due (.precharge k) then m.prechargeFail k else m

def execPrechargeTimeout (t : Nat) (k : Nat) (s : State) : Host.Outcome State Fault Refusal :=
  execM t (Mod.prechargeTimeout k) s

/-! ## Leaving and returning (R124 to R129) -/

/-- R124, R127: the edge below which a CONNECTED port rides. -/
def Mod.rideEdge (m : Mod) (k : Nat) : Rat := if k = 4 ∧ m.recovering then m.cq E.DEAD_VMIN 0 else m.cq E.QUAL_UV k

/-- R124, R127, R167: a port's ceiling falls to 0: an input's phases leave by force, and Stage B asks BAT for no current. -/
def Mod.ceilingZero (m : Mod) (k : Nat) : Mod :=
  if k < 4 then (m.zeroCeil k).forcedShed k
  else if k = 4 then ((m.setQ E.CHG_IREF 0 0).modGrp 4 (fun x => { x with iref := 0 })).shareRef 4
  else m

/-- R129: a drop is counted, and FLAP_N of them within FLAP_W lengthen the insertion delay. -/
def Mod.countDrop (m : Mod) (k : Nat) : Mod :=
  let recent := m.tb :: (m.qualOf k).drops.filter (fun t => m.tb < t + sec (m.cn E.FLAP_W 0))
  let m := (m.inc E.QUAL_DROPS k).modQual k (fun x => { x with drops := recent })
  m.when (m.cn E.FLAP_N 0 ≤ recent.length) (fun m =>
    let old := m.getV E.QUAL_DLY_EFF k
    (m.setN E.QUAL_DLY_EFF k 10000).note E.QUAL_DLY_EFF k old)

/-- R124 to R126, R145: a CONNECTED port leaves: ceiling 0, switch open, WINDOW. -/
def Mod.dropPort (m : Mod) (k cause : Nat) : Mod :=
  let m := ((m.ceilingZero k).openSwitch k).qualTo k 1
  ((m.setCause k cause).disarm (.flap k)).countDrop k

/-- R119: CONNECTED or RIDE. -/
def Mod.inService (m : Mod) (k : Nat) : Bool := m.n E.QUAL_STATE k == 5 || m.n E.QUAL_STATE k == 6

/-- R124: a CONNECTED terminal falls below its edge. -/
def Mod.rideEntry (k : Nat) (v : Rat) (m : Mod) : Mod :=
  if k < 5 && m.n E.QUAL_STATE k == 5 && decide (v < m.rideEdge k) then
    ((m.ceilingZero k).qualTo k 6).arm (.ride k) (m.tb + ticksMs (m.cq E.QUAL_RIDE_T k))
  else m

def execRideEntry (t : Nat) (k : Nat) (v : Rat) (s : State) : Host.Outcome State Fault Refusal :=
  execM t (Mod.rideEntry k v) s

/-- R124, R217: the terminal is back within QUAL_RIDE_T. -/
def Mod.rideReturn (k : Nat) (v : Rat) (m : Mod) : Mod :=
  if k < 5 && m.n E.QUAL_STATE k == 6 && !m.due (.ride k) && decide (m.rideEdge k < v) then
    (m.qualTo k 5).when (k == 4) Mod.autostart
  else m

def execRideReturn (t : Nat) (k : Nat) (v : Rat) (s : State) : Host.Outcome State Fault Refusal :=
  execM t (Mod.rideReturn k v) s

/-- R124, R127: QUAL_RIDE_T has run out: the port drops, or BAT stays CONNECTED in recovery. -/
def Mod.rideExpiry (k : Nat) (v : Rat) (m : Mod) : Mod :=
  if k < 5 && m.n E.QUAL_STATE k == 6 && m.due (.ride k) then
    if k = 4 ∧ m.n E.PATH_ACT 0 = 3 ∧ m.cb E.DEAD_EN 0 ∧ m.cq E.DEAD_VMIN 0 ≤ v ∧ m.cq E.DEAD_VMIN 0 < m.winLo 4 then
      (m.qualTo 4 5).when (!m.recovering) Mod.recoveryEntry
    else m.dropPort k 1
  else m

def execRideExpiry (t : Nat) (k : Nat) (v : Rat) (s : State) : Host.Outcome State Fault Refusal :=
  execM t (Mod.rideExpiry k v) s

/-- R129: CONNECTED for FLAP_W without a drop. -/
def Mod.flapExpiry (k : Nat) (m : Mod) : Mod :=
  if k < 5 && m.inService k && m.due (.flap k) then
    (m.setN E.QUAL_DLY_EFF k (m.n E.QUAL_DLY k)).disarm (.flap k)
  else m

def execFlapWExpiry (t : Nat) (k : Nat) (s : State) : Host.Outcome State Fault Refusal := execM t (Mod.flapExpiry k) s

/-- R128: a cause acts on a port: one in service drops, and for one that has dropped in this mode tick the cause counts for
QUAL_CAUSE. -/
def Mod.leave (m : Mod) (k cause : Nat) : Mod :=
  if m.inService k then m.dropPort k cause
  else m.when ((m.qualOf k).causeAt == m.modes.tickNo + 1 && m.n E.QUAL_CAUSE k != 5) (·.setCause k cause)

/-- R125: the terminal falls faster than 100 V/ms (`fall`, V/ms over 20 µs) or below half its edge. -/
def Mod.collapse (k : Nat) (v fall : Rat) (m : Mod) : Mod :=
  if k < 5 && (decide (100 < fall) || decide (v < m.rideEdge k / 2)) then m.leave k 3 else m

def execInputCollapse (t : Nat) (k : Nat) (v fall : Rat) (s : State) : Host.Outcome State Fault Refusal :=
  execM t (Mod.collapse k v fall) s

/-- R126: the terminal of a CONNECTED port rises above QUAL_OV. -/
def Mod.overvoltage (k : Nat) (v : Rat) (m : Mod) : Mod :=
  if k < 5 && decide (m.cq E.QUAL_OV k < v) then m.leave k 2 else m

def execPortOvervoltage (t : Nat) (k : Nat) (v : Rat) (s : State) : Host.Outcome State Fault Refusal :=
  execM t (Mod.overvoltage k v) s

/-- R145: more than 2 A flow back into an input that is not bidirectional. -/
def Mod.reverseFault (k : Nat) (i : Rat) (m : Mod) : Mod :=
  if k < 4 && !m.cb E.IN_BIDIR k && decide (i < -2) then (m.leave k 6).when (m.inService k) (·.raise 1 5 (some i)) else m

def execReverseCurrentFault (t : Nat) (k : Nat) (i : Rat) (s : State) : Host.Outcome State Fault Refusal :=
  execM t (Mod.reverseFault k i) s

/-! ## Pilots (R33) -/

/-- R33: the pilot pair opens: SAFE opens the switch, without a trip. -/
def Mod.pilotOpened (k : Nat) (m : Mod) : Mod :=
  if k < 8 && !(m.protOf k).pilotOpen then
    let m := (m.modProt k (fun x => { x with pilotOpen := true })).ceilingZero k
    let m := m.openSwitch k
    m.when (k < 5) (fun m => (m.qualTo k 0).setCause k 4)
  else m

def execPilotOpen (t : Nat) (k : Nat) (s : State) : Host.Outcome State Fault Refusal := execM t (Mod.pilotOpened k) s

/-- R33, R123: the pilot pair closes: qualification starts from the beginning; BRK and AUX24, which are not qualified, close. -/
def Mod.pilotClosed (k : Nat) (m : Mod) : Mod :=
  if k < 8 && (m.protOf k).pilotOpen then
    let m := m.modProt k (fun x => { x with pilotOpen := false })
    let m := m.when (6 ≤ k && m.portUsable k) (·.closeSwitch k)
    m.when (k < 5) (fun m => (m.setN E.QUAL_PREFAIL k 0).when (qualRuns (m.n E.PATH_ACT 0)) (·.qualBegin k))
  else m

def execPilotClose (t : Nat) (k : Nat) (s : State) : Host.Outcome State Fault Refusal := execM t (Mod.pilotClosed k) s

/-! ## Adaptive limiting (R139 to R143) -/

/-- R141: the floor of an input's terminal voltage: by its estimate where that is valid, and the window's edge. -/
def Mod.vFloor (m : Mod) (k : Nat) : Rat :=
  if m.n E.ADAPT_STATE k == 1 then maxR (m.cq E.ADAPT_VFLR 0 / 100 * m.q E.ADAPT_VOC k) (m.winLo k) else m.winLo k

/-- R139: Stage B can carry what a step of `w` W takes from an input: coupled and running on a BAT in service, within what R221
leaves it to discharge. -/
def Mod.batCarries (m : Mod) (w : Rat) : Bool :=
  m.n E.COUPLING_ACT 0 != 0 && m.running 1 && m.n E.QUAL_STATE 4 == 5 &&
    decide (w ≤ (m.disNow m.vBat + m.iPort 4) * m.vBat)

/-- R139: ΔI for an input that draws `i`. -/
def Mod.adaptStep (m : Mod) (k : Nat) (i : Rat) : Rat :=
  let d := clampR 1 5 (m.cq E.ADAPT_STEP 0 / 100 * i)
  let other := (List.range 4).any (fun j => j != k && m.n E.QUAL_STATE j == 5 &&
    decide (d ≤ (m.inpOf j).ceil - m.iPort j)) || m.batCarries (d * m.vPort k)
  if other ∨ m.vPort k ≤ 0 then d else minR d (dec 6 3 * m.vSys * m.vSys / m.vPort k)

/-- R140: no step is made now. -/
def Mod.adaptBlocked (m : Mod) (k : Nat) : Bool :=
  m.intentPending 0 || m.intentPending 1 || (m.grpOf k).adding ||
  (m.groupPhases k).any (fun p => m.n E.PH_STATE p == 3 || m.n E.PH_STATE p == 5) || m.n E.IN_CEIL_SRC k == 7 ||
  (m.inpOf k).polTop.isSome

/-- R139, R140, R143: the interval between measurements ends: the input's current reference falls by ΔI for the step. DESIGN
CHOICE (assumption log 96): while another input is measured, or in the mode tick in which its step has ended, the step is put off
by 600 µs. -/
def Mod.adaptExpiry (k : Nat) (m : Mod) : Mod :=
  if k < 4 && m.n E.QUAL_STATE k == 5 && m.due (.adapt k) then
    if (List.range 4).any (fun j => j != k && ((m.inpOf j).stepping.isSome || (m.inpOf j).stepEnd == m.modes.tickNo + 1)) then m.arm (.adapt k) (m.tb + us 600)
    else
      let m := m.arm (.adapt k) (m.tb + ms (if (m.inpOf k).starting then 50 else m.cn E.ADAPT_PERIOD 0))
      if !m.cb E.ADAPT_EN 0 || !decide (0 < m.iPort k) then m
      else if m.adaptBlocked k then m.setN E.ADAPT_STATE k 3
      else
        let d := m.adaptStep k (m.iPort k)
        m.modInp k (fun x => { x with stepping := some d, stepTop := maxR 0 (x.take - d) })
  else m

def execAdaptPeriodExpiry (t : Nat) (k : Nat) (s : State) : Host.Outcome State Fault Refusal :=
  execM t (Mod.adaptExpiry k) s

/-- R140, R143: a step is discarded; the sixteenth in succession lets the estimate lapse and ends start-up. -/
def Mod.adaptDiscard (m : Mod) (k : Nat) : Mod :=
  let n := (m.inpOf k).discards + 1
  if 16 ≤ n then (m.modInp k (fun x => { x with discards := 0, ests := [], starting := false })).setN E.ADAPT_STATE k 0
  else m.modInp k (fun x => { x with discards := n })

/-- R139, R141: the means of the latest estimates, and the limit they give. -/
def Mod.adaptLimit (m : Mod) (k : Nat) : Mod :=
  let es := (m.inpOf k).ests
  let n : Rat := (es.length : Nat)
  let r := (es.map (·.1)).sum / n
  let voc := (es.map (·.2)).sum / n
  let m := ((m.setQ E.ADAPT_RS k r).setQ E.ADAPT_VOC k voc).setN E.ADAPT_STATE k 1
  let lim := if r ≤ 0 then 160 else (1 - m.cq E.ADAPT_MARGIN 0 / 100) * (voc - m.vFloor k) / r
  m.setQ E.ADAPT_ILIM k (clampR 0 160 lim)

/-- R139 to R141: the step ends: `v` and `i` before it, `dv` its voltage change, `loadChange` that of the SYS load in
per cent. -/
def Mod.adaptDone (k : Nat) (v i dv loadChange : Rat) (m : Mod) : Mod :=
  match (m.inpOf k).stepping with
  | none => m
  | some d =>
    let m := m.modInp k (fun x => { x with stepping := none, stepEnd := m.modes.tickNo + 1 })
    if 5 < absR loadChange then m.adaptDiscard k
    else if dv < dec 2 1 ∨ d ≤ 0 ∨ dv / d < 0 ∨ 50 < dv / d then (m.setN E.ADAPT_STATE k 2).adaptDiscard k
    else
      let r := grid (dv / d)
      let es := ((r, grid (v + i * r)) :: (m.inpOf k).ests).take 8
      (m.modInp k (fun x => { x with ests := es, discards := 0, starting := x.starting && es.length < 2 })).adaptLimit k

def execAdaptStepDone (t : Nat) (k : Nat) (v i dv loadChange : Rat) (s : State) : Host.Outcome State Fault Refusal :=
  execM t (Mod.adaptDone k v i dv loadChange) s

/-- R142: the terminal of a drawing input has fallen below its floor: the ceiling is cut. DESIGN CHOICE (assumption log 104): every
cut counts in ADAPT_BACKOFFS, each loop period's 10 % without an estimate among them. -/
def Mod.adaptBackoff (k : Nat) (v i : Rat) (m : Mod) : Mod :=
  if k < 4 && m.n E.QUAL_STATE k == 5 && m.cb E.ADAPT_EN 0 && decide (0 < i) && decide (v < m.vFloor k) then
    let r := m.q E.ADAPT_RS k
    let now := (m.inpOf k).ceil
    let c := if m.n E.ADAPT_STATE k == 1 then (if r ≤ 0 then now else minR now (i - (m.vFloor k - v) / r)) else now - i / 10
    let c := grid (maxR 0 c)
    ((m.modInp k (fun x => { x with ceil := c, free := minR x.free c })).setQ E.IN_ICEIL k c).inc E.ADAPT_BACKOFFS k
  else m

def execAdaptBackoff (t : Nat) (k : Nat) (v i : Rat) (s : State) : Host.Outcome State Fault Refusal :=
  execM t (Mod.adaptBackoff k v i) s

end Sys2Proof.Machine
end

