-- ==== Sys2Proof/Machine/StageCmds.lean ====
section
/-! DEFINITION. Machine/StageCmds.lean: the commands of the chapter Multiphase Converter Control: the voltage-loop period
(R158), the switching period (R168), adding and shedding (R163 to R167), phase faults (R171), soft start and soft stop
(R177 to R180), remote sense (R185) and intents (R187 to R194). The loops' compensators are not given: their outputs are
operands (assumption log 8). -/

namespace Sys2Proof.Machine

open Sys2Proof

/-! ## The reference (R88, R89, R175) -/

/-- One voltage-loop period, ms. -/
def loopMs : Rat := dec 625 5

/-- R177: a stage raises a dead bus. -/
def Mod.deadRamp (m : Mod) (g : Nat) : Bool := (m.stgOf g).deadBus && m.n E.SST_STATE g == 2

/-- R177: the ramp of a dead bus, V per ms; in BLACKSTART by BS_RAMP_T. -/
def Mod.deadRate (m : Mod) : Rat :=
  m.cq E.SYS_VSET 0 / (if m.n E.PATH_ACT 0 = 7 then m.cq E.BS_RAMP_T 0 * 1000 else m.cq E.SST_RAMP 0)

/-- R88, R89, R177: V_set moves for one period while its stage runs: at SYS_SLEW, or along the ramp of a dead bus. -/
def Mod.moveVset (m : Mod) : Mod :=
  match m.regStage with
  | none => m
  | some g =>
    if !m.running g then m
    else
      let d := (if m.deadRamp g then m.deadRate else m.cq E.SYS_SLEW 0) * loopMs
      let goal := m.vsetEnd
      let v := m.reg.vset
      { m with reg := { m.reg with vset := grid (if goal < v - d then v - d else if v + d < goal then v + d else goal) } }

/-- R175: the trim of V_ref; there is none under SOLO. -/
def Mod.trimNow (m : Mod) : Rat := if m.n E.SHARE_ROLE 0 = 0 then 0 else m.q E.LL_TRIM 0

/-- R175: I_f, the droop term with its bound, V_ref, which stays at or below 1015 V (R288). While Stage B is bridged the load line
has no effect (R176). -/
def Mod.loadLine (m : Mod) (iSys : Rat) : Mod :=
  let tau := m.cq E.LL_TAU 0
  let step := if tau ≤ dec 625 2 then 1 else dec 625 2 / tau
  let iF := grid (m.reg.iF + (iSys - m.reg.iF) * step)
  let bound := m.cq E.LL_MAXDEV 0 / 100 * m.cq E.SYS_VSET 0
  let droop := if m.n E.BRIDGE_STATE 0 = 2 then 0 else clampR (-bound) bound (m.cq E.LL_R 0 / 1000 * iF)
  let m : Mod := { m with reg := { m.reg with iF := iF } }
  let ref := m.reg.vset + m.trimNow + m.q E.INT_PB_V 0 - droop
  (m.setQ E.LL_DROOP_V 0 (clampR (-100) 100 droop)).setQ E.V_REF 0 (clampR 0 1015 ref)

/-- R195, R317: the load-line voltage at a SYS current of `iSys`, without pre-bias and without the filter's lag. -/
def Mod.finalRef (m : Mod) (iSys : Rat) : Rat :=
  let bound := m.cq E.LL_MAXDEV 0 / 100 * m.cq E.SYS_VSET 0
  m.reg.vset + m.trimNow - (if m.n E.BRIDGE_STATE 0 = 2 then 0 else clampR (-bound) bound (m.cq E.LL_R 0 / 1000 * iSys))

/-! ## Limits of a stage (R177, R178, R181) -/

/-- R177, R178: the current limit's fraction moves for one period: up over SST_IRAMP in SST_STATE 2, down along a soft
stop or a stop. -/
def Mod.moveLim (m : Mod) (g : Nat) : Mod :=
  let x := m.stgOf g
  if x.stopping then
    m.modStg g (fun x => { x with lim := if x.stopMs ≤ 0 then 0 else grid (maxR 0 (x.lim - x.limFrom * loopMs / x.stopMs)) })
  else if m.n E.SST_STATE g == 2 && !m.gated g then
    m.modStg g (fun x => { x with lim := grid (minR 1 (x.lim + loopMs / m.cq E.SST_IRAMP g)) })
  else m

/-- R107: Stage B's duty moves toward 100 % as BRIDGE is entered, and back as it is left, for one period. -/
def Mod.moveDuty (m : Mod) : Mod :=
  let d := loopMs / m.cq E.BRIDGE_RAMP 0
  let x := m.reg.bridgeDuty
  let y := match m.n E.BRIDGE_STATE 0 with
    | 1 => minR 1 (x + d)
    | 3 => maxR 0 (x - d)
    | _ => x
  { m with reg := { m.reg with bridgeDuty := grid y } }

/-- R281: what SYS may carry, A: a SYS port in LIMIT keeps 95 % of its rating. -/
def Mod.sysAmpsTop (m : Mod) : Rat := if m.n E.PROT_STATE 5 == 1 then dec 2375 1 else 250

/-- The stage stops softly (R178). -/
def Mod.stops (m : Mod) (g : Nat) : Bool := (m.stgOf g).stopping || m.armed (.sspDelay (g == 0))

/-- R181: P_path: R98 in SUPPLEMENT, R99 in ISLAND, else the rating of the regulating stage. On the ramp of a dead bus V_ref
stands for V_SYS, and the 250 A of R99 are those of I_max. A stage that stops keeps the limit of the path it ran by (R178, R270). -/
def Mod.pathPower (m : Mod) (g : Nat) : Rat :=
  match (if m.stops g then (m.stgOf g).runPath else m.n E.PATH_ACT 0) with
  | 4 => if m.stops g then m.sysLimit 4 else m.q E.P_SYS_LIM 0
  | 6 => if m.deadRamp 1 then minR (m.stgOf 1).pLim m.batPower else m.q E.P_SYS_LIM 0
  | _ => (m.stgOf g).pLim

/-- R181: I_max. -/
def Mod.iMax (m : Mod) (g : Nat) : Rat :=
  let v := m.q E.V_REF 0
  if v ≤ 0 then m.sysAmpsTop else minR m.sysAmpsTop (m.pathPower g / v)

/-- R181: I_fb, by the settings of the regulating stage. -/
def Mod.foldback (m : Mod) (g : Nat) (v : Rat) : Rat :=
  let ref := m.q E.V_REF 0
  let a := m.cq E.FB_IMIN g / 100
  let x := if ref ≤ 0 then 1 else v / ref
  m.iMax g * clampR 0 1 (a + (1 - a) * x / (m.cq E.FB_KNEE g / 100))

/-- R181: FB_ACTIVE of a stage. -/
def Mod.showFoldback (m : Mod) (v : Rat) : Mod :=
  match m.regStage with
  | none => m
  | some g =>
    let on := m.running g && decide (m.foldback g v < m.iMax g)
    let m := m.setB E.FB_ACTIVE g on
    if m.n E.PATH_ACT 0 = 4 then m.setB E.FB_ACTIVE 1 (on && m.running 1) else m

/-! ## Sinks (R91, R92, R144) -/

/-- The sinks of the ladder. -/
inductive Sink where
  | bat | inputs | brk
  deriving DecidableEq, Repr

/-- R92: the sinks of the active path, rank 1 first. -/
def Mod.pathSinks (m : Mod) : List Sink :=
  match m.n E.PATH_ACT 0 with
  | 2 => if m.n E.COUPLING_ACT 0 = 0 then [.inputs, .brk] else [.bat, .inputs, .brk]
  | 3 => [.bat]
  | 4 | 5 => [.bat, .inputs, .brk]
  | 6 => [.bat, .brk]
  | 7 => [.brk]
  | 8 => if m.n E.SS_STATE 0 = 1 then [.brk] else []
  | _ => []

/-- R92, R68: under envelope CHARGE regeneration goes to BAT alone, whichever path runs. -/
def Mod.sinks (m : Mod) : List Sink :=
  if m.n E.ENV_EFF 0 == 3 && m.n E.PATH_ACT 0 != 8 then m.pathSinks.filter (· == .bat) else m.pathSinks

/-- R91: the threshold of rank `r`, V above V_ref. -/
def Mod.rankDv (m : Mod) (r : Nat) : Rat :=
  let p := if r = 1 then m.cq E.REGEN_DV1 0 else if r = 2 then m.cq E.REGEN_DV2 0 else m.cq E.REGEN_DV3 0
  p / 100 * m.cq E.SYS_VSET 0

/-- R91: how many of the path's ranks lie below V_SYS. -/
def Mod.ranksBelow (m : Mod) (v : Rat) : Nat :=
  ((List.range m.sinks.length).filter (fun r => decide (m.q E.V_REF 0 + m.rankDv (r + 1) < v))).length

/-- R69, R92, R93: a sink that can take energy now: Stage B runs, a bidirectional input is CONNECTED, BRK is available. -/
def Mod.sinkThere (m : Mod) (s : Sink) : Bool :=
  match s with
  | .bat => m.running 1
  | .inputs => m.running 0 && (List.range 4).any (fun k => m.n E.QUAL_STATE k == 5 && m.cb E.IN_BIDIR k)
  | .brk => !m.brkUnavail

/-- R91: a sink of the path is in action. -/
def Mod.sinkActs (m : Mod) (s : Sink) (v : Rat) : Bool := (m.sinks.take (m.ranksBelow v)).contains s && m.sinkThere s

/-- R91: the highest rank in action at V_SYS. -/
def Mod.rankAt (m : Mod) (v : Rat) : Nat :=
  ((m.sinks.take (m.ranksBelow v)).zipIdx.filter (fun x => m.sinkThere x.1)).foldl (fun a x => max a (x.2 + 1)) 0

/-- R144: what each bidirectional input takes of a reverse demand: in proportion to IN_IREV, at most that, and at most what keeps
its terminal below its edge (`most`). -/
def Mod.reverseTakes (m : Mod) (most : Nat → Rat) (need : Rat) : List (Nat × Rat) :=
  let ks := (List.range 4).filter (fun k => m.n E.QUAL_STATE k == 5 && m.cb E.IN_BIDIR k)
  let total := (ks.map (m.cq E.IN_IREV)).sum
  if total ≤ 0 then []
  else ks.map (fun k => (k, -(minR (minR 1 (need / total) * m.cq E.IN_IREV k) (maxR 0 (most k)))))

/-! ## The split of Stage A's demand (R24, R133, R258) -/

/-- The power a split takes from the inputs, W. -/
def takePower (v : Nat → Rat) (ts : List (Nat × Rat)) : Rat := (ts.map (fun x => x.2 * v x.1)).sum

/-- The peak efficiency of the overview, by which a stage's sides are set against each other (assumption log 25). -/
def etaPeak : Rat := dec 988 3

/-- Stage A's share of SYS current under a split, negative where it takes power in at SYS. -/
def sysAmps (v : Nat → Rat) (vSys : Rat) (ts : List (Nat × Rat)) : Rat :=
  let p := takePower v ts
  if vSys ≤ 0 then 0 else if p < 0 then p / (etaPeak * vSys) else etaPeak * p / vSys

/-- R258: the demand of SYS current that a step lets through: within FR_SLEW of the latest, in either direction, while the
limit runs. -/
def Mod.frFrom (m : Mod) (last i : Rat) : Rat :=
  if m.reg.frAt.isSome && !m.reg.frLead && m.armed .fr then
    let d := m.cq E.FR_SLEW 0 * dec 625 2
    clampR (last - d) (last + d) i
  else i

def Mod.frLimit (m : Mod) (i : Rat) : Rat := m.frFrom m.reg.sysDemand i

/-- R130, R137, R139: what an input may take in this period: its ceiling, what a change of the ladder lets it rise to, and the step of
an adaptive measurement. -/
def Mod.ceilNow (m : Mod) (k : Nat) : Rat :=
  let x := m.inpOf k
  let c := minR x.ceil (x.polTop.getD x.ceil)
  if x.stepping.isSome then minR c x.stepTop else c

/-- The terminal voltage of the first input that the ladder draws from. -/
def Mod.inVolt (m : Mod) (v : Nat → Rat) : Rat :=
  let ports := (m.ladder (m.n E.POLICY_EFF 0) v).flatMap Rung.ports
  let used := ports.filter (fun k => decide (0 < (m.inpOf k).take))
  match (if used.isEmpty then ports else used) with
  | k :: _ => v k
  | [] => 0

/-- SYS amperes as an input-side current demand. -/
def Mod.inAmps (m : Mod) (v : Nat → Rat) (vSys i : Rat) : Rat :=
  let u := m.inVolt v
  if u ≤ 0 then 0 else i * maxR 0 vSys / (etaPeak * u)

/-- R135, R144: the current that may flow back into the slack of MANUAL: where its rank acts, within IN_IREV and what keeps its
terminal below its edge. -/
def Mod.slackBack (m : Mod) (x : VLoopIn) (vSys : Rat) : Rat :=
  let sl := m.reg.slack
  if m.sinkActs .inputs vSys && m.cb E.IN_BIDIR sl then minR (m.cq E.IN_IREV sl) (maxR 0 ((x.revMax[sl]?).getD 0)) else 0

/-- R91, R144: what the bidirectional inputs take of a reverse demand, where their rank acts. -/
def Mod.takesBack (m : Mod) (x : VLoopIn) (vSys need : Rat) : List (Nat × Rat) :=
  if m.sinkActs .inputs vSys then m.reverseTakes (fun k => (x.revMax[k]?).getD 0) need else []

/-- What each input takes of a demand, and what is left: down the ladder, or in reverse where that rank acts (R91, R133, R144). -/
def Mod.takesOf (m : Mod) (x : VLoopIn) (vSys need : Rat) : List (Nat × Rat) × Rat :=
  if need < 0 then (m.takesBack x vSys (-need), 0)
  else m.split (fun _ => 1) m.ceilNow (fun k => (x.vIn[k]?).getD 0) (m.slackBack x vSys) need

/-- R24, R133: what each input takes where Stage A is to put `j` A of current into SYS, and what the inputs lack of it, A at the input
side: the power of that current split down the ladder, or in reverse the takes `ts` of the demand in proportion. -/
def Mod.takesFor (m : Mod) (x : VLoopIn) (vSys : Rat) (ts : List (Nat × Rat)) (j : Rat) : List (Nat × Rat) × Rat :=
  let v := fun k => (x.vIn[k]?).getD 0
  if j < 0 then
    let ts := if sysAmps v vSys ts ≤ j then ts else m.takesBack x vSys (((List.range 4).map (m.cq E.IN_IREV)).sum)
    let i := sysAmps v vSys ts
    (ts.map (fun y => (y.1, y.2 * (if i < 0 then minR 1 (j / i) else 0))), 0)
  else
    let r := m.split (fun k => maxR 0 (v k)) m.ceilNow v (m.slackBack x vSys) (j * maxR 0 vSys / etaPeak)
    (r.1, if m.inVolt v ≤ 0 then 0 else r.2 / m.inVolt v)

/-- R24, R97, R181: Stage A's SYS current, forward and in reverse, at the most. -/
def Mod.boundsA (m : Mod) (vSys : Rat) : Rat × Rat :=
  let p := if vSys ≤ 0 then 250 else (m.stgOf 0).pLim / vSys
  ((m.stgOf 0).lim * minR (m.foldback 0 vSys) p, (m.stgOf 0).lim * minR m.sysAmpsTop p)

/-- The BAT current that the step asks for, within what the port may carry (R281); none while its terminal rides through (R124). -/
def Mod.stepNow (m : Mod) (vb demandV : Rat) : Rat :=
  if m.n E.QUAL_STATE 4 = 6 then 0 else clampR (-m.batAmpsTop) m.batAmpsTop (m.stepRef vb demandV)

/-- R105: while Stage B is bridged Stage A puts out the SYS load and the BAT current that the step asks for, or no BAT current
without a step. -/
def Mod.bridgedAmps (m : Mod) (x : VLoopIn) (vb vSys : Rat) : Rat :=
  x.iSys + (if m.n E.PATH_ACT 0 = 3 ∧ 0 < vSys then m.stepNow vb x.demandV * vb / vSys else 0)

/-- R133, R181, R258: the split of a demand within what R258 lets through (`fr`) and within Stage A's own bounds (`goal`), and
what Stage A leaves of what was let through: beyond the inputs, or beyond those bounds (R90). -/
def Mod.splitTo (m : Mod) (x : VLoopIn) (vSys need : Rat) (fr goal : Rat → Rat) : List (Nat × Rat) × Rat :=
  let v := fun k => (x.vIn[k]?).getD 0
  let r := m.takesOf x vSys need
  let i := sysAmps v vSys r.1
  let r1 := if fr i = i then r else m.takesFor x vSys r.1 (fr i)
  let j := goal (fr i)
  let ts := if j = fr i then r1.1 else (m.takesFor x vSys r1.1 j).1
  (ts, r1.2 + (if j < fr i then m.inAmps v vSys (fr i - j) else 0))

/-- R326: what run `c` adds in this period, A: CABLE_STEP until its step is over. -/
def Mod.cableAdd (m : Mod) (c : Nat) : Rat :=
  if m.cable.run = c ∧ !m.cable.moved ∧ m.tb < m.cable.from_ + (if c = 1 then ms 1 else ms 5) then m.cq E.CABLE_STEP 0 else 0

/-- R326: run 2 raises Stage B's current reference, within CHG_ILIM_EFF and `top`. -/
def Mod.cableRise (m : Mod) (top i : Rat) : Rat :=
  if m.cableAdd 2 = 0 then i else maxR i (minR (i + m.cableAdd 2) (minR top (m.q E.CHG_ILIM_EFF 0)))

/-- R326: run 1 watches for V_SYS to move by 0.5 % of SYS_VSET. -/
def Mod.cableWatch (m : Mod) (vSys : Rat) : Mod :=
  m.when (m.cable.run == 1 && decide (dec 5 3 * m.cq E.SYS_VSET 0 ≤ absR (vSys - m.cable.v0)))
    (fun m => { m with cable := { m.cable with moved := true } })

/-- R133, R112: Stage A's period: its demand is split, the groups of its phases take their references (R117, R157). What is unmet
counts the demand beyond IN_ITOT too: Stage A is then at its input-current limit (R90). In the ramp of
SAFESTOP its references fall with its limit from what they were; while Stage B is bridged R105 sets them. -/
def Mod.loopA (m : Mod) (x : VLoopIn) (vSys vb : Rat) : Mod :=
  let v := fun k => (x.vIn[k]?).getD 0
  let (fwd, rev) := m.boundsA vSys
  let bridged := m.n E.BRIDGE_STATE 0 == 2
  let own := x.demandA + (if m.regStage == some 0 then m.inAmps v vSys (m.reg.ffwd + m.cableAdd 1) else 0)
  let demand := if bridged then m.inAmps v vSys (m.bridgedAmps x vb vSys) else own
  let r : List (Nat × Rat) × Rat :=
    if !m.running 0 then ([], maxR 0 demand)
    else if m.n E.SS_STATE 0 = 1 then ((m.stgOf 0).refs.zipIdx.map (fun y => (y.2, y.1 * (m.stgOf 0).stopPart)), 0)
    else
      let r := m.splitTo x vSys (minR demand (m.cq E.IN_ITOT 0)) (fun i => if bridged then m.bridgedAmps x vb vSys else m.frLimit i)
        (clampR (-rev) fwd)
      (r.1, r.2 + maxR 0 (demand - m.cq E.IN_ITOT 0))
  let m := m.each 4 (fun k m =>
    let t := takeOf r.1 k
    let ratio := if vSys ≤ 0 then 1 else maxR 1 (v k / vSys)
    (m.modInp k (fun y => { y with take := t })).modGrp k (fun y => { y with iref := t * ratio }))
  { m with reg := { m.reg with demandA := demand, unmet := r.2, sysDemand := sysAmps v vSys r.1 } }

/-! ## Stage B's period (R90, R102, R158, R219 to R221) -/

/-- R93, R219, R220: the charge limit of BAT as a sink, with V_BAT held at the matching ceiling by the BAT-voltage loop. -/
def Mod.chgNow (m : Mod) (vBat demandV : Rat) : Rat :=
  let c := m.clampNow
  let top := m.batAmpsTop
  if c.2 < vBat ∨ m.n E.QUAL_STATE 4 = 6 then 0 else minR top (maxR 0 (minR c.1 (maxR 0 demandV)))

/-- The path by which Stage B runs: that of ISLAND until a hand-over is done (R84), in a soft stop the one it ran by. -/
def Mod.pathB (m : Mod) : Nat :=
  if m.stops 1 then (m.stgOf 1).runPath else if m.reg.hand then 6 else m.n E.PATH_ACT 0

/-- The bounds of Stage B's BAT current reference in the active path (R87, R90, R91, R102). Under AUTO Stage B also
carries what Stage A cannot before the label changes (R72). -/
def Mod.boundsB (m : Mod) (x : VLoopIn) (vSys vb : Rat) : Rat × Rat :=
  let sink := if m.sinkActs .bat vSys then m.chgNow vb x.demandV else 0
  let dis := m.disNow vb
  let low := decide (vSys ≤ m.q E.V_REF 0 - m.cq E.SUPP_DV 0 / 100 * m.cq E.SYS_VSET 0)
  let short := (decide (0 < m.reg.unmet) || decide (0 < x.excess)) && low
  let auto_ := m.n E.ENV_EFF 0 == 10 && short
  match m.pathB with
  | 3 =>
    let step := m.stepNow vb x.demandV
    (if auto_ then -dis else step, if m.sinkActs .bat vSys then maxR step sink else step)
  | 4 => (if short then -dis else 0, sink)
  | 6 => (-dis, sink)
  | 7 => (-dis, 0)
  | _ => (if auto_ then -dis else 0, sink)

/-- R112, R178: in the ramp of SAFESTOP, and in the soft stop of a stage that followed a step, the BAT current that Stage B had falls
with its limit. -/
def Mod.rampB (m : Mod) : Option Rat :=
  if m.n E.SS_STATE 0 = 1 ∨ (m.stops 1 ∧ m.pathB = 3) then
    some (((m.stgOf 1).refs.head?).getD 0 * (m.stgOf 1).stopPart)
  else none

/-- SYS amperes as a BAT current. -/
def batAmps (vSys vb i : Rat) : Rat := if vb ≤ 0 then 0 else i * maxR 0 vSys / (etaPeak * vb)

/-- R102, R157, R158: Stage B's period: its demand within its bounds, scaled by its current limit; in ISLAND and
BLACKSTART within the SYS limit too (R110 BS_PMAX), in SUPPLEMENT within what Stage A leaves of it (R181). -/
def Mod.loopB (m : Mod) (x : VLoopIn) (vSys vb : Rat) : Mod :=
  let path := m.pathB
  let island := path == 6 || path == 7
  let m : Mod := { m with reg := { m.reg with excess := if path = 3 then maxR 0 x.excess else 0, demandB := x.demandB } }
  let m := m.when (decide (0 < m.reg.excess)) Mod.scanDisturb
  let bnd := m.boundsB x vSys vb
  let lim := (m.stgOf 1).lim
  let pTop := if vb ≤ 0 then 0 else (m.stgOf 1).pLim / vb
  let sysTop := batAmps vSys vb (m.foldback 1 vSys)
  let sysTop := if path = 7 ∧ 0 < vb then minR sysTop (m.cq E.BS_PMAX 0 / (etaPeak * vb)) else sysTop
  let left := if island then sysTop else if path = 4 then batAmps vSys vb (maxR 0 (m.foldback 0 vSys - m.reg.sysDemand)) else pTop
  let lo := maxR bnd.1 (-(minR left pTop))
  let own := x.demandB - (if m.regStage == some 1 then batAmps vSys vb (m.reg.ffwd + m.cableAdd 1) else 0)
  let i := if !m.running 1 || m.n E.QUAL_STATE 4 != 5 then 0
    else match m.rampB with
      | some r => clampR (-pTop) pTop r
      | none => m.cableRise pTop (clampR (lo * lim) (minR bnd.2 pTop * lim) own)
  let out_ := fun (i : Rat) => if vSys ≤ 0 then 0 else -i * vb * etaPeak / vSys
  -- R258: in ISLAND Stage B's own SYS current, elsewhere what it adds to Stage A's, keeps within FR_SLEW
  let slewed := if island then m.frLimit (out_ i) else maxR 0 (m.frFrom (m.reg.sysTot - m.reg.sysDemand) (out_ i))
  let j := if decide (0 < vSys) && decide (0 < vb) && (island || decide (0 < out_ i)) then maxR (lo * lim) (-(batAmps vSys vb slewed)) else i
  let ratio := if vSys ≤ 0 then 1 else maxR 1 (vb / vSys)
  let m := (m.setQ E.CHG_IREF 0 (clampR (-200) 200 j)).modGrp 4 (fun y => { y with iref := j * ratio })
  if island then { m with reg := { m.reg with sysDemand := out_ j, sysTot := out_ j } }
  else { m with reg := { m.reg with sysTot := m.reg.sysDemand + maxR 0 (out_ j) } }

/-! ## The chopper (R69, R91, R94, R95, R112) -/

/-- R94, R95: what the chopper may put into BRK at `v`: full duty, 250 A, and at H_max what the resistor gives off. -/
def Mod.brkTop (m : Mod) (v : Rat) : Rat :=
  let r := m.q E.BRK_R 0
  let tau := m.cq E.BRK_TAU 0
  if m.brkUnavail || m.safe.chopperOff || decide (r ≤ 0) then 0
  else
    let p := minR (v * v / r) (250 * maxR 0 v)
    if m.cq E.BRK_PCONT 0 * tau ≤ m.safe.heat then minR p (m.safe.heat / tau) else p

/-- R91, R94, R112, R326: the chopper's power and duty: it holds V_SYS at its rank's threshold, discharges the stopped link, or
conducts for the 20 µs of a measuring pulse, the energy of which the result adds. -/
def Mod.chopper (m : Mod) (x : VLoopIn) (vSys : Rat) : Mod :=
  let m : Mod := { m with safe := { m.safe with bleeder := m.safe.bleeder || (m.n E.SS_STATE 0 == 3 && m.brkUnavail) } }
  let stop := m.n E.SS_STATE 0 == 3 && !m.safe.bleeder
  let v := if stop then maxR 0 m.sens.vLink else maxR 0 vSys
  let full := if m.q E.BRK_R 0 ≤ 0 then 0 else v * v / m.q E.BRK_R 0
  let pulse := m.cable.run == 3 && decide (m.tb < m.cable.from_ + us 20)
  let p := if stop then m.brkTop v else if pulse then 0 else if m.sinkActs .brk vSys then clampR 0 (m.brkTop v) x.brkDemand else 0
  let m := m.when (decide (0 < m.reg.brkP) && p == 0) (·.modProt 6 (fun y => { y with zeroFrom := some m.tb }))
  { m with reg := { m.reg with brkP := p, brkDuty := if pulse then 1 else if full ≤ 0 then 0 else p / full } }

/-! ## Detection (R191, R258) -/

/-- R191: an armed pending intent sees its change within its window. -/
def Mod.intentSeen (m : Mod) (iSys : Rat) (i : Intent) : Bool :=
  let win := ticksUs (m.cq E.INT_WIN 0)
  let change := if i.dpm < 0 then i.iSysArm - iSys else iSys - i.iSysArm
  i.phase == 0 && i.armed && i.tArr ≤ m.ntime + win && m.ntime ≤ i.tArr + win &&
    decide (m.cq E.INT_DET 0 / 100 * absR i.dIm ≤ change)

def distance (a b : Nat) : Nat := (a - b) + (b - a)

/-- R191: of the intents that see a change, the one with the nearest t_arr is detected: the change is loaded into the
integrator, the pre-bias ramps out, and INT_HIT counts. The others measure from here. -/
def Mod.intentDetect (m : Mod) (iSys : Rat) : Mod :=
  let seen := m.intents.filter (m.intentSeen iSys)
  let best := seen.foldl (fun (acc : Option Intent) i =>
    match acc with
    | none => some i
    | some j => if distance i.tArr m.ntime < distance j.tArr m.ntime then some i else some j) none
  match best with
  | none => m
  | some b =>
    let hit := fun (i : Intent) => i.orig == b.orig && i.num == b.num && i.phase == 0
    let m : Mod := { m with
      reg := { m.reg with ffwd := iSys - b.iSysArm }
      intents := m.intents.map (fun i =>
        if hit i then { i with phase := 1, pbEnd := m.pbNow i, endT := m.ntime }
        else if i.phase = 0 then { i with iSysArm := iSys } else i) }
    m.inc E.INT_HIT 0

/-- R257, R258: the first responder's own step, and the step of a member that follows. The change of an intent detected in this
period goes through without the limit (R191). DESIGN CHOICE (assumption log 104): after FR_T, or a release, a further step begins
only once the error has come back within FR_DET. -/
def Mod.frDetect (m : Mod) (vSys : Rat) : Mod :=
  let base := m.cq E.SYS_VSET 0 / 100
  let err := absR (m.q E.V_REF 0 - vSys)
  let regs := match m.regStage with
    | some g => m.running g
    | none => false
  let m :=
    if m.n E.SHARE_ROLE 0 == 1 && m.cb E.FR_EN 0 && regs && m.reg.frAt.isNone && decide (m.cq E.FR_DET 0 * base < err) then
      let lead := m.b E.FR_SELF 0
      let m : Mod := { m with reg := { m.reg with frAt := some m.tb, frLead := lead } }
      (m.when lead (·.inc E.FR_HEADS 0)).arm .fr (m.tb + ticksUs (m.cq E.FR_T 0))
    else m
  let free := decide (m.cq E.FR_REL 0 * base < err) || m.intentPending 0 || m.intentPending 1 || decide (m.reg.ffwd ≠ 0) ||
    m.net.eligible == [m.n E.SHARE_IDX 0]
  if m.reg.frAt.isSome && !m.reg.frLead && free then m.disarm .fr
  else if m.reg.frAt.isSome && !m.armed .fr && decide (err ≤ m.cq E.FR_DET 0 * base) then
    { m with reg := { m.reg with frAt := none, frLead := false } }
  else m

/-- R258: FR_T has passed: the loop acts without the limit. -/
def Mod.frExpiry (m : Mod) : Mod :=
  if m.due .fr then m.disarm .fr else m

def execFrTExpiry (t : Nat) (s : State) : Host.Outcome State Fault Refusal := execM t Mod.frExpiry s

/-! ## VOLTAGE_LOOP_PERIOD (R158) -/

/-- The path by which each stage runs, as long as nothing stops it (R112, R178). -/
def Mod.keepPath (m : Mod) : Mod :=
  m.each 2 (fun g m => m.when (m.running g && !(m.stgOf g).stopping && !m.armed (.sspDelay (g == 0)) && m.n E.SS_STATE 0 == 0)
    (·.modStg g (fun x => { x with runPath := if m.reg.hand ∧ g = 1 then 6 else m.n E.PATH_ACT 0 })))

/-- R107: V_ref follows V_BAT while BRIDGE is entered and in force; the load change of an earlier period is done with (R191). -/
def Mod.loopStart (m : Mod) (vb : Rat) : Mod :=
  { m with reg := { m.reg with ffwd := 0, bridgeTo := m.reg.bridgeTo.map (fun _ => vb) } }

/-- R158: one period of both stages' voltage loops, with what R88, R94, R102, R107, R133, R175, R177, R181 and R191 give to it. -/
def Mod.voltageLoop (x : VLoopIn) (m : Mod) : Mod :=
  let v := m.senseFrom 0 x.vSense x.vLocal x.iSys
  let vb := m.senseFrom 1 x.vSnsBat x.vBat x.iBat
  let m := ((m.keepGood 0 x.vSense x.vLocal).keepGood 1 x.vSnsBat x.vBat).loopStart vb
  let m := ((m.cableWatch v).moveDuty).moveVset
  let m := ((m.moveLim 0).moveLim 1).intentShow
  let m := (m.intentDetect x.iSys).intentShow
  let m := (m.loadLine x.iSys).frDetect v
  let m := m.setN E.REGEN_RANK 0 (m.rankAt v)
  let m := ((((m.loopA x v vb).loopB x v vb).chopper x v).showFoldback v).keepPath
  let regs := match m.regStage with
    | some g => m.running g
    | none => false
  let m := m.when regs (Mod.stepRecord (m.q E.V_REF 0) (m.finalRef x.iSys) v)
  { m with reg := { m.reg with iPrev := x.iSys } }

def execVoltageLoopPeriod (t : Nat) (x : VLoopIn) (s : State) : Host.Outcome State Fault Refusal :=
  execM t (Mod.voltageLoop x) s

/-! ## SWITCHING_PERIOD (R168) -/

/-- R150: the pattern for the ratio `r`, from the present one; a phase in its first period uses the outer edges. -/
def pattern (fresh : Bool) (mode : Nat) (r : Rat) : Nat :=
  if fresh then (if r < dec 96 2 then 0 else if dec 104 2 < r then 1 else 2)
  else
    match mode with
    | 0 => if dec 97 2 < r then 2 else 0
    | 1 => if r < dec 103 2 then 2 else 1
    | 2 => if r ≤ dec 95 2 then 0 else if dec 105 2 ≤ r then 1 else 2
    | n => n

/-- A phase switches: ADDING, ACTIVE or SHEDDING. -/
def Mod.switches (m : Mod) (p : Nat) : Bool :=
  let s := m.n E.PH_STATE p
  s == 3 || s == 4 || s == 5

/-- R150, R157: a phase's sample and pattern. -/
def Mod.samplePhase (x : SwIn) (g : Nat) (m : Mod) (p : Nat) : Mod :=
  let j := p - 8 * g
  if m.switches p || m.n E.PH_STATE p == 7 then
    let i := clampR (-70) 70 ((x.iPh[j]?).getD 0)
    let m := (m.setQ E.PH_I p i).phSample p i
    if m.switches p then
      let v1 := (x.v1[j]?).getD 0
      let r := if v1 ≤ 0 then 0 else (x.v2[j]?).getD 0 / v1
      (m.setN E.PH_MODE p (pattern (m.phOf p).fresh (m.n E.PH_MODE p) r)).modPh p (fun y => { y with fresh := false })
    else m
  else (m.setQ E.PH_I p 0).phIdle p

/-- R171: a phase that PH_EN does not permit is off. -/
def Mod.phaseEnRefresh (m : Mod) (p : Nat) : Mod :=
  if m.b E.PH_EN p || m.n E.PH_STATE p == 6 || m.n E.PH_STATE p == 0 then m
  else (((m.phaseOff p 0).disarm (.armHold p)).disarm (.arming p)).countPhases

/-- R163, R171: the counts of periods above PH_ADD_EFF and of periods with peak action. -/
def Mod.countPeriods (g : Nat) (m : Mod) (p : Nat) : Mod :=
  let above := m.n E.PH_STATE p == 4 && decide (m.addEff p < absR (m.q E.PH_I p))
  let others := (m.groupPhases (m.n E.PH_TAP p)).any (fun q => q != p && stageOf q == g &&
    decide (m.addEff q ≤ absR (m.q E.PH_I q)))
  m.modPh p (fun y => { y with
    aboveAdd := if above then y.aboveAdd + 1 else 0
    peakRun := if y.peakNow && !others then y.peakRun + 1 else 0
    peakNow := false
    step := y.step + (if m.n E.PH_STATE p == 3 || m.n E.PH_STATE p == 5 then 1 else 0) })

/-- R157, R163, R165: the references of a group for the next period: an ADDING phase rises over 2 periods, a SHEDDING
one falls over STG_SHED_RAMP, the ACTIVE ones carry the rest equally. -/
def Mod.groupRefs (m : Mod) (k : Nat) : Mod :=
  let ps := (m.groupPhases k).filter m.switches
  let n := ps.length
  if n = 0 then m
  else
    let iref := (m.grpOf k).iref
    let share := iref / (n : Nat)
    let ramp := m.n E.STG_SHED_RAMP (groupStage k)
    let part := fun p =>
      let st := (m.phOf p).step
      if m.n E.PH_STATE p == 3 then share * mkRat (min st 2 : Nat) 2
      else if m.n E.PH_STATE p == 5 then share * (1 - mkRat (min st ramp : Nat) ramp) else 0
    let moving := (ps.map part).sum
    let act := m.active k
    let rest := if act.length = 0 then 0 else (iref - moving) / (act.length : Nat)
    ps.foldl (fun m p => m.setQ E.PH_IREF p
      (clampR (-m.phaseTop p) (m.phaseTop p) (if m.n E.PH_STATE p == 4 then rest else part p))) m

/-- R155, R255: the count of local TB at which the module carrier origin is to stand: on the grid of network time, whose counts
of 0.5 ns run from TB's by its offset; without it the origin free-runs where it is. -/
def Mod.originGoal (m : Mod) (g : Nat) : Nat :=
  if !m.ntimeOk || !m.b E.IL_EN 0 then (m.stgOf g).origin
  else
    let ofs := (2 * (m.ntimeNs - 10 * m.tb)).floor
    ((m.n (if g = 0 then E.IL_OFFSET_A else E.IL_OFFSET_B) 0 - ofs : Int) % (m.n E.STG_PERIOD g : Int)).toNat

/-- R155: the carriers move by at most one count a period toward their assigned instant, the shorter way round. -/
def Mod.trackCarrier (m : Mod) (g : Nat) : Mod :=
  let period := m.n E.STG_PERIOD g
  let goal := m.originGoal g
  let at_ := (m.stgOf g).origin
  let ahead := (goal + period - at_ % period) % period
  let next := if ahead = 0 then at_ else if 2 * ahead ≤ period then (at_ + 1) % period else (at_ + period - 1) % period
  m.modStg g (fun x => { x with origin := next })

/-- The groups of a stage: Stage A's inputs, Stage B's BAT. -/
def stageGroups (g : Nat) : List Nat := if g = 0 then [0, 1, 2, 3] else [4]

/-- R165: the shed timer of a group runs while its conditions hold. -/
def Mod.shedTimer (m : Mod) (k : Nat) : Mod :=
  if !m.shedHolds k || m.groupShedding k then m.disarm (.shed k)
  else if m.armed (.shed k) then m
  else m.arm (.shed k) (m.tb + ticksMs (m.q E.STG_SHED_T (groupStage k)))

/-- R165: the phases that a group of a running stage lacks to its STG_NMIN ACTIVE ones: of an input that draws, of the
first group of the ladder where Stage A regulates SYS, of BAT. -/
def Mod.lacking (m : Mod) (k : Nat) : List Nat :=
  let g := groupStage k
  let first := ((m.ladder (m.n E.POLICY_EFF 0) m.vPort).flatMap Rung.ports).head? == some k && m.regStage == some 0
  if !m.running g || (m.stgOf g).stopping || !(k == 4 || first || decide ((m.grpOf k).iref ≠ 0)) then []
  else
    let ps := m.groupPhases k
    let here := ps.filter (fun p => m.switches p || m.armed (.arming p))
    (m.addable k).take (m.n E.STG_NMIN g - here.length)

/-- R163, R165: an ordinary add of a group, or the one that brings it to STG_NMIN. -/
def Mod.ordinaryStep (m : Mod) (k : Nat) : Mod :=
  let m := m.addSequence k (m.lacking k)
  if m.ordinaryAdd k then
    match m.nextAdd k with
    | some p => m.addSequence k [p]
    | none => m
  else m

/-- R168: the events of the groups `ks` of a stage in their order: cancellation, emergency add, ordinary add, shed. -/
def Mod.stageEvents (m : Mod) (ks : List Nat) : Mod :=
  let m := ks.foldl (fun m k => if m.cancelHolds k then m.shedCancel k else m) m
  let m := ks.foldl (fun m k => if m.emergency k then m.emergencyAdd k else m) m
  let m := ks.foldl Mod.ordinaryStep m
  ks.foldl Mod.shedTimer m

/-- R156, R173: re-spacing, or else a rotation, moves the carriers by one period; a pending rotation follows their end, or that of
a shed. -/
def Mod.spacing (m : Mod) (g : Nat) : Mod :=
  let s := m.stgOf g
  let m := if s.respLeft != 0 then m.respaceStep g s.respLeft else m.when (s.rotLeft != 0) (·.rotationStep g s.rotLeft)
  let m := m.modStg g (fun x => { x with respLeft := if 1 < x.respLeft then x.respLeft - 1 else x.respLeft
                                         rotLeft := x.rotLeft - 1 })
  m.rotationResume g

/-- R26, R151, R171: what a period boundary takes up: PH_EN, the dead time in counts of 500 ps, and a new period's rotation. -/
def Mod.periodTakes (m : Mod) (g : Nat) : Mod :=
  let m := (stagePhases g).foldl Mod.phaseEnRefresh m
  m.modStg g (fun x => { x with rotDone := false, deadT := (roundR (2 * m.q E.STG_DEADT g)).toNat })

/-- R168: one period boundary of a stage. -/
def Mod.switchingPeriod (g : Nat) (x : SwIn) (m : Mod) : Mod :=
  let ps := stagePhases g
  let m := ps.foldl (Mod.samplePhase x g) (m.periodTakes g)
  if m.gated g then m
  else if g = 1 ∧ m.n E.BRIDGE_STATE 0 = 2 then m
  else
    let m := ps.foldl (Mod.countPeriods g) m
    let m := (m.stageEvents (stageGroups g)).rotateWanted g
    let m := (stageGroups g).foldl Mod.groupRefs m
    (m.spacing g).trackCarrier g

def execSwitchingPeriod (t : Nat) (st : Stage) (x : SwIn) (s : State) : Host.Outcome State Fault Refusal :=
  execM t (Mod.switchingPeriod (Stage.idx st) x) s

/-! ## Phase events -/

/-- R151, R164, R169: a peak comparator acts: PH_PEAK_CNT counts once for the period; a bridged Stage B leaves BRIDGE
(R108), another ACTIVE phase brings an emergency add. -/
def Mod.peakComparator (p : Nat) (m : Mod) : Mod :=
  if p < 16 && (m.switches p || m.n E.PH_STATE p == 7) then
    let first := !(m.phOf p).peakNow
    let m := (m.when first (·.inc E.PH_PEAK_CNT p)).modPh p (fun y => { y with peakNow := true })
    let m := m.when (8 ≤ p) Mod.scanDisturb
    if m.n E.PH_STATE p == 7 then
      let m := m.bridgeExit 6
      { m with modes := { m.modes with bridgeLeft := some m.tb } }
    else if first && m.n E.PH_STATE p == 4 then
      let k := m.n E.PH_TAP p
      let m := m.shedCancel k
      m.emergencyAdd k
    else m
  else m

def execPeakComparator (t : Nat) (p : Nat) (s : State) : Host.Outcome State Fault Refusal :=
  execM t (Mod.peakComparator p) s

/-- R163: 20 µs of arming have passed: the phase starts switching. -/
def Mod.armingDone (p : Nat) (m : Mod) : Mod :=
  if m.due (.arming p) then
    if m.n E.PH_STATE p == 1 && !m.gated (stageOf p) && !m.excluded p then m.startPhase p
    else (m.disarm (.arming p)).settleAdding (m.n E.PH_TAP p)
  else m

def execPhaseArmingDone (t : Nat) (p : Nat) (s : State) : Host.Outcome State Fault Refusal :=
  execM t (Mod.armingDone p) s

/-- R163: two periods have passed: the phase is ACTIVE; the group's add sequence ends with its last phase. -/
def Mod.addDone (p : Nat) (m : Mod) : Mod :=
  if m.n E.PH_STATE p == 3 && 2 ≤ (m.phOf p).step then
    let k := m.n E.PH_TAP p
    let m := (m.setN E.PH_STATE p 4).modPh p (fun y => { y with step := 0, activeSince := m.tb, aboveAdd := 0 })
    ((m.settleAdding k).countPhases).groupRefs k
  else m

def execPhaseAddDone (t : Nat) (p : Nat) (s : State) : Host.Outcome State Fault Refusal := execM t (Mod.addDone p) s

/-- R165: the conditions have held for STG_SHED_T: the phase that has been ACTIVE longest sheds. -/
def Mod.shedExpiry (k : Nat) (m : Mod) : Mod :=
  if m.due (.shed k) && m.shedHolds k && !m.groupShedding k then
    match m.longestActive k with
    | some p => (m.shedStart p none).disarm (.shed k)
    | none => m
  else m

def execShedTExpiry (t : Nat) (st : Stage) (g : Nat) (s : State) : Host.Outcome State Fault Refusal :=
  execM t (Mod.shedExpiry (match st with | .a => g % 4 | .b => 4)) s

/-- R165, R167, R173: the shedding phase is at zero: its gates turn off, it is ARMED, and tapped to the group it was
freed for; its slot's gap closes and a pending rotation runs. -/
def Mod.shedDone (p : Nat) (m : Mod) : Mod :=
  let g := stageOf p
  if m.n E.PH_STATE p == 5 && m.n E.STG_SHED_RAMP g ≤ (m.phOf p).step then
    let dest := (m.phOf p).retap
    let m := m.shedEnd p
    let m := match dest with
      | some k => m.tap p k
      | none => m
    m.rotationResume g
  else m

def execPhaseShedDone (t : Nat) (p : Nat) (s : State) : Host.Outcome State Fault Refusal := execM t (Mod.shedDone p) s

/-- R165, R118, R189: STG_ARM_HOLD is over and nothing holds the phase: it is SHED. -/
def Mod.armHoldExpiry (p : Nat) (m : Mod) : Mod :=
  if m.due (.armHold p) && m.n E.PH_STATE p == 2 && !(m.phOf p).held && !m.intentHolds (stageOf p) then
    (m.setN E.PH_STATE p 1).disarm (.armHold p)
  else m

def execArmHoldExpiry (t : Nat) (p : Nat) (s : State) : Host.Outcome State Fault Refusal :=
  execM t (Mod.armHoldExpiry p) s

/-- R156, R173: the carriers stand at their slots. -/
def Mod.respacingDone (g : Nat) (m : Mod) : Mod :=
  if (m.stgOf g).respLeft == 1 then ((m.atSlots g).modStg g (fun x => { x with respLeft := 0 })).rotationResume g else m

def execRespacingDone (t : Nat) (st : Stage) (s : State) : Host.Outcome State Fault Refusal :=
  execM t (Mod.respacingDone (Stage.idx st)) s

/-- R171: a phase is declared FAULTED: by peaks in 8 consecutive periods, by current sensing, or by its gate drive. -/
def Mod.phaseFault (p cause : Nat) (m : Mod) : Mod :=
  if p < 16 && 1 ≤ cause && cause ≤ 3 && m.n E.PH_STATE p != 6 && (cause != 1 || 8 ≤ (m.phOf p).peakRun) then
    let g := stageOf p
    let was := m.switches p
    let m := ((m.phaseOff p 6).setN E.PH_FAULT p cause).disarm (.arming p)
    let m := ((m.disarm (.armHold p)).settleAdding (m.n E.PH_TAP p)).countPhases
    let m := if was then m.respace g else m
    m.raise (1 + g) (cause - 1) (some p)
  else m

def execPhaseFault (t : Nat) (p : Nat) (cause : Nat) (s : State) : Host.Outcome State Fault Refusal :=
  execM t (Mod.phaseFault p cause) s

/-! ## Soft start and soft stop (R177 to R180) -/

/-- R177, R256: SST_DELAY is over: the ramps begin, with the carriers at their assigned instant. -/
def Mod.sstDelay (g : Nat) (m : Mod) : Mod :=
  if m.n E.SST_STATE g == 1 && m.due (.sstDelay (g == 0)) && !m.gated g then
    let m := (m.setN E.SST_STATE g 2).disarm (.sstDelay (g == 0))
    let m := (stagePhases g).foldl (fun m p =>
      if m.n E.PH_STATE p == 2 && !m.excluded p && !m.armed (.armHold p) then
        (m.setN E.PH_STATE p 4).modPh p (fun y => { y with activeSince := m.tb, fresh := true })
      else m) m
    let m := ((m.putSlots (m.switching g)).atSlots g).countPhases
    m.modStg g (fun x => { x with origin := m.originGoal g })
  else m

def execSstDelayExpiry (t : Nat) (st : Stage) (s : State) : Host.Outcome State Fault Refusal :=
  execM t (Mod.sstDelay (Stage.idx st)) s

/-- R160: LOOP_CEST of a dead bus raised at `rate` V/ms with mean current `i`, F. -/
def cestOf (i rate : Rat) : Rat := clampR (dec 12 4) (dec 412 4) (dec 12 4 + (if rate ≤ 0 then 0 else i / (rate * 1000)))

/-- R177, R160, R180: the ramps have ended with the output within 2 % of V_ref: the soft start is complete. -/
def Mod.softStartDone (g : Nat) (v iMean : Rat) (m : Mod) : Mod :=
  let regs := m.regStage == some g
  let ref := m.q E.V_REF 0
  if m.n E.SST_STATE g == 2 && !m.gated g && decide (1 ≤ (m.stgOf g).lim) &&
      (!regs || (decide (m.reg.vset = m.vsetEnd) && decide (absR (v - ref) ≤ ref / 50))) then
    let m := m.when (m.stgOf g).deadBus (·.commitQ E.LOOP_CEST g (cestOf iMean m.deadRate))
    let m := m.modStg g (fun x => { x with deadBus := false, mooringStart := false })
    (m.setN E.SST_STATE g 3).setN E.SST_HICCUP g 0
  else m

def execSoftStartComplete (t : Nat) (st : Stage) (v iMean : Rat) (s : State) : Host.Outcome State Fault Refusal :=
  execM t (Mod.softStartDone (Stage.idx st) v iMean) s

/-- R179, R180: a short under the ramp: gates off, SYS open, an event; then the wait for a retry, LATCHED after the
third, or in BLACKSTART the failure of step 5. -/
def Mod.softStartAbort (g : Nat) (m : Mod) : Mod :=
  if m.deadRamp g && decide (30 ≤ m.reg.vset) then
    let m := m.abandonStage g
    let m := m.modStg g (fun x => { x with gate := Sys2Proof.setBit x.gate 5 true })
    let m := (m.openSwitch 5).setNoted E.SST_STATE g 4
    if m.n E.PATH_ACT 0 = 7 then m.blackstartFail
    else if m.n E.SST_HICCUP g = 3 then ((m.protEnter 5 3 6 (m.iPort 5)).portGates).setN E.SST_STATE g 4
    else (m.setN E.SST_STATE g 5).arm (.hiccup (g == 0)) (m.tb + sec 1)
  else m

def execSoftStartAbort (t : Nat) (st : Stage) (s : State) : Host.Outcome State Fault Refusal :=
  execM t (Mod.softStartAbort (Stage.idx st)) s

/-- R180: the retry, 1 s after its abort, from time 0 of R177. -/
def Mod.hiccupRetry (g : Nat) (m : Mod) : Mod :=
  if m.n E.SST_STATE g == 5 && m.due (.hiccup (g == 0)) && (m.stgOf g).gate == 0x20 && m.portUsable 5 then
    let m := (m.closeSys).setN E.SST_HICCUP g (m.n E.SST_HICCUP g + 1)
    m.stageStart g true false
  else m

def execHiccupRetry (t : Nat) (st : Stage) (s : State) : Host.Outcome State Fault Refusal :=
  execM t (Mod.hiccupRetry (Stage.idx st)) s

/-- R178: SSP_DELAY is over: the current limit ramps to zero over SSP_RAMP. -/
def Mod.sspDelay (g : Nat) (m : Mod) : Mod :=
  if m.due (.sspDelay (g == 0)) then (m.rampDown g (m.cq E.SSP_RAMP g)).disarm (.sspDelay (g == 0)) else m

def execSspDelayExpiry (t : Nat) (st : Stage) (s : State) : Host.Outcome State Fault Refusal :=
  execM t (Mod.sspDelay (Stage.idx st)) s

/-- R178: the limit is at zero: the stage's gates turn off. -/
def Mod.softStopDone (g : Nat) (m : Mod) : Mod :=
  let x := m.stgOf g
  if x.stopping && decide (x.lim ≤ 0) && m.n E.SS_STATE 0 == 0 && !m.armed .fenceRamp then m.stageOff g else m

def execSoftStopDone (t : Nat) (st : Stage) (s : State) : Host.Outcome State Fault Refusal :=
  execM t (Mod.softStopDone (Stage.idx st)) s

/-! ## Remote sense (R184, R185) -/

def Pair.idx : Pair → Nat
  | .sys => 0
  | .bat => 1

/-- The voltage used by a pair begins to move from `v`. -/
def Mod.senseMove (m : Mod) (j span : Nat) (bad : Bool) (v : Rat) : Mod :=
  { m with sns := modAt {} m.sns j (fun x => { x with start := v, since := m.tb, span := span, bad := bad }) }

/-- R185: a pair in state 1 falls back, to state 2 or 3: the voltage used moves from the last good reading. -/
def Mod.senseFall (j st : Nat) (m : Mod) : Mod :=
  if m.n E.SNS_STATE j == 1 then
    let m := ((m.senseMove j (ms 1) true (((m.sns[j]?).bind (·.good)).getD (m.senseV (j == 0)))).setN E.SNS_STATE j st).inc E.SNS_OPEN_CNT j
    m.raise 5 4
  else m

def execSenseOpen (t : Nat) (pr : Pair) (s : State) : Host.Outcome State Fault Refusal :=
  execM t (Mod.senseFall (Pair.idx pr) 2) s

def execSenseReversed (t : Nat) (pr : Pair) (s : State) : Host.Outcome State Fault Refusal :=
  execM t (Mod.senseFall (Pair.idx pr) 3) s

/-- R184, R185: the reading has stayed consistent for 1 s: the pair is good, and the voltage used moves in 10 ms. -/
def Mod.senseRestore (j : Nat) (m : Mod) : Mod :=
  let st := m.n E.SNS_STATE j
  if (st == 2 || st == 3) && m.b E.SNS_EN j then
    let m := (m.senseMove j (ms 10) false (m.senseV (j == 0))).setN E.SNS_STATE j 1
    if m.sns.any (·.bad) then m else m.lower 5 4
  else m

def execSenseRestore (t : Nat) (pr : Pair) (s : State) : Host.Outcome State Fault Refusal :=
  execM t (Mod.senseRestore (Pair.idx pr)) s

/-! ## Intents (R187 to R193) -/

/-- R187, R192: the path acts on intents; none does in SAFESTOP, from the SAFE force on. -/
def Mod.intentPath (m : Mod) : Bool := moored (m.n E.PATH_ACT 0) && !m.mooringHold && !m.forceHeld && m.n E.SS_STATE 0 == 0

/-- An accepted intent. -/
def Mod.newIntent (m : Mod) (a : Share) : Intent :=
  let v := m.q E.V_REF 0
  { orig := a.orig, num := a.num, dpm := a.dpm, tArr := a.tArr, conf := a.conf,
    dIm := if v ≤ 0 then 0 else a.dpm / v, armed := false, iSysArm := m.reg.iPrev, phase := 0, pre := false,
    pbEnd := 0, endT := 0 }

/-- The pending intent with the latest arrival. -/
def latestIntent : List Intent → Option Intent
  | [] => none
  | i :: is =>
    match latestIntent is with
    | none => if i.phase = 0 then some i else none
    | some j => if i.phase = 0 ∧ j.tArr ≤ i.tArr then some i else some j

/-- R188: an accepted intent joins the list: in place of its own identifier, within eight, or in place of the latest. -/
def Mod.addIntent (m : Mod) (i : Intent) : Mod :=
  let same := fun (j : Intent) => j.phase == 0 && j.orig == i.orig && j.num == i.num
  let put := fun (m : Mod) (l : List Intent) => (({ m with intents := l ++ [i] } : Mod).inc E.INT_RX 0).intentShow
  if m.intents.any same then put m (m.intents.filter (fun j => !same j))
  else if (m.intents.filter (fun j => j.phase == 0)).length < 8 then put m m.intents
  else
    match latestIntent m.intents with
    | some l => if i.tArr < l.tArr then (put m (m.intents.erase l)).inc E.INT_DROPPED 0 else m.inc E.INT_DROPPED 0
    | none => m

/-- R187, R166: an allocated share arrives: the checks in their order, then it is pending and cancels sheds. -/
def Mod.intentRx (a : Share) (m : Mod) : Mod :=
  let now := m.ntime
  if !m.ntimeOk then m
  else if !(m.cb E.INT_EN 0 && m.cn E.INT_CMIN 0 ≤ a.conf && m.intentPath) then m.inc E.INT_IGNORED 0
  else if now + ticksMs (m.cq E.INT_HORIZON 0) < a.tArr then m.inc E.INT_FAR 0
  else if a.tArr + ticksUs (m.cq E.INT_WIN 0) ≤ now then m.inc E.INT_LATE 0
  else
    let i := m.newIntent a
    let m := m.addIntent i
    let cancel := fun (m : Mod) (g : Nat) => if m.intentPending g then (stageGroups g).foldl Mod.shedCancel m else m
    cancel (cancel m 0) 1

/-- R349: the module's own entry of an ALLOC: that of its group and SHARE_IDX, in units of 10 W. -/
def Mod.allocShare (m : Mod) (a : AllocMsg) : Option Share :=
  if m.n E.SHARE_ROLE 0 = 1 ∧ a.seg = m.n E.SEG_ID 0 then
    (a.entries.find? (fun e => e.1 == m.n E.SHARE_IDX 0)).map
      (fun e => { orig := a.orig, num := a.num, dpm := 10 * e.2, tArr := a.tArr, conf := a.conf })
  else none

/-- R187, R349: an ALLOC delivered by Q30: a member acts on its own entry. -/
def Mod.allocRx (a : AllocMsg) (m : Mod) : Mod :=
  match m.allocShare a with
  | some x => Mod.intentRx x m
  | none => m

def execIntentRx (t : Nat) (a : AllocMsg) (s : State) : Host.Outcome State Fault Refusal := execM t (Mod.allocRx a) s

/-- A stage's measured efficiency: output over input of the latest tick, in the direction in which it carries power, or the peak
figure of the overview where it carries nothing (assumption log 26). -/
def Mod.stageEff (m : Mod) (g : Nat) : Rat :=
  let port := if g = 0 then ((List.range 4).map m.pPort).sum else -(m.pPort 4)
  let link := absR (if g = 0 then m.sens.pStageA else m.sens.pStageB)
  let inp := if 0 < port then port else link
  let out_ := if 0 < port then link else -port
  if decide (0 < inp) && decide (0 < out_) && decide (out_ ≤ inp) then out_ / inp else etaPeak

/-- R189: a group brings its ACTIVE count to what a current of `i` needs, in one add sequence. DESIGN CHOICE (assumption log 104):
PH_ADD_EFF is that of the group's first tapped phase. -/
def Mod.armGroup (m : Mod) (k : Nat) (i : Rat) : Mod :=
  match m.groupPhases k with
  | [] => m
  | p :: _ =>
    let here := (m.groupPhases k).filter (fun q => m.n E.PH_STATE q == 4 || m.n E.PH_STATE q == 3 || m.armed (.arming q))
    let ps := ((m.fromPointer (groupStage k)).filter (fun q => m.n E.PH_TAP q == k && !m.excluded q &&
      (m.n E.PH_STATE q == 1 || m.n E.PH_STATE q == 2) && !m.armed (.arming q))).take (phasesFor i (m.addEff p) - here.length)
    m.addSequence k ps

/-- R189: Stage B's group for a power of `w` at its BAT side. -/
def Mod.armBat (m : Mod) (w : Rat) : Mod :=
  let v := m.vBat
  if v ≤ 0 then m else m.armGroup 4 (w / v * (if m.vSys ≤ 0 then 1 else maxR 1 (v / m.vSys)))

/-- R189, R193: the stages arm for the present demand and `d` W of SYS more: Stage A for its present demand and that part of
it, in SUPPLEMENT both stages for the whole of SYS, Stage B in ISLAND. -/
def Mod.armFor (m : Mod) (d : Rat) : Mod :=
  let path := m.n E.PATH_ACT 0
  let w := m.reg.iPrev * maxR 0 m.vSys + d
  let v := fun k => m.vPort k
  if w < 0 then
    (if path = 2 ∧ m.n E.COUPLING_ACT 0 = 0 then
      let vin := ((List.range 4).find? (fun k => m.n E.QUAL_STATE k == 5 && m.cb E.IN_BIDIR k)).map v
      match vin with
      | some u =>
        if u ≤ 0 then m
        else (m.reverseTakes (m.cq E.IN_IREV) (-w * m.stageEff 0 / u)).foldl
          (fun m x => m.armGroup x.1 (x.2 * (if m.vSys ≤ 0 then 1 else maxR 1 (v x.1 / m.vSys)))) m
      | none => m
    else m.armBat (-w * m.stageEff 1))
  else if path = 6 then m.armBat (w / m.stageEff 1)
  else
    let u := m.inVolt v
    if u ≤ 0 then m
    else
      let a := minR w (m.stgOf 0).pLim
      let need := if path = 4 then a / (m.stageEff 0 * u) else maxR 0 m.reg.demandA + d / (m.stageEff 0 * u)
      let want := maxR 0 need
      let need := minR want (m.cq E.IN_ITOT 0)
      let r := m.split (fun _ => 1) (fun k => (m.inpOf k).ceil) v 0 need
      let m := r.1.foldl (fun m x => m.armGroup x.1 (x.2 * (if m.vSys ≤ 0 then 1 else maxR 1 (v x.1 / m.vSys)))) m
      if path = 4 then m.armBat ((w - a + (r.2 + want - need) * u * m.stageEff 0) / m.stageEff 1) else m

/-- The pending intent of an identifier. -/
def Mod.pendingIntent (m : Mod) (orig num : Nat) : Option Intent :=
  m.intents.find? (fun i => i.orig == orig && i.num == num && i.phase == 0)

def Mod.mapIntent (m : Mod) (orig num : Nat) (f : Intent → Intent) : Mod :=
  { m with intents := m.intents.map (fun i => if i.orig = orig ∧ i.num = num ∧ i.phase = 0 then f i else i) }

/-- R189: from t_arr − INT_T_ARM the stages arm for the present demand and c × ΔI_m. -/
def Mod.intentArm (orig num : Nat) (m : Mod) : Mod :=
  match m.pendingIntent orig num with
  | none => m
  | some i =>
    if i.armed || decide (m.ntime + ticksUs (m.cq E.INT_T_ARM 0) < i.tArr) then m
    else
      (m.mapIntent orig num (fun i => { i with armed := true, iSysArm := m.reg.iPrev })).armFor (mkRat i.conf 255 * i.dpm)

def execIntentArm (t : Nat) (orig num : Nat) (s : State) : Host.Outcome State Fault Refusal :=
  execM t (Mod.intentArm orig num) s

/-- R190: from t_arr − INT_T_PB the pre-bias rises. -/
def Mod.prebiasStart (orig num : Nat) (m : Mod) : Mod :=
  match m.pendingIntent orig num with
  | none => m
  | some i =>
    if i.pre || decide (m.ntime + ticksUs (m.cq E.INT_T_PB 0) < i.tArr) then m
    else (m.mapIntent orig num (fun i => { i with pre := true })).intentShow

def execPrebiasStart (t : Nat) (orig num : Nat) (s : State) : Host.Outcome State Fault Refusal :=
  execM t (Mod.prebiasStart orig num) s

/-- R192: an intent not detected by t_arr + INT_WIN is withdrawn. -/
def Mod.intentWithdraw (orig num : Nat) (m : Mod) : Mod :=
  match m.pendingIntent orig num with
  | none => m
  | some i =>
    if i.tArr + ticksUs (m.cq E.INT_WIN 0) < m.ntime then
      ((m.mapIntent orig num m.withdrawn).inc E.INT_MISSED 0).intentShow
    else m

def execIntentWithdraw (t : Nat) (orig num : Nat) (s : State) : Host.Outcome State Fault Refusal :=
  execM t (Mod.intentWithdraw orig num) s

end Sys2Proof.Machine
end

