-- ==== Sys2Proof/Machine/ProtectCmds.lean ====
section
/-! DEFINITION. Machine/ProtectCmds.lean: the commands of the chapter Port Switches and Protection: trips and their
clearing (R279 to R295), the BRK clamp (R289), the safety inputs (R296 to R298), CONT (R299, R300) and the insulation
monitor (R301 to R304). -/

namespace Sys2Proof.Machine

open Sys2Proof

/-! ## Trips -/

/-- R282, R284, R291: what follows a trip of port `k` beside its own switch: an input's phases leave by force; a bridged
Stage B leaves BRIDGE under code 4 and is gated off with BAT; SYS holds both stages off and cancels a waiting retry; BRK
turns the chopper off. -/
def Mod.tripActions (m : Mod) (k : Nat) : Mod :=
  if k < 4 then m.ceilingZero k
  else if k = 4 then ((m.when (m.n E.BRIDGE_STATE 0 == 1 || m.n E.BRIDGE_STATE 0 == 2) (·.bridgeExit 4))).portGates
  else if k = 5 then
    let m := m.portGates
    m.each 2 (fun g m => (m.disarm (.hiccup (g == 0))).when (m.n E.SST_STATE g == 5) (·.setN E.SST_STATE g 0))
  else if k = 6 then
    { m.modProt 6 (fun y => { y with zeroFrom := if 0 < m.reg.brkP then some m.tb else y.zeroFrom }) with
      safe := { m.safe with chopperOff := true }
      reg := { m.reg with brkP := 0, brkDuty := 0 } }
  else m

/-- R282: the current that a fast trip senses at port `k`: either direction, or one at BRK and AUX24. -/
def fastSense (k : Nat) (i : Rat) : Rat := if k < 6 then absR i else i

/-- R282, R284, R295: the comparator of port `k` acts. -/
def Mod.fastTrip (k : Nat) (i : Rat) (m : Mod) : Mod :=
  if k < 8 && decide (m.cq E.FT_MULT k * portRating k ≤ fastSense k i) then
    let m := ((m.trip k 1 i).tripActions k).capTrigger 8 m.tb
    if k = 6 then { m.clampEnd with safe := { m.clampEnd.safe with clampArmed := false } } else m
  else m

def execFastTrip (t : Nat) (k : Nat) (i : Rat) (s : State) : Host.Outcome State Fault Refusal :=
  execSafe t (Mod.fastTrip k i) s

/-- R285, R280: Θ has reached I2T_K: the switch opens, cause 2, which stands before a higher one of the same mode tick. -/
def Mod.i2tTrip (k : Nat) (i : Rat) (m : Mod) : Mod :=
  if k < 8 && m.n E.PROT_STATE k ≤ 2 && decide (m.cq E.I2T_K k ≤ (m.protOf k).theta) then
    let new := m.n E.PROT_STATE k ≤ 1
    (m.trip k 2 i).when new (·.tripActions k)
  else m

def execI2tTrip (t : Nat) (k : Nat) (i : Rat) (s : State) : Host.Outcome State Fault Refusal := execM t (Mod.i2tTrip k i) s

/-- R286: AUX24's switch closes within 10 ms, BRK's at the next mode tick, where nothing keeps it open. -/
def Mod.reclose (m : Mod) (k : Nat) : Mod := m.when (m.portUsable k && !m.closed k) (·.closeSwitch k)

/-- R286, R292: a port clears to NORMAL: its qualification starts from WINDOW where the path runs it; SYS returns by R89, BRK at the
next mode tick, AUX24 by closing. -/
def Mod.clearPort (m : Mod) (k : Nat) : Mod :=
  let m := m.setN E.PROT_STATE k 0
  let m := (m.syncPorts).portGates
  if k < 5 then m.when (qualRuns (m.n E.PATH_ACT 0)) (·.qualBegin k)
  else if k = 5 then m.each 2 (fun g m => m.when (m.n E.SST_STATE g == 4)
    (fun m => (m.setN E.SST_STATE g 0).setN E.SST_HICCUP g 0))
  else if k = 6 then
    { m with safe := { m.safe with chopperOff := false, clampArmed := true } }
  else m.reclose 7

/-- R285: I2T_STATE, per cent. -/
def Mod.i2tPct (m : Mod) (k : Nat) : Rat :=
  let top := m.cq E.I2T_K k
  if top ≤ 0 then 0 else 100 * (m.protOf k).theta / top

/-- R286: an i²t trip clears by itself. -/
def Mod.i2tClear (k : Nat) (m : Mod) : Mod :=
  if k < 8 && m.n E.PROT_STATE k == 2 && m.n E.PROT_CAUSE k == 2 && decide (m.i2tPct k < m.cq E.I2T_RESET k) then m.clearPort k
  else m

def execI2tClear (t : Nat) (k : Nat) (s : State) : Host.Outcome State Fault Refusal := execM t (Mod.i2tClear k) s

/-- R279, R480: AUX24 is at its output current limit, while the module is what carries its load (R40). -/
def Mod.auxAtLimit (m : Mod) : Bool := !m.aux.external && decide (0 < m.aux.lim) && decide (m.aux.lim ≤ m.iPort 7)

/-- R279: the condition of LIMIT. -/
def Mod.limitHolds (m : Mod) (k : Nat) : Bool :=
  decide (m.cq E.I2T_WARN k ≤ m.i2tPct k) || (k == 7 && m.auxAtLimit)

/-- R279: the condition has been false for 100 ms. -/
def Mod.limitExit (k : Nat) (m : Mod) : Mod :=
  if k < 8 && m.n E.PROT_STATE k == 1 && m.due (.limitExit k) && !m.limitHolds k then
    (m.setN E.PROT_STATE k 0).disarm (.limitExit k)
  else m

def execLimitExit (t : Nat) (k : Nat) (s : State) : Host.Outcome State Fault Refusal := execM t (Mod.limitExit k) s

/-- R288: the SYS overvoltage threshold. -/
def Mod.ovpThreshold (m : Mod) : Rat := minR 1070 (m.q E.V_REF 0 + m.cq E.OVP_DV 0 / 100 * m.cq E.SYS_VSET 0)

/-- R288: V_SYS has stayed above the threshold for OVP_T: both stages are gated off, SYS opens, cause 3. -/
def Mod.sysOvervoltage (v : Rat) (m : Mod) : Mod :=
  if decide (m.ovpThreshold < v) && m.n E.PROT_STATE 5 ≤ 1 then
    ((m.gateOffBoth 5).trip 5 3 (m.iPort 5)).tripActions 5
  else if decide (m.ovpThreshold < v) then m.trip 5 3 (m.iPort 5)
  else m

def execSysOvervoltageTrip (t : Nat) (v : Rat) (s : State) : Host.Outcome State Fault Refusal :=
  execM t (Mod.sysOvervoltage v) s

/-- R289: the clamp acts. -/
def Mod.brkClamp (v : Rat) (m : Mod) : Mod :=
  if m.safe.clampArmed && !m.safe.clamping && decide (m.cq E.CLAMP_V 0 < v) then
    ({ m with safe := { m.safe with clamping := true } } : Mod).inc E.CLAMP_CNT 0
  else m

def execBrkClamp (t : Nat) (v : Rat) (s : State) : Host.Outcome State Fault Refusal := execSafe t (Mod.brkClamp v) s

/-- R289, R96, R313: the clamp releases; its energy counts in CLAMP_E and adds to H, and BRK's channel waits for its auto-zero. -/
def Mod.brkRelease (v e : Rat) (m : Mod) : Mod :=
  if m.safe.clamping && decide (v < m.cq E.CLAMP_V 0 - 20) then
    (m.clampOver e).modProt 6 (fun y => { y with zeroFrom := some m.tb })
  else m

def execBrkClampRelease (t : Nat) (v e : Rat) (s : State) : Host.Outcome State Fault Refusal :=
  execSafe t (Mod.brkRelease v e) s

/-- R290: the link is above 1095 V: both stages gated off, every closed switch opens, its port tripped with cause 4. -/
def Mod.linkOvervoltage (v : Rat) (m : Mod) : Mod :=
  if 1095 < v then
    let m := (m.gateOffBoth 5).inc E.LINK_OV_CNT 0
    m.each 8 (fun k m => if m.closed k then (m.trip k 4 (m.iPort k)).tripActions k else m)
  else m

def execLinkOvervoltage (t : Nat) (v : Rat) (s : State) : Host.Outcome State Fault Refusal :=
  execSafe t (Mod.linkOvervoltage v) s

/-- R290: 200 µs after a switch was commanded open its current still exceeds 5 A: LATCHED, cause 8, which raises a class
F fault (R522); BAT's failure drops CONT at once. -/
def Mod.switchFailure (k : Nat) (i : Rat) (m : Mod) : Mod :=
  match (m.protOf k).openedAt with
  | some t0 =>
    if k < 8 && t0 + us 200 ≤ m.tb && decide (5 < absR i) && !(m.n E.PROT_STATE k == 3 && m.n E.PROT_CAUSE k == 8) then
      let m := (m.modProt k (fun x => { x with openedAt := none })).protEnter k 3 8 i
      let m := m.tripActions k
      if k = 4 then m.contOff else m
    else m
  | none => m

def execSwitchFailure (t : Nat) (k : Nat) (i : Rat) (s : State) : Host.Outcome State Fault Refusal :=
  execM t (Mod.switchFailure k i) s

/-- R291: a port switch above 150 °C: TRIPPED, cause 5. -/
def Mod.switchOvertemp (k : Nat) (c : Rat) (m : Mod) : Mod :=
  if k < 8 && decide (150 < c) then
    let m := m.setQ E.SW_TEMP k c
    if m.n E.PROT_STATE k ≤ 1 then (m.trip k 5 (m.iPort k)).tripActions k else m.trip k 5 (m.iPort k)
  else m

def execSwitchOvertemp (t : Nat) (k : Nat) (c : Rat) (s : State) : Host.Outcome State Fault Refusal :=
  execM t (Mod.switchOvertemp k c) s

/-- R280: an over-temperature trip clears by itself below 110 °C. -/
def Mod.switchCool (k : Nat) (c : Rat) (m : Mod) : Mod :=
  if k < 8 && decide (c < 110) && m.n E.PROT_STATE k == 2 && m.n E.PROT_CAUSE k == 5 then (m.setQ E.SW_TEMP k c).clearPort k
  else m

def execSwitchTempClear (t : Nat) (k : Nat) (c : Rat) (s : State) : Host.Outcome State Fault Refusal :=
  execM t (Mod.switchCool k c) s

/-! ## The toggle (R292) -/

/-- R292: the cause of a port's trip still holds. -/
def Mod.causeHolds (m : Mod) (k : Nat) : Bool :=
  match m.n E.PROT_CAUSE k with
  | 2 => decide (m.cq E.I2T_RESET k ≤ m.i2tPct k)
  | 3 => decide (m.ovpThreshold < m.vPort 5)
  | 4 => decide (1095 < m.sens.vLink)
  | 5 => decide (110 ≤ m.q E.SW_TEMP k)
  | _ => false

/-- R292: the port is disabled: IDLE with cause 8; the converter brings its current down, and its switch opens below 2 A
or after 20 ms. -/
def Mod.portDisable (m : Mod) (k : Nat) : Mod :=
  let m := m.setB E.PORT_EN k false
  let m := if k < 5 then (m.ceilingZero k).qualStop k 0 8 else m
  let m := if k = 4 then m.softStop 1 else if k = 5 then (m.softStop 0).softStop 1 else m
  m.when (m.closed k) (·.arm (.switchRelease k) (m.tb + ms 20))

/-- R292: the current is below 2 A, or 20 ms have passed. -/
def Mod.switchRelease (k : Nat) (i : Rat) (m : Mod) : Mod :=
  if m.armed (.switchRelease k) && (decide (absR i < 2) || m.due (.switchRelease k)) then
    (m.openSwitch k).disarm (.switchRelease k)
  else m

def execPortSwitchRelease (t : Nat) (k : Nat) (i : Rat) (s : State) : Host.Outcome State Fault Refusal :=
  execM t (Mod.switchRelease k i) s

/-- R292, R294, R123: the port is enabled again: it clears, its qualification starts, a latch's count begins anew, and BAT may
recover again (R229). A switch that has yet to open does so now. -/
def Mod.portEnable (m : Mod) (k : Nat) : Mod :=
  let st := m.n E.PROT_STATE k
  let m := m.setB E.PORT_EN k true
  let m := m.when (m.armed (.switchRelease k)) (fun m => (m.openSwitch k).disarm (.switchRelease k))
  let m := if st == 3 then m.modProt k (fun x => { x with trips := [] }) else m
  let m := m.when (k == 4) (fun m => { m with prof := { m.prof with recBarred := false } })
  if 2 ≤ st then m.clearPort k
  else if k < 5 then
    let m := (m.when (m.n E.QUAL_STATE k == 7) (·.qualTo k 0)).setN E.QUAL_PREFAIL k 0
    m.when (qualRuns (m.n E.PATH_ACT 0)) (·.qualBegin k)
  else if k = 7 then m.reclose 7
  else m

/-! ## Interlock and ESTOP (R293, R296 to R298) -/

/-- R296: the interlock loop is open. -/
def Mod.ilkOpened (m : Mod) : Mod :=
  if m.b E.ILK_EN 0 && !m.safe.ilkOpen then
    ({ m with safe := { m.safe with ilkOpen := true, ilkOpenAt := m.tb } }.setN E.ILK_STATE 0 1).force 1
  else m

def execIlkOpen (t : Nat) (s : State) : Host.Outcome State Fault Refusal := execSafe t Mod.ilkOpened s

/-- R293, R298: the loop is qualified closed, 100 ms after it closed; after an opening of 100 ms the TRIPPED ports of causes 1, 3
and 4 clear where their cause no longer holds. -/
def Mod.ilkClosed (m : Mod) : Mod :=
  if m.b E.ILK_EN 0 && m.safe.ilkOpen then
    let long := m.safe.ilkOpenAt + ms 100 + ms 100 ≤ m.tb
    let m := ({ m with safe := { m.safe with ilkOpen := false } }.setN E.ILK_STATE 0 0).unforce 1
    m.when long (·.each 8 (fun k m =>
      let c := m.n E.PROT_CAUSE k
      m.when (m.n E.PROT_STATE k == 2 && (c == 1 || c == 3 || c == 4) && !m.causeHolds k) (·.clearPort k)))
  else m

def execIlkClose (t : Nat) (s : State) : Host.Outcome State Fault Refusal := execSafe t Mod.ilkClosed s

/-- R297: ESTOP is open, by its loop or by two failed tests. -/
def Mod.estopTo (m : Mod) (st : Nat) : Mod :=
  ({ m with safe := { m.safe with estopOpen := true } }.setN E.ESTOP_STATE 0 st).force 0

def Mod.estopOpened (m : Mod) : Mod := if m.b E.ESTOP_EN 0 && m.n E.ESTOP_STATE 0 == 0 then m.estopTo 1 else m

def execEstopOpen (t : Nat) (s : State) : Host.Outcome State Fault Refusal := execSafe t Mod.estopOpened s

/-- R297: the loop has stayed closed for 100 ms, and the tests pass. -/
def Mod.estopClosed (m : Mod) : Mod :=
  if m.b E.ESTOP_EN 0 && (m.n E.ESTOP_STATE 0 == 1 || m.n E.ESTOP_STATE 0 == 3) && m.safe.estopFails == 0 then
    ({ m with safe := { m.safe with estopOpen := false } }.setN E.ESTOP_STATE 0 0).unforce 0
  else m

def execEstopClose (t : Nat) (s : State) : Host.Outcome State Fault Refusal := execSafe t Mod.estopClosed s

/-- R297: the loop's test of every second: two failures in succession count as open. -/
def Mod.estopTested (pass : Bool) (m : Mod) : Mod :=
  if !m.b E.ESTOP_EN 0 then m
  else if pass then { m with safe := { m.safe with estopFails := 0 } }
  else
    let m : Mod := { m with safe := { m.safe with estopFails := m.safe.estopFails + 1 } }
    if 2 ≤ m.safe.estopFails ∧ m.n E.ESTOP_STATE 0 ≠ 3 then m.estopTo 3 else m

def execEstopTest (t : Nat) (pass : Bool) (s : State) : Host.Outcome State Fault Refusal :=
  execSafe t (Mod.estopTested pass) s

/-- R296: SAFE's cores disagree: the hardware holds the outputs off until a power-on reset. -/
def Mod.lockstepMismatch (m : Mod) : Mod :=
  let m := m.gateOffBoth 0
  let m := stopPorts.foldl Mod.openSwitch m
  let m := (m.contOff).setB E.FAULT_OUT 0 false
  let m := { m with lockstep := true }.ilko
  m.raise 4 0

def execLockstepMismatch (t : Nat) (s : State) : Host.Outcome State Fault Refusal := execSafe t Mod.lockstepMismatch s

/-! ## CONT (R299, R300) -/

/-- R299: CONT_PULL is over: the coil is held at CONT_HOLD duty. -/
def Mod.contHold (m : Mod) : Mod :=
  if m.due .contPull then
    (m.when (m.safe.contOn && m.n E.CONT_STATE 0 == 1) (·.setN E.CONT_STATE 0 2)).disarm .contPull
  else m

def execContPullExpiry (t : Nat) (s : State) : Host.Outcome State Fault Refusal := execM t Mod.contHold s

/-- R300: below 50 mA for 10 ms: open load; the output stays on. -/
def Mod.contOpenLoad (i : Rat) (m : Mod) : Mod :=
  if m.safe.contOn && decide (i < dec 5 2) then ((m.setQ E.CONT_I 0 i).setN E.CONT_STATE 0 3).sync 12 3 true (some i) else m

def execContOpenLoad (t : Nat) (i : Rat) (s : State) : Host.Outcome State Fault Refusal := execM t (Mod.contOpenLoad i) s

/-- R300: overcurrent, above 3 A for 10 ms after CONT_PULL, or at the limit of 10 A for 200 ms: the output turns off and stays off
until the request has gone false and true again. -/
def Mod.contOvercurrent (i : Rat) (m : Mod) : Mod :=
  if m.safe.contOn && (if m.n E.CONT_STATE 0 = 1 then decide (10 ≤ i) else decide (3 < i)) then
    (((m.contOff).setN E.CONT_STATE 0 4).inc E.CONT_OC_CNT 0).sync 12 4 true (some i)
  else m

def execContOvercurrent (t : Nat) (i : Rat) (s : State) : Host.Outcome State Fault Refusal :=
  execM t (Mod.contOvercurrent i) s

/-! ## Insulation monitor (R301 to R304) -/

/-- R302: the module belongs to a shared galvanic system. -/
def Mod.imdShared (m : Mod) : Bool := m.b E.IMD_EN 0 && m.n E.IMD_GSYS 0 != 0

/-- R304: IMD_STATE takes a value: a change is recorded, sent on class 2, and an alarm raises its fault. -/
def Mod.imdTo (m : Mod) (st : Nat) : Mod :=
  if m.n E.IMD_STATE 0 = st then m
  else
    let m := m.setNoted E.IMD_STATE 0 st
    let m := m.originate 2 0x23 0xFFFF
      (leBytes 2 (m.n E.IMD_GSYS 0) ++ [st, m.n E.IMD_ROLE 0] ++ leBytes 4 (m.n E.IMD_RISO 0))
    let act := m.n E.IMD_ACTION 0
    if st = 3 ∧ act ≠ 0 ∧ !m.bitOf E.FLT_ACTIVE 15 0 then
      (m.modFlt 15 (fun x => { x with imdClass := act })).raiseAs 15 0 act (some (m.q E.IMD_RISO 0))
    else if st ≠ 3 then m.lower 15 0 else m

/-- R301, R302: injection stops: a module that does not inject reports no insulation resistance. -/
def Mod.imdStop (m : Mod) (role : Nat) : Mod :=
  (((m.setN E.IMD_ROLE 0 role).setQ E.IMD_RISO 0 0).imdTo 0).disarm .imdGrant

/-- R302, R310: an enabled module of a shared system that is not FENCED and does not inject is a candidate, from when it tells its
lantern so (assumption log 105). -/
def Mod.imdOffer (m : Mod) : Mod := m.when (m.imdShared && !m.fenced && m.n E.IMD_ROLE 0 == 0) (·.setN E.IMD_ROLE 0 2)

/-- R302: injection starts. -/
def Mod.imdStart (m : Mod) : Mod := m.when (m.n E.IMD_ROLE 0 != 1) (fun m => (m.setN E.IMD_ROLE 0 1).imdTo 4)

/-- R302: a grant of the root lantern: to this module, for its own galvanic system. -/
def Mod.imdGrant (gsys node : Nat) (m : Mod) : Mod :=
  if m.imdShared && m.n E.IMD_GSYS 0 == gsys && !m.fenced && m.ntimeOk &&
      (m.n E.NET_ADDR 0 == node || m.n E.NET_ADDR_P 0 == node) && node != 0xFFFF then
    (m.imdStart).arm .imdGrant (m.tb + sec 3)
  else m

/-- R302: the grant is older than 3 s. -/
def Mod.imdExpiry (m : Mod) : Mod :=
  if m.due .imdGrant then
    if m.n E.IMD_ROLE 0 == 1 then m.imdStop 0 else m.disarm .imdGrant
  else m

def execImdGrantExpiry (t : Nat) (s : State) : Host.Outcome State Fault Refusal := execM t Mod.imdExpiry s

/-- R303: the injection period in force, s. -/
def Mod.imdPeriod (m : Mod) : Rat := maxR m.safe.imdPeriod (m.q E.IMD_PERIOD 0)

/-- R304: the state that an insulation resistance gives, with 10 % hysteresis on the way up. -/
def Mod.imdLevel (m : Mod) (r : Rat) : Nat :=
  let w := m.q E.IMD_WARN 0
  let a := m.q E.IMD_ALARM 0
  let base := if r < a then 3 else if r ≤ w then 2 else 1
  let now := m.n E.IMD_STATE 0
  let up := fun (x : Rat) => x * (11 / 10)
  if now = 3 ∧ base < 3 ∧ r < up a then 3
  else if (now = 2 ∨ now = 3) ∧ base = 1 ∧ r < up w then 2
  else base

/-- R303: one half-period of the injector: R_iso, C_sys and the fault's position; a period too short is lengthened. -/
def Mod.imdHalf (riso csys pole : Rat) (m : Mod) : Mod :=
  if !m.b E.IMD_EN 0 then m
  else
    let m := m.setQ E.IMD_POLE 0 (clampR 0 100 pole)
    if m.n E.IMD_ROLE 0 != 1 || (m.fltOf 15).resetting then m
    else
      let per := m.imdPeriod
      let need := 5 * (240 + riso) * csys / 1000
      let m := m.setQ E.IMD_CSYS 0 (clampR 0 200 csys)
      if per / 2 < need then
        ({ m with safe := { m.safe with imdPeriod := minR 60 (2 * need) } } : Mod).imdTo 4
      else (m.setQ E.IMD_RISO 0 (clampR 0 10000 riso)).imdTo (m.imdLevel riso)

def execImdHalfPeriod (t : Nat) (riso csys pole : Rat) (s : State) : Host.Outcome State Fault Refusal :=
  execM t (Mod.imdHalf riso csys pole) s

/-- R302: injection other than its own is seen: the module stops, IMD_ROLE is 3, an alarm goes out on class 2. The root lantern
leaves itself out of its next grant as it does another. -/
def Mod.imdClash (m : Mod) : Mod :=
  if m.n E.IMD_ROLE 0 == 1 then
    let m := m.imdStop 3
    let m := m.originate 2 0x23 0xFFFF
      (leBytes 2 (m.n E.IMD_GSYS 0) ++ [m.n E.IMD_STATE 0, 3] ++ leBytes 4 (m.n E.IMD_RISO 0))
    let own := m.n E.NET_ADDR 0
    let m : Mod := { m with safe := { m.safe with imdBarred := own :: m.safe.imdBarred.filter (· != own) } }
    m.sync 15 1 true
  else m

def execImdConflict (t : Nat) (s : State) : Host.Outcome State Fault Refusal := execM t Mod.imdClash s

end Sys2Proof.Machine
end

