-- ==== Sys2Proof/Machine/UsbCmds.lean ====
section
/-! DEFINITION. Machine/UsbCmds.lean: the USB-C service port (R430 to R442), and the secrets and firmware that no write
moves (R445, R447, R448, R451, R452). -/

namespace Sys2Proof.Machine

open Sys2Proof

/-- R381: the requester of the USB service host. -/
def usbRequester : Nat := 0x4000

/-! ## Attach and detach -/

/-- A USB PD message leaves. -/
def Mod.pd (m : Mod) (msg : String) (args : List Nat := []) : Mod := m.emit (.pd msg args)

/-- USB_STATE takes a value, Deep Service apart (R442). -/
def Mod.usbTo (m : Mod) (st : Nat) : Mod := m.when (m.n E.USB_STATE 0 != 3) (·.setN E.USB_STATE 0 st)

/-- A contract's values, and none. -/
def Mod.usbContract (m : Mod) (v i : Rat) (epr : Bool) : Mod :=
  (((m.setQ E.USB_V 0 v).setQ E.USB_I 0 i).setB E.USB_EPR 0 epr).usbTo 2

def Mod.usbNoContract (m : Mod) : Mod :=
  let m : Mod := { m with usb := { m.usb with contract := false, vbusLive := false } }
  (((m.setQ E.USB_V 0 0).setQ E.USB_I 0 0).setB E.USB_EPR 0 false).usbTo 1

/-- R442: Deep Service ends: the SBU switches open. -/
def Mod.deepEnd (m : Mod) : Mod :=
  let m : Mod := { m with usb := { m.usb with sbu := false } }
  m.when (m.n E.USB_STATE 0 == 3) (·.setN E.USB_STATE 0 (if m.usb.contract then 2 else 1))

/-- R431: what the module presents at CC: nothing through a reset of block 9, Rd, or toggling between the two with a preference. -/
inductive CcPin where
  | none | rd | drpTrySnk | drpTrySrc
  deriving DecidableEq, Repr

def Mod.ccPin (m : Mod) : CcPin :=
  if (m.fltOf 9).resetting then .none
  else if !m.counting || !m.usb.powered || !m.b E.USB_SRC_EN 0 then .rd
  else if m.n E.USB_ROLE_PREF 0 = 1 then .drpTrySrc else .drpTrySnk

/-- R433: the module may be a source: it is powered, and USB_SRC_EN asks for it. -/
def Mod.mayBeSource (m : Mod) : Bool := m.usb.powered && m.b E.USB_SRC_EN 0

/-- R431: the roles at which a partner may attach: as sink at Rd, as either while the module toggles. -/
def Mod.mayAttach (m : Mod) (src : Bool) : Bool :=
  match m.ccPin with
  | .none => false
  | .rd => !src
  | .drpTrySnk | .drpTrySrc => true

/-- R431, R434: a power role comes into force; a source waits for vSafe0V. -/
def Mod.usbRole (m : Mod) (src : Bool) : Mod :=
  ({ m with usb := { m.usb with discharging := src, srcOn := false, vbusLive := false, swapping := false } } : Mod).setN E.USB_PWR_ROLE 0 (b2n src)

/-- R381, R431, R443: a partner attaches in role `src` of the module: the USB session begins, at L3 while no L3 credential is
set. -/
def usbAttachWith (src : Bool) (x : Sys) : Sys :=
  let m : Mod := { x.1 with usb := { powered := x.1.usb.powered, attached := true, attachSrc := src } }
  let m := ((m.usbRole src).setN E.USB_DATA_ROLE 0 (b2n src)).setN E.USB_STATE 0 1
  (m, x.2.setLevel usbRequester (if (m.credOf 3).isNone then 3 else 0) m.tb)

/-- R430: the attach; as source only where the module offers source. In HIBERNATE an attach is a wake event (R431). -/
def execUsbAttach (t : Nat) (source : Bool) (s : State) : Host.Outcome State Fault Refusal :=
  let m := s.m.at t
  if m.phase = .hibernate then
    .next { s with m := if m.bitOf E.WAKE_EN 0 2 then m.wakeBegin 3 true else m }
  else
    execS t (fun x => if x.1.usb.attached || x.1.ccPin == .none then x else usbAttachWith (x.1.mayAttach source && source) x) s

/-- R438: the partner is gone: both paths open, VBUS is discharged, Deep Service, the contract and the session end. -/
def usbDetach (x : Sys) : Sys :=
  if x.1.usb.attached then
    let m := (x.1.deepEnd).usbNoContract
    let m : Mod := { m with usb := { powered := m.usb.powered } }
    let m := ((m.setN E.USB_STATE 0 0).setN E.USB_PWR_ROLE 0 0).setN E.USB_DATA_ROLE 0 0
    endSession (m, x.2) usbRequester
  else x

def execUsbDetach (t : Nat) (s : State) : Host.Outcome State Fault Refusal := execS t usbDetach s

/-! ## Contracts -/

/-- R435: with an explicit contract: PR_Swap towards USB_ROLE_PREF and DR_Swap to become UFP, each once per attach. -/
def Mod.swapsTx (m : Mod) : Mod :=
  let src := m.n E.USB_PWR_ROLE 0 == 1
  let wantSrc := m.n E.USB_ROLE_PREF 0 == 1
  let pr := !m.usb.prSent && src != wantSrc && (!wantSrc || m.mayBeSource)
  let m := m.when pr (fun m => ({ m with usb := { m.usb with prSent := true } } : Mod).pd "PR_Swap")
  m.when (m.n E.USB_DATA_ROLE 0 == 1 && !m.usb.drSent)
    (fun m => ({ m with usb := { m.usb with drSent := true } } : Mod).pd "DR_Swap")

/-- R435, R439: after an explicit contract: the swaps, and as DFP Discover Identity. -/
def Mod.afterContract (m : Mod) : Mod :=
  let m := ({ m with usb := { m.usb with contract := true } } : Mod).swapsTx
  m.when (m.n E.USB_DATA_ROLE 0 == 1) (·.pd "Discover_Identity")

/-- R432: the highest of 48, 36 and 28 V that the source offers. -/
def eprChoice (c : SrcCaps) : Option Nat :=
  if c.eprCapable then [48, 36, 28].find? (fun v => c.epr.contains v) else none

/-- R432: the capabilities of the source, and the contract that follows. -/
def Mod.sourceCaps (c : SrcCaps) (m : Mod) : Mod :=
  if m.usb.attached && m.n E.USB_PWR_ROLE 0 == 0 then
    match eprChoice c with
    | some v =>
      let i := minR 5 (mkRat 90 v)
      let m := (m.pd "EPR_Mode_Enter").pd "EPR_Request" [v, (i * 1000).floor.toNat]
      let m : Mod := { m with usb := { m.usb with vbusLive := true } }
      (m.usbContract v i true).afterContract
    | none =>
      let m := m.pd "Request" [5, 500, 1]
      let m : Mod := { m with usb := { m.usb with vbusLive := false } }
      (m.usbContract 5 (mkRat 1 2) false).afterContract
  else m

def execSourceCapabilities (t : Nat) (c : SrcCaps) (s : State) : Host.Outcome State Fault Refusal :=
  execM t (Mod.sourceCaps c) s

/-- R432: EPR has ended: the SPR contract that follows stands, and the auxiliary supply draws nothing from VBUS. -/
def Mod.eprEnd (m : Mod) : Mod :=
  if m.usb.attached && m.b E.USB_EPR 0 then
    ({ m with usb := { m.usb with vbusLive := false } } : Mod).usbContract 5 (mkRat 1 2) false
  else m

/-- R430, R432: EPR_KeepAlive goes out under an EPR contract; a missed response ends EPR. -/
def Mod.keepAlive (answered : Bool) (m : Mod) : Mod :=
  if m.usb.attached && m.b E.USB_EPR 0 then
    let m := m.pd "EPR_KeepAlive"
    if answered then m else m.eprEnd
  else m

def execEprKeepalive (t : Nat) (answered : Bool) (s : State) : Host.Outcome State Fault Refusal :=
  execM t (Mod.keepAlive answered) s

def execEprExit (t : Nat) (s : State) : Host.Outcome State Fault Refusal := execM t Mod.eprEnd s

/-- R433: voltages offered as source: USB_SRC_PDO's bits. -/
def pdoVolts : List Nat := [5, 9, 15, 20]

def Mod.pdoOffered (m : Mod) : List Nat :=
  ((List.range 4).filter (fun k => m.bitOf E.USB_SRC_PDO 0 k)).map (fun k => (pdoVolts[k]?).getD 5)

/-- R433, R434, R439: a sink's Request: an offered voltage at 3 A is accepted. -/
def Mod.pdRequest (volts : Nat) (m : Mod) : Mod :=
  if m.usb.attached && m.n E.USB_PWR_ROLE 0 == 1 && m.usb.srcOn then
    if m.mayBeSource && m.pdoOffered.contains volts then
      (((m.pd "Accept").pd "PS_RDY").usbContract volts 3 false).afterContract
    else m.pd "Reject"
  else m

def execPdRequest (t : Nat) (volts : Nat) (s : State) : Host.Outcome State Fault Refusal := execM t (Mod.pdRequest volts) s

/-- R434, R435: VBUS has stayed within vSafe0V for 1 ms: the source switch closes, a swap to source is completed with PS_RDY,
and capabilities are offered; above vSafe0V the switch stays open and an event is recorded. -/
def Mod.vbusDone (vbus : Rat) (m : Mod) : Mod :=
  if m.usb.attached && m.n E.USB_PWR_ROLE 0 == 1 && m.usb.discharging then
    if decide (vbus ≤ dec 8 1) then
      let swap := m.usb.swapping
      let m : Mod := { m with usb := { m.usb with discharging := false, srcOn := m.mayBeSource, swapping := false } }
      m.when m.usb.srcOn (fun m => (m.when swap (·.pd "PS_RDY")).pd "Source_Capabilities" m.pdoOffered)
    else (m.usbTo 1).noteAt E.USB_STATE 0
  else m

def execVbusDischargeDone (t : Nat) (vbus : Rat) (s : State) : Host.Outcome State Fault Refusal :=
  execM t (Mod.vbusDone vbus) s

/-! ## Swaps and Hard Reset -/

/-- R435: a PR_Swap received. -/
def Mod.prSwap (m : Mod) : Mod :=
  if !m.usb.attached then m
  else if m.n E.USB_PWR_ROLE 0 == 1 then (((m.pd "Accept").usbNoContract).usbRole false).pd "PS_RDY"
  else if m.mayBeSource then
    let m := ((m.pd "Accept").usbNoContract).usbRole true
    { m with usb := { m.usb with swapping := true } }
  else m.pd "Reject"

def execPrSwap (t : Nat) (s : State) : Host.Outcome State Fault Refusal := execM t Mod.prSwap s

/-- R435: a DR_Swap received. -/
def Mod.drSwap (m : Mod) : Mod :=
  if !m.usb.attached then m
  else if m.n E.USB_STATE 0 == 3 then m.pd "Reject"
  else
    let m := (m.pd "Accept").setN E.USB_DATA_ROLE 0 (1 - m.n E.USB_DATA_ROLE 0)
    m.when m.usb.contract Mod.swapsTx

def execDrSwap (t : Nat) (s : State) : Host.Outcome State Fault Refusal := execM t Mod.drSwap s

/-- R436: the FR_Swap message is not supported, and its signal is ignored. -/
def Mod.frSwap (asMessage : Bool) (m : Mod) : Mod := m.when (m.usb.attached && asMessage) (·.pd "Not_Supported")

def execFrSwap (t : Nat) (asMessage : Bool) (s : State) : Host.Outcome State Fault Refusal :=
  execM t (Mod.frSwap asMessage) s

/-- R430: a message for an unsupported feature, by its message code. -/
def Mod.notSupported (message : Nat) (m : Mod) : Mod := m.when m.usb.attached (·.pd "Not_Supported" [message])

def execNotSupported (t : Nat) (message : Nat) (s : State) : Host.Outcome State Fault Refusal :=
  execM t (Mod.notSupported message) s

/-- R437: a Hard Reset: the contract, EPR and Deep Service end, and the module returns to its attach role. -/
def Mod.hardReset (sent : Bool) (m : Mod) : Mod :=
  if !m.usb.attached then m
  else
    let m := m.when sent (·.pd "Hard_Reset")
    let m := ((m.deepEnd).usbNoContract).inc E.USB_HRST_CNT 0
    (m.usbRole m.usb.attachSrc).setN E.USB_DATA_ROLE 0 (b2n m.usb.attachSrc)

def execHardReset (t : Nat) (sent : Bool) (s : State) : Host.Outcome State Fault Refusal := execM t (Mod.hardReset sent) s

/-! ## Discovery and Deep Service -/

/-- R439: the VDOs: USB device, modal operation and vendor; Cert Stat; product and revision. -/
def Mod.discoverIdentity (m : Mod) : Mod :=
  m.when m.usb.attached (·.pd "Discover_Identity_ACK" [1, 2, 1, 0x3A71, 0, 0x60010042, 1])

def execDiscoverIdentity (t : Nat) (s : State) : Host.Outcome State Fault Refusal := execM t Mod.discoverIdentity s

def Mod.discoverSvids (m : Mod) : Mod := m.when m.usb.attached (·.pd "Discover_SVIDs_ACK" [0x3A71, 0])

def execDiscoverSvids (t : Nat) (s : State) : Host.Outcome State Fault Refusal := execM t Mod.discoverSvids s

/-- R439: the Mode VDO of SVID 0x3A71; another SVID is answered NAK. -/
def Mod.discoverModes (svid : Nat) (m : Mod) : Mod :=
  m.when m.usb.attached (fun m => if svid = 0x3A71 then m.pd "Discover_Modes_ACK" [1] else m.pd "Discover_Modes_NAK")

def execDiscoverModes (t : Nat) (svid : Nat) (s : State) : Host.Outcome State Fault Refusal :=
  execM t (Mod.discoverModes svid) s

/-- R439: as DFP, the partner's answer is stored, at most seven VDOs. -/
def Mod.partnerIdentity (vdos : List Nat) (m : Mod) : Mod :=
  m.when (m.usb.attached && m.n E.USB_DATA_ROLE 0 == 1)
    (·.setBytes E.USB_PARTNER 0 ((vdos.take 7).flatMap (leBytes 4)))

def execPartnerIdentityRx (t : Nat) (vdos : List Nat) (s : State) : Host.Outcome State Fault Refusal :=
  execM t (Mod.partnerIdentity vdos) s

/-- R441: the conditions of an entry to Deep Service. -/
def deepAllowed (x : Sys) (svid pos : Nat) : Bool :=
  svid == 0x3A71 && pos == 1 && x.1.usb.attached && x.1.usb.contract && x.1.n E.USB_DATA_ROLE 0 == 0 &&
    x.1.n E.ENV_EFF 0 == 0 && (((x.2.session usbRequester).map (·.level)).getD 0) == 3

/-- R441, R447: Enter Mode: the secrets are erased, then SBU is switched, then the answer leaves. -/
def enterMode (svid pos : Nat) (x : Sys) : Sys :=
  if !x.1.usb.attached then x
  else if deepAllowed x svid pos then
    let m := x.1.eraseSecrets 1
    let m := (({ m with usb := { m.usb with sbu := true } } : Mod).setN E.USB_STATE 0 3).inc E.DEEP_CNT 0
    (m.pd "Enter_Mode_ACK", x.2)
  else (x.1.pd "Enter_Mode_NAK", x.2)

def execEnterMode (t : Nat) (svid pos : Nat) (s : State) : Host.Outcome State Fault Refusal := execS t (enterMode svid pos) s

/-- R442: Exit Mode. -/
def Mod.exitMode (m : Mod) : Mod :=
  if m.usb.attached && m.n E.USB_STATE 0 == 3 then (m.deepEnd).pd "Exit_Mode_ACK" else m

def execExitMode (t : Nat) (s : State) : Host.Outcome State Fault Refusal := execM t Mod.exitMode s

/-! ## Tamper, sessions, lockouts, scrub and firmware -/

/-- R447, R448, R296: the tamper switch opens: the latch is set, an erase runs and SAFE forces the module. SAFE erases also while
the control complex does not run (R305); without power the latch alone is set, and the next start completes the erase. -/
def Mod.tamperOpened (m : Mod) : Mod :=
  let m : Mod := { m with safe := { m.safe with tamperOpen := true },
                          keys := { m.keys with latch := true, latchErased := false, latchNoted := false } }
  if m.alive then
    let m := (m.eraseSecrets 2).force 3
    { m with keys := { m.keys with latchErased := true } }
  else if m.safeAlone then { m.eraseSecrets 2 with keys := { (m.eraseSecrets 2).keys with latchErased := true } }
  else if m.phase = .hibernate then m.wakeBegin 5 true
  else m

def execTamperOpen (t : Nat) (s : State) : Host.Outcome State Fault Refusal :=
  .next { s with m := (s.m.at t).tamperOpened }

/-- R448: the case is closed again. -/
def Mod.tamperClosed (m : Mod) : Mod :=
  let m : Mod := { m with safe := { m.safe with tamperOpen := false } }
  if m.alive then m.unforce 3 else m

def execTamperClose (t : Nat) (s : State) : Host.Outcome State Fault Refusal :=
  .next { s with m := (s.m.at t).tamperClosed }

/-- R443: a Zwinglink or CAN session without a request for 900 s returns to L0. -/
def sessionIdle (req : Nat) (x : Sys) : Sys :=
  if x.1.due (.session req) then
    let x := setSession x req 0
    (x.1.disarm (.session req), x.2)
  else x

def execSessionIdleTimeout (t : Nat) (requester : Nat) (s : State) : Host.Outcome State Fault Refusal :=
  execS t (sessionIdle requester) s

/-- R445: a lockout ends. -/
def Mod.lockoutEnd (cls : Nat) (m : Mod) : Mod := if m.due (.lockout cls) then m.disarm (.lockout cls) else m

def execLockoutExpiry (t : Nat) (cls : Nat) (s : State) : Host.Outcome State Fault Refusal := execM t (Mod.lockoutEnd cls) s

/-- R447: the sealed copies have been scrubbed. -/
def Mod.scrubDone (m : Mod) : Mod := ({ m with keys := { m.keys with scrub := false } } : Mod).disarm .scrub

def execScrubDone (t : Nat) (s : State) : Host.Outcome State Fault Refusal := execM t Mod.scrubDone s

/-- R451: the first check that an image fails: 1 magic, 2 length, 3 hardware, 4 rollback floor, 5 signature, 6 body hash. -/
def Mod.imageError (m : Mod) (x : FwImage) : Option Nat :=
  if x.magic ≠ 0x59545846 then some 1
  else if x.length ≠ m.fw.altLen then some 2
  else if !bit x.hwMask (m.n E.HW_REV 0 - 0x41) then some 3
  else if x.version < m.fw.floor then some 4
  else if !x.sigOk ∨ 3 < x.keyIndex then some 5
  else if !x.hashOk then some 6
  else none

/-- R451: an event about the other bank: FW_ALT_STATE before and after, and the check that failed. -/
def Mod.fwEvent (m : Mod) (old new check : Nat) : Mod :=
  m.logPut (m.record 0x0F00 0 0xFF 0xFF 0 E.FW_ALT_STATE.base E.FW_ALT_STATE.sub 0xFF
    (leBytes 8 old ++ leBytes 8 new ++ [check]))

/-- R451: the image that has been loaded is verified. -/
def Mod.fwVerified (x : FwImage) (m : Mod) : Mod :=
  if m.fw.altState = 1 ∧ m.armed .fwVerify then
    let m := m.disarm .fwVerify
    match m.imageError x with
    | some e => ({ m with fw := { m.fw with altState := 3 } } : Mod).fwEvent 1 3 e
    | none => { m with fw := { m.fw with altState := 2, altVer := x.version, altFloor := x.floor } }
  else m

def execFwVerifyDone (t : Nat) (x : FwImage) (s : State) : Host.Outcome State Fault Refusal := execM t (Mod.fwVerified x) s

/-- R452: the trial is confirmed 60 s after the start, which has reached ACTIVE (R517): the image's floor is committed, and the previous bank is the other, verified one. -/
def Mod.trialConfirm (m : Mod) : Mod :=
  if m.fw.trial && m.due .trial then
    { m.disarm .trial with fw := { m.fw with trial := false, trialBoots := 0, altState := 2, floor := m.fw.runFloor } }
  else m

def execTrialConfirm (t : Nat) (s : State) : Host.Outcome State Fault Refusal := execM t Mod.trialConfirm s

end Sys2Proof.Machine
end

