-- ==== Sys2Proof/Machine/FaultCmds.lean ====
section
/-! DEFINITION. Machine/FaultCmds.lean: the commands of the chapter Faults and the Keeper Watchdog: raising, scanning,
acknowledging, escalating and recovering (R476 to R487), injection (R488, R489), the keeper (R490 to R497), and the
flash erases (R496, R500). -/

namespace Sys2Proof.Machine

open Sys2Proof

/-! ## Raising and acknowledging -/

/-- R476: the sources that a block has, as a bit map. -/
def sourceMask (b : Nat) : Nat := (List.range 16).foldl (fun a k => if (srcClass b k).isSome then a ||| (1 <<< k) else a) 0

/-- R304: the class of a source; source 15:0 takes IMD_ACTION's. -/
def Mod.classNow (m : Mod) (b bit : Nat) : Option Nat :=
  if b = 15 ∧ bit = 0 then (if m.n E.IMD_ACTION 0 = 0 then none else some (m.n E.IMD_ACTION 0)) else srcClass b bit

/-- R312: an uncorrectable error in stored data: a sample of the capture held becomes invalid, where the line lies in the capture
buffer. Which line it is, no rule gives. -/
def Mod.capEcc (m : Mod) : Mod :=
  let n := m.cap.rec_.done.length * 16
  let p := m.freeVal % (2 * n)
  let m := m.freeStep
  if m.n E.CAP_STATE 0 = 0 ∨ n ≤ p then m
  else
    let done := modAt (0, []) m.cap.rec_.done (p / 16) (fun x => (x.1, setAt 0 x.2 (p % 16) invalidCode))
    ({ m with cap := { m.cap with rec_ := { m.cap.rec_ with done := done } } } : Mod).when (bit m.cap.mask (p % 16))
      (·.setBit E.CAP_FLAGS 0 2 true)

/-- R312, R329, R476, R488: what a raising rule asks beside the raising: nominal constants after a calibration CRC failure, and the
sink path open on VBUS overvoltage. -/
def Mod.raiseEffect (m : Mod) (b bit : Nat) : Mod :=
  if b = 5 ∧ bit = 3 then m.setN E.CAL_STATE 0 1
  else if b = 6 ∧ bit = 1 then m.when (!Sys2Proof.bit (m.fltOf 6).injected 1) Mod.capEcc
  else if b = 9 ∧ bit = 1 then { m with usb := { m.usb with vbusLive := false } }
  else m

/-- R522: condition sources whose end no other command brings: VBUS, a control-complex rail, the PLL, the TCXO and the RTC's
crystal. -/
def reportedSources : List (Nat × Nat) := [(9, 1), (13, 2), (14, 0), (14, 1), (14, 2)]

/-- R477: a source becomes active; or, of a condition that no other command ends, the checker no longer reports it. -/
def Mod.faultRaise (b bit : Nat) (active : Bool) (value : Rat) (m : Mod) : Mod :=
  if !active then
    m.when (reportedSources.contains (b, bit))
      (fun m => (m.when (b == 14 && bit == 0) (fun m => (m.disarm .pllRelock).setB E.PLL_LOCK 0 true)).lower b bit)
  else
    match m.classNow b bit with
    | some cls => (m.raiseEffect b bit).raiseAs b bit cls (some value)
    | none => m

def execFaultRaise (t : Nat) (b bit : Nat) (active : Bool) (value : Rat) (s : State) : Host.Outcome State Fault Refusal :=
  execM t (Mod.faultRaise b bit active value) s

/-- R479, R494: SUP0 scans every FLT_ACTIVE. -/
def Mod.faultScan (m : Mod) : Mod :=
  (m.each 16 (fun b m => m.modFlt b (fun x => { x with told := m.n E.FLT_ACTIVE b }))).kprTask 1

def execFaultScan (t : Nat) (s : State) : Host.Outcome State Fault Refusal := execM t Mod.faultScan s

/-- R479, R486: acknowledgement of active class U sources before the grace ends. -/
def Mod.faultAck (b bits : Nat) (m : Mod) : Mod :=
  if 16 ≤ b ∨ m.due (.grace b) then m
  else
    let seen := bits &&& m.n E.FLT_ACTIVE b
    let m := m.modFlt b (fun x => { x with unacked := clearBits x.unacked seen })
    m.when ((m.fltOf b).unacked == 0) (·.disarm (.grace b))

def execFaultAck (t : Nat) (b bits : Nat) (s : State) : Host.Outcome State Fault Refusal := execM t (Mod.faultAck b bits) s

/-- R477: an event source has held its bit for 1 ms. -/
def Mod.eventHold (b bit : Nat) (m : Mod) : Mod :=
  if m.due (.eventHold b bit) then (m.lower b bit).disarm (.eventHold b bit) else m

def execFaultEventHoldExpiry (t : Nat) (b bit : Nat) (s : State) : Host.Outcome State Fault Refusal :=
  execM t (Mod.eventHold b bit) s

/-! ## Stage trips and block resets (R423, R480 to R482) -/

/-- R423: the stages that a block's stage trip gates off. -/
def tripServes (b g : Nat) : Bool := if b = 1 then g == 0 else if b = 2 then g == 1 else true

/-- R481: the stages that a block's reset gates off. -/
def resetServes (b g : Nat) : Bool :=
  if b = 1 then g == 0 else if b = 2 then g == 1 else b == 5 || b == 12 || b == 14

/-- Gate causes 2 and 3 follow the blocks' trips and resets. -/
def Mod.faultGates (m : Mod) : Mod :=
  let put := fun (c : Nat) (on : Nat → Bool) (m : Mod) (g : Nat) =>
    if on g then (if bit (m.stgOf g).gate c then m else m.gateOff g c)
    else m.modStg g (fun x => { x with gate := Sys2Proof.setBit x.gate c false })
  let trips := fun g => (List.range 16).any (fun b => (m.fltOf b).trip && tripServes b g)
  let resets := fun g => (List.range 16).any (fun b => (m.fltOf b).resetting && resetServes b g)
  let m := put 2 trips (put 2 trips m 0) 1
  put 3 resets (put 3 resets m 0) 1

/-- R481: how long a block reset lasts. -/
def resetTime (b : Nat) : Nat :=
  match b with
  | 1 | 2 | 6 => ms 20
  | 3 => ms 5
  | 5 => ms 10
  | 8 | 14 => ms 2
  | 9 => ms 500
  | 13 => ms 100
  | 15 => sec 60
  | _ => ms 1

/-- R406: a stream A whose queue is flushed ends ABORTED_RESET. -/
def Mod.streamAbort (m : Mod) (status : Nat) : Mod :=
  if m.n E.CAP_STATE 0 == 5 then
    let m : Mod := { m.disarm .streamA with cap := { m.cap with blocks := 0 } }
    (m.setN E.CAP_STATE 0 4).setN E.CAP_STRM_STATUS 0 status
  else m

/-- R359: network time is held without beacons. -/
def Mod.holdover (m : Mod) : Mod := m.when m.ntimeOk (·.setBit E.NET_FLAGS 0 1 true)

/-- R481, R484, R486: a block reset is complete: the quiet period starts, stages and ports come back, and the timer of
class U raisings during the reset starts. -/
def Mod.resetDone (b : Nat) (m : Mod) : Mod :=
  if (m.fltOf b).resetting && m.due (.blockReset b) then
    let m := (m.modFlt b (fun f => { f with resetting := false, since := m.tb })).disarm (.blockReset b)
    let m := m.faultGates
    let m := match b with
      | 12 =>
        let m := m.when (qualRuns (m.n E.PATH_ACT 0)) (·.each 5 (fun k m => m.qualBegin k))
        [6, 7].foldl (fun (m : Mod) k => m.when (m.protOk k && m.b E.PORT_EN k) (·.closeSwitch k)) m
      | 13 => m.when (m.protOk 7 && m.b E.PORT_EN 7) (·.closeSwitch 7)
      | 14 => ((m.disarm .pllRelock).setB E.PLL_LOCK 0 true).lower 14 0
      | 15 => m.when (m.n E.IMD_ROLE 0 == 1) (·.imdTo 4)
      | _ => m
    let f := m.fltOf b
    m.when (f.unacked != 0) (·.arm (.grace b) (m.tb + ms (m.n E.FLT_GRACE b)))
  else m

def execBlockResetDone (t : Nat) (b : Nat) (s : State) : Host.Outcome State Fault Refusal := execM t (Mod.resetDone b) s

/-! ## Recovery (R484, R485, R487) -/

/-- R484: everything but FLT_RLIM allows the block to recover. -/
def Mod.mayRecover (m : Mod) (b : Nat) : Bool :=
  let f := m.fltOf b
  m.n E.FLT_CLASS b != 0 && m.n E.FLT_ACTIVE b == 0 && f.fActive == 0 && !m.armed (.grace b) && !f.resetting &&
    !m.b E.FLT_LATCHED b && f.since + ms (m.n E.FLT_QUIET b) ≤ m.tb

/-- R484: the block recovers: its class and summary bit clear, a stage trip is released. -/
def Mod.recovered (m : Mod) (b : Nat) : Mod :=
  let m := ((m.setN E.FLT_CLASS b 0).setBit E.FLT_SUMMARY 0 b false).inc E.FLT_RECOV b
  let m := (m.modFlt b (fun f => { f with trip := false, recov := m.tb :: f.recov })).faultGates
  m.logPut (m.record 3 0 b 0xFF 0 0 0 0xFF (leBytes 4 (m.n E.FLT_RECOV b)))

/-- R484, R485: the quiet period has passed: the block recovers, or latches at its recovery limit. -/
def Mod.faultRecover (b : Nat) (m : Mod) : Mod :=
  if b < 16 && m.mayRecover b then
    let recent := (m.fltOf b).recov.filter (fun t => decide (m.tb < t + sec (m.n E.FLT_RWIN b)))
    let m := m.modFlt b (fun f => { f with recov := recent })
    if m.n E.FLT_RLIM b ≤ recent.length + 1 then
      let m := m.setB E.FLT_LATCHED b true
      m.logPut (m.record 4 (m.n E.FLT_CLASS b) b 0xFF 0 0 0 0xFF (leBytes 4 (m.n E.FLT_RECOV b)))
    else m.recovered b
  else m

def execFaultRecover (t : Nat) (b : Nat) (s : State) : Host.Outcome State Fault Refusal := execM t (Mod.faultRecover b) s

/-- R485: a write of FLT_LATCHED as 0: the count starts anew, and the block recovers at once where it may. -/
def Mod.latchClear (m : Mod) (b : Nat) : Mod :=
  let m := (m.setB E.FLT_LATCHED b false).modFlt b (fun f => { f with recov := [] })
  if m.mayRecover b then m.recovered b else m

/-- R422, R483: a write of 1 to FLT_STICKY; the end of a class F state, and of the CLASS_F force with the last one. -/
def Mod.stickyClear (m : Mod) (b bits : Nat) : Mod :=
  let gone := clearBits (bits &&& m.n E.FLT_STICKY b) (m.n E.FLT_ACTIVE b)
  let old := (m.fltOf b).fActive
  let lock := if b = 4 then 1 else 0
  let now := clearBits old (clearBits gone lock)
  let m := m.setN E.FLT_STICKY b (clearBits (m.n E.FLT_STICKY b) gone)
  let m := m.modFlt b (fun f => { f with fActive := now })
  if old ≠ 0 ∧ now = 0 then
    let m := m.logPut (m.record 5 3 b 0xFF 0 0 0 0xFF (leBytes 4 (old &&& gone)))
    m.when ((List.range 16).all (fun b => (m.fltOf b).fActive == 0)) (·.unforce 2)
  else m

/-- R487, R48: FAULT conducts again. -/
def Mod.faultRestore (m : Mod) : Mod :=
  if !m.faultLine && !m.lockstep && !m.b E.FAULT_OUT 0 && (m.due .faultContact || !m.armed .faultContact) then
    ((m.setB E.FAULT_OUT 0 true).disarm .faultContact).alertSet 1
  else m

def execFaultContactRestore (t : Nat) (s : State) : Host.Outcome State Fault Refusal := execM t Mod.faultRestore s

/-! ## Injection (R488, R489) -/

/-- R489: the injectable sources of a block. -/
def injectable (b : Nat) : Nat :=
  match b with
  | 3 => 0x6
  | 4 => 0x4
  | 5 => 0x2
  | 6 => 0x3
  | 7 => 0x1
  | _ => 0

/-- R488: check bits are inverted once; the checker has yet to report. A Zwinglink source is injected on each UP link. -/
def Mod.inject (m : Mod) (b bits : Nat) : Mod :=
  let m := m.modFlt b (fun f => { f with injected := setBits f.injected bits })
  if b = 3 then
    let new := (m.upLinks 1 ++ m.upLinks 2).flatMap (fun l => (([1, 2].filter (bit bits)).map (fun k => (k, l))))
    { m with net := { m.net with inj := m.net.inj.filter (fun x => !new.contains x) ++ new } }
  else m

/-- R488: the checker has not reported within 1 ms of its evaluation, which for a Zwinglink source the frame brings. -/
def Mod.injMiss (b bit : Nat) (m : Mod) : Mod :=
  if b < 16 && Sys2Proof.bit (m.fltOf b).injected bit && (b == 3 || m.due (.injMiss b bit)) then
    ((m.disarm (.injMiss b bit)).modFlt b (fun f => { f with injected := Sys2Proof.setBit f.injected bit false })).raise b 15
  else m

def execInjMiss (t : Nat) (b bit : Nat) (s : State) : Host.Outcome State Fault Refusal := execM t (Mod.injMiss b bit) s

/-! ## The keeper (R490 to R497) -/

/-- R491: a service at the present tick. -/
def Mod.kprWindow (m : Mod) : Mod :=
  let m : Mod := { m with kpr := { m.kpr with svc := m.tb, rejected := false } }
  ((m.setN E.KPR_OPEN_T 0 (m.tb + m.n E.KPR_OPEN 0)).setN E.KPR_CLOSE_T 0 (m.tb + m.n E.KPR_CLOSE 0)).setN E.KPR_SEEN 0 0

/-- R490: the keeper starts at the mode tick that follows, and its configuration is locked. -/
def Mod.kprStart (m : Mod) : Mod :=
  if m.kpr.starting then
    let m : Mod := { m with kpr := { m.kpr with starting := false, locked := true, running := true, suspendedAt := none } }
    let m := (m.setN E.KPR_STATE 0 1).kprWindow
    m.event 0x0010 (leBytes 4 (m.n E.KPR_OPEN 0) ++ leBytes 4 (m.n E.KPR_CLOSE 0) ++ leBytes 2 (m.n E.KPR_TASKS 0))
  else m

/-- R495: the keeper expires, late (1) or early (2): evidence, gate-off, open switches, CONT and ILKO; the WDRST follows. -/
def Mod.kprExpire (m : Mod) (cause : Nat) : Mod :=
  let missing := clearBits (m.n E.KPR_TASKS 0) (m.n E.KPR_SEEN 0)
  let m := (m.setN E.KPR_CAUSE 0 cause).setN E.KPR_MISSING 0 missing
  let m := (m.setN E.KPR_PC0 0 (m.freeVal % 2 ^ 32)).freeStep
  let m := (m.setN E.KPR_PC1 0 (m.freeVal % 2 ^ 32)).freeStep
  let m := m.setN E.KPR_LAST_SVC 0 m.kpr.svc
  let m := ((stopPorts.foldl Mod.openSwitch (m.gateOffBoth 7)).contOff).setB E.ILKO_STATE 0 false
  let m : Mod := { m with kpr := { m.kpr with running := false, expiredAt := some m.tb } }
  m.arm .wdrst (m.tb + us 200)

/-- R492: a key write is checked; the answer is OK, or MODE_FORBIDS. `host` where a host writes it (R494). -/
def Mod.kprKey (m : Mod) (key : Nat) (host : Bool) : Mod × Nat :=
  let reject := fun (m : Mod) =>
    (({ m with kpr := { m.kpr with rejected := m.kpr.rejected || !host } } : Mod).inc E.KPR_REJ_CNT 0, 0x21)
  if key ≠ 0xB7E1 then reject m
  else if !m.kpr.running then
    if m.kpr.expiredAt.isSome then reject m
    else ({ m with kpr := { m.kpr with starting := true, hostParty := m.kpr.hostParty || host } }, 0)
  else if m.kpr.suspendedAt.isSome then reject m
  else if m.tb < m.n E.KPR_OPEN_T 0 then (m.kprExpire 2, 0x21)
  else if m.n E.KPR_SEEN 0 &&& m.n E.KPR_TASKS 0 ≠ m.n E.KPR_TASKS 0 then reject m
  else (({ m with kpr := { m.kpr with hostParty := m.kpr.hostParty || host } } : Mod).kprWindow, 0)

/-- R493: a check-in: bits not yet seen are set, repeated ones are flagged. -/
def Mod.kprCheckin (m : Mod) (bits : Nat) : Mod :=
  if !m.kpr.running then m
  else
    let b := clearBits (bits &&& m.n E.KPR_TASKS 0) 0xF
    let seen := m.n E.KPR_SEEN 0
    (m.setN E.KPR_DOUBLE 0 (setBits (m.n E.KPR_DOUBLE 0) (b &&& seen))).setN E.KPR_SEEN 0 (setBits seen b)

/-- R494: SUP0 services the keeper at the window's midpoint, and after a rejection once every task has checked in. -/
def Mod.kprSelf (m : Mod) : Mod :=
  let k := m.kpr
  let mid := (m.n E.KPR_OPEN_T 0 + m.n E.KPR_CLOSE_T 0) / 2
  let all := m.n E.KPR_SEEN 0 &&& m.n E.KPR_TASKS 0 == m.n E.KPR_TASKS 0
  if k.running && !k.hostParty && k.suspendedAt.isNone && mid ≤ m.tb && m.tb < m.n E.KPR_CLOSE_T 0 && (!k.rejected || all)
  then (m.kprKey 0xB7E1 false).1
  else m

/-- R491: TB has reached t_close without an accepted service. -/
def Mod.kprLate (m : Mod) : Mod :=
  if m.kpr.running && m.kpr.suspendedAt.isNone && m.n E.KPR_CLOSE_T 0 ≤ m.tb then m.kprExpire 1 else m

def execKeeperExpiry (t : Nat) (s : State) : Host.Outcome State Fault Refusal := execM t Mod.kprLate s

/-! ## Flash erases (R496, R500) -/

/-- R450, R500: the sectors of a firmware bank: the longest image, in sectors of 64 KB (assumption log 102). -/
def bankSectors : Nat := 128

/-- R496: the erase of the other bank takes up its next sector where flash is free. -/
def Mod.bankErase (m : Mod) : Mod :=
  if m.fw.sectors ≠ 0 ∧ m.flashFree then
    ({ m with fw := { m.fw with sectors := m.fw.sectors - 1 } } : Mod).eraseStart 3
  else m

/-- R496: the keeper resumes, its window moved later by the time suspended. -/
def Mod.eraseEnd (m : Mod) : Mod :=
  let m := { m with eraseOp := none }.disarm .erase
  match m.kpr.suspendedAt with
  | some t0 =>
    let d := m.tb - t0
    let m : Mod := { m with kpr := { m.kpr with suspendedAt := none } }
    ((m.setN E.KPR_OPEN_T 0 (m.n E.KPR_OPEN_T 0 + d)).setN E.KPR_CLOSE_T 0 (m.n E.KPR_CLOSE_T 0 + d)).setN E.KPR_STATE 0 1
  | none => m

/-- Records that waited in Q26 for the erase go to flash, until another erase begins. -/
def Mod.q26Flush (m : Mod) : Mod := (m.q26.foldl Mod.logPut { m with q26 := [] }).q26Marks

/-- R500: the oldest sector of the event log has been erased. -/
def Mod.dropEvents (m : Mod) : Mod :=
  match m.log.getLast? with
  | none => m
  | some r =>
    let old := r.seq / recordsPerSector
    let n := (m.log.filter (fun r => r.seq / recordsPerSector == old)).length
    let m : Mod := { m with log := m.log.filter (fun r => r.seq / recordsPerSector != old) }
    let m := (m.setN E.LOG_CNT 0 (m.n E.LOG_CNT 0 - n)).add E.LOG_OVERWRITE 0 n
    let oldest := (m.log.getLast?.map (·.seq)).getD (m.n E.LOG_NEXT 0)
    m.event 0x0050 (leBytes 4 n ++ leBytes 4 oldest)

/-- R500: the oldest sector of the energy log that holds no record of the open session has been erased. -/
def Mod.dropEnergy (m : Mod) : Mod :=
  match elogOldest m.elog (if m.n E.ESESS_STATE 0 == 1 then some (m.n E.ESESS_NUM 0) else none) with
  | none => m
  | some s =>
    let n := (m.elog.filter (fun r => r.pos / recordsPerEnergySector == s)).length
    let m : Mod := { m with elog := m.elog.filter (fun r => r.pos / recordsPerEnergySector != s) }
    m.event 0x0051 (leBytes 4 n ++ leBytes 4 ((m.elog.getLast?.map (·.num)).getD (m.n E.ESESS_NUM 0)))

/-- R496, R500: an erase is complete. -/
def Mod.eraseDone (m : Mod) : Mod :=
  match m.eraseOp with
  | none => m
  | some (which, _) =>
    let m := m.eraseEnd
    let m := if which = 1 then m.dropEvents else if which = 2 then m.dropEnergy else m
    m.q26Flush.elogFlush

def execEraseDone (t : Nat) (s : State) : Host.Outcome State Fault Refusal := execM t Mod.eraseDone s

/-- R496: SAFE ends an erase at 400 ms: the sector is retired, its operation fails and ERASE_TMO is raised. -/
def Mod.eraseTimeout (m : Mod) : Mod :=
  match m.eraseOp with
  | none => m
  | some (which, _) =>
    if m.due .erase then
      let m := m.eraseEnd
      let m := if which = 1 then m.dropEvents else if which = 2 then m.dropEnergy
        else if which = 3 then { m.disarm .fwVerify with fw := { m.fw with altState := 3, sectors := 0 } } else m
      let m : Mod := if which = 1 ∨ which = 2 then
          { m with retired := modAt 0 m.retired (which - 1) (· + 1) } else m
      (m.raise 8 2).q26Flush.elogFlush
    else m

def execEraseTimeout (t : Nat) (s : State) : Host.Outcome State Fault Refusal := execM t Mod.eraseTimeout s

end Sys2Proof.Machine
end

