-- ==== Sys2Proof/Machine/NetOps.lean ====
section
/-! DEFINITION. Machine/NetOps.lean: what Zwinglink's commands share (chapters Zwinglink and Many Modules as One): the
checks of a frame (R367), the shape of the ring (R338 to R341), roles of a group and fencing (R263 to R271), the
lantern's tables, and network time (R357 to R361). -/

namespace Sys2Proof.Machine

open Sys2Proof

def Mod.modNet (m : Mod) (f : Net → Net) : Mod := { m with net := f m.net }

/-! ## Who the module is on its rings -/

/-- R360, R341: no TIME_RELAY has come for 1 s: the ring it leads is the root ring. -/
def Mod.leadsRoot (m : Mod) : Bool :=
  m.leads && (match m.net.relayAt with
    | some t => decide (t + sec 1 < m.tb)
    | none => true)

/-- R30: a node address. -/
def nodeAddr (ring stn : Nat) : Nat := if ring = 0xFF ∨ stn = 0xFF then 0xFFFF else ring * 128 + stn

/-- NET_ADDR follows the numbers in use (R343). -/
def Mod.showAddr (m : Mod) : Mod := m.setN E.NET_ADDR 0 (nodeAddr m.net.ring m.net.stn)

/-- The module holds a station number since its start. -/
def Mod.numbered (m : Mod) : Bool := m.n E.NET_ADDR 0 != 0xFFFF

/-- Station number and key of the ring the module leads. -/
def Mod.leadStn (m : Mod) : Nat := if m.parentLantern then m.n E.NET_ADDR_P 0 % 128 else m.net.stn
def Mod.leadRing (m : Mod) : Nat := if m.parentLantern then m.n E.NET_ADDR_P 0 / 128 else m.net.ring
def Mod.leadKey (m : Mod) : Option (List Nat) := if m.parentLantern then m.keys.par else m.keys.own
def Mod.leadGen (m : Mod) : Nat := if m.parentLantern then m.net.parLgen else m.n E.LGEN 0

/-! ## The checks of a frame (R342, R346, R367) -/

/-- R346: the class of each TYPE. -/
def typeClass (typ : Nat) : Option Nat :=
  let rows : List (Nat × List Nat) :=
    [(0, [1, 2, 3, 4, 5, 6, 7]), (1, [0x10, 0x11]), (2, [0x20, 0x21, 0x22, 0x23]),
     (3, [0x30, 0x31, 0x32, 0x33, 0x34, 0x35, 0x36, 0x37]), (4, [0x40]), (5, [0x50, 0x51]), (6, [0x60]),
     (7, [0x70, 0x71])]
  (rows.find? (fun x => x.2.contains typ)).map (·.1)

/-- R342: a 14-bit node address, or no node. -/
def fieldOk (a : Nat) : Bool := a == 0xFFFF || decide (a < 0x4000)

/-- Step 2 of R367. -/
def headerOk (h : Hdr) : Bool :=
  h.etherOk && h.ver == 1 && typeClass h.typ == some h.cls && fieldOk h.src &&
  (match h.scope with
    | 0 => fieldOk h.dst
    | 3 => decide (1 ≤ h.dst) && decide (h.dst ≤ 0xFFFF)
    | _ => h.dst == 0xFFFF) &&
  (if h.cls = 1 ∨ h.cls = 2 then decide (h.len ≤ 80) else decide (h.len ≤ 1476))

/-- R347: the frame travels in the parent ring: by the role of the link it came by. -/
def Mod.fromParent (m : Mod) (h : Hdr) (ln : Option Nat) : Bool := m.n E.LINK_ROLE (ln.getD h.via) == 2

/-- R342: a frame addressed to the module, by either of a head's addresses. -/
def Mod.addressed (m : Mod) (h : Hdr) : Bool :=
  h.scope == 0 && h.dst != 0xFFFF && (h.dst == m.n E.NET_ADDR 0 || h.dst == m.n E.NET_ADDR_P 0)

/-- R340: a frame that goes no further: one addressed to the module, or a ring summary at the lantern it is for (R368). -/
def Mod.endsHere (m : Mod) (h : Hdr) (l : Nat) : Bool :=
  m.addressed h || (h.typ == 0x35 && (if m.n E.LINK_ROLE l = 2 then m.parentLantern else m.isLantern))

/-- R338: a frame has come over a link. -/
def Mod.heard (m : Mod) (l : Nat) : Mod := m.modLink l (fun x => { x with lastRx := m.tb })

/-- R364: the credits of a frame that came by link `l` are freed. -/
def Mod.freeCredits (m : Mod) (l : Nat) (h : Hdr) : Mod := m.freeClass l h.cls (frameCredits h.bytes)

/-- R364: the credits of a frame that goes no further are free again; one that goes on frees them as it leaves. -/
def Mod.freeEnded (m : Mod) (l : Nat) (h : Hdr) : Mod := m.when (m.endsHere h l) (·.freeCredits l h)

/-- Step 1 of R367 fails: a yield mark (R363), or an FCS error, which also breaks the run of good exchanges (R338). The frame's credits
are freed in either case; for an FCS error the rules do not say so (DESIGN CHOICE, assumption log 101). -/
def Mod.fcsFail (m : Mod) (l : Nat) (h : Hdr) : Mod :=
  let m := m.freeCredits l h
  if h.yieldMark then m.inc E.LINK_YIELDS l
  else
    let c := m.tb / 10000
    let m := (m.inc E.LINK_FCS_ERR l).modLink l (fun x =>
      { x with good := 0, badCycles := (c :: x.badCycles.filter (· != c)).take 4 })
    m.raise 3 1

/-- Step 4 of R367 fails. -/
def Mod.macFail (m : Mod) : Mod := (m.inc E.NET_AUTH_FAIL 0).raise 3 2

/-- Latest accepted EPOCH_LO and SEQ of an originator and class (R367). -/
def Mod.rxOf (m : Mod) (who cls : Nat) : Option (Nat × Nat) :=
  (m.net.rx.find? (fun x => x.1 == (who, cls))).map (·.2)

/-- Step 5 of R367 passes. -/
def Mod.fresh (m : Mod) (who : Nat) (h : Hdr) : Bool :=
  match m.rxOf who h.cls with
  | none => true
  | some (e, s) => newer h.epochLo e || (h.epochLo == e && newer h.seq s)

/-- Step 7 of R367: the originator is FENCED, or sends under a generation older than the one at which the role table
records the role it formerly held (R271). -/
def Mod.superseded (m : Mod) (h : Hdr) : Bool :=
  h.fenced || (!h.lant && h.gen != 0 && h.src / 128 == m.net.ring &&
    m.net.roles.any (fun r => r.prev == h.src % 128 && r.holder != h.src % 128 && newer r.gen h.gen))

/-- R271, R367: the frames that a FENCED module still sends; object-dictionary requests are answered at their acceptance. -/
def staleExempt (typ : Nat) : Bool := typ == 0x21 || typ == 0x50 || typ == 0x40 || typ == 0x71

/-- Consecutive drops of one flow (R366): an originator, a destination and a TYPE. -/
def DropS.of (d : DropS) (orig dst typ : Nat) : Bool := d.orig == orig && d.dst == dst && d.typ == typ

/-- R366: the GAP record of a flow's merged drops goes to its originator and to its destination; at the destination itself it
stands in the receive queue, ahead of what comes. -/
def Mod.gapSend (m : Mod) (d : DropS) : Mod :=
  let body := leBytes 2 d.orig ++ leBytes 2 d.dst ++ [d.typ, 0] ++ leBytes 2 d.first ++ leBytes 4 d.lost ++
    leBytes 2 (m.n E.NET_ADDR 0) ++ [0, 0] ++ leBytes 8 d.tFirst ++ leBytes 8 d.tLast
  let m := m.modNet (fun n => { n with drops := n.drops.erase d })
  let here := d.dst == m.n E.NET_ADDR 0 || d.dst == m.n E.NET_ADDR_P 0
  let m := (m.originate 5 0x51 d.orig body).inc E.CLS_GAPS 6
  (if here then m.through 14 body.length d.orig d.first else m.originate 5 0x51 d.dst body).inc E.CLS_GAPS 6

/-- R366: the flow's next frame passes: its drops are told first. -/
def Mod.gapBefore (m : Mod) (h : Hdr) : Mod :=
  match m.net.drops.find? (·.of h.src h.dst h.typ) with
  | some d => if h.cls = 6 then m.gapSend d else m
  | none => m

/-- R366: the destination accepts a class 6 item: the records of what it has dropped of any flow stand ahead of it. -/
def Mod.gapsHere (m : Mod) (h : Hdr) : Mod :=
  if h.cls = 6 then (m.net.drops.filter (fun d => d.dst == h.dst)).foldl Mod.gapSend m else m

/-- R366: a class 6 frame is dropped: it joins the consecutive drops of its flow. -/
def Mod.dropClass6 (m : Mod) (orig dst typ seq : Nat) : Mod :=
  let now := m.ntime
  let same := fun (d : DropS) => d.of orig dst typ
  let new : DropS :=
    match m.net.drops.find? same with
    | some d => { d with lost := d.lost + 1, tLast := now }
    | none => { orig := orig, dst := dst, typ := typ, first := seq, lost := 1, tFirst := now, tLast := now }
  (m.modNet (fun x => { x with drops := new :: x.drops.filter (fun d => !same d) })).inc E.CLS_DROP 6

/-- Step 8 of R367, and the frame's consumption: it passes Q8 to Q15, CLS_RX counts. -/
def Mod.consume (m : Mod) (h : Hdr) (who : Nat) : Mod × Bool :=
  if m.queueFull (8 + h.cls) h.bytes then
    if h.cls = 6 then (m.dropClass6 h.src h.dst h.typ h.seq, false)
    else if h.cls ≤ 2 then (((m.inc E.NET_EXP_DROP 0).queueDrop (8 + h.cls)).raise 3 3, false)
    else (m, false)
  else
    let m := ((m.gapsHere h).through (8 + h.cls) h.bytes h.src h.seq).inc E.CLS_RX h.cls
    (m.modNet (fun x => { x with
      rx := ((who, h.cls), (h.epochLo, h.seq)) :: x.rx.filter (fun y => y.1 != (who, h.cls)) }), true)

/-- R338: a link that is not UP carries only DELAY frames. -/
def Mod.linkShut (m : Mod) (typ l : Nat) : Bool := m.n E.LINK_STATE l != 3 && typ != 2 && typ != 3

/-- R338: a DELAY frame that fails a check breaks the run of error-free exchanges. -/
def Mod.delayBad (m : Mod) (l typ : Nat) : Mod :=
  if typ = 2 ∨ typ = 3 then m.modLink l (fun x => { x with good := 0, awaiting := false }) else m

/-- R367: the checks of a frame of TYPE `typ` that the module consumes; true where it passes. `ln` is the link it came by
where the command names one, else its header does; `who` is its originator. Without the ring's key the module consumes no frame
(R449). -/
def Mod.frameCheckBy (m : Mod) (h : Hdr) (typ : Nat) (ln : Option Nat) (who : Nat) : Mod × Bool :=
  let l := ln.getD h.via
  if !h.fcsOk then (m.fcsFail l h, false)
  else if m.linkShut typ l then (m, false)
  else
    let m := (m.heard l).freeEnded l h
    if !headerOk h || h.typ != typ || h.hops == 0 then ((m.inc E.NET_BAD_HDR 0).delayBad l typ, false)
    else
      let par := m.fromParent h ln
      match (if par then m.keys.par else m.keys.own) with
      | none => (m, false)
      | some k =>
        if h.key != some k then ((m.macFail).delayBad l typ, false)
        else if !m.fresh who h then (m.inc E.NET_REPLAY 0, false)
        else if h.lant && newer (if par then m.net.parLgen else m.n E.LGEN 0) h.gen then (m.inc E.NET_LGEN_OLD 0, false)
        else if !staleExempt typ && m.superseded h then (m.inc E.NET_GEN_STALE 0, false)
        else m.consume h who

/-- The originator of a frame; one without an address is told apart by `alt`. -/
def originator (h : Hdr) (alt : Nat) : Nat := if h.src = 0xFFFF then 0x10000 + alt else h.src

def Mod.frameCheck (m : Mod) (h : Hdr) (typ : Nat) (ln : Option Nat) : Mod × Bool :=
  m.frameCheckBy h typ ln (originator h (ln.getD 0))

/-- A frame that passes has its effect; one that does not, leaves only what its check leaves. -/
def Mod.onFrame (m : Mod) (h : Hdr) (typ : Nat) (ln : Option Nat) (f : Mod → Mod) : Mod :=
  match m.frameCheck h typ ln with
  | (m, true) => f m
  | (m, false) => m

/-- R253, R262: sent by the lantern of the own ring at the current generation. -/
def Mod.fromLantern (m : Mod) (h : Hdr) : Bool := h.lant && h.gen == m.n E.LGEN 0 && !m.fromParent h none

/-! ## Roles of a group (R248, R263 to R272) -/

/-- R265: role, index and generation, committed at every change. Under SOLO there is no trim (R175). -/
def Mod.setRole (m : Mod) (role idx gen : Nat) : Mod :=
  let put := fun (m : Mod) (f : Fam) (v : Nat) => m.when (m.n f 0 != v) (·.commitN f 0 v)
  (put (put (put m E.SHARE_ROLE role) E.SHARE_IDX idx) E.SHARE_GEN gen).when (role == 0)
    (fun m => (m.setQ E.LL_TRIM 0 0).modNet (fun x => { x with trimNext := none }))

/-- R253: the member waits for a trim from here. -/
def Mod.trimWait (m : Mod) : Mod :=
  (m.setBit E.SHARE_FLAGS 0 1 false).arm .trimHold (m.tb + ms (m.n E.TRIM_HOLD 0))

/-- R263, R265: the module is MEMBER at a role. -/
def Mod.memberAt (m : Mod) (idx gen : Nat) : Mod :=
  ((m.setRole 1 idx gen).modNet (fun x => { x with claimOpen := false })).trimWait

/-- The roles of the own group in the ring's table, and how many there are (R255). -/
def Mod.groupRoles (m : Mod) : List RoleRec := m.net.roles.filter (fun r => r.seg == m.n E.SEG_ID 0 && r.idx != 0xFF)

/-- R257: the module is first responder of the cycle: the eligible role of rank C mod N_e. -/
def Mod.frShow (m : Mod) : Mod :=
  let e := m.net.eligible
  let pick := e[m.net.cycle % e.length]?
  m.setB E.FR_SELF 0 (m.n E.SHARE_ROLE 0 == 1 && pick == some (m.n E.SHARE_IDX 0) && !e.isEmpty)

/-- R255, R256: interleave offsets, SEG_N and the flags of SHARE_FLAGS that they go with. -/
def Mod.ilShow (m : Mod) : Mod :=
  let g := m.groupRoles
  let member := m.n E.SHARE_ROLE 0 == 1
  let idx := m.n E.SHARE_IDX 0
  let n := g.length
  let rank := (g.filter (fun r => decide (r.idx < idx))).length
  let free := !m.b E.IL_EN 0 || !m.ntimeOk
  let low := g.foldl (fun (a : Option RoleRec) r => match a with
    | some b => if r.idx < b.idx then some r else some b
    | none => some r) none
  let fswOf := fun (st : Nat) => (low.bind (fun r => (m.net.rpts.find? (fun p => p.1.seg == r.seg && p.1.idx == r.idx)).map
    (fun p => if st = 0 then p.1.fswA else p.1.fswB)))
  let bad := fun (st : Nat) => member && (match fswOf st with
    | some f => decide (f ≠ m.q E.STG_FSW st)
    | none => false)
  let offset := fun (st : Nat) =>
    if free || !member || bad st || n = 0 then 0
    else (roundR (mkRat (rank * m.n E.STG_PERIOD st) (8 * n))).toNat
  let m := m.setN E.SEG_N 0 (min n 128)
  let m := ((m.setN E.IL_OFFSET_A 0 (offset 0)).setN E.IL_OFFSET_B 0 (offset 1)).setBit E.SHARE_FLAGS 0 3 (bad 0 || bad 1)
  let moored := m.net.roles.any (fun r => r.seg == m.n E.SEG_ID 0 && r.state == 3 && r.holder != m.net.stn)
  let m : Mod := { m with segMooring := moored }
  m.setBit E.SHARE_FLAGS 0 4 free

/-- R270: a newer holder of the role has been found: the fence report leaves and is recorded, and the module is fenced
at its next mode tick. -/
def Mod.fenceFound (m : Mod) (cause newGen : Nat) : Mod :=
  if m.fenced || m.net.fenceNext.isSome then m
  else
    let m := m.modNet (fun x => { x with fenceNext := some (cause, newGen) })
    let m := m.originate 2 0x21 (m.n E.LANT_ADDR 0)
      ([m.net.stn] ++ leBytes 2 (m.n E.SEG_ID 0) ++ [m.n E.SHARE_IDX 0] ++ leBytes 2 (m.n E.SHARE_GEN 0) ++
        leBytes 2 newGen ++ leBytes 8 m.tb)
    m.noteAt E.SHARE_GEN 0

/-- The network roles are given up (R75, R270). -/
def Mod.giveUpRoles (m : Mod) : Mod :=
  ((m.setN E.NET_ROLE 0 0).setBit E.NET_FLAGS 0 5 false).modNet (fun x => { x with offer := none, handTo := none })

/-- R270: at the mode tick: FENCED and committed, intents withdrawn, LL_TRIM held, the limits ramp down over FENCE_RAMP,
the network roles are given up. -/
def Mod.fence (m : Mod) (cause : Nat) : Mod :=
  let m := (m.setRole 3 (m.n E.SHARE_IDX 0) (m.n E.SHARE_GEN 0)).setN E.FENCE_CAUSE 0 cause
  let m := ((m.inc E.FENCE_CNT 0).withdrawAll).giveUpRoles
  let m := (m.modNet (fun x => { x with fenceNext := none, roleNext := none, trimNext := none, takeFor := none,
                                        claimOpen := false })).disarm .trimHold
  let m := m.setBit E.SHARE_FLAGS 0 1 false
  let len := m.q E.FENCE_RAMP 0
  let m := match m.regStage with
    | some g => if m.gated g then m else m.rampDown g len
    | none => m
  let m := m.when (m.n E.PATH_ACT 0 == 4 && !m.gated 1) (·.rampDown 1 len)
  m.arm .fenceRamp (m.tb + ticksMs len)

/-- R270: the ramp is over: gates off, the port switches open, LL_TRIM 0. -/
def Mod.fenceRampDone (m : Mod) : Mod :=
  if m.fenced && m.due .fenceRamp then
    let m := (((m.stageOff 0).stageOff 1).disarm .fenceRamp).setQ E.LL_TRIM 0 0
    m.openUnused 1 0 false
  else m

def execFenceRampDone (t : Nat) (s : State) : Host.Outcome State Fault Refusal := execM t Mod.fenceRampDone s

/-- R268: the spare's takeover at its mode tick: MEMBER at the record's role; the chosen path starts without
SST_DELAY. -/
def Mod.takeRole (m : Mod) (r : RoleRec) : Mod :=
  let m := (m.memberAt r.idx r.gen).modNet (fun x => { x with roleNext := none, takeFor := none })
  m.each 2 (fun g m => m.modStg g (fun x => { x with mooringStart := true }))

/-! ## The ring's role table (R348) -/

/-- Two records name one place: a role by SEG_ID and SHARE_IDX, a station without a role by its number. -/
def sameRole (a b : RoleRec) : Bool :=
  if a.idx = 0xFF ∨ b.idx = 0xFF then a.idx == b.idx && a.holder == b.holder else a.seg == b.seg && a.idx == b.idx

/-- Rising SEG_ID and SHARE_IDX, then station (R348). -/
def roleBefore (a b : RoleRec) : Bool :=
  decide (a.seg < b.seg) || (a.seg == b.seg && (decide (a.idx < b.idx) || (a.idx == b.idx && decide (a.holder < b.holder))))

def putSorted (r : RoleRec) : List RoleRec → List RoleRec
  | [] => [r]
  | x :: xs => if roleBefore r x then r :: x :: xs else x :: putSorted r xs

/-- A record takes its place in a table; one of a deleted role (generation 0) leaves it; a station that holds a role is
no longer listed without one. -/
def tablePut (r : RoleRec) (l : List RoleRec) : List RoleRec :=
  let l := l.filter (fun x => !sameRole x r)
  let l := if r.idx ≠ 0xFF then l.filter (fun x => !(x.idx == 0xFF && x.holder == r.holder)) else l
  if r.idx ≠ 0xFF ∧ r.gen = 0 then l else putSorted r l

/-- The lantern's table takes a record, which goes into its next three beacons (R348). -/
def Mod.leadPut (m : Mod) (r : RoleRec) : Mod :=
  m.modNet (fun x => { x with lead := tablePut r x.lead,
                              recNew := x.recNew.filter (fun y => !sameRole y.1 r) ++ [(r, 3)] })

/-- A role is deleted (R263). -/
def Mod.leadDrop (m : Mod) (seg idx : Nat) : Mod :=
  m.leadPut { seg := seg, idx := idx, holder := 0xFF, gen := 0, prev := 0xFF, state := 0 }

def Mod.leadRole (m : Mod) (seg idx : Nat) : Option RoleRec :=
  m.net.lead.find? (fun r => r.seg == seg && r.idx == idx && r.idx != 0xFF)

/-- The roles among the lantern's records, and the roles of one group. -/
def Mod.leadRoles (m : Mod) : List RoleRec := m.net.lead.filter (fun r => r.idx != 0xFF)
def Mod.leadGroup (m : Mod) (seg : Nat) : List RoleRec := m.leadRoles.filter (fun r => r.seg == seg)

/-- The role a station holds. -/
def Mod.heldBy (m : Mod) (stn : Nat) : Option RoleRec := m.leadRoles.find? (fun r => r.holder == stn)

/-- What the lantern keeps of a station. -/
def Mod.stnOf (m : Mod) (n : Nat) : Option Stn := m.net.stns.find? (fun s => s.stn == n)
def Mod.mapStn (m : Mod) (n : Nat) (f : Stn → Stn) : Mod :=
  m.modNet (fun x => { x with stns := x.stns.map (fun s => if s.stn = n then f s else s) })

/-- A record that the module itself, as a station of its own ring, finds in a beacon (R263, R265, R268, R270). -/
def Mod.roleSeen (m : Mod) (r : RoleRec) : Mod :=
  let m := m.modNet (fun x => { x with roles := tablePut r x.roles })
  let mine := r.holder == m.net.stn && m.net.stn != 0xFF
  let seg := m.n E.SEG_ID 0
  let role := m.n E.SHARE_ROLE 0
  if m.fenced || m.net.fenceNext.isSome || r.seg ≠ seg || seg = 0 then m
  else if mine then
    if r.idx = 0xFF then
      if r.state = 3 then
        let m := m.setBit E.SHARE_FLAGS 0 5 false
        m.when (role == 0 && m.n E.SHARE_MODE 0 == 2) (·.setRole 2 0xFF 0)
      else m.setBit E.SHARE_FLAGS 0 5 (r.state == 5)
    else if r.gen = 0 then m
    else
      let m := m.setBit E.SHARE_FLAGS 0 5 false
      if role = 2 then m.modNet (fun x => { x with roleNext := some r })
      else if role = 0 ∧ m.net.claimOpen ∧ m.n E.SHARE_IDX 0 = r.idx ∧ m.n E.SHARE_GEN 0 ≠ 0 ∧ newer r.gen (m.n E.SHARE_GEN 0) then
        m.fenceFound 1 r.gen
      else if role = 0 ∧ m.n E.SHARE_MODE 0 ≠ 0 ∧ (m.n E.SHARE_IDX 0 = 0xFF ∨ m.n E.SHARE_IDX 0 = r.idx) then
        m.memberAt r.idx r.gen
      else if role = 1 ∧ m.n E.SHARE_IDX 0 = r.idx then
        (if newer r.gen (m.n E.SHARE_GEN 0) then m.fenceFound 1 r.gen else m.modNet (fun x => { x with claimOpen := false }))
      else m
  else if r.idx = m.n E.SHARE_IDX 0 ∧ r.idx ≠ 0xFF ∧ m.n E.SHARE_GEN 0 ≠ 0 ∧ (role = 1 ∨ m.net.claimOpen) then
    if newer r.gen (m.n E.SHARE_GEN 0) then m.fenceFound 1 r.gen
    else if r.gen = m.n E.SHARE_GEN 0 ∧ r.holder < m.net.stn then m.fenceFound 2 r.gen
    else m
  else m

/-- R351: the module's flash slot in a ring where its number is `stn`, apart from what its MAC covers of the beacon; its sharing role
belongs to its own ring. -/
def Mod.flashSlot (m : Mod) (stn : Nat) (par : Bool) : Slot :=
  { stn := stn, present := true, claim := !par && m.net.claimOpen, takeAck := !par && m.net.takeFor.isSome && m.mooring,
    handoverAck := if par then m.net.handAckPar else m.net.handAck, fenced := m.fenced, mooring := !par && m.mooring, ntimeOk := m.ntimeOk,
    imdCand := !par && m.b E.IMD_EN 0 && m.n E.IMD_GSYS 0 != 0 && !m.fenced,
    idx := if par then 0xFF else m.n E.SHARE_IDX 0, gen := if par then 0 else m.n E.SHARE_GEN 0,
    key := if par then m.keys.par else m.keys.own }

/-- R343, R346: the module's station record, sent without a number and again when what it tells changes (assumption
log 30). -/
def Mod.sendStnRec (m : Mod) : Mod :=
  let m := m.when (!m.numbered) (fun m => m.modNet (fun x => { x with stnRecAt := x.stnRecAt.orElse (fun _ => some m.tb) }))
  m.originate 3 0x33 0xFFFF
    (leBytes 6 Config.mac48 ++ [m.n E.NET_STN 0, m.n E.NET_LPRIO 0] ++ leBytes 2 (m.n E.SEG_ID 0) ++
      [m.n E.SHARE_MODE 0, m.n E.IMD_EN 0] ++ leBytes 2 (m.n E.IMD_GSYS 0))

/-! ## Network time (R357 to R361) -/

/-- NTIME_TRIM, bounded to ±200,000 ppb. -/
def Mod.setTrim (m : Mod) (p : Rat) : Mod := m.setN E.NTIME_TRIM 0 (ofSigned 32 (roundR (clampR (-200000) 200000 p)))

/-- R359: network time steers to the reading `nt`, in ns, of the present moment: by a step before lock or beyond 1 µs,
which is recorded, else by an eighth of the error. -/
def Mod.steer (m : Mod) (nt : Rat) : Mod :=
  let now := m.ntimeNs
  let e := nt - now
  let drift := now - 10 * m.tb
  let trim : Rat := (toSigned 32 (m.n E.NTIME_TRIM 0) : Int)
  let m := m.setQ E.NTIME_ERR 0 (clampR (-1000000) 1000000 e)
  let tbNs : Rat := 10 * m.tb
  if !m.net.locked || decide (1000 < absR e) then
    let rate := match m.net.lastNt with
      | some (n0, t0) => if t0 < tbNs then ((nt - n0) / (tbNs - t0) - 1) * 1000000000 else trim
      | none => trim
    let m := (m.modNet (fun x => { x with ofs := grid (drift + e), ofsAt := m.tb, locked := true, lastNt := some (nt, tbNs),
                                          accepted := if x.locked then x.accepted + 1 else 1 })).setTrim rate
    m.noteAt E.NTIME_OFS 0
  else
    (m.modNet (fun x => { x with ofs := grid (drift + e / 8), ofsAt := m.tb, lastNt := some (nt, tbNs),
                                 accepted := x.accepted + 1 })).setTrim (trim + e / (64 / 100))

/-- NTIME_OK from the second accepted reading (R359); HOLDOVER ends, and the loss of network time with it. -/
def Mod.timeHeard (m : Mod) : Mod :=
  let m := m.setBit E.NET_FLAGS 0 1 false
  let m := m.arm .ntime (m.tb + sec 1)
  if 2 ≤ m.net.accepted then (m.setBit E.NET_FLAGS 0 0 true).lower 3 4 else m

/-- R359: a second without an accepted beacon: no network time. A galvanic system without it has no injector (R302). The root
lantern follows its own TB (R360). -/
def Mod.timeLost (m : Mod) : Mod :=
  if m.due .ntime && m.leadsRoot then m.disarm .ntime
  else if m.due .ntime then
    let m := (m.setBit E.NET_FLAGS 0 0 false).setBit E.NET_FLAGS 0 1 false
    let m := (m.modNet (fun x => { x with locked := false, accepted := 0, lastNt := none })).disarm .ntime
    let m := m.sync 3 4 true
    m.when m.imdShared (fun m => (m.when (m.n E.IMD_ROLE 0 == 1) (·.imdStop 0)).noteAt E.IMD_ROLE 0)
  else m

def execNtimeHoldoverExpiry (t : Nat) (s : State) : Host.Outcome State Fault Refusal := execM t Mod.timeLost s

/-! ## The shape of the ring (R337 to R341, R354) -/

/-- The links have changed: a line end, a head by its role-2 links, a ring of one (R248, R339 to R341). -/
def Mod.ringShape (m : Mod) : Mod :=
  let own := m.upLinks 1
  let par := m.upLinks 2
  let m := m.setBit E.NET_FLAGS 0 2 (own.length == 1 || (m.bitOf E.NET_FLAGS 0 2 && !own.isEmpty))
  let m := m.when (!par.isEmpty && !m.fenced && !m.isHead) (fun m => m.giveUpRoles.setN E.NET_ROLE 0 2)
  let m := m.when (par.isEmpty && m.isHead)
    (fun m => ((m.giveUpRoles).setN E.NET_ADDR_P 0 0xFFFF).modNet (fun x => { x with
      parUp := none, parBeacon := none, parDepth := 0, aboveSegs := [] }))
  if own.isEmpty then
    let m := (m.setN E.RING_N 0 1).modNet (fun x => { x with upstream := none })
    m.when (m.n E.SHARE_ROLE 0 == 1 || m.n E.SHARE_ROLE 0 == 2)
      (fun m => m.setRole 0 (m.n E.SHARE_IDX 0) (m.n E.SHARE_GEN 0))
  else m.modNet (fun x => { x with claimOpen := x.claimOpen || (m.n E.SHARE_ROLE 0 == 0 && m.n E.SHARE_IDX 0 != 0xFF) })

/-- R338: a link is declared down. -/
def Mod.linkFail (m : Mod) (l : Nat) : Mod :=
  let m := (m.setN E.LINK_STATE l 4).inc E.LINK_DOWN_CNT l
  let m := m.modLink l (fun x => { x with
    downAt := some m.tb, good := 0, badCycles := [], awaiting := false, tx := none, turn := 3, deficit := List.replicate 8 0 })
  let m := m.modNet (fun x => { x with inj := x.inj.filter (fun y => y.2 != l) })
  let m := m.modFlt 3 (fun f => { f with injected :=
    ([1, 2].filter (fun k => bit f.injected k && m.net.inj.any (·.1 == k))).foldl (fun a k => a + 2 ^ k) 0 })
  ((m.raise 3 0).ringShape).creditFlush

/-- R343, R354, R356: a number that no entry of its own holds is committed to the parameter store, at the place of an entry that is not
committed itself: ring and station number at NET_ADDR's, the parent ring's generation at NET_ADDR_P's. -/
def Mod.commitPlace (m : Mod) (key v : Nat) : Mod :=
  let last := (m.journal.reverse.flatMap (·.writes)).find? (·.1 == key)
  if (last.map (·.2)).orElse (fun _ => odGet m.pst key) = some (.num v) then m
  else { m with journal := m.journal ++ [{ writes := [(key, .num v)], olds := [], ask := none, kind := 0 }] }

/-- R343: a station takes its numbers; they are committed. -/
def Mod.takeNumber (m : Mod) (ring stn : Nat) : Mod :=
  let m := m.modNet (fun x => { x with ring := ring, stn := stn, stnRecAt := none })
  (m.showAddr).commitPlace (E.NET_ADDR.key 0) (ring * 256 + stn)

/-- R262, R348, R354, R356: the module becomes lantern at generation `lgen`, which is committed; dark counts and trims
start anew (R252, R269), the misses of every holder of a role among them, the old lantern's too; the ring's command goes on. -/
def Mod.becomeLantern (m : Mod) (lgen : Nat) : Mod :=
  let fresh := fun (m : Mod) (l : List RoleRec) => m.modNet (fun x => { x with
    lead := l.map (fun r => if r.state = 1 ∨ r.state = 2 then { r with state := 0 } else r), offer := none, handTo := none,
    stns := (x.stns ++ (l.filter (fun r => r.holder != 0xFF && r.holder != x.stn && x.stns.all (fun s => s.stn != r.holder))).map
      (fun r => ({ stn := r.holder, seg := r.seg } : Stn))).map (fun s => { s with misses := 0, dark := false })
    rpts := [], trims := [], conflicts := [], lapsed := [], recPtr := 0, loops := [], given := [],
    claiming := false, returns := 0, better := [], newest := lgen })
  -- R343: the root ring and a ring of one take NET_RING, or 0; a child ring NET_RING, or its previous number
  let ringOf := fun (root : Bool) (prev : Nat) =>
    if m.n E.NET_RING 0 ≠ 0xFF then m.n E.NET_RING 0 else if root || prev = 0xFF then 0 else prev
  let wanted := if m.n E.NET_STN 0 = 0xFF then 0 else m.n E.NET_STN 0
  if m.isHead then
    let a := m.n E.NET_ADDR_P 0
    let ring := ringOf (m.net.parDepth == 0) (if a = 0xFFFF then 0xFF else a / 128)
    let m := m.setN E.NET_ADDR_P 0 (nodeAddr ring (if a = 0xFFFF then wanted else a % 128))
    fresh (((m.setBit E.NET_FLAGS 0 5 true).setN E.RING_ENV 0 m.net.parEnv).modNet (fun x => { x with parLgen := lgen })
      |>.commitPlace (E.NET_ADDR_P.key 0) lgen) []
  else
    let alone := (m.upLinks 1).isEmpty
    let stn := if m.net.stn != 0xFF && !alone then m.net.stn else wanted
    let ring := ringOf (alone || m.n E.RING_DEPTH 0 == 0) m.net.ring
    let m := m.modNet (fun x => { x with confirmed := m.numbered && ring == x.ring && !m.bitOf E.NET_FLAGS 0 8 })
    let m := (m.commitN E.LGEN 0 lgen).takeNumber ring stn
    let m := (m.setN E.NET_ROLE 0 1).setN E.LANT_ADDR 0 (m.n E.NET_ADDR 0)
    let m := m.setN E.RING_ENV 0 (m.n E.FLEET_ENV 0)
    let m := m.setBit E.SHARE_FLAGS 0 0 false
    fresh m m.net.roles

/-- R354, R75: the module may become lantern: of its own ring, or as head of the parent ring. -/
def Mod.candidate (m : Mod) : Bool := decide (m.n E.NET_LPRIO 0 < 255) && !m.fenced && !m.leads

/-- R353, R354: the ring in which the module would claim has no lantern it hears. -/
def Mod.noLantern (m : Mod) : Bool :=
  if m.isHead then
    match m.net.parBeacon with
    | some t => decide (t + 10000 * m.net.darkN.getD (m.n E.DARK_N 0) ≤ m.tb)
    | none => true
  else m.bitOf E.SHARE_FLAGS 0 0 || m.net.lastBeacon.isNone

/-- R354: a key (NET_LPRIO, station number, MAC-48) is better: lower. -/
def betterKey (a b : Nat × Nat × Nat) : Bool :=
  decide (a.1 < b.1) || (a.1 == b.1 && (decide (a.2.1 < b.2.1) || (a.2.1 == b.2.1 && decide (a.2.2 < b.2.2))))

/-- The module's own key in the ring in which it claims. -/
def Mod.claimStn (m : Mod) : Nat :=
  if m.isHead then (if m.n E.NET_ADDR_P 0 = 0xFFFF then 0xFF else m.n E.NET_ADDR_P 0 % 128) else m.net.stn
def Mod.claimKey (m : Mod) : Nat × Nat × Nat := (m.n E.NET_LPRIO 0, m.claimStn, Config.mac48)

end Sys2Proof.Machine
end

