-- ==== Sys2Proof/Machine/CaptureCmds.lean ====
section
/-! DEFINITION. Machine/CaptureCmds.lean: the capture buffer and its streams (R319 to R325), the cable measurements
(R326, R327) and the field adjustment of R330. The samples themselves are values left open (assumption log 20). -/

namespace Sys2Proof.Machine

open Sys2Proof

/-! ## The capture's lengths (R319, R323) -/

/-- R319: samples per channel. -/
def capLen (mask : Nat) : Nat := 4194304 / (2 * max 1 (channels mask))

/-- R324: blocks of the capture held. -/
def Mod.capBlocks (m : Mod) : Nat := (m.cap.len + blockSamples m.cap.mask - 1) / blockSamples m.cap.mask

/-- Samples per channel in block `j` of the capture held. -/
def Mod.capBlockLen (m : Mod) (j : Nat) : Nat := min (blockSamples m.cap.mask) (m.cap.len - j * blockSamples m.cap.mask)

/-- R324: bytes of the capture as one sequence, while it is held. -/
def Mod.capBytes (m : Mod) : Nat :=
  if m.n E.CAP_STATE 0 = 4 ∨ m.n E.CAP_STATE 0 = 5 then 24 * m.capBlocks + 2 * channels m.cap.mask * m.cap.len else 0

/-- R323: the head of a block. -/
def blockHead (stream flags mask dec samples first num seq : Nat) : List Nat :=
  [stream, flags] ++ leBytes 2 mask ++ leBytes 2 dec ++ leBytes 2 samples ++ leBytes 8 first ++ leBytes 4 num ++ leBytes 4 seq

/-- The channels of a mask, ascending (R323). -/
def maskChannels (mask : Nat) : List Nat := (List.range 16).filter (bit mask)

/-- A code as the two bytes of an I16. -/
def codeBytes (c : Int) : List Nat := leBytes 2 ((c + 65536) % 65536).toNat

/-- R323: block flags [3] and [4]: the samples of `n` instants from `first` hold a saturated fast sample, an invalid code. -/
def Rec.marks (r : Rec) (mask first tick n : Nat) : Nat :=
  let l := (List.range n).filterMap (fun i => r.at_ (first + i * tick))
  let any_ := fun (f : Int → Bool) => l.any (fun row => (maskChannels mask).any (fun ch => f ((row[ch]?).getD 0)))
  let full := r.sat.any (fun x => (List.range n).any (fun i => first + i * tick == x.1) && (maskChannels mask).any (bit x.2))
  8 * b2n full + 16 * b2n (any_ (· == invalidCode))

/-- R323: the head of block `j` of the capture. -/
def Mod.capHead (m : Mod) (j : Nat) : List Nat :=
  let s := blockSamples m.cap.mask
  let trig := (m.n E.CAP_TRIG_T 0 - m.cap.first) / m.capTick / s
  let first := m.cap.first + j * s * m.capTick
  let flags := b2n (j == 0) + 2 * b2n (j + 1 == m.capBlocks) + 4 * b2n (j == trig) +
    m.cap.rec_.marks m.cap.mask first m.capTick (m.capBlockLen j)
  blockHead 0 flags m.cap.mask m.cap.dec (m.capBlockLen j) first (m.n E.CAP_NUM 0) j

/-- R323: byte `o` of the samples of a run of `n` channels: instant by instant, channels ascending, from the samples that a mode
tick has brought, else open. -/
def Rec.byte (r : Rec) (mask first tick free o : Nat) : Nat :=
  let n := max 1 (channels mask)
  match r.at_ (first + o / (2 * n) * tick) with
  | some row => ((codeBytes ((row[((maskChannels mask)[o % (2 * n) / 2]?).getD 0]?).getD 0))[o % 2]?).getD 0
  | none => free / 256 ^ o % 256

/-- R324: byte `i` of the sequence of stream A's blocks. -/
def Mod.capByte (m : Mod) (i : Nat) : Nat :=
  let row := 2 * channels m.cap.mask * blockSamples m.cap.mask
  let j := i / (24 + row)
  let o := i % (24 + row)
  if o < 24 then ((m.capHead j)[o]?).getD 0
  else m.cap.rec_.byte m.cap.mask m.cap.first m.capTick m.cap.free (j * row + (o - 24))

/-- R324: what CAP_RD_DATA returns at CAP_RD_OFS. -/
def Mod.capData (m : Mod) : List Nat :=
  let ofs := m.n E.CAP_RD_OFS 0
  (List.range (min 1024 (m.capBytes - ofs))).map (fun i => m.capByte (ofs + i))

/-- R324: a read of CAP_RD_DATA beyond the sequence. -/
def Mod.capBeyond (m : Mod) : Bool := m.n E.CAP_RD_OFS 0 != 0 && decide (m.capBytes ≤ m.n E.CAP_RD_OFS 0)

/-! ## Arming, triggers, freezing (R320 to R322) -/

/-- R321: recording starts, with the channels and decimation in force. -/
def Mod.capBegin (m : Mod) : Mod :=
  let m : Mod := { m with cap := { m.cap with mask := m.n E.CAP_MASK 0, dec := m.n E.CAP_DEC 0, len := m.n E.CAP_LEN 0,
                                              first := m.nextSample, free := m.freeVal, blocks := 0,
                                              rec_ := { base := m.nextSample } } }
  ((m.freeStep).setN E.CAP_STATE 0 1).setN E.CAP_FLAGS 0 0

/-- R320: the bits whose conditions first hold in a sample, by it and the one before it: LVL_RISE, LVL_FALL and DIP. The other
bits come with the commands that bring their events. -/
def Mod.capConditions (m : Mod) (before now : List Int) : Nat :=
  let ch := m.n E.CAP_LVL_CH 0
  let level := match valueOf before ch, valueOf now ch with
    | some a, some b => 2 * b2n (decide (a < m.q E.CAP_LVL_HI 0) && decide (m.q E.CAP_LVL_HI 0 ≤ b)) +
        4 * b2n (decide (m.q E.CAP_LVL_LO 0 < a) && decide (b ≤ m.q E.CAP_LVL_LO 0))
    | _, _ => 0
  let dips := fun (v : Rat) => decide (m.q E.CAP_DIP 0 / 100 * m.q E.SYS_VSET 0 < m.q E.V_REF 0 - v)
  level + match valueOf now 10 with
    | some v => 1024 * b2n (dips v && !((valueOf before 10).any dips))
    | none => 0

/-- R320, R321: the comparators see a sample. -/
def Mod.captureTrigger (x : TrigIn) (m : Mod) : Mod :=
  m.capTrigger (m.capConditions (m.codes x.before) (m.codes x.now)) x.tSample

def execCaptureTrigger (t : Nat) (x : TrigIn) (s : State) : Host.Outcome State Fault Refusal := execM t (Mod.captureTrigger x) s

/-- R321: `pre` samples are held. -/
def Mod.capHeld (m : Mod) : Mod :=
  if m.n E.CAP_STATE 0 = 1 ∧ m.cap.first + m.capPre * m.capTick ≤ m.tb then m.setN E.CAP_STATE 0 2 else m

def execCapPreHeld (t : Nat) (s : State) : Host.Outcome State Fault Refusal := execM t Mod.capHeld s

/-- R321: CAP_LEN samples are held: recording stops. -/
def Mod.capFreeze (m : Mod) : Mod :=
  if m.n E.CAP_STATE 0 = 3 ∧ m.cap.first + m.cap.len * m.capTick ≤ m.tb then m.setN E.CAP_STATE 0 4 else m

def execCapFrozen (t : Nat) (s : State) : Host.Outcome State Fault Refusal := execM t Mod.capFreeze s

/-- R321, R322: a capture trigger from the ring: armed, at its network time where that sample is still held; else at its
receipt. -/
def Mod.capTrigRx (h : Hdr) (ntime : Nat) (m : Mod) : Mod :=
  m.onFrame h 0x22 none (fun m =>
    if !m.bitOf E.CAP_TRIG_SRC 0 9 then m
    else if m.n E.CAP_STATE 0 = 2 then
      let at_ := m.tb + ntime - m.ntime
      let oldest := max m.cap.first (m.tb - m.cap.len * m.capTick)
      if oldest ≤ at_ ∧ at_ ≤ m.tb then m.capPlace 0x200 (sampleAt at_)
      else (m.capPlace 0x200 (sampleAt m.tb)).setBit E.CAP_FLAGS 0 1 true
    else if m.n E.CAP_STATE 0 = 1 then (m.capPlace 0x200 (sampleAt m.tb)).setBit E.CAP_FLAGS 0 1 true
    else m.when (3 ≤ m.n E.CAP_STATE 0) (·.inc E.CAP_TRIG_LOST 0))

def execCapTrigRx (t : Nat) (h : Hdr) (ntime : Nat) (s : State) : Host.Outcome State Fault Refusal :=
  execM t (Mod.capTrigRx h ntime) s

/-! ## CAP_CMD (R321, R324) -/

/-- R321, R320: a command that the table does not list from the present state: MODE_FORBIDS. -/
def Mod.capForbids (m : Mod) (cmd : Nat) : Bool :=
  let st := m.n E.CAP_STATE 0
  match cmd with
  | 1 => st != 0
  | 2 => st == 0 || !m.bitOf E.CAP_TRIG_SRC 0 0
  | 3 => st != 4 || m.n E.CAP_DEST 0 == 0xFFFF
  | _ => false

/-- R321: ABORT while streaming: BUSY. -/
def Mod.capBusy (m : Mod) (cmd : Nat) : Bool := cmd == 4 && m.n E.CAP_STATE 0 == 5

/-- R323: block `j` of the capture: its head and its samples. -/
def Mod.capBlock (m : Mod) (j : Nat) : List Nat :=
  let row := 2 * channels m.cap.mask
  m.capHead j ++ (List.range (row * m.capBlockLen j)).map (fun o =>
    m.cap.rec_.byte m.cap.mask m.cap.first m.capTick m.cap.free (j * row * blockSamples m.cap.mask + o))

/-- R364: credits that class 7 frames waiting for a link's wire will use. -/
def Mod.waiting7 (m : Mod) (k : Nat) : Nat := (((m.heldOn k).filter (·.cls == 7)).map (·.credits)).sum

/-- R324: the next blocks of stream A leave through Q27 on class 7, as far as the class holds credit; the first argument bounds
them. -/
def Mod.streamPump : Nat → Mod → Mod
  | 0, m => m
  | n + 1, m =>
    let body := m.capBlock (m.capBlocks - m.cap.blocks)
    let k := m.txLink (m.upLinks 1).isEmpty
    if m.n E.CAP_STATE 0 != 5 || m.cap.blocks == 0 || !m.canReach 0x70 (m.n E.CAP_DEST 0) ||
        !k.any (fun k => m.waiting7 k + frameCredits (frameBytes 7 body.length) ≤ m.credit k 3) then m
    else
      let m := (m.through 27 body.length (m.n E.CAP_DEST 0) 0).transmit 7 0x70 (m.n E.CAP_DEST 0) body
      let left := m.cap.blocks - 1
      Mod.streamPump n { m with cap := { m.cap with
        blocks := left, lastUsed := k.map (fun k => (k, (((m.linkOf k).used[3]?).getD 0 + m.waiting7 k) % 2 ^ 32)) } }

/-- R364: no more blocks than this can leave on the credit of one link. -/
def pumpBound : Nat := 512

/-- R324: the last block has been credited. -/
def Mod.streamCredited (m : Mod) : Bool :=
  m.cap.blocks == 0 && (match m.cap.lastUsed with
    | some (l, u) => decide ((((m.linkOf l).freedIn[3]?).getD 0 + 2 ^ 32 - u) % 2 ^ 32 < 2 ^ 31)
    | none => false)

/-- R324: stream A begins. -/
def Mod.streamBegin (m : Mod) : Mod :=
  let m : Mod := { m with cap := { m.cap with blocks := m.capBlocks, lastUsed := none } }
  Mod.streamPump pumpBound ((m.setN E.CAP_STATE 0 5).arm .streamA (m.tb + ms (m.n E.CAP_TMO 0)))

/-- R321: an accepted CAP_CMD. -/
def Mod.capCommand (m : Mod) (cmd : Nat) : Mod :=
  match cmd with
  | 1 => m.capBegin
  | 2 => m.capTrigger 1 m.tb
  | 3 => m.streamBegin
  | _ => (m.setN E.CAP_STATE 0 0).when true (fun m => { m with cap := { m.cap with len := 0, mask := 0, free := 0 } })

/-- R324, R321: the final item of stream A completes: OK once its last block has been credited, TIMEOUT for want of credit. -/
def Mod.streamEnd (status : Nat) (m : Mod) : Mod :=
  let ok := decide (status = 0)
  if m.n E.CAP_STATE 0 ≠ 5 ∨ (status = 0x32 ∧ !m.due .streamA) ∨ (ok ∧ !m.streamCredited) then m
  else
    let m : Mod := { m.disarm .streamA with cap := { m.cap with blocks := 0 } }
    let m := (m.setN E.CAP_STRM_STATUS 0 (status % 256)).setN E.CAP_STATE 0 4
    m.when (ok && m.b E.CAP_AUTO_REARM 0) Mod.capBegin

def execStreamAEnd (t : Nat) (status : Nat) (s : State) : Host.Outcome State Fault Refusal := execM t (Mod.streamEnd status) s

/-! ## Stream B (R325) -/

/-- R325: payload of stream B, Mbit/s. -/
def strbRate (mask dec_ : Nat) : Rat := mkRat (channels mask * 32) (max 1 dec_)

/-- R325, R323: a block of live samples leaves through Q28 on class 6: the latest ones, on the stream's
grid; while Q28 stands above its high watermark only every other one (R405). -/
def Mod.streamB (m : Mod) : Mod :=
  if !m.b E.STRB_EN 0 || !m.canReach 0x60 (m.n E.STRB_DEST 0) then m
  else if m.b E.Q_HIGH 28 && !m.cap.skipB then { m with cap := { m.cap with skipB := true } }
  else
    let mask := m.n E.STRB_MASK 0
    let s := blockSamples mask
    let tick := 50 * m.n E.STRB_DEC 0
    let first := m.cap.recB.base + ((m.tb - m.cap.recB.base) / tick - s) * tick
    let flags := b2n (m.cap.strB == 0) + m.cap.recB.marks mask first tick s
    let head := blockHead 1 flags mask (m.n E.STRB_DEC 0) s first 0 m.cap.strB
    let len := 2 * channels mask * s
    let body := head ++ (List.range len).map (m.cap.recB.byte mask first tick m.freeVal)
    let m : Mod := { m.freeStep with cap := { m.cap with strB := inc32 m.cap.strB, skipB := false } }
    if m.queueFull 28 body.length then m.queueDrop 28
    else (m.through 28 body.length 0xFFFF 0).transmit 6 0x60 (m.n E.STRB_DEST 0) body

def execStreamBBlock (t : Nat) (s : State) : Host.Outcome State Fault Refusal := execM t Mod.streamB s

/-- R325: a gap of stream B: its blocks and their samples are counted. -/
def Mod.streamGap (m : Mod) (blocks : Nat) : Mod :=
  let mask := m.n E.STRB_MASK 0
  (m.inc E.STRB_GAPS 0).setN E.STRB_LOST 0 ((m.n E.STRB_LOST 0 + blocks * blockSamples mask * channels mask) % 2 ^ 64)

/-! ## Cable measurements (R326, R327) -/

/-- R326: run `c`'s conditions fail: MODE_FORBIDS. -/
def Mod.cableForbids (m : Mod) (c : Nat) : Bool :=
  match c with
  | 1 => !((match m.regStage with | some g => m.running g | none => false) && m.n E.SNS_STATE 0 == 1 &&
      !m.intentPending 0 && !m.intentPending 1 && !m.mooringHold)
  | 2 => !(m.n E.COUPLING_ACT 0 == 1 && m.n E.SNS_STATE 1 == 1 && !m.recovering && m.n E.SCAN_STATE 0 != 1)
  | _ => !(decide (100 ≤ m.sens.vLink) && m.protOk 6)

/-- R326: a measurement waits for its mode tick, or runs: BUSY. -/
def Mod.cableBusy (m : Mod) : Bool := m.cable.run != 0 || m.cable.next != 0

/-- R326: a measurement is to start at the next mode tick. -/
def Mod.cableAsk (m : Mod) (c : Nat) : Mod := { m with cable := { m.cable with next := c } }

/-- R326: a run starts. -/
def Mod.cableStart (m : Mod) (c : Nat) : Mod :=
  ({ m with cable := { m.cable with run := c, next := 0, from_ := m.tb, v0 := m.vSys, moved := false } } : Mod).setN E.CABLE_STATE 0 1

/-- R326: a measurement asked for starts at the mode tick. -/
def Mod.cableTick (m : Mod) : Mod := if m.cable.next = 0 then m else m.cableStart m.cable.next

/-- R326: run 3 without a command, the first time the link reaches 100 V with BRK_R at 0. -/
def Mod.brkAuto (vLink : Rat) (m : Mod) : Mod :=
  if decide (100 ≤ vLink) && m.n E.BRK_R 0 == 0 && !m.cable.brkDone && m.protOk 6 && !m.cableBusy then
    { m with cable := { m.cable with brkDone := true } }.cableStart 3
  else m

def execBrkAutoMeasure (t : Nat) (vLink : Rat) (s : State) : Host.Outcome State Fault Refusal := execM t (Mod.brkAuto vLink) s

/-- Several committed entries take their values under one journal record (R395). -/
def Mod.commitAll (m : Mod) (l : List (Fam × Nat × Val)) : Mod :=
  let olds := l.map (fun x => (x.1.key x.2.1, m.getV x.1 x.2.1))
  let m := l.foldl (fun (m : Mod) x => m.setV x.1 x.2.1 x.2.2) m
  { m with journal := m.journal ++ [{ writes := l.map (fun x => (x.1.key x.2.1, x.2.2)), olds := olds, ask := none, kind := 0 }] }

/-- R279, R282: FT_I of a port, A. -/
def Mod.ftI (m : Mod) (k : Nat) : Rat := m.q E.FT_MULT k * portRating k

/-- R283: the limit of the external loop inductance of a port at its FT_I, µH. -/
def Mod.loopLimit (m : Mod) (k : Nat) : Rat := 8000000 / (m.ftI k * m.ftI k)

/-- The sum of the products of two runs of samples. -/
def dot (a b : List Rat) : Rat := (List.zipWith (· * ·) a b).sum

/-- R326: di/dt at each sample after the first, A/µs, of samples 500 ns apart. -/
def slopes (i : List Rat) : List Rat := List.zipWith (fun b a => 2 * (b - a)) (i.drop 1) i

/-- R326: the fit v = R × i + L × di/dt over the samples of the step, by least squares (assumption log 65): R in mΩ and L in µH.
Samples that do not settle both leave them open. -/
def Mod.cableFit (m : Mod) (x : CableRes) : Rat × Rat :=
  let v := (List.zipWith (· - ·) x.loc x.remote).drop 1
  let i := x.iPort.drop 1
  let d := slopes x.iPort
  let det := dot i i * dot d d - dot i d * dot i d
  if det = 0 then (mkRat m.freeVal 1000, mkRat m.freeVal 1000)
  else (1000 * (dot v i * dot d d - dot v d * dot i d) / det, (dot v d * dot i i - dot v i * dot i d) / det)

/-- R326: the remote voltage's change over the step, and C = ∫i dt / ΔV_remote, mF. -/
def cableDv (x : CableRes) : Rat := x.remote.getLast?.getD 0 - x.remote.head?.getD 0
def cableCap (x : CableRes) : Rat := if cableDv x = 0 then 0 else 1000 * (x.iPort.sum * mkRat 1 2000000) / cableDv x

/-- R327: the latest role table shows no role of the module's group beside its own, and no MOORING module. -/
def Mod.aloneInGroup (m : Mod) : Bool :=
  m.n E.SEG_ID 0 == 0 || (!m.segMooring && m.net.roles.all (fun r => r.seg != m.n E.SEG_ID 0 ||
    ((m.n E.SHARE_ROLE 0 == 1 || m.n E.SHARE_ROLE 0 == 2) && r.idx == m.n E.SHARE_IDX 0)))

/-- R327: a valid result of run 1 (`j` 0) or run 2 (`j` 1). LOOP_CEST takes the internal 1.2 mF and CABLE_C, within R160's clamp,
which is the model's choice (assumption log 104). -/
def Mod.cableValid (m : Mod) (j : Nat) (x : CableRes) : Mod :=
  let f := fun (q : Rat) => Val.num (f32OfRat q)
  let fit := m.cableFit x
  let r := clampR 0 1000 fit.1
  let cap := cableCap x
  let warn := decide (m.loopLimit (5 - j) < fit.2)
  let cest := j == 0 && m.aloneInGroup && m.regStage.isSome
  let old := m.getV E.CABLE_LWARN j
  let m := m.commitAll ([(E.CABLE_R, j, f r), (E.CABLE_L, j, f (clampR 0 1000 fit.2)),
      (E.CABLE_C, j, f (if j = 0 then clampR 0 (dec 412 1) cap else 0)), (E.CABLE_T, j, .num m.tb),
      (E.CABLE_LWARN, j, .num (b2n warn)), (E.SNS_RC, j, f r)] ++
    (if cest then [(E.LOOP_CEST, m.regStage.getD 0, f (clampR (dec 12 4) (dec 412 4) (dec 12 4 + cap / 1000)))] else []))
  m.when warn (·.note E.CABLE_LWARN j old)

/-- R326: BRK_R from one chopper pulse. -/
def brkMeasured (v i : Rat) : Rat := if i * 1000 < v ∨ i ≤ 0 then 1000 else v / i

/-- R326: the step of the run in progress is over. -/
def Mod.cableOver (m : Mod) : Bool :=
  m.cable.moved || decide (m.cable.from_ + (match m.cable.run with | 1 => ms 1 | 2 => ms 5 | _ => 2000) ≤ m.tb)

/-- R326, R327: the result of the run in progress; the pulse of run 3 adds its energy to H (R95). -/
def Mod.cableResult (run : Nat) (x : CableRes) (m : Mod) : Mod :=
  if run = 0 ∨ m.cable.run ≠ run ∨ !m.cableOver then m
  else
    let m : Mod := { m with cable := { m.cable with run := 0, brkDone := m.cable.brkDone || run == 3 } }
    if run = 3 then
      ((m.commitQ E.BRK_R 0 (brkMeasured x.v x.i)).heatTo (m.safe.heat + maxR 0 (x.v * x.i) * mkRat 20 1000000)).setN E.CABLE_STATE 0 2
    else if x.stepLeft < 5 ∨ (run = 1 ∧ absR (cableDv x) < dec 3 1) then m.setN E.CABLE_STATE 0 3
    else
      let m := m.cableValid (run - 1) x
      (m.freeStep).setN E.CABLE_STATE 0 2

def execCableResult (t : Nat) (run : Nat) (x : CableRes) (s : State) : Host.Outcome State Fault Refusal :=
  execM t (Mod.cableResult run x) s

/-! ## Field adjustment (R330) -/

/-- R311: the constant term of a channel's accuracy, in its unit. -/
def accuracyConst (ch : Nat) : Rat :=
  match ch with
  | 14 | 15 => dec 2 2
  | 1 | 3 | 5 | 7 => dec 15 2
  | 9 => dec 1 1
  | 11 | 13 => dec 2 1
  | _ => dec 3 1

/-- R330: the 12 bytes of CAL_SET: channel, gain factor and offset. -/
def calFields (b : List Nat) : Nat × Nat × Nat := (leNat (b.take 1), leNat ((b.drop 4).take 4), leNat ((b.drop 8).take 4))

/-- R330: outside the adjustment that a write may make. -/
def calBeyond (b : List Nat) : Bool :=
  match calFields b with
  | (ch, g, o) =>
    !(ch < 16 && f32Finite g && f32Finite o && within (dec 99 2) (dec 101 2) (f32ToRat g) &&
      within (-(2 * accuracyConst ch)) (2 * accuracyConst ch) (f32ToRat o))

/-- R330: one channel's adjustment: its previous values go to the event log, CAL_FIELD_CNT counts. -/
def Mod.calAdjust (m : Mod) (b : List Nat) : Mod :=
  match calFields b with
  | (ch, g, o) =>
    let old := m.calOf ch
    let m := m.logPut (m.record 0x0F00 0 0xFF 0xFF 0 (E.CAL_SET.index 0) E.CAL_SET.sub 0xFF
      (leBytes 4 old.1 ++ leBytes 4 old.2 ++ leBytes 4 g ++ leBytes 4 o))
    let m : Mod := { m with cal := (ch, g, o) :: m.cal.filter (·.1 != ch) }
    m.commitN E.CAL_FIELD_CNT 0 ((m.n E.CAL_FIELD_CNT 0 + 1) % 65536)

end Sys2Proof.Machine
end

