-- ==== Sys2Proof/Machine/NetCmds.lean ====
section
/-! DEFINITION. Machine/NetCmds.lean: the commands of the chapter Zwinglink: links, the DELAY exchange, beacon and flash,
credit, election and handover, network time, numbering, the summaries of the tree, and class 6 losses. -/

namespace Sys2Proof.Machine

open Sys2Proof

/-! ## Links (R338, R357) -/

/-- R341: a link no longer closes a cycle of rings. -/
def Mod.loopGone (m : Mod) (l : Nat) : Mod :=
  let m := m.modNet (fun x => { x with loopLinks := x.loopLinks.filter (· != l) })
  m.setBit E.NET_FLAGS 0 4 (!m.net.loopLinks.isEmpty)

/-- R357, R338: a PHY reports link, or has lost it. -/
def Mod.phyLink (l : Nat) (up : Bool) (m : Mod) : Mod :=
  if l < 4 && m.n E.LINK_ROLE l != 0 then
    if up then
      let m := m.modLink l (fun x => { x with phy := true, phyAt := m.tb, good := 0, dlys := [], reqAt := none })
      m.when (m.n E.LINK_STATE l != 4) (·.setN E.LINK_STATE l 2)
    else
      let m := (m.modLink l (fun x => { x with phy := false })).loopGone l
      if m.n E.LINK_STATE l = 3 then m.linkFail l
      else m.when (m.n E.LINK_STATE l != 4) (·.setN E.LINK_STATE l 1)
  else m

def execPhyLink (t : Nat) (l : Nat) (up : Bool) (s : State) : Host.Outcome State Fault Refusal :=
  execM t (Mod.phyLink l up) s

/-- R338: the link may be UP: identified, or 10 good exchanges and 1 s after a declaration; a head that would close a
cycle of rings holds its role-2 links down (R341). -/
def Mod.upReady (m : Mod) (l : Nat) : Bool :=
  let x := m.linkOf l
  x.phy && !(m.n E.LINK_ROLE l == 2 && !m.net.loopLinks.isEmpty) &&
    ((m.n E.LINK_STATE l == 2 && decide (1 ≤ x.good)) ||
     (m.n E.LINK_STATE l == 4 && decide (10 ≤ x.good) && (match x.downAt with
       | some t => decide (t + sec 1 ≤ m.tb)
       | none => true)))

/-- R338, R364: the link is UP: credits start anew. -/
def Mod.linkUp (l : Nat) (m : Mod) : Mod :=
  if l < 4 && m.upReady l then
    let m := (m.setN E.LINK_STATE l 3).modLink l (fun x =>
      { x with lastRx := m.tb, badCycles := [], downAt := none, used := [0, 0, 0, 0], freedIn := [0, 0, 0, 0],
               freedOut := [0, 0, 0, 0], told := [0, 0, 0, 0], creditAt := m.tb, tx := none, turn := 3,
               deficit := List.replicate 8 0 })
    let m := m.when (!(List.range 4).any (fun k => m.n E.LINK_STATE k == 4)) (·.lower 3 0)
    (m.ringShape).creditFlush
  else m

def execLinkUp (t : Nat) (l : Nat) (s : State) : Host.Outcome State Fault Refusal := execM t (Mod.linkUp l) s

/-- R338: the reasons for which an UP link is declared down. -/
def Mod.downReady (m : Mod) (l : Nat) : Bool :=
  let x := m.linkOf l
  let c := m.tb / 10000
  m.n E.LINK_STATE l == 3 &&
    (!x.phy || decide (3 ≤ (x.badCycles.filter (fun b => decide (c < b + 4))).length) || decide (x.lastRx + 30000 ≤ m.tb))

def Mod.linkDown (l : Nat) (m : Mod) : Mod := if l < 4 && m.downReady l then m.linkFail l else m

def execLinkDown (t : Nat) (l : Nat) (s : State) : Host.Outcome State Fault Refusal := execM t (Mod.linkDown l) s

/-! ## The DELAY exchange (R357, R489) -/

/-- The ring of a link has its key: own ring, or parent ring for role 2 (R449). -/
def Mod.linkKey (m : Mod) (l : Nat) : Option (List Nat) := if m.n E.LINK_ROLE l = 2 then m.keys.par else m.keys.own

/-- A link frame leaves (R346): it is never forwarded and takes its class's SEQ. -/
def Mod.linkFrame (m : Mod) (l typ : Nat) (content : List Nat) : Mod :=
  m.transmitOn (some l) (m.n E.LINK_ROLE l == 2) 0 typ 0xFFFF content

/-- R357: the next DELAY_REQ is due: every 10 ms for the first 200 ms after PHY link, then every 100 ms. -/
def Mod.delayDue (m : Mod) (l : Nat) : Bool :=
  let x := m.linkOf l
  match x.reqAt with
  | some t => decide (t + ms (if m.tb < x.phyAt + ms 200 then 10 else 100) ≤ m.tb)
  | none => true

/-- R357: a DELAY_REQ leaves on a link that is UP or being brought up, or declared down (R338). -/
def Mod.delayReqTx (l : Nat) (m : Mod) : Mod :=
  if l < 4 && (m.linkOf l).phy && 2 ≤ m.n E.LINK_STATE l && (m.linkKey l).isSome && m.delayDue l then
    -- R338: an exchange that was never answered is no error-free one
    (m.modLink l (fun x => { x with reqAt := some m.tb, good := if x.awaiting then 0 else x.good, awaiting := true })).linkFrame l 2 []
  else m

def execDelayReqTx (t : Nat) (l : Nat) (s : State) : Host.Outcome State Fault Refusal := execM t (Mod.delayReqTx l) s

/-- R357, R346: a DELAY_REQ is answered: residence, identity, address and role of the link, ring number. -/
def Mod.delayReqRx (l : Nat) (h : Hdr) (residence : Rat) (m : Mod) : Mod :=
  if l < 4 then
    m.onFrame h 2 (some l) (fun m =>
      let a := if m.n E.LINK_ROLE l = 2 then m.n E.NET_ADDR_P 0 else m.n E.NET_ADDR 0
      m.linkFrame l 3 (leBytes 8 (ofSigned 64 (roundR (residence * 65536))) ++ leBytes 6 Config.mac48 ++ leBytes 2 a ++
        [l, m.n E.LINK_ROLE l, if a = 0xFFFF then 0xFF else a / 128, 0, 0, 0]))
  else m

def execDelayReqRx (t : Nat) (l : Nat) (h : Hdr) (residence : Rat) (s : State) : Host.Outcome State Fault Refusal :=
  execM t (Mod.delayReqRx l h residence) s

/-- R489: an injected check of a link is used by its next DELAY_RESP; the source stays injected while another link has
yet to be checked. -/
def Mod.injUsed (m : Mod) (k l : Nat) : Mod :=
  let m := m.modNet (fun x => { x with inj := x.inj.filter (· != (k, l)) })
  m.when (!m.net.inj.any (·.1 == k)) (·.modFlt 3 (fun f => { f with injected := Sys2Proof.setBit f.injected k false }))

/-- The rings in the subtree of the module's own ring, as its lantern, or as its head from the summary that passes (R368). -/
def Mod.subtree (m : Mod) : List Nat :=
  m.net.ring :: ((match m.net.below with
    | some x => x.rings
    | none => []) ++ m.net.kids.flatMap (fun k => k.ring :: k.rings))

/-- The rings of the subtree of the module's own ring, of which it is head, with their places in the tree (R341, R368). -/
def Mod.belowTree (m : Mod) : List RingEnt :=
  match m.net.below with
  | some x => x.tree
  | none => []

/-- R341: the heads on the way from ring `r` of the subtree up to the module's own ring; the first argument bounds the levels. -/
def Mod.pathHeads (m : Mod) : Nat → Nat → List Nat
  | 0, _ => []
  | n + 1, r =>
    match m.belowTree.find? (·.ring == r) with
    | some e => e.head :: m.pathHeads n e.parent
    | none => []

/-- R341: the role-2 link leads to a ring of the head's own subtree, and of the heads on the cycle it has the highest MAC-48. -/
def Mod.closesLoop (m : Mod) (l : Nat) (x : DelayResp) : Bool :=
  m.n E.LINK_ROLE l == 2 && x.role == 1 && x.ring != 0xFF && m.net.ring != 0xFF && m.subtree.contains x.ring &&
    (m.pathHeads m.belowTree.length x.ring).all (fun a => decide (a < Config.mac48))

/-- R341: a head's role-2 links are held down while one of them closes a cycle of rings. -/
def Mod.holdLoop (m : Mod) (l : Nat) : Mod :=
  let m := (m.modNet (fun x => { x with loopLinks := l :: x.loopLinks.filter (· != l) })).setBit E.NET_FLAGS 0 4 true
  let up := m.upLinks 2
  m.when (!up.isEmpty) (fun m => ((up.foldl (fun m k => m.setN E.LINK_STATE k 2) m).ringShape).creditFlush)

/-- R357: one exchange completes: the delay enters the mean of 16, the partner is known. -/
def Mod.delayDone (l : Nat) (x : DelayResp) (m : Mod) : Mod :=
  let d := (x.roundTrip - x.residence) / 2
  let ds := grid d :: (m.linkOf l).dlys.take 15
  let mean := ds.sum / ds.length
  let m := m.modLink l (fun y => { y with dlys := ds, peerMac := x.mac, good := y.good + 1, awaiting := false })
  let m := (m.setN E.LINK_PEER l x.addr).setQ E.LINK_DLY l (clampR 0 1000 mean)
  let m := m.setQ E.LINK_LEN l (clampR 0 200 (mean / m.q E.NET_TPM 0))
  if m.closesLoop l x then m.holdLoop l else m.when (m.n E.LINK_ROLE l == 2) (·.loopGone l)

/-- R357, R338, R489: a DELAY_RESP arrives: the one that is awaited completes its exchange. -/
def Mod.delayRespRx (l : Nat) (h : Hdr) (x : DelayResp) (m : Mod) : Mod :=
  if l < 4 then
    if m.net.inj.contains (1, l) then (((m.heard l).fcsFail l { h with yieldMark := false }).delayBad l 3).injUsed 1 l
    else if m.net.inj.contains (2, l) then (((m.heard l).macFail).delayBad l 3).injUsed 2 l
    else m.onFrame h 3 (some l) (fun m => m.when (m.linkOf l).awaiting (Mod.delayDone l x))
  else m

def execDelayRespRx (t : Nat) (l : Nat) (h : Hdr) (x : DelayResp) (s : State) : Host.Outcome State Fault Refusal :=
  execM t (Mod.delayRespRx l h x) s

/-! ## Beacon and flash (R348 to R353) -/

/-- The records of the next beacon (R348): changed ones first, each in three beacons, then the table's in their order. -/
def Mod.beaconRecords (m : Mod) : Mod × List RoleRec :=
  let new := m.net.recNew.take 4
  let rest := m.net.lead.filter (fun r => !new.any (fun y => sameRole y.1 r))
  let n := min (4 - new.length) rest.length
  let cyc := (List.range n).filterMap (fun i => rest[(m.net.recPtr + i) % rest.length]?)
  let m := m.modNet (fun x => { x with
    recNew := (new.map (fun y => (y.1, y.2 - 1))).filter (fun y => y.2 != 0) ++ x.recNew.drop 4,
    recPtr := if rest.isEmpty then 0 else (x.recPtr + n) % rest.length })
  (m, new.map (·.1) ++ cyc)

/-- R370: T_b and the bound on the loop, µs. -/
def beaconTime (slots : Nat) : Rat := (122 + 8 * slots : Nat) * 8 / 1000
/-- R348: the highest station number on the ring, plus 1; a station that has none yet does not count. -/
def Mod.slotCount (m : Mod) : Nat :=
  ((m.net.stns.map (·.stn)).filter (· != 0xFF)).foldl max (if m.leadStn = 0xFF then 0 else m.leadStn) + 1

/-- R370: the ring bound follows the latest loop times. -/
def Mod.showLoop (m : Mod) : Mod :=
  let tb := beaconTime m.slotCount
  let loop := m.net.loops.foldl maxR 0
  let top := 100 - tb - 36 / 10
  let m := (m.setQ E.RING_LOOP 0 (clampR 0 1000 loop)).setQ E.RING_LOOP_MAX 0 (clampR 0 100 top)
  let m := m.setN E.RING_EXP_ROOM 0 (((100 - loop - tb) / (12 / 10)).floor - 1).toNat
  m.setBit E.NET_FLAGS 0 3 (!m.bitOf E.NET_FLAGS 0 2 && !m.net.loops.isEmpty && decide (loop ≤ top))

/-- R343: the number of the ring that the module leads has not been confirmed. -/
def Mod.provisional (m : Mod) : Bool := m.isLantern && !m.leadsRoot && !m.net.confirmed

/-- The ring number that the module's beacons show. -/
def Mod.beaconRing (m : Mod) : Nat := if m.provisional then 0xFF else m.leadRing

/-- The whole cycle of network time that is nearest, and its distance in ns (R348). -/
def Mod.cycleNear (m : Mod) : Nat := ((m.ntimeNs / 100000 + 1 / 2).floor).toNat
def Mod.cycleOff (m : Mod) : Rat := m.ntimeNs - 100000 * (m.cycleNear : Nat)

/-- R344, R345, R348: the header of a beacon: class 0, TYPE 1, in the ring that the module leads, without a MAC behind its payload. -/
def Mod.beaconHeader (m : Mod) (b : Beacon) : Hdr :=
  let len := 36 + 8 * b.roles.length + 8 * b.slotCount
  { m.txHeader m.parentLantern 0 0x01 0xFFFF (m.nextSeq 0) len with bytes := max 64 (34 + len) }

/-- R340: the lantern's beacon leaves on the lower-numbered of its UP links in the ring. -/
def Mod.sendBeacon (m : Mod) (b : Beacon) : Mod :=
  match (m.upLinks (if m.parentLantern then 2 else 1)).head?, m.leadKey with
  | some l, some _ => (m.cutIn (.beacon (some l) (m.beaconHeader b) b)).seqStep 0
  | _, _ => m

/-- R360: a head sends one TIME_RELAY into its own ring per cycle, timed from its network time in the parent ring. What its
parent ring has told it besides goes with it (assumption log 98). -/
def Mod.sendRelay (m : Mod) (t0 : Nat) (cf : Rat) : Mod :=
  m.when (!(m.upLinks 1).isEmpty && m.keys.own.isSome)
    (·.transmitOn none false 0 7 0xFFFF (leBytes 8 t0 ++ leBytes 8 (ofSigned 64 (roundR (cf * 65536)))))

/-- The SEG_ID values of the ring that the module leads. -/
def Mod.ringSegs (m : Mod) : List Nat := (m.leadRoles.map (·.seg)).eraseDups

/-- R254: the SEG_IDs that rings of different branches hold: rings below, and the own one, each other's, and what is told from
above. -/
def Mod.foreignSegs (m : Mod) : List Nat :=
  let kids := m.net.kids.map (·.segs)
  let twice := fun (s : Nat) => decide (2 ≤ (kids.filter (·.contains s)).length)
  (m.net.aboveSegs ++ (kids.flatten.filter (fun s => m.ringSegs.contains s || twice s))).eraseDups

/-- R254: what a beacon tells of conflicts: those of the ring's own groups, and of rings of different branches. -/
def Mod.toldConflicts (m : Mod) : List Nat := (m.net.conflicts ++ m.foreignSegs).eraseDups

/-- R254, R275: SEG_CONFLICT of the module, as a member of its group. -/
def Mod.conflictShow (m : Mod) (l : List Nat) : Mod :=
  m.setBit E.SHARE_FLAGS 0 2 (m.n E.SHARE_ROLE 0 == 1 && l.contains (m.n E.SEG_ID 0))

/-- R348, R262: the lantern sends the beacon of the cycle within 20 ns of its T0; as a station of its ring it takes what the beacon
carries. A head that leads its parent ring times its own ring by it (R360). -/
def Mod.beaconTx (m : Mod) : Mod :=
  if m.leads && decide (absR m.cycleOff ≤ 20) then
    let c := m.cycleNear
    let t0 := c * 10000
    let env := m.n E.RING_ENV 0
    let own := m.isLantern
    let m := m.when (own && m.leadsRoot) (·.setN E.RING_DEPTH 0 0)
    let (m, recs) := m.beaconRecords
    let told := m.toldConflicts
    let b : Beacon :=
      { cycle := c % 2 ^ 32, lgen := m.leadGen, stn := m.leadStn, slotCount := m.slotCount, t0 := t0,
        cf := roundR (m.cycleOff * 65536), env := env, ringOpen := m.bitOf E.NET_FLAGS 0 2,
        traceable := m.ntimeOk, synciRef := m.bitOf E.NET_FLAGS 0 7, bound := m.bitOf E.NET_FLAGS 0 3,
        darkN := m.n E.DARK_N 0, depth := if own then m.n E.RING_DEPTH 0 else m.net.parDepth,
        ring := m.beaconRing, roles := recs, slots := [], key := m.leadKey, lprio := m.n E.NET_LPRIO 0, mac := Config.mac48,
        conflicts := told }
    let m := m.sendBeacon b
    if own then
      let m := m.modNet (fun x => { x with lastBeacon := some m.tb, cycle := c % 2 ^ 32, command := env,
                                           darkN := some (m.n E.DARK_N 0) })
      let m := (m.setN E.FLEET_ENV 0 env).setBit E.SHARE_FLAGS 0 0 false
      let m := m.when m.leadsRoot (fun m => ((m.setBit E.NET_FLAGS 0 0 true).setBit E.NET_FLAGS 0 1 false).lower 3 4)
      let m := (m.setBit E.NET_FLAGS 0 8 m.provisional).setBit E.NET_FLAGS 0 7
        (m.bitOf E.NET_FLAGS 0 7 && (!m.leadsRoot || m.n E.SYNCI_MODE 0 == 2))
      let m := m.modNet (fun x => { x with roles := x.lead })
      ((recs.foldl Mod.roleSeen m).conflictShow told).frShow
    else
      let m := m.when m.leadsRoot (fun m => ((m.setBit E.NET_FLAGS 0 0 true).setBit E.NET_FLAGS 0 1 false).lower 3 4)
      let m := m.when (m.leadsRoot && m.n E.SYNCI_MODE 0 != 2) (·.setBit E.NET_FLAGS 0 7 false)
      let m := m.modNet (fun x => { x with parBeacon := some m.tb })
      m.sendRelay t0 m.cycleOff
  else m

def execBeaconTx (t : Nat) (s : State) : Host.Outcome State Fault Refusal := execM t Mod.beaconTx s

/-- R358: CF as a forwarding station writes it; `residence` in ns. -/
def forwardCf (cf : Int) (dUp residence : Rat) : Int := cf + roundR ((dUp + residence) * 65536)

/-- R340, R358: the link on which what came by `l` goes on in its ring: the other UP link, or at a line end the same one. -/
def Mod.onLink (m : Mod) (l : Nat) : Nat := ((m.upLinks (m.n E.LINK_ROLE l)).find? (· != l)).getD l

/-- R340, R344, R351, R358: the beacon goes on, with the station's slot on a first pass; a line end turns it. -/
def Mod.beaconForward (m : Mod) (l : Nat) (h : Hdr) (b : Beacon) (slot : Option Slot) (residence : Nat) : Mod :=
  let k := m.onLink l
  m.cutIn (.beacon (some k) { h with hops := h.hops - 1, turned := h.turned || k == l, mac := Config.mac48 }
    { b with cf := forwardCf b.cf (m.q E.LINK_DLY l) residence, slots := b.slots ++ slot.toList })

/-- R351: another station's slot holds: its MAC covers the ring, the cycle and the generation of this beacon. -/
def slotHolds (key : Option (List Nat)) (ring cycle lgen : Nat) (x : Slot) : Bool :=
  x.present && key.isSome && x.key == key && x.ring == ring && x.cycle == cycle && x.lgen == lgen

/-- R348, R271: what a station takes of its own ring's beacon: flags, numbers, dark count, command, records and slots. -/
def Mod.beaconTake (m : Mod) (l : Nat) (b : Beacon) : Mod :=
  let m := m.modNet (fun x => { x with
    upstream := some l, lastBeacon := some m.tb, darkN := some b.darkN, cycle := b.cycle, command := b.env,
    claiming := false, returns := 0, aboveSegs := if m.isHead then x.aboveSegs else b.conflicts })
  let m := m.when (m.n E.LGEN 0 != b.lgen) (fun m => (m.setN E.LGEN 0 b.lgen).modNet (fun x => { x with newest := b.lgen }))
  let m := ((m.setBit E.SHARE_FLAGS 0 0 false).setN E.FLEET_ENV 0 b.env).setN E.LANT_ADDR 0 (nodeAddr b.ring b.stn)
  let m := (m.setBit E.NET_FLAGS 0 2 b.ringOpen).setBit E.NET_FLAGS 0 3 b.bound
  let m := m.when (!(m.isHead && m.leadsRoot)) (·.setBit E.NET_FLAGS 0 7 b.synciRef)
  let m := ((m.setN E.RING_DEPTH 0 (min 127 b.depth)).setN E.RING_N 0 (clampN 1 128 b.slotCount))
  let m := m.setBit E.NET_FLAGS 0 8 (b.ring == 0xFF)
  let m := m.when (m.numbered && b.ring != 0xFF && b.ring != m.net.ring) (·.takeNumber b.ring m.net.stn)
  let m := m.setBit E.NET_FLAGS 0 9 (!m.numbered && b.slotCount == 128 && (match m.net.stnRecAt with
    | some t => decide (t + ms 1 ≤ m.tb)
    | none => false))
  let m := b.slots.foldl (fun (m : Mod) x =>
    let a := nodeAddr b.ring x.stn
    if !slotHolds m.keys.own b.ring b.cycle b.lgen x then m
    else { m with stale := if x.fenced then a :: m.stale.filter (· != a) else m.stale.filter (· != a) }) m
  (((b.roles.foldl Mod.roleSeen m).conflictShow b.conflicts).frShow).kprTask 2
where
  clampN (lo hi n : Nat) : Nat := max lo (min hi n)

/-- R355: another lantern's beacon wins over this lantern's: a newer LGEN, or the better key at an equal one. The beacon's own fields do
not hold NET_LPRIO and MAC-48 (DESIGN CHOICE, assumption log 104). -/
def Mod.otherWins (m : Mod) (b : Beacon) : Bool :=
  newer b.lgen m.leadGen || (b.lgen == m.leadGen && betterKey (b.lprio, b.stn, b.mac) (m.n E.NET_LPRIO 0, m.leadStn, Config.mac48))

/-- R353: T0 lies within 1 ms of the station's network time, or it has none. -/
def Mod.beaconNear (m : Mod) (b : Beacon) : Bool := !m.ntimeOk || decide (absR (m.ntimeNs - 10 * b.t0) ≤ 1000000)

/-- R353, R355, R359, R360: a beacon of the own ring, on its first pass, whose lantern MAC holds. -/
def Mod.beaconOwn (m : Mod) (l : Nat) (b : Beacon) : Mod :=
  let nt : Rat := 10 * b.t0 + mkRat b.cf 65536 + m.q E.LINK_DLY l
  if newer (m.n E.LGEN 0) b.lgen then m.inc E.NET_LGEN_OLD 0
  else if (if m.isLantern then !m.otherWins b else !m.beaconNear b) then m
  else
    let m := m.when m.isLantern Mod.giveUpRoles
    let m := m.beaconTake l b
    let m := m.when (!m.isHead) (fun m => (m.steer nt).timeHeard)
    m.when (!m.numbered) Mod.sendStnRec

/-- R353, R360, R341: a beacon of a head's parent ring, on its first pass: time comes from it, and one TIME_RELAY goes into the own
ring. -/
def Mod.beaconParent (m : Mod) (l : Nat) (b : Beacon) : Mod :=
  let nt : Rat := 10 * b.t0 + mkRat b.cf 65536 + m.q E.LINK_DLY l
  if newer m.net.parLgen b.lgen then m.inc E.NET_LGEN_OLD 0
  else if (if m.parentLantern then !m.otherWins b else !m.beaconNear b) then m
  else
    let m := m.when m.parentLantern (fun m => (m.setBit E.NET_FLAGS 0 5 false).modNet (fun x => { x with handTo := none, offer := none }))
    let m := m.modNet (fun x => { x with
      parUp := some l, parBeacon := some m.tb, parLgen := b.lgen, parEnv := b.env, claiming := false, returns := 0,
      parDepth := min 127 b.depth, aboveSegs := b.conflicts })
    let m := m.when (m.n E.NET_ADDR_P 0 != 0xFFFF && b.ring != 0xFF)
      (fun m => m.setN E.NET_ADDR_P 0 (nodeAddr b.ring (m.n E.NET_ADDR_P 0 % 128)))
    let m := (m.steer nt).timeHeard
    let m := m.when (m.n E.NET_ADDR_P 0 == 0xFFFF) (fun m => m.originateIn true 3 0x33 0xFFFF
      (leBytes 6 Config.mac48 ++ [0xFF, m.n E.NET_LPRIO 0, 0, 0, 0, 0, 0, 0]))
    m.sendRelay b.t0 (nt - 10 * b.t0)

/-- The beacons that have passed, by ring (parent or own), station, generation and cycle (R340). -/
def Mod.passKey (par : Bool) (b : Beacon) : Bool × Nat × Nat × Nat := (par, b.stn, b.lgen, b.cycle)

/-- R340: the upstream link of the ring a link belongs to: a station's is the one by which beacons arrive, a lantern's the other end of
its ring or line. -/
def Mod.upstreamOf (m : Mod) (l : Nat) : Option Nat :=
  let par := m.n E.LINK_ROLE l == 2
  if (if par then m.parentLantern else m.isLantern) then (m.upLinks (m.n E.LINK_ROLE l)).getLast?
  else if par then m.net.parUp else m.net.upstream

/-- R353: a beacon arrives on link `l`: it is forwarded before its checks complete, with the flash slot where its lantern
MAC holds and it comes for the first time (R351), and a beacon that a station accepts has its effects. The lantern's own beacon, turned
at one end of a line, goes on to the other; where it has come all the way it is removed (R340). -/
def Mod.beaconRx (l : Nat) (h : Hdr) (b : Beacon) (residence : Nat) (m : Mod) : Mod :=
  if l < 4 && m.n E.LINK_STATE l == 3 then
    let par := m.n E.LINK_ROLE l == 2
    if (if par then m.parentLantern else m.isLantern) && b.mac == Config.mac48 then
      let m := m.heard l
      if !h.turned || m.upstreamOf l == some l then m else m.beaconForward l h b none residence
    else
      let m0 := m
      let holds := (m.linkKey l).isSome && b.key == m.linkKey l
      let first := !m.net.passed.contains (Mod.passKey par b)
      let m := if !h.fcsOk then m.fcsFail l h
        else
          let m := m.heard l
          if !headerOk h || h.typ != 1 || h.hops == 0 then m.inc E.NET_BAD_HDR 0
          else if (m.linkKey l).isNone then m
          else if !holds then m.macFail
          else if !first then m
          else if par then (if m.isHead then m.beaconParent l b else m) else m.beaconOwn l b
      let m := m.when (holds && first) (·.modNet (fun x => { x with passed := Mod.passKey par b :: x.passed.take 7 }))
      let leadsHere := if par then m.parentLantern else m.isLantern
      -- R356: a target that has just taken the role acknowledges in the old lantern's beacon
      if leadsHere && !(if par then m.net.handAckPar else m.net.handAck) then m
      else
        let stn := if par then (if m0.n E.NET_ADDR_P 0 = 0xFFFF then 0xFF else m0.n E.NET_ADDR_P 0 % 128)
          else if m0.numbered then m0.net.stn else 0xFF
        let put := holds && first && stn != 0xFF
        let m := m.beaconForward l h b
          (if put then some { m0.flashSlot stn par with ring := b.ring, cycle := b.cycle, lgen := b.lgen } else none) residence
        let m := m.when put (·.modNet (fun x => if par then { x with handAckPar := false } else { x with handAck := false }))
        let m := m.when (put && !par) Mod.imdOffer
        m.when (put && !par && m0.net.takeFor.isSome) (·.modNet (fun x => { x with takeFor := none }))
  else m

def execBeaconRx (t : Nat) (l : Nat) (h : Hdr) (b : Beacon) (tOutDelay : Nat) (s : State) :
    Host.Outcome State Fault Refusal := execM t (Mod.beaconRx l h b tOutDelay) s

/-- R265: the lantern settles a claim of station `n` on a role. -/
def Mod.settleClaim (m : Mod) (n seg idx gen : Nat) : Mod :=
  let held : RoleRec := { seg := seg, idx := idx, holder := n, gen := gen, prev := 0xFF, state := 0 }
  if idx = 0xFF ∨ gen = 0 ∨ seg = 0 then m
  else
    match m.leadRole seg idx with
    | none => m.leadPut held
    | some r =>
      let put := { held with prev := if r.holder = n then r.prev else r.holder }
      if r.gen = gen then
        if r.holder = n ∨ r.holder = 0xFF ∨ n < r.holder then m.leadPut put else m.leadPut r
      else if newer gen r.gen then m.leadPut put
      else m.leadPut r

/-- R267: the spare's acknowledgement commits the role to it at g + 1. -/
def Mod.takeCommit (m : Mod) (n : Nat) : Mod :=
  match m.net.offer with
  | some o =>
    if o.target = n then
      match m.leadRole o.seg o.idx with
      | some r =>
        let m := m.leadPut { r with holder := n, gen := o.gen, prev := r.holder, state := 0 }
        (m.modNet (fun x => { x with offer := none, lapsed := [] })).inc E.TAKE_CNT 0
      | none => m.modNet (fun x => { x with offer := none })
    else m
  | none => m

/-- R266, R269: a dark station answers again before a takeover of its role is committed: it keeps it, an offer of it is
withdrawn. -/
def Mod.darkEnd (m : Mod) (n : Nat) : Mod :=
  let m := m.mapStn n (fun s => { s with dark := false })
  match m.heldBy n with
  | some r =>
    if r.state = 1 ∨ r.state = 2 then
      let m := m.leadPut { r with state := 0 }
      m.modNet (fun x => { x with offer := x.offer.filter (fun o => !(o.seg == r.seg && o.idx == r.idx)) })
    else m
  | none => m

/-- R352, R265 to R267, R356: one station's flash response of the cycle. -/
def Mod.flashResponse (m : Mod) (n : Nat) (s : Option Slot) : Mod :=
  match s with
  | some x =>
    let was := (m.stnOf n).bind (·.slot)
    let m := m.mapStn n (fun y => { y with misses := 0, slot := some x })
    let m := match m.heldBy n, was with
      | some r, some w => m.when (w.idx == r.idx && x.idx == 0xFF) (·.leadDrop r.seg r.idx)
      | _, _ => m
    let m := m.when ((m.stnOf n).any (·.dark)) (·.darkEnd n)
    let m := m.when x.takeAck (·.takeCommit n)
    let seg := ((m.stnOf n).map (·.seg)).getD 0
    let m := m.when (x.claim && !x.fenced) (·.settleClaim n seg x.idx x.gen)
    let m := m.when (x.fenced && !m.net.lead.any (fun r => r.holder == n && r.state == 4))
      (·.leadPut { seg := seg, idx := 0xFF, holder := n, gen := 0, prev := 0xFF, state := 4 })
    m.when (x.handoverAck && m.net.handTo.any (·.1 == n)) (·.disarm .handover)
  | none => m.mapStn n (fun y => { y with misses := y.misses + 1 })

/-- R352, R370: beacon `cycle` is back at the lantern with its slots, or has not come back by T0 + 300 µs. -/
def Mod.beaconReturn (cycle : Nat) (slots : List Slot) (loopTime : Option Rat) (turned : Bool) (m : Mod) : Mod :=
  if m.leads then
    let m := match loopTime with
      | some x => (((m.modNet (fun y => { y with loops := grid x :: y.loops.take 999 })).setBit E.NET_FLAGS 0 2 turned)).showLoop
      | none => m
    -- R352: no later than 300 µs
    let ok := fun (n : Nat) => if loopTime.all (fun x => decide (300 < x)) then none else
      slots.find? (fun s => s.stn == n && slotHolds m.leadKey m.beaconRing (cycle % 2 ^ 32) m.leadGen s)
    let m := (m.net.stns.map (·.stn)).foldl (fun m n => if n = m.leadStn then m else m.flashResponse n (ok n)) m
    let m := m.when m.isLantern (fun m =>
      let own := m.flashSlot m.net.stn false
      let m := m.when own.takeAck (fun m => (m.takeCommit m.net.stn).modNet (fun x => { x with takeFor := none }))
      (m.when (own.claim && !m.fenced) (·.settleClaim m.net.stn (m.n E.SEG_ID 0) own.idx own.gen)).imdOffer)
    m.setN E.RING_N 0 (min 128 ((m.net.stns.filter (fun x => x.stn != m.leadStn)).length + 1))
  else m

def execBeaconReturn (t : Nat) (cycle : Nat) (slots : List Slot) (loopTime : Option Rat) (turned : Bool) (s : State) :
    Host.Outcome State Fault Refusal := execM t (Mod.beaconReturn cycle slots loopTime turned) s

/-! ## Credit (R364) -/

/-- R364: the partner has freed credits: frames that wait go on. -/
def Mod.creditRx (l : Nat) (h : Hdr) (freed : List Nat) (m : Mod) : Mod :=
  if l < 4 then
    m.onFrame h 4 (some l) (fun m =>
      let was := ((m.linkOf l).freedIn[3]?).getD 0
      let m := m.when (m.armed .streamA && (freed[3]?).getD 0 % 2 ^ 32 != was)
        (·.arm .streamA (m.tb + ms (m.n E.CAP_TMO 0)))
      Mod.streamPump pumpBound
        ((m.modLink l (fun x => { x with freedIn := (List.range 4).map (fun c => (freed[c]?).getD 0 % 2 ^ 32) })).creditFlush))
  else m

def execCreditRx (t : Nat) (l : Nat) (h : Hdr) (freed : List Nat) (s : State) : Host.Outcome State Fault Refusal :=
  execM t (Mod.creditRx l h freed) s

/-- R364: CREDIT is due: 8 freed credits of a class and 2 µs, or 50 µs. -/
def Mod.creditDue (m : Mod) (l : Nat) : Bool :=
  let x := m.linkOf l
  let some8 := (List.range 4).any (fun c => decide (8 ≤ ((x.freedOut[c]?).getD 0 + 2 ^ 32 - (x.told[c]?).getD 0) % 2 ^ 32))
  m.n E.LINK_STATE l == 3 && ((some8 && decide (x.creditAt + us 2 ≤ m.tb)) || decide (x.creditAt + us 50 ≤ m.tb))

/-- R364: CREDIT leaves. The transmitters serve what has waited for a wire since (assumption log 101). -/
def Mod.creditTx (l : Nat) (m : Mod) : Mod :=
  if l < 4 && m.creditDue l && (m.linkKey l).isSome then
    let f := (m.linkOf l).freedOut
    ((m.modLink l (fun x => { x with told := f, creditAt := m.tb })).linkFrame l 4 (f.flatMap (leBytes 4))).creditFlush
  else m

def execCreditTx (t : Nat) (l : Nat) (s : State) : Host.Outcome State Fault Refusal := execM t (Mod.creditTx l) s

/-! ## Election and handover (R354 to R356) -/

/-- R354: the better claims of the latest 3 cycles. -/
def Mod.recentClaims (m : Mod) : List (ClaimMsg × Nat) := m.net.better.filter (fun x => decide (m.tb < x.2 + 30000))

/-- R354: the newest LGEN that the module has seen in beacons or claims of the ring in which it claims. After a start that is the
committed one (DESIGN CHOICE, assumption log 104). -/
def Mod.newestGen (m : Mod) : Nat :=
  let own := if m.isHead then m.net.parLgen else m.n E.LGEN 0
  if newer m.net.newest own then m.net.newest else own

/-- R354: a candidate without a lantern sends its claim: its key and a proposed LGEN one newer than the newest seen. -/
def Mod.claimTx (m : Mod) : Mod :=
  let ring := if m.isHead then 2 else 1
  if m.candidate && m.noLantern && m.recentClaims.isEmpty && !(m.upLinks ring).isEmpty &&
      (if m.isHead then m.keys.par else m.keys.own).isSome then
    let p := nextGen m.newestGen
    let m := m.modNet (fun x => { x with claiming := true, proposed := p,
                                         returns := if x.claiming && x.proposed == p then x.returns else 0 })
    let k := m.claimKey
    m.transmitOn none m.isHead 0 5 0xFFFF ([k.1, k.2.1] ++ leBytes 6 k.2.2 ++ leBytes 2 m.net.proposed)
  else m

def execClaimTx (t : Nat) (s : State) : Host.Outcome State Fault Refusal := execM t Mod.claimTx s

/-- R354 step 3: the own claim returns in cycle `c` of local time: returns in consecutive cycles count. -/
def Net.claimReturn (c lgen : Nat) (alone : Bool) (y : Net) : Net :=
  if !(y.claiming && lgen == y.proposed && alone) then y
  else if y.returns = 0 ∨ y.returnAt + 1 < c then { y with returns := 1, returnAt := c }
  else if y.returnAt = c then y
  else { y with returns := y.returns + 1, returnAt := c }

/-- R356: a handover that is offered lapses. -/
def Mod.offerEnd (m : Mod) : Mod := (m.disarm .handover).modNet (fun x => { x with handTo := none })

/-- R354 step 2, and its step 3's count: a claim arrives, and where it is better goes on round the ring. A running lantern discards
it, but its pending offer lapses: an election has started (R356). -/
def Mod.claimRx (l : Nat) (h : Hdr) (x : ClaimMsg) (m : Mod) : Mod :=
  if l < 4 then
    if (if m.n E.LINK_ROLE l = 2 then m.parentLantern else m.isLantern) then
      (m.heard l).when (m.net.handTo.isSome && h.fcsOk && headerOk h && h.typ == 5 && (m.linkKey l).isSome && h.key == m.linkKey l)
        Mod.offerEnd
    else
      m.onFrame h 5 (some l) (fun m =>
        let k := (x.lprio, x.stn, x.mac)
        let seen := m.recentClaims
        let own := x.mac == Config.mac48
        let m := m.modNet (fun y => { y with newest := if newer x.lgen y.newest && !own then x.lgen else y.newest, better := seen })
        if own then m.modNet (Net.claimReturn (m.tb / 10000) x.lgen seen.isEmpty)
        else if betterKey k m.claimKey && seen.all (fun y => betterKey k (y.1.lprio, y.1.stn, y.1.mac) || y.1 == x) then
          let m := m.modNet (fun y => { y with claiming := false, returns := 0,
                                               better := (x, m.tb) :: seen.filter (fun z => z.1 != x) })
          let k := m.onLink l
          m.cutIn (.forward k { h with hops := h.hops - 1, turned := h.turned || k == l, mac := Config.mac48 })
        else m)
  else m

def execClaimRx (t : Nat) (l : Nat) (h : Hdr) (x : ClaimMsg) (s : State) : Host.Outcome State Fault Refusal :=
  execM t (Mod.claimRx l h x) s

/-- R354 steps 3 and 4: three returns in succession and no better claim: LGEN is committed and the candidate leads. -/
def Mod.electionWin (m : Mod) : Mod :=
  if m.net.claiming && decide (3 ≤ m.net.returns) && m.candidate && m.recentClaims.isEmpty then
    (m.becomeLantern m.net.proposed).inc E.ELECT_CNT 0
  else m

def execElectionWin (t : Nat) (s : State) : Host.Outcome State Fault Refusal := execM t Mod.electionWin s

/-- R354, R343: a ring of one leads itself, whatever keys it holds. -/
def Mod.ringOfOne (m : Mod) : Mod :=
  if (m.upLinks 1).isEmpty && !m.isHead && m.candidate then
    (m.becomeLantern (nextGen m.newestGen)).inc E.ELECT_CNT 0
  else m

def execRingOfOneLantern (t : Nat) (s : State) : Host.Outcome State Fault Refusal := execM t Mod.ringOfOne s

/-- R356: the lantern offers its role to a station at LGEN g + 1. -/
def Mod.handoverOffer (m : Mod) (stn : Nat) : Mod :=
  let g := nextGen m.leadGen
  let m := (m.modNet (fun x => { x with handTo := some (stn, g) })).arm .handover (m.tb + 100000)
  m.originate 0 6 0xFFFF ([stn, 0] ++ leBytes 2 g)

/-- R356: the station named is a candidate: known to the lantern, not dark and not FENCED, with NET_LPRIO below 255, and not the ring's
own head, which its TIME_RELAY shows. -/
def Mod.handoverOk (m : Mod) (stn : Nat) : Bool :=
  stn != m.leadStn && m.net.headStn != some stn && m.net.stns.any (fun s => s.stn == stn && !s.dark && decide (s.lprio < 255) && s.slot.any (fun x => !x.fenced))

/-- R356: an offer reaches its target: it commits the generation, acknowledges in its flash slot and beacons from the
next cycle. -/
def Mod.handoverRx (h : Hdr) (target lgen : Nat) (m : Mod) : Mod :=
  m.onFrame h 6 none (fun m =>
    let par := m.fromParent h none
    let gen := if par then m.net.parLgen else m.n E.LGEN 0
    let mine := if par then m.isHead && m.n E.NET_ADDR_P 0 != 0xFFFF && m.n E.NET_ADDR_P 0 % 128 == target
      else !m.isHead && m.numbered && m.net.stn == target
    if h.lant && h.gen == gen && mine && m.candidate && lgen == nextGen gen then
      (m.becomeLantern lgen).modNet (fun x => if par then { x with handAckPar := true } else { x with handAck := true })
    else m)

def execHandoverRx (t : Nat) (h : Hdr) (target lgen : Nat) (s : State) : Host.Outcome State Fault Refusal :=
  execM t (Mod.handoverRx h target lgen) s

/-- R356: an offer without acknowledgement in 10 cycles lapses; the lantern goes on at g. -/
def Mod.handoverLapse (m : Mod) : Mod :=
  if m.due .handover then m.offerEnd else m

def execHandoverLapse (t : Nat) (s : State) : Host.Outcome State Fault Refusal := execM t Mod.handoverLapse s

/-! ## Network time (R360, R361) -/

/-- R340, R358: a TIME_RELAY goes on round the ring, with CF as a forwarding station writes it, but not past its originator. -/
def Mod.relayOn (m : Mod) (l : Nat) (h : Hdr) (t0 : Nat) (cf : RelayCf) : Mod :=
  if h.hops = 0 ∨ h.src = m.n (if m.n E.LINK_ROLE l = 2 then E.NET_ADDR_P else E.NET_ADDR) 0 then m
  else
    let k := m.onLink l
    m.cutIn (.frame (some k) { h with hops := h.hops - 1, turned := h.turned || k == l, mac := Config.mac48 }
      (leBytes 8 t0 ++ leBytes 8 (ofSigned 64 (forwardCf cf.cf (m.q E.LINK_DLY l) cf.residence))))

/-- R360: what the lantern of a ring that is not the root takes of the head's TIME_RELAY: its time, and with it the ring's level
(R341), whether the root follows SYNCI (R361) and the conflicts of SEG_ID above (R254). -/
def Mod.relayTake (m : Mod) (l : Nat) (h : Hdr) (t0 : Nat) (cf : RelayCf) : Mod :=
  let depth := min 127 (cf.depth + 1)
  let m := m.modNet (fun x => { x with relayAt := some m.tb, headStn := some (h.src % 128), aboveSegs := cf.conflicts
                                       parDepth := if m.isLantern then x.parDepth else depth })
  let m := (m.when m.isLantern (·.setN E.RING_DEPTH 0 depth)).setBit E.NET_FLAGS 0 7 cf.synci
  (m.steer (10 * t0 + mkRat cf.cf 65536 + m.q E.LINK_DLY l)).timeHeard

/-- R360: the lantern of a ring that is not the root steers by the head's TIME_RELAY, on its first pass; other stations ignore it
and pass it on. -/
def Mod.timeRelayRx (l : Nat) (h : Hdr) (t0 : Nat) (cf : RelayCf) (m : Mod) : Mod :=
  if l < 4 && m.n E.LINK_ROLE l != 0 && m.n E.LINK_STATE l == 3 then
    if !h.fcsOk then m.fcsFail l h
    else
      let m := m.relayOn l h t0 cf
      let takes := if m.n E.LINK_ROLE l = 2 then m.parentLantern else m.isLantern
      let again := m.rxOf (originator h l) 0 == some (h.epochLo, h.seq)
      if takes && !again then m.onFrame h 7 (some l) (fun m => m.relayTake l h t0 cf) else m.heard l
  else m

def execTimeRelayRx (t : Nat) (l : Nat) (h : Hdr) (t0 : Nat) (cf : RelayCf) (s : State) : Host.Outcome State Fault Refusal :=
  execM t (Mod.timeRelayRx l h t0 cf) s

/-- R361: an edge on SYNCI: timestamped and counted; in mode 2 at the root lantern it marks a whole second of network
time. An edge more than 100 ppm from 1 s after the previous one is ignored and recorded. -/
def Mod.synciEdge (m : Mod) : Mod :=
  if m.n E.SYNCI_MODE 0 = 0 then m
  else
    let prev := m.net.synciAt
    let m := (m.modNet (fun x => { x with synciAt := some m.tb })).inc E.SYNCI_CNT 0
    let m := m.capTrigger 0x100 m.tb
    if m.n E.SYNCI_MODE 0 = 2 ∧ m.leadsRoot then
      let off := match prev with
        | some t => decide (t + sec 1 + 10000 < m.tb) || decide (m.tb + 10000 < t + sec 1)
        | none => false
      if off then m.noteAt E.SYNCI_CNT 0
      else
        let s : Rat := (roundR (m.ntimeNs / 1000000000) : Int) * 1000000000
        ((m.steer s).timeHeard).setBit E.NET_FLAGS 0 7 true
    else m

def execSynciEdge (t : Nat) (s : State) : Host.Outcome State Fault Refusal := execM t Mod.synciEdge s

/-- R361: the time that SYNCO follows, ns: network time, or local TB without it. -/
def Mod.syncoNs (m : Mod) : Rat := if m.ntimeOk then m.ntimeNs else 10 * m.tb

/-- R361: SYNCO pulses within 20 ns of each whole multiple of its period. -/
def Mod.syncoPulse (m : Mod) : Mod :=
  let per : Rat := m.n E.SYNCO_PER 0 * 1000000
  let d := m.syncoNs - per * ((m.syncoNs / per + 1 / 2).floor : Int)
  if m.b E.SYNCO_EN 0 && decide (absR d ≤ 20) then m.emit .synco else m

def execSyncoPulse (t : Nat) (s : State) : Host.Outcome State Fault Refusal := execM t Mod.syncoPulse s

/-! ## Numbering (R343) -/

/-- R343: the number the lantern gives a station: its present one, its committed one where free, the lowest free one. -/
def Mod.numberFor (m : Mod) (mac want : Nat) : Option Nat :=
  match m.net.stns.find? (fun s => s.mac == mac && s.stn != 0xFF) with
  | some s => some s.stn
  | none =>
    let free := fun (n : Nat) => n != m.leadStn && !m.net.stns.any (fun s => s.stn == n)
    if want < 128 ∧ free want then some want else (List.range 128).find? free

/-- A station's record is kept by its MAC-48. -/
def Mod.keepStn (m : Mod) (x : StnRec) (n : Nat) : Mod :=
  let new : Stn :=
    match m.net.stns.find? (fun s => s.mac == x.mac) with
    | some s => { s with stn := n, lprio := x.lprio, seg := x.seg, mode := x.shareMode, imdEn := x.imdEn, imdGsys := x.imdGsys }
    | none => { stn := n, mac := x.mac, lprio := x.lprio, seg := x.seg, mode := x.shareMode, imdEn := x.imdEn, imdGsys := x.imdGsys }
  m.modNet (fun y => { y with stns := y.stns.filter (fun s => s.mac != x.mac) ++ [new] })

/-- R343: a station record: the lantern answers with STN_ASSIGN; another station keeps it against an election. -/
def Mod.stnRecRx (h : Hdr) (x : StnRec) (m : Mod) : Mod :=
  match m.frameCheckBy h 0x33 none (originator h (0x10000 + x.mac)) with
  | (m, true) =>
    if m.leads then
      match m.numberFor x.mac x.stn with
      | some n =>
        let m := m.keepStn x n
        let m := m.modNet (fun y => { y with lead := y.lead.filter (fun r =>
          !(r.idx == 0xFF && r.holder == n && (r.seg != x.seg || x.shareMode != 2))) })
        m.originate 3 0x34 0xFFFF (leBytes 6 x.mac ++ [n, m.leadRing])
      | none => m
    else m.keepStn x ((m.net.stns.find? (fun s => s.mac == x.mac)).map (·.stn) |>.getD 0xFF)
  | (m, false) => m

def execStnRecRx (t : Nat) (h : Hdr) (x : StnRec) (s : State) : Host.Outcome State Fault Refusal :=
  execM t (Mod.stnRecRx h x) s

/-- R343, R265: a station takes its numbers and claims its committed role; other stations note the number. A ring's number, with
station 0xFF, passes down through the heads to the ring's lantern. -/
def Mod.stnAssignRx (h : Hdr) (mac stn ring : Nat) (m : Mod) : Mod :=
  m.onFrame h 0x34 none (fun m =>
    let par := m.fromParent h none
    if mac = Config.mac48 ∧ m.isLantern ∧ !par then
      ((m.takeNumber ring m.net.stn).setBit E.NET_FLAGS 0 8 false).modNet (fun x => { x with confirmed := true })
    else if mac = Config.mac48 ∧ m.parentLantern ∧ par ∧ stn = 0xFF then
      m.setN E.NET_ADDR_P 0 (nodeAddr ring (m.n E.NET_ADDR_P 0 % 128))
    else if stn = 0xFF then m.when (par && m.isHead) (·.originateIn false 3 0x34 0xFFFF (leBytes 6 mac ++ [stn, ring]))
    else if !(h.lant && h.gen == (if par then m.net.parLgen else m.n E.LGEN 0)) then m
    else if mac ≠ Config.mac48 then
      m.modNet (fun x => { x with stns := x.stns.map (fun s => if s.mac = mac then { s with stn := stn } else s) })
    else if par then m.when m.isHead (·.setN E.NET_ADDR_P 0 (nodeAddr ring stn))
    else
      let m := ((m.takeNumber ring stn).setBit E.NET_FLAGS 0 8 (ring == 0xFF)).setBit E.NET_FLAGS 0 9 false
      m.modNet (fun x => { x with claimOpen := m.n E.SHARE_ROLE 0 != 3 && m.n E.SHARE_IDX 0 != 0xFF }))

def execStnAssignRx (t : Nat) (h : Hdr) (mac stn ring : Nat) (s : State) : Host.Outcome State Fault Refusal :=
  execM t (Mod.stnAssignRx h mac stn ring) s

/-! ## Summaries of the tree (R368, R273, R371) -/

/-- R302: the candidates of the ring that the module leads: galvanic system and node address. -/
def Mod.ringCands (m : Mod) : List (Nat × Nat) :=
  (m.net.stns.filter (fun s => s.imdEn && s.imdGsys != 0 && s.stn != 0xFF && s.slot.any (fun x => x.imdCand && !x.fenced))).map
    (fun s => (s.imdGsys, nodeAddr m.leadRing s.stn)) ++
  (if m.isLantern && m.imdShared && !m.fenced then [(m.n E.IMD_GSYS 0, m.n E.NET_ADDR 0)] else [])

/-- The depth below the ring that the module leads. -/
def Mod.depthBelow (m : Mod) : Nat := m.net.kids.foldl (fun a k => max a (k.depthBelow + 1)) 0

/-- The SEG_ID values of the subtree. -/
def Mod.treeSegs (m : Mod) : List Nat := (m.ringSegs ++ m.net.kids.flatMap (·.segs)).eraseDups

/-- R341, R368: the rings below the one that the module leads, each at its level. -/
def Mod.treeRings (m : Mod) (kids : List RingSum) : List RingEnt :=
  kids.flatMap (fun k => { ring := k.ring, mac := k.mac, head := k.head, depth := 1, parent := m.leadRing } ::
    k.tree.map (fun e => { e with depth := e.depth + 1 }))

/-- R368: the ring's summary, merged with its child rings'; its head's MAC-48 is that of the station whose TIME_RELAY comes (assumption
log 100). -/
def Mod.summary (m : Mod) : RingSum :=
  { mac := Config.mac48, head := ((m.net.headStn.bind m.stnOf).map (·.mac)).getD 0, tree := m.treeRings m.net.kids,
    ring := m.leadRing, depthBelow := m.depthBelow, rings := (m.leadRing :: m.net.kids.flatMap (fun k => k.ring :: k.rings)).eraseDups,
    segs := m.treeSegs, imd := m.ringCands ++ m.net.kids.flatMap (·.imd) }

/-- R368: a 16-byte bit map of ring numbers. -/
def ringMap (rs : List Nat) : List Nat :=
  (List.range 16).map (fun b => ((List.range 8).filter (fun k => rs.contains (8 * b + k))).foldl (fun a k => a + 2 ^ k) 0)

/-- R341, R343: a ring of the summary, as its bytes. -/
def ringEntBytes (e : RingEnt) : List Nat := [e.ring] ++ leBytes 6 e.mac ++ leBytes 6 e.head ++ [e.depth, e.parent]

/-- R368: a lantern below the root sends its summary up through its head. No rule gives its layout, and R341 and R343 need the MAC-48
of lanterns and heads there (assumption log 100). -/
def Mod.ringSumTx (m : Mod) : Mod :=
  if m.leads && !m.leadsRoot then
    let s := m.summary
    m.originate 3 0x35 0xFFFF ([s.ring, s.depthBelow] ++ ringMap s.rings ++ s.segs.flatMap (leBytes 2) ++
      s.imd.flatMap (fun x => leBytes 2 x.1 ++ leBytes 2 x.2) ++ leBytes 6 s.mac ++ leBytes 6 s.head ++ s.tree.flatMap ringEntBytes)
  else m

def execRingSumTx (t : Nat) (s : State) : Host.Outcome State Fault Refusal := execM t Mod.ringSumTx s

/-- R343: the number of a child ring is told to its lantern, through its head. -/
def Mod.confirmRing (m : Mod) (mac ring : Nat) : Mod := m.originate 3 0x34 0xFFFF (leBytes 6 mac ++ [0xFF, ring])

/-- R343: the ring nearer the root goes first, then the one whose lantern has the lower MAC-48. -/
def ringBefore (a b : RingEnt) : Bool := decide (a.depth < b.depth) || (a.depth == b.depth && decide (a.mac < b.mac))

def putRing (e : RingEnt) : List RingEnt → List RingEnt
  | [] => [e]
  | x :: xs => if ringBefore e x then e :: x :: xs else x :: putRing e xs

/-- R343: the numbers of the rings in their order of precedence, as lanterns' MAC-48 and number: a ring keeps the number that none
before it holds; another receives, or keeps, a free one: the lowest. `given` is what it has been told before. -/
def settleRings (given : List (Nat × Nat)) (taken : List Nat) : List RingEnt → List (Nat × Nat)
  | [] => []
  | e :: es =>
    let free := fun (r : Nat) => decide (r < 128) && !taken.contains r
    let told := ((given.find? (·.1 == e.mac)).map (·.2)).getD 0xFF
    let r := if free e.ring then e.ring
      else if free told && es.all (fun x => x.ring != told) then told
      else ((List.range 128).find? (fun r => free r && es.all (fun x => x.ring != r))).getD 0xFF
    (e.mac, r) :: settleRings given (r :: taken) es

/-- R343: the root lantern's numbers for the rings of its tree, by their lanterns' MAC-48. -/
def Mod.ringNumbers (m : Mod) (rings : List RingEnt) : List (Nat × Nat) :=
  settleRings m.net.given [m.leadRing] (rings.foldl (fun l e => putRing e l) [])

/-- R343: the root lantern settles the numbers of all rings, and tells each lantern its own, where it is new or not yet taken. -/
def Mod.settleNumbers (m : Mod) : Mod :=
  let rings := m.treeRings m.net.kids
  let nums := m.ringNumbers rings
  let of := fun (mac r : Nat) => ((nums.find? (·.1 == mac)).map (·.2)).getD r
  let tell := rings.filter (fun e => of e.mac e.ring != e.ring || !m.net.given.contains (e.mac, of e.mac e.ring))
  let m := m.modNet (fun n => { n with given := nums, kids := n.kids.map (fun k => { k with ring := of k.mac k.ring }) })
  tell.foldl (fun (m : Mod) e => m.confirmRing e.mac (of e.mac e.ring)) m

/-- R368, R254, R343: a child ring's summary arrives at the lantern; the root lantern settles the rings' numbers (assumption log
100). -/
def Mod.ringSumRx (h : Hdr) (x : RingSum) (m : Mod) : Mod :=
  if m.endsHere { h with typ := 0x35 } h.via then
    m.onFrame h 0x35 none (fun m =>
      let m := m.modNet (fun n => { n with kids := n.kids.filter (fun k => k.mac != x.mac) ++ [x] })
      let m := m.when m.leadsRoot Mod.settleNumbers
      { m with safe := { m.safe with imdCands := m.summary.imd } })
  else m

def execRingSumRx (t : Nat) (h : Hdr) (x : RingSum) (s : State) : Host.Outcome State Fault Refusal :=
  execM t (Mod.ringSumRx h x) s

/-- R273: D_int at the present settings. -/
def Mod.depthInt (m : Mod) : Nat :=
  (((m.q E.INT_HORIZON 0 * 1000 - m.q E.INT_T_ARM 0 - 50) / 200).floor - 1).toNat

/-- R371: DEPTH_TRIP. -/
def Mod.depthTrip (m : Mod) : Nat := (((m.q E.TRIP_BUDGET 0 * 1000 / 100 - 1) / 2).floor).toNat

/-- R273, R371: the fleet's depth against its two bounds. -/
def Mod.depthFlags (m : Mod) (d di dt : Nat) : Mod :=
  (m.setBit E.SHARE_FLAGS 0 6 (decide (di < d))).setBit E.NET_FLAGS 0 6 (decide (dt < d))

/-- R368, R273, R371: the root lantern reports the fleet's depth. -/
def Mod.fleetStateTx (m : Mod) : Mod :=
  if m.leadsRoot then
    let d := min 127 m.depthBelow
    let m := ((m.setN E.FLEET_DEPTH 0 d).setN E.DEPTH_INT 0 (min 127 m.depthInt)).setN E.DEPTH_TRIP 0 (min 127 m.depthTrip)
    let m := m.depthFlags d m.depthInt m.depthTrip
    m.originate 3 0x37 0xFFFF [d, m.n E.DEPTH_INT 0, m.n E.DEPTH_TRIP 0, 0]
  else m

def execFleetStateTx (t : Nat) (s : State) : Host.Outcome State Fault Refusal := execM t Mod.fleetStateTx s

/-- R368: a station sets DEPTH_OVER and TRIP_OVER, and shows the tree's depth. -/
def Mod.fleetStateRx (h : Hdr) (x : FleetState) (m : Mod) : Mod :=
  m.onFrame h 0x37 none (fun m => (m.setN E.FLEET_DEPTH 0 (min 127 x.depth)).depthFlags x.depth x.depthInt x.depthTrip)

def execFleetStateRx (t : Nat) (h : Hdr) (x : FleetState) (s : State) : Host.Outcome State Fault Refusal :=
  execM t (Mod.fleetStateRx h x) s

/-! ## The insulation monitor on the network (R302, R304) -/

/-- R302: an injection grant arrives. -/
def Mod.imdGrantRx (h : Hdr) (gsys node : Nat) (m : Mod) : Mod := m.onFrame h 0x36 none (Mod.imdGrant gsys node)

def execImdGrantRx (t : Nat) (h : Hdr) (gsys node : Nat) (s : State) : Host.Outcome State Fault Refusal :=
  execM t (Mod.imdGrantRx h gsys node) s

/-- R302: the root lantern grants injection, for each galvanic system, to the candidate with the lowest node address
that it does not leave out of this grant. -/
def Mod.imdGrantTx (m : Mod) : Mod :=
  if m.leadsRoot then
    let c := m.summary.imd
    let m : Mod := { m with safe := { m.safe with imdCands := c } }
    let bar := m.safe.imdBarred
    let m := ((c.map (·.1)).eraseDups).foldl (fun (m : Mod) g =>
      match ((c.filter (fun x => x.1 == g && !bar.contains x.2)).map (·.2)).min? with
      | some a => Mod.imdGrant g a (m.originate 3 0x36 0xFFFF (leBytes 2 g ++ leBytes 2 a))
      | none => m) m
    { m with safe := { m.safe with imdBarred := [] } }
  else m


def execImdGrantTx (t : Nat) (s : State) : Host.Outcome State Fault Refusal := execM t Mod.imdGrantTx s

/-- R304, R302: an alarm of another module of the galvanic system; the root lantern leaves one with IMD_ROLE 3 out of its
next grant. -/
def Mod.imdAlarmRx (h : Hdr) (role : Nat) (m : Mod) : Mod :=
  m.onFrame h 0x23 none (fun m =>
    if m.leadsRoot && role == 3 then { m with safe := { m.safe with imdBarred := h.src :: m.safe.imdBarred.filter (· != h.src) } }
    else m)

def execImdAlarmRx (t : Nat) (h : Hdr) (_gsys _state role : Nat) (_riso : Rat) (s : State) :
    Host.Outcome State Fault Refusal := execM t (Mod.imdAlarmRx h role) s

/-! ## Class 6 losses (R366, R324) -/

/-- R366: a GAP record arrives: losses of stream B count. -/
def Mod.gapRx (h : Hdr) (x : GapMsg) (m : Mod) : Mod :=
  m.onFrame h 0x51 none (fun m =>
    let m := m.inc E.CLS_GAPS 6
    if x.typ = 0x60 ∧ x.orig = m.n E.NET_ADDR 0 then m.streamGap x.lost else m)

def execGapRx (t : Nat) (h : Hdr) (x : GapMsg) (s : State) : Host.Outcome State Fault Refusal := execM t (Mod.gapRx h x) s

/-- R366: 1 ms after the latest drop of a flow, its merged drops are told. -/
def Mod.gapTx (x : GapMsg) (m : Mod) : Mod :=
  match m.net.drops.find? (·.of x.orig x.dst x.typ) with
  | none => m
  | some d => if d.tLast + ms 1 ≤ m.ntime then m.gapSend d else m

def execGapRecordTx (t : Nat) (x : GapMsg) (s : State) : Host.Outcome State Fault Refusal := execM t (Mod.gapTx x) s

end Sys2Proof.Machine
end

