-- ==== Sys2Proof/Machine/FleetCmds.lean ====
section
/-! DEFINITION. Machine/FleetCmds.lean: the commands of the chapter Many Modules as One: sharing reports and the common
trim (R251 to R254), admission (R263), allocation of announced steps (R259, R260), darkness and takeover (R266 to
R269), the ring's role table as it reads (R278), and what its entries' writes do (R262, R263, R272). -/

namespace Sys2Proof.Machine

open Sys2Proof

/-! ## The sharing report (R251, R350) -/

/-- R251: the power that ranks 1 to 3 of R92 can still take, W. -/
def Mod.sinkRoom (m : Mod) : Rat :=
  let one := fun (s : Sink) =>
    match s with
    | .bat => maxR 0 ((m.chgNow m.vBat 200 - m.iPort 4) * m.vBat)
    | .inputs => (((List.range 4).filter (fun k => m.n E.QUAL_STATE k == 5 && m.b E.IN_BIDIR k)).map
        (fun k => maxR 0 (m.q E.IN_IREV k * m.vPort k + minR 0 (m.pPort k)))).sum
    | .brk => maxR 0 (m.brkTop m.vSys - m.reg.brkP)
  (m.sinks.map one).sum

/-- R350: the state bits that a report carries. -/
def Mod.anyLimit (m : Mod) : Bool := (List.range 8).any (fun k => m.n E.PROT_STATE k == 1)
def Mod.atLimit (m : Mod) : Bool :=
  m.b E.FB_ACTIVE 0 || m.b E.FB_ACTIVE 1 || decide (m.q E.P_SYS_LIM 0 ≤ m.pPort 5)

/-- R251: the mean over the latest 1 ms of what `f` takes from a mode tick. -/
def Mod.sysMean (m : Mod) (f : Rat × Rat × Rat → Rat) : Rat := (m.net.sysWin.map f).sum / maxR 1 m.net.sysWin.length

/-- R251: the module's sharing report. -/
def Mod.shareReport (m : Mod) : ShareRpt :=
  { stn := m.net.stn, seg := m.n E.SEG_ID 0, idx := m.n E.SHARE_IDX 0, gen := m.n E.SHARE_GEN 0, path := m.n E.PATH_ACT 0,
    vSys := m.sysMean (·.1), iSys := m.sysMean (·.2.1), pSys := m.sysMean (·.2.2), room := maxR 0 (m.q E.P_SYS_LIM 0 - m.pPort 5),
    sinkRoom := m.sinkRoom, trim := m.q E.LL_TRIM 0, sysVset := m.q E.SYS_VSET 0, fswA := m.q E.STG_FSW 0,
    fswB := m.q E.STG_FSW 1, f := m.q E.DERATE_F 0, ovlA := mkRat (m.stgOf 0).ovl 10000, ovlB := mkRat (m.stgOf 1).ovl 10000,
    switching := m.running 0 || m.running 1, inLimit := m.anyLimit, atLimit := m.atLimit, ntimeOk := m.ntimeOk }

/-- R350: a report's 56 bytes. -/
def ShareRpt_bytes (r : ShareRpt) : List Nat :=
  let f := fun (q : Rat) => leBytes 4 (f32OfRat q)
  leBytes 2 r.seg ++ [r.idx, r.path] ++ f r.vSys ++ f r.iSys ++ f r.pSys ++ f r.room ++ f r.sinkRoom ++ f r.trim ++
  f r.sysVset ++ f r.fswA ++ f r.fswB ++ f r.f ++ f r.ovlA ++ f r.ovlB ++
  [b2n r.switching + 2 * b2n r.inLimit + 4 * b2n r.atLimit + 8 * b2n r.ntimeOk, 0, 0, 0]

/-- A report takes its place among the latest ones. -/
def Mod.keepReport (m : Mod) (r : ShareRpt) : Mod :=
  m.modNet (fun x => { x with rpts := (r, m.tb) :: x.rpts.filter (fun y => !(y.1.seg == r.seg && y.1.idx == r.idx)) })

/-- R251: a MEMBER reports to its lantern; a lantern that is MEMBER keeps its own report, and sends it too, so that its ring's members
see it (R256). -/
def Mod.shareTx (m : Mod) : Mod :=
  if m.n E.SHARE_ROLE 0 = 1 then
    let r := m.shareReport
    let m := m.when m.isLantern (·.keepReport r)
    m.when (m.n E.LANT_ADDR 0 != 0xFFFF && !(m.upLinks 1).isEmpty) (·.originate 3 0x30 (m.n E.LANT_ADDR 0) (ShareRpt_bytes r))
  else m

/-- R367: steps 1 to 4, as a store-and-forward station has checked them. -/
def Mod.soundFrame (m : Mod) (l : Nat) (h : Hdr) : Bool :=
  let key := if m.n E.LINK_ROLE l = 2 then m.keys.par else m.keys.own
  h.fcsOk && headerOk h && h.hops != 0 && (key.isNone || h.key == key)

/-- R251: the lantern takes a member's report, whose station and generation stand in the header (R350). DESIGN CHOICE (assumption
log 98): a member keeps the reports of its own group that pass it, for R256; the manual gives it no other source. -/
def Mod.shareRptRx (h : Hdr) (x : ShareRpt) (m : Mod) : Mod :=
  let x := { x with stn := h.src % 128, gen := h.gen }
  if m.leads && m.addressed h then m.onFrame h 0x30 none (·.keepReport x)
  else m.when (m.n E.SHARE_ROLE 0 == 1 && x.seg == m.n E.SEG_ID 0 && m.soundFrame h.via h && m.keys.own.isSome && h.typ == 0x30 &&
    m.n E.LINK_ROLE h.via == 1 && m.n E.LINK_STATE h.via == 3) (·.keepReport x)

def execShareRptRx (t : Nat) (h : Hdr) (x : ShareRpt) (s : State) : Host.Outcome State Fault Refusal :=
  execM t (Mod.shareRptRx h x) s

/-! ## The common trim (R252 to R254, R257) -/

/-- R252: the reports of a group's members of the latest 3 ms, at their role's generation, of members not dark. -/
def Mod.groupReports (m : Mod) (seg : Nat) : List ShareRpt :=
  (m.net.rpts.filter (fun p => p.1.seg == seg && decide (m.tb < p.2 + ms 3) &&
    (m.leadRole seg p.1.idx).any (fun r => r.gen == p.1.gen && r.state == 0 && r.holder == p.1.stn))).map (·.1)

/-- R254: the members' SYS_VSET differ by more than 0.1 %, or a ring of another branch that a head reports (R368) holds the group's
SEG_ID. -/
def Mod.segConflict (m : Mod) (seg : Nat) : Bool :=
  let vs := (m.groupReports seg).map (·.sysVset)
  let lo := vs.foldl minR (vs.headD 0)
  let hi := vs.foldl maxR 0
  m.foreignSegs.contains seg || (!vs.isEmpty && decide (lo / 1000 < hi - lo))

def sortRats : List Rat → List Rat
  | [] => []
  | x :: xs => ins x (sortRats xs)
where
  ins (x : Rat) : List Rat → List Rat
    | [] => [x]
    | y :: ys => if x ≤ y then x :: y :: ys else y :: ins x ys

/-- The median of the LL_TRIM values first reported to a new lantern (R252). -/
def median (l : List Rat) : Rat :=
  let s := sortRats l
  let n := s.length
  if n = 0 then 0
  else if n % 2 = 1 then (s[n / 2]?).getD 0
  else ((s[n / 2 - 1]?).getD 0 + (s[n / 2]?).getD 0) / 2

def Mod.groupTrim (m : Mod) (seg : Nat) : Option Rat := (m.net.trims.find? (·.1 == seg)).map (·.2)
def Mod.setTrimOf (m : Mod) (seg : Nat) (v : Rat) : Mod :=
  m.modNet (fun x => { x with trims := (seg, v) :: x.trims.filter (·.1 != seg) })

/-- R257: the eligible roles of a group, rising. -/
def Mod.eligibleOf (m : Mod) (seg : Nat) : List Nat :=
  let ok := (m.groupReports seg).filter (fun r => r.switching && !r.inLimit &&
    decide ((if r.path = 6 ∨ r.path = 7 then r.ovlB else r.ovlA) ≤ 0))
  ((m.leadGroup seg).map (·.idx)).filter (fun i => ok.any (fun r => r.idx == i))

/-- R350: TRIM's content. -/
def Mod.trimOf (m : Mod) (seg : Nat) (v : Rat) : Trim :=
  let g := m.leadGroup seg
  let hi := g.foldl (fun a r => max a r.idx) 0
  { seg := seg, high := hi, trim := v, eligible := m.eligibleOf seg,
    gens := (List.range (hi + 1)).map (fun i => ((g.find? (fun r => r.idx == i)).map (·.gen)).getD 0) }

def Trim_bytes (x : Trim) : List Nat :=
  leBytes 2 x.seg ++ [x.high, 0] ++ leBytes 4 (f32OfRat x.trim) ++ ringMap x.eligible ++ x.gens.flatMap (leBytes 2)

/-- R253, R270: a trim for the own group is taken as the role's generation says. -/
def Mod.trimTake (m : Mod) (x : Trim) : Mod :=
  let i := m.n E.SHARE_IDX 0
  let g := m.n E.SHARE_GEN 0
  let there := (x.gens[i]?).getD 0
  if m.n E.SHARE_ROLE 0 ≠ 1 ∨ x.seg ≠ m.n E.SEG_ID 0 then m
  else if there ≠ 0 ∧ newer there g then m.fenceFound 1 there
  else if there ≠ g then m
  else ((m.modNet (fun n => { n with trimNext := some x.trim, eligible := x.eligible })).trimWait).frShow

/-- R253: a trim arrives from the lantern of the ring at the current lantern generation. -/
def Mod.trimRx (h : Hdr) (x : Trim) (m : Mod) : Mod :=
  m.onFrame h 0x31 none (fun m => if m.fromLantern h then m.trimTake x else m)

def execTrimRx (t : Nat) (h : Hdr) (x : Trim) (s : State) : Host.Outcome State Fault Refusal := execM t (Mod.trimRx h x) s

/-- R253: no trim for TRIM_HOLD: LL_TRIM ramps to 0 from here. -/
def Mod.trimHoldEnd (m : Mod) : Mod :=
  if m.due .trimHold then (m.disarm .trimHold).setBit E.SHARE_FLAGS 0 1 true else m

def execTrimHoldExpiry (t : Nat) (s : State) : Host.Outcome State Fault Refusal := execM t Mod.trimHoldEnd s

/-- R252, R350: a group's trim leaves, and the lantern's own module takes it. -/
def Mod.sendTrim (m : Mod) (seg : Nat) : Mod :=
  let x := m.trimOf seg ((m.groupTrim seg).getD 0)
  (m.originate 3 0x31 0xFFFF (Trim_bytes x)).when m.isLantern (·.trimTake x)

/-- R254: a group's conflict begins or ends. Its members learn of it with the ring's beacons. -/
def Mod.conflictTo (m : Mod) (seg : Nat) (bad : Bool) : Mod :=
  m.modNet (fun n => { n with conflicts := if bad then seg :: n.conflicts.filter (· != seg) else n.conflicts.filter (· != seg) })

/-- R252: one group's trim of this millisecond. During a conflict it is frozen at 0, and told so (R254). DESIGN CHOICE (assumption log
104): where the members' SYS_VSET differ within 0.1 %, that of the group is their mean. -/
def Mod.trimGroup (m : Mod) (seg : Nat) : Mod :=
  let all := m.groupReports seg
  let rep := all.filter (·.switching)
  let m := m.when ((m.groupTrim seg).isNone && !all.isEmpty) (·.setTrimOf seg (median (all.map (·.trim))))
  let bad := m.segConflict seg
  let m := m.conflictTo seg bad
  if bad then (m.setTrimOf seg 0).sendTrim seg
  else if !m.b E.TRIM_EN 0 || rep.isEmpty then m
  else
    let vset := (rep.map (·.sysVset)).sum / rep.length
    let e := vset - (rep.map (·.vSys)).sum / rep.length
    if decide (0 < e) && rep.all (·.atLimit) then m
    else
      let t0 := (m.groupTrim seg).getD 0
      let slew := m.q E.TRIM_SLEW 0
      let t := clampR (t0 - slew) (t0 + slew) (t0 + m.q E.TRIM_KI 0 * e / 1000)
      let top := m.q E.TRIM_MAX 0 / 100 * vset
      (m.setTrimOf seg (grid (clampR (-top) top t))).sendTrim seg

/-! ## Admission and offers (R263, R267, R278) -/

/-- R263: the lowest free index of a group. -/
def Mod.freeIdx (m : Mod) (seg : Nat) : Option Nat :=
  (List.range 128).find? (fun i => !(m.leadGroup seg).any (fun r => r.idx == i))

/-- R263, R248: one station without a role is admitted: MEMBER at the lowest free index, MOORING, or not, where the ring
holds 128 roles. -/
def Mod.letIn (m : Mod) (n seg mode : Nat) : Mod :=
  let plain : RoleRec := { seg := seg, idx := 0xFF, holder := n, gen := 0, prev := 0xFF, state := 3 }
  if seg = 0 ∨ mode = 0 ∨ (m.heldBy n).isSome then m
  else if mode = 2 then
    if m.net.lead.any (fun r => sameRole r plain && r.state == 3) then m else m.leadPut plain
  else if 128 ≤ m.leadRoles.length then
    if m.net.lead.any (fun r => sameRole r plain && r.state == 5) then m else m.leadPut { plain with state := 5 }
  else
    match m.freeIdx seg with
    | some i => m.leadPut { plain with idx := i, gen := 1, state := 0 }
    | none => m

/-- The lantern's own module as a station: what it would put into its flash slot. -/
def Mod.selfSlot (m : Mod) : Slot := m.flashSlot m.net.stn false

/-- R263: the stations that report no role, are not FENCED and have a SEG_ID. -/
def Mod.admission (m : Mod) : Mod :=
  let m := m.net.stns.foldl (fun (m : Mod) s =>
    match s.slot with
    | some x => if x.idx = 0xFF ∧ !x.fenced ∧ !s.dark ∧ s.misses = 0 then m.letIn s.stn s.seg s.mode else m
    | none => m) m
  m.when (m.isLantern && !(m.upLinks 1).isEmpty && m.n E.SHARE_IDX 0 == 0xFF && m.n E.SHARE_ROLE 0 == 0)
    (·.letIn m.net.stn (m.n E.SEG_ID 0) (m.n E.SHARE_MODE 0))

/-- R267: F is above 0 and SYS neither TRIPPED nor LATCHED. -/
def Mod.mayTake (m : Mod) : Bool := decide (0 < m.q E.DERATE_F 0) && m.n E.PROT_STATE 5 ≤ 1

/-- R267: the MOORING station of a group with the lowest number that may take a role. DESIGN CHOICE (assumption log 98): no frame
tells the lantern of another station's F and SYS, so such a station lets the offer lapse (see `Mod.takeRx`), and the lantern
passes over one that did while there is another. -/
def Mod.spareFor (m : Mod) (seg : Nat) : Option Nat :=
  let others := (m.net.stns.filter (fun s => s.seg == seg && !s.dark && s.slot.any (fun x => x.mooring && !x.fenced))).map (·.stn)
  let self := if m.isLantern && m.mooring && m.n E.SEG_ID 0 == seg && m.mayTake then [m.net.stn] else []
  let all := others ++ self
  ((all.filter (fun n => !m.net.lapsed.contains n)).min?).orElse (fun _ => all.min?)

/-- R267: the first dark role, by SEG_ID and SHARE_IDX, for which a spare stands by is offered at g + 1. -/
def Mod.takeOffer (m : Mod) : Mod :=
  if !m.b E.TAKE_EN 0 || m.net.offer.isSome then m
  else
    match (m.leadRoles.filter (fun r => r.state == 1)).find? (fun r => (m.spareFor r.seg).isSome) with
    | none => m
    | some r =>
      match m.spareFor r.seg with
      | none => m
      | some n =>
        let g := nextGen r.gen
        let m := m.leadPut { r with state := 2 }
        let m := m.modNet (fun x => { x with offer := some { seg := r.seg, idx := r.idx, target := n, gen := g, since := m.tb } })
        let m := m.when (m.isLantern && n == m.net.stn)
          (·.modNet (fun x => { x with takeFor := some { seg := r.seg, idx := r.idx, target := n, gen := g } }))
        m.originate 3 0x32 0xFFFF (leBytes 2 r.seg ++ [r.idx, n] ++ leBytes 2 g)

/-- R252: the secondary-control tick: the module's own report, and at the lantern every group's trim, admission and the
offer of a dark role. -/
def Mod.secondary (m : Mod) : Mod :=
  let m := m.shareTx
  if m.leads then
    let m := m.ringSegs.foldl Mod.trimGroup m
    (m.admission).takeOffer
  else m

def execSecondaryControlTick (t : Nat) (s : State) : Host.Outcome State Fault Refusal := execM t Mod.secondary s

/-! ## Allocation (R259, R260) -/

/-- R260: the members among whom a step is divided, with the room each has. -/
def Mod.allocRooms (m : Mod) (seg : Nat) (dp : Rat) : List (Nat × Rat) :=
  ((m.groupReports seg).filter (·.ntimeOk)).map (fun r => (r.idx, maxR 0 (if 0 < dp then r.room else r.sinkRoom)))

/-- R349: ALLOC frames of at most 21 entries; the first argument bounds them. -/
def allocFrames : Nat → List (Nat × Rat) → List (List (Nat × Rat))
  | 0, _ => []
  | n + 1, l => if l.isEmpty then [] else l.take 21 :: allocFrames n (l.drop 21)

/-- R259, R260: the lantern divides an announced step, or discards it. -/
def Mod.allocate (m : Mod) (x : IntentMsg) : Mod :=
  let now := m.ntime
  if (m.leadGroup x.seg).isEmpty || decide (now + ticksMs (m.q E.INT_HORIZON 0) < x.tArr) ||
      decide (x.tArr + ticksUs (m.q E.INT_WIN 0) ≤ now) then m.inc E.ALLOC_DROP 0
  else
    let rooms := m.allocRooms x.seg x.dp
    let need := minR (absR x.dp) ((rooms.map (·.2)).sum)
    let shares := (waterFill (rooms.length + 1) need (rooms.map (fun r => (r.1, (1 : Rat), r.2)))).filter (fun s => decide (0 < s.2))
    let signed := shares.map (fun s => (s.1, if x.dp < 0 then -s.2 else s.2))
    let m := (allocFrames 7 signed).foldl (fun (m : Mod) es =>
      m.originate 1 0x11 0xFFFF (leBytes 2 x.seg ++ leBytes 2 x.num ++ leBytes 2 x.orig ++ [x.conf, es.length] ++ leBytes 8 x.tArr ++
        es.flatMap (fun e => e.1 :: leBytes 2 (ofSigned 16 (roundR (e.2 / 10)))))) (m.through 30 64 x.orig x.num)
    let m := (m.inc E.ALLOC_CNT 0).setQ E.ALLOC_SHORT 0 (absR x.dp - (shares.map (·.2)).sum)
    if m.isLantern ∧ m.n E.SHARE_ROLE 0 = 1 ∧ m.n E.SEG_ID 0 = x.seg then
      match signed.find? (fun s => s.1 == m.n E.SHARE_IDX 0) with
      | some s => Mod.intentRx { orig := x.orig, num := x.num, dpm := 10 * roundR (s.2 / 10), tArr := x.tArr, conf := x.conf } m
      | none => m
    else m

/-- R259, R349: an intent arrives: at a lantern for a group of its ring, or at the SOLO module it is addressed to. -/
def Mod.intentMsg (m : Mod) (h : Hdr) (x : IntentMsg) : Mod :=
  if h.scope = 0 ∧ x.seg = 0 then
    if m.n E.SHARE_ROLE 0 = 0 then Mod.intentRx { orig := x.orig, num := x.num, dpm := x.dp, tArr := x.tArr, conf := x.conf } m else m
  else if m.leads then m.allocate x else m

def Mod.intentAllocate (h : Hdr) (x : IntentMsg) (m : Mod) : Mod := m.onFrame h 0x10 none (fun m => m.intentMsg h x)

def execIntentAllocate (t : Nat) (h : Hdr) (x : IntentMsg) (s : State) : Host.Outcome State Fault Refusal :=
  execM t (Mod.intentAllocate h x) s

/-! ## Dark and takeover (R266, R267, R269) -/

/-- R266: DARK_N misses in succession: the station is dark, and so is its role; an offer to it lapses. -/
def Mod.darkDeclare (n : Nat) (m : Mod) : Mod :=
  match m.stnOf n with
  | some s =>
    if m.leads && !s.dark && decide (m.n E.DARK_N 0 ≤ s.misses) then
      let m := (m.mapStn n (fun y => { y with dark := true })).inc E.DARK_CNT 0
      let m := match m.heldBy n with
        | some r => m.leadPut { r with state := 1 }
        | none => m
      match m.net.offer with
      | some o => if o.target = n then
          let m := match m.leadRole o.seg o.idx with
            | some r => m.leadPut { r with state := 1 }
            | none => m
          m.modNet (fun x => { x with offer := none }) else m
      | none => m
    else m
  | none => m

def execDarkDeclare (t : Nat) (stn : Nat) (s : State) : Host.Outcome State Fault Refusal := execM t (Mod.darkDeclare stn) s

/-- R267: a MOORING spare with F above 0 and SYS neither TRIPPED nor LATCHED notes the offer, which its next flash response
acknowledges. -/
def Mod.takeRx (h : Hdr) (x : TakeMsg) (m : Mod) : Mod :=
  m.onFrame h 0x32 none (fun m =>
    if m.fromLantern h && m.numbered && x.target == m.net.stn && m.mooring && m.mayTake && x.seg == m.n E.SEG_ID 0 then
      m.modNet (fun n => { n with takeFor := some x })
    else m)

def execTakeRx (t : Nat) (h : Hdr) (x : TakeMsg) (s : State) : Host.Outcome State Fault Refusal := execM t (Mod.takeRx h x) s

/-- R267: an offer not acknowledged within 3 beacon cycles lapses; the generation stays. -/
def Mod.takeLapse (m : Mod) : Mod :=
  match m.net.offer with
  | some o =>
    if o.since + 30000 ≤ m.tb then
      let m := match m.leadRole o.seg o.idx with
        | some r => m.leadPut { r with state := 1 }
        | none => m
      m.modNet (fun x => { x with offer := none, lapsed := o.target :: x.lapsed.filter (· != o.target)
                                  takeFor := if o.target = m.net.stn then none else x.takeFor })
    else m
  | none => m

def execTakeOfferLapse (t : Nat) (s : State) : Host.Outcome State Fault Refusal := execM t Mod.takeLapse s

/-! ## What the entries' writes do -/

/-- R262: the level of a ring-wide command: that of R77 for the same value in ENV_REQ (SAFESTOP is L0). -/
def ringEnvLevel (v : Nat) : Nat := if v = 8 then 0 else 1

/-- R277: the place that ROLE_DROP names. -/
def dropPlace (v : Nat) : Nat × Nat := (v % 65536, v / 65536 % 128)

/-- R263: the named role is not in the table; it is held by a member that is not dark. -/
def Mod.dropUnknown (m : Mod) (v : Nat) : Bool := m.leads && (m.leadRole (dropPlace v).1 (dropPlace v).2).isNone
def Mod.dropLive (m : Mod) (v : Nat) : Bool :=
  m.leads && (m.leadRole (dropPlace v).1 (dropPlace v).2).any (fun r => r.state != 1 && r.state != 2)

/-- R263, R269: a dark role is deleted; an offer of it is withdrawn. -/
def Mod.roleDrop (m : Mod) (v : Nat) : Mod :=
  if m.leads then
    let p := dropPlace v
    (m.leadDrop p.1 p.2).modNet (fun x => { x with offer := x.offer.filter (fun o => !(o.seg == p.1 && o.idx == p.2)) })
  else m

/-- R272: the claim is cleared and SHARE_MODE is 2, both committed; the module waits for its admission as MOORING. -/
def Mod.shareReadmit (m : Mod) : Mod :=
  let m := (m.setRole 0 0xFF 0).commitN E.SHARE_MODE 0 2
  let m := (m.setN E.FENCE_CAUSE 0 0).modNet (fun x => { x with claimOpen := false })
  (m.when (!(m.upLinks 2).isEmpty) (·.setN E.NET_ROLE 0 2)).sendStnRec

/-- R263, R272: a member's role is released by SHARE_MODE 0 or another SEG_ID, a spare's by any other mode. -/
def Mod.roleRelease (m : Mod) (seg mode : Nat) : Mod :=
  let role := m.n E.SHARE_ROLE 0
  let other := seg != m.n E.SEG_ID 0
  if (role = 1 ∧ (other ∨ mode = 0)) ∨ (role = 2 ∧ (other ∨ mode ≠ 2)) ∨ (role = 0 ∧ m.n E.SHARE_IDX 0 ≠ 0xFF ∧ (other ∨ mode = 0)) then
    let m := m.when (m.isLantern && role == 1) (·.leadDrop (m.n E.SEG_ID 0) (m.n E.SHARE_IDX 0))
    (m.setRole 0 0xFF 0).modNet (fun x => { x with claimOpen := false, takeFor := none, roleNext := none })
  else m

/-- R278: one record of RING_TABLE. -/
def Mod.tableRecord (m : Mod) (r : RoleRec) : List Nat :=
  let rep := m.net.rpts.find? (fun p => p.1.seg == r.seg && p.1.idx == r.idx && r.idx != 0xFF)
  let e := m.eligibleOf r.seg
  let first := e[m.net.cycle % e.length]? == some r.idx && !e.isEmpty && r.idx != 0xFF
  let late := r.idx != 0xFF && r.state == 0 && !rep.any (fun p => decide (m.tb < p.2 + ms 3))
  leBytes 2 r.seg ++ [r.idx, r.holder] ++ leBytes 2 r.gen ++ [r.state, b2n first + 2 * b2n (e.contains r.idx && r.idx != 0xFF) + 4 * b2n late] ++
    leBytes 4 (f32OfRat ((rep.map (·.1.pSys)).getD 0))

/-- R278: at the lantern, the stations that hold no role and have no record. DESIGN CHOICE (assumption log 98): one that is neither
MOORING nor FENCED, SOLO included, reads as waiting for admission. -/
def Mod.restRecords (m : Mod) : List RoleRec :=
  let free := fun (n : Nat) => m.net.lead.all (fun r => r.holder != n)
  let rec_ := fun (seg : Nat) (x : Slot) =>
    ({ seg := seg, idx := 0xFF, holder := x.stn, gen := 0, prev := 0xFF
       state := if x.fenced then 4 else if x.mooring then 3 else 5 } : RoleRec)
  let others := (m.net.stns.filter (fun s => !s.dark && s.stn != m.net.stn && free s.stn)).map (fun s =>
    rec_ s.seg { s.slot.getD (m.flashSlot s.stn true) with
      stn := s.stn, fenced := s.slot.any (·.fenced), mooring := s.slot.any (·.mooring) })
  others ++ (if m.isLantern && free m.net.stn then [rec_ (m.n E.SEG_ID 0) m.selfSlot] else [])

/-- R278: RING_TABLE, of the ring the module leads, or of its own ring as the beacons show it. -/
def Mod.ringTable (m : Mod) : List Nat :=
  let l := (if m.leads then m.net.lead ++ m.restRecords else m.net.roles).take 256
  leBytes 8 m.ntime ++ [l.length % 256, 0, 0, 0, 0, 0, 0, 0] ++ l.flatMap m.tableRecord

end Sys2Proof.Machine
end

