-- ==== Sys2Proof/Machine/ConfigOps.lean ====
section
/-! DEFINITION. Machine/ConfigOps.lean: what follows at once from a configuration entry: the entries that show it, and
what a change of it sets going. A write, a commit, a value put back by a failed journal record and a start all use it. -/

namespace Sys2Proof.Machine

open Sys2Proof

/-- R301, R302: the injector's role as IMD_EN and IMD_GSYS give it; a module of a shared system without network time records
that. -/
def Mod.imdRefresh (m : Mod) : Mod :=
  if !m.b E.IMD_EN 0 then m.imdStop 0
  else if m.n E.IMD_GSYS 0 = 0 then m.imdStart
  else
    let m := (m.when (m.n E.IMD_ROLE 0 == 1 && !m.armed .imdGrant) (·.imdStop 0)).imdOffer
    m.when (!m.ntimeOk) (·.noteAt E.IMD_ROLE 0)

/-- R297: ESTOP_STATE as ESTOP_EN gives it; a loop that is not read causes nothing. -/
def Mod.estopRefresh (m : Mod) : Mod :=
  if m.b E.ESTOP_EN 0 then m.when (m.n E.ESTOP_STATE 0 == 2) (·.setN E.ESTOP_STATE 0 0)
  else
    let m : Mod := { m with safe := { m.safe with estopOpen := false, estopFails := 0 } }
    (m.setN E.ESTOP_STATE 0 2).when (m.bitOf E.SAFE_FORCE_SRC 0 0) (·.unforce 0)

/-- R298: ILK_STATE as ILK_EN gives it. -/
def Mod.ilkRefresh (m : Mod) : Mod :=
  if m.b E.ILK_EN 0 then m.when (m.n E.ILK_STATE 0 == 2) (·.setN E.ILK_STATE 0 0)
  else
    let m : Mod := { m with safe := { m.safe with ilkOpen := false } }
    (m.setN E.ILK_STATE 0 2).when (m.bitOf E.SAFE_FORCE_SRC 0 1) (·.unforce 1)

/-- R184: the state of a sense pair as SNS_EN gives it: 0, or 2 at the start of remote sensing. -/
def Mod.senseRefresh (m : Mod) (j : Nat) : Mod :=
  if m.b E.SNS_EN j then m.when (m.n E.SNS_STATE j == 0) (·.setN E.SNS_STATE j 2)
  else
    let m : Mod := { m.setN E.SNS_STATE j 0 with sns := setAt {} m.sns j {} }
    if m.sns.any (·.bad) then m else m.lower 5 4

/-- R337, R338: a link without a role is off; one that is given a role looks for its partner. -/
def Mod.linkRefresh (m : Mod) (l : Nat) : Mod :=
  if m.n E.LINK_ROLE l = 0 then
    ((m.setN E.LINK_STATE l 0).modLink l (fun x => { x with phy := false })).ringShape
  else m.when (m.n E.LINK_STATE l == 0) (·.setN E.LINK_STATE l 1)

/-- R319: CAP_LEN as CAP_MASK gives it. -/
def Mod.capRefresh (m : Mod) : Mod := m.setN E.CAP_LEN 0 (capLen (m.n E.CAP_MASK 0))

/-- R299: CONT goes off where something holds it off. -/
def Mod.contRefresh (m : Mod) : Mod := m.when m.contHeld Mod.contOff

/-- R52: the terminations that CAN_TERM switches in. -/
def Mod.termRefresh (m : Mod) : Mod :=
  { m with can := { m.can with term := (List.range 2).map (fun u => m.b E.CAN_TERM u) } }

/-- The entries that show configuration, as a start finds it. -/
def Mod.refreshAll (m : Mod) : Mod :=
  let m := (m.estopRefresh).ilkRefresh
  let m := m.each 2 (fun j m => m.senseRefresh j)
  let m := m.each 4 (fun l m => m.linkRefresh l)
  let m := (m.each 5 (fun k m => m.setN E.QUAL_DLY_EFF k (m.n E.QUAL_DLY k))).termRefresh
  (m.when (m.n E.CAP_STATE 0 == 0) Mod.capRefresh).imdRefresh

/-- What a changed entry brings at once, by the place of its family's first instance: the change takes the instance and the
value before. -/
abbrev Follower := Nat × (Nat → Val → Mod → Mod)

def followersA : List Follower :=
  [(E.QUAL_DLY.key 0, fun k old m => m.when (m.n E.QUAL_DLY_EFF k == old.toNat) (·.setN E.QUAL_DLY_EFF k (m.n E.QUAL_DLY k))),
   (E.SNS_EN.key 0, fun j _ m => m.senseRefresh j),
   (E.BMS_SRC.key 0, fun _ old m => m.when (m.n E.BMS_SRC 0 != old.toNat) Mod.bmsRestart),
   (E.BMS_STALE_T.key 0, fun _ _ m => m.bmsSettle),
   (E.BMS_GRACE_T.key 0, fun _ _ m => m.bmsSettle),
   (E.CAN_TERM.key 0, fun _ _ m => m.termRefresh),
   (E.CAP_MASK.key 0, fun _ _ m => m.capRefresh),
   (E.STRB_EN.key 0, fun _ old m => if old.toNat = 0 then { m with cap := { m.cap with strB := 0, recB := { base := m.nextSample } } }
      else m),
   (E.STRB_DEC.key 0, fun _ _ m => { m with cap := { m.cap with recB := { base := m.nextSample } } }),
   (E.STRB_MASK.key 0, fun _ _ m => { m with cap := { m.cap with recB := { base := m.nextSample } } }),
   (E.IMD_EN.key 0, fun _ _ m => (m.imdRefresh).sendStnRec),
   (E.IMD_GSYS.key 0, fun _ _ m => ((m.imdStop 0).imdRefresh).sendStnRec),
   (E.IMD_PERIOD.key 0, fun _ _ m => { m with safe := { m.safe with imdPeriod := 0 } }),
   (E.ESTOP_EN.key 0, fun _ _ m => m.estopRefresh),
   (E.ILK_EN.key 0, fun _ _ m => m.ilkRefresh)]

def followersB : List Follower :=
  [(E.ILK_OPEN_REQ.key 0, fun _ _ m => m.ilko),
   (E.ESTOP_ILKO.key 0, fun _ _ m => m.ilko),
   (E.ESTOP_CONT.key 0, fun _ _ m => m.contRefresh),
   (E.ILK_CONT.key 0, fun _ _ m => m.contRefresh),
   (E.FAULT_MINCLASS.key 0, fun _ _ m => m.faultPin),
   (E.LINK_ROLE.key 0, fun l _ m => m.linkRefresh l),
   (E.NET_STN.key 0, fun _ _ m => m.sendStnRec),
   (E.NET_LPRIO.key 0, fun _ _ m => m.sendStnRec),
   (E.SHARE_MODE.key 0, fun _ _ m => m.sendStnRec),
   (E.SEG_ID.key 0, fun _ _ m => m.sendStnRec)]

def followersC : List Follower :=
  [(E.HALERT_EN.key 0, fun _ _ m =>
      if m.b E.HALERT_EN 0 then m else { m with h2w := { m.h2w with pulled := false } }),
   (E.H2W_ADDR.key 0, fun _ old m =>
      if m.h2w.addr.isNone then { m with h2w := { m.h2w with addr := some old.toNat } } else m),
   (E.TEL_WIN1.key 0, fun _ _ m => m.telRestart 0),
   (E.TEL_WIN2.key 0, fun _ _ m => m.telRestart 1),
   (E.Q_HWM.key 0, fun q _ m => m.queueMarks q),
   (E.Q_LWM.key 0, fun q _ m => m.queueMarks q),
   (E.FLT_IRQ_EN.key 0, fun b _ m =>
      m.modFlt b (fun x => { x with told := setBits x.told (m.n E.FLT_IRQ_EN b &&& m.n E.FLT_ACTIVE b) }))]

def followers : List Follower := followersA ++ (followersB ++ followersC)

/-- Entry `i` of a family has changed from `old`. -/
def Mod.follow (m : Mod) (f : Fam) (i : Nat) (old : Val) : Mod :=
  match followers.find? (fun x => x.1 == f.key 0) with
  | some x => x.2 i old m
  | none => m

/-- What follows for the entry at a place of the store. -/
def Mod.followPlace (m : Mod) (key : Nat) (old : Val) : Mod :=
  match entryAt key with
  | some (f, i) => m.follow f i old
  | none => m

end Sys2Proof.Machine
end

