-- ==== Sys2Proof/Machine/BlockCmds.lean ====
section
/-! DEFINITION. Machine/BlockCmds.lean: escalation and the resets of fault blocks (R480, R481), and what a journal record that
fails puts back (R394, R395). -/

namespace Sys2Proof.Machine

open Sys2Proof

/-! ## Values that come into force together -/

/-- Entries of a profile's header, and of its steps (R241, R242). -/
def headerFams : List Fam :=
  [E.PROF_NAME, E.PROF_FIRST, E.PROF_PRE_STEP, E.PROF_VCEIL, E.PROF_VFLOOR, E.PROF_IMAX, E.PROF_VTC, E.PROF_IRAMP, E.PROF_VRAMP,
   E.PROF_RESUME_T, E.PROF_RESUME_STEP, E.PROF_MAXVISITS, E.PROF_CHAIN]
def stepFams : List Fam :=
  [E.KIND, E.SP_A, E.SP_B, E.SP_T, E.SP_T2, E.LIM_I, E.LIM_V, E.T_MAX, E.NEXT, E.EX1, E.EX1_VAL, E.EX2, E.EX2_VAL, E.EX3,
   E.EX3_VAL]

/-- What follows once from values that have come into force together: profiles are checked (R202), mappings start anew
(R475). -/
def Mod.afterValues (m : Mod) (keys : List Nat) : Mod :=
  keys.foldl (fun m k =>
    match entryAt k with
    | none => m
    | some (f, i) =>
      if headerFams.any (fun g => g.key 0 == f.key 0) then m.profileCheck i
      else if stepFams.any (fun g => g.key 0 == f.key 0) then m.profileCheck (i / 16)
      else if f.base = 0xA100 then (m.setN E.MAP_STATE i 0).disarm (.mapStale i)
      else m) m

/-- R394, R395, R481: the oldest journal record fails: what it replaced is in force again, with what follows from that. -/
def journalBack (x : Sys) : Sys :=
  match x.1.journal with
  | [] => x
  | j :: _ =>
    let num := x.1.n E.ESESS_NUM 0
    let (m, v) := journalFail x
    let m := m.when (j.writes.any (fun w => w.1 == E.ESESS_NUM.key 0)) (·.elogDrop num)
    let back := j.writes.filter (fun w => j.kind < 3 && odGet x.1.od w.1 != odGet m.od w.1)
    ((back.foldl (fun m w => m.followPlace w.1 w.2) m).afterValues (back.map (·.1)), v)

/-! ## Block resets -/

/-- R481: a HOST2W request in flight completes ABORTED_RESET. -/
def h2wAbort (x : Sys) : Sys :=
  match x.1.h2w.go with
  | some a =>
    if x.1.h2w.xstate ≠ 1 then x
    else
      let same := fun (o : Option Asker) => o == some a
      let m : Mod := { x.1 with journal := x.1.journal.map (fun j => if same j.ask then { j with ask := none } else j) }
      let x := completeRecord (m, if same x.2.commit then { x.2 with commit := none } else x.2) a 0x40 0 0
      (({ x.1 with h2w := { x.1.h2w with waiting := [(a.resp x.1 0x40 0 []).body] } } : Mod).queueFlush 20, x.2)
  | none => x

/-- R481: what the reset of block `b` does beside gating stages off. -/
def blockEffect (b : Nat) (x : Sys) : Sys :=
  let m := x.1
  match b with
  | 3 =>
    let m := (List.range 16 ++ [27, 28, 30]).foldl Mod.queueFlush m
    ((({ m with net := { m.net with expHeld := [] } } : Mod).streamAbort 0x40).holdover, x.2)
  | 5 => ((m.setN E.CH_INVALID 0 0).lower 5 1, x.2)
  | 7 => (((List.range 32).foldl Mod.queueFlush m).streamAbort 0x40, x.2)
  | 8 => if m.journal.isEmpty then x else journalBack (m.inc E.JOURNAL_ROLLBACK 0, x.2)
  | 9 => usbDetach x
  | 10 => h2wAbort ({ m with b2w := m.b2w.map (fun p => { p with running := false, wrote := none }) }, x.2)
  | 11 => (((m.each 2 (fun u m => m.setN E.CAN_STATE u 0)).lower 11 0).lower 11 1, x.2)
  | 12 =>
    let m := (List.range 8).foldl Mod.openSwitch m
    let m := m.each 5 (fun k m => m.when (m.n E.QUAL_STATE k != 7) (·.qualTo k 0))
    ({ m.clampEnd with safe := { m.clampEnd.safe with clampArmed := true } }, x.2)
  | 13 => (m.openSwitch 7, x.2)
  | 14 => ((m.holdover).arm .pllRelock (m.tb + ms 10), x.2)
  | 15 => ((m.setQ E.IMD_RISO 0 0).imdTo 0, x.2)
  | _ => x

/-- R481: block `b` resets. That of block 0 is an SFRST of the module, within 200 µs. -/
def blockReset (b : Nat) (x : Sys) : Sys :=
  if b = 0 then (x.1.arm .reset (x.1.tb + us 200), x.2)
  else
    let m := x.1.modFlt b (fun f => { f with resetting := true })
    blockEffect b ((m.arm (.blockReset b) (m.tb + resetTime b)).faultGates, x.2)

/-- R480: the grace has ended without acknowledgement. -/
def faultEscalate (b : Nat) (x : Sys) : Sys :=
  let m := x.1
  let bits := (m.fltOf b).unacked
  if b < 16 ∧ m.due (.grace b) ∧ bits ≠ 0 then
    let act := m.n E.FLT_ACTION b
    let m := (m.inc E.FLT_ESC_CNT b).disarm (.grace b)
    let m := m.logPut (m.record 2 (if act = 2 then 3 else 2) b 0xFF 0 0 0 0xFF ([act] ++ leBytes 4 bits))
    let m := m.modFlt b (fun f => { f with unacked := 0 })
    match act with
    | 0 => blockReset b (m, x.2)
    | 1 => ((m.modFlt b (fun f => { f with trip := true })).faultGates, x.2)
    | _ => ((m.classF b bits).faultPin, x.2)
  else (if m.due (.grace b) then m.disarm (.grace b) else m, x.2)

def execFaultEscalate (t : Nat) (b : Nat) (s : State) : Host.Outcome State Fault Refusal := execS t (faultEscalate b) s

end Sys2Proof.Machine
end

