-- ==== Sys2Proof/Machine/ClockCmds.lean ====
section
/-! DEFINITION. Machine/ClockCmds.lean: clocks, resets, wakes, start-up and what it keeps, and hold-up operation (R28, R59,
R306, R334, R411, R448, R452, R495, R501 to R520). -/

namespace Sys2Proof.Machine

open Sys2Proof

/-! ## The root clock (R503) -/

/-- R503: a clock failure: CLK_FAIL_CNT counts and its class F source forces the module. -/
def Mod.clockFail (bit_ : Nat) (m : Mod) : Mod := (m.inc E.CLK_FAIL_CNT 0).raise 14 bit_

def execTcxoFail (t : Nat) (s : State) : Host.Outcome State Fault Refusal := execM t (Mod.clockFail 1) s

/-- R503: the PLL has lost lock: network time runs under HOLDOVER. -/
def Mod.pllUnlock (m : Mod) : Mod := ((m.setB E.PLL_LOCK 0 false).clockFail 0).holdover

def execPllUnlock (t : Nat) (s : State) : Host.Outcome State Fault Refusal := execM t Mod.pllUnlock s

/-- R503: 10 ms after a block 14 reset the PLL is still unlocked: SAFE starts an SFRST. -/
def Mod.pllTimeout (m : Mod) : Mod :=
  if m.due .pllRelock && !m.b E.PLL_LOCK 0 then (m.disarm .pllRelock).arm .reset m.tb else m

def execPllRelockTimeout (t : Nat) (s : State) : Host.Outcome State Fault Refusal := execM t Mod.pllTimeout s

/-! ## Resets (R515) -/

/-- R515: first power, or loss of the AO domain. -/
def execPor (s : State) : Host.Outcome State Fault Refusal :=
  .next { s with m := { s.m with out := [] }.resetBegin 1 }

/-- R515: the rails have fallen while the AO domain is powered. In hold-up operation that comes no sooner than the hold-up time
allows (R59). -/
def execBor (s : State) : Host.Outcome State Fault Refusal :=
  let m := { s.m with out := [], tb := if s.m.phase == Phase.holdup then max s.m.tb (s.m.safe.holdupAt + s.m.safe.holdupFor) else s.m.tb }
  .next { s with m := if m.counting then m.resetBegin 2 else m }

/-- R515: WAKE has been high for 10 s while the control complex runs. -/
def execWrstPin (t : Nat) (s : State) : Host.Outcome State Fault Refusal := execM t (·.resetBegin 3) s

/-- R515, R495: 200 µs after keeper expiry. -/
def execWdrst (t : Nat) (s : State) : Host.Outcome State Fault Refusal :=
  execM t (fun m => if m.due .wdrst then m.resetBegin 5 else m) s

/-- R515, R481, R503: a soft reset that a block 0 escalation or a failed relock has called for. -/
def execSfrst (t : Nat) (s : State) : Host.Outcome State Fault Refusal :=
  execM t (fun m => if m.armed .reset then m.resetBegin 6 else m) s

/-! ## HIBERNATE and the AO domain (R510, R514) -/

/-- R514: the WAKE_LAST code of a source, and whether WAKE_EN admits it. -/
def wakeCode : WakeSrc → Nat
  | .pin => 1 | .net _ => 2 | .usb => 3 | .rtc => 4 | .tamper => 5

def Mod.wakeEnabled (m : Mod) : WakeSrc → Bool
  | .pin => m.bitOf E.WAKE_EN 0 0
  | .net l => m.bitOf E.WAKE_EN 0 1 && m.b E.LINK_WAKE l && decide (l < 4)
  | .usb => m.bitOf E.WAKE_EN 0 2
  | .rtc => m.bitOf E.WAKE_EN 0 3 && m.n E.WAKE_RTC 0 != 0
  | .tamper => true

/-- R514: a wake event in HIBERNATE. -/
def execWakeEvent (w : WakeSrc) (supply : Bool) (s : State) : Host.Outcome State Fault Refusal :=
  let m := { s.m with out := [] }
  .next { s with m := if m.wakeEnabled w then m.wakeBegin (wakeCode w) supply else m }

/-- R510: the AO reserve has run out: the AO domain loses its contents, and the next start is a POR. -/
def execAoReserveExhausted (s : State) : Host.Outcome State Fault Refusal :=
  let m := { s.m with out := [] }
  .next { s with m := if m.counting then m else { m with phase := .off, rst := some 1, heldWake := false } }

/-! ## Start-up (R517 to R520) -/

/-- R415: what a restore of defaults leaves in the parameter store. -/
def Mod.keptPlaces (m : Mod) : List Nat :=
  let all := fun (f : Fam) => (List.range f.count).map f.key
  ([E.EPOCH, E.ESESS_NUM, E.BAT_AH_IN_LIFE, E.BAT_AH_OUT_LIFE, E.E_POS, E.E_NEG, E.LGEN, E.RST_CNTS,
    E.CAL_FIELD_CNT].flatMap all) ++ [E.NET_ADDR_P.key 0] ++
  (if odGet m.pst (E.SHARE_ROLE.key 0) = some (.num 3) then [E.SHARE_ROLE, E.SHARE_IDX, E.SHARE_GEN, E.SEG_ID].flatMap all else [])

/-- R343, R354: the places at which ring and station number, and the parent ring's generation, are committed. -/
def numberPlaces : List Nat := [E.NET_ADDR.key 0, E.NET_ADDR_P.key 0]

/-- R411, R415: the committed entries as the boot finds them in the parameter store: after a requested restore of defaults,
without the records that fail their CRC. -/
def Mod.loadStore (m : Mod) (bad : List Nat) : List (Nat × Val) :=
  let p := if (odGet m.pst (E.PSTORE_DEFAULTS.key 0)).isSome then m.pst.filter (fun e => m.keptPlaces.contains e.1) else m.pst
  p.filter (fun e => ((entryAt e.1).any (·.1.committed) || numberPlaces.contains e.1) && !bad.contains e.1)

/-- R511, R515, R519: what the AO domain keeps through every reset but a POR, and SAFE, with its comparators, through those that do
not reset it: the clamp (R289). The trips counted (R294) stay, as long ago as they are: where TB starts anew, the RTC tells how long
the module was off. -/
def Mod.bootAo (m old : Mod) (c rtcAdv : Nat) (x : BootIn) : Mod :=
  let m := m.carryAll old [E.RTC, E.WAKE_RTC, E.WAKE_LAST, E.PROT_STATE, E.PROT_CAUSE]
  let on := 3 ≤ c ∧ c ≤ 7
  let m : Mod := { m with lockstep := old.lockstep,
                          prot := old.prot.map (fun p => if on then
                            { trips := p.trips, pilotOpen := p.pilotOpen, over_ := p.over_, overEnd := p.overEnd }
                            else { trips := p.trips.map (fun t => t - (old.tb + sec rtcAdv : Nat)), pilotOpen := p.pilotOpen }),
                          safe := { m.safe with
                            chopperOff := decide (2 ≤ m.n E.PROT_STATE 6)
                            clamping := decide on && old.safe.clamping
                            clampJ := if on then old.safe.clampJ else 0
                            clampArmed := m.n E.PROT_STATE 6 < 2 || old.safe.clampArmed },
                          kpr := { locked := old.kpr.locked, starting := old.kpr.locked, hostParty := old.kpr.hostParty } }
  let m := m.when old.kpr.locked (·.carryAll old [E.KPR_OPEN, E.KPR_CLOSE, E.KPR_TASKS])
  m.when x.evidence (fun m =>
    let m : Mod := { m with kpr := { m.kpr with expiredAt := old.kpr.expiredAt } }
    m.carryAll old [E.KPR_CAUSE, E.KPR_MISSING, E.KPR_PC0, E.KPR_PC1, E.KPR_LAST_SVC])

/-- R96, R287: the heat states, decayed over the RTC time that has passed, or restarted where they are lost. -/
def Mod.bootHeat (m old : Mod) (kept : BootIn) (dt : Rat) : Mod :=
  let decay := fun (h tau : Rat) => if tau ≤ 0 then 0 else clampR 0 h (grid (h * expNeg (dt / tau)))
  let heat := if kept.heat then decay old.safe.heat (m.q E.BRK_TAU 0) else m.q E.BRK_PCONT 0 * m.q E.BRK_TAU 0
  let m : Mod := { m with safe := { m.safe with heat := heat } }
  let theta := fun (k : Nat) =>
    if kept.theta then decay (old.protOf k).theta (m.q E.I2T_TAU k) else grid (m.q E.I2T_K k * m.q E.I2T_WARN k / 100)
  m.each 8 (fun k m => m.modProt k (fun p => { p with theta := theta k }))

/-- R519, R520: what the boot keeps of a capture after resets that leave the SRAM powered. -/
def Mod.bootCap (m old : Mod) (c : Nat) : Mod :=
  if 3 ≤ c ∧ c ≤ 7 ∧ (old.n E.CAP_STATE 0 = 4 ∨ old.n E.CAP_STATE 0 = 5) then
    let m := m.carryAll old [E.CAP_NUM, E.CAP_TRIG_T, E.CAP_TRIG_CAUSE, E.CAP_FLAGS, E.CAP_MASK, E.CAP_DEC, E.CAP_LEN]
    ({ m with cap := { old.cap with blocks := 0 } } : Mod).setN E.CAP_STATE 0 4
  else m

/-- R452: the firmware bank that runs: a switched one on trial, the previous one after a failed trial. -/
def Fw.swap (f : Fw) : Fw :=
  { f with bank := 1 - f.bank, ver := f.altVer, altVer := f.ver, runFloor := f.altFloor, altFloor := f.runFloor }

def Mod.bootFw (m : Mod) (bankOk : Bool) : Mod :=
  let f := m.fw
  let failed := fun (m : Mod) (g : Fw) =>
    ({ m with fw := { g with trial := false, trialBoots := 0, switchPending := false, altState := 3 } } : Mod).fwEvent 2 3 0
  if f.switchPending then
    if bankOk then { m with fw := { Fw.swap f with switchPending := false, trial := true, trialBoots := 1, altState := 2 } }
    else failed m f
  else if f.trial then
    if bankOk && decide (f.trialBoots < 2) then { m with fw := { f with trialBoots := f.trialBoots + 1 } }
    else failed m (Fw.swap f)
  else m

/-- R334: the energy session that the reset broke is closed with an INTERRUPTED or a LOST record, if its number had become
durable (R331). -/
def Mod.bootSession (m old : Mod) (totals : Bool) : Mod :=
  if old.n E.ESESS_STATE 0 = 1 ∧ m.n E.ESESS_NUM 0 = old.n E.ESESS_NUM 0 then
    let m : Mod := { m with esess := { old.esess with gap := true } }
    let m := if totals then m.elogWrite 4 old.esess.seq old.esess.tot old.esess.updRtc
      else m.elogWrite 5 old.esess.seq (if old.esess.interim.isEmpty then List.replicate 10 0 else old.esess.interim) (m.n E.RTC 0)
    { m with esess := {} }
  else m

/-- R448: SAFE reads the tamper latch before any engine starts: an opening whose erase is not recorded is erased now. -/
def Mod.bootErase (m : Mod) : Mod :=
  if m.keys.latch && !m.keys.latchErased then
    let m := m.eraseSecrets 2
    { m with keys := { m.keys with latchErased := true } }
  else m

/-- R448: the first start after an opening records it. -/
def Mod.bootTamper (m : Mod) : Mod :=
  let m := m.bootErase
  if m.keys.latch && !m.keys.latchNoted then
    ({ m with keys := { m.keys with latchNoted := true } } : Mod).noteAt E.TAMPER_STATE 0
  else m

/-- RST_CNTS with one more of cause `c` (R425). -/
def countCause (l : List Nat) (c : Nat) : List Nat :=
  (List.range 8).flatMap (fun i => leBytes 4 (leNat ((l.drop (4 * i)).take 4) + if i + 1 = c then 1 else 0))

/-- R517: the module that a start of cause `c` leaves running. `old` is the module before it, its epoch that of the
parameter store. -/
def Mod.boot0 (old : Mod) (c rtcAdv : Nat) (x : BootIn) (epochTries : Bool) : Mod :=
  let ao := c != 1
  let kept : BootIn := { x with records := ao && x.records, heat := ao && x.heat, theta := ao && x.theta,
                                counters := ao && x.counters, totals := ao && x.totals, fails := ao && x.fails,
                                evidence := ao && x.evidence, queue := ao && x.queue }
  let bad := x.crcBad.filter (fun k => (odGet old.pst k).isSome)
  let calBad := x.crcBad.contains (E.CAL_ID.key 0)
  let p := old.loadStore x.crcBad
  let epoch := ((odGet old.pst (E.EPOCH.key 0)).getD (.num 0)).toNat
  let numbers := ((odGet p (E.NET_ADDR.key 0)).map (·.toNat)).getD 0xFFFF
  let secrets := old.journal.foldr (fun (j : JRec) (m : Mod) =>
    if 3 ≤ j.kind then j.olds.foldl (fun m o => m.putSecret j.kind o.2) m else m) old
  let tb := old.tb
  let m : Mod :=
    { pst := p, tb := tb, meas := { pkT := List.replicate 8 tb, stepT := tb }, phase := .running, rst := none, freeCtr := old.freeCtr,
      sens := old.sens, mean := old.mean, log := old.log, retired := old.retired, keys := secrets.keys, fw := { old.fw with sectors := 0 }, elog := old.elog,
      ePos := old.ePos - old.elogQ.length, cal := if calBad then [] else old.cal,
      safe := { estopOpen := old.safe.estopOpen, ilkOpen := old.safe.ilkOpen, tamperOpen := old.safe.tamperOpen },
      q26Lost := if kept.queue then old.q26Lost + old.q26.length else 0,
      net := { ring := numbers / 256, stn := numbers % 256, parLgen := ((odGet p (E.NET_ADDR_P.key 0)).map (·.toNat)).getD 0 } }
  let m := ((p.filter (fun e => !numberPlaces.contains e.1)).foldl (fun m e => m.putPlace e.1 e.2) m).latchControls
  let m := m.carryAll old [E.LOG_CNT, E.LOG_NEXT, E.LOG_OVERWRITE]
  let m := if ao then m.bootAo old c rtcAdv kept else m
  let m := if kept.counters then
      { (m.carryAll old [E.BAT_AH_IN_LIFE, E.BAT_AH_OUT_LIFE, E.E_POS, E.E_NEG]) with
        meas := { m.meas with ePos := old.meas.ePos, eNeg := old.meas.eNeg, qIn := old.meas.qIn, qOut := old.meas.qOut } }
    else m
  let m := m.when ao (fun m => m.setN E.RTC 0 (m.n E.RTC 0 + rtcAdv))
  let m := ((m.bootHeat old kept rtcAdv).bootCap old c).telBegin
  let m := (m.setN E.RST_CAUSE 0 c).setB E.RET_VALID 0
    (kept.records && kept.heat && kept.theta && kept.counters && kept.totals && kept.fails && kept.evidence && kept.queue)
  let m := (m.setB E.PLL_LOCK 0 true).setB E.FAULT_OUT 0 true
  let m : Mod := { m with pst := odPut m.pst (E.EPOCH.key 0) (.num (epoch + 1)) }
  let m := m.setN E.EPOCH 0 (epoch + 1)
  let m := ((m.when (old.phase == .epochWait) (·.carry old E.ERASE_T)).bootTamper).bootFw x.bankOk
  let m := m.when m.keys.scrub (·.scrubDone)
  let m := m.setN E.JOURNAL_ROLLBACK 0 old.journal.length
  let m := (m.setN E.PSTORE_ERR 0 bad.length).when (!bad.isEmpty) (·.raise 8 0)
  let m := m.when calBad (fun m => (m.setN E.CAL_STATE 0 1).raise 5 3)
  let m := m.when epochTries (·.raise 8 1)
  let m := m.bootSession old kept.totals
  let m := m.event 0x0020 (c :: leBytes 4 epoch)
  let m := if m.kpr.expiredAt.isSome then
      let r := m.record 0x0011 0 0xFF 0xFF 1 0 0 0xFF ([m.n E.KPR_CAUSE 0] ++ leBytes 2 (m.n E.KPR_MISSING 0) ++
        leBytes 4 (m.n E.KPR_PC0 0) ++ leBytes 4 (m.n E.KPR_PC1 0) ++ leBytes 8 (m.n E.KPR_LAST_SVC 0))
      let m := ({ m with kpr := { m.kpr with expiredAt := none } } : Mod).logPut r
      m.commitN E.KPR_EXP_CNT 0 (inc32 (m.n E.KPR_EXP_CNT 0))
    else m
  let m := m.commit E.RST_CNTS 0 (.bytes (countCause (m.bytes E.RST_CNTS 0) c))
  let m := m.when m.fw.trial (·.arm .trial (m.tb + sec 60))
  let m : Mod := { m with usb := { m.usb with powered := x.portLive } }
  let m := m.each 2 (fun i m => m.when (m.protOk (6 + i)) (·.closeSwitch (6 + i)))
  let m := (m.syncPorts).portGates
  let m := m.each 16 (fun n m => m.profileCheck n)
  let m := (((m.bmsRestart).refreshAll).ringShape).heatTo m.safe.heat
  let m := m.arm .lifetime (m.tb + sec 3600)
  let m := if c = 1 ∨ c = 8 then m.arm .holdup300 (m.tb + ms 300) else m.carry old E.HOLDUP_E
  let m := if m.lockstep then (m.gateOffBoth 0).setB E.FAULT_OUT 0 false else m
  let m := m.when (m.b E.ESTOP_EN 0 && m.safe.estopOpen) (·.estopTo 1)
  let m := m.when (m.b E.ILK_EN 0 && old.safe.ilkOpen)
    (fun m => { m with safe := { m.safe with ilkOpen := false } }.ilkOpened)
  (m.when m.safe.tamperOpen (·.force 3)).ilko

/-- R397, R399, R445, R519: what of the server's memory a start leaves. -/
def bootSrv (v : Srv) (m : Mod) (records fails : Bool) : Srv :=
  { recs := if records then
      (v.recs.filter (fun c => decide (m.n E.EPOCH 0 ≤ c.epoch + 1))).map (fun c => { c with doneAt := 0 }) else [],
    seqs := if records then v.seqs else [],
    fails := if fails then v.fails else [0, 0, 0, 0] }

/-- R517, R518, R392, R443: a start whose epoch is durable. -/
def bootRun (rtcAdv : Nat) (x : BootIn) (tries : Bool) (s : Sys) : Sys :=
  let c := s.1.rst.getD 1
  let m := s.1.boot0 c rtcAdv x tries
  let v := bootSrv s.2 m (c != 1 && x.records) (c != 1 && x.fails)
  let m := m.when (!s.2.stage.isEmpty) (fun m => (m.setN E.STAGE_DISCARDS 0 1).noteAt E.STAGE_DISCARDS 0)
  match x.usbSource with
  | some src => usbAttachWith (src && m.mayBeSource) (m, v)
  | none => (m, v)

/-- R518: the durable epoch of the parameter store. -/
def Mod.durableEpoch (m : Mod) : Nat := ((odGet m.pst (E.EPOCH.key 0)).getD (.num 0)).toNat

/-- R517, R518: a start. With the epoch at its top the boot stops after SAFE has started; where the epoch cannot be
written, no request is accepted and the write is retried every 10 s. -/
def startUp (rtcAdv : Nat) (epochOk : Bool) (x : BootIn) (s : Sys) : Sys :=
  let m : Mod := { s.1 with out := [] }
  if m.rst.isNone || !(m.phase == .off || m.phase == .booting) then (m, s.2)
  else
    let c := m.rst.getD 1
    let m : Mod := { m with tb := if c ≤ 2 ∨ c = 8 then 0 else m.tb }
    if m.durableEpoch = 0xFFFFFFFF then ({ m.bootErase with phase := .stopped }, s.2)
    else if epochOk then bootRun rtcAdv x false (m, s.2)
    else ({ (m.setN E.ERASE_T 0 0).bootErase with phase := .epochWait, boot := some (rtcAdv, x) }, s.2)

def execStartUp (rtcAdv : Nat) (epochOk : Bool) (x : BootIn) (s : State) : Host.Outcome State Fault Refusal :=
  .next { s with m := (startUp rtcAdv epochOk x (s.m, s.srv)).1, srv := (startUp rtcAdv epochOk x (s.m, s.srv)).2 }

/-- R518: a further attempt to write the epoch. -/
def epochRetry (ok : Bool) (s : Sys) : Sys :=
  match s.1.phase, s.1.boot with
  | .epochWait, some (adv, x) => if ok then bootRun adv x true ({ s.1 with out := [] }, s.2) else ({ s.1 with out := [] }, s.2)
  | _, _ => ({ s.1 with out := [] }, s.2)

def execEpochWriteRetry (ok : Bool) (s : State) : Host.Outcome State Fault Refusal :=
  .next { s with m := (epochRetry ok (s.m, s.srv)).1, srv := (epochRetry ok (s.m, s.srv)).2 }

/-! ## Hold-up (R28, R59, R306) -/

/-- R28, R296, R306: every source is lost: SAFE forces the module; once the switches are open it drops CONT and writes the last
fault record. A source contract on USB ends (R438). The store lasts 40 ms × E/2 J at the least (R59), and a page program in progress may still end
(R28). -/
def holdup (x : Sys) : Sys :=
  if x.1.phase == .running then
    let safe := { x.1.safe with
      holdup := true, holdupAt := x.1.tb, pageLeft := !x.1.journal.isEmpty
      holdupFor := ticksMs (40 * maxR 0 (x.1.q E.HOLDUP_E 0) / 2) }
    let m : Mod := { x.1 with phase := .holdup, safe := safe, usb := { x.1.usb with powered := false } }
    let m := (m.force 4).disarm .holdup300
    let m := m.when (m.n E.SS_STATE 0 != 2) Mod.lastRecord
    if m.usb.attached && m.n E.USB_PWR_ROLE 0 == 1 then usbDetach (m, x.2) else (m, x.2)
  else x

def execHoldupOperation (t : Nat) (s : State) : Host.Outcome State Fault Refusal := execS t holdup s

/-- R59, R514: a source returns: the hold-up store recharges, the HOLDUP cause clears and what waits for flash is written; a
held wake starts. -/
def Mod.sourceReturn (port : Bool) (m : Mod) : Mod :=
  let m : Mod := { m with usb := { m.usb with powered := port || m.usb.powered } }
  if m.phase = .holdup then
    let m : Mod := { m with phase := .running, safe := { m.safe with holdup := false, pageLeft := false } }
    ((m.unforce 4).arm .holdup300 (m.tb + ms 300)).when m.eraseOp.isNone (·.q26Flush.elogFlush)
  else if m.phase = .hibernate ∧ m.heldWake then { m with phase := .booting, rst := some 8, heldWake := false }
  else m

def execSourceReturn (port : Bool) (s : State) : Host.Outcome State Fault Refusal :=
  .next { s with m := ({ s.m with out := [] } : Mod).sourceReturn port }

/-- R59: 300 ms after a source's return the store holds less than 1.8 J. -/
def Mod.recharge (e : Rat) (m : Mod) : Mod :=
  let m := m.setQ E.HOLDUP_E 0 e
  if m.due .holdup300 then (m.disarm .holdup300).when (decide (e < 18 / 10)) (·.sync 13 1 true (some e)) else m

def execHoldupRechargeCheck (t : Nat) (e : Rat) (s : State) : Host.Outcome State Fault Refusal := execM t (Mod.recharge e) s

end Sys2Proof.Machine
end

