-- ==== Sys2Proof/Machine/Rules.lean ====
section
/-! DEFINITION. Machine/Rules.lean: what each entry's own rule adds to the checks of R387 and to the effect of a write: the
level of a value, locks, cross-entry rules, the module's states in which a write is refused, what an accepted write does and
what a read returns. `ruleOf` is the rule of an entry; an entry with no row here has its table row and nothing more. -/

namespace Sys2Proof.Machine

open Sys2Proof

/-- The rule of an entry as its table row gives it: a value in force at once, with what follows from it. -/
def Rule.base (f : Fam) (i : Nat) : Rule :=
  { Rule.plain f i with
    act := fun a _ v x =>
      let old := x.1.getV f i
      let (x, y) := plainAct f i a v x
      ((x.1.follow f i old, x.2), y) }

/-- An accepted command that takes effect outside the request: ACCEPTED; one that is done at once: OK. -/
def accepted : Reply := .final 1 0 [] 2
def done : Reply := .final 0 0 [] 2

/-- A rule whose accepted write changes the module and answers ACCEPTED, or OK. -/
def Rule.command (r : Rule) (g : Nat → Mod → Mod) : Rule :=
  { r with act := fun _ _ v x => ((g v.toNat x.1, x.2), accepted) }
def Rule.command0 (r : Rule) (g : Nat → Mod → Mod) : Rule :=
  { r with act := fun _ _ v x => ((g v.toNat x.1, x.2), done) }

/-- A rule that refuses a write with MODE_FORBIDS where `p` holds of the module and the value. -/
def Rule.forbid (r : Rule) (p : Mod → Nat → Bool) : Rule := { r with forbids := fun x _ v => p x.1 v.toNat }

/-- A rule whose reads return a number, or bytes, of the module. -/
def Rule.reads (r : Rule) (g : Mod → Nat) : Rule := { r with get := fun x _ => .num (g x.1) }
def Rule.readsB (r : Rule) (g : Mod → List Nat) : Rule := { r with get := fun x _ => .bytes (g x.1) }

/-! ## The mode axes (R64 to R85, R512, R513) -/

/-- R77: the level that a value of ENV_REQ needs. -/
def envLevel (v : Nat) : Nat := if v = 8 then 0 else if v = 9 then 2 else 1

/-- R61, R271: a FENCED module takes OFF, STANDBY and SAFESTOP alone. -/
def Mod.envFenced (m : Mod) (v : Nat) : Bool := m.fenced && !(v ≤ 1 || v == 8)

/-- R71: the envelope would take a running path that regulates SYS to SAFESTOP. -/
def Mod.envDead (m : Mod) (v : Nat) : Bool :=
  moored (m.n E.PATH_ACT 0) && ((m.setN E.ENV_REQ 0 v).pathFor v).1 == 8

/-- R64, R66, R69 to R71, R74, R84, R85, R442: a write of ENV_REQ that MODE_FORBIDS refuses. -/
def Mod.envForbids (m : Mod) (v : Nat) : Bool :=
  let stopped := m.n E.PATH_ACT 0 == 8 || m.n E.ENV_EFF 0 == 8
  let release := v ≤ 1 && !m.forced && m.n E.SS_STATE 0 == 4 && m.n E.FLEET_ENV 0 != 8
  let special := (v == 7 || v == 9) && m.n E.ENV_EFF 0 != v
  (m.n E.USB_STATE 0 == 3 && v != 0) ||
  (v != 8 &&
    ((m.n E.FLEET_ENV 0 != 0xFF && !(v ≤ 1 && m.n E.ENV_REQ 0 == 8 && m.n E.PATH_ACT 0 == 8)) ||
     (stopped && !release) || (m.forced && v != 0) || (m.mooring && special) ||
     (special && 2 ≤ m.n E.ENV_EFF 0) || (m.brkBad && !(v ≤ 1 || v == 3 || v == 9)) ||
     (v == 7 && m.n E.BRK_R 0 == 0) || (2 ≤ v && m.envDead v)))

/-- R79: while BLACKSTART runs, only OFF and SAFESTOP are taken. -/
def Mod.envBusy (m : Mod) (v : Nat) : Bool := m.n E.PATH_ACT 0 == 7 && v != 0 && v != 8

/-- R77, R79: a mode request other than an envelope is taken as BUSY while BLACKSTART runs. -/
def Rule.notStarting (r : Rule) : Rule := { r with busy := fun m _ => m.n E.PATH_ACT 0 == 7 }

/-- R76: the power state is raised to ACTIVE. -/
def Mod.raisePower (m : Mod) : Mod :=
  { m.setN E.POWER_REQ 0 0 with modes := { m.modes with raising := true } }.arm .activeReturn (m.tb + ms 20)

/-- R64, R76, R85, R224: an accepted ENV_REQ. One that HIBERNATE does not permit ends the way into it (R513). -/
def Mod.envTake (v : Nat) (m : Mod) : Mod :=
  let leave := v ≤ 1 && (m.n E.PATH_ACT 0 == 8 || m.n E.ENV_EFF 0 == 8)
  let m : Mod := { m.setN E.ENV_REQ 0 v with
    bms := { m.bms with released := true }
    modes := { m.modes with stopFreed := if v = 8 then false else leave || m.modes.stopFreed } }
  let m := m.when leave (fun m => { m with modes := { m.modes with transFail := false } }.setN E.TRANS_STATE 0 0)
  let m : Mod := if v ≠ 0 ∧ m.modes.hibernating then
      { (m.setN E.POWER_REQ 0 (m.n E.POWER_ACT 0)).disarm .hibernate with modes := { m.modes with hibernating := false } }
    else m
  if v ≤ 1 then m
  else if m.n E.POWER_ACT 0 == 1 then m.raisePower
  else m.when (m.n E.POWER_REQ 0 == 1) (·.setN E.POWER_REQ 0 0)

/-- R83, R84: the internal request of ENV_BOOT, under the rules of a host at L1. -/
def Mod.envInternal (v : Nat) (m : Mod) : Mod :=
  if m.envFenced v then m.noteRefused E.ENV_REQ 0 0x42
  else if 1 < envLevel v then m.noteRefused E.ENV_REQ 0 0x20
  else if m.envForbids v then m.noteRefused E.ENV_REQ 0 0x21
  else if m.envBusy v then m.noteRefused E.ENV_REQ 0 0x30
  else m.envTake v

/-- R73, R106: a coupling that the path or step forbids, or BRIDGE while its conditions do not hold. -/
def Mod.couplingForbids (m : Mod) (v : Nat) : Bool :=
  !m.coupleLegal v || (v == 2 && !m.bridgeConditions (m.n E.PATH_ACT 0))

/-- R106: a request for BRIDGE counts its ticks afresh. -/
def Mod.couplingTake (v : Nat) (m : Mod) : Mod :=
  let m := m.setN E.COUPLING_REQ 0 v
  m.when (v == 2) (fun m => { m with modes := { m.modes with bridgeQual := 0 } })

/-- R76, R513: a power state that the envelope, or work still open, does not permit. -/
def Mod.powerForbids (m : Mod) (v : Nat) : Bool :=
  match v with
  | 0 => false
  | 1 => !(m.n E.ENV_EFF 0 ≤ 1) || !(m.envelope.1 ≤ 1)
  | _ => m.n E.ENV_EFF 0 != 0 || m.envelope.1 != 0 || m.n E.ESESS_STATE 0 == 1 || !m.journal.isEmpty || m.fw.altState == 1 || m.n E.WAKE_EN 0 == 0

/-- R512, R513: an accepted POWER_REQ. -/
def Mod.powerTake (v : Nat) (m : Mod) : Mod :=
  if v = 2 then
    { m.setN E.POWER_REQ 0 2 with modes := { m.modes with hibernating := true } }.arm .hibernate (m.tb + ms 200)
  else
    let m : Mod := { (m.setN E.POWER_REQ 0 v).disarm .hibernate with modes := { m.modes with hibernating := false } }
    m.when (v == 0 && m.n E.POWER_ACT 0 == 1) Mod.raisePower

/-! ## Cross-entry rules (step 15) -/

/-- Relations between the entries of one instance `i`, each with the entries whose writes must keep it. R115 states that of
BRIDGE_VMIN and BRIDGE_VMAX for the latter; DESIGN CHOICE (assumption log 25): a write of either is held to it. -/
abbrev Relation := List Fam × (Mod → Nat → Bool)

/-- R311, R6: full scale of a fast channel, as the binary32 nearest to it. -/
def channelTop (c : Nat) : Rat :=
  f32Round (if c = 14 ∨ c = 15 then dec 65534 3 else if c % 2 = 0 then dec 131068 2 else dec 819175 3)

def relationsA : List Relation :=
  [([E.REGEN_DV1, E.REGEN_DV2, E.REGEN_DV3], fun m _ =>
      decide (m.q E.REGEN_DV1 0 < m.q E.REGEN_DV2 0) && decide (m.q E.REGEN_DV2 0 < m.q E.REGEN_DV3 0)),
   ([E.OVP_DV, E.REGEN_DV3], fun m _ => decide (m.q E.REGEN_DV3 0 + mkRat 1 2 ≤ m.q E.OVP_DV 0)),
   ([E.BRIDGE_VMIN, E.BRIDGE_VMAX], fun m _ => decide (m.q E.BRIDGE_VMIN 0 < m.q E.BRIDGE_VMAX 0)),
   ([E.QUAL_UV, E.QUAL_OV, E.QUAL_HYST], fun m k => decide (m.winLo k < m.winHi k)),
   ([E.QUAL_UV], fun m k => k != 4 || decide (200 ≤ m.q E.QUAL_UV 4)),
   ([E.QUAL_OV], fun m k => k != 4 || decide (200 ≤ m.q E.QUAL_OV 4)),
   ([E.CAP_LVL_HI], fun m _ => decide (absR (m.q E.CAP_LVL_HI 0) ≤ channelTop (m.n E.CAP_LVL_CH 0))),
   ([E.CAP_LVL_LO], fun m _ => decide (absR (m.q E.CAP_LVL_LO 0) ≤ channelTop (m.n E.CAP_LVL_CH 0))),
   ([E.STG_FSW, E.LOOP_PRESET], fun m g => !(m.n E.LOOP_PRESET g == 2) || decide (60 ≤ m.q E.STG_FSW g)),
   ([E.PH_ADD_I, E.PH_SHED_I], fun m p =>
      decide (m.q E.PH_SHED_I p + 2 ≤ m.q E.PH_ADD_I p) && decide (m.q E.PH_ADD_I p < m.q E.STG_FASTADD_I (stageOf p))),
   ([E.STG_FASTADD_I], fun m g => (stagePhases g).all (fun p => decide (m.q E.PH_ADD_I p < m.q E.STG_FASTADD_I g)))]

def relationsB : List Relation :=
  [([E.INT_HORIZON, E.INT_T_ARM, E.INT_T_PB], fun m _ =>
      decide (m.q E.INT_T_PB 0 ≤ m.q E.INT_T_ARM 0) && decide (m.q E.INT_T_ARM 0 ≤ m.q E.INT_HORIZON 0 * 1000)),
   ([E.TD_COLD_STOP, E.TD_COLD_FULL, E.TD_HOT_FULL, E.TD_HOT_STOP], fun m _ =>
      decide (m.q E.TD_COLD_STOP 0 < m.q E.TD_COLD_FULL 0) && decide (m.q E.TD_COLD_FULL 0 ≤ m.q E.TD_HOT_FULL 0) &&
        decide (m.q E.TD_HOT_FULL 0 < m.q E.TD_HOT_STOP 0)),
   ([E.SCAN_FMIN, E.SCAN_FMAX, E.SCAN_PPD], fun m _ =>
      decide (m.q E.SCAN_FMIN 0 ≤ m.q E.SCAN_FMAX 0) && m.scanCount ≤ 64),
   ([E.FR_DET, E.FR_REL], fun m _ => decide (m.q E.FR_DET 0 < m.q E.FR_REL 0)),
   ([E.IMD_ALARM, E.IMD_WARN], fun m _ => decide (m.q E.IMD_ALARM 0 < m.q E.IMD_WARN 0)),
   ([E.STRB_MASK, E.STRB_DEC, E.STRB_MAXBW], fun m _ =>
      decide (strbRate (m.n E.STRB_MASK 0) (m.n E.STRB_DEC 0) ≤ m.q E.STRB_MAXBW 0)),
   ([E.LINK_ROLE], fun m _ =>
      let count := fun (r : Nat) => ((List.range 4).filter (fun l => m.n E.LINK_ROLE l == r)).length
      count 1 ≤ 2 && count 2 ≤ 2)]

def relationsC : List Relation :=
  [([E.Q_LWM, E.Q_HWM], fun m q => decide (m.n E.Q_LWM q < m.n E.Q_HWM q)),
   ([E.CAN_ARB, E.CAN_DATA], fun m u => decide (m.n E.CAN_ARB u ≤ m.n E.CAN_DATA u)),
   ([E.KPR_OPEN, E.KPR_CLOSE], fun m _ => decide (m.n E.KPR_OPEN 0 < m.n E.KPR_CLOSE 0)),
   ([E.USB_SRC_PDO], fun m _ => m.bitOf E.USB_SRC_PDO 0 0),
   ([E.FLT_ACTION], fun m b =>
      !(b == 4 && m.n E.FLT_ACTION b == 0) &&
        !(m.n E.FLT_ACTION b == 1 && (b == 0 || b == 4 || b == 5 || b == 12 || b == 13 || b == 14))),
   ([E.CMP_MODE, E.CMP_INT], fun m c => !(m.n E.CMP_MODE c == 2) || decide (10 ≤ m.n E.CMP_INT c))]

def relations : List Relation := relationsA ++ (relationsB ++ relationsC)

/-- A relation that entry `i` of `f` stands in fails of the module. -/
def relationFails (m : Mod) (f : Fam) (i : Nat) : Bool :=
  relations.any (fun r => r.1.any (fun g => g.key 0 == f.key 0) && !r.2 m i)

/-- R387 step 15: the value would leave a cross-entry rule untrue. -/
def crossFails (f : Fam) (i : Nat) (m : Mod) (v : Val) : Bool := relationFails (m.setV f i (f.mask v)) f i

/-! ## Secrets and sessions (R443 to R447) -/

/-- A secret takes a value, in force at once and answered when it is durable. -/
def secretAct (kind key : Nat) (v old : Val) (a : Asker) (x : Sys) : Sys × Reply :=
  let m := (x.1.newSecret).putSecret kind v
  let m : Mod := { m with journal := m.journal ++ [{ writes := [(key, v)], olds := [(key, old)], ask := some a, kind := kind }] }
  (markRecord (m, x.2) a 2, .deferred)

/-- R445: the class in which a transport's failed logins count. -/
def loginClass : Transport → Nat
  | .usb => 1
  | .host2w => 2
  | .can _ => 3
  | _ => 0

/-- R443: the highest level whose credential these bytes are. -/
def Mod.loginLevel (m : Mod) (cred : List Nat) : Option Nat := [3, 2, 1].find? (fun l => m.credOf l == some cred)

/-- R445: the lockout after the `n`th failure in succession, s. -/
def lockoutTime (n : Nat) : Nat := min (10 * 2 ^ (min n 20 - 5)) 3600

/-- R443, R445: CRED_LOGIN. -/
def credLogin (r : Req) (v : Val) (x : Sys) : Sys × Reply :=
  let c := loginClass r.transport
  let fail := Reply.final 0x50 0 [] 0
  if x.1.armed (.lockout c) && !x.1.due (.lockout c) then (setSession x r.requester 0, fail)
  else
    match x.1.loginLevel v.toBytes with
    | some l =>
      (setSession (x.1.disarm (.lockout c), { x.2 with fails := setAt 0 x.2.fails c 0 }) r.requester l, done)
    | none =>
      let n := (x.2.fails[c]?).getD 0 + 1
      let m := x.1.when (5 ≤ n) (·.arm (.lockout c) (x.1.tb + sec (lockoutTime n)))
      (setSession (m, { x.2 with fails := setAt 0 x.2.fails c n }) r.requester 0, fail)

/-- The level byte of a CRED_SET. -/
def credByte (v : Val) : Nat := (v.toBytes[0]?).getD 0

/-- R444: the level byte is none of 1 to 3, or the credential is that of another level. -/
def Mod.credBad (m : Mod) (v : Val) : Bool :=
  let l := credByte v
  !(1 ≤ l && l ≤ 3) || [1, 2, 3].any (fun k => k != l && m.credOf k == some (v.toBytes.drop 1))

def credSet (a : Asker) (v : Val) (x : Sys) : Sys × Reply :=
  let l := credByte v
  secretAct 3 (E.CRED_SET.key 0) v (.bytes (l :: ((x.1.credOf l).getD []))) a x

/-- R336, R447: a new signing key, its identity a value that no rule gives. -/
def signKeygen (a : Asker) (x : Sys) : Sys × Reply :=
  let old := match x.1.keys.sign with
    | some k => k + 1
    | none => 0
  let id := x.1.freeVal
  secretAct 6 (E.SIGN_KEYGEN.key 0) (.num (id + 1)) (.num old) a (x.1.freeStep, x.2)

/-! ## Firmware (R451, R452) -/

/-- R451: the first segment of an image erases the other bank. -/
def Mod.imageFirst (m : Mod) : Mod :=
  let m : Mod := { m.disarm .fwVerify with fw := { m.fw with altState := 1, altLen := 0, altVer := 0, sectors := bankSectors } }
  m.bankErase

/-- R451: the image is complete: it is verified within 2 s. -/
def imageLast (r : Req) (v : Val) (x : Sys) : Sys × Reply :=
  let m := if r.offset = 0 then x.1.imageFirst else x.1
  let m : Mod := { m with fw := { m.fw with altLen := v.toBytes.length } }
  ((m.arm .fwVerify (m.tb + sec 2), x.2), accepted)

/-! ## Compare channels (R508) -/

/-- R508: until a written value takes effect, the channel keeps what it held. -/
def Mod.cmpHold (m : Mod) (c : Nat) : Mod :=
  { m with cmp := modAt {} m.cmp c (fun x =>
      if m.tb < x.upTo then { x with upTo := m.tb + 3 }
      else { upTo := m.tb + 3, mode := if m.n E.CMP_STATE c = 1 then m.n E.CMP_MODE c else 0, val := m.n E.CMP_VAL c, int := m.n E.CMP_INT c }) }

def cmpAct (f : Fam) (c : Nat) (v : Val) (x : Sys) : Sys × Reply :=
  let m := (x.1.cmpHold c).setV f c v
  let m := m.when (f == E.CMP_MODE) (·.setN E.CMP_STATE c (if v.toNat = 0 then 0 else 1))
  ((m, x.2), done)

/-! ## Mappings (R419) -/

/-- R419: the entry that a mapping names, and whether a mapping may write it. -/
def Mod.mapTarget (m : Mod) (i : Nat) : Option (Fam × Nat) :=
  let x := m.n E.MAP_TARGET i
  findEntry (x % 65536) (x / 65536 % 256) families

def bmsTarget (f : Fam) : Bool := f.base == 0x5010 && 6 ≤ f.sub && f.sub ≤ 0xB

def Mod.mapTargetOk (m : Mod) (i : Nat) : Bool :=
  match m.mapTarget i with
  | some (f, _) => bmsTarget f || (f.acc == .rw && f.wr ≤ 1)
  | none => false

/-- R419: length of the value that MAP_FMT codes; codes 6 and 7 are none. -/
def mapLength (fmt : Nat) : Nat := ([1, 2, 4, 2, 4, 4][fmt % 8]?).getD 0

def Mod.mapFits (m : Mod) (i : Nat) : Bool := m.n E.MAP_OFS i + mapLength (m.n E.MAP_FMT i) ≤ 64

/-! ## What reads return -/

/-- R498: an event record as it stands in flash. -/
def LogRec.body (r : LogRec) : List Nat :=
  leBytes 4 r.seq ++ leBytes 4 r.epoch ++ leBytes 8 r.tb ++ leBytes 8 r.rtc ++ leBytes 2 r.kind ++ [r.cls, r.blk, r.src, r.flags] ++
  leBytes 2 (min r.merged 65535) ++ leBytes 2 r.dropped ++ leBytes 2 r.index ++ [r.sub, r.status, 0, 0] ++ fit 24 r.data

/-- R427: the record that LOG_RD_SEQ names; none where it is no longer held. -/
def Mod.logRead (m : Mod) : List Nat :=
  ((m.log.find? (fun r => r.seq == m.n E.LOG_RD_SEQ 0)).map LogRec.body).getD []

def flags3 (a b c : Bool) : Nat := b2n a + 2 * b2n b + 4 * b2n c

/-! ## The rows -/

/-- A row: the place of a family's first instance, and what its rule adds, by instance. -/
abbrev Tweak := Nat × (Nat → Rule → Rule)

/-- R201: a header, or a step, of the profile in progress. -/
def Mod.profHeld (m : Mod) (n : Nat) : Bool := m.stepRunning && m.n E.PROF_ACT 0 == n

def scanFams : List Fam := [E.SCAN_AMP, E.SCAN_FMIN, E.SCAN_FMAX, E.SCAN_PPD, E.SCAN_SETTLE, E.SCAN_CYCLES]

/-- R319: capture configuration: the committed capture entries (assumption log 31). -/
def captureFams : List Fam :=
  [E.CAP_MASK, E.CAP_DEC, E.CAP_PRE, E.CAP_TRIG_SRC, E.CAP_LVL_CH, E.CAP_LVL_HI, E.CAP_LVL_LO, E.CAP_CMP, E.CAP_DIP,
   E.CAP_NET_TX, E.CAP_DEST, E.CAP_AUTO_REARM, E.CAP_TMO]

def heldRows : List Tweak :=
  headerFams.map (fun f => (f.key 0, fun n r => r.forbid (fun m _ => m.profHeld n))) ++
  (stepFams.map (fun f => (f.key 0, fun j r => r.forbid (fun m _ => m.profHeld (j / 16)))) ++
  (scanFams.map (fun f => (f.key 0, fun _ r => r.forbid (fun m _ => m.n E.SCAN_STATE 0 == 1))) ++
   captureFams.map (fun f => (f.key 0, fun _ r => r.forbid (fun m _ => m.n E.CAP_STATE 0 != 0)))))

/-- R65, R139: the slack source is not available. -/
def Mod.slackGone (m : Mod) (policy slack : Nat) : Bool := policy == 4 && !m.inputAvail slack

def modeRows : List Tweak :=
  [(E.ENV_REQ.key 0, fun _ r =>
      { ((r.forbid Mod.envForbids).command Mod.envTake) with
        lvl := fun _ v => envLevel v.toNat, fenced := fun m v => m.envFenced v.toNat, busy := fun m v => m.envBusy v.toNat }),
   (E.COUPLING_REQ.key 0, fun _ r => ((r.forbid Mod.couplingForbids).command Mod.couplingTake).notStarting),
   (E.POWER_REQ.key 0, fun _ r => ((r.forbid Mod.powerForbids).command Mod.powerTake).notStarting),
   (E.SRC_POLICY.key 0, fun _ r =>
      { r.notStarting.forbid (fun m v => m.slackGone v (m.n E.MAN_SLACK 0)) with lvl := fun _ v => if v.toNat = 4 then 2 else 1 }),
   (E.MAN_SLACK.key 0, fun _ r => r.forbid (fun m v => !m.inputAvail v)),
   (E.IN_IREV.key 0, fun k r => r.forbid (fun m v => decide (0 < f32ToRat v) && !m.b E.IN_BIDIR k))]

def profileRows : List Tweak :=
  [(E.PROF_CMD.key 0, fun _ r =>
      { ((r.forbid (fun m v => !m.profAccepts v)).command
          (fun v m => { m with prof := { m.prof with cmds := m.prof.cmds ++ [v] } })) with
        lvl := fun _ v => if v.toNat = 4 then 2 else 1 }),
   (E.PROF_SEL.key 0, fun _ r => r.forbid (fun m _ => m.stepRunning))]

def ringRows : List Tweak :=
  [(E.RING_ENV.key 0, fun _ r =>
      { r.forbid (fun m _ => !m.leads) with
        lvl := fun _ v => ringEnvLevel v.toNat, range := fun _ v => v.toNat == 7 || v.toNat == 9 }),
   (E.ROLE_DROP.key 0, fun _ r =>
      { ((r.forbid Mod.dropLive).command0 (fun v m => m.roleDrop v)) with range := fun m v => m.dropUnknown v.toNat }),
   (E.SHARE_READMIT.key 0, fun _ r => (r.forbid (fun m _ => !m.fenced)).command (fun _ m => m.shareReadmit)),
   (E.SHARE_MODE.key 0, fun i r =>
      { r with act := fun a q v x => (Rule.base E.SHARE_MODE i).act a q v (x.1.roleRelease (x.1.n E.SEG_ID 0) v.toNat, x.2) }),
   (E.SEG_ID.key 0, fun i r =>
      { r with act := fun a q v x => (Rule.base E.SEG_ID i).act a q v (x.1.roleRelease v.toNat (x.1.n E.SHARE_MODE 0), x.2) }),
   (E.NET_HANDOVER.key 0, fun _ r =>
      (r.forbid (fun m v => !m.leads || !m.handoverOk v)).command (fun v m => m.handoverOffer v)),
   (E.LINK_WAKE_TX.key 0, fun l r =>
      { (r.command (fun _ m => m.emit (.wakePulse l))) with range := fun _ v => v.toNat == 0 })]

/-- R292: a write of PORT_EN that MODE_FORBIDS refuses. -/
def Mod.portForbids (m : Mod) (k v : Nat) : Bool :=
  if v = 0 then
    (k == 5 || k == 6) && m.protOk k && !(m.n E.PATH_ACT 0 ≤ 1 || m.n E.PATH_ACT 0 == 8)
  else !m.b E.PORT_EN k && 2 ≤ m.n E.PROT_STATE k && m.causeHolds k

def portRows : List Tweak :=
  [(E.PORT_EN.key 0, fun k r =>
      { ((r.forbid (fun m v => m.portForbids k v)).command0 (fun v m =>
          if v = 0 then m.when (m.b E.PORT_EN k) (·.portDisable k) else m.when (!m.b E.PORT_EN k) (·.portEnable k))) with
        lvl := fun m v => if v.toNat = 1 ∧ m.n E.PROT_STATE k = 3 ∧ !m.b E.PORT_EN k then 2 else 1 }),
   (E.FLT_STICKY.key 0, fun b r => r.command0 (fun v m => m.stickyClear b v)),
   (E.FLT_LATCHED.key 0, fun b r => { (r.command0 (fun _ m => m.latchClear b)) with range := fun _ v => v.toNat == 1 }),
   (E.FLT_INJECT.key 0, fun b r =>
      { ((r.forbid (fun m _ => !m.b E.INJ_EN 0 || (b == 3 && (m.upLinks 1 ++ m.upLinks 2).isEmpty))).command0 (fun v m =>
          let m := m.inject b v
          m.each 16 (fun k m => m.when (b != 3 && bit v k) (·.arm (.injMiss b k) (m.tb + ms 1))))) with
        range := fun _ v => clearBits v.toNat (injectable b) != 0 })]

def measureRows : List Tweak :=
  [(E.CAP_CMD.key 0, fun _ r =>
      { ((r.forbid Mod.capForbids).command (fun v m => m.capCommand v)) with busy := fun m v => m.capBusy v.toNat }),
   (E.CABLE_CMD.key 0, fun _ r =>
      { ((r.forbid Mod.cableForbids).command (fun v m => m.cableAsk v)) with busy := fun m _ => m.cableBusy }),
   (E.CAL_SET.key 0, fun _ r =>
      { r.forbid (fun m _ => m.n E.ESESS_STATE 0 == 1) with
        range := fun _ v => calBeyond v.toBytes, act := fun _ _ v x => ((x.1.calAdjust v.toBytes, x.2), done) }),
   (E.ESESS_CMD.key 0, fun _ r =>
      (r.forbid (fun m v => if v = 1 then m.n E.ESESS_STATE 0 == 1 else m.n E.ESESS_STATE 0 != 1)).command
        (fun v m => if v = 1 then m.sessOpen else m.sessClose)),
   (E.PK_SNAP.key 0, fun k r => { (r.readsB (fun m => m.peakBytes k)) with clear := some (fun m => m.peakSnap k) }),
   (E.PHT_SNAP.key 0, fun p r => { (r.readsB (fun m => m.phtBytes p)) with clear := some (fun m => m.phtSnap p) }),
   (E.STEP_SNAP.key 0, fun _ r => { (r.readsB Mod.stepBytes) with clear := some Mod.stepSnap }),
   (E.CAP_RD_DATA.key 0, fun _ r => { (r.readsB Mod.capData) with unread := Mod.capBeyond }),
   (E.ESESS_REC.key 0, fun _ r => r.readsB Mod.sessRecord)]

/-- R415, R426, R490 to R493: commands and the keeper's entries. -/
def systemRows : List Tweak :=
  [(E.PSTORE_DEFAULTS.key 0, fun i r =>
      { r.forbid (fun m _ => 2 ≤ m.n E.ENV_EFF 0) with
        locked := fun x _ _ => !x.2.stage.isEmpty
        act := fun a _ v x =>
          let m : Mod := { x.1 with journal := x.1.journal ++
            [{ writes := [(E.PSTORE_DEFAULTS.key i, v)], olds := [], ask := some a, kind := 2 }] }
          (markRecord (m, x.2) a 2, .deferred) }),
   (E.RST_CMD.key 0, fun _ r =>
      { r with
        forbids := fun x q _ => !(x.1.n E.ENV_EFF 0 ≤ 1 || x.1.n E.ENV_EFF 0 == 8) || (q.transport == .zwl && !x.1.b E.NRST_EN 0)
        act := fun _ q _ x => ((x.1.resetBegin (if q.transport = .zwl then 7 else 4), x.2), done) }),
   (E.RTC.key 0, fun _ r => r.command0 (fun v m =>
      let m := m.setN E.RTC 0 v
      m.when (m.n E.ESESS_STATE 0 == 1) (fun m => { m with esess := { m.esess with clockSet := true } }))),
   (E.KPR_KEY.key 0, fun _ r =>
      { r with act := fun _ q v x =>
          let (m, st) := x.1.kprKey v.toNat (q.transport != .engine)
          ((m, x.2), .final st 0 [] (if st = 0 then 2 else 0)) }),
   (E.KPR_CHECKIN.key 0, fun _ r => r.command0 (fun v m => m.kprCheckin v)),
   (E.KPR_DOUBLE.key 0, fun _ r => r.command0 (fun v m => m.setN E.KPR_DOUBLE 0 (clearBits (m.n E.KPR_DOUBLE 0) v))),
   (E.H2W_FLAGS.key 0, fun _ r => r.command0 (fun v m => m.setN E.H2W_FLAGS 0 (clearBits (m.n E.H2W_FLAGS 0) v))),
   (E.B2W_FLAGS.key 0, fun u r => r.command0 (fun v m => m.setN E.B2W_FLAGS u (clearBits (m.n E.B2W_FLAGS u) v)))]

/-- R421: the keeper's configuration, locked once it has started. -/
def keeperRow (f : Fam) : Tweak :=
  (f.key 0, fun _ r =>
    { r with
      locked := fun x _ _ => x.1.kpr.locked
      act := fun _ _ v x => (({ x.1.setV f 0 v with kpr := { x.1.kpr with starting := true } }, x.2), done) })

def cmpRow (f : Fam) : Tweak :=
  (f.key 0, fun c r => { r with ro := fun _ _ => decide (c < 8), act := fun _ _ v x => cmpAct f c v x })

def secretRows : List Tweak :=
  [(E.CRED_LOGIN.key 0, fun _ r => { r with act := fun _ q v x => credLogin q v x }),
   (E.CRED_LOGOUT.key 0, fun _ r => { r with act := fun _ q _ x => (setSession x q.requester 0, done) }),
   (E.CRED_SET.key 0, fun _ r =>
      { r with lvl := fun _ v => if credByte v = 3 then 3 else 2, range := Mod.credBad, act := fun a _ v x => credSet a v x }),
   (E.SECRET_ERASE.key 0, fun _ r => r.command0 (fun _ m => m.eraseSecrets 3)),
   (E.RING_KEY_OWN.key 0, fun i r =>
      { r with act := fun a _ v x => secretAct 4 (E.RING_KEY_OWN.key i) v (.bytes (x.1.keys.own.getD [])) a x }),
   (E.RING_KEY_PAR.key 0, fun i r =>
      { r with act := fun a _ v x => secretAct 5 (E.RING_KEY_PAR.key i) v (.bytes (x.1.keys.par.getD [])) a x }),
   (E.SIGN_KEYGEN.key 0, fun _ r =>
      { r.forbid (fun m _ => m.n E.ESESS_STATE 0 == 1) with act := fun a _ _ x => signKeygen a x }),
   (E.FW_IMG.key 0, fun _ r =>
      { r.forbid (fun m _ => m.fw.switchPending) with first := Mod.imageFirst, act := fun _ q v x => imageLast q v x }),
   (E.FW_SWITCH.key 0, fun _ r =>
      (r.forbid (fun m _ => m.fw.altState != 2 || decide (m.fw.altVer < m.fw.floor))).command
        (fun _ m => { m with fw := { m.fw with switchPending := true } }))]

/-- Entries whose reads show what State keeps elsewhere. -/
def readRowsA : List Tweak :=
  [(E.TB.key 0, fun _ r => r.reads (·.tb)),
   (E.NTIME_OFS.key 0, fun _ r => r.reads (fun m => ofSigned 64 (roundR (m.ntimeNs - 10 * m.tb)))),
   (E.SECRET_STATE.key 0, fun _ r => r.reads (fun m => if m.keys.erased then 2 else 0)),
   (E.CRED_STATE.key 0, fun _ r => r.reads (fun m => flags3 (m.credOf 1).isSome (m.credOf 2).isSome (m.credOf 3).isSome)),
   (E.KEY_STATE.key 0, fun _ r => r.reads (fun m => flags3 m.keys.own.isSome m.keys.par.isSome m.keys.sign.isSome)),
   (E.ERASE_CAUSE.key 0, fun _ r => r.reads (·.keys.cause)),
   (E.TAMPER_STATE.key 0, fun _ r => r.reads (fun m => if m.safe.tamperOpen then 1 else if m.keys.latch then 2 else 0)),
   (E.FW_VER.key 0, fun _ r => r.reads (·.fw.ver)),
   (E.FW_BANK.key 0, fun _ r => r.reads (·.fw.bank)),
   (E.FW_ALT_VER.key 0, fun _ r => r.reads (·.fw.altVer)),
   (E.FW_ALT_STATE.key 0, fun _ r => r.reads (·.fw.altState)),
   (E.ESIG_PUB.key 0, fun _ r => r.readsB (fun m => fit 64 ((m.keys.sign.map Config.publicKey).getD []))),
   (E.ESIG_STATE.key 0, fun _ r => r.reads (fun m => b2n (m.keys.sign.isNone && m.keys.signErased)))]

def readRowsB : List Tweak :=
  [(E.SESSION_LVL.key 0, fun _ r => { r with get := fun x q => .num (x.2.level q) }),
   (E.SERIAL.key 0, fun _ r => r.readsB (fun _ => fit 16 Config.serial)),
   (E.MAC48.key 0, fun _ r => r.readsB (fun _ => leBytes 6 Config.mac48)),
   (E.MFG_DATE.key 0, fun _ r => r.reads (fun _ => Config.mfgDate % 2 ^ 64)),
   (E.CAL_ID.key 0, fun _ r => r.readsB (fun _ => Config.calId.take 16)),
   (E.CAL_DATE.key 0, fun _ r => r.reads (fun _ => Config.calDate % 2 ^ 64)),
   (E.FT_I.key 0, fun k r => r.reads (fun m => f32OfRat (m.ftI k))),
   (E.LOG_REC.key 0, fun _ r => r.readsB Mod.logRead),
   (E.BAT_WH_IN_LIFE.key 0, fun _ r => r.reads (fun m => m.n E.E_POS 4 / 1000)),
   (E.BAT_WH_OUT_LIFE.key 0, fun _ r => r.reads (fun m => m.n E.E_NEG 4 / 1000)),
   (E.REC_USED.key 0, fun _ r => { r with get := fun x _ => .num x.2.recs.length }),
   (E.STAGE_OWNER.key 0, fun _ r => { r with get := fun x _ => .num (x.2.owner.getD 0xFFFF) }),
   (E.STAGE_CNT.key 0, fun _ r => { r with get := fun x _ => .num x.2.stage.length })]

def readRowsC : List Tweak :=
  [(E.RING_TABLE.key 0, fun _ r => r.readsB Mod.ringTable),
   (E.PSTORE_USED.key 0, fun _ r => r.reads (fun m =>
      if m.pst.isEmpty then 0 else min (Config.pstoreUsed m.pst.length) 0x42C80000)),
   (E.H2W_PAGE.key 0, fun _ r => r.reads (·.h2w.page)),
   (E.DEPTH_INT.key 0, fun _ r => r.reads (fun m => min 127 m.depthInt)),
   (E.DEPTH_TRIP.key 0, fun _ r => r.reads (fun m => min 127 m.depthTrip)),
   (E.CLS_QUANTUM.key 0, fun c r => { r with ro := fun _ _ => decide (c ≤ 2) }),
   (E.MAP_TARGET.key 0, fun i r => { r with late := fun m => !m.mapTargetOk i }),
   (E.MAP_OFS.key 0, fun i r => { r with late := fun m => !m.mapFits i }),
   (E.MAP_FMT.key 0, fun i r => { r with late := fun m => !m.mapFits i })]

def tweaks : List Tweak :=
  modeRows ++ (profileRows ++ (ringRows ++ (portRows ++ (measureRows ++ (systemRows ++ (
    [keeperRow E.KPR_OPEN, keeperRow E.KPR_CLOSE, keeperRow E.KPR_TASKS, cmpRow E.CMP_MODE, cmpRow E.CMP_VAL, cmpRow E.CMP_INT] ++
    (secretRows ++ (readRowsA ++ (readRowsB ++ (readRowsC ++ heldRows))))))))))

/-- The rule of entry `i` of a family: its table row, the relations it stands in, and its own row. -/
def ruleOf (f : Fam) (i : Nat) : Rule :=
  let r := match tweaks.find? (fun t => t.1 == f.key 0) with
    | some t => t.2 i (Rule.base f i)
    | none => Rule.base f i
  { r with range := fun m v => r.range m v || crossFails f i m v }

end Sys2Proof.Machine
end

