-- ==== Sys2Proof/Machine/BusCmds.lean ====
section
/-! DEFINITION. Machine/BusCmds.lean: the commands of chapter Two-Wire and CAN Ports: the HOST2W window and its memory, HALERT,
the bus timeouts, BAT2W's polls, the compact CAN transport, the status frame and the mapped receive table (R453 to R475). -/

namespace Sys2Proof.Machine

open Sys2Proof

/-! ## The window's request buffer: a memory of bytes -/

/-- The request buffer's form: addresses strictly rising, and no byte equal to what an unlisted one reads as, 0. -/
def Memory.wf : List Host.Cell → Bool
  | [] => true
  | c :: r => c.2 != 0 && (match r with | [] => true | d :: _ => decide (c.1 < d.1)) && Memory.wf r

/-- The byte at an address of the buffer. -/
def bufGet : List Host.Cell → Nat → Nat
  | [], _ => 0
  | c :: r, a => if c.1 = a then c.2.toNat else bufGet r a

/-- The buffer with nothing listed at an address. -/
def bufDel : List Host.Cell → Nat → List Host.Cell
  | [], _ => []
  | c :: r, a => if c.1 = a then bufDel r a else c :: bufDel r a

/-- The buffer with a byte, not 0, listed at an address. -/
def bufIns : List Host.Cell → Nat → BitVec 8 → List Host.Cell
  | [], a, b => [(a, b)]
  | c :: r, a, b => if a < c.1 then (a, b) :: c :: r else if c.1 = a then (a, b) :: r else c :: bufIns r a b

/-- A byte is written at an address of the buffer. -/
def bufPut (l : List Host.Cell) (a b : Nat) : List Host.Cell :=
  if BitVec.ofNat 8 b = 0 then bufDel l a else bufIns l a (BitVec.ofNat 8 b)

/-! ## HOST2W: registers of the window (R454 to R459) -/

def Mod.modH2w (m : Mod) (f : H2w → H2w) : Mod := { m with h2w := f m.h2w }

/-- A sticky bit of H2W_FLAGS. -/
def Mod.h2wFlag (m : Mod) (k : Nat) : Mod := m.setBit E.H2W_FLAGS 0 k true

/-- R453: the target cannot take a transaction. -/
def Mod.h2wBusy (m : Mod) : Bool := m.b E.Q_HIGH 20 || decide (m.tb < m.h2w.busyTo)

/-- R453: the address is not acknowledged. -/
def Mod.h2wNack (m : Mod) : Mod := ((m.h2wFlag 4).inc E.H2W_NACKS 0).emit (.h2wAck [])

/-- R382: the request that body bytes spell. -/
def reqOfBody (b : List Nat) (requester : Nat) (transport : Transport) : Req :=
  let at_ := fun (k n : Nat) => leNat ((b.drop k).take n)
  { op := at_ 0 1, index := at_ 2 2, sub := at_ 4 1, ty := at_ 5 1, len := at_ 6 2, epoch := at_ 8 4, seq := at_ 12 2,
    offset := at_ 16 4, more := bit (at_ 1 1) 1, stagedView := bit (at_ 1 1) 0, data := b.drop 20,
    requester := requester, transport := transport }

def h2wRequester : Nat := 0x4100

/-- The buffer's address of an offset of a page (R455): five pages of 255 bytes. -/
def bufAddr (page ofs : Nat) : Nat := (page % 16) * 255 + ofs
def requestPage (page : Nat) : Bool := 0x10 ≤ page && page ≤ 0x14
def responsePage (page : Nat) : Bool := 0x20 ≤ page && page ≤ 0x24

/-- R457: a GO is taken: nothing is in flight and the length is one of a body. -/
def Mod.mayGo (m : Mod) : Bool := m.h2w.xstate == 0 && 20 ≤ m.h2w.reqLen && m.h2w.reqLen ≤ 1044

/-- The request in the buffer. -/
def Mod.h2wRequest (m : Mod) : Req :=
  reqOfBody ((List.range m.h2w.reqLen).map (bufGet m.h2w.buf)) h2wRequester .host2w

/-- R457: GO: the request is submitted and served. -/
def h2wGo (x : Sys) : Sys :=
  if x.1.mayGo then
    let r := x.1.h2wRequest
    let m := x.1.modH2w (fun h => { h with xstate := 1, go := some (askerOf r (x.1.n E.EPOCH 0)), busyTo := x.1.tb + us 50 })
    serve ruleOf r (m, x.2)
  else x

/-- R457: RELEASE: the response is given up. -/
def Mod.h2wRelease (m : Mod) : Mod :=
  if m.h2w.xstate = 2 then
    (m.modH2w (fun h => { h with xstate := 0, rsp := [] })).alertTo (Sys2Proof.setBit m.alert 0 false) m.h2w.mask
  else m

/-- R458: a write of 1 clears a bit of ALERT_CAUSE, unless it was set in the present mode tick. -/
def Mod.alertClear (m : Mod) (bits : Nat) : Mod :=
  m.alertTo (clearBits m.alert (clearBits bits m.alertNew)) m.h2w.mask

/-- The place of a U16 of page 0 among those whose low byte waits: offsets 1, 6, 8 and 0xA. -/
def lowPlace (ofs : Nat) : Option Nat :=
  match ofs with
  | 1 => some 0 | 6 => some 1 | 8 => some 2 | 0xA => some 3 | _ => none

/-- R456: the U16 whose high byte has been written takes its value. -/
def Mod.h2wWord (m : Mod) (ofs high : Nat) : Option Mod :=
  let word := fun (k : Nat) => high * 256 + (m.h2w.lows[k]?).getD 0
  match ofs with
  | 2 => some (m.modH2w (fun h => { h with reqLen := word 0 }))
  | 7 => some (m.alertClear (word 1))
  | 9 => some (m.alertTo m.alert (word 2 &&& 0x3F))
  | 0xB => some (m.setN E.H2W_FLAGS 0 (clearBits (m.n E.H2W_FLAGS 0) (word 3)))
  | _ => none

/-- A data byte at an offset of the selected page, and whether it is acknowledged. -/
def h2wPut (ofs b : Nat) (x : Sys) : Sys × Bool :=
  let m := x.1
  let page := m.h2w.page
  if requestPage page then
    if m.h2w.xstate = 1 then (x, false)
    else ((m.modH2w (fun h => { h with buf := bufPut h.buf (bufAddr page ofs) b }), x.2), true)
  else if page ≠ 0 then (x, false)
  else if ofs = 3 then
    if b = 1 ∧ m.mayGo then (h2wGo x, true)
    else if b = 2 ∧ m.h2w.xstate = 2 then ((m.h2wRelease, x.2), true)
    else (x, false)
  else
    match lowPlace ofs with
    | some k => ((m.modH2w (fun h => { h with lows := setAt 0 h.lows k b }), x.2), true)
    | none =>
      match m.h2wWord ofs b with
      | some m => ((m, x.2), true)
      | none => (x, false)

/-- A write transaction in progress: its acknowledges, newest last; the next data byte is its first; a wrap has ended it. -/
structure WriteX where
  x : Sys
  acks : List Bool
  first : Bool
  wrapped : Bool

/-- R454, R455: one data byte of a write transaction. -/
def h2wByte (w : WriteX) (b : Nat) : WriteX :=
  let m := w.x.1
  if w.wrapped then { w with acks := w.acks ++ [false] }
  else if m.h2w.ptr = 0xFF then
    if w.first then
      { x := (m.modH2w (fun h => { h with page := b % 256, ptr := 0 }), w.x.2), acks := w.acks ++ [true], first := false,
        wrapped := false }
    else { x := (m.h2wFlag 1, w.x.2), acks := w.acks ++ [false], first := false, wrapped := true }
  else
    let (x, ok) := h2wPut m.h2w.ptr (b % 256) w.x
    { x := (x.1.modH2w (fun h => { h with ptr := m.h2w.ptr + 1 }), x.2), acks := w.acks ++ [ok], first := false, wrapped := false }

/-- R417: a new H2W_ADDR answers from the STOP after its write is durable. -/
def Mod.h2wStop (m : Mod) : Mod :=
  if m.journal.any (fun j => j.writes.any (fun w => w.1 == E.H2W_ADDR.key 0)) then m
  else m.modH2w (fun h => { h with addr := none })

/-- R454, R460: a write transaction: its first byte sets the pointer, the others are written at it; a byte whose
acknowledge slot is interrupted is discarded. -/
def h2wWrite (bytes : List Nat) (e : Ending) (x : Sys) : Sys :=
  if x.1.h2wBusy then (x.1.h2wNack, x.2)
  else
    let taken := if e = .stop then bytes else bytes.dropLast
    let x : Sys := (x.1.when (e == .srInAck) (·.h2wFlag 0), x.2)
    let w : WriteX := match taken with
      | [] => { x := x, acks := [], first := true, wrapped := false }
      | p :: rest =>
        rest.foldl h2wByte
          { x := (x.1.modH2w (fun h => { h with ptr := p % 256 }), x.2), acks := [true], first := true, wrapped := false }
    let m := (w.x.1.emit (.h2wAck w.acks)).when (e == .stop) (fun m => (m.inc E.H2W_XFERS 0).h2wStop)
    (m, w.x.2)

def execH2wWriteTransaction (t : Nat) (bytes : List Nat) (e : Ending) (s : State) : Host.Outcome State Fault Refusal :=
  execS t (h2wWrite bytes e) s

/-- R459: bytes 0x00 to 0x1B of page 1, as they stand at a mode tick. -/
def Mod.pageOne (m : Mod) : List Nat :=
  [m.n E.ENV_EFF 0, m.n E.PATH_ACT 0] ++ leBytes 2 (m.n E.PATH_REASON 0) ++ leBytes 2 (m.n E.FLT_SUMMARY 0) ++
  leBytes 2 (m.n E.SAFE_FORCE_SRC 0) ++ leBytes 4 (m.n E.TEL_V 5) ++ leBytes 4 (m.n E.TEL_I 5) ++ leBytes 4 (m.n E.TEL_V 4) ++
  leBytes 4 (m.n E.TEL_I 4) ++ leBytes 4 (m.n E.EPOCH 0)

/-- R457: STAT. -/
def Mod.h2wStat (m : Mod) : Nat := m.h2w.xstate + (if m.alert &&& m.h2w.mask = 0 then 0 else 4)

/-- R456: the U16 of page 0 that begins at an offset. -/
def Mod.h2wField (m : Mod) (ofs : Nat) : Option Nat :=
  match ofs with
  | 1 => some m.h2w.reqLen
  | 4 => some m.h2w.rsp.length
  | 6 => some m.alert
  | 8 => some m.h2w.mask
  | 0xA => some (m.n E.H2W_FLAGS 0)
  | _ => none

/-- R456: a byte of page 0; a U16's high byte is the one latched with its low byte (R454). -/
def Mod.h2wZero (m : Mod) (ofs : Nat) : Nat :=
  match ofs with
  | 0 => m.h2wStat
  | 0xC => 1
  | _ =>
    match m.h2wField ofs with
    | some v => v % 256
    | none =>
      if ofs = 0 then 0
      else
        match m.h2w.rlatch with
        | some (o, v) => if o + 1 = ofs then v / 256 else ((m.h2wField (ofs - 1)).getD 0) / 256
        | none => ((m.h2wField (ofs - 1)).getD 0) / 256

/-- The byte that a read returns at the pointer. -/
def Mod.h2wGet (m : Mod) : Nat :=
  let page := m.h2w.page
  let ofs := m.h2w.ptr
  if ofs = 0xFF then page
  else if page = 0 then m.h2wZero ofs
  else if page = 1 then (m.h2w.snap[ofs]?).getD 0
  else if requestPage page then bufGet m.h2w.buf (bufAddr page ofs)
  else if responsePage page then (m.h2w.rsp[bufAddr page ofs]?).getD 0
  else 0

/-- One byte of a read transaction: the pointer advances and wraps. -/
def Mod.h2wReadByte (m : Mod) : Mod × Nat :=
  let b := m.h2wGet
  let latch := if m.h2w.page = 0 then (m.h2wField m.h2w.ptr).map (fun v => (m.h2w.ptr, v)) else none
  (m.modH2w (fun h => { h with rlatch := latch, ptr := (h.ptr + 1) % 256 }), b)

def Mod.h2wReadBytes (m : Mod) : Nat → Mod × List Nat
  | 0 => (m, [])
  | n + 1 =>
    let (m, b) := m.h2wReadByte
    let (m, r) := m.h2wReadBytes n
    (m, b :: r)

/-- R454, R459: a read transaction from the pointer. -/
def Mod.h2wRead (count : Nat) (m : Mod) : Mod :=
  if m.h2wBusy then m.h2wNack
  else
    let m := m.modH2w (fun h => { h with snap := fit 28 h.live ++ leBytes 4 m.tb })
    let (m, b) := m.h2wReadBytes count
    ((m.emit (.h2w b)).inc E.H2W_XFERS 0).h2wStop

def execH2wReadTransaction (t : Nat) (count : Nat) (s : State) : Host.Outcome State Fault Refusal := execM t (Mod.h2wRead count) s

/-- R455: a write transaction with pointer byte 0xFF selects a page. -/
def execH2wPageSelect (t : Nat) (page : Nat) (s : State) : Host.Outcome State Fault Refusal :=
  execS t (h2wWrite [0xFF, page] .stop) s

/-- R453: a transaction that the target cannot take is not acknowledged and does nothing. -/
def Mod.unlessBusy (m : Mod) (f : Mod → Mod) : Mod := if m.h2wBusy then m.h2wNack else f m

/-- R453, R457: a transaction that writes GO. -/
def h2wGoWrite (x : Sys) : Sys := if x.1.h2wBusy then (x.1.h2wNack, x.2) else h2wGo x

def execH2wGo (t : Nat) (s : State) : Host.Outcome State Fault Refusal := execS t h2wGoWrite s
def execH2wRelease (t : Nat) (s : State) : Host.Outcome State Fault Refusal := execM t (·.unlessBusy Mod.h2wRelease) s

/-- R457, R458: the response of the request in flight comes to the window. -/
def Mod.h2wResponse (m : Mod) : Mod :=
  match m.h2w.waiting with
  | b :: rest =>
    if m.h2w.xstate = 1 then
      ((m.dequeue 21).modH2w (fun h =>
        { h with waiting := rest, rsp := b, xstate := 2, go := none, busyTo := m.tb + us 50 })).alertSet 0
    else m
  | [] => m

def execH2wResponse (t : Nat) (s : State) : Host.Outcome State Fault Refusal := execM t Mod.h2wResponse s

def execAlertCauseWrite (t : Nat) (bits : Nat) (s : State) : Host.Outcome State Fault Refusal :=
  execM t (·.unlessBusy (·.alertClear bits)) s

/-- R461: a read at 0x0C: the module sends its address; sent whole, it releases HALERT. -/
def Mod.alertResponse (won : Bool) (m : Mod) : Mod :=
  if m.h2w.pulled then
    let addr := m.h2w.addr.getD (m.n E.H2W_ADDR 0)
    (m.emit (.h2w [2 * addr])).when won (·.modH2w (fun h => { h with pulled := false }))
  else m

def execAlertResponse (t : Nat) (won : Bool) (s : State) : Host.Outcome State Fault Refusal := execM t (Mod.alertResponse won) s

/-- R460: a repeated START in an acknowledge slot. -/
def execH2wSrInAck (t : Nat) (s : State) : Host.Outcome State Fault Refusal := execM t (·.h2wFlag 0) s

/-! ## BAT2W (R462 to R467) -/

def Mod.b2wOf (m : Mod) (u : Nat) : B2w := (m.b2w[u]?).getD {}
def Mod.modB2w (m : Mod) (u : Nat) (f : B2w → B2w) : Mod := { m with b2w := modAt {} m.b2w u f }
def Mod.b2wFlag (m : Mod) (u k : Nat) : Mod := m.setBit E.B2W_FLAGS u k true

/-- R465, R476: a poll ends in failure; three in succession raise source 10:1. -/
def Mod.pollFailed (m : Mod) (u : Nat) : Mod :=
  let n := (m.b2wOf u).failed + 1
  (m.modB2w u (fun b => { b with running := false, wrote := none, repeated := false, failed := n })).when (3 ≤ n) (·.raise 10 1)

/-- R465: a transaction fails: it is repeated once after 5 ms, and after a second failure the poll ends. -/
def Mod.b2wFail (m : Mod) (u : Nat) : Mod :=
  let m := m.inc E.B2W_ERR_CNT u
  if (m.b2wOf u).repeated then m.pollFailed u
  else (m.modB2w u (fun b => { b with running := false, repeated := true })).arm (.b2wRetry u)
    (max m.tb (m.b2wOf u).busyTo + ms 5)

/-- R462: a port's timeouts within 60 s, with one more. -/
def recentTmos (now : Nat) (l : List Nat) : List Nat := now :: l.filter (fun t => decide (now < t + sec 60))

/-- R462, R476: ten timeouts of the two-wire ports within 60 s raise source 10:0. -/
def Mod.tmoFault (m : Mod) : Mod :=
  let all := m.h2w.tmos ++ m.b2w.flatMap (·.tmos)
  m.when (10 ≤ (all.filter (fun t => decide (m.tb < t + sec 60))).length) (·.raise 10 0)

/-- R462, R465: a transaction was in progress when a line that now times out went low: a Block Read, or a Write Word that has not had
time to end before it. DESIGN CHOICE (assumption log 66): no command reports the end of a Write Word. -/
def Mod.b2wBusy (m : Mod) (u : Nat) : Bool :=
  (m.b2wOf u).running || ((m.b2wOf u).wrote.any (fun t => decide (m.tb < t + ms 36)))

/-- R462: a line of port 0 (HOST2W) or 1 and 2 (BAT2W) has stayed low; `k` is its flag bit. At an SDA timeout a controller port clocks
the bus free and sends a STOP. -/
def Mod.lineTimeout (k port : Nat) (m : Mod) : Mod :=
  if port = 0 then
    ((m.h2wFlag k).modH2w (fun h => { h with tmos := recentTmos m.tb h.tmos, busyTo := m.tb + ms 10 })).tmoFault
  else if port ≤ 2 then
    let u := port - 1
    let m := ((m.b2wFlag u k).modB2w u (fun b => { b with tmos := recentTmos m.tb b.tmos })).tmoFault
    let m := m.when (k == 3) (·.emit (.busClear port))
    m.when (m.b2wBusy u) (·.b2wFail u)
  else m

def execSclTimeout (t : Nat) (port : Nat) (s : State) : Host.Outcome State Fault Refusal := execM t (Mod.lineTimeout 2 port) s
def execSdaTimeout (t : Nat) (port : Nat) (s : State) : Host.Outcome State Fault Refusal := execM t (Mod.lineTimeout 3 port) s

/-- R463: the Block Read of a poll goes out, and its Write Word. -/
def Mod.blockRead (m : Mod) (u : Nat) : Mod :=
  (m.modB2w u (fun b => { b with running := true })).emit (.twoWire (u + 1) (m.n E.B2W_TARGET u) [0x30])

def Mod.writeWord (m : Mod) (u : Nat) : Mod :=
  (m.modB2w u (fun b => { b with wrote := some m.tb })).emit (.twoWire (u + 1) (m.n E.B2W_TARGET u) m.flagsWord)

/-- A port may start a poll: BMS_SRC names it, it is idle and the bus is free. -/
def Mod.b2wReady (m : Mod) (u : Nat) : Bool :=
  u < 2 && m.n E.BMS_SRC 0 == u + 1 && !(m.b2wOf u).running && !m.armed (.b2wRetry u) && decide ((m.b2wOf u).busyTo ≤ m.tb)

/-- A poll starts where `span` ticks have passed since the previous one began. One whose Write Word was not heard to fail has not
failed (R476). -/
def Mod.pollAfter (m : Mod) (u span : Nat) : Mod :=
  if m.b2wReady u && (match (m.b2wOf u).lastPoll with | none => true | some t => decide (t + span ≤ m.tb)) then
    (m.modB2w u (fun b => { b with
      lastPoll := some m.tb, wrote := none, repeated := false, arbTries := 0, failed := if b.wrote.isSome then 0 else b.failed })).blockRead u
  else m

/-- R463: every B2W_POLL. -/
def execBat2wPoll (t : Nat) (u : Nat) (s : State) : Host.Outcome State Fault Refusal :=
  execM t (fun m => m.pollAfter u (ms (m.n E.B2W_POLL u))) s

/-- R463: an edge on BALERT counts, and starts a poll where 10 ms have passed. -/
def execBalertEdge (t : Nat) (u : Nat) (s : State) : Host.Outcome State Fault Refusal :=
  execM t (fun m => (m.inc E.BALERT_CNT u).pollAfter u (ms 10)) s

/-- R463: the fields of a Block Read: entry, unit, and the entry's number among those that age. -/
def blockFields : List (Fam × Rat × Option Nat) :=
  [(E.BMS_ICHG, dec 1 1, some 0), (E.BMS_IDIS, dec 1 1, some 1), (E.BMS_VMAX, dec 1 1, some 2), (E.BMS_VMIN, dec 1 1, some 3),
   (E.BMS_SOC, dec 1 2, none), (E.BMS_FLAGS, 1, some 4)]

/-- R464: one field: 0xFFFF is not written, a value beyond the range is recorded. -/
def Mod.blockField (m : Mod) (x : Nat × Fam × Rat × Option Nat) : Mod :=
  let f := x.2.1
  if x.1 = 0xFFFF then m
  else
    let raw := if f.ty = .f32 then f32OfRat (x.2.2.1 * x.1) else x.1
    if !f.inRange (.num raw) then m.noteAt f 0
    else m.bmsPut f ((f.mask (.num raw)).toNat) x.2.2.2

/-- R222, R463 to R465: the Block Read ends. What it brings after BMS_SRC has changed is ignored, each write counted. -/
def Mod.blockDone (u : Nat) (x : BmsBlock) (m : Mod) : Mod :=
  if !(m.b2wOf u).running then m
  else
    let badPec := m.b E.B2W_PEC u && !x.pecOk
    let m := ((m.when x.nack (·.b2wFlag u 4)).when badPec (·.b2wFlag u 5)).when x.stretch (·.b2wFlag u 6)
    if x.nack || badPec || x.stretch || x.tmo || x.count != 12 then m.b2wFail u
    else
      let m := m.modB2w u (fun b => { b with running := false, repeated := false })
      if m.n E.BMS_SRC 0 ≠ u + 1 then ((fit 6 x.words).filter (· != 0xFFFF)).foldl (fun m _ => m.bmsReject) m else
      let m := (((fit 6 x.words).zip blockFields).foldl Mod.blockField m).bmsSettle
      m.writeWord u

def execBat2wBlockReadDone (t : Nat) (u : Nat) (x : BmsBlock) (s : State) : Host.Outcome State Fault Refusal :=
  execM t (Mod.blockDone u x) s

/-- R465, R466: the repeat of a transaction is due. -/
def Mod.b2wRetry (u : Nat) (m : Mod) : Mod :=
  if m.due (.b2wRetry u) then
    let m := m.disarm (.b2wRetry u)
    if m.n E.BMS_SRC 0 ≠ u + 1 then m else if (m.b2wOf u).wrote.isSome then m.writeWord u else m.blockRead u
  else m

def execBat2wRetry (t : Nat) (u : Nat) (s : State) : Host.Outcome State Fault Refusal := execM t (Mod.b2wRetry u) s

/-- R466: arbitration is lost: its flag, and at a STOP or repeated START the bus is taken as busy for 35 ms. The poll's transaction has
failed, or is tried again. -/
def Mod.arbLost (u : Nat) (atStop : Bool) (m : Mod) : Mod :=
  let reading := (m.b2wOf u).running || (m.b2wOf u).wrote.isSome
  if 2 ≤ u then m
  else if atStop then
    let m := (m.b2wFlag u 1).when reading (fun m => (m.inc E.B2W_ERR_CNT u).pollFailed u)
    m.modB2w u (fun b => { b with busyTo := m.tb + ms 35 })
  else
    let m := m.b2wFlag u 0
    if !reading then m
    else if (m.b2wOf u).arbTries < 3 then
      (m.modB2w u (fun b => { b with running := false, arbTries := b.arbTries + 1 })).arm (.b2wRetry u) (m.tb + us 50)
    else m.b2wFail u

def execArbLost (t : Nat) (u : Nat) (atStop : Bool) (s : State) : Host.Outcome State Fault Refusal :=
  execM t (Mod.arbLost u atStop) s

/-! ## CAN: the compact transport and the status frame (R468 to R472) -/

/-- R468: the port takes part in the bus. -/
def Mod.canOn (m : Mod) (u : Nat) : Bool := u < 2 && m.b E.CAN_EN u && m.n E.CAN_STATE u != 2

/-- R469: the identifier is one of the compact transport's 64. -/
def Mod.canCompact (m : Mod) (f : CanFrame) : Bool :=
  !f.ext && m.n E.CAN_OD_BASE f.bus ≤ f.id && f.id < m.n E.CAN_OD_BASE f.bus + 64

/-- R469, R470: the requester of a compact request that is addressed to the module and whole. -/
def Mod.canAsker (m : Mod) (f : CanFrame) : Option Nat :=
  let n := f.id - m.n E.CAN_OD_BASE f.bus
  let len := leNat ((f.data.drop 6).take 1)
  if m.canOn f.bus && m.canCompact f && f.fd && 1 ≤ n && n ≤ 31 && f.data.head? == some (m.n E.CAN_NODE f.bus) &&
      len ≤ 44 && 20 + len ≤ f.data.length then some (0x4200 + 0x80 * f.bus + n)
  else none

/-- R470: the request that a frame spells. -/
def canReq (f : CanFrame) (who : Nat) : Req :=
  let at_ := fun (k n : Nat) => leNat ((f.data.drop k).take n)
  let o := at_ 1 1
  { op := o % 8, index := at_ 2 2, sub := at_ 4 1, ty := at_ 5 1, len := at_ 6 1, epoch := at_ 8 4, seq := at_ 12 2,
    offset := at_ 16 4, more := bit o 4, stagedView := bit o 3, data := (f.data.drop 20).take (at_ 6 1),
    requester := who, transport := .can f.bus }

def canRequest (f : CanFrame) (x : Sys) : Sys :=
  match x.1.canAsker f with
  | some who => serve ruleOf (canReq f who) x
  | none => x

def execCanRequest (t : Nat) (f : CanFrame) (s : State) : Host.Outcome State Fault Refusal := execS t (canRequest f) s

/-- R472: a status frame is due on port `u`. -/
def Mod.statusDue (m : Mod) (u : Nat) : Bool :=
  m.b E.CAN_EN u && m.n E.BMS_SRC 0 == 3 &&
  (match (m.can.lastStatus[u]?).getD none with | none => true | some t => decide (t + ms 100 ≤ m.tb)) ||
  (m.b E.CAN_EN u && m.n E.BMS_SRC 0 == 3 && (m.can.sentFlags[u]?).getD 0 != m.n E.MOD_FLAGS 0)

def Mod.canStatus (m : Mod) : Mod :=
  m.each 2 (fun u m =>
    if m.statusDue u then
      let m := m.canSend u 0xFFFF 0 (m.statusFrame u)
      { m with can := { m.can with lastStatus := setAt none m.can.lastStatus u (some m.tb), sentFlags := setAt 0 m.can.sentFlags u (m.n E.MOD_FLAGS 0) } }
    else m)

def execCanStatusFrame (t : Nat) (s : State) : Host.Outcome State Fault Refusal := execM t Mod.canStatus s

/-! ## The mapped receive table (R473 to R475) -/

/-- R473: a frame matches mapping `i`. -/
def Mod.mapMatches (m : Mod) (f : CanFrame) (i : Nat) : Bool :=
  let id := m.n E.MAP_ID i
  let mask := m.n E.MAP_MASK i
  m.b E.MAP_EN i && m.n E.MAP_BUS i == f.bus && bit id 31 == f.ext && (f.id &&& mask) == ((id % 2 ^ 29) &&& mask)

/-- R419, R474: the number that a field's bytes code, and none for a code that names no type or an F32 that is no number. -/
def mapRaw (fmt : Nat) (bytes : List Nat) : Option Rat :=
  let n := leNat (if bit fmt 3 then bytes.reverse else bytes)
  match fmt % 8 with
  | 0 | 1 | 2 => some n
  | 3 => some (toSigned 16 n)
  | 4 => some (toSigned 32 n)
  | 5 => if f32Finite n then some (f32ToRat n) else none
  | _ => none

/-- R474: raw × MAP_SCALE + MAP_OFFSET, computed in F32. -/
def Mod.mapValue (m : Mod) (i : Nat) (raw : Rat) : Rat :=
  f32Round (f32Round (f32Round raw * m.q E.MAP_SCALE i) + m.q E.MAP_OFFSET i)

/-- R474: the value as the target's type holds it, rounded for an integer; none where the type has no such number. -/
def Fam.fromRat (f : Fam) (q : Rat) : Option Val :=
  let z := roundR q
  let n := fun (bits : Nat) => if 0 ≤ z ∧ z < 2 ^ bits then some (Val.num z.toNat) else none
  let i := fun (bits : Nat) => if -(2 ^ (bits - 1) : Nat) ≤ z ∧ z < (2 ^ (bits - 1) : Nat) then some (Val.num (ofSigned bits z)) else none
  match f.ty with
  | .bool => n 1 | .u8 => n 8 | .u16 => n 16 | .u32 => n 32 | .u64 => n 64 | .time64 => n 64
  | .i16 => i 16 | .i32 => i 32 | .i64 => i 64
  | .f32 => some (.num (f32OfRat q))
  | _ => none

/-- R474: the request of a mapping: it has no completion record; its SEQ is one no requester has. -/
def mapReq (f : Fam) (i bus : Nat) : Req :=
  { op := 2, index := f.index i, sub := f.sub, ty := tyCode f.ty, len := 0, epoch := 0, seq := 0x10000, offset := 0, more := false,
    stagedView := false, data := [], requester := 0x4200 + 0x80 * bus, transport := .can bus }

/-- R474: a value is written to the entry a mapping names, by the checks of R387 from step 8; whether it was taken. -/
def mapWrite (f : Fam) (i bus : Nat) (v : Val) (x : Sys) : Sys × Bool :=
  let r := mapReq f i bus
  let ru := ruleOf f i
  let v := f.mask v
  if f.acc ≠ .rw ∨ ru.ro x.1 r then (x, false)
  else
    match checkValue x f i ru r 1 v false false with
    | some _ => (x, false)
    | none =>
      let (y, reply) := ru.act (askerOf r 0) r v x
      let m : Mod := { y.1 with journal := y.1.journal.map (fun j => if j.ask.any (·.seq == 0x10000) then { j with ask := none } else j) }
      ((m, y.2), match reply with
        | .final st _ _ _ => decide (st ≤ 1)
        | .deferred => true)

/-- R222, R474: a decoded value goes to the mapping's target. -/
def mapApply (i bus : Nat) (q : Rat) (x : Sys) : Sys × Bool :=
  match x.1.mapTarget i with
  | none => (x, false)
  | some (f, k) =>
    match f.fromRat q with
    | none => (x, false)
    | some v =>
      if bmsTarget f then
        if x.1.n E.BMS_SRC 0 ≠ 3 then ((x.1.bmsReject, x.2), true)
        else if !f.inRange v then (x, false)
        else
          let place := (blockFields.find? (fun b => b.1.key 0 == f.key 0)).bind (·.2.2)
          (((x.1.bmsPut f (f.mask v).toNat place).bmsSettle, x.2), true)
      else mapWrite f k bus v x

/-- R473 to R475: a frame meets mapping `i`. -/
def mapFrame (f : CanFrame) (x : Sys) (i : Nat) : Sys :=
  let m := x.1
  if !m.mapMatches f i then x
  else
    let len := mapLength (m.n E.MAP_FMT i)
    let field := (f.data.drop (m.n E.MAP_OFS i)).take len
    let st := (m.can.maps[i]?).getD {}
    if f.data.length < m.n E.MAP_OFS i + len then
      if st.shortNoted then x
      else (({ m with can := { m.can with maps := setAt {} m.can.maps i { st with shortNoted := true } } } : Mod).noteAt E.MAP_OFS i, x.2)
    else
      let m : Mod := { m with can := { m.can with maps := setAt {} m.can.maps i { last := some m.tb, shortNoted := false } } }
      let m := m.inc E.MAP_RX_CNT i
      let m := if m.n E.MAP_STALE_T i = 0 then m.disarm (.mapStale i) else m.arm (.mapStale i) (m.tb + ms (m.n E.MAP_STALE_T i))
      match mapRaw (m.n E.MAP_FMT i) field with
      | none => (m.setN E.MAP_STATE i 3, x.2)
      | some raw =>
        let (y, ok) := mapApply i f.bus (m.mapValue i raw) (m, x.2)
        (y.1.setN E.MAP_STATE i (if ok then 1 else 3), y.2)

/-- R469, R473: a frame that is none of the compact transport's is offered to every mapping in ascending order. -/
def mappedFrame (f : CanFrame) (x : Sys) : Sys :=
  if x.1.canOn f.bus && !x.1.canCompact f then (List.range 32).foldl (mapFrame f) x else x

def execCanMappedFrame (t : Nat) (f : CanFrame) (s : State) : Host.Outcome State Fault Refusal := execS t (mappedFrame f) s

/-- R475: MAP_STALE_T has passed since the latest decoded frame. -/
def Mod.mapStale (i : Nat) (m : Mod) : Mod :=
  if m.due (.mapStale i) then (m.disarm (.mapStale i)).when (m.b E.MAP_EN i) (·.setN E.MAP_STATE i 2) else m

def execMapStale (t : Nat) (i : Nat) (s : State) : Host.Outcome State Fault Refusal := execM t (Mod.mapStale i) s

/-! ## CAN port states (R468, R476) -/

def Mod.canFaults (m : Mod) : Mod :=
  let any := fun (st : Nat) => m.n E.CAN_STATE 0 == st || m.n E.CAN_STATE 1 == st
  (m.sync 11 0 (any 2)).sync 11 1 (any 1)

def Mod.canBusOff (u : Nat) (m : Mod) : Mod :=
  if m.canOn u then (((m.setN E.CAN_STATE u 2).inc E.CAN_BUSOFF_CNT u).raise 11 0).canFaults else m

def execCanBusOff (t : Nat) (u : Nat) (s : State) : Host.Outcome State Fault Refusal := execM t (Mod.canBusOff u) s

/-- R468: the port recovers, and the frames that waited leave. -/
def Mod.canRecover (u : Nat) (m : Mod) : Mod :=
  if u < 2 && m.n E.CAN_STATE u == 2 then
    let q := if u = 0 then 16 else 18
    let mine := m.can.held.filter (·.bus == u)
    let m : Mod := { m with can := { m.can with held := m.can.held.filter (·.bus != u) } }
    mine.foldl (fun m f => (m.dequeue q).emit (.can f)) ((m.setN E.CAN_STATE u 0).canFaults)
  else m

def execCanBusOffRecover (t : Nat) (u : Nat) (s : State) : Host.Outcome State Fault Refusal := execM t (Mod.canRecover u) s

/-- R476: a port enters error-passive, or leaves it. -/
def Mod.canPassive (u : Nat) (passive : Bool) (m : Mod) : Mod :=
  if m.canOn u then ((m.setN E.CAN_STATE u (b2n passive)).when passive (·.raise 11 1)).canFaults else m

def execCanErrorPassive (t : Nat) (u : Nat) (passive : Bool) (s : State) : Host.Outcome State Fault Refusal :=
  execM t (Mod.canPassive u passive) s

end Sys2Proof.Machine
end

