-- ==== Sys2Proof/Machine/WriteCmds.lean ====
section
/-! DEFINITION. Machine/WriteCmds.lean: the commands that are requests: writes of one entry, snapshots that a read clears, the
operations of the object dictionary, commits and journal records, the timers of chapter The Object Dictionary, compare
matches, and the frames that a station forwards or consumes for no other command. -/

namespace Sys2Proof.Machine

open Sys2Proof

/-! ## Writes of one entry

The request is served as any other (R387); one that names another entry is no such command. -/

/-- A WRITE of an entry of family `f`. -/
def ownWrite (f : Fam) (r : Req) (x : Sys) : Sys := if reqNames r 2 f then serve ruleOf r x else x

/-- A WRITE of code `c` to `f`. -/
def ownCode (f : Fam) (c : Nat) (r : Req) (x : Sys) : Sys :=
  if reqNames r 2 f && leNat r.data == c then serve ruleOf r x else x

/-- A READ of a read-clear entry of `f`. -/
def ownRead (f : Fam) (r : Req) (x : Sys) : Sys := if reqNames r 1 f then serve ruleOf r x else x

def execEnvReqWrite (t : Nat) (r : Req) (s : State) : Host.Outcome State Fault Refusal := execS t (ownWrite E.ENV_REQ r) s
def execCouplingReqWrite (t : Nat) (r : Req) (s : State) : Host.Outcome State Fault Refusal :=
  execS t (ownWrite E.COUPLING_REQ r) s
def execPowerReqWrite (t : Nat) (r : Req) (s : State) : Host.Outcome State Fault Refusal := execS t (ownWrite E.POWER_REQ r) s
def execSysVsetWrite (t : Nat) (r : Req) (s : State) : Host.Outcome State Fault Refusal := execS t (ownWrite E.SYS_VSET r) s
def execSrcPolicyWrite (t : Nat) (r : Req) (s : State) : Host.Outcome State Fault Refusal :=
  execS t (ownWrite E.SRC_POLICY r) s
def execManSlackWrite (t : Nat) (r : Req) (s : State) : Host.Outcome State Fault Refusal := execS t (ownWrite E.MAN_SLACK r) s
def execLoopPresetWrite (t : Nat) (r : Req) (s : State) : Host.Outcome State Fault Refusal :=
  execS t (ownWrite E.LOOP_PRESET r) s

/-- R213: a profile command: its write, or its application at the mode-tick boundary. -/
def profCommand (code : Nat) (c : CmdStage) (x : Sys) : Sys :=
  match c with
  | .accept r => ownCode E.PROF_CMD code r x
  | .boundary => (x.1.profBoundary code, x.2)

def execProfStart (t : Nat) (c : CmdStage) (s : State) : Host.Outcome State Fault Refusal := execS t (profCommand 1 c) s
def execProfStop (t : Nat) (c : CmdStage) (s : State) : Host.Outcome State Fault Refusal := execS t (profCommand 2 c) s
def execProfRestart (t : Nat) (c : CmdStage) (s : State) : Host.Outcome State Fault Refusal := execS t (profCommand 3 c) s
def execProfSkip (t : Nat) (c : CmdStage) (s : State) : Host.Outcome State Fault Refusal := execS t (profCommand 4 c) s

def execRingEnvWrite (t : Nat) (r : Req) (s : State) : Host.Outcome State Fault Refusal := execS t (ownWrite E.RING_ENV r) s
def execRoleDrop (t : Nat) (r : Req) (s : State) : Host.Outcome State Fault Refusal := execS t (ownWrite E.ROLE_DROP r) s
def execShareReadmit (t : Nat) (r : Req) (s : State) : Host.Outcome State Fault Refusal :=
  execS t (ownWrite E.SHARE_READMIT r) s
def execPortDisable (t : Nat) (r : Req) (s : State) : Host.Outcome State Fault Refusal := execS t (ownCode E.PORT_EN 0 r) s
def execPortEnable (t : Nat) (r : Req) (s : State) : Host.Outcome State Fault Refusal := execS t (ownCode E.PORT_EN 1 r) s
def execIlkOpenReqWrite (t : Nat) (r : Req) (s : State) : Host.Outcome State Fault Refusal :=
  execS t (ownWrite E.ILK_OPEN_REQ r) s
def execPkSnap (t : Nat) (r : Req) (s : State) : Host.Outcome State Fault Refusal :=
  execS t (fun x => ownRead E.PK_SNAP r (x.1.peakTake r.smp, x.2)) s
def execPhtSnap (t : Nat) (r : Req) (s : State) : Host.Outcome State Fault Refusal := execS t (ownRead E.PHT_SNAP r) s
def execStepSnap (t : Nat) (r : Req) (s : State) : Host.Outcome State Fault Refusal := execS t (ownRead E.STEP_SNAP r) s
def execCapArm (t : Nat) (r : Req) (s : State) : Host.Outcome State Fault Refusal := execS t (ownCode E.CAP_CMD 1 r) s
def execCapTriggerCmd (t : Nat) (r : Req) (s : State) : Host.Outcome State Fault Refusal := execS t (ownCode E.CAP_CMD 2 r) s
def execCapStreamA (t : Nat) (r : Req) (s : State) : Host.Outcome State Fault Refusal := execS t (ownCode E.CAP_CMD 3 r) s
def execCapAbort (t : Nat) (r : Req) (s : State) : Host.Outcome State Fault Refusal := execS t (ownCode E.CAP_CMD 4 r) s
def execCableSys (t : Nat) (r : Req) (s : State) : Host.Outcome State Fault Refusal := execS t (ownCode E.CABLE_CMD 1 r) s
def execCableBat (t : Nat) (r : Req) (s : State) : Host.Outcome State Fault Refusal := execS t (ownCode E.CABLE_CMD 2 r) s
def execCableBrk (t : Nat) (r : Req) (s : State) : Host.Outcome State Fault Refusal := execS t (ownCode E.CABLE_CMD 3 r) s
def execCalSet (t : Nat) (r : Req) (s : State) : Host.Outcome State Fault Refusal := execS t (ownWrite E.CAL_SET r) s
def execEsessOpen (t : Nat) (r : Req) (s : State) : Host.Outcome State Fault Refusal := execS t (ownCode E.ESESS_CMD 1 r) s
def execEsessClose (t : Nat) (r : Req) (s : State) : Host.Outcome State Fault Refusal := execS t (ownCode E.ESESS_CMD 2 r) s
def execNetHandover (t : Nat) (r : Req) (s : State) : Host.Outcome State Fault Refusal :=
  execS t (ownWrite E.NET_HANDOVER r) s
def execLinkWakeTx (t : Nat) (r : Req) (s : State) : Host.Outcome State Fault Refusal := execS t (ownWrite E.LINK_WAKE_TX r) s
def execPstoreDefaults (t : Nat) (r : Req) (s : State) : Host.Outcome State Fault Refusal :=
  execS t (ownWrite E.PSTORE_DEFAULTS r) s
def execRstCmd (t : Nat) (r : Req) (s : State) : Host.Outcome State Fault Refusal := execS t (ownWrite E.RST_CMD r) s
def execRtcWrite (t : Nat) (r : Req) (s : State) : Host.Outcome State Fault Refusal := execS t (ownWrite E.RTC r) s
def execCmpModeWrite (t : Nat) (r : Req) (s : State) : Host.Outcome State Fault Refusal := execS t (ownWrite E.CMP_MODE r) s
def execKprKey (t : Nat) (r : Req) (s : State) : Host.Outcome State Fault Refusal := execS t (ownWrite E.KPR_KEY r) s
def execKprCheckin (t : Nat) (r : Req) (s : State) : Host.Outcome State Fault Refusal := execS t (ownWrite E.KPR_CHECKIN r) s
def execFltStickyClear (t : Nat) (r : Req) (s : State) : Host.Outcome State Fault Refusal :=
  execS t (ownWrite E.FLT_STICKY r) s
def execFltLatchedClear (t : Nat) (r : Req) (s : State) : Host.Outcome State Fault Refusal :=
  execS t (ownWrite E.FLT_LATCHED r) s
def execFltInject (t : Nat) (r : Req) (s : State) : Host.Outcome State Fault Refusal := execS t (ownWrite E.FLT_INJECT r) s
def execCredLogin (t : Nat) (r : Req) (s : State) : Host.Outcome State Fault Refusal := execS t (ownWrite E.CRED_LOGIN r) s
def execCredLogout (t : Nat) (r : Req) (s : State) : Host.Outcome State Fault Refusal := execS t (ownWrite E.CRED_LOGOUT r) s
def execCredSet (t : Nat) (r : Req) (s : State) : Host.Outcome State Fault Refusal := execS t (ownWrite E.CRED_SET r) s
def execSecretErase (t : Nat) (r : Req) (s : State) : Host.Outcome State Fault Refusal :=
  execS t (ownWrite E.SECRET_ERASE r) s
def execRingKeyOwn (t : Nat) (r : Req) (s : State) : Host.Outcome State Fault Refusal := execS t (ownWrite E.RING_KEY_OWN r) s
def execRingKeyPar (t : Nat) (r : Req) (s : State) : Host.Outcome State Fault Refusal := execS t (ownWrite E.RING_KEY_PAR r) s
def execSignKeygen (t : Nat) (r : Req) (s : State) : Host.Outcome State Fault Refusal := execS t (ownWrite E.SIGN_KEYGEN r) s
def execFwImg (t : Nat) (r : Req) (s : State) : Host.Outcome State Fault Refusal := execS t (ownWrite E.FW_IMG r) s
def execFwSwitch (t : Nat) (r : Req) (s : State) : Host.Outcome State Fault Refusal := execS t (ownWrite E.FW_SWITCH r) s

/-! ## The operations (R383) -/

/-- A request of operation `op` on any transport. -/
def ownOp (op : Nat) (r : Req) (x : Sys) : Sys := if r.op = op then serve ruleOf r x else x

def execOdRead (t : Nat) (r : Req) (s : State) : Host.Outcome State Fault Refusal := execS t (ownOp 1 r) s
def execOdWrite (t : Nat) (r : Req) (s : State) : Host.Outcome State Fault Refusal := execS t (ownOp 2 r) s
def execOdCommit (t : Nat) (r : Req) (s : State) : Host.Outcome State Fault Refusal := execS t (ownOp 3 r) s
def execOdDiscard (t : Nat) (r : Req) (s : State) : Host.Outcome State Fault Refusal := execS t (ownOp 4 r) s

/-- R438: a USB transfer carries one request body, of its own length. -/
def usbTransfer (length : Nat) (r : Req) (x : Sys) : Sys :=
  if x.1.usb.attached && x.1.n E.USB_DATA_ROLE 0 == 0 && 20 ≤ length && length ≤ 1044 then
    serve ruleOf { r with requester := usbRequester, transport := .usb, data := r.data.take (length - 20) } x
  else x

def execUsbTransfer (t : Nat) (length : Nat) (r : Req) (s : State) : Host.Outcome State Fault Refusal :=
  execS t (usbTransfer length r) s

/-! ## Commits (R394) -/

/-- The request that a staged value answers to in the checks of R394: a whole write by the stage's owner. -/
def stagedReq (a : Asker) (e : Staged) : Req :=
  { op := 2, index := e.key / 256, sub := e.key % 256, ty := 0, len := 0, epoch := a.epoch, seq := a.seq, offset := 0, more := false,
    stagedView := false, data := [], requester := a.requester, transport := a.transport }

/-- R394, step 1: the first staged value that a check refuses: its place and status. -/
def commitError (a : Asker) (x : Sys) : Option (Nat × Nat) :=
  x.2.stage.findSome? (fun e =>
    match entryAt e.key with
    | none => none
    | some (f, i) =>
      let ru := ruleOf f i
      let r := stagedReq a e
      match checkValue x f i ru r (x.2.level r) e.val true false with
      | some (st, _) => some (e.key, st)
      | none => if ru.late x.1 then some (e.key, 0x14) else none)

/-- R394, steps 1 and 2, at the mode tick: the staged values are checked with all of them in place, and come into force
together, with one journal record; or the commit is refused and the stage is kept. -/
def commitApply (x : Sys) : Sys :=
  match x.2.commit with
  | none => x
  | some a =>
    let x : Sys := (x.1, { x.2 with commit := none })
    let all := x.2.stage.foldl (fun m e => m.putPlace e.key e.val) x.1
    match commitError a (all, x.2) with
    | some (k, st) => refuse x a st (leBytes 2 (k / 256) ++ [k % 256])
    | none =>
      let olds := x.2.stage.filterMap (fun e => (entryAt e.key).map (fun p => (e.key, x.1.getV p.1 p.2)))
      let m : Mod := { all with journal := all.journal ++
        [{ writes := x.2.stage.map (fun e => (e.key, e.val)), olds := olds, ask := some a, kind := 1 }] }
      markRecord (markStaged (m.afterValues (x.2.stage.map (·.key)), x.2) x.2.stage 3 2) a 2

/-- R394, R395, R481: the oldest journal record is durable, or fails: then what it replaced is in force again, with what
follows from that, and source 8:1 is raised. In hold-up operation only the page program found in progress may end, within
2 ms: SAFE has the flash controller (R28). -/
def journalEnd (ok : Bool) (x : Sys) : Sys :=
  let m : Mod := { x.1 with safe := { x.1.safe with pageLeft := false } }
  match x.1.journal with
  | [] => x
  | _ =>
    if x.1.phase == .holdup then
      (if x.1.safe.pageLeft && ok && x.1.tb ≤ x.1.safe.holdupAt + ms 2 then journalDone (m, x.2) else (m, x.2))
    else if ok then
      let (m, v) := journalDone x
      (m.elogFlush, v)
    else
      let (m, v) := journalBack x
      ((m.inc E.Q_ERR 31).raise 8 1, v)

def execJournalDurable (t : Nat) (ok : Bool) (s : State) : Host.Outcome State Fault Refusal := execS t (journalEnd ok) s

/-! ## Timers of the server (R385, R386, R392, R397) -/

/-- R392: STAGE_TMO has passed without a request of the stage's owner. -/
def stageTimeout (x : Sys) : Sys := if x.1.due .stage && x.2.commit.isNone then discardStage x else x
def execStageTimeout (t : Nat) (s : State) : Host.Outcome State Fault Refusal := execS t stageTimeout s

/-- R386: 5 s have passed without a segment. -/
def assemblyTimeout (req : Nat) (x : Sys) : Sys :=
  if x.1.due (.assembly req) then
    (x.1.disarm (.assembly req), { x.2 with asms := x.2.asms.filter (·.requester != req) })
  else x
def execAssemblyTimeout (t : Nat) (requester : Nat) (s : State) : Host.Outcome State Fault Refusal :=
  execS t (assemblyTimeout requester) s

/-- R386: 5 s have passed without a read of the snapshot. -/
def snapshotExpiry (req : Nat) (x : Sys) : Sys :=
  if x.1.due (.snapshot req) then
    (x.1.disarm (.snapshot req), { x.2 with snaps := x.2.snaps.filter (·.requester != req) })
  else x
def execReadSnapshotExpiry (t : Nat) (requester : Nat) (s : State) : Host.Outcome State Fault Refusal :=
  execS t (snapshotExpiry requester) s

/-- R387 step 2: SUP0 has not taken a request within OD_QTMO of its arrival. -/
def queueTimeout (r : Req) (x : Sys) : Sys :=
  if x.1.requestFull r then rejectEarly x r 0x31
  else rejectEarly (queued r x) r 0x32
def execQueueTimeout (t : Nat) (r : Req) (s : State) : Host.Outcome State Fault Refusal := execS t (queueTimeout r) s

/-- R397: records become free REC_HOLD after their requests completed. -/
def recordHold (x : Sys) : Sys :=
  (x.1, { x.2 with recs := x.2.recs.filter (fun c => !(c.free && decide (c.doneAt + sec (x.1.n E.REC_HOLD 0) ≤ x.1.tb))) })
def execRecordHoldExpiry (t : Nat) (s : State) : Host.Outcome State Fault Refusal := execS t recordHold s

/-! ## Compare channels (R508) -/

/-- R508: the least `v + n × int`, n at least 1, above TB. -/
def nextMatch (v int now : Nat) : Nat :=
  if int = 0 then v else v + ((now - v) / int + 1) * int

/-- R508, R320: a match of channel `c` counts and drives the capture trigger. -/
def Mod.cmpHit (m : Mod) (c : Nat) : Mod :=
  let m := m.inc E.CMP_CNT c
  m.when (m.n E.CAP_CMP 0 == c) (·.capTrigger 0x80 m.tb)

/-- R508: the channel matches, with the old values while a write has not taken effect, and at the tick at which it does. -/
def Mod.cmpMatch (c : Nat) (m : Mod) : Mod :=
  let x := (m.cmp[c]?).getD {}
  let old := x.mode != 0 && decide (x.val ≤ m.tb) && decide (m.tb ≤ x.upTo)
  if c ≥ 32 then m
  else if old then
    let next := nextMatch x.val x.int m.tb
    let auto := x.mode == 2 && decide (m.tb < x.upTo)
    let m := m.when (auto && m.n E.CMP_VAL c == x.val) (·.setN E.CMP_VAL c next)
    let y : CmpS := if x.mode = 2 then { x with val := next } else { x with mode := 0 }
    ({ m with cmp := setAt {} m.cmp c y } : Mod).cmpHit c
  else if decide (x.upTo ≤ m.tb) && m.n E.CMP_STATE c == 1 && m.n E.CMP_VAL c ≤ m.tb then
    let m := if m.n E.CMP_MODE c = 2 then m.setN E.CMP_VAL c (nextMatch (m.n E.CMP_VAL c) (m.n E.CMP_INT c) m.tb)
      else m.setN E.CMP_STATE c 2
    m.cmpHit c
  else m

def execCmpMatch (t : Nat) (c : Nat) (s : State) : Host.Outcome State Fault Refusal := execM t (Mod.cmpMatch c) s

/-! ## Frames forwarded and consumed (R340 to R347, R364 to R368) -/

/-- R340: the frame is the module's own. -/
def Mod.ownFrame (m : Mod) (h : Hdr) : Bool :=
  h.src != 0xFFFF && (h.src == m.n E.NET_ADDR 0 || h.src == m.n E.NET_ADDR_P 0)

/-- R340: the other UP link of a link's ring; none at a line end. -/
def Mod.otherLink (m : Mod) (l : Nat) : Option Nat := (m.upLinks (m.n E.LINK_ROLE l)).find? (· != l)

/-- R368: the subtree holds the frame's destination ring or group. -/
def Mod.destBelow (m : Mod) (h : Hdr) : Bool :=
  (h.scope == 0 && m.subtree.contains (h.dst / 128)) ||
    (h.scope == 3 && (m.treeSegs.contains h.dst || m.net.below.any (·.segs.contains h.dst)))

/-- R362, R366: bytes of class 6 that stand in a link's ingress buffer: forwarded frames that wait, or are on a wire. -/
def Mod.ingress6 (m : Mod) (l : Nat) : Nat :=
  ((m.net.held.filter (fun f => f.cls == 6 && f.via == some l)).map (fun f => f.out.bytes)).sum +
  ((List.range 4).map (fun k => match (m.linkOf k).tx with
    | some f => if f.cls = 6 ∧ f.via = some l ∧ m.tb < f.stop then f.bytes else 0
    | none => 0)).sum

/-- R340, R344, R364, R366: a frame that came by link `l` leaves on link `k` with one hop less; a class 6 frame that finds its ingress
buffer full is dropped. -/
def Mod.forwardOn (m : Mod) (l k : Nat) (h : Hdr) : Mod :=
  if h.cls = 6 ∧ 32768 < m.ingress6 l + h.bytes then m.dropClass6 h.src h.dst h.typ h.seq
  else (m.gapBefore h).sendVia (some l) h.cls (frameCredits h.bytes) (.forward k { h with hops := h.hops - 1, mac := Config.mac48 })

/-- R340: within its ring the frame goes on, turned at a line end. -/
def Mod.forwardRing (m : Mod) (l : Nat) (h : Hdr) : Mod :=
  match m.otherLink l with
  | some k => m.forwardOn l k h
  | none => m.forwardOn l l { h with turned := true }

/-- R341, R347, R368: a head passes a frame into its other ring, re-authenticated, and downstream there. -/
def Mod.relay (m : Mod) (l : Nat) (h : Hdr) : Mod :=
  let up := m.n E.LINK_ROLE l != 2
  match m.txLink up with
  | some k => if m.n E.LINK_ROLE k = m.n E.LINK_ROLE l ∨ (if up then m.keys.par else m.keys.own).isNone then m
    else m.forwardOn l k { h with relayed := true, turned := (m.upLinks (m.n E.LINK_ROLE k)).length == 1,
                                  key := if up then m.keys.par else m.keys.own }
  | none => m

/-- R368: a head carries the frame across. -/
def Mod.crosses (m : Mod) (l : Nat) (h : Hdr) : Bool :=
  m.isHead && !h.relayed && (h.scope == 2 || (if m.n E.LINK_ROLE l = 2 then m.destBelow h else (h.scope == 0 || h.scope == 3) && !m.destBelow h))

/-- R340: the frame has come round to its originator, by its upstream link, or where that is a line end. -/
def Mod.comesHome (m : Mod) (l : Nat) (h : Hdr) : Bool :=
  m.ownFrame h && (m.upstreamOf l == some l || (m.otherLink l).isNone)

/-- R340, R346, R367, R368: the fate of a frame beyond its consumption here: link frames and those without hops stay, a unicast ends
at its destination, an own frame where it comes back. Beacons, claims and time go on by commands of their own. A head carries
across only what it has checked (R347). One that goes no further frees its credits (R364), where no consumption does. -/
def Mod.passOn (m : Mod) (l : Nat) (h : Hdr) : Mod :=
  if m.endsHere h l then m
  else if h.hops == 0 || [1, 2, 3, 4, 5, 7].contains h.typ || m.comesHome l h then m.freeCredits l h
  else
    let across := m.crosses l h && m.soundFrame l h
    let m := m.when across (·.relay l h)
    if across && h.scope != 2 then m else m.forwardRing l h

/-- The TYPEs whose consumption has a row of its own (R346): that row counts a frame that fails its checks. -/
def namedTypes : List Nat := [0x01, 0x02, 0x03, 0x04, 0x05, 0x06, 0x07, 0x22, 0x23, 0x31, 0x32, 0x33, 0x34, 0x36, 0x37]

/-- R346, R367: a frame that the station does not consume fails its checks as it is forwarded. -/
def Mod.forwardFail (m : Mod) (l : Nat) (h : Hdr) : Mod :=
  if !headerOk h || h.hops == 0 then m.inc E.NET_BAD_HDR 0
  else m.when (!m.soundFrame l h && (h.cls ≥ 3 || m.crosses l h)) Mod.macFail

/-- R381, R385, R387: an object-dictionary request that came in a frame. -/
def frameRequest (l : Nat) (h : Hdr) (typ : Nat) (r : Req) (x : Sys) : Sys :=
  let stale := x.1.superseded h
  let (m, ok) := x.1.frameCheck h typ (some l)
  let r := { r with requester := h.src, transport := .zwl }
  if !ok then (m, x.2)
  else if stale then reject (m, x.2) r 0x43 0 []
  else serve ruleOf r (m, x.2)

/-- R346, R367: the module consumes the frame. -/
def Mod.takesBody (m : Mod) (h : Hdr) (b : FwdBody) : Bool :=
  match b with
  | .intent _ => m.addressed h || (h.scope == 3 && m.leads && m.ringSegs.contains h.dst)
  | .trip .. => true
  | .fenceRpt .. | .odReq _ | .bulk _ | .streamB | .streamA => m.addressed h
  | .ringSum _ => false
  | .other => h.typ == 0x11 || (h.typ == 0x50 && m.addressed h)

/-- R346, R367: what the module consumes of the frame. ALLOC is delivered through Q30 by a row of its own (R187). -/
def frameConsume (l : Nat) (h : Hdr) (b : FwdBody) (x : Sys) : Sys :=
  let m := x.1
  match b with
  | .intent i => (m.onFrame h 0x10 (some l) (fun m => m.intentMsg h i), x.2)
  | .trip .. => (m.onFrame h 0x20 (some l) id, x.2)
  | .fenceRpt stn _ _ _ _ _ =>
    (m.onFrame h 0x21 (some l) (fun m =>
      m.when m.leads (fun m => { m with stale := (nodeAddr m.leadRing stn :: m.stale).eraseDups })), x.2)
  | .odReq r => frameRequest l h 0x40 r x
  | .bulk r => frameRequest l h 0x71 r x
  | .streamB => (m.onFrame h 0x60 (some l) id, x.2)
  | .streamA => (m.onFrame h 0x70 (some l) id, x.2)
  | .other => (m.onFrame h (if h.typ = 0x11 then 0x11 else 0x50) (some l) id, x.2)
  | .ringSum _ => x

/-- R368: a head keeps the summary of its own ring as it passes. -/
def Mod.noteSum (m : Mod) (l : Nat) (h : Hdr) (b : FwdBody) : Mod :=
  match b with
  | .ringSum y => m.when (m.isHead && m.n E.LINK_ROLE l == 1 && m.keys.own.isSome && m.soundFrame l h && h.typ == 0x35)
      (·.modNet (fun n => { n with below := some y }))
  | _ => m

/-- R340, R367, R369: a frame arrives at a link: forwarded, by cut-through in classes 0 to 2 and after its checks in the
others, and consumed where it is for the module. One that fails its checks is counted once: by its consumption, here or by the
TYPE's own row, or as it is forwarded. -/
def frameForward (l : Nat) (h : Hdr) (b : FwdBody) (x : Sys) : Sys :=
  if x.1.n E.LINK_STATE l ≠ 3 then x
  else
    let m := x.1.heard l
    let takes := m.takesBody h b
    let named := namedTypes.contains h.typ || (m.endsHere h l && [0x30, 0x35, 0x51].contains h.typ)
    let sound := m.soundFrame l h
    let m := if h.cls ≤ 2 || sound then m.passOn l h else m.when (h.fcsOk && !takes && !m.endsHere h l) (·.freeCredits l h)
    if takes then frameConsume l h b (m, x.2)
    else if named then (m, x.2)
    else if !h.fcsOk then (m.fcsFail l h, x.2)
    else (((m.freeEnded l h).forwardFail l h).noteSum l h b, x.2)

def execFrameForward (t : Nat) (l : Nat) (h : Hdr) (b : FwdBody) (s : State) : Host.Outcome State Fault Refusal :=
  execS t (frameForward l h b) s

end Sys2Proof.Machine
end

