-- ==== Sys2Proof/Machine/TickCmds.lean ====
section
/-! DEFINITION. Machine/TickCmds.lean: MODE_TICK (R82, R83): every 100 µs the module takes its measurements, applies what
waits for a mode tick, resolves its modes, and runs what the chapters give to a mode tick. -/

namespace Sys2Proof.Machine

open Sys2Proof

/-! ## Absolute maxima (R36, R37) -/

/-- R36: the absolute maximum range of a port's voltage, and the highest non-repetitive transient. -/
def portMaxima (k : Nat) : Rat × Rat × Rat :=
  if k < 5 then (-1000, 1100, 1200)
  else if k = 5 then (0, 1100, 1200)
  else if k = 6 then (0, 1100, 1100)
  else (-30, 36, 60)

/-- R36: a transient lasts 1 ms at the longest, and begins 10 s or more after the previous one. -/
def Mod.portBeyond (m : Mod) (k : Nat) (v : Rat) : Bool :=
  let (lo, hi, top) := portMaxima k
  let p := m.protOf k
  decide (v < lo) || decide (top < v) ||
    (decide (hi < v) && (if p.over_ = 0 then (match p.overEnd with
      | some e => decide (m.tb < e + sec 10)
      | none => false) else 10 ≤ p.over_))

/-- R37: the first port whose voltage lies beyond its absolute maximum. -/
def Mod.beyond (m : Mod) (x : TickIn) : Option Nat :=
  let v := (m.meansOf (x.smp.map m.codes)).v
  (List.range 8).find? (fun k => m.portBeyond k ((v[k]?).getD 0))

/-- R36: how long a transient has lasted, and when the latest ended. -/
def Mod.transientTick (m : Mod) : Mod :=
  m.each 8 (fun k m =>
    let above := decide ((portMaxima k).2.1 < m.vPort k)
    m.modProt k (fun p =>
      if above then { p with over_ := p.over_ + 1 }
      else if p.over_ = 0 then p else { p with over_ := 0, overEnd := some m.tb }))

/-! ## Measurements (R231, R285, R291, R311, R510) -/

/-- The inputs are latched, and the entries that show them follow (R82, R311, R510). -/
def Mod.latch (m : Mod) (x : TickIn) : Mod :=
  let rows := x.smp.map m.codes
  let m : Mod := { m with sens := x, mean := m.meansOf rows, alertNew := 0, modes := { m.modes with tickNo := m.modes.tickNo + 1 } }
  let m := (m.sampleTick rows (m.saturated (x.smp.drop (m.telOf 0).taken))).satTick x.smp
  let m := m.setN E.RTC 0 ((m.n E.RTC 0 + x.rtcAdv) % 2 ^ 64)
  let m := ((m.setQ E.COOL_IN 0 x.coolIn).setQ E.COOL_OUT 0 x.coolOut).setQ E.CC_P 0 (clampR 0 12 x.ccP)
  let m := m.setQ E.CONT_I 0 (if m.safe.contOn then clampR 0 (if m.vbusOnly then 2 else 12) x.contI else 0)
  let m := m.each 4 (fun k m => m.modInp k (fun y => { y with meanI := m.iPort k }))
  m.setQ E.IN_DRAW_TOT 0 (clampR 0 200 ((List.range 4).map m.iPort).sum)

/-- R291: the heat sinks, and which phases they hold at 0; the port switches' temperatures. -/
def Mod.heatSinks (m : Mod) : Mod :=
  let m := m.each 16 (fun p m =>
    let h := (m.sens.hs[p]?).getD 0
    let m := m.setQ E.PH_HS_TEMP p h
    m.modPh p (fun y => { y with hot := if m.q E.HS_STOP 0 ≤ h then true else if h < m.q E.HS_DERATE 0 - 10 then false else y.hot }))
  let m := m.each 8 (fun k m => m.setQ E.SW_TEMP k ((m.sens.sw[k]?).getD 0))
  let above := fun (g : Nat) => (stagePhases g).any (fun p => decide (m.q E.HS_DERATE 0 < m.q E.PH_HS_TEMP p))
  (m.sync 1 4 (above 0)).sync 2 4 (above 1)

/-! ## Heat, overload and power (R56, R95, R97, R285) -/

/-- R285: Θ moves by one mode tick. -/
def thetaStep (theta x tau : Rat) : Rat :=
  let dt := mkRat 1 10000
  let d := if dec 105 2 < x then x * x - dec 105 2 * dec 105 2 else if tau ≤ 0 then 0 else -theta / tau
  grid (maxR 0 (theta + d * dt))

/-- R285, R279: the heat state of every port, and entry into LIMIT. -/
def Mod.i2tTick (m : Mod) : Mod :=
  m.each 8 (fun k m =>
    let x := absR (m.iPort k) / portRating k
    let m := m.modProt k (fun p => { p with theta := thetaStep p.theta x (m.q E.I2T_TAU k) })
    let m := m.setQ E.I2T_STATE k (clampR 0 100 (m.i2tPct k))
    let st := m.n E.PROT_STATE k
    if st = 0 then m.when (m.limitHolds k) (fun m => (m.setN E.PROT_STATE k 1).disarm (.limitExit k))
    else if st = 1 then
      (if m.limitHolds k then m.disarm (.limitExit k)
       else m.when (!m.armed (.limitExit k)) (·.arm (.limitExit k) (m.tb + ms 100)))
    else m)

/-- R95, R96: the resistor's heat H moves by one mode tick. P_BRK is the chopper's, or the clamp's at full duty while it acts. -/
def Mod.brkTick (m : Mod) : Mod :=
  let tau := m.q E.BRK_TAU 0
  let h := m.safe.heat
  let p := if m.safe.clamping then m.clampPower else m.reg.brkP
  let gain := if m.safe.clamping then m.clampPower * mkRat 1 10000 else 0
  let m : Mod := { m with safe := { m.safe with clampJ := m.safe.clampJ + gain } }
  m.heatTo (h + (p - (if tau ≤ 0 then 0 else h / tau)) * mkRat 1 10000)

/-- R186: SNS_RC follows its measurement through a filter of 1 s; SNS_DROP shows the compensation in force (R184). -/
def Mod.senseTick (m : Mod) : Mod :=
  m.each 2 (fun j m =>
    let (k, remote) := if j = 0 then (5, m.sens.vSnsSys) else (4, m.sens.vSnsBat)
    let loc := m.vPort k
    let i := m.iPort k
    let good := m.n E.SNS_STATE j == 1
    let m := m.keepGood j remote loc
    let m := m.when (good && decide (20 < absR i)) (fun m =>
      let r := m.q E.SNS_RC j
      m.setQ E.SNS_RC j (clampR 0 1000 (r + ((loc - remote) / i * 1000 - r) / 10000)))
    m.setQ E.SNS_DROP j (if good then 0 else clampR 0 100 (absR (m.sensComp j loc i))))

/-- R97: the overload timer of a stage. -/
def Mod.overloadTick (m : Mod) (g : Nat) : Mod :=
  let p := absR (if g = 0 then m.sens.pStageA else m.sens.pStageB)
  let m := if decide (m.contRating g < p) then
      m.modStg g (fun x => { x with ovl := min 100000 (x.ovl + 1), ovlClear := 0 })
    else m.modStg g (fun x => { x with ovlClear := min 600000 (x.ovlClear + 1) })
  m.setQ (ovlFam g) 0 (mkRat (m.stgOf g).ovl 10000)

/-- R56, R97: the power limit of a stage: raised at once, lowered at 10 kW/ms. -/
def Mod.powerTick (m : Mod) (g : Nat) : Mod :=
  let r := m.stageRating g
  m.modStg g (fun x => { x with pLim := if x.pLim ≤ r then r else maxR r (x.pLim - 1000) })

/-- What every mode tick takes and measures, complete or not. -/
def Mod.tickMeasure (x : TickIn) (m : Mod) : Mod :=
  let m := ((((m.latch x).transientTick).heatSinks).auxTick).reclose 6
  let m := ((m.tempTick).i2tTick).brkTick
  let m := ((m.energyTick).sessTick).ageShow
  let m := (m.senseTick).each 2 (fun g m => (m.overloadTick g).powerTick g)
  let m := m.setQ E.DERATE_F 0 m.derateF
  let m := (m.sync 12 3 (m.n E.CONT_STATE 0 == 3)).sync 12 4 (m.n E.CONT_STATE 0 == 4)
  m.sync 13 0 m.auxAtLimit

/-! ## What waits for the tick -/

/-- R86: at the first mode tick in ACTIVE, ENV_BOOT is requested once. -/
def Mod.bootRequest (m : Mod) : Mod :=
  if !m.modes.bootIssued && m.n E.POWER_ACT 0 == 0 then
    ({ m with modes := { m.modes with bootIssued := true } } : Mod).envInternal (m.n E.ENV_BOOT 0)
  else m

/-- R76, R512: the power state STANDBY comes into force: the gate drivers are unpowered. Where an envelope that needs ACTIVE
has been taken since, POWER_REQ is set to ACTIVE instead. -/
def Mod.powerStandby (m : Mod) : Mod :=
  if m.n E.POWER_REQ 0 == 1 && m.n E.POWER_ACT 0 == 0 then
    (if m.n E.ENV_EFF 0 ≤ 1 && m.envelope.1 ≤ 1 then (m.setN E.POWER_ACT 0 1).gateOffBoth 6 else m.setN E.POWER_REQ 0 0)
  else m

/-- R26, R88, R159, R160: a new SYS_VSET and a new LOOP_PRESET come into force, and the capacitance that scales the voltage-loop
gain is LOOP_CEST, within its clamp, or 1.2 mF until it has been measured. -/
def Mod.latchLoops (m : Mod) : Mod :=
  let m : Mod := { m with reg := { m.reg with goal := m.q E.SYS_VSET 0 } }
  m.each 2 (fun g m => m.modStg g (fun x =>
    { x with preset := m.n E.LOOP_PRESET g, cEst := clampR (dec 12 4) (dec 412 4) (m.q E.LOOP_CEST g) }))

/-- R253, R268, R270: a fencing, a role taken over, and a trim, each found since the latest mode tick; the millisecond that the
sharing report tells of (R251). -/
def Mod.shareTick (m : Mod) : Mod :=
  let m := m.modNet (fun x => { x with sysWin := (m.vSys, m.iPort 5, m.pPort 5) :: x.sysWin.take 9 })
  let m := match m.net.fenceNext with
    | some (cause, _) => m.fence cause
    | none => m
  let m := match m.net.roleNext with
    | some r => m.takeRole r
    | none => m
  let m := match m.net.trimNext with
    | some t => (m.setQ E.LL_TRIM 0 t).modNet (fun x => { x with trimNext := none })
    | none => m
  -- R253: TRIM_HELD: the trim goes to 0
  let t := m.q E.LL_TRIM 0
  let d := m.q E.TRIM_SLEW 0 / 10
  m.when (m.bitOf E.SHARE_FLAGS 0 1 && m.n E.SHARE_ROLE 0 == 1)
    (·.setQ E.LL_TRIM 0 (if absR t ≤ d then 0 else if t < 0 then t + d else t - d))

/-- R359, R360: when the reading of network time last came: at a head by the parent ring's beacon, at another ring's lantern by
TIME_RELAY, else by the own ring's beacon. -/
def Mod.lastTime (m : Mod) : Option Nat :=
  if m.leads then m.net.relayAt else if m.isHead then m.net.parBeacon else m.net.lastBeacon

/-- R253, R353, R359: NO_LANTERN after DARK_N cycles without a beacon; HOLDOVER while network time is held. -/
def Mod.lanternWatch (m : Mod) : Mod :=
  let last := m.net.lastBeacon.getD 0
  let dark := decide (last + (m.net.darkN.getD (m.n E.DARK_N 0)) * 10000 ≤ m.tb)
  let m := m.when (!m.isLantern && dark) (·.setBit E.SHARE_FLAGS 0 0 true)
  m.when (m.ntimeOk && !m.leadsRoot && decide (m.lastTime.getD 0 + 20000 ≤ m.tb)) Mod.holdover

/-- R362: a frame of class 1 or 2 held for a later cycle leaves in it, one of each class. -/
def Mod.sendHeld (m : Mod) (o : Out) : Mod :=
  let keep := fun (m : Mod) => m.modNet (fun x => { x with expHeld := x.expHeld ++ [o] })
  match o with
  | .frame _ h content =>
    let par := m.keys.par.isSome && h.key == m.keys.par && h.key != m.keys.own
    if !m.onRingOf par then keep m
    else
      match m.expAllowed h.cls h.typ content with
      | some net => ({ m with net := net } : Mod).transmitOn none par h.cls h.typ h.dst content
      | none => keep m
  | _ => keep m

/-- R362, R365: frames held for their cycle leave, and the transmitters serve what waits for them. -/
def Mod.heldFrames (m : Mod) : Mod :=
  (m.net.expHeld.foldl Mod.sendHeld (m.modNet (fun x => { x with expHeld := [] }))).creditFlush

/-! ## BRIDGE (R106, R108) -/

/-- R108: BAT is lost: by a trip, a latch or staleness; a BAT that enters recovery is condition 7 of R106. -/
def Mod.bridgeLost (m : Mod) : Bool := !(m.qualified 4 && m.protOk 4 && m.bmsOk && !m.faultGated 1)

/-- R108: the code whose response is taken at this tick. -/
def Mod.bridgeCause (m : Mod) : Option Nat :=
  let path := m.n E.PATH_ACT 0
  let i := m.iPort 4
  let (chg, dis) := m.bridgeLimits
  let v := m.vBat
  let req := m.n E.COUPLING_REQ 0
  if m.bridgeLost then some 4
  else if decide (chg < i) || decide (i < -dis) then some 2
  else if decide (v < m.q E.BRIDGE_VMIN 0) || decide (m.q E.BRIDGE_VMAX 0 < v) then some 3
  else if path = 3 ∧ i < 0 then some 5
  else if !(req == 2 || req == 3) || !m.b E.BRIDGE_EN 0 || !(path == 3 || path == 4 || path == 5) ||
      (path == 3 && m.stepRunning && convertOnly (m.n E.KIND m.stepIdx)) || !m.aloneOnSegment || m.recovering ||
      m.bridgeStepNow != m.modes.bridgeStep then some 1
  else none

/-- R108: a cause that takes precedence over the peak comparator (code 6) which has begun the exit since the previous tick:
BRIDGE_EXIT and the response become that cause's; the exit has been counted. -/
def Mod.bridgeOverride (m : Mod) : Mod :=
  match m.bridgeCause with
  | some 4 =>
    let m : Mod := { (m.setN E.BRIDGE_EXIT 0 4).disarm .bridge with reg := { m.reg with bridgeDuty := 0 } }
    ((m.setN E.BRIDGE_STATE 0 0).setN E.COUPLING_ACT 0 0).gateOff 1 5
  | some 1 => m
  | some c => (m.setN E.BRIDGE_EXIT 0 c).seedB (m.bridgeSeed c)
  | none => m

/-- R108: BRIDGE is watched. -/
def Mod.bridgeWatch (m : Mod) : Mod :=
  let left := m.modes.bridgeLeft.isSome && m.n E.BRIDGE_STATE 0 == 3
  let m : Mod := { m with modes := { m.modes with bridgeLeft := none } }
  if left then m.bridgeOverride
  else if m.bridging then
    match m.bridgeCause with
    | some 4 => (m.bridgeExit 4).gateOff 1 5
    | some c => m.bridgeExit c
    | none => m
  else m

/-- R106: consecutive ticks at which the conditions of BRIDGE have held. -/
def Mod.bridgeCount (m : Mod) : Mod :=
  let req := m.n E.COUPLING_REQ 0
  let on := m.n E.COUPLING_ACT 0 == 1 && m.n E.BRIDGE_STATE 0 == 0 && (req == 2 || req == 3) &&
    m.bridgeConditions (m.n E.PATH_ACT 0)
  { m with modes := { m.modes with bridgeQual := if on then m.modes.bridgeQual + 1 else 0 } }

/-! ## Joining ports and sharing the inputs (R117, R121, R130) -/

/-- R121, R84: a QUALIFIED port that the path or MOORING_HOLD calls for is joined. In a path that starts Stage A, Stage B is
coupled once Stage A has soft-started, and BAT waits for that on a dead link. -/
def Mod.joinPorts (m : Mod) : Mod :=
  let path := m.n E.PATH_ACT 0
  let hold := m.mooringHold
  let m := m.each 4 (fun k m => m.when (m.n E.QUAL_STATE k == 3 && wantsInput path hold) (·.prechargeStart k))
  -- R122: a port that waits in PRECHARGE for a link of 100 V is joined warm
  let m := m.each 5 (fun k m => m.when (m.n E.QUAL_STATE k == 4 && decide (100 ≤ m.sens.vLink) && (m.qualOf k).joinPh.isNone &&
    !(m.qualOf k).cold && !(m.qualOf k).branch) (·.warmJoin k))
  let waits := decide (m.sens.vLink < 100) && !hold && pathWantsA path && m.n E.SST_STATE 0 != 3
  m.when (m.n E.QUAL_STATE 4 == 3 && wantsBat path (m.n E.COUPLING_ACT 0) hold && !waits) (·.prechargeStart 4)

/-- R117, R118, R130, R131: ceilings, phase counts and taps. -/
def Mod.shareInputs (m : Mod) : Mod :=
  let m := m.climb
  let rungs := m.ladder (m.n E.POLICY_EFF 0) m.vPort
  let m := m.each 4 (fun k m => m.freeCeil rungs k)
  let counts := m.phaseCounts rungs
  let m := (m.moveTaps counts).setCounts counts
  (m.each 4 (fun k m => m.updateCeil rungs k)).holdNext rungs

/-! ## The tick -/

/-- R82, R83: the resolution of a tick, with what follows from it. -/
def Mod.tickResolve (m : Mod) : Mod :=
  let m := (((m.bootRequest).powerStandby).latchLoops).shareTick
  let m := ((m.lanternWatch).heldFrames).bridgeWatch
  let m := (m.latchPolicy).resolve
  let m := ((m.setN E.TICK_LAST 0 m.tb).joinPorts).bridgeCount
  let m := ((m.shareInputs).bsWatch).profileTick
  let m := ((m.contRequest).wakeStart).cableTick
  ((m.ilShow).frShow).kprTask 0

/-- R494: the module's own tasks that check in at a mode tick: the PCEs, which count as running while they are halted
(R512), and NETE in a ring of one. -/
def Mod.tickTasks (m : Mod) : Mod :=
  let m := m.when (m.sens.pcePeriod || m.n E.POWER_ACT 0 == 1) (·.kprTask 3)
  m.when (m.n E.RING_N 0 ≤ 1 && m.tb / 10000 % 10 == 0) (·.kprTask 2)

/-- R433: a source contract whose module has stopped being powered ends as at a detach. -/
def usbUnpowered (x : Sys) : Sys :=
  if !x.1.usb.powered && x.1.usb.contract && x.1.n E.USB_PWR_ROLE 0 == 1 then usbDetach x else x

/-- R82, R83: one mode tick. A resolution that is not complete leaves the outputs of the previous tick. -/
def modeTick (x : TickIn) (y : Sys) : Sys :=
  let y := usbUnpowered (commitApply (y.1.latchControls.tickMeasure x, y.2))
  let y : Sys := (y.1.latchControls, y.2)
  let m := if x.complete then y.1.tickResolve else (y.1.inc E.TICK_OVERRUN 0).raise 0 0
  let m := (((m.tickTasks).kprStart).kprSelf).bankErase
  ({ m.flagsRefresh with h2w := { m.h2w with live := m.pageOne } }, y.2)

/-- MODE_TICK. Beyond an absolute maximum the module's behaviour is outside the manual (R37). -/
def execModeTick (t : Nat) (x : TickIn) (s : State) : Host.Outcome State Fault Refusal :=
  if (s.m.at t).alive then
    match (s.m.at t).beyond x with
    | some k => .fault (.outsideManual k)
    | none => execS t (modeTick x) s
  else execS t (modeTick x) s

end Sys2Proof.Machine
end

