-- ==== Sys2Proof/Machine/Dispatch.lean ====
section
/-! DEFINITION. Machine/Dispatch.lean: one arm per command of the table, in the table's order. -/

namespace Sys2Proof.Machine

open Sys2Proof

/-- The effect of a command on everything but the queue. -/
def exec (i : Instr) (s : State) : Host.Outcome State Fault Refusal :=
  match i with
  | .modeTick t x => Sys2Proof.Machine.execModeTick t x s
  | .autoDwellExpiry t => Sys2Proof.Machine.execAutoDwellExpiry t s
  | .rotationTick t => Sys2Proof.Machine.execRotationTick t s
  | .envReqWrite t r => Sys2Proof.Machine.execEnvReqWrite t r s
  | .couplingReqWrite t r => Sys2Proof.Machine.execCouplingReqWrite t r s
  | .powerReqWrite t r => Sys2Proof.Machine.execPowerReqWrite t r s
  | .hibernateEntry t => Sys2Proof.Machine.execHibernateEntry t s
  | .activeReturnDone t => Sys2Proof.Machine.execActiveReturnDone t s
  | .sysVsetWrite t r => Sys2Proof.Machine.execSysVsetWrite t r s
  | .bridgeQualExpiry t => Sys2Proof.Machine.execBridgeQualExpiry t s
  | .bridgeEntryDone t => Sys2Proof.Machine.execBridgeEntryDone t s
  | .bridgeExitDone t => Sys2Proof.Machine.execBridgeExitDone t s
  | .bsTerminalLive t v => Sys2Proof.Machine.execBsTerminalLive t v s
  | .bsContTExpiry t => Sys2Proof.Machine.execBsContTExpiry t s
  | .bsPrechargeDone t vInt vTerm => Sys2Proof.Machine.execBsPrechargeDone t vInt vTerm s
  | .bsPrechargeTimeout t => Sys2Proof.Machine.execBsPrechargeTimeout t s
  | .bsSettleExpiry t => Sys2Proof.Machine.execBsSettleExpiry t s
  | .bsTimeout t => Sys2Proof.Machine.execBsTimeout t s
  | .ssRampEnd t => Sys2Proof.Machine.execSsRampEnd t s
  | .ssSwitchOpen t => Sys2Proof.Machine.execSsSwitchOpen t s
  | .ssLinkDischarged t vLink => Sys2Proof.Machine.execSsLinkDischarged t vLink s
  | .ovlExpiry t st => Sys2Proof.Machine.execOvlExpiry t st s
  | .ovlClear t st => Sys2Proof.Machine.execOvlClear t st s
  | .qualWindowEnter t k v => Sys2Proof.Machine.execQualWindowEnter t k v s
  | .qualWindowExcursion t k v => Sys2Proof.Machine.execQualWindowExcursion t k v s
  | .insertionDelayExpiry t k => Sys2Proof.Machine.execInsertionDelayExpiry t k s
  | .prechargeDone t k vInt vTerm => Sys2Proof.Machine.execPrechargeDone t k vInt vTerm s
  | .prechargeTimeout t k => Sys2Proof.Machine.execPrechargeTimeout t k s
  | .rideEntry t k v => Sys2Proof.Machine.execRideEntry t k v s
  | .rideReturn t k v => Sys2Proof.Machine.execRideReturn t k v s
  | .rideExpiry t k v => Sys2Proof.Machine.execRideExpiry t k v s
  | .flapWExpiry t k => Sys2Proof.Machine.execFlapWExpiry t k s
  | .inputCollapse t k v fall => Sys2Proof.Machine.execInputCollapse t k v fall s
  | .portOvervoltage t k v => Sys2Proof.Machine.execPortOvervoltage t k v s
  | .reverseCurrentFault t k x => Sys2Proof.Machine.execReverseCurrentFault t k x s
  | .pilotOpen t k => Sys2Proof.Machine.execPilotOpen t k s
  | .pilotClose t k => Sys2Proof.Machine.execPilotClose t k s
  | .voltageLoopPeriod t x => Sys2Proof.Machine.execVoltageLoopPeriod t x s
  | .srcPolicyWrite t r => Sys2Proof.Machine.execSrcPolicyWrite t r s
  | .manSlackWrite t r => Sys2Proof.Machine.execManSlackWrite t r s
  | .adaptPeriodExpiry t k => Sys2Proof.Machine.execAdaptPeriodExpiry t k s
  | .adaptStepDone t k v x dv loadChange => Sys2Proof.Machine.execAdaptStepDone t k v x dv loadChange s
  | .adaptBackoff t k v x => Sys2Proof.Machine.execAdaptBackoff t k v x s
  | .switchingPeriod t st x => Sys2Proof.Machine.execSwitchingPeriod t st x s
  | .peakComparator t p => Sys2Proof.Machine.execPeakComparator t p s
  | .phaseArmingDone t p => Sys2Proof.Machine.execPhaseArmingDone t p s
  | .phaseAddDone t p => Sys2Proof.Machine.execPhaseAddDone t p s
  | .shedTExpiry t st g => Sys2Proof.Machine.execShedTExpiry t st g s
  | .phaseShedDone t p => Sys2Proof.Machine.execPhaseShedDone t p s
  | .armHoldExpiry t p => Sys2Proof.Machine.execArmHoldExpiry t p s
  | .respacingDone t st => Sys2Proof.Machine.execRespacingDone t st s
  | .phaseFault t p cause => Sys2Proof.Machine.execPhaseFault t p cause s
  | .loopPresetWrite t r => Sys2Proof.Machine.execLoopPresetWrite t r s
  | .sstDelayExpiry t st => Sys2Proof.Machine.execSstDelayExpiry t st s
  | .softStartComplete t st v iMean => Sys2Proof.Machine.execSoftStartComplete t st v iMean s
  | .softStartAbort t st => Sys2Proof.Machine.execSoftStartAbort t st s
  | .hiccupRetry t st => Sys2Proof.Machine.execHiccupRetry t st s
  | .sspDelayExpiry t st => Sys2Proof.Machine.execSspDelayExpiry t st s
  | .softStopDone t st => Sys2Proof.Machine.execSoftStopDone t st s
  | .senseOpen t pr => Sys2Proof.Machine.execSenseOpen t pr s
  | .senseReversed t pr => Sys2Proof.Machine.execSenseReversed t pr s
  | .senseRestore t pr => Sys2Proof.Machine.execSenseRestore t pr s
  | .intentRx t m => Sys2Proof.Machine.execIntentRx t m s
  | .intentArm t orig num => Sys2Proof.Machine.execIntentArm t orig num s
  | .prebiasStart t orig num => Sys2Proof.Machine.execPrebiasStart t orig num s
  | .intentWithdraw t orig num => Sys2Proof.Machine.execIntentWithdraw t orig num s
  | .profStart t c => Sys2Proof.Machine.execProfStart t c s
  | .profStop t c => Sys2Proof.Machine.execProfStop t c s
  | .profRestart t c => Sys2Proof.Machine.execProfRestart t c s
  | .profSkip t c => Sys2Proof.Machine.execProfSkip t c s
  | .stepExit t x => Sys2Proof.Machine.execStepExit t x s
  | .stepRequestFail t index sub status => Sys2Proof.Machine.execStepRequestFail t index sub status s
  | .stepTimeout t => Sys2Proof.Machine.execStepTimeout t s
  | .pulseLevelChange t => Sys2Proof.Machine.execPulseLevelChange t s
  | .bmsAging t => Sys2Proof.Machine.execBmsAging t s
  | .bmsStale t => Sys2Proof.Machine.execBmsStale t s
  | .bmsWakeAttemptFail t => Sys2Proof.Machine.execBmsWakeAttemptFail t s
  | .bmsWakeResend t => Sys2Proof.Machine.execBmsWakeResend t s
  | .scanStart t => Sys2Proof.Machine.execScanStart t s
  | .scanPointDone t x => Sys2Proof.Machine.execScanPointDone t x s
  | .lifetimeCommit t => Sys2Proof.Machine.execLifetimeCommit t s
  | .secondaryControlTick t => Sys2Proof.Machine.execSecondaryControlTick t s
  | .shareRptRx t h m => Sys2Proof.Machine.execShareRptRx t h m s
  | .trimRx t h m => Sys2Proof.Machine.execTrimRx t h m s
  | .trimHoldExpiry t => Sys2Proof.Machine.execTrimHoldExpiry t s
  | .frTExpiry t => Sys2Proof.Machine.execFrTExpiry t s
  | .intentAllocate t h m => Sys2Proof.Machine.execIntentAllocate t h m s
  | .ringEnvWrite t r => Sys2Proof.Machine.execRingEnvWrite t r s
  | .roleDrop t r => Sys2Proof.Machine.execRoleDrop t r s
  | .darkDeclare t stn => Sys2Proof.Machine.execDarkDeclare t stn s
  | .takeRx t h m => Sys2Proof.Machine.execTakeRx t h m s
  | .takeOfferLapse t => Sys2Proof.Machine.execTakeOfferLapse t s
  | .shareReadmit t r => Sys2Proof.Machine.execShareReadmit t r s
  | .fastTrip t k x => Sys2Proof.Machine.execFastTrip t k x s
  | .i2tTrip t k x => Sys2Proof.Machine.execI2tTrip t k x s
  | .i2tClear t k => Sys2Proof.Machine.execI2tClear t k s
  | .limitExit t k => Sys2Proof.Machine.execLimitExit t k s
  | .sysOvervoltageTrip t v => Sys2Proof.Machine.execSysOvervoltageTrip t v s
  | .brkClamp t v => Sys2Proof.Machine.execBrkClamp t v s
  | .brkClampRelease t v e => Sys2Proof.Machine.execBrkClampRelease t v e s
  | .linkOvervoltage t v => Sys2Proof.Machine.execLinkOvervoltage t v s
  | .switchFailure t k x => Sys2Proof.Machine.execSwitchFailure t k x s
  | .switchOvertemp t k c => Sys2Proof.Machine.execSwitchOvertemp t k c s
  | .switchTempClear t k c => Sys2Proof.Machine.execSwitchTempClear t k c s
  | .portDisable t r => Sys2Proof.Machine.execPortDisable t r s
  | .portSwitchRelease t k x => Sys2Proof.Machine.execPortSwitchRelease t k x s
  | .portEnable t r => Sys2Proof.Machine.execPortEnable t r s
  | .ilkOpen t => Sys2Proof.Machine.execIlkOpen t s
  | .ilkClose t => Sys2Proof.Machine.execIlkClose t s
  | .ilkOpenReqWrite t r => Sys2Proof.Machine.execIlkOpenReqWrite t r s
  | .estopOpen t => Sys2Proof.Machine.execEstopOpen t s
  | .estopClose t => Sys2Proof.Machine.execEstopClose t s
  | .estopTest t pass => Sys2Proof.Machine.execEstopTest t pass s
  | .tamperOpen t => Sys2Proof.Machine.execTamperOpen t s
  | .holdupOperation t => Sys2Proof.Machine.execHoldupOperation t s
  | .lockstepMismatch t => Sys2Proof.Machine.execLockstepMismatch t s
  | .contPullExpiry t => Sys2Proof.Machine.execContPullExpiry t s
  | .contOpenLoad t x => Sys2Proof.Machine.execContOpenLoad t x s
  | .contOvercurrent t x => Sys2Proof.Machine.execContOvercurrent t x s
  | .imdGrantRx t h gsys node => Sys2Proof.Machine.execImdGrantRx t h gsys node s
  | .imdGrantExpiry t => Sys2Proof.Machine.execImdGrantExpiry t s
  | .imdHalfPeriod t riso csys pole => Sys2Proof.Machine.execImdHalfPeriod t riso csys pole s
  | .imdConflict t => Sys2Proof.Machine.execImdConflict t s
  | .channelSaturated t ch => Sys2Proof.Machine.execChannelSaturated t ch s
  | .channelRangeFail t ch => Sys2Proof.Machine.execChannelRangeFail t ch s
  | .autoZero t k ofs factory => Sys2Proof.Machine.execAutoZero t k ofs factory s
  | .telWindowEnd t w inputs store others => Sys2Proof.Machine.execTelWindowEnd t w inputs store others s
  | .pkSnap t r => Sys2Proof.Machine.execPkSnap t r s
  | .phtSnap t r => Sys2Proof.Machine.execPhtSnap t r s
  | .stepSnap t r => Sys2Proof.Machine.execStepSnap t r s
  | .capArm t r => Sys2Proof.Machine.execCapArm t r s
  | .capTriggerCmd t r => Sys2Proof.Machine.execCapTriggerCmd t r s
  | .capStreamA t r => Sys2Proof.Machine.execCapStreamA t r s
  | .capAbort t r => Sys2Proof.Machine.execCapAbort t r s
  | .captureTrigger t x => Sys2Proof.Machine.execCaptureTrigger t x s
  | .capPreHeld t => Sys2Proof.Machine.execCapPreHeld t s
  | .capFrozen t => Sys2Proof.Machine.execCapFrozen t s
  | .streamAEnd t status => Sys2Proof.Machine.execStreamAEnd t status s
  | .capTrigRx t h ntime => Sys2Proof.Machine.execCapTrigRx t h ntime s
  | .streamBBlock t => Sys2Proof.Machine.execStreamBBlock t s
  | .gapRx t h m => Sys2Proof.Machine.execGapRx t h m s
  | .gapRecordTx t m => Sys2Proof.Machine.execGapRecordTx t m s
  | .cableSys t r => Sys2Proof.Machine.execCableSys t r s
  | .cableBat t r => Sys2Proof.Machine.execCableBat t r s
  | .cableBrk t r => Sys2Proof.Machine.execCableBrk t r s
  | .brkAutoMeasure t vLink => Sys2Proof.Machine.execBrkAutoMeasure t vLink s
  | .cableResult t run x => Sys2Proof.Machine.execCableResult t run x s
  | .calSet t r => Sys2Proof.Machine.execCalSet t r s
  | .esessOpen t r => Sys2Proof.Machine.execEsessOpen t r s
  | .esessClose t r => Sys2Proof.Machine.execEsessClose t r s
  | .esessInterim t => Sys2Proof.Machine.execEsessInterim t s
  | .linkUp t l => Sys2Proof.Machine.execLinkUp t l s
  | .linkDown t l => Sys2Proof.Machine.execLinkDown t l s
  | .delayReqTx t l => Sys2Proof.Machine.execDelayReqTx t l s
  | .delayReqRx t l h residence => Sys2Proof.Machine.execDelayReqRx t l h residence s
  | .delayRespRx t l h m => Sys2Proof.Machine.execDelayRespRx t l h m s
  | .beaconTx t => Sys2Proof.Machine.execBeaconTx t s
  | .beaconRx t l h m tOutDelay => Sys2Proof.Machine.execBeaconRx t l h m tOutDelay s
  | .beaconReturn t cycle slots loopTime turned => Sys2Proof.Machine.execBeaconReturn t cycle slots loopTime turned s
  | .creditRx t l h freed => Sys2Proof.Machine.execCreditRx t l h freed s
  | .creditTx t l => Sys2Proof.Machine.execCreditTx t l s
  | .claimTx t => Sys2Proof.Machine.execClaimTx t s
  | .claimRx t l h m => Sys2Proof.Machine.execClaimRx t l h m s
  | .electionWin t => Sys2Proof.Machine.execElectionWin t s
  | .ringOfOneLantern t => Sys2Proof.Machine.execRingOfOneLantern t s
  | .netHandover t r => Sys2Proof.Machine.execNetHandover t r s
  | .handoverRx t h target lgen => Sys2Proof.Machine.execHandoverRx t h target lgen s
  | .handoverLapse t => Sys2Proof.Machine.execHandoverLapse t s
  | .timeRelayRx t l h t0 cf => Sys2Proof.Machine.execTimeRelayRx t l h t0 cf s
  | .ntimeHoldoverExpiry t => Sys2Proof.Machine.execNtimeHoldoverExpiry t s
  | .stnRecRx t h m => Sys2Proof.Machine.execStnRecRx t h m s
  | .stnAssignRx t h mac stn ring => Sys2Proof.Machine.execStnAssignRx t h mac stn ring s
  | .ringSumTx t => Sys2Proof.Machine.execRingSumTx t s
  | .ringSumRx t h m => Sys2Proof.Machine.execRingSumRx t h m s
  | .fleetStateTx t => Sys2Proof.Machine.execFleetStateTx t s
  | .fleetStateRx t h m => Sys2Proof.Machine.execFleetStateRx t h m s
  | .imdAlarmRx t h gsys state role riso => Sys2Proof.Machine.execImdAlarmRx t h gsys state role riso s
  | .synciEdge t => Sys2Proof.Machine.execSynciEdge t s
  | .syncoPulse t => Sys2Proof.Machine.execSyncoPulse t s
  | .linkWakeTx t r => Sys2Proof.Machine.execLinkWakeTx t r s
  | .odRead t r => Sys2Proof.Machine.execOdRead t r s
  | .odWrite t r => Sys2Proof.Machine.execOdWrite t r s
  | .odCommit t r => Sys2Proof.Machine.execOdCommit t r s
  | .odDiscard t r => Sys2Proof.Machine.execOdDiscard t r s
  | .journalDurable t ok => Sys2Proof.Machine.execJournalDurable t ok s
  | .stageTimeout t => Sys2Proof.Machine.execStageTimeout t s
  | .assemblyTimeout t requester => Sys2Proof.Machine.execAssemblyTimeout t requester s
  | .queueTimeout t r => Sys2Proof.Machine.execQueueTimeout t r s
  | .recordHoldExpiry t => Sys2Proof.Machine.execRecordHoldExpiry t s
  | .pstoreDefaults t r => Sys2Proof.Machine.execPstoreDefaults t r s
  | .rstCmd t r => Sys2Proof.Machine.execRstCmd t r s
  | .rtcWrite t r => Sys2Proof.Machine.execRtcWrite t r s
  | .cmpModeWrite t r => Sys2Proof.Machine.execCmpModeWrite t r s
  | .cmpMatch t c => Sys2Proof.Machine.execCmpMatch t c s
  | .kprKey t r => Sys2Proof.Machine.execKprKey t r s
  | .kprCheckin t r => Sys2Proof.Machine.execKprCheckin t r s
  | .keeperExpiry t => Sys2Proof.Machine.execKeeperExpiry t s
  | .faultRaise t b bit active value => Sys2Proof.Machine.execFaultRaise t b bit active value s
  | .faultScan t => Sys2Proof.Machine.execFaultScan t s
  | .faultAck t b bits => Sys2Proof.Machine.execFaultAck t b bits s
  | .faultEscalate t b => Sys2Proof.Machine.execFaultEscalate t b s
  | .blockResetDone t b => Sys2Proof.Machine.execBlockResetDone t b s
  | .faultRecover t b => Sys2Proof.Machine.execFaultRecover t b s
  | .fltStickyClear t r => Sys2Proof.Machine.execFltStickyClear t r s
  | .fltLatchedClear t r => Sys2Proof.Machine.execFltLatchedClear t r s
  | .fltInject t r => Sys2Proof.Machine.execFltInject t r s
  | .injMiss t b bit => Sys2Proof.Machine.execInjMiss t b bit s
  | .faultContactRestore t => Sys2Proof.Machine.execFaultContactRestore t s
  | .eraseDone t => Sys2Proof.Machine.execEraseDone t s
  | .eraseTimeout t => Sys2Proof.Machine.execEraseTimeout t s
  | .usbAttach t source => Sys2Proof.Machine.execUsbAttach t source s
  | .usbDetach t => Sys2Proof.Machine.execUsbDetach t s
  | .sourceCapabilities t m => Sys2Proof.Machine.execSourceCapabilities t m s
  | .eprKeepalive t answered => Sys2Proof.Machine.execEprKeepalive t answered s
  | .eprExit t => Sys2Proof.Machine.execEprExit t s
  | .prSwap t => Sys2Proof.Machine.execPrSwap t s
  | .drSwap t => Sys2Proof.Machine.execDrSwap t s
  | .frSwap t asMessage => Sys2Proof.Machine.execFrSwap t asMessage s
  | .notSupported t message => Sys2Proof.Machine.execNotSupported t message s
  | .hardReset t sent => Sys2Proof.Machine.execHardReset t sent s
  | .vbusDischargeDone t vbus => Sys2Proof.Machine.execVbusDischargeDone t vbus s
  | .discoverIdentity t => Sys2Proof.Machine.execDiscoverIdentity t s
  | .discoverSvids t => Sys2Proof.Machine.execDiscoverSvids t s
  | .discoverModes t svid => Sys2Proof.Machine.execDiscoverModes t svid s
  | .enterMode t svid pos => Sys2Proof.Machine.execEnterMode t svid pos s
  | .exitMode t => Sys2Proof.Machine.execExitMode t s
  | .usbTransfer t length r => Sys2Proof.Machine.execUsbTransfer t length r s
  | .credLogin t r => Sys2Proof.Machine.execCredLogin t r s
  | .credLogout t r => Sys2Proof.Machine.execCredLogout t r s
  | .credSet t r => Sys2Proof.Machine.execCredSet t r s
  | .sessionIdleTimeout t requester => Sys2Proof.Machine.execSessionIdleTimeout t requester s
  | .lockoutExpiry t cls => Sys2Proof.Machine.execLockoutExpiry t cls s
  | .secretErase t r => Sys2Proof.Machine.execSecretErase t r s
  | .scrubDone t => Sys2Proof.Machine.execScrubDone t s
  | .ringKeyOwn t r => Sys2Proof.Machine.execRingKeyOwn t r s
  | .ringKeyPar t r => Sys2Proof.Machine.execRingKeyPar t r s
  | .signKeygen t r => Sys2Proof.Machine.execSignKeygen t r s
  | .fwImg t r => Sys2Proof.Machine.execFwImg t r s
  | .fwVerifyDone t m => Sys2Proof.Machine.execFwVerifyDone t m s
  | .fwSwitch t r => Sys2Proof.Machine.execFwSwitch t r s
  | .trialConfirm t => Sys2Proof.Machine.execTrialConfirm t s
  | .h2wWriteTransaction t bytes e => Sys2Proof.Machine.execH2wWriteTransaction t bytes e s
  | .h2wReadTransaction t count => Sys2Proof.Machine.execH2wReadTransaction t count s
  | .h2wPageSelect t page => Sys2Proof.Machine.execH2wPageSelect t page s
  | .h2wGo t => Sys2Proof.Machine.execH2wGo t s
  | .h2wRelease t => Sys2Proof.Machine.execH2wRelease t s
  | .h2wResponse t => Sys2Proof.Machine.execH2wResponse t s
  | .alertCauseWrite t bits => Sys2Proof.Machine.execAlertCauseWrite t bits s
  | .alertResponse t won => Sys2Proof.Machine.execAlertResponse t won s
  | .h2wSrInAck t => Sys2Proof.Machine.execH2wSrInAck t s
  | .sclTimeout t port => Sys2Proof.Machine.execSclTimeout t port s
  | .sdaTimeout t port => Sys2Proof.Machine.execSdaTimeout t port s
  | .bat2wPoll t u => Sys2Proof.Machine.execBat2wPoll t u s
  | .balertEdge t u => Sys2Proof.Machine.execBalertEdge t u s
  | .bat2wBlockReadDone t u m => Sys2Proof.Machine.execBat2wBlockReadDone t u m s
  | .bat2wRetry t u => Sys2Proof.Machine.execBat2wRetry t u s
  | .arbLost t u atStop => Sys2Proof.Machine.execArbLost t u atStop s
  | .canRequest t f => Sys2Proof.Machine.execCanRequest t f s
  | .canStatusFrame t => Sys2Proof.Machine.execCanStatusFrame t s
  | .canMappedFrame t f => Sys2Proof.Machine.execCanMappedFrame t f s
  | .mapStale t m => Sys2Proof.Machine.execMapStale t m s
  | .canBusOff t u => Sys2Proof.Machine.execCanBusOff t u s
  | .canBusOffRecover t u => Sys2Proof.Machine.execCanBusOffRecover t u s
  | .tcxoFail t => Sys2Proof.Machine.execTcxoFail t s
  | .pllUnlock t => Sys2Proof.Machine.execPllUnlock t s
  | .pllRelockTimeout t => Sys2Proof.Machine.execPllRelockTimeout t s
  | .por => Sys2Proof.Machine.execPor s
  | .bor => Sys2Proof.Machine.execBor s
  | .wrstPin t => Sys2Proof.Machine.execWrstPin t s
  | .wdrst t => Sys2Proof.Machine.execWdrst t s
  | .sfrst t => Sys2Proof.Machine.execSfrst t s
  | .wakeEvent w supply => Sys2Proof.Machine.execWakeEvent w supply s
  | .startUp rtcAdv epochOk x => Sys2Proof.Machine.execStartUp rtcAdv epochOk x s
  | .epochWriteRetry ok => Sys2Proof.Machine.execEpochWriteRetry ok s
  | .aoReserveExhausted => Sys2Proof.Machine.execAoReserveExhausted s
  | .sourceReturn port => Sys2Proof.Machine.execSourceReturn port s
  | .holdupRechargeCheck t e => Sys2Proof.Machine.execHoldupRechargeCheck t e s
  | .tamperClose t => Sys2Proof.Machine.execTamperClose t s
  | .phyLink t l up => Sys2Proof.Machine.execPhyLink t l up s
  | .frameForward t l h m => Sys2Proof.Machine.execFrameForward t l h m s
  | .fenceRampDone t => Sys2Proof.Machine.execFenceRampDone t s
  | .canErrorPassive t u passive => Sys2Proof.Machine.execCanErrorPassive t u passive s
  | .faultEventHoldExpiry t b bit => Sys2Proof.Machine.execFaultEventHoldExpiry t b bit s
  | .readSnapshotExpiry t requester => Sys2Proof.Machine.execReadSnapshotExpiry t requester s
  | .pdRequest t volts => Sys2Proof.Machine.execPdRequest t volts s
  | .partnerIdentityRx t vdos => Sys2Proof.Machine.execPartnerIdentityRx t vdos s
  | .imdGrantTx t => Sys2Proof.Machine.execImdGrantTx t s

end Sys2Proof.Machine
end

