-- ==== Sys2Proof/Safety.lean ====
section
/-! DEFINITION. Safety.lean: the words that statements about the module use: what a command makes of it, what it leaves as it
was, when a request takes its entry's effect and how it is answered, and the forms that every state keeps. -/

namespace Sys2Proof.Machine

open Sys2Proof

/-! ## What a command makes of the module -/

/-- The command answers a next state in which only the module proper differs; `P` relates the module at the command's tick to
the module after it. The waiting commands and the server's memory of requesters are unchanged. -/
def DoesM (i : Instr) (t : Nat) (s : State) (P : Mod → Mod → Prop) : Prop :=
  ∃ m' : Mod, exec i s = .next { s with m := m' } ∧ P (s.m.at t) m'

/-- The command answers a next state in which the waiting commands are unchanged; `P` relates the module and the server at the
command's tick to those after it. -/
def DoesS (i : Instr) (t : Nat) (s : State) (P : Sys → Sys → Prop) : Prop :=
  ∃ y : Sys, exec i s = .next { s with m := y.1, srv := y.2 } ∧ P (s.m.at t, s.srv) y

/-! ## Frames -/

/-- The places of all instances of a family. -/
def Fam.keys (f : Fam) : List Nat := (List.range f.count).map f.key

/-- Every entry of the dictionary outside the places `ks` is unchanged. -/
def SameOd (ks : List Nat) (m m' : Mod) : Prop := ∀ k : Nat, k ∉ ks → odGet m'.od k = odGet m.od k

/-- Every timer outside `Ts` is unchanged. -/
def SameTimers (Ts : List Tmr) (m m' : Mod) : Prop := ∀ T : Tmr, T ∉ Ts → m'.deadline T = m.deadline T

/-- The module without its entries, its timers and what the latest command put out. -/
def Mod.rest (m : Mod) : Mod := { m with od := [], timers := [], out := [] }

/-- Nothing changes but the entries at `ks`, the timers `Ts`, and what the command puts out. -/
def Frame (ks : List Nat) (Ts : List Tmr) (m m' : Mod) : Prop :=
  SameOd ks m m' ∧ SameTimers Ts m m' ∧ m'.rest = m.rest

/-- The places that an event record touches (R498, R500, R405, R496). -/
def logKeys : List Nat := E.LOG_CNT.keys ++ (E.LOG_NEXT.keys ++ (E.Q_DROP.keys ++ (E.KPR_STATE.keys ++
  [E.Q_FILL.key 26, E.Q_MAX.key 26, E.Q_HIGH.key 26, E.Q_HWM_CNT.key 26])))

/-- The module without, besides, what an event record touches: the log, its queue, an erase it starts, the keeper's pause. -/
def Mod.quiet (m : Mod) : Mod := { m.rest with log := [], q26 := [], q26Lost := 0, eraseOp := none, kpr := {} }

/-- Nothing changes but the entries at `ks`, the timers `Ts`, what the command puts out, and what event records touch. -/
def FrameLog (ks : List Nat) (Ts : List Tmr) (m m' : Mod) : Prop :=
  SameOd (ks ++ logKeys) m m' ∧ SameTimers (.erase :: Ts) m m' ∧ m'.quiet = m.quiet

/-! ## Groups of entries that shared operations touch -/

/-- R27, R170: what gate-off touches. -/
def stageFams : List Fam :=
  [E.PH_STATE, E.PH_SLOT, E.PH_I, E.PH_IREF, E.STG_NACT, E.IN_PHASES, E.SST_STATE, E.FB_ACTIVE, E.BRIDGE_STATE]

/-- What an event record touches (R498, R500, R405, R496). -/
def logFams : List Fam :=
  [E.LOG_CNT, E.LOG_NEXT, E.Q_DROP, E.KPR_STATE, E.Q_FILL, E.Q_MAX, E.Q_HIGH, E.Q_HWM_CNT]

/-- What a frame that leaves touches (R345, R362, R364, R405). -/
def outFams : List Fam :=
  [E.CLS_TX, E.EXP_DEFER, E.EXP_LATE, E.Q_FILL, E.Q_MAX, E.Q_HIGH, E.Q_HWM_CNT]

/-- What a trigger of the capture touches (R320, R321). -/
def capFams : List Fam :=
  [E.CAP_FLAGS, E.CAP_NUM, E.CAP_STATE, E.CAP_TRIG_CAUSE, E.CAP_TRIG_LOST, E.CAP_TRIG_T]

/-- R296, R192: what a SAFE force touches, the intents that it withdraws and the capture that it triggers among them. -/
def forceFams : List Fam :=
  [E.SAFE_FORCE_SRC, E.SS_STATE, E.ILKO_STATE, E.CONT_STATE, E.CONT_I, E.INT_PENDING, E.INT_NEXT_T, E.INT_PB_V] ++ (stageFams ++ (logFams ++ (outFams ++ capFams)))

/-- R477, R483, R487: what raising a source touches. -/
def raiseFams : List Fam :=
  [E.FLT_ACTIVE, E.FLT_STICKY, E.FLT_CLASS, E.FLT_SUMMARY, E.FAULT_OUT] ++ forceFams

/-- R279, R280, R294: what a trip touches. -/
def tripFams : List Fam :=
  [E.PROT_STATE, E.PROT_CAUSE, E.TRIP_CNT, E.TRIP_I, E.QUAL_STATE, E.QUAL_CAUSE, E.DEAD_STATE, E.IN_ICEIL, E.IN_CEIL_SRC] ++ raiseFams

/-- What serving a request touches (R397, R405, R345, R494). -/
def serveFams : List Fam :=
  [E.Q_FILL, E.Q_MAX, E.Q_HIGH, E.Q_HWM_CNT, E.REC_EARLY, E.CLS_TX, E.KPR_SEEN]

/-- What taking a frame in, and answering it, touches. -/
def rxFams : List Fam :=
  [E.CLS_RX, E.CLS_TX, E.EXP_DEFER, E.EXP_LATE, E.Q_FILL, E.Q_MAX, E.Q_HIGH, E.Q_HWM_CNT]

/-- The role of R265, and the trim that ends with it (R175). -/
def roleFams : List Fam :=
  [E.SHARE_ROLE, E.SHARE_IDX, E.SHARE_GEN, E.LL_TRIM]

/-- The accounts of a profile run. -/
def runFams : List Fam :=
  [E.RUN_T, E.RUN_AH_IN, E.RUN_AH_OUT, E.RUN_WH_IN, E.RUN_WH_OUT, E.RUN_V_END, E.RUN_EXIT, E.RUN_ENTRIES,
   E.RUN_CLAMP_T, E.RUN_HELD_T, E.RUN_SYSPRIO_T]

/-- No entry outside these families changes. -/
def OnlyFams (fs : List Fam) (m m' : Mod) : Prop := SameOd (fs.flatMap Fam.keys) m m'

/-! ## Requests (R387) -/

/-- The module and the server once a request is taken, before its entry is looked at. -/
def arrived (r : Req) (x : Sys) : Sys := takeIn (askerOf r (x.1.n E.EPOCH 0)) r (queued r x)

/-- Steps 1 to 7 of R387 pass: the queue has room, the session stands, the epoch is the present one, the SEQ is new, and a
record can be had. -/
structure Admitted (x : Sys) (r : Req) : Prop where
  room : x.1.requestFull r = false
  session : x.2.sessionValid r = true
  fresh : ¬ (r.transport = .zwl ∧ x.1.stale.contains r.requester = true)
  epoch : r.epoch = x.1.n E.EPOCH 0 ∧ r.epoch ≠ 0
  newSeq : ∀ last, x.2.seqs.find? (·.1 == r.requester) = some last → newer r.seq last.2 = true
  record : x.2.recordFree = true

/-- The entry takes the value `v` in a whole WRITE: the request is admitted and passes every check of R387. -/
structure Takes (x : Sys) (r : Req) (f : Fam) (i : Nat) (v : Val) : Prop where
  admitted : Admitted x r
  op : r.op = 2
  sub : r.sub ≠ 0
  place : findEntry r.index r.sub families = some (f, i)
  type : r.ty = tyCode f.ty
  len : r.len = r.data.length
  whole : r.offset = 0 ∧ r.more = false
  size : ∀ k, tySize f.ty = some k → r.data.length = k
  most : tySize f.ty = none → r.data.length ≤ 1024 ∧ r.data.length ≤ f.maxLen
  value : v = f.decode r.data
  writable : (ruleOf f i).ro (arrived r x).1 r = false
  checks : checkValue (arrived r x) f i (ruleOf f i) r ((arrived r x).2.level r) v false false = none

/-- A READ of the entry from its start is taken: it is admitted, and its fields are as steps 8 to 12 ask. -/
structure Reads (x : Sys) (r : Req) (f : Fam) (i : Nat) : Prop where
  admitted : Admitted x r
  op : r.op = 1
  sub : r.sub ≠ 0
  place : findEntry r.index r.sub families = some (f, i)
  type : r.ty = tyCode f.ty ∨ r.ty = 0
  empty : r.len = 0 ∧ r.data = []
  start : r.offset = 0 ∧ r.stagedView = false

/-- A request of the USB service host has been answered with this status and data. -/
def Answered (y : Sys) (r : Req) (status : Nat) (data : List Nat) : Prop :=
  r.transport = .usb → y.1.out.any (fun o => match o with
    | .resp a => a.requester == r.requester && a.seq == r.seq && a.op == r.op + 128 && a.status == status && a.data == data
    | _ => false) = true

/-- The record of a request stands with this status (R397): 0 OK, 1 ACCEPTED, 0xFF not yet answered. -/
def Recorded (y : Sys) (x : Sys) (r : Req) (status : Nat) : Prop :=
  ∃ c, y.2.recOf r.requester (x.1.n E.EPOCH 0) r.seq = some c ∧ c.status = status

/-- The places that serving a request touches (R397, R405, R345, R494). -/
def serviceKeys : List Nat :=
  E.Q_FILL.keys ++ (E.Q_MAX.keys ++ (E.Q_HIGH.keys ++ (E.Q_HWM_CNT.keys ++ (E.REC_EARLY.keys ++ (E.CLS_TX.keys ++ E.KPR_SEEN.keys)))))

/-- The module and the server once a read is taken, before its entry is looked at: it has no completion record (R397). -/
def looked (r : Req) (x : Sys) : Sys := touchSession ((queued r x).1, noteSeq (queued r x).2 r.requester r.seq) r

/-- A request refused in steps 1 to 7 of R387 leaves no record and no entry but the queue's (R388). -/
def TurnedAway (x y : Sys) : Prop := y.2 = x.2 ∧ SameOd serviceKeys x.1 y.1 ∧ SameTimers [] x.1 y.1 ∧ y.1.journal = x.1.journal

/-! ## Trips (R279, R280, R286, R294) -/

/-- Port `k` has tripped: its switch is open, its state TRIPPED with its cause or, at the repeated trip, LATCHED with cause 7; the
trip counts, an input or BAT leaves its qualification, the stages that SYS or BAT holds are gated off, and no other port's state
changes. -/
structure Tripped (k cause : Nat) (m m' : Mod) : Prop where
  frame : OnlyFams (tripFams ++ [E.BRIDGE_EXIT, E.BRIDGE_FORCED, E.BRK_HEAT, E.BRK_HEAT_PCT, E.BRK_LIMITING, E.CHG_IREF, E.CLAMP_E,
    E.COUPLING_ACT, E.PH_MODE, E.SW_TEMP, E.TRANS_STATE]) m m'
  state :
    let n := 1 + ((m.protOf k).trips.filter (fun u => decide ((m.tb : Int) < u + sec (m.n E.PROT_LATCH_W k)))).length
    let latch := m.n E.PROT_LATCH_N k ≤ n
    m'.n E.PROT_STATE k = (if latch then 3 else 2) ∧ m'.n E.PROT_CAUSE k = (if latch then 7 else cause)
  count : m'.n E.TRIP_CNT k = inc32 (m.n E.TRIP_CNT k)
  switch : m'.closed k = false
  told : bit m'.alert 3 = true
  qual : k < 5 → m'.n E.QUAL_STATE k = 0
  gates : (k = 5 → m'.gated 0 = true ∧ m'.gated 1 = true) ∧ (k = 4 → m'.gated 1 = true)
  others : ∀ j, j < 8 → j ≠ k → m'.n E.PROT_STATE j = m.n E.PROT_STATE j

/-- Port `k` has cleared to NORMAL by itself: its cause and count stand, and the switch of AUX24, which nothing keeps open, closes. -/
structure Cleared (k : Nat) (m m' : Mod) : Prop where
  frame : OnlyFams (tripFams ++ [E.SST_HICCUP, E.SW_TEMP]) m m'
  state : m'.n E.PROT_STATE k = 0 ∧ m'.n E.PROT_CAUSE k = m.n E.PROT_CAUSE k ∧ m'.n E.TRIP_CNT k = m.n E.TRIP_CNT k
  switch : k = 7 → m'.portUsable 7 = true → m.lockstep = false → (m.protOf 7).pilotOpen = false → m'.closed 7 = true

/-! ## Profiles (R212, R216) -/

/-- What going to `target` makes of the running profile: a step is entered, or past PROF_MAXVISITS the profile ends; 0xFE ends
it COMPLETE, unless it chains; any other target ends it. -/
def GoneTo (target : Nat) (m m' : Mod) : Prop :=
  (target < 16 ∧ m.n E.STEP_VISITS 0 < m.n E.PROF_MAXVISITS (m.n E.PROF_ACT 0) →
    m'.n E.STEP_ACT 0 = target ∧ m'.n E.STEP_VISITS 0 = m.n E.STEP_VISITS 0 + 1 ∧ m'.n E.STEP_TIME 0 = 0 ∧
    m'.n E.PROF_STATE 0 = m.n E.PROF_STATE 0) ∧
  (target < 16 ∧ m.n E.PROF_MAXVISITS (m.n E.PROF_ACT 0) ≤ m.n E.STEP_VISITS 0 → m'.n E.PROF_STATE 0 = 3 ∧ m'.n E.PROF_RESULT 0 = 4) ∧
  (target = 0xFE ∧ 16 ≤ m.n E.PROF_CHAIN (m.n E.PROF_ACT 0) → m'.n E.PROF_STATE 0 = 3 ∧ m'.n E.PROF_RESULT 0 = 1) ∧
  (16 ≤ target ∧ target ≠ 0xFE → m'.n E.PROF_STATE 0 = 3 ∧ m'.n E.PROF_RESULT 0 = 5)

/-! ## Resets (R515) -/

/-- A reset of kind `c` has begun: the gates, the switches in `ports`, CONT, FAULT and ILKO are off, of causes that coincide
the lowest code stands, no timer runs, and what no reset takes away stands as it was. -/
structure ResetTo (c : Nat) (ports : List Nat) (m m' : Mod) : Prop where
  gates : m'.gated 0 = true ∧ m'.gated 1 = true
  switches : ∀ k ∈ ports, m'.closed k = false
  contacts : m'.safe.contOn = false ∧ m'.b E.FAULT_OUT 0 = false ∧ m'.b E.ILKO_STATE 0 = false
  cause : m'.rst = some (min c (m.rst.getD c))
  phase : m'.phase = if c ≤ 2 then .off else .booting
  timers : m'.timers = []
  kept : m'.pst = m.pst ∧ m'.keys = m.keys ∧ m'.log = m.log ∧ m'.journal = m.journal ∧ m'.tb = m.tb

/-- A start has ended (R516 to R518): the module runs with the next epoch, which is durable, its volatile entries afresh, the
path off, and nothing queued or staged; the cause is told, and TB goes on from `tb`. -/
structure StartedFrom (tb : Nat) (m : Mod) (y : Sys) : Prop where
  runs : y.1.phase = .running ∧ y.1.rst = none
  cause : y.1.n E.RST_CAUSE 0 = m.rst.getD 1
  epoch : y.1.n E.EPOCH 0 = m.durableEpoch + 1 ∧ y.1.durableEpoch = m.durableEpoch + 1
  time : y.1.tb = tb
  axes : y.1.n E.ENV_REQ 0 = 0 ∧ y.1.n E.ENV_EFF 0 = 0 ∧ y.1.n E.POWER_ACT 0 = 0 ∧ y.1.modes.bootIssued = false
  path : y.1.gated 0 = true ∧ y.1.gated 1 = true ∧ (∀ k, k < 6 → y.1.closed k = false)
  server : y.2.stage = [] ∧ y.2.sessions.all (fun q => q.requester == usbRequester) = true ∧ y.2.asms = [] ∧ y.2.snaps = [] ∧ y.2.commit = none
  secrets : m.keys.latch = false → m.journal = [] → m.keys.scrub = false → y.1.keys = m.keys

/-- R448: at a start that does not run the module SAFE has read the tamper latch: a tamper whose erase is not yet done erases every
secret, and otherwise they stand. -/
def SecretsAtStart (m m' : Mod) : Prop :=
  if m.keys.latch = true ∧ m.keys.latchErased = false then
    m'.keys.own = none ∧ m'.keys.par = none ∧ m'.keys.sign = none ∧ m'.keys.cred = [none, none, none] ∧ m'.keys.latchErased = true
  else m'.keys = m.keys

/-! ## Frames (R345, R362, R367) -/

/-- The key of the ring in which a frame travels (R347). -/
def Mod.ringKeyOf (m : Mod) (h : Hdr) (ln : Option Nat) : Option (List Nat) := if m.fromParent h ln then m.keys.par else m.keys.own

/-- The eight steps of R367 pass for a frame of TYPE `typ` of originator `who`, which came by link `ln` where the command names
one. -/
structure PassesBy (m : Mod) (h : Hdr) (typ : Nat) (ln : Option Nat) (who : Nat) : Prop where
  up : m.linkShut typ (ln.getD h.via) = false
  fcs : h.fcsOk = true
  header : headerOk h = true ∧ h.typ = typ ∧ h.hops ≠ 0
  key : h.key = m.ringKeyOf h ln ∧ h.key.isSome = true
  replay : m.fresh who h = true
  lgen : ¬ (h.lant = true ∧ newer (if m.fromParent h ln then m.net.parLgen else m.n E.LGEN 0) h.gen = true)
  gen : staleExempt typ = true ∨ m.superseded h = false
  room : m.queueFull (8 + h.cls) h.bytes = false

/-- The same, for an originator told by its address. -/
def Passes (m : Mod) (h : Hdr) (typ : Nat) (ln : Option Nat) : Prop := PassesBy m h typ ln (originator h (ln.getD 0))

/-- The places that taking a frame in and sending one touch (R345, R362, R363, R405). -/
def frameKeys : List Nat :=
  E.CLS_RX.keys ++ (E.CLS_TX.keys ++ (E.EXP_DEFER.keys ++ E.EXP_LATE.keys ++ (E.Q_FILL.keys ++ (E.Q_MAX.keys ++ (E.Q_HIGH.keys ++ E.Q_HWM_CNT.keys)))))

/-- A frame with its class, TYPE, destination, SEQ, length and SCOPE by R345 and R346, and its payload. -/
def isFrame (cls typ dst seq : Nat) (content : List Nat) : Out → Bool
  | .frame _ h c => h.cls == cls && h.typ == typ && h.dst == dst && h.seq == seq && h.len == content.length && h.ver == 1 &&
      h.hops == 255 && h.scope == typeScope typ && c == content
  | _ => false

/-- A frame of the module has left with its class's next SEQ, or waits for its wire or for credit (R345, R364, R365). -/
def Sent (m m' : Mod) (cls typ dst : Nat) (content : List Nat) : Prop :=
  let f := isFrame cls typ dst ((m.net.txSeq[cls]?).getD 0) content
  m'.out.any f = true ∨ m'.net.held.any (fun x => f x.out) = true

/-! ## Forms that are kept -/

/-- R391, R397, R445: at most 512 staged values, 256 completion records and 64 requesters with a latest SEQ, and one counter of
failed logins for each of the four transport classes. -/
structure Srv.Bounded (v : Srv) : Prop where
  stage : v.stage.length ≤ 512
  recs : v.recs.length ≤ 256
  seqs : v.seqs.length ≤ 64
  fails : v.fails.length = 4

end Sys2Proof.Machine
end

