-- ==== Sys2Proof/Certificates/Slice0/Obligations.lean ====
section
/-! DEFINITION. Certificates/Slice0/Obligations.lean: the statements about the module, family by family. -/

open Sys2Proof Sys2Proof.Machine

/-! ## The step and the queue -/

/-- One step takes the command at the front of the queue and answers what that command does on the state with the queue's
rest. -/
def Obligations.StepTakesTheFrontCommand : Prop :=
  ∀ (c : Instr) (rest : List Instr) (s : State), step { s with pending := c :: rest } = exec c { s with pending := rest }

/-- No command is without a meaning, and the waiting commands are no command's to change. On an empty queue the block idles
(the model's choice, assumption log 2). -/
def Obligations.TheQueueIsServedInOrder : Prop :=
  (∀ (c : Instr) (s : State), (∀ r, exec c s ≠ .refused r) ∧ ∀ s', exec c s = .next s' → s'.pending = s.pending) ∧
  (∀ s : State, s.pending = [] → step s = .next s)

/-- R37: only MODE_TICK can stop the machine, and only where a port's voltage lies beyond its absolute maximum: below its
range, above its highest transient, or above its range for longer than a transient may last or sooner than one may follow
another (R36). -/
def Obligations.OnlyVoltagesBeyondTheMaximumStopTheMachine : Prop :=
  ∀ (c : Instr) (s : State) (f : Fault), exec c s = .fault f →
    ∃ t x k, c = .modeTick t x ∧ f = .outsideManual k ∧ k < 8 ∧ s.m.alive = true ∧
      (s.m.at t).portBeyond k ((((s.m.at t).meansOf (x.smp.map (s.m.at t).codes)).v[k]?).getD 0) = true

/-! ## The server's memory (R391, R397, R445) -/

/-- The forms that the server keeps: at most 512 staged entries, 256 completion records and 64 requesters, and one counter
of failed logins for each transport class. -/
def Obligations.EveryStepKeepsTheServerBounded : Prop :=
  ∀ s s' : State, s.srv.Bounded → step s = .next s' → s'.srv.Bounded

/-- The request buffer of the HOST2W window (R455) is kept in one form: its bytes in rising order of their addresses, and
none listed that equals what an unwritten byte reads as (the model's choice, assumption log 32). -/
def Obligations.EveryStepKeepsTheRequestBuffer : Prop :=
  ∀ s s' : State, Memory.wf s.m.h2w.buf = true → step s = .next s' → Memory.wf s'.m.h2w.buf = true

/-! ## Modes -/

/-- AUTO_DWELL_EXPIRY (R72), ROTATION_TICK (R172, R173), the entry of HIBERNATE (R513) and the return to ACTIVE (R512).
BRIDGE (R106, R107, R169): entered when its conditions have held for BRIDGE_QUAL ticks, in force when the ramp has ended
with Stage B's phases that may run BRIDGED, and left at the end of the exit. -/
def Obligations.ModeAxisAndBridgeEvents : Prop :=
  (∀ (t : Nat) (s : State) (r : Nat), s.m.alive = true → s.m.modes.dwellCand = some r → moored r = true →
    s.m.n E.ENV_EFF 0 = 10 → s.m.n E.AUTO_DWELL 0 ≤ s.m.modes.dwellCnt → moored (s.m.n E.PATH_ACT 0) = true →
    DoesM (.autoDwellExpiry t) t s fun m m' =>
      m'.n E.PATH_ACT 0 = r ∧ m'.n E.COUPLING_ACT 0 = m.couple r 10 ∧ m'.modes.dwellCand = none ∧ m'.modes.dwellCnt = 0 ∧
      OnlyFams (stageFams ++ (logFams ++ [E.BRIDGE_EXIT, E.CHG_IREF, E.COUPLING_ACT, E.PATH_ACT, E.PH_MODE, E.P_SYS_LIM,
        E.TRANS_STATE])) m m') ∧
  (∀ (t : Nat) (s : State), s.m.alive = true → s.m.n E.BRIDGE_STATE 0 = 2 → (s.m.stgOf 0).respLeft = 0 →
    s.m.anyShedding 0 = false → (s.m.stgOf 0).rotLeft = 0 → s.m.b E.ROT_EN 0 = true →
    DoesM (.rotationTick t) t s fun m m' =>
      m'.n E.ROT_COUNT 0 = inc32 (m.n E.ROT_COUNT 0) ∧ (m'.stgOf 0).addPtr = ((m.stgOf 0).addPtr + 1) % 8 ∧
      m'.stgOf 1 = m.stgOf 1 ∧ SameOd (E.PH_SLOT.keys ++ E.ROT_COUNT.keys) m m' ∧ SameTimers [] m m') ∧
  (∀ (t : Nat) (s : State), s.m.alive = true → s.m.modes.hibernating = true → s.m.n E.POWER_REQ 0 = 2 →
    s.m.n E.ENV_EFF 0 = 0 → s.m.envelope.1 = 0 →
    DoesS (.hibernateEntry t) t s fun x y =>
      OnlyFams (raiseFams ++ [E.HOLDUP_E, E.KPR_SEEN, E.LINK_STATE, E.POWER_ACT, E.STAGE_DISCARDS, E.USB_DATA_ROLE, E.USB_EPR,
        E.USB_I, E.USB_PWR_ROLE, E.USB_STATE, E.USB_V]) x.1 y.1 ∧
      y.1.phase = .hibernate ∧ y.1.n E.POWER_ACT 0 = 2 ∧ y.1.n E.HOLDUP_E 0 = 0 ∧ y.1.can.term = [false, false] ∧
      y.1.journal = [] ∧ (∀ l, l < 4 → y.1.n E.LINK_STATE l = 0) ∧
      y.1.safe.contOn = false ∧ y.1.b E.FAULT_OUT 0 = false ∧ y.1.b E.ILKO_STATE 0 = false ∧ y.1.n E.USB_STATE 0 = 0 ∧
      (∀ k, k < 6 → y.1.closed k = false) ∧ y.1.closed 7 = false) ∧
  (∀ (t : Nat) (s : State), s.m.alive = true → s.m.modes.raising = true →
    DoesM (.activeReturnDone t) t s fun m m' =>
      m'.n E.POWER_ACT 0 = 0 ∧ m'.modes.raising = false ∧ (∀ g, g < 2 → bit (m'.stgOf g).gate 6 = false) ∧
      SameOd E.POWER_ACT.keys m m' ∧ SameTimers [.activeReturn] m m') ∧
  (∀ (t : Nat) (s : State), s.m.alive = true → s.m.n E.BRIDGE_QUAL 0 ≤ s.m.modes.bridgeQual → s.m.n E.BRIDGE_STATE 0 = 0 →
    s.m.n E.COUPLING_ACT 0 = 1 → s.m.running 1 = true →
    DoesM (.bridgeQualExpiry t) t s fun m m' =>
      m'.n E.BRIDGE_STATE 0 = 1 ∧ m'.n E.COUPLING_ACT 0 = 2 ∧ m'.reg.bridgeTo = some m.vBat ∧
      m'.deadline .bridge = some (m.tb + ticksMs (m.cq E.BRIDGE_RAMP 0)) ∧
      m'.n E.TRANS_STATE 0 = (if m.n E.TRANS_STATE 0 = 1 ∨ m.n E.TRANS_STATE 0 = 2 then 2 else 1) ∧
      Frame [E.BRIDGE_STATE.key 0, E.COUPLING_ACT.key 0, E.TRANS_STATE.key 0] [.bridge]
        { m with modes := { m.modes with bridgeQual := 0, transFail := false, bridgeStep := m.bridgeStepNow }, reg := { m.reg with bridgeTo := some m.vBat } } m') ∧
  (∀ (t : Nat) (s : State), s.m.alive = true → s.m.n E.BRIDGE_STATE 0 = 1 → (s.m.at t).due .bridge = true →
    DoesM (.bridgeEntryDone t) t s fun m m' =>
      m'.n E.BRIDGE_STATE 0 = 2 ∧ m'.deadline .bridge = none ∧
      (∀ p, 8 ≤ p → p < 16 →
        let run := 1 ≤ m.n E.PH_STATE p ∧ m.n E.PH_STATE p ≤ 5 ∧ m.excluded p = false
        (run → m'.n E.PH_STATE p = 7 ∧ m'.n E.PH_MODE p = 3) ∧
        (¬ run → m'.n E.PH_STATE p = m.n E.PH_STATE p ∧ m'.n E.PH_MODE p = m.n E.PH_MODE p)) ∧
      SameOd (E.BRIDGE_STATE.keys ++ (E.PH_STATE.keys ++ (E.PH_MODE.keys ++ (E.STG_NACT.keys ++ E.IN_PHASES.keys)))) m m') ∧
  (∀ (t : Nat) (s : State), s.m.alive = true → s.m.n E.BRIDGE_STATE 0 = 3 → (s.m.at t).due .bridge = true →
    (s.m.at t).vsetDone = true →
    DoesM (.bridgeExitDone t) t s fun m m' =>
      m'.n E.BRIDGE_STATE 0 = 0 ∧ m'.deadline .bridge = none ∧
      Frame [E.BRIDGE_STATE.key 0] [.bridge] { m with reg := { m.reg with bridgeDuty := 0 } } m')

/-- BLACKSTART's steps (R110): each ends as its row says, and a step that its time limit ends fails into SAFESTOP (R111).
The model's own choices: assumption logs 43 and 80. SAFESTOP (R112): both stages' gates off at the end of the ramp, the
switches open 100 µs later, stopped below 60 V. -/
def Obligations.BlackstartAndSafestopSteps : Prop :=
  (∀ (t : Nat) (v : Rat) (s : State), s.m.alive = true → s.m.n E.PATH_ACT 0 = 7 → s.m.n E.BS_STATE 0 = 1 →
    s.m.winLo 4 ≤ v → v ≤ s.m.winHi 4 →
    DoesM (.bsTerminalLive t v) t s fun m m' =>
      m'.n E.BS_STATE 0 = 2 ∧ m'.deadline .bsCont = none ∧
      m'.n E.QUAL_STATE 4 = (if m.n E.QUAL_STATE 4 = 0 ∧ m.portUsable 4 = true then 1 else m.n E.QUAL_STATE 4) ∧
      SameOd [E.BS_STATE.key 0, E.DEAD_STATE.key 0, E.QUAL_STATE.key 4] m m' ∧
      SameTimers [.bsCont, .insertion 4, .precharge 4, .ride 4] m m') ∧
  (∀ (t : Nat) (vInt vTerm : Rat) (s : State), s.m.alive = true → s.m.n E.PATH_ACT 0 = 7 → s.m.n E.BS_STATE 0 = 4 →
    joined vInt vTerm = true → s.m.lockstep = false → (s.m.protOf 4).pilotOpen = false →
    DoesM (.bsPrechargeDone t vInt vTerm) t s fun m m' =>
      OnlyFams (runFams ++ (logFams ++ [E.ADAPT_STATE, E.BS_STATE, E.ESESS_NUM, E.ESESS_STATE, E.IN_CEIL_SRC, E.IN_ICEIL,
        E.MOD_FLAGS,
        E.PROF_ACT, E.PROF_ERR, E.PROF_RESULT, E.PROF_STATE, E.PROF_VALID, E.QUAL_PREFAIL, E.QUAL_STATE, E.DEAD_STATE, E.Q_FILL,
        E.Q_HIGH, E.Q_HWM_CNT, E.Q_MAX, E.SCAN_NPTS, E.SCAN_RESULT, E.SCAN_STATE, E.STEP_ACT, E.STEP_TIME, E.STEP_VISITS,
        E.SUSP_CAUSE])) m m' ∧
      m'.n E.BS_STATE 0 = 5 ∧ m'.n E.QUAL_STATE 4 = 5 ∧ m'.closed 4 = true ∧ m'.deadline .bsPre = none) ∧
  (∀ (t : Nat) (s : State), s.m.alive = true → s.m.n E.PATH_ACT 0 = 7 → s.m.n E.BS_STATE 0 = 6 →
  (s.m.at t).due .bsSettle = true →
    DoesM (.bsSettleExpiry t) t s fun m m' =>
      OnlyFams (stageFams ++ (logFams ++ [E.BRIDGE_EXIT, E.CHG_IREF, E.BS_STATE, E.CONT_STATE, E.COUPLING_ACT, E.DEAD_STATE,
        E.ENV_EFF, E.ENV_REQ, E.ENV_SRC,
        E.INT_MISSED, E.INT_NEXT_T, E.INT_PB_V, E.INT_PENDING, E.IN_CEIL_SRC, E.IN_ICEIL, E.PATH_ACT, E.PATH_REASON, E.PH_MODE,
        E.PH_TAP, E.P_SYS_LIM, E.QUAL_STATE, E.SST_HICCUP, E.SS_STATE, E.STG_PERIOD, E.TRANS_STATE])) m m' ∧
      m'.n E.BS_STATE 0 = 7 ∧ m'.n E.ENV_REQ 0 = m.n E.BS_TARGET 0 ∧ m'.deadline .bsTimeout = none) ∧
  (∀ (t : Nat) (s : State) (c : Instr), s.m.alive = true → s.m.n E.PATH_ACT 0 = 7 → s.m.n E.SS_STATE 0 = 0 →
    ((c = .bsContTExpiry t ∧ s.m.n E.BS_STATE 0 = 1 ∧ (s.m.at t).due .bsCont = true) ∨
     (c = .bsPrechargeTimeout t ∧ s.m.n E.BS_STATE 0 = 4 ∧ (s.m.at t).due .bsPre = true) ∨
     (c = .bsTimeout t ∧ 1 ≤ s.m.n E.BS_STATE 0 ∧ s.m.n E.BS_STATE 0 ≤ 6 ∧ (s.m.at t).due .bsTimeout = true)) →
    DoesM c t s fun m m' =>
      OnlyFams (logFams ++ [E.COUPLING_ACT, E.INT_NEXT_T, E.INT_PB_V, E.INT_PENDING, E.PATH_ACT, E.PATH_REASON,
        E.SS_STATE, E.TRANS_STATE]) m m' ∧
      m'.n E.PATH_ACT 0 = 8 ∧ m'.n E.TRANS_STATE 0 = 3 ∧ m'.modes.transFail = true ∧ m'.bitOf E.PATH_REASON 0 11 = true ∧
      m'.n E.BS_STATE 0 = m.n E.BS_STATE 0 ∧ m'.n E.SS_STATE 0 = 1 ∧ bit m'.alert 2 = true ∧ m'.intents = []) ∧
  (∀ (t : Nat) (s : State), s.m.alive = true → s.m.n E.SS_STATE 0 = 1 → (s.m.at t).due .ssRamp = true →
    DoesM (.ssRampEnd t) t s fun m m' =>
      OnlyFams (stageFams ++ [E.SS_STATE]) m m' ∧
      m'.gated 0 = true ∧ m'.gated 1 = true ∧ m'.n E.SS_STATE 0 = 2 ∧ m'.deadline .ssRamp = none ∧
      m'.deadline .ssOpen = some (m.tb + us 100) ∧ (∀ p, p < 16 → m'.switches p = false)) ∧
  (∀ (t : Nat) (s : State), s.m.alive = true → s.m.n E.SS_STATE 0 = 2 → (s.m.at t).due .ssOpen = true →
    DoesM (.ssSwitchOpen t) t s fun m m' =>
      OnlyFams (logFams ++ [E.CONT_I, E.CONT_STATE, E.DEAD_STATE, E.IN_CEIL_SRC, E.IN_ICEIL, E.QUAL_STATE, E.SS_STATE]) m m' ∧
      m'.n E.SS_STATE 0 = 3 ∧ (∀ k, k < 6 → m'.closed k = false) ∧
      (∀ k, k < 5 → m'.n E.QUAL_STATE k = if m.n E.QUAL_STATE k = 7 then 7 else 0) ∧
      (m.b E.SS_CONT_REL 0 = true ∨ m.contHeld = true → m'.safe.contOn = false) ∧ m'.deadline .ssOpen = none) ∧
  (∀ (t : Nat) (v : Rat) (s : State), s.m.alive = true → s.m.n E.SS_STATE 0 = 3 → v < 60 →
    DoesM (.ssLinkDischarged t v) t s fun m m' =>
      m'.n E.SS_STATE 0 = 4 ∧ m'.safe = { m.safe with bleeder := false } ∧
      Frame [E.SS_STATE.key 0] [] { m with safe := m'.safe } m')

/-- R97: the overload timer of a stage at 10 s limits the stage, and after 60 s without overload returns to 0. Adaptive
limiting (R139 to R142): a measuring step begins at the interval's end where nothing bars it, its result joins the latest
eight estimates, and a terminal below its floor cuts the input's ceiling. -/
def Obligations.OverloadAndAdaptiveLimits : Prop :=
  (∀ (t : Nat) (st : Stage) (s : State), s.m.alive = true → 100000 ≤ (s.m.stgOf (Stage.idx st)).ovl →
    (s.m.stgOf (Stage.idx st)).ovlHeld = false →
    DoesM (.ovlExpiry t st) t s fun m m' =>
      m'.stageRating (Stage.idx st) = m.contRating (Stage.idx st) ∧ m'.q (ovlFam (Stage.idx st)) 0 = 10 ∧
      SameOd [(ovlFam (Stage.idx st)).key 0] m m') ∧
  (∀ (t : Nat) (st : Stage) (s : State), s.m.alive = true → 600000 ≤ (s.m.stgOf (Stage.idx st)).ovlClear →
    DoesM (.ovlClear t st) t s fun m m' =>
      m'.stageRating (Stage.idx st) = m.tenRating (Stage.idx st) ∧ (m'.stgOf (Stage.idx st)).ovl = 0 ∧
      m'.q (ovlFam (Stage.idx st)) 0 = 0 ∧
      SameOd [(ovlFam (Stage.idx st)).key 0] m m') ∧
  (∀ (t k : Nat) (s : State), s.m.alive = true → k < 4 → s.m.n E.QUAL_STATE k = 5 → (s.m.at t).due (.adapt k) = true →
    (∀ j, j < 4 → j ≠ k → (s.m.inpOf j).stepping = none) → s.m.cb E.ADAPT_EN 0 = true → 0 < s.m.iPort k →
    (s.m.inpOf k).starting = false →
    DoesM (.adaptPeriodExpiry t k) t s fun m m' =>
      m'.deadline (.adapt k) = some (m.tb + ms (m.cn E.ADAPT_PERIOD 0)) ∧
      (m.adaptBlocked k = false → (m'.inpOf k).stepping = some (m.adaptStep k (m.iPort k)) ∧ SameOd [] m m') ∧
      (m.adaptBlocked k = true → m'.n E.ADAPT_STATE k = 3 ∧ SameOd [E.ADAPT_STATE.key k] m m')) ∧
  (∀ (t k : Nat) (v i dv load d : Rat) (s : State), s.m.alive = true → k < 4 → (s.m.inpOf k).stepping = some d → 0 < d →
    absR load ≤ 5 → dec 2 1 ≤ dv → dv / d ≤ 50 →
    DoesM (.adaptStepDone t k v i dv load) t s fun m m' =>
      m'.n E.ADAPT_STATE k = 1 ∧ (m'.inpOf k).stepping = none ∧ (m'.inpOf k).discards = 0 ∧
      (m'.inpOf k).ests = ((grid (dv / d), grid (v + i * grid (dv / d))) :: (m.inpOf k).ests).take 8 ∧
      SameOd [E.ADAPT_STATE.key k, E.ADAPT_RS.key k, E.ADAPT_VOC.key k, E.ADAPT_ILIM.key k] m m') ∧
  (∀ (t k : Nat) (v i : Rat) (s : State), s.m.alive = true → k < 4 → s.m.n E.QUAL_STATE k = 5 → s.m.cb E.ADAPT_EN 0 = true →
  0 < i →
    v < s.m.vFloor k → s.m.n E.ADAPT_STATE k ≠ 1 →
    DoesM (.adaptBackoff t k v i) t s fun m m' =>
      (m'.inpOf k).ceil = grid (maxR 0 ((m.inpOf k).ceil - i / 10)) ∧
      m'.n E.ADAPT_BACKOFFS k = inc32 (m.n E.ADAPT_BACKOFFS k) ∧ SameOd [E.IN_ICEIL.key k, E.ADAPT_BACKOFFS.key k] m m')

/-! ## Input sources -/

/-- Qualification (R119, R120, R122, R123): a port in its window waits out its insertion delay, is QUALIFIED, is joined, or
goes back to WINDOW; a precharge that does not end in 250 ms fails. -/
def Obligations.QualificationEvents : Prop :=
  (∀ (t k : Nat) (v : Rat) (s : State), s.m.alive = true → k < 5 → s.m.n E.QUAL_STATE k = 1 → s.m.portUsable k = true →
    qualRuns (s.m.n E.PATH_ACT 0) = true → s.m.qualLow k ≤ v → v ≤ s.m.winHi k →
    DoesM (.qualWindowEnter t k v) t s fun m m' =>
      m'.n E.QUAL_STATE k = 2 ∧ m'.deadline (.insertion k) = some (m.tb + ms (m.n E.QUAL_DLY_EFF k)) ∧
      SameOd [E.QUAL_STATE.key k, E.DEAD_STATE.key 0, E.IN_ICEIL.key k, E.IN_CEIL_SRC.key k] m m' ∧
      SameTimers [.insertion k, .precharge k, .ride k] m m') ∧
  (∀ (t k : Nat) (v : Rat) (s : State), s.m.alive = true → k < 5 → 2 ≤ s.m.n E.QUAL_STATE k → s.m.n E.QUAL_STATE k ≤ 4 →
    (v < s.m.qualLow k ∨ s.m.winHi k < v) →
    DoesM (.qualWindowExcursion t k v) t s fun m m' =>
      m'.n E.QUAL_STATE k = 1 ∧ m'.closed k = false ∧ m'.deadline (.insertion k) = none ∧
      SameOd [E.QUAL_STATE.key k, E.DEAD_STATE.key 0, E.IN_ICEIL.key k, E.IN_CEIL_SRC.key k] m m' ∧
      SameTimers [.insertion k, .precharge k, .ride k] m m') ∧
  (∀ (t k : Nat) (s : State), s.m.alive = true → k < 4 → s.m.n E.QUAL_STATE k = 2 → (s.m.at t).due (.insertion k) = true →
    DoesM (.insertionDelayExpiry t k) t s fun m m' =>
      m'.n E.QUAL_STATE k = 3 ∧ m'.deadline (.insertion k) = none ∧
      SameOd [E.QUAL_STATE.key k, E.IN_ICEIL.key k, E.IN_CEIL_SRC.key k] m m') ∧
  (∀ (t k : Nat) (vInt vTerm : Rat) (s : State), s.m.alive = true → k < 5 → s.m.n E.QUAL_STATE k = 4 →
    ¬ (k = 4 ∧ s.m.n E.PATH_ACT 0 = 7) → absR (vInt - vTerm) ≤ absR vTerm / 50 → s.m.lockstep = false →
    (s.m.protOf k).pilotOpen = false →
    DoesM (.prechargeDone t k vInt vTerm) t s fun m m' =>
      OnlyFams (runFams ++ (logFams ++ [E.ADAPT_STATE, E.ESESS_NUM, E.ESESS_STATE, E.IN_CEIL_SRC, E.IN_ICEIL, E.MOD_FLAGS,
        E.PROF_ACT,
        E.PROF_ERR, E.PROF_RESULT, E.PROF_STATE, E.PROF_VALID, E.QUAL_PREFAIL, E.QUAL_STATE, E.DEAD_STATE, E.Q_FILL, E.Q_HIGH,
        E.Q_HWM_CNT, E.Q_MAX, E.SCAN_NPTS, E.SCAN_RESULT, E.SCAN_STATE, E.STEP_ACT, E.STEP_TIME, E.STEP_VISITS,
        E.SUSP_CAUSE])) m m' ∧
      m'.n E.QUAL_STATE k = 5 ∧ m'.closed k = true ∧ m'.n E.QUAL_PREFAIL k = 0 ∧ m'.deadline (.precharge k) = none) ∧
  (∀ (t k : Nat) (s : State), s.m.alive = true → k < 5 → s.m.n E.QUAL_STATE k = 4 → (s.m.at t).due (.precharge k) = true →
    DoesM (.prechargeTimeout t k) t s fun m m' =>
      m'.n E.QUAL_STATE k = (if 2 ≤ m.n E.QUAL_PREFAIL k then 7 else 1) ∧
      m'.n E.QUAL_PREFAIL k = min (m.n E.QUAL_PREFAIL k + 1) 3 ∧ m'.closed k = false ∧ m'.deadline (.precharge k) = none ∧
      SameOd [E.QUAL_STATE.key k, E.DEAD_STATE.key 0, E.IN_ICEIL.key k, E.IN_CEIL_SRC.key k, E.QUAL_PREFAIL.key k,
        E.QUAL_CAUSE.key k] m m')

/-- Riding and dropping (R124 to R126, R129, R145): a CONNECTED port below its edge rides for QUAL_RIDE_T, returns in that
time or drops; a collapse, an overvoltage or a reverse current drops it at once. A drop opens its switch, returns it to
WINDOW with its cause and counts. Pilots (R33): an open pilot pair opens its port's switch and ends its qualification,
without a trip; a closed one starts qualification afresh. -/
def Obligations.RideDropAndPilotEvents : Prop :=
  (∀ (t k : Nat) (v : Rat) (s : State), s.m.alive = true → k < 5 → s.m.n E.QUAL_STATE k = 5 → v < s.m.rideEdge k →
    DoesM (.rideEntry t k v) t s fun m m' =>
      OnlyFams ([E.CHG_IREF, E.IN_CEIL_SRC, E.IN_ICEIL, E.IN_PHASES, E.PH_IREF, E.PH_SLOT, E.PH_STATE, E.QUAL_STATE,
        E.STG_NACT]) m m' ∧
      m'.n E.QUAL_STATE k = 6 ∧ m'.deadline (.ride k) = some (m.tb + ticksMs (m.cq E.QUAL_RIDE_T k)) ∧
      m'.closed k = m.closed k ∧
      (k < 4 → (m'.inpOf k).ceil = 0)) ∧
  (∀ (t k : Nat) (v : Rat) (s : State), s.m.alive = true → k < 4 → s.m.n E.QUAL_STATE k = 6 → (s.m.at t).due (.ride k) = false →
    s.m.rideEdge k < v →
    DoesM (.rideReturn t k v) t s fun m m' =>
      m'.n E.QUAL_STATE k = 5 ∧ m'.closed k = m.closed k ∧ SameOd [E.QUAL_STATE.key k] m m' ∧
      SameTimers [.insertion k, .precharge k, .ride k] m m') ∧
  (∀ (t k : Nat) (s : State), s.m.alive = true → k < 5 → (s.m.n E.QUAL_STATE k = 5 ∨ s.m.n E.QUAL_STATE k = 6) →
    (s.m.at t).due (.flap k) = true →
    DoesM (.flapWExpiry t k) t s fun m m' =>
      m'.n E.QUAL_DLY_EFF k = m.n E.QUAL_DLY k ∧ Frame [E.QUAL_DLY_EFF.key k] [.flap k] m m') ∧
  (∀ (t k : Nat) (v fall i : Rat) (s : State) (c : Instr) (cause : Nat), s.m.alive = true → k < 5 →
    (s.m.n E.QUAL_STATE k = 5 ∨ s.m.n E.QUAL_STATE k = 6) →
    ((c = .rideExpiry t k v ∧ cause = 1 ∧ s.m.n E.QUAL_STATE k = 6 ∧ (s.m.at t).due (.ride k) = true ∧
        ¬ (k = 4 ∧ s.m.n E.PATH_ACT 0 = 3)) ∨
     (c = .portOvervoltage t k v ∧ cause = 2 ∧ s.m.cq E.QUAL_OV k < v) ∨
     (c = .inputCollapse t k v fall ∧ cause = 3 ∧ (100 < fall ∨ v < s.m.rideEdge k / 2)) ∨
     (c = .reverseCurrentFault t k i ∧ cause = 6 ∧ k < 4 ∧ s.m.cb E.IN_BIDIR k = false ∧ i < -2)) →
    DoesM c t s fun m m' =>
      OnlyFams (tripFams ++ (runFams ++ [E.CHG_IREF, E.DEAD_STATE, E.ESESS_STATE, E.MOD_FLAGS, E.PROF_ACT, E.PROF_RESULT,
        E.PROF_STATE, E.QUAL_DLY_EFF, E.QUAL_DROPS, E.SCAN_NPTS, E.SCAN_RESULT, E.SCAN_STATE, E.STEP_ACT, E.STEP_EXIT,
        E.STEP_TIME, E.STEP_VISITS, E.SUSP_CAUSE])) m m' ∧
      m'.n E.QUAL_STATE k = 1 ∧ m'.closed k = false ∧
      m'.n E.QUAL_DROPS k = inc32 (m.n E.QUAL_DROPS k) ∧ m'.n E.QUAL_CAUSE k = (m.setCause k cause).n E.QUAL_CAUSE k ∧
      (k < 4 → (m'.inpOf k).ceil = 0) ∧ (cause = 6 → m'.bitOf E.FLT_ACTIVE 1 5 = true) ∧ m'.deadline (.flap k) = none) ∧
  (∀ (t k : Nat) (s : State), s.m.alive = true → k < 8 → (s.m.protOf k).pilotOpen = false →
    DoesM (.pilotOpen t k) t s fun m m' =>
      OnlyFams ([E.IN_CEIL_SRC, E.IN_ICEIL, E.IN_PHASES, E.PH_IREF, E.PH_SLOT, E.PH_STATE, E.QUAL_CAUSE, E.DEAD_STATE,
        E.QUAL_STATE,
        E.CHG_IREF, E.STG_NACT]) m m'
        ∧
      (m'.protOf k).pilotOpen = true ∧ m'.closed k = false ∧ (k < 5 → m'.n E.QUAL_STATE k = 0) ∧
      m'.n E.PROT_STATE k = m.n E.PROT_STATE k ∧ m'.n E.TRIP_CNT k = m.n E.TRIP_CNT k) ∧
  (∀ (t k : Nat) (s : State), s.m.alive = true → k < 8 → (s.m.protOf k).pilotOpen = true →
    DoesM (.pilotClose t k) t s fun m m' =>
      (m'.protOf k).pilotOpen = false ∧
      (k < 5 → m'.n E.QUAL_PREFAIL k = 0 ∧
        (m.n E.QUAL_STATE k = 0 → m.b E.PORT_EN k = true → m.protOk k = true → qualRuns (m.n E.PATH_ACT 0) = true →
          m'.n E.QUAL_STATE k = 1)) ∧
      SameOd [E.QUAL_PREFAIL.key k, E.QUAL_STATE.key k, E.DEAD_STATE.key 0, E.IN_ICEIL.key k, E.IN_CEIL_SRC.key k] m m')

/-! ## Multiphase converter control -/

/-- VOLTAGE_LOOP_PERIOD (R88, R133, R158, R175): V_set moves toward its end at SYS_SLEW while its stage runs on a live bus,
the load line takes one step, V_ref follows, and both stages' demands are taken; the entries that other rules hold stay.
SWITCHING_PERIOD (R151, R155, R157, R168): the switching and bridged phases' currents are taken, at most 70 A, the others
read 0; a carrier moves by at most one count toward its assigned instant. A peak comparator counts once in a period, and
takes a bridged Stage B out of BRIDGE (R108). -/
def Obligations.EnginePeriods : Prop :=
  (∀ (t g : Nat) (x : VLoopIn) (s : State), s.m.alive = true → s.m.regStage = some g → s.m.running g = true →
    s.m.deadRamp g = false → s.m.reg.bridgeTo = none →
    DoesM (.voltageLoopPeriod t x) t s fun m m' =>
      OnlyFams ([E.CHG_IREF, E.FB_ACTIVE, E.FR_HEADS, E.INT_HIT, E.INT_NEXT_T, E.INT_PB_V, E.INT_PENDING, E.LL_DROOP_V,
        E.REGEN_RANK, E.V_REF]) m m' ∧
      let d := m.cq E.SYS_SLEW 0 * loopMs
      let goal := m.reg.goal
      let v := m.reg.vset
      m'.reg.vset = grid (if goal < v - d then v - d else if v + d < goal then v + d else goal)) ∧
  (∀ (t : Nat) (x : VLoopIn) (s : State), s.m.alive = true →
    DoesM (.voltageLoopPeriod t x) t s fun m m' =>
      (m.n E.BRIDGE_STATE 0 ≠ 2 → m.cable.run = 0 → m.intents = [] → m'.reg.demandA = x.demandA) ∧
      m'.reg.demandB = x.demandB ∧ m'.reg.iPrev = x.iSys ∧
      m'.reg.iF = grid (m.reg.iF + (x.iSys - m.reg.iF) * (if m.cq E.LL_TAU 0 ≤ dec 625 2 then 1 else dec 625 2 / m.cq E.LL_TAU 0)) ∧
      m'.n E.V_REF 0 = f32OfRat (clampR 0 1015 (m'.reg.vset + (if m.n E.SHARE_ROLE 0 = 0 then 0 else m.q E.LL_TRIM 0) + m'.q E.INT_PB_V 0 -
        (if m.n E.BRIDGE_STATE 0 = 2 then 0 else clampR (-(m.cq E.LL_MAXDEV 0 / 100 * m.cq E.SYS_VSET 0))
          (m.cq E.LL_MAXDEV 0 / 100 * m.cq E.SYS_VSET 0) (m.cq E.LL_R 0 / 1000 * m'.reg.iF)))) ∧
      SameOd (E.INT_PENDING.keys ++ (E.INT_NEXT_T.keys ++ (E.INT_PB_V.keys ++ (E.INT_HIT.keys ++ (E.LL_DROOP_V.keys ++ (E.V_REF.keys ++
        (E.FR_HEADS.keys ++ (E.REGEN_RANK.keys ++ (E.CHG_IREF.keys ++ E.FB_ACTIVE.keys))))))))) m m') ∧
  (∀ (t : Nat) (st : Stage) (x : SwIn) (s : State), s.m.alive = true →
    DoesM (.switchingPeriod t st x) t s fun m m' =>
      OnlyFams ([E.IN_PHASES, E.PH_ADDS, E.PH_I, E.PH_IREF, E.PH_MODE, E.PH_SLOT, E.PH_STATE, E.ROT_COUNT, E.STG_FASTADDS,
        E.STG_NACT, E.STG_SHED_CANCEL]) m m' ∧
      let g := Stage.idx st
      let w := m.periodTakes g
      (∀ j, j < 8 → m'.n E.PH_I (8 * g + j) = f32OfRat
        (if w.switches (8 * g + j) = true ∨ w.n E.PH_STATE (8 * g + j) = 7 then clampR (-70) 70 ((x.iPh[j]?).getD 0) else 0)) ∧
      (m.gated g = false → ¬ (g = 1 ∧ m.n E.BRIDGE_STATE 0 = 2) →
        let p := m.n E.STG_PERIOD g
        let o := (m.stgOf g).origin
        (m'.stgOf g).origin = o ∨ (m'.stgOf g).origin = (o + 1) % p ∨ (m'.stgOf g).origin = (o + p - 1) % p)) ∧
  (∀ (t p : Nat) (s : State), s.m.alive = true → p < 16 → (s.m.switches p = true ∨ s.m.n E.PH_STATE p = 7) →
    DoesM (.peakComparator t p) t s fun m m' =>
      OnlyFams (stageFams ++ [E.BRIDGE_EXIT, E.CHG_IREF, E.BRIDGE_FORCED, E.COUPLING_ACT, E.PH_ADDS, E.PH_MODE, E.PH_PEAK_CNT,
        E.ROT_COUNT, E.STG_FASTADDS, E.STG_SHED_CANCEL, E.TRANS_STATE]) m m' ∧
      m'.n E.PH_PEAK_CNT p = (if (m.phOf p).peakNow then m.n E.PH_PEAK_CNT p else inc32 (m.n E.PH_PEAK_CNT p)) ∧
      (m'.phOf p).peakNow = true ∧
      (m.n E.PH_STATE p = 7 → m.n E.BRIDGE_STATE 0 = 2 →
        m'.n E.BRIDGE_EXIT 0 = 6 ∧ m'.n E.BRIDGE_FORCED 0 = inc32 (m.n E.BRIDGE_FORCED 0) ∧ m'.n E.BRIDGE_STATE 0 = 3))

/-- Adding and shedding (R163, R165, R156): an armed phase starts and is ACTIVE after two periods; the phase that sheds is
ARMED at zero, and SHED when its hold is over; re-spacing ends. Phase faults (R171): a phase is FAULTED with its cause,
holds no slot, and its stage's block has the source. -/
def Obligations.PhaseEvents : Prop :=
  (∀ (t p : Nat) (s : State), s.m.alive = true → p < 16 → (s.m.at t).due (.arming p) = true → s.m.n E.PH_STATE p = 1 →
    s.m.gated (stageOf p) = false → s.m.excluded p = false →
    DoesM (.phaseArmingDone t p) t s fun m m' =>
      OnlyFams ([E.IN_PHASES, E.PH_ADDS, E.PH_IREF, E.PH_SLOT, E.PH_STATE, E.STG_NACT]) m m' ∧
      m'.n E.PH_STATE p = 3 ∧ m'.n E.PH_ADDS p = inc32 (m.n E.PH_ADDS p) ∧ m'.q E.PH_IREF p = 0 ∧
      m'.deadline (.arming p) = none ∧
      (m'.stgOf (stageOf p)).respLeft = m.n E.STG_RESPACE (stageOf p)) ∧
  (∀ (t p : Nat) (s : State), s.m.alive = true → p < 16 → s.m.n E.PH_STATE p = 3 → 2 ≤ (s.m.phOf p).step →
    DoesM (.phaseAddDone t p) t s fun m m' =>
      OnlyFams ([E.IN_PHASES, E.PH_IREF, E.PH_STATE, E.STG_NACT]) m m' ∧
      m'.n E.PH_STATE p = 4 ∧ (m'.phOf p).activeSince = m.tb ∧
      m'.n E.STG_NACT (stageOf p) = ((stagePhases (stageOf p)).filter (fun q => m'.n E.PH_STATE q == 4)).length) ∧
  (∀ (t k p : Nat) (st : Stage) (s : State), s.m.alive = true → k = (match st with | .a => k % 4 | .b => 4) →
    (s.m.at t).due (.shed k) = true → s.m.shedHolds k = true → s.m.anyShedding (groupStage k) = false →
    s.m.longestActive k = some p →
    DoesM (.shedTExpiry t st k) t s fun m m' =>
      m'.n E.PH_STATE p = 5 ∧ m'.deadline (.shed k) = none ∧
      SameOd (E.PH_STATE.key p :: (E.STG_NACT.keys ++ E.IN_PHASES.keys)) m m') ∧
  (∀ (t p : Nat) (s : State), s.m.alive = true → p < 16 → s.m.n E.PH_STATE p = 5 →
    s.m.n E.STG_SHED_RAMP (stageOf p) ≤ (s.m.phOf p).step →
    DoesM (.phaseShedDone t p) t s fun m m' =>
      OnlyFams ([E.IN_PHASES, E.PH_I, E.PH_IREF, E.PH_SLOT, E.PH_STATE, E.PH_TAP, E.ROT_COUNT, E.STG_NACT]) m m' ∧
      m'.n E.PH_STATE p = 2 ∧ m'.n E.PH_SLOT p = 0xFF ∧ m'.q E.PH_IREF p = 0 ∧
      m'.deadline (.armHold p) = some (m.tb + ms (m.n E.STG_ARM_HOLD (stageOf p))) ∧
      (∀ k, (m.phOf p).retap = some k → m'.n E.PH_TAP p = k)) ∧
  (∀ (t p : Nat) (s : State), s.m.alive = true → p < 16 → (s.m.at t).due (.armHold p) = true → s.m.n E.PH_STATE p = 2 →
    (s.m.phOf p).held = false → s.m.intentHolds (stageOf p) = false →
    DoesM (.armHoldExpiry t p) t s fun m m' => m'.n E.PH_STATE p = 1 ∧ Frame [E.PH_STATE.key p] [.armHold p] m m') ∧
  (∀ (t : Nat) (st : Stage) (s : State), s.m.alive = true → (s.m.stgOf (Stage.idx st)).respLeft = 1 →
    DoesM (.respacingDone t st) t s fun m m' =>
      (m'.stgOf (Stage.idx st)).respLeft = 0 ∧
      SameOd (E.PH_SLOT.keys ++ E.ROT_COUNT.keys) m m' ∧ SameTimers [] m m') ∧
  (∀ (t p cause : Nat) (s : State), s.m.alive = true → p < 16 → 1 ≤ cause → cause ≤ 3 → s.m.n E.PH_STATE p ≠ 6 →
     (cause = 1 → 8 ≤ (s.m.phOf p).peakRun) →
     DoesM (.phaseFault t p cause) t s fun m m' =>
       OnlyFams (tripFams ++ [E.PH_FAULT]) m m' ∧
       m'.n E.PH_STATE p = 6 ∧ m'.n E.PH_FAULT p = cause ∧ m'.n E.PH_SLOT p = 0xFF ∧ m'.q E.PH_IREF p = 0 ∧
       m'.deadline (.arming p) = none ∧ m'.excluded p = true ∧ m'.bitOf E.FLT_ACTIVE (1 + stageOf p) (cause - 1) = true)

/-- Soft start and soft stop (R177 to R180): the ramps begin after SST_DELAY, the start is complete at its end, a short
under the ramp opens SYS and waits one second for a retry, at most three times; a soft stop ramps the limit to zero and ends
with the gates off. The model's own choices: assumption log 81. -/
def Obligations.SoftStartAndStop : Prop :=
  (∀ (t : Nat) (st : Stage) (s : State), s.m.alive = true → s.m.n E.SST_STATE (Stage.idx st) = 1 →
    (s.m.at t).due (.sstDelay (Stage.idx st == 0)) = true → s.m.gated (Stage.idx st) = false →
    DoesM (.sstDelayExpiry t st) t s fun m m' =>
      let g := Stage.idx st
      m'.n E.SST_STATE g = 2 ∧ m'.deadline (.sstDelay (g == 0)) = none ∧
      (∀ j, j < 8 → m'.n E.PH_STATE (8 * g + j) =
        if m.n E.PH_STATE (8 * g + j) = 2 ∧ m.excluded (8 * g + j) = false ∧
        m.armed (.armHold (8 * g + j)) = false then 4 else m.n E.PH_STATE (8 * g + j)) ∧
      SameOd (E.SST_STATE.keys ++ (E.PH_STATE.keys ++ (E.PH_SLOT.keys ++ (E.STG_NACT.keys ++ E.IN_PHASES.keys)))) m m') ∧
  (∀ (t : Nat) (st : Stage) (v i : Rat) (s : State), s.m.alive = true → s.m.n E.SST_STATE (Stage.idx st) = 2 →
    s.m.gated (Stage.idx st) = false → 1 ≤ (s.m.stgOf (Stage.idx st)).lim →
    (s.m.regStage = some (Stage.idx st) → s.m.reg.vset = s.m.vsetEnd ∧ absR (v - s.m.q E.V_REF 0) ≤ s.m.q E.V_REF 0 / 50) →
    DoesM (.softStartComplete t st v i) t s fun m m' =>
      let g := Stage.idx st
      m'.n E.SST_STATE g = 3 ∧ m'.n E.SST_HICCUP g = 0 ∧ (m'.stgOf g).deadBus = false ∧
      ((m.stgOf g).deadBus = false → m'.journal = m.journal ∧ m'.n E.LOOP_CEST g = m.n E.LOOP_CEST g) ∧
      ((m.stgOf g).deadBus = true → m'.journal.length = m.journal.length + 1 ∧
      m'.n E.LOOP_CEST g = f32OfRat (cestOf i m.deadRate)) ∧
      SameOd [E.SST_STATE.key g, E.SST_HICCUP.key g, E.LOOP_CEST.key g] m m') ∧
  (∀ (t : Nat) (st : Stage) (s : State), s.m.alive = true → s.m.deadRamp (Stage.idx st) = true → 30 ≤ s.m.reg.vset →
    s.m.n E.PATH_ACT 0 ≠ 7 →
    DoesM (.softStartAbort t st) t s fun m m' =>
      OnlyFams (tripFams ++ [E.COUPLING_ACT, E.INT_NEXT_T, E.INT_PB_V, E.INT_PENDING, E.PATH_ACT, E.PATH_REASON,
        E.TRANS_STATE]) m m' ∧
      let g := Stage.idx st
      m'.closed 5 = false ∧ m'.gated g = true ∧
      (m.n E.SST_HICCUP g ≠ 3 → m'.n E.SST_STATE g = 5 ∧ m'.deadline (.hiccup (g == 0)) = some (m.tb + sec 1)) ∧
      (m.n E.SST_HICCUP g = 3 → m'.n E.SST_STATE g = 4 ∧ m'.n E.PROT_STATE 5 = 3 ∧ m'.n E.PROT_CAUSE 5 = 6)) ∧
  (∀ (t : Nat) (st : Stage) (s : State), s.m.alive = true → s.m.n E.SST_STATE (Stage.idx st) = 5 →
    (s.m.at t).due (.hiccup (Stage.idx st == 0)) = true → (s.m.stgOf (Stage.idx st)).gate = 0x20 → s.m.portUsable 5 = true →
    s.m.lockstep = false →
    DoesM (.hiccupRetry t st) t s fun m m' =>
      OnlyFams ([E.IN_PHASES, E.PH_STATE, E.PH_TAP, E.SST_HICCUP, E.SST_STATE, E.STG_NACT, E.STG_PERIOD]) m m' ∧
      let g := Stage.idx st
      m'.n E.SST_STATE g = 1 ∧ m'.n E.SST_HICCUP g = m.n E.SST_HICCUP g + 1 ∧ m'.closed 5 = true ∧ m'.gated g = false ∧
      m'.deadline (.sstDelay (g == 0)) = some (m.tb + ms (m.cn E.SST_DELAY g))) ∧
  (∀ (t : Nat) (st : Stage) (s : State), s.m.alive = true → (s.m.at t).due (.sspDelay (Stage.idx st == 0)) = true →
    DoesM (.sspDelayExpiry t st) t s fun m m' =>
      let g := Stage.idx st
      (m'.stgOf g).stopping = true ∧ (m'.stgOf g).limFrom = (m.stgOf g).lim ∧ (m'.stgOf g).stopMs = m.cq E.SSP_RAMP g ∧
      m'.deadline (.sspDelay (g == 0)) = none ∧ SameOd [] m m') ∧
  (∀ (t : Nat) (st : Stage) (s : State), s.m.alive = true → (s.m.stgOf (Stage.idx st)).stopping = true →
    (s.m.stgOf (Stage.idx st)).lim ≤ 0 → s.m.n E.SS_STATE 0 = 0 → s.m.armed .fenceRamp = false →
    DoesM (.softStopDone t st) t s fun m m' =>
      OnlyFams (stageFams ++ [E.SST_HICCUP]) m m' ∧
      let g := Stage.idx st
      m'.gated g = true ∧ m'.n E.SST_STATE g = 0 ∧ (m'.stgOf g).stopping = false ∧
      (∀ j, j < 8 → m'.switches (8 * g + j) = false))

/-- Remote sense (R185): a good pair that opens or reverses falls back, counts and raises its source; a consistent reading
makes it good again. Intents (R187 to R192): an allocated intent that passes the checks is pending; it arms and pre-biases
in their times, and is withdrawn when its window has passed; an ALLOC without an entry of the module's own changes nothing.
The model's own choices: assumption logs 26, 49 and 53. -/
def Obligations.SenseAndIntentEvents : Prop :=
  (∀ (t : Nat) (pr : Pair) (s : State) (c : Instr) (st : Nat), s.m.alive = true → s.m.n E.SNS_STATE (Pair.idx pr) = 1 →
    ((c = .senseOpen t pr ∧ st = 2) ∨ (c = .senseReversed t pr ∧ st = 3)) →
    DoesM c t s fun m m' =>
      OnlyFams (tripFams ++ [E.SNS_OPEN_CNT, E.SNS_STATE]) m m' ∧
      m'.n E.SNS_STATE (Pair.idx pr) = st ∧ m'.n E.SNS_OPEN_CNT (Pair.idx pr) = inc32 (m.n E.SNS_OPEN_CNT (Pair.idx pr)) ∧
      m'.bitOf E.FLT_ACTIVE 5 4 = true) ∧
  (∀ (t : Nat) (pr : Pair) (s : State), s.m.alive = true →
    (s.m.n E.SNS_STATE (Pair.idx pr) = 2 ∨ s.m.n E.SNS_STATE (Pair.idx pr) = 3) → s.m.b E.SNS_EN (Pair.idx pr) = true →
    DoesM (.senseRestore t pr) t s fun m m' =>
      m'.n E.SNS_STATE (Pair.idx pr) = 1 ∧ SameOd [E.SNS_STATE.key (Pair.idx pr), E.FLT_ACTIVE.key 5] m m') ∧
  (∀ (t : Nat) (a : AllocMsg) (idx : Nat) (d : Int) (s : State), s.m.alive = true → s.m.ntimeOk = true →
  s.m.n E.SHARE_ROLE 0 = 1 →
    a.seg = s.m.n E.SEG_ID 0 → s.m.n E.SHARE_IDX 0 = idx → a.entries.find? (fun e => e.1 == idx) = some (idx, d) →
    s.m.cb E.INT_EN 0 = true →
    s.m.cn E.INT_CMIN 0 ≤ a.conf → s.m.intentPath = true →
    a.tArr ≤ (s.m.at t).ntime + ticksMs (s.m.cq E.INT_HORIZON 0) → (s.m.at t).ntime < a.tArr + ticksUs (s.m.cq E.INT_WIN 0) →
    (s.m.intents.filter (fun j => j.phase == 0)).length < 8 →
    DoesM (.intentRx t a) t s fun m m' =>
      OnlyFams ([E.INT_DROPPED, E.INT_FAR, E.INT_IGNORED, E.INT_LATE, E.INT_NEXT_T, E.INT_PB_V, E.INT_PENDING, E.INT_RX,
        E.IN_PHASES, E.PH_IREF, E.PH_STATE, E.STG_NACT, E.STG_SHED_CANCEL]) m m' ∧
      m'.n E.INT_RX 0 = inc32 (m.n E.INT_RX 0) ∧
      m'.intents.any (fun j => j.orig == a.orig && j.num == a.num && j.dpm == 10 * d && j.tArr == a.tArr &&
      j.conf == a.conf && j.phase == 0) = true ∧
      m'.n E.INT_PENDING 0 = (m'.intents.filter (fun j => j.phase == 0)).length) ∧
  (∀ (t : Nat) (a : AllocMsg) (s : State), s.m.alive = true →
    (s.m.n E.SHARE_ROLE 0 ≠ 1 ∨ a.seg ≠ s.m.n E.SEG_ID 0 ∨ a.entries.all (fun e => e.1 != s.m.n E.SHARE_IDX 0) = true) →
    DoesM (.intentRx t a) t s fun m m' => m'.intents = m.intents ∧ Frame [] [] m m') ∧
  (∀ (t orig num : Nat) (i : Intent) (s : State), s.m.alive = true → s.m.pendingIntent orig num = some i → i.armed = false →
    i.tArr ≤ (s.m.at t).ntime + ticksUs (s.m.cq E.INT_T_ARM 0) →
    DoesM (.intentArm t orig num) t s fun m m' =>
      OnlyFams ([E.IN_PHASES, E.PH_ADDS, E.PH_IREF, E.PH_SLOT, E.PH_STATE, E.ROT_COUNT, E.STG_NACT]) m m' ∧
      m'.intents = m.intents.map (fun j => if j.orig = orig ∧ j.num = num ∧ j.phase = 0 then
        { j with armed := true, iSysArm := m.reg.iPrev } else j)) ∧
  (∀ (t orig num : Nat) (i : Intent) (s : State), s.m.alive = true → s.m.pendingIntent orig num = some i → i.pre = false →
    i.tArr ≤ (s.m.at t).ntime + ticksUs (s.m.cq E.INT_T_PB 0) →
    DoesM (.prebiasStart t orig num) t s fun m m' =>
      m'.intents.any (fun j => j.orig == orig && j.num == num && j.phase == 0 && !j.pre) = false ∧
      SameOd [E.INT_PENDING.key 0, E.INT_NEXT_T.key 0, E.INT_PB_V.key 0] m m') ∧
  (∀ (t orig num : Nat) (i : Intent) (s : State), s.m.alive = true → s.m.pendingIntent orig num = some i →
    i.tArr + ticksUs (s.m.cq E.INT_WIN 0) < (s.m.at t).ntime →
    DoesM (.intentWithdraw t orig num) t s fun m m' =>
      m'.n E.INT_MISSED 0 = inc32 (m.n E.INT_MISSED 0) ∧ m'.pendingIntent orig num = none ∧
      SameOd [E.INT_MISSED.key 0, E.INT_PENDING.key 0, E.INT_NEXT_T.key 0, E.INT_PB_V.key 0] m m') ∧
  (∀ (t : Nat) (s : State), s.m.alive = true → (s.m.at t).due .fr = true →
    DoesM (.frTExpiry t) t s fun m m' => m'.deadline .fr = none ∧ Frame [] [.fr] m m')

/-! ## Charging the battery -/

/-- PROF_CMD (R213): an accepted command waits for the mode-tick boundary, answered ACCEPTED; there START and RESTART enter
PROF_FIRST with the accounts cleared, STOP ends the profile ABORTED, and SKIP leaves the step with code 5 for its NEXT. -/
def Obligations.ProfileCommands : Prop :=
  (∀ (t k : Nat) (r : Req) (c : Instr) (v : Val) (s : State), s.m.alive = true →
    ((k = 1 ∧ c = .profStart t (.accept r)) ∨ (k = 2 ∧ c = .profStop t (.accept r)) ∨
     (k = 3 ∧ c = .profRestart t (.accept r)) ∨ (k = 4 ∧ c = .profSkip t (.accept r))) →
    Takes (s.m.at t, s.srv) r E.PROF_CMD 0 v → leNat r.data = k →
    DoesS c t s fun x y =>
      y.1.prof.cmds = x.1.prof.cmds ++ [k] ∧ Recorded y x r 1 ∧ SameOd serviceKeys x.1 y.1) ∧
  (∀ (t k n : Nat) (c : Instr) (cs : List Nat) (s : State), s.m.alive = true → s.m.prof.cmds = k :: cs →
    ((k = 1 ∧ c = .profStart t .boundary ∧ n = s.m.n E.PROF_SEL 0 ∧ (s.m.n E.PROF_STATE 0 = 0 ∨ s.m.n E.PROF_STATE 0 = 3)) ∨
     (k = 3 ∧ c = .profRestart t .boundary ∧ n = s.m.n E.PROF_ACT 0 ∧ (s.m.n E.PROF_STATE 0 = 1 ∨ s.m.n E.PROF_STATE 0 = 2))) →
    n < 16 → s.m.profileError n = 0 → s.m.n E.PROF_FIRST n < 16 → 1 ≤ s.m.n E.PROF_MAXVISITS n →
    DoesS c t s fun x y =>
      OnlyFams (runFams ++ (logFams ++ [E.ESESS_NUM, E.ESESS_STATE, E.MOD_FLAGS, E.PROF_ACT, E.PROF_ERR, E.PROF_RESULT,
        E.PROF_SEL, E.PROF_STATE, E.PROF_VALID, E.Q_FILL, E.Q_HIGH, E.Q_HWM_CNT, E.Q_MAX, E.SCAN_NPTS, E.SCAN_RESULT,
        E.SCAN_STATE, E.STEP_ACT, E.STEP_EXIT, E.STEP_TIME, E.STEP_VISITS, E.SUSP_CAUSE])) x.1 y.1 ∧
      y.1.prof.cmds = cs ∧ y.1.n E.PROF_ACT 0 = n ∧ y.1.n E.PROF_STATE 0 = 1 ∧ y.1.b E.PROF_VALID n = true ∧
      y.1.n E.STEP_ACT 0 = x.1.n E.PROF_FIRST n ∧ y.1.n E.STEP_VISITS 0 = 1 ∧ y.1.n E.STEP_TIME 0 = 0 ∧
      (∀ j, j < 16 → y.1.n E.RUN_ENTRIES j = if j = x.1.n E.PROF_FIRST n then 1 else 0) ∧ y.2 = x.2) ∧
  (∀ (t : Nat) (cs : List Nat) (s : State), s.m.alive = true → s.m.prof.cmds = 2 :: cs →
    (s.m.n E.PROF_STATE 0 = 1 ∨ s.m.n E.PROF_STATE 0 = 2) →
    DoesS (.profStop t .boundary) t s fun x y =>
      OnlyFams (runFams ++ (logFams ++ [E.ESESS_NUM, E.ESESS_STATE, E.MOD_FLAGS, E.PROF_ACT, E.PROF_ERR, E.PROF_RESULT,
        E.PROF_SEL, E.PROF_STATE, E.PROF_VALID, E.Q_FILL, E.Q_HIGH, E.Q_HWM_CNT, E.Q_MAX, E.SCAN_NPTS, E.SCAN_RESULT,
        E.SCAN_STATE, E.STEP_ACT, E.STEP_EXIT, E.STEP_TIME, E.STEP_VISITS, E.SUSP_CAUSE])) x.1 y.1 ∧
      y.1.prof.cmds = cs ∧ y.1.n E.PROF_STATE 0 = 3 ∧ y.1.n E.PROF_RESULT 0 = 2 ∧ y.1.n E.STEP_ACT 0 = 0xFF ∧
      y.1.n E.SUSP_CAUSE 0 = 0 ∧ y.1.n E.STEP_EXIT 0 = x.1.n E.STEP_EXIT 0 ∧ y.2 = x.2) ∧
  (∀ (t : Nat) (cs : List Nat) (s : State), s.m.alive = true → s.m.prof.cmds = 4 :: cs → s.m.n E.PROF_STATE 0 = 1 →
    s.m.n E.STEP_ACT 0 < 16 →
    DoesS (.profSkip t .boundary) t s fun x y =>
      OnlyFams (runFams ++ (logFams ++ [E.ESESS_NUM, E.ESESS_STATE, E.MOD_FLAGS, E.PROF_ACT, E.PROF_ERR, E.PROF_RESULT,
        E.PROF_SEL, E.PROF_STATE, E.PROF_VALID, E.Q_FILL, E.Q_HIGH, E.Q_HWM_CNT, E.Q_MAX, E.SCAN_NPTS, E.SCAN_RESULT,
        E.SCAN_STATE, E.STEP_ACT, E.STEP_EXIT, E.STEP_TIME, E.STEP_VISITS, E.SUSP_CAUSE])) x.1 y.1 ∧
      y.1.prof.cmds = cs ∧ y.1.n E.STEP_EXIT 0 = 5 ∧ GoneTo (x.1.n E.NEXT x.1.stepIdx) x.1 y.1 ∧ y.2 = x.2)

/-- Steps (R203, R210, R211, R218): an exit that stands is taken to its target, T_MAX and a failed request end the profile,
and a PULSE step changes its level. The model's own choices: assumption log 46. -/
def Obligations.ProfileStepEvents : Prop :=
  (∀ (t e : Nat) (s : State), s.m.alive = true → s.m.regulating = true → s.m.suspendCause = 0 → s.m.exitStands = some e →
    s.m.recovering = false → s.m.n E.STEP_ACT 0 < 16 →
    DoesM (.stepExit t e) t s fun m m' =>
      OnlyFams (runFams ++ (logFams ++ [E.DEAD_STATE, E.ESESS_NUM, E.ESESS_STATE, E.IN_CEIL_SRC, E.IN_ICEIL, E.MOD_FLAGS,
        E.PROF_ACT,
        E.PROF_ERR, E.PROF_RESULT, E.PROF_SEL, E.PROF_STATE, E.PROF_VALID, E.QUAL_STATE, E.Q_FILL, E.Q_HIGH, E.Q_HWM_CNT,
        E.Q_MAX, E.SCAN_NPTS, E.SCAN_RESULT, E.SCAN_STATE, E.STEP_ACT, E.STEP_EXIT, E.STEP_TIME, E.STEP_VISITS,
        E.SUSP_CAUSE])) m m' ∧ m'.n E.STEP_EXIT 0 = e ∧ GoneTo (m.exitTarget m.stepIdx e) m m') ∧
  (∀ (t : Nat) (s : State), s.m.alive = true → s.m.regulating = true → s.m.suspendCause = 0 → s.m.exitStands = none →
    s.m.recovering = false → s.m.n E.STEP_ACT 0 < 16 → 0 < s.m.q E.T_MAX s.m.stepIdx →
    s.m.q E.T_MAX s.m.stepIdx ≤ mkRat s.m.prof.ticks 10000 →
    DoesM (.stepTimeout t) t s fun m m' =>
      OnlyFams (runFams ++ (logFams ++ [E.DEAD_STATE, E.ESESS_STATE, E.IN_CEIL_SRC, E.IN_ICEIL, E.MOD_FLAGS, E.PROF_RESULT,
        E.PROF_STATE,
        E.QUAL_STATE, E.SCAN_NPTS, E.SCAN_RESULT, E.SCAN_STATE, E.STEP_ACT, E.STEP_EXIT, E.SUSP_CAUSE])) m m' ∧
      m'.n E.STEP_EXIT 0 = 4 ∧ m'.n E.RUN_EXIT (m.n E.STEP_ACT 0) = 4 ∧
      m'.n E.RUN_V_END (m.n E.STEP_ACT 0) = f32OfRat (clampR 0 1000 m.vBat) ∧ m'.n E.PROF_STATE 0 = 3 ∧
      m'.n E.PROF_RESULT 0 = 3 ∧
      m'.n E.STEP_ACT 0 = 0xFF) ∧
  (∀ (t index sub status : Nat) (s : State), s.m.alive = true → s.m.stepRunning = true → 2 ≤ status →
    DoesM (.stepRequestFail t index sub status) t s fun m m' =>
      OnlyFams (runFams ++ (logFams ++ [E.ESESS_STATE, E.MOD_FLAGS, E.PROF_RESULT, E.PROF_STATE, E.SCAN_NPTS,
        E.SCAN_RESULT, E.SCAN_STATE, E.STEP_ACT, E.STEP_EXIT, E.SUSP_CAUSE])) m m' ∧
      m'.n E.PROF_STATE 0 = 3 ∧ m'.n E.PROF_RESULT 0 = 7 ∧ m'.n E.STEP_ACT 0 = 0xFF ∧ m'.n E.STEP_EXIT 0 = m.n E.STEP_EXIT 0) ∧
  (∀ (t : Nat) (s : State), s.m.alive = true → s.m.regulating = true → s.m.n E.KIND s.m.stepIdx = 6 →
    (if s.m.prof.pulseLow = true then s.m.q E.SP_T2 s.m.stepIdx else s.m.q E.SP_T s.m.stepIdx) ≤
      mkRat ((s.m.prof.ticks - s.m.prof.pulseFrom : Nat) : Int) 10000 →
    DoesM (.pulseLevelChange t) t s fun m m' =>
      m'.prof = { m.prof with pulseLow := !m.prof.pulseLow, pulseFrom := m.prof.ticks,
                              pulses := if m.prof.pulseLow then m.prof.pulses else m.prof.pulses + 1,
                              iRef := m'.prof.iRef, vRef := m'.prof.vRef, clampI := m'.prof.clampI,
                              clampV := m'.prof.clampV } ∧
      (0 < m.prof.ticks → (lowestTerm m'.currentTerms).all (fun x =>
        x.1 != 0 || m'.n E.CHG_ILIM_EFF 0 == f32OfRat (clampR 0 200 x.2)) = true) ∧
      SameOd [E.CHG_ILIM_EFF.key 0, E.CHG_VCEIL_EFF.key 0, E.CLAMP_SRC.key 0] m m')

/-- Battery management (R223, R228): the limits age by BMS_STALE_T and BMS_GRACE_T; a wake attempt that fails is sent again
10 s later until BMS_WAKE_TRIES of them have failed. The impedance scan (R233, R235) and the lifetime counters (R239): a
scan runs or is aborted by its clamp, an invalid point is repeated once, every other point is kept, and the counters go into
one journal record. -/
def Obligations.BatteryAndScanEvents : Prop :=
  (∀ (t : Nat) (s : State), s.m.alive = true → s.m.n E.BMS_SRC 0 ≠ 0 → s.m.bms.written = true → s.m.n E.BMS_FRESH 0 = 0 →
    ms (s.m.n E.BMS_STALE_T 0) < (s.m.at t).bmsAge →
    (s.m.at t).bmsAge ≤ ms (s.m.n E.BMS_STALE_T 0 + s.m.n E.BMS_GRACE_T 0) →
    DoesM (.bmsAging t) t s fun m m' =>
      m'.n E.BMS_FRESH 0 = 1 ∧ m'.n E.BMS_AGE 0 = f32OfRat (mkRat m.bmsAge 100000) ∧
      Frame [E.BMS_FRESH.key 0, E.BMS_AGE.key 0] [] m m') ∧
  (∀ (t : Nat) (s : State), s.m.alive = true → s.m.n E.BMS_SRC 0 ≠ 0 → s.m.bms.written = true → s.m.n E.BMS_FRESH 0 ≤ 1 →
    ms (s.m.n E.BMS_STALE_T 0 + s.m.n E.BMS_GRACE_T 0) < (s.m.at t).bmsAge →
    DoesM (.bmsStale t) t s fun m m' =>
      m'.n E.BMS_FRESH 0 = 2 ∧ m'.n E.BMS_STALE_CNT 0 = inc32 (m.n E.BMS_STALE_CNT 0) ∧ bit m'.alert 5 = true ∧
      SameOd (E.BMS_FRESH.keys ++ (E.BMS_STALE_CNT.keys ++ E.BMS_AGE.keys)) m m' ∧ SameTimers [] m m') ∧
  (∀ (t : Nat) (s : State), s.m.alive = true → s.m.bms.wake = true → s.m.bms.waiting = false → (s.m.at t).due .bmsWake = true →
    DoesM (.bmsWakeAttemptFail t) t s fun m m' =>
      m'.bms.tries = m.bms.tries + 1 ∧
      (m.n E.BMS_WAKE_TRIES 0 ≤ m.bms.tries + 1 → m'.bms.wake = false ∧ m'.deadline .bmsWake = none) ∧
      (m.bms.tries + 1 < m.n E.BMS_WAKE_TRIES 0 →
        m'.bms.wake = true ∧ m'.bms.waiting = true ∧ m'.deadline .bmsWake = some (m.tb + sec 10) ∧ SameOd [] m m')) ∧
  (∀ (t : Nat) (s : State), s.m.alive = true → s.m.bms.wake = true → s.m.bms.waiting = true → (s.m.at t).due .bmsWake = true →
    DoesM (.bmsWakeResend t) t s fun m m' =>
      m'.bms.waiting = false ∧ m'.deadline .bmsWake = some (m.tb + ms (m.n E.BMS_WAKE_T 0)) ∧
      ((m.n E.BMS_SRC 0 = 1 ∨ m.n E.BMS_SRC 0 = 2) →
        m'.out = List.replicate 3 (.twoWire (m.n E.BMS_SRC 0) (m.n E.B2W_TARGET (m.n E.BMS_SRC 0 - 1)) []) ++
          [.twoWire (m.n E.BMS_SRC 0) (m.n E.B2W_TARGET (m.n E.BMS_SRC 0 - 1)) m.flagsWord] ∧ SameOd [] m m')) ∧
  (∀ (t : Nat) (s : State), s.m.alive = true → s.m.scan.req = true → s.m.regulating = true → s.m.n E.KIND s.m.stepIdx = 10 →
    DoesM (.scanStart t) t s fun m m' =>
      OnlyFams ([E.MOD_FLAGS, E.SCAN_NPTS, E.SCAN_RESULT, E.SCAN_STATE, E.SCAN_T]) m m' ∧
      m'.n E.SCAN_T 0 = m.tb ∧ m'.n E.SCAN_NPTS 0 = 0 ∧ m'.scan.req = false ∧ m'.scan.pts = [] ∧
      m'.n E.SCAN_STATE 0 = (if m.chargeClamp.1 < m.scanAmp then 3 else 1)) ∧
  (∀ (t : Nat) (x : ScanPoint) (s : State), s.m.alive = true → s.m.n E.SCAN_STATE 0 = 1 → s.m.scan.retried = false →
    s.m.scan.from_ + s.m.scanSpan ≤ (s.m.at t).tb →
    (s.m.scan.disturbed = true ∨ s.m.scan.amp / 20 < absR x.shift) →
    DoesM (.scanPointDone t x) t s fun m m' =>
      m'.scan.retried = true ∧ m'.scan.pts = m.scan.pts ∧ Frame [] [] { m with scan := m'.scan } m') ∧
  (∀ (t : Nat) (x : ScanPoint) (s : State), s.m.alive = true → s.m.n E.SCAN_STATE 0 = 1 →
    s.m.scan.from_ + s.m.scanSpan ≤ (s.m.at t).tb → s.m.scan.disturbed = false → absR x.shift ≤ s.m.scan.amp / 20 →
    DoesM (.scanPointDone t x) t s fun m m' =>
      OnlyFams ([E.MOD_FLAGS, E.SCAN_NPTS, E.SCAN_RESULT, E.SCAN_STATE]) m m' ∧
      m'.scan.pts = m.scan.pts ++ [m.scanResult x false] ∧
      m'.n E.SCAN_NPTS 0 = m.scan.pts.length + 1 ∧ m'.n E.SCAN_STATE 0 = (if m.scanCount ≤ m.scan.k + 1 then 2 else 1)) ∧
  (∀ (t : Nat) (s : State), s.m.alive = true → (s.m.at t).due .lifetime = true →
    DoesM (.lifetimeCommit t) t s fun m m' =>
      m'.deadline .lifetime = some (m.tb + sec 3600) ∧ m'.journal.length = m.journal.length + 1 ∧
      (∀ k, k < 8 → m'.journal.any (fun j => j.writes.contains (E.E_POS.key k, m.getV E.E_POS k) &&
        j.writes.contains (E.E_NEG.key k, m.getV E.E_NEG k)) = true) ∧ SameOd [] m m')

/-! ## Many modules as one -/

/-- Sharing (R251 to R254, R256, R270): the lantern keeps a member's report, and a member one of its group that passes it
(assumption log 98); a member takes its lantern's trim at its own generation, and one of a newer generation fences it;
without a trim for TRIM_HOLD it lets LL_TRIM go; the member reports, and the lantern's trim follows the group's mean
voltages. The model's own choices: assumption log 75. -/
def Obligations.SharingEvents : Prop :=
  (∀ (t : Nat) (h : Hdr) (x : ShareRpt) (s : State), s.m.alive = true → s.m.leads = true → s.m.addressed h = true →
    Passes (s.m.at t) h 0x30 none →
    DoesM (.shareRptRx t h x) t s fun m m' =>
      m'.net.rpts.head? = some ({ x with stn := h.src % 128, gen := h.gen }, m.tb) ∧
      m'.n E.CLS_RX h.cls = inc32 (m.n E.CLS_RX h.cls) ∧ SameOd frameKeys m m') ∧
  (∀ (t : Nat) (h : Hdr) (x : ShareRpt) (s : State), s.m.alive = true → (s.m.leads = false ∨ s.m.addressed h = false) →
    s.m.n E.SHARE_ROLE 0 = 1 → x.seg = s.m.n E.SEG_ID 0 → s.m.soundFrame h.via h = true → s.m.keys.own.isSome = true →
    h.typ = 0x30 →
    s.m.n E.LINK_ROLE h.via = 1 → s.m.n E.LINK_STATE h.via = 3 →
    DoesM (.shareRptRx t h x) t s fun m m' =>
      m'.net.rpts.head? = some ({ x with stn := h.src % 128, gen := h.gen }, m.tb) ∧
      Frame [] [] { m with net := { m.net with rpts := m'.net.rpts } } m') ∧
  (∀ (t : Nat) (h : Hdr) (x : Trim) (s : State), s.m.alive = true → Passes (s.m.at t) h 0x31 none → s.m.fromLantern h = true →
    s.m.n E.SHARE_ROLE 0 = 1 → x.seg = s.m.n E.SEG_ID 0 → (x.gens[s.m.n E.SHARE_IDX 0]?).getD 0 = s.m.n E.SHARE_GEN 0 →
    DoesM (.trimRx t h x) t s fun m m' =>
      OnlyFams (tripFams ++ [E.CLS_DROP, E.CLS_RX, E.FR_SELF, E.LINK_FCS_ERR, E.LINK_YIELDS, E.NET_AUTH_FAIL,
        E.NET_BAD_HDR, E.NET_EXP_DROP, E.NET_GEN_STALE, E.NET_LGEN_OLD, E.NET_REPLAY, E.SHARE_FLAGS]) m m' ∧
      m'.net.trimNext = some x.trim ∧ m'.net.eligible = x.eligible ∧ m'.bitOf E.SHARE_FLAGS 0 1 = false ∧
      m'.deadline .trimHold = some (m.tb + ms (m.n E.TRIM_HOLD 0)) ∧ m'.net.fenceNext = m.net.fenceNext) ∧
  (∀ (t g : Nat) (h : Hdr) (x : Trim) (s : State), s.m.alive = true → Passes (s.m.at t) h 0x31 none → s.m.fromLantern h = true →
    s.m.n E.SHARE_ROLE 0 = 1 → x.seg = s.m.n E.SEG_ID 0 → (x.gens[s.m.n E.SHARE_IDX 0]?).getD 0 = g → g ≠ 0 →
    newer g (s.m.n E.SHARE_GEN 0) = true → s.m.net.fenceNext = none →
    DoesM (.trimRx t h x) t s fun m m' =>
      OnlyFams (tripFams ++ [E.CLS_DROP, E.CLS_RX, E.FR_SELF, E.LINK_FCS_ERR, E.LINK_YIELDS, E.NET_AUTH_FAIL,
        E.NET_BAD_HDR, E.NET_EXP_DROP, E.NET_GEN_STALE, E.NET_LGEN_OLD, E.NET_REPLAY, E.SHARE_FLAGS]) m m' ∧
      m'.net.fenceNext = some (1, g) ∧ m'.net.trimNext = m.net.trimNext) ∧
  (∀ (t : Nat) (s : State), s.m.alive = true → (s.m.at t).due .trimHold = true →
    DoesM (.trimHoldExpiry t) t s fun m m' =>
      m'.bitOf E.SHARE_FLAGS 0 1 = true ∧ m'.deadline .trimHold = none ∧ Frame [E.SHARE_FLAGS.key 0] [.trimHold] m m') ∧
  (∀ (t : Nat) (s : State), s.m.alive = true → s.m.leads = false → s.m.n E.SHARE_ROLE 0 = 1 → s.m.n E.LANT_ADDR 0 ≠ 0xFFFF →
    (s.m.upLinks 1).isEmpty = false → s.m.canReach 0x30 (s.m.n E.LANT_ADDR 0) = true →
    DoesM (.secondaryControlTick t) t s fun m m' =>
      Sent m m' 3 0x30 (m.n E.LANT_ADDR 0) (ShareRpt_bytes m.shareReport) ∧ SameOd frameKeys m m') ∧
  (∀ (t seg : Nat) (t0 : Rat) (s : State), s.m.alive = true → s.m.leads = true → s.m.n E.SHARE_ROLE 0 = 0 →
  s.m.ringSegs = [seg] →
    s.m.b E.TRIM_EN 0 = true → (s.m.at t).segConflict seg = false → s.m.groupTrim seg = some t0 →
    ((s.m.at t).groupReports seg).any (·.switching) = true →
    DoesM (.secondaryControlTick t) t s fun m m' =>
      OnlyFams (serveFams ++ (logFams ++ [E.EXP_DEFER, E.FR_SELF, E.SHARE_FLAGS])) m m' ∧
      let rep := (m.groupReports seg).filter (·.switching)
      let vset := (rep.map (·.sysVset)).sum / rep.length
      let e := vset - (rep.map (·.vSys)).sum / rep.length
      let top := m.q E.TRIM_MAX 0 / 100 * vset
      let v := clampR (t0 - m.q E.TRIM_SLEW 0) (t0 + m.q E.TRIM_SLEW 0) (t0 + m.q E.TRIM_KI 0 * e / 1000)
      m'.groupTrim seg = some (if 0 < e ∧ rep.all (·.atLimit) = true then t0 else grid (clampR (-top) top v)))

/-- Allocation and takeover (R259, R260, R266, R267): the lantern divides an announced step or discards it; DARK_N misses
make a station and its role dark; a MOORING spare notes an offer, which lapses after 3 beacon cycles. R270: at the end of
its ramp a FENCED module has its gates off, its trim at zero and no phase switching. -/
def Obligations.AllocationTakeoverAndFencing : Prop :=
  (∀ (t : Nat) (h : Hdr) (x : IntentMsg) (s : State), s.m.alive = true → Passes (s.m.at t) h 0x10 none → s.m.leads = true →
    x.seg ≠ 0 → (s.m.leadGroup x.seg).isEmpty = false → x.tArr ≤ (s.m.at t).ntime + ticksMs (s.m.q E.INT_HORIZON 0) →
    (s.m.at t).ntime < x.tArr + ticksUs (s.m.q E.INT_WIN 0) →
    DoesM (.intentAllocate t h x) t s fun m m' =>
      OnlyFams (tripFams ++ [E.ALLOC_CNT, E.ALLOC_DROP, E.ALLOC_SHORT, E.CLS_DROP, E.CLS_RX, E.INT_DROPPED, E.INT_FAR,
        E.INT_IGNORED, E.INT_LATE, E.INT_NEXT_T, E.INT_PB_V, E.INT_PENDING, E.INT_RX, E.LINK_FCS_ERR, E.LINK_YIELDS,
        E.NET_AUTH_FAIL, E.NET_BAD_HDR, E.NET_EXP_DROP, E.NET_GEN_STALE, E.NET_LGEN_OLD, E.NET_REPLAY, E.STG_SHED_CANCEL])
        m m' ∧
      let rooms := m.allocRooms x.seg x.dp
      let got := (waterFill (rooms.length + 1) (minR (absR x.dp) ((rooms.map (·.2)).sum))
        (rooms.map (fun r => (r.1, (1 : Rat), r.2)))).filter (fun a => decide (0 < a.2))
      m'.n E.ALLOC_CNT 0 = inc32 (m.n E.ALLOC_CNT 0) ∧ m'.n E.ALLOC_SHORT 0 = f32OfRat (absR x.dp - (got.map (·.2)).sum) ∧
      m'.n E.ALLOC_DROP 0 = m.n E.ALLOC_DROP 0) ∧
  (∀ (t : Nat) (h : Hdr) (x : IntentMsg) (s : State), s.m.alive = true → Passes (s.m.at t) h 0x10 none → s.m.leads = true →
    x.seg ≠ 0 → ((s.m.leadGroup x.seg).isEmpty = true ∨ (s.m.at t).ntime + ticksMs (s.m.q E.INT_HORIZON 0) < x.tArr) →
    DoesM (.intentAllocate t h x) t s fun m m' =>
      m'.n E.ALLOC_DROP 0 = inc32 (m.n E.ALLOC_DROP 0) ∧ SameOd (E.ALLOC_DROP.keys ++ frameKeys) m m') ∧
  (∀ (t n : Nat) (x : Stn) (s : State), s.m.alive = true → s.m.leads = true → s.m.stnOf n = some x → x.dark = false →
    s.m.n E.DARK_N 0 ≤ x.misses → s.m.net.offer = none →
    DoesM (.darkDeclare t n) t s fun m m' =>
      m'.stnOf n = some { x with dark := true } ∧ m'.n E.DARK_CNT 0 = inc32 (m.n E.DARK_CNT 0) ∧
      (m.heldBy n).all (fun r => r.gen == 0 || m'.leadRole r.seg r.idx == some { r with state := 1 }) = true ∧
      SameOd [E.DARK_CNT.key 0] m m') ∧
  (∀ (t : Nat) (h : Hdr) (x : TakeMsg) (s : State), s.m.alive = true → Passes (s.m.at t) h 0x32 none →
  s.m.fromLantern h = true →
    s.m.numbered = true → x.target = s.m.net.stn → s.m.mooring = true → s.m.mayTake = true → x.seg = s.m.n E.SEG_ID 0 →
    DoesM (.takeRx t h x) t s fun m m' => m'.net.takeFor = some x ∧ SameOd frameKeys m m') ∧
  (∀ (t : Nat) (o : Offer) (r : RoleRec) (s : State), s.m.alive = true → s.m.net.offer = some o →
  o.since + 30000 ≤ (s.m.at t).tb →
    s.m.leadRole o.seg o.idx = some r → r.gen ≠ 0 →
    DoesM (.takeOfferLapse t) t s fun m m' =>
      m'.net.offer = none ∧ m'.leadRole o.seg o.idx = some { r with state := 1 } ∧ SameOd [] m m') ∧
  (∀ (t : Nat) (s : State), s.m.alive = true → s.m.fenced = true → (s.m.at t).due .fenceRamp = true →
     DoesM (.fenceRampDone t) t s fun m m' =>
       OnlyFams (stageFams ++ [E.DEAD_STATE, E.IN_CEIL_SRC, E.IN_ICEIL, E.LL_TRIM, E.QUAL_STATE, E.SST_HICCUP]) m m' ∧
       m'.deadline .fenceRamp = none ∧ m'.gated 0 = true ∧ m'.gated 1 = true ∧ m'.n E.LL_TRIM 0 = 0 ∧
       (∀ p, p < 16 → m'.switches p = false))

/-- Entries of the ring's lantern (R262, R263, R272, R356, R511): a ring command is held, a dark role is deleted, a fenced
module asks for admission anew, a handover is offered at the next generation, and a wake pulse leaves. -/
def Obligations.RingRequests : Prop :=
  (∀ (t : Nat) (r : Req) (v : Val) (s : State), s.m.alive = true → Takes (s.m.at t, s.srv) r E.RING_ENV 0 v →
    DoesS (.ringEnvWrite t r) t s fun x y =>
      x.1.leads = true ∧ y.1.getV E.RING_ENV 0 = v ∧ Recorded y x r 0 ∧ SameOd (E.RING_ENV.keys ++ serviceKeys) x.1 y.1) ∧
  (∀ (t : Nat) (r : Req) (v : Val) (s : State), s.m.alive = true → Takes (s.m.at t, s.srv) r E.ROLE_DROP 0 v →
    DoesS (.roleDrop t r) t s fun x y =>
      Recorded y x r 0 ∧ (x.1.leads = true → y.1.leadRole (dropPlace v.toNat).1 (dropPlace v.toNat).2 = none) ∧
      SameOd serviceKeys x.1 y.1) ∧
  (∀ (t : Nat) (r : Req) (v : Val) (s : State), s.m.alive = true → Takes (s.m.at t, s.srv) r E.SHARE_READMIT 0 v →
    DoesS (.shareReadmit t r) t s fun x y =>
      OnlyFams (serveFams ++ (logFams ++ (roleFams ++ [E.EXP_DEFER, E.FENCE_CAUSE, E.NET_ROLE, E.SHARE_MODE]))) x.1 y.1 ∧
      Recorded y x r 1 ∧ x.1.n E.SHARE_ROLE 0 = 3 ∧ y.1.n E.SHARE_ROLE 0 = 0 ∧ y.1.n E.SHARE_IDX 0 = 0xFF ∧
      y.1.n E.SHARE_GEN 0 = 0 ∧ y.1.n E.SHARE_MODE 0 = 2 ∧ y.1.n E.FENCE_CAUSE 0 = 0 ∧ y.1.net.claimOpen = false) ∧
  (∀ (t : Nat) (r : Req) (v : Val) (s : State), s.m.alive = true → Takes (s.m.at t, s.srv) r E.NET_HANDOVER 0 v →
    DoesS (.netHandover t r) t s fun x y =>
      OnlyFams (serveFams ++ (logFams ++ [E.EXP_DEFER])) x.1 y.1 ∧
      Recorded y x r 1 ∧ y.1.net.handTo = some (v.toNat, nextGen x.1.leadGen) ∧
      y.1.deadline .handover = some (x.1.tb + 100000)) ∧
  (∀ (t i : Nat) (r : Req) (v : Val) (s : State), s.m.alive = true → Takes (s.m.at t, s.srv) r E.LINK_WAKE_TX i v →
    DoesS (.linkWakeTx t r) t s fun x y =>
      Recorded y x r 1 ∧ y.1.out.contains (.wakePulse i) = true ∧ SameOd serviceKeys x.1 y.1)

/-! ## Zwinglink -/

/-- Links (R338, R357, R364): a PHY that reports link starts its bring-up, one that loses it takes an UP link down; a ready
link is UP with its credits afresh, and is declared down for its reasons. -/
def Obligations.LinkStates : Prop :=
  (∀ (t l : Nat) (s : State), s.m.alive = true → l < 4 → s.m.n E.LINK_ROLE l ≠ 0 →
    DoesM (.phyLink t l true) t s fun m m' =>
      (m'.linkOf l).phy = true ∧ (m'.linkOf l).phyAt = m.tb ∧ (m'.linkOf l).good = 0 ∧
      m'.n E.LINK_STATE l = (if m.n E.LINK_STATE l = 4 then 4 else 2) ∧ SameOd [E.LINK_STATE.key l] m m') ∧
  (∀ (t l : Nat) (s : State), s.m.alive = true → l < 4 → s.m.n E.LINK_ROLE l ≠ 0 →
    DoesM (.phyLink t l false) t s fun m m' =>
      OnlyFams (tripFams ++ (roleFams ++ [E.LINK_DOWN_CNT, E.LINK_STATE, E.NET_ADDR_P, E.NET_FLAGS, E.NET_ROLE,
        E.RING_N])) m m' ∧
      (m'.linkOf l).phy = false ∧ m'.n E.LINK_STATE l = (if m.n E.LINK_STATE l = 3 ∨ m.n E.LINK_STATE l = 4 then 4 else 1) ∧
      m'.n E.LINK_DOWN_CNT l = (if m.n E.LINK_STATE l = 3 then inc32 (m.n E.LINK_DOWN_CNT l) else m.n E.LINK_DOWN_CNT l)) ∧
  (∀ (t l : Nat) (s : State), s.m.alive = true → l < 4 → (s.m.at t).upReady l = true →
    DoesM (.linkUp t l) t s fun m m' =>
      OnlyFams (logFams ++ (roleFams ++ [E.FLT_ACTIVE, E.LINK_STATE, E.NET_ADDR_P, E.NET_FLAGS, E.NET_ROLE, E.Q_FILL,
        E.Q_HIGH, E.Q_HWM_CNT, E.Q_MAX, E.RING_N])) m m' ∧
      m'.n E.LINK_STATE l = 3 ∧ (m'.linkOf l).lastRx = m.tb ∧ (m'.linkOf l).downAt = none ∧
      m'.n E.LINK_DOWN_CNT l = m.n E.LINK_DOWN_CNT l) ∧
  (∀ (t l : Nat) (s : State), s.m.alive = true → l < 4 → (s.m.at t).downReady l = true →
    DoesM (.linkDown t l) t s fun m m' =>
      OnlyFams (tripFams ++ (roleFams ++ [E.LINK_DOWN_CNT, E.LINK_STATE, E.NET_ADDR_P, E.NET_FLAGS, E.NET_ROLE,
        E.RING_N])) m m' ∧
      m'.n E.LINK_STATE l = 4 ∧ (m'.linkOf l).downAt = some m.tb ∧ m'.n E.LINK_DOWN_CNT l = inc32 (m.n E.LINK_DOWN_CNT l) ∧
      m'.bitOf E.FLT_ACTIVE 3 0 = true)

/-- The DELAY exchange (R357): a request leaves on a link under bring-up or UP, one that arrives is answered, and a response
enters the mean of the latest sixteen delays. Credit (R364): a partner's count is taken, and CREDIT leaves when it is due.
-/
def Obligations.DelayAndCreditExchange : Prop :=
  (∀ (t l : Nat) (s : State), s.m.alive = true → l < 4 → (s.m.linkOf l).phy = true → 2 ≤ s.m.n E.LINK_STATE l →
    (s.m.linkKey l).isSome = true → (s.m.at t).delayDue l = true →
    DoesM (.delayReqTx t l) t s fun m m' => Sent m m' 0 2 0xFFFF [] ∧ SameOd frameKeys m m') ∧
  (∀ (t l : Nat) (h : Hdr) (res : Rat) (s : State), s.m.alive = true → l < 4 → Passes (s.m.at t) h 2 (some l) →
    DoesM (.delayReqRx t l h res) t s fun m m' =>
      let a := if m.n E.LINK_ROLE l = 2 then m.n E.NET_ADDR_P 0 else m.n E.NET_ADDR 0
      Sent m m' 0 3 0xFFFF (leBytes 8 (ofSigned 64 (roundR (res * 65536))) ++ leBytes 6 Config.mac48 ++ leBytes 2 a ++
        [l, m.n E.LINK_ROLE l, if a = 0xFFFF then 0xFF else a / 128, 0, 0, 0]) ∧ SameOd frameKeys m m') ∧
  (∀ (t l : Nat) (h : Hdr) (x : DelayResp) (s : State), s.m.alive = true → l < 4 → Passes (s.m.at t) h 3 (some l) →
    s.m.net.inj = [] → s.m.n E.LINK_ROLE l = 1 → (s.m.linkOf l).awaiting = true →
    DoesM (.delayRespRx t l h x) t s fun m m' =>
      let ds := grid ((x.roundTrip - x.residence) / 2) :: (m.linkOf l).dlys.take 15
      (m'.linkOf l).dlys = ds ∧ (m'.linkOf l).peerMac = x.mac ∧ (m'.linkOf l).good = (m.linkOf l).good + 1 ∧
      m'.n E.LINK_PEER l = x.addr ∧ m'.n E.LINK_DLY l = f32OfRat (clampR 0 1000 (ds.sum / ds.length)) ∧
      m'.n E.LINK_LEN l = f32OfRat (clampR 0 200 (ds.sum / ds.length / m.q E.NET_TPM 0)) ∧
      SameOd (E.LINK_PEER.key l :: E.LINK_DLY.key l :: E.LINK_LEN.key l :: frameKeys) m m') ∧
  (∀ (t l : Nat) (h : Hdr) (freed : List Nat) (s : State), s.m.alive = true → l < 4 → Passes (s.m.at t) h 4 (some l) →
    s.m.net.held = [] → s.m.n E.CAP_STATE 0 ≠ 5 →
    DoesM (.creditRx t l h freed) t s fun m m' =>
      (m'.linkOf l).freedIn = (List.range 4).map (fun c => (freed[c]?).getD 0 % 2 ^ 32) ∧ SameOd frameKeys m m') ∧
  (∀ (t l : Nat) (s : State), s.m.alive = true → l < 4 → (s.m.at t).creditDue l = true → (s.m.linkKey l).isSome = true →
    DoesM (.creditTx t l) t s fun m m' =>
      (m'.linkOf l).told = (m.linkOf l).freedOut ∧ (m'.linkOf l).creditAt = m.tb ∧
      Sent m m' 0 4 0xFFFF ((m.linkOf l).freedOut.flatMap (leBytes 4)) ∧ SameOd frameKeys m m')

/-- Beacon and flash (R348, R351 to R353): the lantern beacons with its table and command; a station that accepts a beacon
of its ring takes its generation, command and lantern and forwards it; a cycle without its flash response counts as a miss.
-/
def Obligations.BeaconEvents : Prop :=
  (∀ (t : Nat) (s : State), s.m.alive = true → s.m.isLantern = true → s.m.parentLantern = false → s.m.keys.own.isSome = true →
    (s.m.upLinks 1).isEmpty = false → absR (s.m.at t).cycleOff ≤ 20 →
    DoesM (.beaconTx t) t s fun m m' =>
      OnlyFams (serveFams ++ (outFams ++ (logFams ++ (roleFams ++ [E.FLEET_ENV, E.FLT_ACTIVE, E.FR_SELF, E.NET_FLAGS,
        E.RING_DEPTH, E.SHARE_FLAGS])))) m m' ∧
      m'.out.any (fun o => match o with
        | .beacon _ h b => h.cls == 0 && h.typ == 1 && h.seq == (m.net.txSeq[0]?).getD 0 && h.mac == Config.mac48 &&
            b.cycle == m.cycleNear % 2 ^ 32 && b.t0 == m.cycleNear * 10000 && b.cf == roundR (m.cycleOff * 65536) &&
            b.lgen == m.n E.LGEN 0 && b.env == m.n E.RING_ENV 0 &&
            b.stn == m.net.stn && b.ring == (if m.provisional then 0xFF else m.net.ring) && b.key == m.keys.own &&
            b.slots.isEmpty && decide (b.roles.length ≤ 4)
        | _ => false) = true ∧
      m'.n E.FLEET_ENV 0 = m.n E.RING_ENV 0 ∧ m'.net.lastBeacon = some m.tb ∧ m'.bitOf E.SHARE_FLAGS 0 0 = false) ∧
  (∀ (t l : Nat) (h : Hdr) (b : Beacon) (res : Nat) (s : State), s.m.alive = true → l < 4 → s.m.n E.LINK_STATE l = 3 →
    s.m.n E.LINK_ROLE l = 1 → s.m.isLantern = false → s.m.isHead = false → h.fcsOk = true → headerOk h = true → h.typ = 1 →
    h.hops ≠ 0 →
    h.turned = false → b.key = s.m.keys.own → b.key.isSome = true → newer (s.m.n E.LGEN 0) b.lgen = false →
    (s.m.ntimeOk = true → absR ((s.m.at t).ntimeNs - 10 * b.t0) ≤ 1000000) →
    DoesM (.beaconRx t l h b res) t s fun m m' =>
      OnlyFams (tripFams ++ (roleFams ++ [E.FLEET_ENV, E.FR_SELF, E.IMD_ROLE, E.KPR_SEEN, E.LANT_ADDR, E.LGEN, E.LINK_FCS_ERR,
        E.LINK_YIELDS, E.NET_ADDR, E.NET_ADDR_P, E.NET_AUTH_FAIL, E.NET_BAD_HDR, E.NET_FLAGS, E.NET_LGEN_OLD, E.NET_ROLE,
        E.NTIME_ERR, E.NTIME_TRIM, E.RING_DEPTH, E.RING_N, E.SHARE_FLAGS])) m m' ∧
      m'.n E.LGEN 0 = b.lgen ∧ m'.n E.FLEET_ENV 0 = b.env ∧ m'.n E.LANT_ADDR 0 = nodeAddr b.ring b.stn ∧
      m'.net.upstream = some l ∧ m'.net.lastBeacon = some m.tb ∧ m'.bitOf E.SHARE_FLAGS 0 0 = false ∧
      m'.n E.NET_LGEN_OLD 0 = m.n E.NET_LGEN_OLD 0 ∧
      m'.out.any (fun o => match o with
        | .beacon _ _ x => x.cycle == b.cycle && x.cf == forwardCf b.cf (m.q E.LINK_DLY l) res
        | _ => false) = true) ∧
  (∀ (t cycle : Nat) (turned : Bool) (slots : List Slot) (s : State), s.m.alive = true → s.m.leads = true →
    (s.m.net.stns.map (·.stn)).Nodup →
    DoesM (.beaconReturn t cycle slots none turned) t s fun m m' =>
      OnlyFams ([E.IMD_ROLE, E.NET_FLAGS, E.RING_EXP_ROOM, E.RING_LOOP, E.RING_LOOP_MAX, E.RING_N, E.TAKE_CNT]) m m' ∧
      m'.net.stns = m.net.stns.map (fun y => if y.stn = m.leadStn then y else { y with misses := y.misses + 1 }) ∧
      m'.net.loops = m.net.loops) ∧
  (∀ (t cycle n : Nat) (turned : Bool) (slots : List Slot) (lt : Rat) (x : Slot) (y : Stn) (s : State), s.m.alive = true →
    s.m.leads = true → (s.m.net.stns.map (·.stn)).Nodup → s.m.stnOf n = some y → n ≠ s.m.leadStn → lt ≤ 300 →
    slots.find? (fun z => z.stn == n && slotHolds s.m.leadKey s.m.beaconRing (cycle % 2 ^ 32) s.m.leadGen z) = some x →
    DoesM (.beaconReturn t cycle slots (some lt) turned) t s fun m m' =>
      OnlyFams ([E.IMD_ROLE, E.NET_FLAGS, E.RING_EXP_ROOM, E.RING_LOOP, E.RING_LOOP_MAX, E.RING_N, E.TAKE_CNT]) m m' ∧
      (m'.stnOf n).map (fun z => (z.misses, z.slot, z.dark)) = some (0, some x, false) ∧
      m'.net.loops = grid lt :: m.net.loops.take 999 ∧ m'.bitOf E.NET_FLAGS 0 2 = turned)

/-- Election and handover (R354 to R356): a candidate without a lantern claims at the next generation, gives way to a better
claim, and after three returns leads; a ring of one leads itself; an offer is taken by its target or lapses. -/
def Obligations.ElectionAndHandover : Prop :=
  (∀ (t : Nat) (s : State), s.m.alive = true → s.m.isHead = false → s.m.candidate = true → (s.m.at t).noLantern = true →
    (s.m.at t).recentClaims = [] → (s.m.upLinks 1).isEmpty = false → s.m.keys.own.isSome = true →
    DoesM (.claimTx t) t s fun m m' =>
      m'.net.claiming = true ∧ m'.net.proposed = nextGen m.newestGen ∧
      Sent m m' 0 5 0xFFFF ([m.n E.NET_LPRIO 0, m.net.stn] ++ leBytes 6 Config.mac48 ++ leBytes 2 m'.net.proposed) ∧
      SameOd frameKeys m m') ∧
  (∀ (t l : Nat) (h : Hdr) (x : ClaimMsg) (s : State), s.m.alive = true → l < 4 → Passes (s.m.at t) h 5 (some l) →
    s.m.isLantern = false → s.m.n E.LINK_ROLE l = 1 → (s.m.at t).recentClaims = [] → x.mac ≠ Config.mac48 →
    betterKey (x.lprio, x.stn, x.mac) s.m.claimKey = true →
    DoesM (.claimRx t l h x) t s fun m m' =>
      m'.net.claiming = false ∧ m'.net.returns = 0 ∧ m'.net.better = [(x, m.tb)] ∧
      m'.out.contains (.forward (m.onLink l) { h with hops := h.hops - 1, turned := h.turned || m.onLink l == l, mac := Config.mac48 }) = true ∧
      SameOd frameKeys m m') ∧
  (∀ (t l : Nat) (h : Hdr) (x : ClaimMsg) (s : State), s.m.alive = true → l < 4 → Passes (s.m.at t) h 5 (some l) →
    s.m.isLantern = false → s.m.n E.LINK_ROLE l = 1 → (s.m.at t).recentClaims = [] → x.mac = Config.mac48 →
    s.m.net.claiming = true → x.lgen = s.m.net.proposed →
    DoesM (.claimRx t l h x) t s fun m m' =>
      (m.net.returns = 0 → m'.net.returns = 1) ∧
      (m.net.returns ≠ 0 → m.tb / 10000 = m.net.returnAt + 1 → m'.net.returns = m.net.returns + 1) ∧
      (m.net.returns ≠ 0 → m.net.returnAt + 1 < m.tb / 10000 → m'.net.returns = 1) ∧
      m'.net.claiming = true ∧ SameOd frameKeys m m') ∧
  (∀ (t : Nat) (s : State), s.m.alive = true → s.m.isHead = false → s.m.net.claiming = true → 3 ≤ s.m.net.returns →
    s.m.candidate = true → (s.m.at t).recentClaims = [] →
    DoesM (.electionWin t) t s fun m m' =>
      OnlyFams ([E.ELECT_CNT, E.LANT_ADDR, E.LGEN, E.NET_ADDR, E.NET_FLAGS, E.NET_ROLE, E.RING_ENV, E.SHARE_FLAGS]) m m' ∧
      m'.n E.NET_ROLE 0 = 1 ∧ m'.n E.LGEN 0 = m.net.proposed ∧ m'.n E.LANT_ADDR 0 = m'.n E.NET_ADDR 0 ∧
      m'.n E.ELECT_CNT 0 = inc32 (m.n E.ELECT_CNT 0) ∧ m'.net.claiming = false ∧ m'.n E.RING_ENV 0 = m.n E.FLEET_ENV 0) ∧
  (∀ (t : Nat) (s : State), s.m.alive = true → s.m.isHead = false → s.m.candidate = true → (s.m.upLinks 1).isEmpty = true →
    DoesM (.ringOfOneLantern t) t s fun m m' =>
      OnlyFams ([E.ELECT_CNT, E.LANT_ADDR, E.LGEN, E.NET_ADDR, E.NET_FLAGS, E.NET_ROLE, E.RING_ENV, E.SHARE_FLAGS]) m m' ∧
      m'.n E.NET_ROLE 0 = 1 ∧ m'.n E.ELECT_CNT 0 = inc32 (m.n E.ELECT_CNT 0) ∧
      m'.n E.LGEN 0 = nextGen (if newer m.net.newest (m.n E.LGEN 0) then m.net.newest else m.n E.LGEN 0)) ∧
  (∀ (t : Nat) (h : Hdr) (target lgen : Nat) (s : State), s.m.alive = true → Passes (s.m.at t) h 6 none →
  s.m.fromLantern h = true →
    s.m.isHead = false → s.m.numbered = true → s.m.net.stn = target → s.m.candidate = true → lgen = nextGen (s.m.n E.LGEN 0) →
    DoesM (.handoverRx t h target lgen) t s fun m m' =>
      OnlyFams (tripFams ++ [E.CLS_DROP, E.CLS_RX, E.LANT_ADDR, E.LGEN, E.LINK_FCS_ERR, E.LINK_YIELDS, E.NET_ADDR,
        E.NET_AUTH_FAIL, E.NET_BAD_HDR, E.NET_EXP_DROP, E.NET_FLAGS, E.NET_GEN_STALE, E.NET_LGEN_OLD, E.NET_REPLAY,
        E.NET_ROLE, E.RING_ENV, E.SHARE_FLAGS]) m m' ∧
      m'.n E.NET_ROLE 0 = 1 ∧ m'.n E.LGEN 0 = lgen ∧ m'.net.handAck = true) ∧
  (∀ (t : Nat) (s : State), s.m.alive = true → (s.m.at t).due .handover = true →
    DoesM (.handoverLapse t) t s fun m m' =>
      m'.net.handTo = none ∧ m'.deadline .handover = none ∧ m'.net.lead = m.net.lead ∧ SameOd [] m m' ∧
      SameTimers [.handover] m m')

/-- Network time (R359 to R361): a lantern below the root steers by the TIME_RELAY; a second without a beacon is the end of
network time; an edge on SYNCI counts; SYNCO pulses at whole multiples of its period. Numbering and the tree (R343, R368,
R371): the lantern numbers a station that records itself, the station takes its number, summaries go up and are kept, and
the fleet's depth is told and taken. -/
def Obligations.NetworkTimeAndNumbering : Prop :=
  (∀ (t l t0 : Nat) (h : Hdr) (cf : RelayCf) (s : State), s.m.alive = true → l < 4 → Passes (s.m.at t) h 7 (some l) →
  s.m.isLantern = true →
    s.m.n E.LINK_ROLE l = 1 → s.m.n E.LINK_STATE l = 3 →
    DoesM (.timeRelayRx t l h t0 cf) t s fun m m' =>
      OnlyFams (tripFams ++ [E.CLS_DROP, E.CLS_RX, E.LINK_FCS_ERR, E.LINK_YIELDS, E.NET_AUTH_FAIL, E.NET_BAD_HDR,
        E.NET_EXP_DROP, E.NET_FLAGS, E.NET_GEN_STALE, E.NET_LGEN_OLD, E.NET_REPLAY, E.NTIME_ERR, E.NTIME_TRIM,
          E.RING_DEPTH]) m m' ∧
      m'.net.relayAt = some m.tb ∧ m'.net.locked = true ∧ m'.deadline .ntime = some (m.tb + sec 1) ∧
      m'.bitOf E.NET_FLAGS 0 1 = false ∧
      m'.n E.NTIME_ERR 0 = f32OfRat (clampR (-1000000) 1000000 ((10 * t0 : Nat) + mkRat cf.cf 65536 + m.q E.LINK_DLY l - m.ntimeNs))) ∧
  (∀ (t : Nat) (s : State), s.m.alive = true → (s.m.at t).due .ntime = true → (s.m.at t).leadsRoot = false →
    DoesM (.ntimeHoldoverExpiry t) t s fun m m' =>
      OnlyFams (tripFams ++ [E.IMD_ROLE, E.IMD_STATE, E.NET_FLAGS]) m m' ∧
      m'.bitOf E.NET_FLAGS 0 0 = false ∧ m'.bitOf E.NET_FLAGS 0 1 = false ∧ m'.net.locked = false ∧ m'.net.accepted = 0 ∧
      m'.deadline .ntime = none) ∧
  (∀ (t : Nat) (s : State), s.m.alive = true → s.m.n E.SYNCI_MODE 0 ≠ 0 →
    DoesM (.synciEdge t) t s fun m m' =>
      OnlyFams (serveFams ++ (logFams ++ [E.CAP_FLAGS, E.CAP_NUM, E.CAP_STATE, E.CAP_TRIG_CAUSE, E.CAP_TRIG_LOST,
        E.CAP_TRIG_T, E.EXP_DEFER, E.FLT_ACTIVE, E.NET_FLAGS, E.NTIME_ERR, E.NTIME_TRIM, E.SYNCI_CNT])) m m' ∧
      m'.n E.SYNCI_CNT 0 = inc32 (m.n E.SYNCI_CNT 0) ∧ m'.net.synciAt = some m.tb) ∧
  (∀ (t k : Nat) (s : State), s.m.alive = true → s.m.b E.SYNCO_EN 0 = true → 0 < s.m.n E.SYNCO_PER 0 →
    absR ((s.m.at t).syncoNs - k * (s.m.n E.SYNCO_PER 0 * 1000000)) ≤ 20 →
    DoesM (.syncoPulse t) t s fun m m' => m'.out = [.synco] ∧ Frame [] [] m m') ∧
  (∀ (t n : Nat) (h : Hdr) (x : StnRec) (s : State), s.m.alive = true →
    PassesBy (s.m.at t) h 0x33 none (originator h (0x10000 + x.mac)) → s.m.leads = true → s.m.numberFor x.mac x.stn = some n →
    s.m.canReach 0x34 0xFFFF = true →
    DoesM (.stnRecRx t h x) t s fun m m' =>
      m'.net.stns.any (fun y => y.mac == x.mac && y.stn == n && y.seg == x.seg && y.mode == x.shareMode &&
      y.lprio == x.lprio) = true ∧
      Sent m m' 3 0x34 0xFFFF (leBytes 6 x.mac ++ [n, m.leadRing]) ∧ SameOd frameKeys m m') ∧
  (∀ (t stn ring : Nat) (h : Hdr) (s : State), s.m.alive = true → Passes (s.m.at t) h 0x34 none → s.m.fromLantern h = true →
    s.m.isLantern = false → stn ≠ 0xFF →
    DoesM (.stnAssignRx t h Config.mac48 stn ring) t s fun m m' =>
      m'.net.ring = ring ∧ m'.net.stn = stn ∧ m'.n E.NET_ADDR 0 = nodeAddr ring stn ∧
      SameOd (E.NET_ADDR.key 0 :: E.NET_FLAGS.key 0 :: frameKeys) m m') ∧
  (∀ (t : Nat) (s : State), s.m.alive = true → s.m.leads = true → (s.m.at t).leadsRoot = false →
    s.m.canReach 0x35 0xFFFF = true →
    DoesM (.ringSumTx t) t s fun m m' =>
      Sent m m' 3 0x35 0xFFFF ([m.leadRing, m.depthBelow] ++ ringMap m.summary.rings ++ m.treeSegs.flatMap (leBytes 2) ++
        m.summary.imd.flatMap (fun x => leBytes 2 x.1 ++ leBytes 2 x.2) ++ leBytes 6 Config.mac48 ++ leBytes 6 m.summary.head ++
        m.summary.tree.flatMap ringEntBytes) ∧ SameOd frameKeys m m') ∧
  (∀ (t : Nat) (h : Hdr) (x : RingSum) (s : State), s.m.alive = true → Passes (s.m.at t) h 0x35 none → s.m.leads = true →
    (s.m.at t).endsHere { h with typ := 0x35 } h.via = true →
    DoesM (.ringSumRx t h x) t s fun m m' =>
      m'.net.kids.map (·.mac) = (m.net.kids.filter (fun k => k.mac != x.mac)).map (·.mac) ++ [x.mac] ∧
      (m.net.kids = [] → m'.foreignSegs = (m.net.aboveSegs ++ x.segs.filter (fun g => m.ringSegs.contains g)).eraseDups) ∧
      (m.leadsRoot = true → m'.net.given.Pairwise (fun a b => a.2 = b.2 → a.2 = 0xFF)) ∧
      (m.leadsRoot = false → m'.net.kids = m.net.kids.filter (fun k => k.mac != x.mac) ++ [x] ∧ SameOd frameKeys m m')) ∧
  (∀ (t : Nat) (s : State), s.m.alive = true → (s.m.at t).leadsRoot = true →
    DoesM (.fleetStateTx t) t s fun m m' =>
      OnlyFams (serveFams ++ (logFams ++ [E.DEPTH_INT, E.DEPTH_TRIP, E.EXP_DEFER, E.FLEET_DEPTH, E.NET_FLAGS,
        E.SHARE_FLAGS])) m m' ∧
      m'.n E.FLEET_DEPTH 0 = min 127 m.depthBelow ∧ m'.n E.DEPTH_INT 0 = min 127 m.depthInt ∧
      m'.n E.DEPTH_TRIP 0 = min 127 m.depthTrip ∧ m'.bitOf E.SHARE_FLAGS 0 6 = decide (m.depthInt < min 127 m.depthBelow) ∧
      m'.bitOf E.NET_FLAGS 0 6 = decide (m.depthTrip < min 127 m.depthBelow)) ∧
  (∀ (t : Nat) (h : Hdr) (x : FleetState) (s : State), s.m.alive = true → Passes (s.m.at t) h 0x37 none →
    DoesM (.fleetStateRx t h x) t s fun m m' =>
      m'.bitOf E.SHARE_FLAGS 0 6 = decide (x.depthInt < x.depth) ∧ m'.bitOf E.NET_FLAGS 0 6 = decide (x.depthTrip < x.depth) ∧
      m'.n E.FLEET_DEPTH 0 = min 127 x.depth ∧
      SameOd (E.SHARE_FLAGS.key 0 :: E.NET_FLAGS.key 0 :: E.FLEET_DEPTH.key 0 :: frameKeys) m m')

/-! ## Port switches and protection -/

/-- Trips (R279, R280, R282, R285, R288, R291, R294): the switch opens, the state is TRIPPED with its cause or, at the
repeated trip, LATCHED with cause 7, the trip counts, and an input or BAT leaves its qualification. Clearing (R279, R280,
R286): an i²t trip clears below I2T_RESET and an over-temperature trip below 110 °C, by themselves; LIMIT ends 100 ms after
its condition. -/
def Obligations.PortTripsAndClears : Prop :=
  (∀ (t k : Nat) (x : Rat) (s : State), s.m.alive = true → k < 8 → s.m.n E.PROT_STATE k ≤ 1 →
    s.m.cq E.FT_MULT k * portRating k ≤ fastSense k x →
    DoesM (.fastTrip t k x) t s fun m m' => Tripped k 1 m m') ∧
  (∀ (t k : Nat) (x : Rat) (s : State), s.m.alive = true → k < 8 → s.m.n E.PROT_STATE k ≤ 1 →
    s.m.cq E.I2T_K k ≤ (s.m.protOf k).theta →
    DoesM (.i2tTrip t k x) t s fun m m' => Tripped k 2 m m') ∧
  (∀ (t : Nat) (x : Rat) (s : State), s.m.alive = true → s.m.n E.PROT_STATE 5 ≤ 1 → s.m.ovpThreshold < x →
    DoesM (.sysOvervoltageTrip t x) t s fun m m' => Tripped 5 3 m m') ∧
  (∀ (t k : Nat) (x : Rat) (s : State), s.m.alive = true → k < 8 → s.m.n E.PROT_STATE k ≤ 1 → 150 < x →
    DoesM (.switchOvertemp t k x) t s fun m m' => Tripped k 5 m m' ∧ m'.n E.SW_TEMP k = f32OfRat x) ∧
  (∀ (t k : Nat) (x : Rat) (s : State), s.m.alive = true → k < 8 → s.m.n E.PROT_STATE k = 2 →
    2 < s.m.n E.PROT_CAUSE k → s.m.cq E.I2T_K k ≤ (s.m.protOf k).theta →
    (s.m.protOf k).tripTick = s.m.modes.tickNo + 1 →
    DoesM (.i2tTrip t k x) t s fun m m' => m'.n E.PROT_CAUSE k = 2 ∧ SameOd [E.PROT_CAUSE.key k] m m') ∧
  (∀ (t k : Nat) (s : State), s.m.alive = true → k < 8 → s.m.n E.PROT_STATE k = 2 → s.m.n E.PROT_CAUSE k = 2 →
    s.m.i2tPct k < s.m.cq E.I2T_RESET k →
    DoesM (.i2tClear t k) t s fun m m' => Cleared k m m') ∧
  (∀ (t k : Nat) (x : Rat) (s : State), s.m.alive = true → k < 8 → s.m.n E.PROT_STATE k = 2 → s.m.n E.PROT_CAUSE k = 5 →
  x < 110 →
    DoesM (.switchTempClear t k x) t s fun m m' => Cleared k m m' ∧ m'.n E.SW_TEMP k = f32OfRat x) ∧
  (∀ (t k : Nat) (s : State), s.m.alive = true → k < 8 → s.m.n E.PROT_STATE k = 1 → (s.m.at t).due (.limitExit k) = true →
    s.m.limitHolds k = false →
    DoesM (.limitExit t k) t s fun m m' =>
      m'.n E.PROT_STATE k = 0 ∧ Frame [E.PROT_STATE.key k] [.limitExit k] m m')

/-- Link voltage and failed switches (R289, R290): the BRK clamp acts and releases with its energy; above 1095 V every
closed switch of a port in order opens; a switch that keeps conducting latches with cause 8. The port toggle (R292): a
disabled port leaves qualification and gets 20 ms to open its switch, which opens then or below 2 A; a port that is enabled
clears. -/
def Obligations.LinkProtectionAndToggles : Prop :=
  (∀ (t : Nat) (v : Rat) (s : State), s.m.alive = true → s.m.safe.clampArmed = true → s.m.safe.clamping = false →
    s.m.cq E.CLAMP_V 0 < v →
    DoesM (.brkClamp t v) t s fun m m' =>
      m'.safe.clamping = true ∧ m'.n E.CLAMP_CNT 0 = inc32 (m.n E.CLAMP_CNT 0) ∧ SameOd [E.CLAMP_CNT.key 0] m m') ∧
  (∀ (t : Nat) (v e : Rat) (s : State), s.m.alive = true → s.m.safe.clamping = true → v < s.m.cq E.CLAMP_V 0 - 20 →
    DoesM (.brkClampRelease t v e) t s fun m m' =>
      m'.safe.clamping = false ∧ m'.safe.heat = grid (m.safe.heat + maxR 0 e) ∧
      m'.n E.CLAMP_E 0 = f32OfRat (m.q E.CLAMP_E 0 + maxR 0 e) ∧
      SameOd [E.CLAMP_E.key 0, E.BRK_HEAT.key 0, E.BRK_HEAT_PCT.key 0, E.BRK_LIMITING.key 0] m m') ∧
  (∀ (t : Nat) (v : Rat) (s : State), s.m.alive = true → 1095 < v →
    DoesM (.linkOvervoltage t v) t s fun m m' =>
      OnlyFams (tripFams ++ [E.BRIDGE_EXIT, E.CHG_IREF, E.BRIDGE_FORCED, E.COUPLING_ACT, E.LINK_OV_CNT, E.PH_MODE,
        E.TRANS_STATE]) m
        m' ∧
      m'.gated 0 = true ∧ m'.gated 1 = true ∧ m'.n E.LINK_OV_CNT 0 = inc32 (m.n E.LINK_OV_CNT 0) ∧
      (∀ k, k < 8 → m.closed k = true → m.n E.PROT_STATE k ≤ 1 → m'.closed k = false ∧ 2 ≤ m'.n E.PROT_STATE k)) ∧
  (∀ (t k t0 : Nat) (i : Rat) (s : State), s.m.alive = true → k < 8 → (s.m.protOf k).openedAt = some t0 →
    t0 + us 200 ≤ (s.m.at t).tb → 5 < absR i → ¬ (s.m.n E.PROT_STATE k = 3 ∧ s.m.n E.PROT_CAUSE k = 8) →
    DoesM (.switchFailure t k i) t s fun m m' =>
      OnlyFams (tripFams ++ [E.BRIDGE_EXIT, E.CHG_IREF, E.BRIDGE_FORCED, E.COUPLING_ACT, E.PH_MODE, E.TRANS_STATE]) m m' ∧
      m'.n E.PROT_STATE k = 3 ∧ m'.n E.PROT_CAUSE k = 8 ∧ m'.n E.TRIP_CNT k = inc32 (m.n E.TRIP_CNT k) ∧
      m'.n E.TRIP_I k = f32OfRat (clampR (-750) 750 i) ∧ m'.bitOf E.FLT_ACTIVE 12 2 = true ∧ (k = 4 → m'.safe.contOn = false)) ∧
  (∀ (t k : Nat) (r : Req) (v : Val) (s : State), s.m.alive = true → Takes (s.m.at t, s.srv) r E.PORT_EN k v →
  leNat r.data = 0 →
    s.m.b E.PORT_EN k = true →
    DoesS (.portDisable t r) t s fun x y =>
      OnlyFams (serveFams ++ [E.CHG_IREF, E.IN_CEIL_SRC, E.IN_ICEIL, E.IN_PHASES, E.PH_IREF, E.PH_SLOT, E.PH_STATE, E.PORT_EN,
        E.QUAL_CAUSE,
        E.QUAL_STATE, E.DEAD_STATE, E.STG_NACT]) x.1 y.1 ∧
      y.1.b E.PORT_EN k = false ∧ Recorded y x r 0 ∧ (k < 5 → y.1.n E.QUAL_STATE k = 0) ∧
      (x.1.closed k = true → y.1.deadline (.switchRelease k) = some (x.1.tb + ms 20))) ∧
  (∀ (t k : Nat) (r : Req) (v : Val) (s : State), s.m.alive = true → Takes (s.m.at t, s.srv) r E.PORT_EN k v →
  leNat r.data = 1 →
    s.m.b E.PORT_EN k = false →
    DoesS (.portEnable t r) t s fun x y =>
      OnlyFams (tripFams ++ [E.KPR_SEEN, E.PORT_EN, E.QUAL_PREFAIL, E.REC_EARLY, E.SST_HICCUP]) x.1 y.1 ∧
      y.1.b E.PORT_EN k = true ∧ Recorded y x r 0 ∧ y.1.deadline (.switchRelease k) = none ∧
      (2 ≤ x.1.n E.PROT_STATE k → y.1.n E.PROT_STATE k = 0)) ∧
  (∀ (t k : Nat) (i : Rat) (s : State), s.m.alive = true → s.m.armed (.switchRelease k) = true →
    (absR i < 2 ∨ (s.m.at t).due (.switchRelease k) = true) →
    DoesM (.portSwitchRelease t k i) t s fun m m' =>
      m'.closed k = false ∧ m'.deadline (.switchRelease k) = none ∧ SameOd [] m m')

/-- The safety inputs (R296 to R298, R447, R448): an open interlock, ESTOP or case forces the module, and its closing
releases its cause; a host opens ILKO. CONT (R299, R300) and what SAFE does alone (R28, R296, R306): the coil is held after
CONT_PULL, an open load is reported, an overcurrent drops it; a lockstep mismatch holds the outputs off; the loss of every
source forces the module, and CONT goes off and the last fault record is written once the switches have opened. -/
def Obligations.SafetyInputsAndContact : Prop :=
  (∀ (t c : Nat) (i : Instr) (s : State), s.m.alive = true →
    ((i = .ilkOpen t ∧ c = 1 ∧ s.m.b E.ILK_EN 0 = true ∧ s.m.safe.ilkOpen = false) ∨
     (i = .estopOpen t ∧ c = 0 ∧ s.m.b E.ESTOP_EN 0 = true ∧ s.m.n E.ESTOP_STATE 0 = 0) ∨ (i = .tamperOpen t ∧ c = 3)) →
    DoesM i t s fun m m' =>
      OnlyFams (raiseFams ++ [E.ERASE_T, E.ESTOP_STATE, E.ILK_STATE, E.WAKE_LAST, E.WAKE_RTC]) m m' ∧
      m'.bitOf E.SAFE_FORCE_SRC 0 c = true ∧ m'.gated 0 = true ∧ m'.gated 1 = true ∧ (∀ p, p < 16 → m'.switches p = false) ∧
      (c = 1 → m'.n E.ILK_STATE 0 = 1) ∧ (c = 0 → m'.n E.ESTOP_STATE 0 = 1) ∧
      (c = 3 → m'.safe.tamperOpen = true ∧ m'.keys.latch = true ∧ m'.keys.own = none ∧ m'.keys.par = none ∧
      m'.keys.sign = none ∧
        m'.keys.cred = [none, none, none]) ∧
      (m.n E.SS_STATE 0 ≤ 1 → m'.n E.SS_STATE 0 = 2 ∧ m'.deadline .ssOpen = some (m.tb + us 100))) ∧
  (∀ (t c : Nat) (i : Instr) (s : State), s.m.alive = true →
    ((i = .ilkClose t ∧ c = 1 ∧ s.m.b E.ILK_EN 0 = true ∧ s.m.safe.ilkOpen = true) ∨
     (i = .estopClose t ∧ c = 0 ∧ s.m.b E.ESTOP_EN 0 = true ∧ s.m.safe.estopFails = 0 ∧
       (s.m.n E.ESTOP_STATE 0 = 1 ∨ s.m.n E.ESTOP_STATE 0 = 3)) ∨ (i = .tamperClose t ∧ c = 3)) →
    DoesM i t s fun m m' =>
      OnlyFams (tripFams ++ [E.ESTOP_STATE, E.ILK_STATE, E.SST_HICCUP]) m m' ∧
      m'.bitOf E.SAFE_FORCE_SRC 0 c = false ∧ (c = 1 → m'.n E.ILK_STATE 0 = 0 ∧ m'.safe.ilkOpen = false) ∧
      (c = 0 → m'.n E.ESTOP_STATE 0 = 0) ∧ (c = 3 → m'.safe.tamperOpen = false)) ∧
  (∀ (t : Nat) (pass : Bool) (s : State), s.m.alive = true → s.m.b E.ESTOP_EN 0 = true →
    DoesM (.estopTest t pass) t s fun m m' =>
      m'.safe.estopFails = (if pass then 0 else m.safe.estopFails + 1) ∧
      (pass = false → 1 ≤ m.safe.estopFails → m'.n E.ESTOP_STATE 0 = 3 ∧
        (m.n E.ESTOP_STATE 0 ≠ 3 → m'.bitOf E.SAFE_FORCE_SRC 0 0 = true ∧ m'.gated 0 = true ∧ m'.gated 1 = true)) ∧
      (pass = true → SameOd [] m m')) ∧
  (∀ (t : Nat) (r : Req) (v : Val) (s : State), s.m.alive = true → Takes (s.m.at t, s.srv) r E.ILK_OPEN_REQ 0 v →
    DoesS (.ilkOpenReqWrite t r) t s fun x y =>
      y.1.getV E.ILK_OPEN_REQ 0 = v ∧ Recorded y x r 0 ∧ (v.toNat = 1 → y.1.b E.ILKO_STATE 0 = false) ∧
      SameOd (E.ILK_OPEN_REQ.key 0 :: E.ILKO_STATE.key 0 :: serviceKeys) x.1 y.1) ∧
  (∀ (t : Nat) (s : State), s.m.alive = true → (s.m.at t).due .contPull = true →
    DoesM (.contPullExpiry t) t s fun m m' =>
      m'.n E.CONT_STATE 0 = (if m.safe.contOn = true ∧ m.n E.CONT_STATE 0 = 1 then 2 else m.n E.CONT_STATE 0) ∧
      Frame [E.CONT_STATE.key 0] [.contPull] m m') ∧
  (∀ (t : Nat) (i : Rat) (s : State), s.m.alive = true → s.m.safe.contOn = true → i < mkRat 5 100 →
    DoesM (.contOpenLoad t i) t s fun m m' =>
      OnlyFams (tripFams) m m' ∧
      m'.n E.CONT_STATE 0 = 3 ∧ m'.n E.CONT_I 0 = f32OfRat i ∧ m'.safe.contOn = true ∧ m'.bitOf E.FLT_ACTIVE 12 3 = true) ∧
  (∀ (t : Nat) (i : Rat) (s : State), s.m.alive = true → s.m.safe.contOn = true → 3 < i →
    (s.m.n E.CONT_STATE 0 = 1 → 10 ≤ i) →
    DoesM (.contOvercurrent t i) t s fun m m' =>
      OnlyFams (tripFams ++ [E.CONT_OC_CNT]) m m' ∧
      m'.n E.CONT_STATE 0 = 4 ∧ m'.safe.contOn = false ∧ m'.n E.CONT_OC_CNT 0 = inc32 (m.n E.CONT_OC_CNT 0) ∧
      m'.deadline .contPull = none ∧ m'.bitOf E.FLT_ACTIVE 12 4 = true) ∧
  (∀ (t : Nat) (s : State), s.m.alive = true →
    DoesM (.lockstepMismatch t) t s fun m m' =>
      OnlyFams (tripFams) m m' ∧
      m'.lockstep = true ∧ m'.gated 0 = true ∧ m'.gated 1 = true ∧ (∀ k, k < 6 → m'.closed k = false) ∧
      m'.safe.contOn = false ∧ m'.b E.FAULT_OUT 0 = false ∧ m'.b E.ILKO_STATE 0 = false ∧ m'.bitOf E.FLT_ACTIVE 4 0 = true) ∧
  (∀ (t : Nat) (s : State), s.m.phase = .running →
    DoesS (.holdupOperation t) t s fun x y =>
      OnlyFams (raiseFams ++ [E.STAGE_DISCARDS, E.USB_DATA_ROLE, E.USB_EPR, E.USB_I, E.USB_PWR_ROLE, E.USB_STATE,
        E.USB_V]) x.1 y.1 ∧
      y.1.phase = .holdup ∧ y.1.safe.holdup = true ∧ y.1.bitOf E.SAFE_FORCE_SRC 0 4 = true ∧ y.1.gated 0 = true ∧
      y.1.gated 1 = true ∧ y.1.contHeld = true ∧ y.1.deadline .holdup300 = none ∧
      (x.1.n E.SS_STATE 0 ≤ 1 → y.1.n E.SS_STATE 0 = 2 ∧ y.1.deadline .ssOpen = some (x.1.tb + us 100))) ∧
  (∀ (t : Nat) (s : State), s.m.phase = .holdup → s.m.safe.holdup = true → s.m.n E.SS_STATE 0 = 2 →
  (s.m.at t).due .ssOpen = true →
    DoesM (.ssSwitchOpen t) t s fun m m' =>
      m'.safe.contOn = false ∧ (∀ k, k < 6 → m'.closed k = false) ∧ m'.n E.SS_STATE 0 = 3 ∧
      ((m.q26.filter (fun r => r.kind == 1)).isEmpty = false → m'.log.length = m.log.length + 1))

/-- The insulation monitor (R302 to R304): a grant starts injection for 3 s and its end stops it; a half-period gives the
resistance and its state, or lengthens the period; a conflict stops the module; the root lantern grants the lowest candidate
and leaves out one in conflict. The model's own choices: assumption log 54. -/
def Obligations.InsulationMonitor : Prop :=
  (∀ (t gsys node : Nat) (h : Hdr) (s : State), s.m.alive = true → Passes (s.m.at t) h 0x36 none → s.m.imdShared = true →
    s.m.n E.IMD_GSYS 0 = gsys → s.m.fenced = false → s.m.ntimeOk = true → s.m.n E.NET_ADDR 0 = node → node ≠ 0xFFFF →
    DoesM (.imdGrantRx t h gsys node) t s fun m m' =>
      OnlyFams (tripFams ++ [E.CLS_DROP, E.CLS_RX, E.IMD_ROLE, E.IMD_STATE, E.LINK_FCS_ERR, E.LINK_YIELDS,
        E.NET_AUTH_FAIL, E.NET_BAD_HDR, E.NET_EXP_DROP, E.NET_GEN_STALE, E.NET_LGEN_OLD, E.NET_REPLAY]) m m' ∧
      m'.n E.IMD_ROLE 0 = 1 ∧ m'.deadline .imdGrant = some (m.tb + sec 3) ∧
      m'.n E.IMD_STATE 0 = (if m.n E.IMD_ROLE 0 = 1 then m.n E.IMD_STATE 0 else 4)) ∧
  (∀ (t : Nat) (s : State), s.m.alive = true → (s.m.at t).due .imdGrant = true → s.m.n E.IMD_ROLE 0 = 1 →
    DoesM (.imdGrantExpiry t) t s fun m m' =>
      OnlyFams (tripFams ++ [E.IMD_RISO, E.IMD_ROLE, E.IMD_STATE]) m m' ∧ m'.n E.IMD_ROLE 0 = 0 ∧ m'.n E.IMD_STATE 0 = 0 ∧
      m'.deadline .imdGrant = none) ∧
  (∀ (t : Nat) (riso csys pole : Rat) (s : State), s.m.alive = true → s.m.b E.IMD_EN 0 = true → s.m.n E.IMD_ROLE 0 = 1 →
    (s.m.fltOf 15).resetting = false →
    DoesM (.imdHalfPeriod t riso csys pole) t s fun m m' =>
      OnlyFams (tripFams ++ [E.IMD_CSYS, E.IMD_POLE, E.IMD_RISO, E.IMD_STATE]) m m' ∧
      m'.n E.IMD_POLE 0 = f32OfRat (clampR 0 100 pole) ∧ m'.n E.IMD_CSYS 0 = f32OfRat (clampR 0 200 csys) ∧
      (if m.imdPeriod / 2 < 5 * (240 + riso) * csys / 1000 then
        m'.safe.imdPeriod = minR 60 (2 * (5 * (240 + riso) * csys / 1000)) ∧ m'.n E.IMD_STATE 0 = 4
      else m'.n E.IMD_RISO 0 = f32OfRat (clampR 0 10000 riso) ∧ m'.n E.IMD_STATE 0 = m.imdLevel riso)) ∧
  (∀ (t : Nat) (s : State), s.m.alive = true → s.m.n E.IMD_ROLE 0 = 1 →
    DoesM (.imdConflict t) t s fun m m' =>
      OnlyFams (tripFams ++ [E.IMD_RISO, E.IMD_ROLE, E.IMD_STATE]) m m' ∧
      m'.n E.IMD_ROLE 0 = 3 ∧ m'.n E.IMD_STATE 0 = 0 ∧ m'.deadline .imdGrant = none ∧ m'.bitOf E.FLT_ACTIVE 15 1 = true) ∧
  (∀ (t g a : Nat) (s : State), s.m.alive = true → (s.m.at t).leadsRoot = true → s.m.canReach 0x36 0xFFFF = true →
    s.m.summary.imd = [(g, a)] → s.m.safe.imdBarred = [] → s.m.n E.IMD_GSYS 0 ≠ g →
    DoesM (.imdGrantTx t) t s fun m m' => Sent m m' 3 0x36 0xFFFF (leBytes 2 g ++ leBytes 2 a) ∧ SameOd frameKeys m m') ∧
  (∀ (t gsys st : Nat) (riso : Rat) (h : Hdr) (s : State), s.m.alive = true → Passes (s.m.at t) h 0x23 none →
    (s.m.at t).leadsRoot = true →
    DoesM (.imdAlarmRx t h gsys st 3 riso) t s fun m m' =>
      m'.safe.imdBarred = h.src :: m.safe.imdBarred.filter (· != h.src) ∧ SameOd frameKeys m m')

/-! ## Measurement, Capture, and Logging -/

/-- Channels and averages (R312, R313, R315): a saturated or invalid channel is shown and its source raised, a current
channel is auto-zeroed, and a window that ends is published unless its length has changed. Snapshots that a read clears
(R316, R317, R386): the answer is what stood, and the peaks, extremes or steps start anew. -/
def Obligations.MeasurementsAndSnapshots : Prop :=
  (∀ (t ch : Nat) (s : State), s.m.alive = true → ch < 16 → (s.m.at t).satLong ch = true →
    DoesM (.channelSaturated t ch) t s fun m m' =>
      OnlyFams (tripFams ++ [E.CH_SAT]) m m' ∧ m'.bitOf E.CH_SAT 0 ch = true ∧ m'.bitOf E.FLT_ACTIVE 5 0 = true) ∧
  (∀ (t ch : Nat) (s : State), s.m.alive = true → ch < 16 →
    DoesM (.channelRangeFail t ch) t s fun m m' =>
      OnlyFams (tripFams ++ [E.CAP_FLAGS, E.CH_INVALID]) m m' ∧ m'.bitOf E.CH_INVALID 0 ch = true ∧
      m'.bitOf E.FLT_ACTIVE 5 1 = true) ∧
  (∀ (t k : Nat) (ofs temp : Rat) (s : State), s.m.alive = true → k < 8 → (s.m.at t).zeroDue k = true →
    DoesM (.autoZero t k ofs temp) t s fun m m' =>
      m'.n E.I_ZERO k = f32OfRat (clampR (-5) 5 ofs) ∧
      (if mkRat 1 2 < absR (ofs - m.factoryOffset (2 * k + 1) temp) then m'.bitOf E.FLT_ACTIVE 5 2 = true else Frame [E.I_ZERO.key k] [] { m with prot := m'.prot } m')) ∧
  (∀ (t w : Nat) (a b c : List (List Rat)) (s : State), s.m.alive = true → w < 2 →
    (s.m.meas.telSkip[w]?).getD false = false → (s.m.at t).telIdx w ≠ (s.m.telOf w).idx →
    DoesM (.telWindowEnd t w a b c) t s fun m m' =>
      OnlyFams ([E.CH_SAT, E.FLT_ACTIVE, E.PHT_I, E.PHT_IRMS, E.TEL_I, E.TEL_I2, E.TEL_P, E.TEL_P2, E.TEL_V, E.TEL_V2]) m
        m' ∧
      let smp := sampleRows a b c
      let x := (m.telLast w smp).telOf w
      (m'.telOf w).idx = m.telIdx w ∧ (m'.telOf w).taken = smp.length ∧
      (w = 0 → m'.n E.CH_SAT 0 = (m.telLast w smp).meas.satWin) ∧
      (∀ (k n : Nat) (a : Rat), k < 8 → n ≠ 0 → x.ch[2 * k]? = some (n, a) →
        m'.n (if w = 0 then E.TEL_V else E.TEL_V2) k = f32OfRat (a / (n : Rat))) ∧
      (∀ (k n : Nat) (a : Rat), k < 8 → n ≠ 0 → x.ch[2 * k + 1]? = some (n, a) →
        m'.n (if w = 0 then E.TEL_I else E.TEL_I2) k = f32OfRat (a / (n : Rat))) ∧
      (∀ (k n : Nat) (a : Rat), k < 8 → n ≠ 0 → x.pw[k]? = some (n, a) →
        m'.n (if w = 0 then E.TEL_P else E.TEL_P2) k = f32OfRat (a / (n : Rat))) ∧
      (∀ (p n : Nat) (a b : Rat), w = 0 → p < 16 → n ≠ 0 → x.ph[p]? = some (n, a, b) →
        m'.n E.PHT_I p = f32OfRat (a / (n : Rat)) ∧ m'.n E.PHT_IRMS p = f32OfRat (sqrtR (b / (n : Rat))))) ∧
  (∀ (t w : Nat) (a b c : List (List Rat)) (s : State), s.m.alive = true → w < 2 → w < s.m.meas.telSkip.length →
    (s.m.meas.telSkip[w]?).getD false = true → (s.m.at t).telIdx w ≠ (s.m.telOf w).idx →
    DoesM (.telWindowEnd t w a b c) t s fun m m' => (m'.meas.telSkip[w]?).getD false = false ∧ SameOd [] m m') ∧
  (∀ (t k : Nat) (r : Req) (s : State), s.m.alive = true → Reads (s.m.at t, s.srv) r E.PK_SNAP k →
    DoesS (.pkSnap t r) t s fun x y =>
      Answered y r 0 ((x.1.peakBytes k).take 1024) ∧ Recorded y x r 0 ∧ y.1.bytes E.PK_LAST k = x.1.peakBytes k ∧
      (y.1.meas.peaks[k]?).getD [] = List.replicate 6 none ∧ (y.1.meas.pkT[k]?).getD 0 = x.1.tb ∧
      SameOd (E.PK_LAST.key k :: serviceKeys) x.1 y.1) ∧
  (∀ (t p : Nat) (r : Req) (s : State), s.m.alive = true → Reads (s.m.at t, s.srv) r E.PHT_SNAP p →
    DoesS (.phtSnap t r) t s fun x y =>
      Answered y r 0 (x.1.phtBytes p) ∧ Recorded y x r 0 ∧ (y.1.meas.phMax[p]?).getD none = none ∧
      (y.1.meas.phMin[p]?).getD none = none ∧ SameOd serviceKeys x.1 y.1) ∧
  (∀ (t : Nat) (r : Req) (s : State), s.m.alive = true → Reads (s.m.at t, s.srv) r E.STEP_SNAP 0 →
    DoesS (.stepSnap t r) t s fun x y =>
      Answered y r 0 x.1.stepBytes ∧ Recorded y x r 0 ∧ y.1.bytes E.STEP_LAST 0 = x.1.stepBytes ∧ y.1.meas.steps = 0 ∧
      y.1.meas.stepT = x.1.tb ∧ y.1.meas.dip = 0 ∧ y.1.meas.over_ = 0 ∧ SameOd (E.STEP_LAST.key 0 :: serviceKeys) x.1 y.1)

/-- CAP_CMD (R320, R321, R324): ARM records, TRIGGER sets the trigger sample, STREAM_A streams a held capture, ABORT empties
the buffer. Capture and streams (R320 to R325, R366): an enabled trigger freezes the pre-trigger part, or is lost; the
record fills and is frozen; stream A ends; a trigger of the ring is taken at its network time; a block of stream B leaves;
gaps are counted and told. The model's own choices: assumption log 63. -/
def Obligations.Captures : Prop :=
  (∀ (t : Nat) (r : Req) (v : Val) (s : State), s.m.alive = true → Takes (s.m.at t, s.srv) r E.CAP_CMD 0 v → leNat r.data = 1 →
    DoesS (.capArm t r) t s fun x y =>
      OnlyFams (serveFams ++ (logFams ++ [E.CAP_FLAGS, E.CAP_NUM, E.CAP_STATE, E.CAP_TRIG_CAUSE, E.CAP_TRIG_LOST,
        E.CAP_TRIG_T, E.EXP_DEFER])) x.1 y.1 ∧
      x.1.n E.CAP_STATE 0 = 0 ∧ y.1.n E.CAP_STATE 0 = 1 ∧ y.1.n E.CAP_FLAGS 0 = 0 ∧ y.1.cap.mask = x.1.n E.CAP_MASK 0 ∧
      y.1.cap.dec = x.1.n E.CAP_DEC 0 ∧ y.1.cap.len = x.1.n E.CAP_LEN 0 ∧ Recorded y x r 1) ∧
  (∀ (t : Nat) (r : Req) (v : Val) (s : State), s.m.alive = true → Takes (s.m.at t, s.srv) r E.CAP_CMD 0 v → leNat r.data = 2 →
    (s.m.n E.CAP_STATE 0 = 1 ∨ s.m.n E.CAP_STATE 0 = 2) →
    DoesS (.capTriggerCmd t r) t s fun x y =>
      OnlyFams (serveFams ++ (logFams ++ [E.CAP_FLAGS, E.CAP_NUM, E.CAP_STATE, E.CAP_TRIG_CAUSE, E.CAP_TRIG_LOST,
        E.CAP_TRIG_T, E.EXP_DEFER])) x.1 y.1 ∧
      y.1.n E.CAP_STATE 0 = 3 ∧ y.1.n E.CAP_TRIG_T 0 = sampleAt x.1.tb ∧ y.1.n E.CAP_TRIG_CAUSE 0 = 1 ∧
      y.1.n E.CAP_NUM 0 = inc32 (x.1.n E.CAP_NUM 0) ∧ Recorded y x r 1) ∧
  (∀ (t : Nat) (r : Req) (v : Val) (s : State), s.m.alive = true → Takes (s.m.at t, s.srv) r E.CAP_CMD 0 v → leNat r.data = 3 →
    DoesS (.capStreamA t r) t s fun x y =>
      x.1.n E.CAP_STATE 0 = 4 ∧ y.1.n E.CAP_STATE 0 = 5 ∧ y.1.deadline .streamA = some (x.1.tb + ms (x.1.n E.CAP_TMO 0)) ∧
      Recorded y x r 1 ∧ SameOd (E.CAP_STATE.key 0 :: serviceKeys) x.1 y.1) ∧
  (∀ (t : Nat) (r : Req) (v : Val) (s : State), s.m.alive = true → Takes (s.m.at t, s.srv) r E.CAP_CMD 0 v → leNat r.data = 4 →
    DoesS (.capAbort t r) t s fun x y =>
      y.1.n E.CAP_STATE 0 = 0 ∧ y.1.cap.len = 0 ∧ Recorded y x r 1 ∧ SameOd (E.CAP_STATE.key 0 :: serviceKeys) x.1 y.1) ∧
  (∀ (t : Nat) (x : TrigIn) (s : State), s.m.alive = true →
    s.m.capConditions (s.m.codes x.before) (s.m.codes x.now) &&& s.m.n E.CAP_TRIG_SRC 0 ≠ 0 → s.m.n E.CAP_STATE 0 ≠ 0 →
    DoesM (.captureTrigger t x) t s fun m m' =>
      let u := sampleAt (min x.tSample m.tb)
      (m.n E.CAP_STATE 0 ≤ 2 → m'.n E.CAP_STATE 0 = 3 ∧ m'.n E.CAP_TRIG_T 0 = u ∧
        m'.n E.CAP_TRIG_CAUSE 0 = m.capConditions (m.codes x.before) (m.codes x.now) &&& m.n E.CAP_TRIG_SRC 0 ∧
        m'.n E.CAP_NUM 0 = inc32 (m.n E.CAP_NUM 0) ∧
        (m.n E.CAP_STATE 0 = 1 → m'.bitOf E.CAP_FLAGS 0 0 = true)) ∧
      (3 ≤ m.n E.CAP_STATE 0 → u ≠ m.n E.CAP_TRIG_T 0 → m'.n E.CAP_TRIG_LOST 0 = inc32 (m.n E.CAP_TRIG_LOST 0) ∧
        Frame [E.CAP_TRIG_LOST.key 0] [] m m')) ∧
  (∀ (t : Nat) (c : Instr) (s : State), s.m.alive = true →
    ((c = .capPreHeld t ∧ s.m.n E.CAP_STATE 0 = 1 ∧ s.m.cap.first + s.m.capPre * s.m.capTick ≤ (s.m.at t).tb) ∨
     (c = .capFrozen t ∧ s.m.n E.CAP_STATE 0 = 3 ∧ s.m.cap.first + s.m.cap.len * s.m.capTick ≤ (s.m.at t).tb)) →
    DoesM c t s fun m m' => m'.n E.CAP_STATE 0 = m.n E.CAP_STATE 0 + 1 ∧ Frame [E.CAP_STATE.key 0] [] m m') ∧
  (∀ (t : Nat) (s : State), s.m.alive = true → s.m.n E.CAP_STATE 0 = 5 → s.m.b E.CAP_AUTO_REARM 0 = false →
  s.m.streamCredited = true →
    DoesM (.streamAEnd t 0) t s fun m m' =>
      m'.n E.CAP_STATE 0 = 4 ∧ m'.n E.CAP_STRM_STATUS 0 = 0 ∧
      Frame [E.CAP_STATE.key 0, E.CAP_STRM_STATUS.key 0] [.streamA] m m' ∧ m'.deadline .streamA = none) ∧
  (∀ (t : Nat) (s : State), s.m.alive = true → s.m.n E.CAP_STATE 0 = 5 → (s.m.at t).due .streamA = true →
    DoesM (.streamAEnd t 0x32) t s fun m m' =>
      m'.n E.CAP_STATE 0 = 4 ∧ m'.n E.CAP_STRM_STATUS 0 = 0x32 ∧ m'.deadline .streamA = none ∧
      Frame [E.CAP_STATE.key 0, E.CAP_STRM_STATUS.key 0] [.streamA] { m with cap := { m.cap with blocks := 0 } } m') ∧
  (∀ (t ntime : Nat) (h : Hdr) (s : State), s.m.alive = true → Passes (s.m.at t) h 0x22 none →
  s.m.bitOf E.CAP_TRIG_SRC 0 9 = true →
    s.m.n E.CAP_STATE 0 = 2 →
    DoesM (.capTrigRx t h ntime) t s fun m m' =>
      OnlyFams (tripFams ++ [E.CAP_FLAGS, E.CAP_NUM, E.CAP_STATE, E.CAP_TRIG_CAUSE, E.CAP_TRIG_LOST, E.CAP_TRIG_T,
        E.CLS_DROP, E.CLS_RX, E.LINK_FCS_ERR, E.LINK_YIELDS, E.NET_AUTH_FAIL, E.NET_BAD_HDR, E.NET_EXP_DROP,
        E.NET_GEN_STALE, E.NET_LGEN_OLD, E.NET_REPLAY]) m m' ∧
      let u := m.tb + ntime - m.ntime
      m'.n E.CAP_STATE 0 = 3 ∧ m'.n E.CAP_TRIG_CAUSE 0 = 0x200 ∧ m'.n E.CAP_NUM 0 = inc32 (m.n E.CAP_NUM 0) ∧
      (max m.cap.first (m.tb - m.cap.len * m.capTick) ≤ u ∧ u ≤ m.tb → m'.n E.CAP_TRIG_T 0 = sampleAt u)) ∧
  (∀ (t : Nat) (s : State), s.m.alive = true → s.m.b E.STRB_EN 0 = true → s.m.canReach 0x60 (s.m.n E.STRB_DEST 0) = true →
    (s.m.b E.Q_HIGH 28 = false ∨ s.m.cap.skipB = true) →
    s.m.queueFull 28 (24 + 2 * channels (s.m.n E.STRB_MASK 0) * blockSamples (s.m.n E.STRB_MASK 0)) = false →
    DoesM (.streamBBlock t) t s fun m m' =>
      m'.cap.strB = inc32 m.cap.strB ∧ m'.n E.CLS_TX 6 = inc32 (m.n E.CLS_TX 6) ∧ SameOd frameKeys m m') ∧
  (∀ (t : Nat) (h : Hdr) (x : GapMsg) (s : State), s.m.alive = true → Passes (s.m.at t) h 0x51 none →
    DoesM (.gapRx t h x) t s fun m m' =>
      m'.n E.CLS_GAPS 6 = inc32 (m.n E.CLS_GAPS 6) ∧
      (x.typ = 0x60 → x.orig = m.n E.NET_ADDR 0 → m'.n E.STRB_GAPS 0 = inc32 (m.n E.STRB_GAPS 0) ∧
        m'.n E.STRB_LOST 0 = (m.n E.STRB_LOST 0 +
          x.lost * blockSamples (m.n E.STRB_MASK 0) * channels (m.n E.STRB_MASK 0)) % 2 ^ 64) ∧
      SameOd (E.CLS_GAPS.key 6 :: E.STRB_GAPS.key 0 :: E.STRB_LOST.key 0 :: frameKeys) m m') ∧
  (∀ (t : Nat) (x : GapMsg) (d : DropS) (s : State), s.m.alive = true →
    s.m.net.drops.find? (fun d => d.of x.orig x.dst x.typ) = some d → s.m.canReach 0x51 d.orig = true →
    (d.dst = s.m.n E.NET_ADDR 0 ∨ d.dst = s.m.n E.NET_ADDR_P 0 ∨ s.m.canReach 0x51 d.dst = true) →
    d.tLast + ms 1 ≤ (s.m.at t).ntime →
    DoesM (.gapRecordTx t x) t s fun m m' =>
      m'.net.drops = m.net.drops.erase d ∧ m'.n E.CLS_GAPS 6 = inc32 (inc32 (m.n E.CLS_GAPS 6)) ∧
      m'.n E.CLS_TX 5 = (if d.dst = m.n E.NET_ADDR 0 ∨ d.dst = m.n E.NET_ADDR_P 0 then inc32 (m.n E.CLS_TX 5)
        else inc32 (inc32 (m.n E.CLS_TX 5))) ∧ SameOd (E.CLS_GAPS.key 6 :: frameKeys) m m')

/-- Cable measurements and field adjustment (R326, R327, R330): a run asked for waits for its mode tick, run 3 starts by
itself, a result is committed or found invalid, and an adjustment is kept and counted. -/
def Obligations.CableAndCalibration : Prop :=
  (∀ (t k : Nat) (r : Req) (c : Instr) (v : Val) (s : State), s.m.alive = true →
    ((k = 1 ∧ c = .cableSys t r) ∨ (k = 2 ∧ c = .cableBat t r) ∨ (k = 3 ∧ c = .cableBrk t r)) →
    Takes (s.m.at t, s.srv) r E.CABLE_CMD 0 v → leNat r.data = k →
    DoesS c t s fun x y => x.1.cable.next = 0 ∧ y.1.cable.next = k ∧ Recorded y x r 1 ∧ SameOd serviceKeys x.1 y.1) ∧
  (∀ (t : Nat) (v : Rat) (s : State), s.m.alive = true → 100 ≤ v → s.m.n E.BRK_R 0 = 0 → s.m.cable.brkDone = false →
    s.m.protOk 6 = true → s.m.cableBusy = false →
    DoesM (.brkAutoMeasure t v) t s fun m m' =>
      m'.cable.run = 3 ∧ m'.cable.brkDone = true ∧ m'.n E.CABLE_STATE 0 = 1 ∧ SameOd [E.CABLE_STATE.key 0] m m') ∧
  (∀ (t : Nat) (x : CableRes) (s : State), s.m.alive = true → s.m.cable.run = 3 → (s.m.at t).cableOver = true →
    DoesM (.cableResult t 3 x) t s fun m m' =>
      m'.cable.run = 0 ∧ m'.n E.BRK_R 0 = f32OfRat (brkMeasured x.v x.i) ∧ m'.n E.CABLE_STATE 0 = 2 ∧
      m'.journal.length = m.journal.length + 1 ∧
      SameOd [E.BRK_R.key 0, E.CABLE_STATE.key 0, E.BRK_HEAT.key 0, E.BRK_HEAT_PCT.key 0, E.BRK_LIMITING.key 0] m m') ∧
  (∀ (t k : Nat) (x : CableRes) (s : State), s.m.alive = true → (k = 1 ∨ k = 2) → s.m.cable.run = k →
  (s.m.at t).cableOver = true →
    DoesM (.cableResult t k x) t s fun m m' =>
      m'.cable.run = 0 ∧
      (if x.stepLeft < 5 ∨ (k = 1 ∧ absR (cableDv x) < mkRat 3 10) then m'.n E.CABLE_STATE 0 = 3 ∧
      SameOd [E.CABLE_STATE.key 0] m m'
       else m'.n E.CABLE_STATE 0 = 2 ∧ m'.n E.CABLE_R (k - 1) = f32OfRat (clampR 0 1000 (m.cableFit x).1) ∧
         m'.n E.CABLE_L (k - 1) = f32OfRat (clampR 0 1000 (m.cableFit x).2) ∧ m'.n E.CABLE_T (k - 1) = m.tb ∧
         m'.n E.SNS_RC (k - 1) = f32OfRat (clampR 0 1000 (m.cableFit x).1))) ∧
  (∀ (t : Nat) (r : Req) (v : Val) (s : State), s.m.alive = true → Takes (s.m.at t, s.srv) r E.CAL_SET 0 v →
    DoesS (.calSet t r) t s fun x y =>
      OnlyFams (serveFams ++ (logFams ++ [E.CAL_FIELD_CNT])) x.1 y.1 ∧
      y.1.cal.head? = some (calFields v.toBytes) ∧ y.1.n E.CAL_FIELD_CNT 0 = (x.1.n E.CAL_FIELD_CNT 0 + 1) % 65536 ∧
      Recorded y x r 0)

/-- Energy sessions (R331, R332): one opens at the next number with its OPEN record, writes INTERIM records, and closes with
its CLOSE record and a commit of the lifetime counters. -/
def Obligations.EnergySessions : Prop :=
  (∀ (t : Nat) (r : Req) (v : Val) (s : State), s.m.alive = true → Takes (s.m.at t, s.srv) r E.ESESS_CMD 0 v →
  leNat r.data = 1 →
    DoesS (.esessOpen t r) t s fun x y =>
      OnlyFams (serveFams ++ [E.ESESS_NUM, E.ESESS_STATE, E.KPR_STATE]) x.1 y.1 ∧
      x.1.n E.ESESS_STATE 0 ≠ 1 ∧ y.1.n E.ESESS_STATE 0 = 1 ∧ y.1.n E.ESESS_NUM 0 = inc32 (x.1.n E.ESESS_NUM 0) ∧
      y.1.deadline .esess = some (x.1.tb + sec (x.1.n E.ESESS_INT 0)) ∧ Recorded y x r 1) ∧
  (∀ (t : Nat) (r : Req) (v : Val) (s : State), s.m.alive = true → Takes (s.m.at t, s.srv) r E.ESESS_CMD 0 v →
  leNat r.data = 2 →
    DoesS (.esessClose t r) t s fun x y =>
      OnlyFams (serveFams ++ [E.ESESS_STATE, E.KPR_STATE]) x.1 y.1 ∧
      x.1.n E.ESESS_STATE 0 = 1 ∧ y.1.n E.ESESS_STATE 0 = 0 ∧ y.1.deadline .esess = none ∧
      y.1.deadline .lifetime = some (x.1.tb + sec 3600) ∧ Recorded y x r 1) ∧
  (∀ (t : Nat) (s : State), s.m.alive = true → s.m.n E.ESESS_STATE 0 = 1 → (s.m.at t).due .esess = true →
    (s.m.ePos % recordsPerEnergySector ≠ 0 ∨ (elogSectors (s.m.elogQ ++ s.m.elog)).length + (s.m.retired[1]?).getD 0 < energySectors) →
    DoesM (.esessInterim t) t s fun m m' =>
      let tot := List.zipWith (· - ·) m.sessCounters m.esess.base
      m'.esess.interim = tot ∧ m'.ePos = m.ePos + 1 ∧ m'.esess.seq = m.esess.seq + 1 ∧
      (if m.elogHeld then m'.elogQ.getLast? else m'.elog.head?).map (fun e => (e.num, e.seq, e.bytes)) =
        some (m.n E.ESESS_NUM 0, m.esess.seq, m.sessTick.recordBytes 2 m.esess.seq tot (m.n E.RTC 0)) ∧
      m'.deadline .esess = some (m.tb + sec (m.n E.ESESS_INT 0)) ∧ SameOd E.KPR_STATE.keys m m')

/-! ## Faults and the Keeper Watchdog -/

/-- Raising and acknowledging (R304, R476, R477, R479): a raised source is active, sticky and in the summary at its class;
SUP0's scan tells it; an acknowledgement before the grace ends stops it; an event source holds its bit for 1 ms. The model's
own choices: assumption log 58. -/
def Obligations.FaultRaising : Prop :=
  (∀ (t b k cls : Nat) (value : Rat) (s : State), s.m.alive = true → b < 16 → s.m.classNow b k = some cls →
    s.m.bitOf E.FLT_ACTIVE b k = false →
    DoesM (.faultRaise t b k true value) t s fun m m' =>
      OnlyFams (tripFams ++ [E.CAL_STATE]) m m' ∧
      m'.bitOf E.FLT_ACTIVE b k = true ∧ m'.bitOf E.FLT_STICKY b k = true ∧ m'.bitOf E.FLT_SUMMARY 0 b = true ∧
      m'.n E.FLT_CLASS b = (if cls = 3 ∨ m.n E.FLT_CLASS b < cls then cls else m.n E.FLT_CLASS b) ∧ (m'.fltOf b).since = m.tb ∧
      (srcEvent b k = true → m'.deadline (.eventHold b k) = some (m.tb + ms 1)) ∧
      (cls = 2 → bit (m'.fltOf b).unacked k = true ∧
        (m.armed (.grace b) = false → (m.fltOf b).resetting = false → (m.fltOf b).fActive = 0 →
          m'.deadline (.grace b) = some (m.tb + ms (m.n E.FLT_GRACE b)))) ∧
      (cls = 3 → m'.bitOf E.SAFE_FORCE_SRC 0 2 = true ∧ m'.gated 0 = true ∧ m'.gated 1 = true)) ∧
  (∀ (t : Nat) (s : State), s.m.alive = true →
    DoesM (.faultScan t) t s fun m m' =>
      (∀ b, b < 16 → (m'.fltOf b).told = m.n E.FLT_ACTIVE b) ∧ SameOd E.KPR_SEEN.keys m m') ∧
  (∀ (t b bits : Nat) (s : State), s.m.alive = true → b < 16 → (s.m.at t).due (.grace b) = false →
    DoesM (.faultAck t b bits) t s fun m m' =>
      (m'.fltOf b).unacked = clearBits (m.fltOf b).unacked (bits &&& m.n E.FLT_ACTIVE b) ∧
      m'.deadline (.grace b) = (if (m'.fltOf b).unacked = 0 then none else m.deadline (.grace b)) ∧ SameOd [] m m') ∧
  (∀ (t b k : Nat) (s : State), s.m.alive = true → (s.m.at t).due (.eventHold b k) = true →
    DoesM (.faultEventHoldExpiry t b k) t s fun m m' =>
      m'.deadline (.eventHold b k) = none ∧ m'.bitOf E.FLT_ACTIVE b k = (if b < 16 then false else m.bitOf E.FLT_ACTIVE b k) ∧
      SameOd [E.FLT_ACTIVE.key b] m m')

/-- Escalation and recovery (R480, R481, R484, R485): a grace that ends escalates by FLT_ACTION, a block reset ends in its
time, and a quiet block recovers or, at FLT_RLIM recoveries, latches. The model's own choices: assumption log 89. -/
def Obligations.FaultEscalation : Prop :=
  (∀ (t b : Nat) (s : State), s.m.alive = true → b < 16 → (s.m.at t).due (.grace b) = true → (s.m.fltOf b).unacked ≠ 0 →
    DoesS (.faultEscalate t b) t s fun x y =>
      (b ≠ 8 → OnlyFams (tripFams ++ [E.CAN_STATE, E.CAP_STATE, E.CAP_STRM_STATUS, E.CH_INVALID, E.FLT_ESC_CNT,
        E.IMD_STATE, E.JOURNAL_ROLLBACK, E.KPR_SEEN, E.NET_FLAGS, E.STAGE_DISCARDS, E.USB_DATA_ROLE, E.USB_EPR, E.USB_I,
        E.USB_PWR_ROLE, E.USB_STATE, E.USB_V]) x.1 y.1) ∧
      y.1.n E.FLT_ESC_CNT b = inc32 (x.1.n E.FLT_ESC_CNT b) ∧ (y.1.fltOf b).unacked = 0 ∧
      (x.1.n E.FLT_ACTION b = 0 → b ≠ 0 → b ≠ 8 → (y.1.fltOf b).resetting = true ∧
        y.1.deadline (.blockReset b) = some (x.1.tb + resetTime b)) ∧
      (x.1.n E.FLT_ACTION b = 0 → b = 0 → y.1.deadline .reset = some (x.1.tb + us 200)) ∧
      (x.1.n E.FLT_ACTION b = 1 → (y.1.fltOf b).trip = true ∧ (∀ g, g < 2 → tripServes b g = true → y.1.gated g = true)) ∧
      (2 ≤ x.1.n E.FLT_ACTION b → y.1.bitOf E.SAFE_FORCE_SRC 0 2 = true ∧ y.1.n E.FLT_CLASS b = 3)) ∧
  (∀ (t b : Nat) (s : State), s.m.alive = true → b < 16 → (s.m.fltOf b).resetting = true →
  (s.m.at t).due (.blockReset b) = true →
    DoesM (.blockResetDone t b) t s fun m m' =>
      OnlyFams (tripFams ++ [E.IMD_STATE, E.PLL_LOCK]) m m' ∧
      (m'.fltOf b).resetting = false ∧ (m'.fltOf b).since = m.tb ∧ m'.deadline (.blockReset b) = none ∧
      (b = 14 → m'.b E.PLL_LOCK 0 = true ∧ m'.deadline .pllRelock = none)) ∧
  (∀ (t b : Nat) (s : State), s.m.alive = true → b < 16 → (s.m.at t).mayRecover b = true →
    DoesM (.faultRecover t b) t s fun m m' =>
      OnlyFams (tripFams ++ [E.FLT_LATCHED, E.FLT_RECOV]) m m' ∧
      let n := ((m.fltOf b).recov.filter (fun u => decide (m.tb < u + sec (m.n E.FLT_RWIN b)))).length + 1
      (n < m.n E.FLT_RLIM b → m'.n E.FLT_CLASS b = 0 ∧ m'.bitOf E.FLT_SUMMARY 0 b = false ∧
        m'.n E.FLT_RECOV b = inc32 (m.n E.FLT_RECOV b) ∧ (m'.fltOf b).trip = false ∧ (m'.fltOf b).recov.length = n) ∧
      (m.n E.FLT_RLIM b ≤ n → m'.b E.FLT_LATCHED b = true ∧ m'.n E.FLT_CLASS b = m.n E.FLT_CLASS b))

/-- Clearing, injecting and the FAULT contact (R422, R485, R487 to R489): what is not active leaves FLT_STICKY, a latch goes
with its count, an injected source is expected for 1 ms, and FAULT conducts again. -/
def Obligations.FaultClearing : Prop :=
  (∀ (t b : Nat) (r : Req) (v : Val) (s : State), s.m.alive = true → Takes (s.m.at t, s.srv) r E.FLT_STICKY b v →
    DoesS (.fltStickyClear t r) t s fun x y =>
      OnlyFams (serveFams ++ (logFams ++ [E.FLT_STICKY, E.ILKO_STATE, E.SAFE_FORCE_SRC])) x.1 y.1 ∧
      Recorded y x r 0 ∧
      y.1.n E.FLT_STICKY b = clearBits (x.1.n E.FLT_STICKY b) (clearBits (v.toNat &&& x.1.n E.FLT_STICKY b) (x.1.n E.FLT_ACTIVE b))) ∧
  (∀ (t b : Nat) (r : Req) (v : Val) (s : State), s.m.alive = true → Takes (s.m.at t, s.srv) r E.FLT_LATCHED b v →
    DoesS (.fltLatchedClear t r) t s fun x y =>
      OnlyFams (tripFams ++ [E.FLT_LATCHED, E.FLT_RECOV, E.KPR_SEEN, E.REC_EARLY]) x.1 y.1 ∧ Recorded y x r 0 ∧
      y.1.b E.FLT_LATCHED b = false) ∧
  (∀ (t b : Nat) (r : Req) (v : Val) (s : State), s.m.alive = true → Takes (s.m.at t, s.srv) r E.FLT_INJECT b v →
    DoesS (.fltInject t r) t s fun x y =>
      Recorded y x r 0 ∧ (y.1.fltOf b).injected = setBits (x.1.fltOf b).injected v.toNat ∧
      (b ≠ 3 → ∀ k, k < 16 → bit v.toNat k = true → y.1.deadline (.injMiss b k) = some (x.1.tb + ms 1)) ∧
      SameOd serviceKeys x.1 y.1) ∧
  (∀ (t b k : Nat) (s : State), s.m.alive = true → b < 16 → bit (s.m.fltOf b).injected k = true →
    (b = 3 ∨ (s.m.at t).due (.injMiss b k) = true) →
    DoesM (.injMiss t b k) t s fun m m' =>
      OnlyFams (tripFams) m m' ∧
      bit (m'.fltOf b).injected k = false ∧ m'.bitOf E.FLT_ACTIVE b 15 = true) ∧
  (∀ (t : Nat) (s : State), s.m.alive = true → s.m.faultLine = false → s.m.lockstep = false → s.m.b E.FAULT_OUT 0 = false →
    ((s.m.at t).due .faultContact = true ∨ s.m.armed .faultContact = false) →
    DoesM (.faultContactRestore t) t s fun m m' =>
      m'.b E.FAULT_OUT 0 = true ∧ m'.deadline .faultContact = none ∧ bit m'.alert 1 = true ∧ SameOd [E.FAULT_OUT.key 0] m m')

/-- The keeper (R490 to R495): the key before its window expires it, in its window with every task seen it opens the next
one, and any other is rejected; tasks check in; at its close it expires, with its evidence and the outputs off. Flash erases
(R496, R500): an erase that ends lets the keeper go on with its window moved, and one that SAFE ends retires its sector and
raises its source. -/
def Obligations.KeeperAndErases : Prop :=
  (∀ (t : Nat) (r : Req) (v : Val) (s : State), s.m.alive = true → Takes (s.m.at t, s.srv) r E.KPR_KEY 0 v →
    v.toNat = 0xB7E1 → s.m.kpr.running = true → s.m.kpr.suspendedAt = none → s.m.n E.KPR_OPEN_T 0 ≤ (s.m.at t).tb →
    s.m.n E.KPR_SEEN 0 &&& s.m.n E.KPR_TASKS 0 = s.m.n E.KPR_TASKS 0 →
    DoesS (.kprKey t r) t s fun x y =>
      OnlyFams (raiseFams ++ [E.KPR_CAUSE, E.KPR_CLOSE_T, E.KPR_LAST_SVC, E.KPR_MISSING, E.KPR_OPEN_T, E.KPR_PC0,
        E.KPR_PC1, E.KPR_REJ_CNT, E.KPR_SEEN, E.REC_EARLY]) x.1 y.1 ∧
      Recorded y x r 0 ∧ y.1.n E.KPR_OPEN_T 0 = x.1.tb + x.1.n E.KPR_OPEN 0 ∧
      y.1.n E.KPR_CLOSE_T 0 = x.1.tb + x.1.n E.KPR_CLOSE 0 ∧
      y.1.n E.KPR_SEEN 0 = (if x.1.bitOf E.KPR_TASKS 0 1 = true then 2 else 0) ∧
      y.1.n E.KPR_REJ_CNT 0 = x.1.n E.KPR_REJ_CNT 0) ∧
  (∀ (t : Nat) (r : Req) (v : Val) (s : State), s.m.alive = true → Takes (s.m.at t, s.srv) r E.KPR_KEY 0 v →
    (v.toNat ≠ 0xB7E1 ∨ (s.m.kpr.running = true ∧ s.m.kpr.suspendedAt.isSome = true)) →
    DoesS (.kprKey t r) t s fun x y =>
      Recorded y x r 0x21 ∧ y.1.n E.KPR_REJ_CNT 0 = inc32 (x.1.n E.KPR_REJ_CNT 0) ∧
      SameOd (E.KPR_REJ_CNT.key 0 :: serviceKeys) x.1 y.1) ∧
  (∀ (t : Nat) (r : Req) (v : Val) (s : State), s.m.alive = true → Takes (s.m.at t, s.srv) r E.KPR_KEY 0 v →
    v.toNat = 0xB7E1 → s.m.kpr.running = true → s.m.kpr.suspendedAt = none → (s.m.at t).tb < s.m.n E.KPR_OPEN_T 0 →
    DoesS (.kprKey t r) t s fun x y =>
      OnlyFams (raiseFams ++ [E.KPR_CAUSE, E.KPR_CLOSE_T, E.KPR_LAST_SVC, E.KPR_MISSING, E.KPR_OPEN_T, E.KPR_PC0,
        E.KPR_PC1, E.KPR_REJ_CNT, E.KPR_SEEN, E.REC_EARLY]) x.1 y.1 ∧
      Recorded y x r 0x21 ∧ y.1.n E.KPR_CAUSE 0 = 2 ∧ y.1.kpr.running = false ∧ y.1.gated 0 = true ∧ y.1.gated 1 = true ∧
      y.1.deadline .wdrst = some (x.1.tb + us 200)) ∧
  (∀ (t : Nat) (r : Req) (v : Val) (s : State), s.m.alive = true → Takes (s.m.at t, s.srv) r E.KPR_CHECKIN 0 v →
    s.m.kpr.running = true →
    DoesS (.kprCheckin t r) t s fun x y =>
      OnlyFams (serveFams ++ [E.KPR_DOUBLE]) x.1 y.1 ∧
      let b := clearBits (v.toNat &&& x.1.n E.KPR_TASKS 0) 0xF
      Recorded y x r 0 ∧ y.1.n E.KPR_SEEN 0 = setBits (setBits (x.1.n E.KPR_SEEN 0) b) (if x.1.bitOf E.KPR_TASKS 0 1 = true then 2 else 0) ∧
      y.1.n E.KPR_DOUBLE 0 = setBits (x.1.n E.KPR_DOUBLE 0) (b &&& x.1.n E.KPR_SEEN 0)) ∧
  (∀ (t : Nat) (s : State), s.m.alive = true → s.m.kpr.running = true → s.m.kpr.suspendedAt = none →
    s.m.n E.KPR_CLOSE_T 0 ≤ (s.m.at t).tb →
    DoesM (.keeperExpiry t) t s fun m m' =>
      OnlyFams (stageFams ++ [E.CONT_I, E.CONT_STATE, E.ILKO_STATE, E.KPR_CAUSE, E.KPR_LAST_SVC, E.KPR_MISSING, E.KPR_PC0,
        E.KPR_PC1]) m m' ∧
      m'.n E.KPR_CAUSE 0 = 1 ∧ m'.n E.KPR_MISSING 0 = clearBits (m.n E.KPR_TASKS 0) (m.n E.KPR_SEEN 0) ∧
      m'.n E.KPR_LAST_SVC 0 = m.kpr.svc ∧ m'.gated 0 = true ∧ m'.gated 1 = true ∧ (∀ k, k < 6 → m'.closed k = false) ∧
      m'.safe.contOn = false ∧ m'.b E.ILKO_STATE 0 = false ∧ m'.kpr.running = false ∧
      m'.deadline .wdrst = some (m.tb + us 200)) ∧
  (∀ (t t0 u : Nat) (s : State), s.m.alive = true → s.m.eraseOp = some (3, t0) → s.m.q26 = [] → s.m.kpr.suspendedAt = some u →
    DoesM (.eraseDone t) t s fun m m' =>
      m'.eraseOp = none ∧ m'.deadline .erase = none ∧ m'.kpr.suspendedAt = none ∧ m'.n E.KPR_STATE 0 = 1 ∧
      m'.n E.KPR_OPEN_T 0 = m.n E.KPR_OPEN_T 0 + (m.tb - u) ∧ m'.n E.KPR_CLOSE_T 0 = m.n E.KPR_CLOSE_T 0 + (m.tb - u) ∧
      SameOd [E.KPR_STATE.key 0, E.KPR_OPEN_T.key 0, E.KPR_CLOSE_T.key 0, E.Q_FILL.key 26, E.Q_MAX.key 26, E.Q_HIGH.key 26,
        E.Q_HWM_CNT.key 26] m m') ∧
  (∀ (t t0 : Nat) (s : State), s.m.alive = true → s.m.eraseOp = some (3, t0) → s.m.q26 = [] → s.m.kpr.suspendedAt = none →
    DoesM (.eraseDone t) t s fun m m' => m'.eraseOp = none ∧ m'.deadline .erase = none ∧
      SameOd [E.Q_FILL.key 26, E.Q_MAX.key 26, E.Q_HIGH.key 26, E.Q_HWM_CNT.key 26] m m') ∧
  (∀ (t w t0 : Nat) (s : State), s.m.alive = true → s.m.eraseOp = some (w, t0) → 1 ≤ w → w ≤ 3 → (s.m.at t).due .erase = true →
    DoesM (.eraseTimeout t) t s fun m m' =>
      OnlyFams (tripFams ++ [E.KPR_CLOSE_T, E.KPR_OPEN_T, E.LOG_OVERWRITE]) m m' ∧
      m'.bitOf E.FLT_ACTIVE 8 2 = true ∧ (w = 3 → m'.fw.altState = 3 ∧ m'.retired = m.retired) ∧
      (w ≤ 2 → (m'.retired[w - 1]?).getD 0 = (m.retired[w - 1]?).getD 0 + 1))

/-! ## USB-C service port -/

/-- Attach and contracts (R430 to R435, R438, R443): an attach begins the session in its role, a detach ends it; a source's
capabilities and a sink's request give their contracts; EPR is kept alive or ends; VBUS is discharged before a source
offers. The model's own choices: assumption log 57. -/
def Obligations.UsbContracts : Prop :=
  (∀ (t : Nat) (source : Bool) (s : State), s.m.alive = true → s.m.usb.attached = false → (s.m.fltOf 9).resetting = false →
    DoesS (.usbAttach t source) t s fun x y =>
      let src := source && x.1.mayBeSource
      y.1.usb.attached = true ∧ y.1.n E.USB_STATE 0 = 1 ∧ y.1.n E.USB_PWR_ROLE 0 = b2n src ∧ y.1.n E.USB_DATA_ROLE 0 = b2n src ∧
      y.1.usb.contract = false ∧
      (y.2.session usbRequester).map (·.level) = some (if (x.1.credOf 3).isNone = true then 3 else 0) ∧
      SameOd [E.USB_STATE.key 0, E.USB_PWR_ROLE.key 0, E.USB_DATA_ROLE.key 0] x.1 y.1) ∧
  (∀ (t : Nat) (s : State), s.m.alive = true → s.m.usb.attached = true →
    DoesS (.usbDetach t) t s fun x y =>
      OnlyFams (logFams ++ [E.STAGE_DISCARDS, E.USB_DATA_ROLE, E.USB_EPR, E.USB_I, E.USB_PWR_ROLE, E.USB_STATE, E.USB_V])
        x.1 y.1 ∧
      y.1.usb.attached = false ∧ y.1.n E.USB_STATE 0 = 0 ∧ y.1.n E.USB_V 0 = 0 ∧ y.1.n E.USB_I 0 = 0 ∧
      y.1.b E.USB_EPR 0 = false ∧
      y.1.n E.USB_PWR_ROLE 0 = 0 ∧ y.1.n E.USB_DATA_ROLE 0 = 0 ∧ (y.2.session usbRequester).isSome = false ∧
      y.2.owner ≠ some usbRequester) ∧
  (∀ (t : Nat) (c : SrcCaps) (v : Nat) (s : State), s.m.alive = true → s.m.usb.attached = true → s.m.n E.USB_PWR_ROLE 0 = 0 →
    s.m.n E.USB_STATE 0 ≠ 3 → eprChoice c = some v →
    DoesM (.sourceCapabilities t c) t s fun m m' =>
      OnlyFams ([E.USB_EPR, E.USB_I, E.USB_STATE, E.USB_V]) m m' ∧
      m'.n E.USB_STATE 0 = 2 ∧ m'.usb.contract = true ∧ m'.n E.USB_V 0 = f32OfRat v ∧ m'.b E.USB_EPR 0 = true ∧
      m'.n E.USB_I 0 = f32OfRat (minR 5 (mkRat 90 v)) ∧ m'.usb.vbusLive = true) ∧
  (∀ (t : Nat) (c : SrcCaps) (s : State), s.m.alive = true → s.m.usb.attached = true → s.m.n E.USB_PWR_ROLE 0 = 0 →
    s.m.n E.USB_STATE 0 ≠ 3 → eprChoice c = none →
    DoesM (.sourceCapabilities t c) t s fun m m' =>
      OnlyFams ([E.USB_EPR, E.USB_I, E.USB_STATE, E.USB_V]) m m' ∧
      m'.n E.USB_STATE 0 = 2 ∧ m'.usb.contract = true ∧ m'.n E.USB_V 0 = f32OfRat 5 ∧ m'.b E.USB_EPR 0 = false ∧
      m'.n E.USB_I 0 = f32OfRat (mkRat 1 2) ∧ m'.usb.vbusLive = false) ∧
  (∀ (t : Nat) (answered : Bool) (c : Instr) (s : State), s.m.alive = true → s.m.usb.attached = true →
  s.m.b E.USB_EPR 0 = true →
    s.m.n E.USB_STATE 0 ≠ 3 → (c = .eprKeepalive t answered ∨ (c = .eprExit t ∧ answered = false)) →
    DoesM c t s fun m m' =>
      (answered = false → m'.b E.USB_EPR 0 = false ∧ m'.n E.USB_V 0 = f32OfRat 5 ∧ m'.n E.USB_I 0 = f32OfRat (mkRat 1 2) ∧
        m'.usb.vbusLive = false) ∧
      (answered = true → m'.out = [.pd "EPR_KeepAlive" []] ∧ Frame [] [] m m')) ∧
  (∀ (t volts : Nat) (s : State), s.m.alive = true → s.m.usb.attached = true → s.m.n E.USB_PWR_ROLE 0 = 1 →
    s.m.usb.srcOn = true → s.m.n E.USB_STATE 0 ≠ 3 →
    DoesM (.pdRequest t volts) t s fun m m' =>
      if m.mayBeSource = true ∧ m.pdoOffered.contains volts = true then
        m'.out.take 2 = [.pd "Accept" [], .pd "PS_RDY" []] ∧ m'.n E.USB_V 0 = f32OfRat volts ∧ m'.n E.USB_I 0 = f32OfRat 3 ∧
        m'.n E.USB_STATE 0 = 2 ∧ m'.b E.USB_EPR 0 = false
      else m'.out = [.pd "Reject" []] ∧ Frame [] [] m m') ∧
  (∀ (t : Nat) (v : Rat) (s : State), s.m.alive = true → s.m.usb.attached = true → s.m.n E.USB_PWR_ROLE 0 = 1 →
    s.m.usb.discharging = true →
    DoesM (.vbusDischargeDone t v) t s fun m m' =>
      (v ≤ mkRat 8 10 → m'.usb.discharging = false ∧ m'.usb.srcOn = m.mayBeSource ∧
        m'.out = (if m.mayBeSource then [.pd "Source_Capabilities" m.pdoOffered] else []) ∧ SameOd [] m m') ∧
      (mkRat 8 10 < v → m'.usb.discharging = true ∧ m'.usb.srcOn = m.usb.srcOn))

/-- Swaps, resets and messages that are not supported (R430, R435 to R437). The model's own choices: assumption log 57.
Discovery and Deep Service (R439, R441, R442, R447): identity, SVIDs and modes are answered, the partner's identity is kept;
Enter Mode erases the secrets before SBU is switched, where its conditions hold; Exit Mode opens SBU. -/
def Obligations.UsbSwapsAndDiscovery : Prop :=
  (∀ (t : Nat) (s : State), s.m.alive = true → s.m.usb.attached = true →
    DoesM (.prSwap t) t s fun m m' =>
      if m.n E.USB_PWR_ROLE 0 = 1 ∨ m.mayBeSource = true then
        m'.n E.USB_PWR_ROLE 0 = (if m.n E.USB_PWR_ROLE 0 = 1 then 0 else 1) ∧ m'.out.head? = some (.pd "Accept" []) ∧
        m'.n E.USB_V 0 = 0 ∧ m'.usb.contract = false ∧ m'.n E.USB_DATA_ROLE 0 = m.n E.USB_DATA_ROLE 0
      else m'.out = [.pd "Reject" []] ∧ Frame [] [] m m') ∧
  (∀ (t : Nat) (s : State), s.m.alive = true → s.m.usb.attached = true →
    DoesM (.drSwap t) t s fun m m' =>
      if m.n E.USB_STATE 0 = 3 then m'.out = [.pd "Reject" []] ∧ Frame [] [] m m'
      else
        m'.n E.USB_DATA_ROLE 0 = 1 - m.n E.USB_DATA_ROLE 0 ∧ m'.out.head? = some (.pd "Accept" []) ∧
        SameOd [E.USB_DATA_ROLE.key 0] m m' ∧ SameTimers [] m m' ∧
        (m.usb.contract = false → m'.out = [.pd "Accept" []] ∧ Frame [E.USB_DATA_ROLE.key 0] [] m m')) ∧
  (∀ (t : Nat) (b : Bool) (s : State), s.m.alive = true → s.m.usb.attached = true →
    DoesM (.frSwap t b) t s fun m m' => m'.out = (if b then [.pd "Not_Supported" []] else []) ∧ Frame [] [] m m') ∧
  (∀ (t code : Nat) (s : State), s.m.alive = true → s.m.usb.attached = true →
    DoesM (.notSupported t code) t s fun m m' => m'.out = [.pd "Not_Supported" [code]] ∧ Frame [] [] m m') ∧
  (∀ (t : Nat) (sent : Bool) (s : State), s.m.alive = true → s.m.usb.attached = true →
    DoesM (.hardReset t sent) t s fun m m' =>
      OnlyFams ([E.USB_DATA_ROLE, E.USB_EPR, E.USB_HRST_CNT, E.USB_I, E.USB_PWR_ROLE, E.USB_STATE, E.USB_V]) m m' ∧
      m'.n E.USB_HRST_CNT 0 = inc32 (m.n E.USB_HRST_CNT 0) ∧ m'.n E.USB_STATE 0 = 1 ∧ m'.usb.contract = false ∧
      m'.b E.USB_EPR 0 = false ∧ m'.usb.sbu = false ∧ m'.n E.USB_PWR_ROLE 0 = b2n m.usb.attachSrc ∧
      m'.n E.USB_DATA_ROLE 0 = b2n m.usb.attachSrc ∧ m'.out = (if sent then [.pd "Hard_Reset" []] else [])) ∧
  (∀ (t svid : Nat) (c : Instr) (o : Out) (s : State), s.m.alive = true → s.m.usb.attached = true →
    ((c = .discoverIdentity t ∧ o = .pd "Discover_Identity_ACK" [1, 1, 0x3A71, 0, 0x60010042]) ∨
     (c = .discoverSvids t ∧ o = .pd "Discover_SVIDs_ACK" [0x3A71, 0]) ∨
     (c = .discoverModes t svid ∧ svid = 0x3A71 ∧ o = .pd "Discover_Modes_ACK" [1]) ∨
     (c = .discoverModes t svid ∧ svid ≠ 0x3A71 ∧ o = .pd "Discover_Modes_NAK" [])) →
    DoesM c t s fun m m' => m'.out = [o] ∧ Frame [] [] m m') ∧
  (∀ (t : Nat) (vdos : List Nat) (s : State), s.m.alive = true → s.m.usb.attached = true → s.m.n E.USB_DATA_ROLE 0 = 1 →
    DoesM (.partnerIdentityRx t vdos) t s fun m m' =>
      m'.bytes E.USB_PARTNER 0 = (vdos.take 7).flatMap (leBytes 4) ∧ Frame [E.USB_PARTNER.key 0] [] m m') ∧
  (∀ (t svid pos : Nat) (s : State), s.m.alive = true → s.m.usb.attached = true →
    DoesS (.enterMode t svid pos) t s fun x y =>
      if svid = 0x3A71 ∧ pos = 1 ∧ x.1.usb.contract = true ∧ x.1.n E.USB_DATA_ROLE 0 = 0 ∧ x.1.n E.ENV_EFF 0 = 0 ∧
        ((x.2.session usbRequester).map (·.level)).getD 0 = 3 ∧ x.1.n E.USB_STATE 0 ≠ 3 then
        y.1.n E.USB_STATE 0 = 3 ∧ y.1.usb.sbu = true ∧ y.1.n E.DEEP_CNT 0 = inc32 (x.1.n E.DEEP_CNT 0) ∧
        y.1.keys.erased = true ∧ y.1.keys.cause = 1 ∧ y.1.keys.own = none ∧ y.1.keys.sign = none ∧
        y.1.keys.cred = [none, none, none] ∧ y.1.out = [.pd "Enter_Mode_ACK" []] ∧ y.2 = x.2
      else y.1.out = [.pd "Enter_Mode_NAK" []] ∧ Frame [] [] x.1 y.1 ∧ y.2 = x.2) ∧
  (∀ (t : Nat) (s : State), s.m.alive = true → s.m.usb.attached = true → s.m.n E.USB_STATE 0 = 3 →
    DoesM (.exitMode t) t s fun m m' =>
      m'.n E.USB_STATE 0 = (if m.usb.contract then 2 else 1) ∧ m'.usb.sbu = false ∧ m'.out = [.pd "Exit_Mode_ACK" []] ∧
      SameOd [E.USB_STATE.key 0] m m')

/-! ## Sessions, secrets and firmware -/

/-- Sessions (R443, R445): a credential raises its requester's session to its highest level and clears the failures of its
transport class, a failed login drops it to L0, counts, and from the fifth locks the class out; logout and 900 s without a
request drop it to L0. Secrets (R444, R446, R447): a credential or key is in force at once and answered when it is durable,
an erase clears all of them before it is answered, and the scrub ends. -/
def Obligations.SessionsAndSecrets : Prop :=
  (∀ (t l : Nat) (r : Req) (v : Val) (s : State), s.m.alive = true → Takes (s.m.at t, s.srv) r E.CRED_LOGIN 0 v →
    s.m.armed (.lockout (loginClass r.transport)) = false → s.m.loginLevel v.toBytes = some l →
    DoesS (.credLogin t r) t s fun x y =>
      Recorded y x r 0 ∧ (y.2.session r.requester).map (·.level) = some l ∧
      (y.2.fails[loginClass r.transport]?).getD 0 = 0 ∧ SameOd (E.STAGE_DISCARDS.key 0 :: (logKeys ++ serviceKeys)) x.1 y.1) ∧
  (∀ (t : Nat) (r : Req) (v : Val) (s : State), s.m.alive = true → Takes (s.m.at t, s.srv) r E.CRED_LOGIN 0 v →
    s.m.armed (.lockout (loginClass r.transport)) = false → s.m.loginLevel v.toBytes = none →
    DoesS (.credLogin t r) t s fun x y =>
      OnlyFams (serveFams ++ (logFams ++ [E.STAGE_DISCARDS])) x.1 y.1 ∧
      let n := (x.2.fails[loginClass r.transport]?).getD 0 + 1
      Recorded y x r 0x50 ∧ (y.2.session r.requester).map (·.level) = some 0 ∧ (y.2.fails[loginClass r.transport]?).getD 0 = n ∧
      (5 ≤ n → y.1.deadline (.lockout (loginClass r.transport)) = some (x.1.tb + sec (lockoutTime n)))) ∧
  (∀ (t : Nat) (r : Req) (v : Val) (s : State), s.m.alive = true → Takes (s.m.at t, s.srv) r E.CRED_LOGOUT 0 v →
    DoesS (.credLogout t r) t s fun x y =>
      OnlyFams (serveFams ++ (logFams ++ [E.STAGE_DISCARDS])) x.1 y.1 ∧ Recorded y x r 0 ∧
      (y.2.session r.requester).map (·.level) = some 0) ∧
  (∀ (t q : Nat) (s : State), s.m.alive = true → (s.m.at t).due (.session q) = true →
    DoesS (.sessionIdleTimeout t q) t s fun x y =>
      OnlyFams (logFams ++ [E.STAGE_DISCARDS]) x.1 y.1 ∧
      (y.2.session q).map (·.level) = some 0 ∧ y.1.deadline (.session q) = none) ∧
  (∀ (t c : Nat) (s : State), s.m.alive = true → (s.m.at t).due (.lockout c) = true →
    DoesM (.lockoutExpiry t c) t s fun m m' => m'.deadline (.lockout c) = none ∧ Frame [] [.lockout c] m m') ∧
  (∀ (t : Nat) (r : Req) (v : Val) (s : State), s.m.alive = true → Takes (s.m.at t, s.srv) r E.CRED_SET 0 v →
    DoesS (.credSet t r) t s fun x y =>
      y.1.credOf (credByte v) = (if (v.toBytes.drop 1).isEmpty then none else some (v.toBytes.drop 1)) ∧
      y.1.journal.length = x.1.journal.length + 1 ∧ y.1.keys.erased = false ∧ Recorded y x r 0xFF ∧
      SameOd serviceKeys x.1 y.1) ∧
  (∀ (t : Nat) (r : Req) (v : Val) (s : State), s.m.alive = true → Takes (s.m.at t, s.srv) r E.RING_KEY_OWN 0 v →
    DoesS (.ringKeyOwn t r) t s fun x y =>
      y.1.keys.own = (if v.toBytes.isEmpty then none else some v.toBytes) ∧ y.1.keys.par = x.1.keys.par ∧
      y.1.journal.length = x.1.journal.length + 1 ∧ Recorded y x r 0xFF ∧ SameOd serviceKeys x.1 y.1) ∧
  (∀ (t : Nat) (r : Req) (v : Val) (s : State), s.m.alive = true → Takes (s.m.at t, s.srv) r E.RING_KEY_PAR 0 v →
    DoesS (.ringKeyPar t r) t s fun x y =>
      y.1.keys.par = (if v.toBytes.isEmpty then none else some v.toBytes) ∧ y.1.keys.own = x.1.keys.own ∧
      y.1.journal.length = x.1.journal.length + 1 ∧ Recorded y x r 0xFF ∧ SameOd serviceKeys x.1 y.1) ∧
  (∀ (t : Nat) (r : Req) (v : Val) (s : State), s.m.alive = true → Takes (s.m.at t, s.srv) r E.SIGN_KEYGEN 0 v →
    DoesS (.signKeygen t r) t s fun x y =>
      x.1.n E.ESESS_STATE 0 ≠ 1 ∧ y.1.keys.sign.isSome = true ∧ y.1.keys.own = x.1.keys.own ∧
      y.1.journal.length = x.1.journal.length + 1 ∧ Recorded y x r 0xFF ∧ SameOd serviceKeys x.1 y.1) ∧
  (∀ (t : Nat) (r : Req) (v : Val) (s : State), s.m.alive = true → Takes (s.m.at t, s.srv) r E.SECRET_ERASE 0 v →
    DoesS (.secretErase t r) t s fun x y =>
      y.1.keys.own = none ∧ y.1.keys.par = none ∧ y.1.keys.sign = none ∧ y.1.keys.cred = [none, none, none] ∧
      y.1.keys.sealKey = none ∧ y.1.keys.erased = true ∧ y.1.keys.cause = 3 ∧ y.1.n E.ERASE_T 0 = x.1.tb ∧
      y.1.deadline .scrub = some (x.1.tb + sec 5) ∧ Recorded y x r 0 ∧ SameOd (E.ERASE_T.key 0 :: serviceKeys) x.1 y.1) ∧
  (∀ (t : Nat) (s : State), s.m.alive = true →
    DoesM (.scrubDone t) t s fun m m' => m'.keys = { m.keys with scrub := false } ∧ m'.deadline .scrub = none ∧ SameOd [] m m')

/-- Firmware (R451, R452): an image fills the other bank and is verified, a verified one not below the floor is switched to
at the next start, and a confirmed trial commits the image's floor. -/
def Obligations.FirmwareEvents : Prop :=
  (∀ (t : Nat) (r : Req) (v : Val) (s : State), s.m.alive = true → Takes (s.m.at t, s.srv) r E.FW_IMG 0 v →
    DoesS (.fwImg t r) t s fun x y =>
      OnlyFams (serveFams ++ [E.KPR_STATE]) x.1 y.1 ∧
      y.1.fw.altState = 1 ∧ y.1.fw.altLen = v.toBytes.length ∧ y.1.deadline .fwVerify = some (x.1.tb + sec 2) ∧
      y.1.fw.bank = x.1.fw.bank ∧ Recorded y x r 1) ∧
  (∀ (t : Nat) (x : FwImage) (s : State), s.m.alive = true → s.m.fw.altState = 1 → s.m.armed .fwVerify = true →
    DoesM (.fwVerifyDone t x) t s fun m m' =>
      m'.deadline .fwVerify = none ∧
      (x.magic = 0x59545846 ∧ x.length = m.fw.altLen ∧ bit x.hwMask (m.n E.HW_REV 0 - 0x41) = true ∧ m.fw.floor ≤ x.version ∧
        x.sigOk = true ∧ x.keyIndex ≤ 3 ∧ x.hashOk = true →
        m'.fw = { m.fw with altState := 2, altVer := x.version, altFloor := x.floor } ∧ SameOd [] m m') ∧
      (x.magic ≠ 0x59545846 ∨ x.length ≠ m.fw.altLen ∨ x.version < m.fw.floor ∨ x.sigOk = false ∨ x.hashOk = false →
        m'.fw = { m.fw with altState := 3 })) ∧
  (∀ (t : Nat) (r : Req) (v : Val) (s : State), s.m.alive = true → Takes (s.m.at t, s.srv) r E.FW_SWITCH 0 v →
    DoesS (.fwSwitch t r) t s fun x y =>
      x.1.fw.altState = 2 ∧ x.1.fw.floor ≤ x.1.fw.altVer ∧ y.1.fw = { x.1.fw with switchPending := true } ∧ Recorded y x r 1 ∧
      SameOd serviceKeys x.1 y.1) ∧
  (∀ (t : Nat) (s : State), s.m.alive = true → s.m.fw.trial = true → (s.m.at t).due .trial = true → s.m.n E.POWER_ACT 0 = 0 →
    DoesM (.trialConfirm t) t s fun m m' =>
      m'.fw = { m.fw with trial := false, trialBoots := 0, altState := 2, floor := m.fw.runFloor } ∧ m'.deadline .trial = none ∧
      SameOd [] m m' ∧ SameTimers [.trial] m m')

/-! ## Clocks, resets and start-up -/

/-- The root clock (R503): a failure counts, is raised at class F and forces the module, loss of lock leaves network time
under HOLDOVER, and 10 ms after a block 14 reset an unlocked PLL starts an SFRST. The return of a source (R59, R306): the
hold-up cause clears and the store recharges; 300 ms later it is checked. -/
def Obligations.ClocksAndSources : Prop :=
  (∀ (t : Nat) (s : State), s.m.alive = true → s.m.bitOf E.FLT_ACTIVE 14 1 = false →
    DoesM (.tcxoFail t) t s fun m m' =>
      OnlyFams (tripFams ++ [E.CLK_FAIL_CNT]) m m' ∧
      m'.n E.CLK_FAIL_CNT 0 = inc32 (m.n E.CLK_FAIL_CNT 0) ∧ m'.bitOf E.FLT_ACTIVE 14 1 = true ∧
      m'.bitOf E.SAFE_FORCE_SRC 0 2 = true ∧ m'.gated 0 = true ∧ m'.gated 1 = true ∧ m'.n E.PLL_LOCK 0 = m.n E.PLL_LOCK 0) ∧
  (∀ (t : Nat) (s : State), s.m.alive = true → s.m.bitOf E.FLT_ACTIVE 14 0 = false →
    DoesM (.pllUnlock t) t s fun m m' =>
      OnlyFams (tripFams ++ [E.CLK_FAIL_CNT, E.NET_FLAGS, E.PLL_LOCK]) m m' ∧
      m'.n E.CLK_FAIL_CNT 0 = inc32 (m.n E.CLK_FAIL_CNT 0) ∧ m'.bitOf E.FLT_ACTIVE 14 0 = true ∧ m'.b E.PLL_LOCK 0 = false ∧
      m'.bitOf E.SAFE_FORCE_SRC 0 2 = true ∧ m'.gated 0 = true ∧ m'.gated 1 = true ∧
      (m.ntimeOk = true → m'.bitOf E.NET_FLAGS 0 1 = true)) ∧
  (∀ (t : Nat) (s : State), s.m.alive = true → (s.m.at t).due .pllRelock = true → s.m.b E.PLL_LOCK 0 = false →
    DoesM (.pllRelockTimeout t) t s fun m m' =>
      m'.deadline .reset = some m.tb ∧ m'.deadline .pllRelock = none ∧ Frame [] [.reset, .pllRelock] m m') ∧
  (∀ (port : Bool) (s : State), s.m.phase = .holdup →
    ∃ m' : Mod, exec (.sourceReturn port) s = .next { s with m := m' } ∧ m'.phase = .running ∧
      m'.bitOf E.SAFE_FORCE_SRC 0 4 = false ∧ m'.safe.holdup = false ∧ m'.deadline .holdup300 = some (s.m.tb + ms 300) ∧
      SameOd ([E.SAFE_FORCE_SRC.key 0, E.ILKO_STATE.key 0] ++ logKeys) s.m m') ∧
  (∀ (t : Nat) (e : Rat) (s : State), s.m.alive = true → (s.m.at t).due .holdup300 = true →
    DoesM (.holdupRechargeCheck t e) t s fun m m' =>
      m'.n E.HOLDUP_E 0 = f32OfRat e ∧ m'.deadline .holdup300 = none ∧ (e < 18 / 10 → m'.bitOf E.FLT_ACTIVE 13 1 = true) ∧
      (18 / 10 ≤ e → Frame [E.HOLDUP_E.key 0] [.holdup300] m m')) ∧
  (∀ (t : Nat) (e : Rat) (s : State), s.m.alive = true → (s.m.at t).due .holdup300 = false →
    DoesM (.holdupRechargeCheck t e) t s fun m m' => m'.n E.HOLDUP_E 0 = f32OfRat e ∧ Frame [E.HOLDUP_E.key 0] [] m m')

/-- The resets (R515): first power and falling rails wait for a source, the others for their start-up; each puts the outputs
to their safe states, and of causes that coincide the lowest code stands. HIBERNATE and the AO domain (R510, R514): an
enabled wake source starts the module, or is held while no source is live; the end of the AO reserve makes the next start a
POR. -/
def Obligations.ResetsAndWakes : Prop :=
  (∀ s : State, ∃ m' : Mod, exec .por s = .next { s with m := m' } ∧ ResetTo 1 (List.range 8) s.m m') ∧
  (∀ s : State, s.m.counting = true →
    let rails := if s.m.phase = .holdup then max s.m.tb (s.m.safe.holdupAt + s.m.safe.holdupFor) else s.m.tb
    ∃ m' : Mod, exec .bor s = .next { s with m := m' } ∧ ResetTo 2 (List.range 8) { s.m with tb := rails } m') ∧
  (∀ (t : Nat) (s : State), s.m.alive = true → DoesM (.wrstPin t) t s (ResetTo 3 stopPorts)) ∧
  (∀ (t : Nat) (s : State), s.m.alive = true → (s.m.at t).due .wdrst = true → DoesM (.wdrst t) t s (ResetTo 5 stopPorts)) ∧
  (∀ (t : Nat) (s : State), s.m.alive = true → s.m.armed .reset = true → DoesM (.sfrst t) t s (ResetTo 6 stopPorts)) ∧
  (∀ (t : Nat) (r : Req) (v : Val) (s : State), s.m.alive = true → Takes (s.m.at t, s.srv) r E.RST_CMD 0 v →
    DoesS (.rstCmd t r) t s fun x y =>
      Recorded y x r 0 ∧ ResetTo (if r.transport = .zwl then 7 else 4) (List.range 8) x.1 y.1) ∧
  (∀ (w : WakeSrc) (s : State), s.m.phase = .hibernate → s.m.wakeEnabled w = true →
    ∃ m' : Mod, exec (.wakeEvent w true) s = .next { s with m := m' } ∧
      m'.phase = .booting ∧ m'.rst = some 8 ∧ m'.heldWake = false ∧
      (s.m.heldWake = false → m'.n E.WAKE_LAST 0 = wakeCode w) ∧ (wakeCode w = 4 → m'.n E.WAKE_RTC 0 = 0) ∧
      SameOd [E.WAKE_LAST.key 0, E.WAKE_RTC.key 0] s.m m') ∧
  (∀ (w : WakeSrc) (s : State), s.m.phase = .hibernate → s.m.wakeEnabled w = true →
    ∃ m' : Mod, exec (.wakeEvent w false) s = .next { s with m := m' } ∧
      m'.phase = .hibernate ∧ m'.heldWake = true ∧ (s.m.heldWake = false → m'.n E.WAKE_LAST 0 = wakeCode w) ∧
      SameOd [E.WAKE_LAST.key 0, E.WAKE_RTC.key 0] s.m m') ∧
  (∀ (s : State), s.m.counting = false →
    exec .aoReserveExhausted s = .next { s with m := { s.m with out := [], phase := .off, rst := some 1, heldWake := false } }) ∧
  (∀ (port : Bool) (s : State), s.m.phase = .hibernate → s.m.heldWake = true →
    ∃ m' : Mod, exec (.sourceReturn port) s = .next { s with m := m' } ∧ m'.phase = .booting ∧ m'.rst = some 8 ∧
    m'.heldWake = false ∧
      Frame [] [] { s.m with phase := .booting, rst := some 8, heldWake := false, usb := { s.m.usb with powered := port || s.m.usb.powered } } m')

/-- Start-up (R516 to R518): a start whose epoch is written runs the module; one whose epoch cannot be written retries it,
with source 8:1 raised once it succeeds; at the last epoch the boot stops. In both SAFE has read the tamper latch (R448). -/
def Obligations.StartUpRuns : Prop :=
  (∀ (adv : Nat) (x : BootIn) (s : State), s.m.rst.isSome = true → (s.m.phase = .off ∨ s.m.phase = .booting) →
    s.m.durableEpoch < 0xFFFFFFFF →
    ∃ y : Sys, exec (.startUp adv true x) s = .next { s with m := y.1, srv := y.2 } ∧
    StartedFrom (if s.m.rst.getD 1 ≤ 2 ∨ s.m.rst.getD 1 = 8 then 0 else s.m.tb) s.m y) ∧
  (∀ (adv : Nat) (x : BootIn) (s : State), s.m.rst.isSome = true → (s.m.phase = .off ∨ s.m.phase = .booting) →
    s.m.durableEpoch < 0xFFFFFFFF →
    ∃ m' : Mod, exec (.startUp adv false x) s = .next { s with m := m' } ∧
      m'.phase = .epochWait ∧ m'.boot = some (adv, x) ∧ m'.pst = s.m.pst ∧ m'.rst = s.m.rst ∧
      m'.tb = (if s.m.rst.getD 1 ≤ 2 ∨ s.m.rst.getD 1 = 8 then 0 else s.m.tb) ∧ SecretsAtStart s.m m' ∧
      SameOd [E.ERASE_T.key 0] s.m m') ∧
  (∀ (adv : Nat) (ok : Bool) (x : BootIn) (s : State), s.m.rst.isSome = true → (s.m.phase = .off ∨ s.m.phase = .booting) →
    s.m.durableEpoch = 0xFFFFFFFF →
    ∃ m' : Mod, exec (.startUp adv ok x) s = .next { s with m := m' } ∧
      m'.phase = .stopped ∧ m'.pst = s.m.pst ∧ SecretsAtStart s.m m' ∧ SameOd [E.ERASE_T.key 0] s.m m') ∧
  (∀ (adv : Nat) (x : BootIn) (s : State), s.m.phase = .epochWait → s.m.boot = some (adv, x) → s.m.durableEpoch < 0xFFFFFFFF →
    ∃ y : Sys, exec (.epochWriteRetry true) s = .next { s with m := y.1, srv := y.2 } ∧ StartedFrom s.m.tb s.m y ∧
      y.1.bitOf E.FLT_STICKY 8 1 = true) ∧
  (∀ (adv : Nat) (x : BootIn) (s : State), s.m.phase = .epochWait → s.m.boot = some (adv, x) →
    exec (.epochWriteRetry false) s = .next { s with m := { s.m with out := [] } })

/-- Right after a reset (R7, R17, R27, R516): every entry reads its default, the gates are off, the switches and contacts
are open, no source is raised, and the module waits for its first start. The latched inputs that no rule gives are not told
of. The model's own choices: assumption log 13. Right after reset the server's memory lies within its bounds, and the
request buffer has its form. -/
def Obligations.ResetState : Prop :=
  (∀ (f : Fam) (i : Nat), State.reset.m.getV f i = f.dflt i) ∧ State.reset.m.pst = [] ∧ State.reset.m.phase = .off ∧
  State.reset.m.rst = some 1 ∧ State.reset.m.tb = 0 ∧ (∀ g, g < 2 → State.reset.m.gated g = true) ∧
  (∀ k, State.reset.m.closed k = false) ∧ State.reset.m.safe.contOn = false ∧ State.reset.m.timers = [] ∧
  State.reset.m.log = [] ∧ State.reset.srv.recs = [] ∧ State.reset.srv.sessions = [] ∧ State.reset.pending = [] ∧
  (State.reset.srv.Bounded ∧ State.reset.pending = [] ∧ Memory.wf State.reset.m.h2w.buf = true)

/-! ## The object dictionary -/

/-- Requests that are not taken (R387 steps 1 to 7, R388): a full queue, an expired wait, no session, an epoch that is not
the present one and an old SEQ without a record are answered by their status and leave no record, no stage and no value. A
write that a check of R387 refuses in steps 12 to 18 is answered by that step's status and data (R389), and leaves the
entry, the stage and the journal as they were. -/
def Obligations.RefusedRequestsChangeNothing : Prop :=
  (∀ (t : Nat) (r : Req) (s : State), s.m.alive = true → r.op = 2 → (s.m.at t).requestFull r = true →
    DoesS (.odWrite t r) t s fun x y => TurnedAway x y ∧ Answered y r 0x31 []) ∧
  (∀ (t : Nat) (r : Req) (s : State), s.m.alive = true → (s.m.at t).requestFull r = false →
    DoesS (.queueTimeout t r) t s fun x y => TurnedAway x y ∧ Answered y r 0x32 []) ∧
  (∀ (t : Nat) (r : Req) (s : State), s.m.alive = true → r.op = 2 → (s.m.at t).requestFull r = false →
  s.srv.sessionValid r = false →
    DoesS (.odWrite t r) t s fun x y => TurnedAway x y ∧ Answered y r 0x50 []) ∧
  (∀ (t : Nat) (r : Req) (s : State), s.m.alive = true → r.op = 2 → (s.m.at t).requestFull r = false →
  s.srv.sessionValid r = true →
    r.transport ≠ .zwl → (r.epoch = 0 ∨ s.m.n E.EPOCH 0 < r.epoch) →
    DoesS (.odWrite t r) t s fun x y => TurnedAway x y ∧ Answered y r 0x41 (leBytes 4 r.epoch)) ∧
  (∀ (t last : Nat) (r : Req) (s : State), s.m.alive = true → r.op = 2 → (s.m.at t).requestFull r = false →
    s.srv.sessionValid r = true → r.transport ≠ .zwl → r.epoch ≠ 0 → r.epoch = s.m.n E.EPOCH 0 →
    s.srv.seqs.find? (fun q => q.1 == r.requester) = some (r.requester, last) → newer r.seq last = false →
    s.srv.recOf r.requester r.epoch r.seq = none →
    DoesS (.odWrite t r) t s fun x y => TurnedAway x y ∧ Answered y r 0x41 (leBytes 4 r.epoch)) ∧
  (∀ (t i st k : Nat) (data : List Nat) (f : Fam) (r : Req) (s : State), s.m.alive = true → Admitted (s.m.at t, s.srv) r →
  r.op = 2 →
     r.sub ≠ 0 → findEntry r.index r.sub families = some (f, i) → r.ty = tyCode f.ty → tySize f.ty = some k → r.len = k →
     r.data.length = k → r.offset = 0 → r.more = false → (ruleOf f i).ro (arrived r (s.m.at t, s.srv)).1 r = false →
     checkValue (arrived r (s.m.at t, s.srv)) f i (ruleOf f i) r ((arrived r (s.m.at t,
       s.srv)).2.level r) (f.decode r.data) false false =
       some (st, data) →
     DoesS (.odWrite t r) t s fun x y =>
       Recorded y x r st ∧ Answered y r st data ∧ y.1.getV f i = x.1.getV f i ∧ y.2.stage = x.2.stage ∧
       y.1.journal = x.1.journal ∧
       SameOd serviceKeys x.1 y.1)

/-- Reads and repeats (R386, R397, R400): a READ of an entry of fixed length answers its value and changes nothing; a
repeated request with a record is answered from it and has no second effect. -/
def Obligations.ReadsAndRepeats : Prop :=
  (∀ (t i : Nat) (f : Fam) (r : Req) (s : State), s.m.alive = true → Reads (s.m.at t, s.srv) r f i → (ruleOf f i).clear = none →
    f.acc ≠ .wo → (ruleOf f i).unread (looked r (s.m.at t, s.srv)).1 = false → (tySize f.ty).isSome = true →
    DoesS (.odRead t r) t s fun x y =>
      Answered y r 0 (f.encode ((ruleOf f i).get (looked r x) r)) ∧ y.2.recs = x.2.recs ∧ y.2.stage = x.2.stage ∧
      SameOd serviceKeys x.1 y.1 ∧ SameTimers [.session r.requester] x.1 y.1 ∧ y.1.journal = x.1.journal) ∧
  (∀ (t last : Nat) (c : CRec) (r : Req) (s : State), s.m.alive = true → r.op = 2 → (s.m.at t).requestFull r = false →
    s.srv.sessionValid r = true → r.transport ≠ .zwl → r.epoch ≠ 0 → r.epoch = s.m.n E.EPOCH 0 →
    s.srv.seqs.find? (fun q => q.1 == r.requester) = some (r.requester, last) → newer r.seq last = false →
    s.srv.recOf r.requester r.epoch r.seq = some c → c.status ≠ 0xFF →
    DoesS (.odWrite t r) t s fun x y => TurnedAway x y ∧ Answered y r c.status [])

/-- Writes (R379, R391, R395, R411): an RWC entry's value is held in the stage and ACCEPTED; any other entry without a rule
of its own takes its value, and is answered OK at once, or when its journal record is durable. -/
def Obligations.WritesStageOrTakeEffect : Prop :=
  (∀ (t i : Nat) (f : Fam) (r : Req) (v : Val) (s : State), s.m.alive = true → Takes (s.m.at t, s.srv) r f i v → f.acc = .rwc →
    (s.srv.stage.filter (fun e => e.key != f.key i)).length < 512 →
    DoesS (.odWrite t r) t s fun x y =>
      Recorded y x r 1 ∧ (y.2.stage.find? (fun e => e.key == f.key i)).map (fun e => e.val) = some (f.mask v) ∧
      (∀ e ∈ x.2.stage, e.key ≠ f.key i → e ∈ y.2.stage) ∧ y.2.owner = some r.requester ∧
      y.1.deadline .stage = some (x.1.tb + sec (x.1.n E.STAGE_TMO 0)) ∧ SameOd serviceKeys x.1 y.1 ∧
      y.1.journal = x.1.journal) ∧
  (∀ (t i : Nat) (f : Fam) (r : Req) (v : Val) (s : State), s.m.alive = true → Takes (s.m.at t, s.srv) r f i v → f.acc ≠ .rwc →
    f.committed = false → tweaks.find? (fun w => w.1 == f.key 0) = none →
    DoesS (.odWrite t r) t s fun x y =>
      Recorded y x r 0 ∧ y.1.getV f i = f.mask v ∧ y.2.stage = x.2.stage ∧ y.1.journal = x.1.journal) ∧
  (∀ (t i : Nat) (f : Fam) (r : Req) (v : Val) (s : State), s.m.alive = true → Takes (s.m.at t, s.srv) r f i v → f.acc ≠ .rwc →
    f.committed = true → tweaks.find? (fun w => w.1 == f.key 0) = none →
    DoesS (.odWrite t r) t s fun x y =>
      Recorded y x r 0xFF ∧ y.1.getV f i = f.mask v ∧ y.2.stage = x.2.stage ∧ y.1.pst = x.1.pst ∧
      (y.1.journal[x.1.journal.length]?).map (fun j => j.writes) = some [(f.key i, f.mask v)])

/-- COMMIT and DISCARD by the owner of the stage (R393, R394), and the end of its time (R392). -/
def Obligations.StageOperations : Prop :=
  (∀ (t : Nat) (r : Req) (s : State), s.m.alive = true → Admitted (s.m.at t, s.srv) r → r.op = 3 → s.srv.stage ≠ [] →
    s.srv.owner = some r.requester →
    DoesS (.odCommit t r) t s fun x y =>
      Recorded y x r 0xFF ∧ y.2.commit = some (askerOf r (x.1.n E.EPOCH 0)) ∧ y.2.stage = x.2.stage ∧ y.2.owner = x.2.owner ∧
      y.1.deadline .stage = some (x.1.tb + sec (x.1.n E.STAGE_TMO 0)) ∧ SameOd serviceKeys x.1 y.1) ∧
  (∀ (t : Nat) (r : Req) (s : State), s.m.alive = true → Admitted (s.m.at t, s.srv) r → r.op = 4 → s.srv.stage ≠ [] →
    s.srv.owner = some r.requester →
    DoesS (.odDiscard t r) t s fun x y =>
      Recorded y x r 0 ∧ Answered y r 0 [] ∧ y.2.stage = [] ∧ y.2.owner = none ∧ y.2.commit = none ∧
      y.1.deadline .stage = none ∧
      SameOd serviceKeys x.1 y.1) ∧
  (∀ (t : Nat) (r : Req) (c : Instr) (s : State), s.m.alive = true → Admitted (s.m.at t, s.srv) r → s.srv.stage = [] →
    ((c = .odCommit t r ∧ r.op = 3) ∨ (c = .odDiscard t r ∧ r.op = 4)) →
    DoesS c t s fun x y =>
      Recorded y x r 0 ∧ Answered y r 0 [] ∧ y.2.stage = [] ∧ y.2.owner = x.2.owner ∧ y.2.commit = x.2.commit ∧
      y.1.journal = x.1.journal ∧ y.1.pst = x.1.pst ∧ SameOd serviceKeys x.1 y.1 ∧ SameTimers [.session r.requester] x.1 y.1) ∧
  (∀ (t o : Nat) (r : Req) (c : Instr) (s : State), s.m.alive = true → Admitted (s.m.at t, s.srv) r → s.srv.stage ≠ [] →
    s.srv.owner = some o → o ≠ r.requester → ((c = .odCommit t r ∧ r.op = 3) ∨ (c = .odDiscard t r ∧ r.op = 4)) →
    DoesS c t s fun x y => Recorded y x r 0x22 ∧ Answered y r 0x22 (leBytes 2 o) ∧ y.2.stage = x.2.stage ∧
    SameOd serviceKeys x.1 y.1) ∧
  (∀ (t : Nat) (s : State), s.m.alive = true → (s.m.at t).due .stage = true → s.srv.commit = none → s.srv.stage ≠ [] →
    DoesS (.stageTimeout t) t s fun x y =>
      y.2.stage = [] ∧ y.2.owner = none ∧ y.1.n E.STAGE_DISCARDS 0 = inc32 (x.1.n E.STAGE_DISCARDS 0) ∧
      y.1.deadline .stage = none ∧ SameOd (E.STAGE_DISCARDS.key 0 :: logKeys) x.1 y.1)

/-- Journal records (R394, R395): the oldest one that is durable is in the parameter store and its request OK; one that
fails raises 8:1 and its request is answered HW_FAULT; in hold-up operation only the page in progress may end, within 2 ms
(R28). A request to restore the defaults is one of them (R415). Commits (R394): at the mode tick a staged value that passes
its checks is in force and in a journal record whose request is not answered yet; where one fails, its request is refused
with that status and the stage is kept. -/
def Obligations.JournalAndCommits : Prop :=
  (∀ (t : Nat) (j : JRec) (js : List JRec) (s : State), s.m.alive = true → s.m.journal = j :: js →
    (s.m.phase = .holdup → s.m.safe.pageLeft = true ∧ (s.m.at t).tb ≤ s.m.safe.holdupAt + ms 2) →
    DoesS (.journalDurable t true) t s fun x y =>
      y.1.journal = js ∧ y.1.pst = j.store x.1.pst ∧
      (∀ a ∈ j.ask.toList, ∀ c ∈ (x.2.recOf a.requester a.epoch a.seq).toList, c.status = 0xFF →
        (y.2.recOf a.requester a.epoch a.seq).map (fun c => c.status) = some 0)) ∧
  (∀ (t : Nat) (ok : Bool) (s : State), s.m.phase = .holdup → s.m.journal ≠ [] →
    (ok = false ∨ s.m.safe.pageLeft = false ∨ s.m.safe.holdupAt + ms 2 < (s.m.at t).tb) →
    DoesS (.journalDurable t ok) t s fun x y =>
      y.1.journal = x.1.journal ∧ y.1.pst = x.1.pst ∧ y.2 = x.2 ∧
      Frame [] [] { x.1 with safe := { x.1.safe with pageLeft := false } } y.1) ∧
  (∀ (t : Nat) (j : JRec) (js : List JRec) (s : State), s.m.phase = .running → s.m.journal = j :: js →
    s.m.bitOf E.FLT_ACTIVE 8 1 = false →
    DoesS (.journalDurable t false) t s fun x y =>
      y.1.journal.length = js.length ∧ y.1.pst = x.1.pst ∧ y.1.bitOf E.FLT_ACTIVE 8 1 = true ∧
      (∀ a ∈ j.ask.toList, ∀ c ∈ (x.2.recOf a.requester a.epoch a.seq).toList, c.status = 0xFF →
        (y.2.recOf a.requester a.epoch a.seq).map (fun c => c.status) = some 0x60)) ∧
  (∀ (t : Nat) (r : Req) (v : Val) (s : State), s.m.alive = true → Takes (s.m.at t, s.srv) r E.PSTORE_DEFAULTS 0 v →
    DoesS (.pstoreDefaults t r) t s fun x y =>
      Recorded y x r 0xFF ∧ y.1.pst = x.1.pst ∧
      (y.1.journal[x.1.journal.length]?).map (fun j => j.writes) = some [(E.PSTORE_DEFAULTS.key 0, v)] ∧
      SameOd serviceKeys x.1 y.1) ∧
  (∀ (t : Nat) (r : Req) (v : Val) (s : State), s.m.alive = true → Takes (s.m.at t, s.srv) r E.RTC 0 v →
    DoesS (.rtcWrite t r) t s fun x y =>
      Recorded y x r 0 ∧ y.1.n E.RTC 0 = v.toNat ∧ y.1.esess.clockSet = (x.1.esess.clockSet || x.1.n E.ESESS_STATE 0 == 1) ∧
      SameOd (E.RTC.key 0 :: serviceKeys) x.1 y.1) ∧
  (∀ (a : Asker) (e : Staged) (f : Fam) (i : Nat) (x : Sys), x.2.commit = some a → x.2.stage = [e] →
  entryAt e.key = some (f, i) →
    f.base ≠ 0xA100 → commitError a (x.1.putPlace e.key e.val, { x.2 with commit := none }) = none →
    ((commitApply x).1.journal[x.1.journal.length]?).map (fun j => (j.writes, j.ask)) = some ([(e.key, e.val)], some a) ∧
    (headerFams.any (fun g => g.key 0 == f.key 0) = false → stepFams.any (fun g => g.key 0 == f.key 0) = false →
      SameOd [e.key] x.1 (commitApply x).1 ∧ (i < f.count → (commitApply x).1.getV f i = e.val)) ∧
    (commitApply x).2.stage = x.2.stage ∧ (commitApply x).2.commit = none ∧ (commitApply x).1.pst = x.1.pst) ∧
  (∀ (a : Asker) (k st : Nat) (x : Sys), x.2.commit = some a →
    commitError a (x.2.stage.foldl (fun m e => m.putPlace e.key e.val) x.1, { x.2 with commit := none }) = some (k, st) →
    (∀ c ∈ (x.2.recOf a.requester a.epoch a.seq).toList, c.status = 0xFF →
      ((commitApply x).2.recOf a.requester a.epoch a.seq).map (fun c => c.status) = some st) ∧
    (commitApply x).2.stage = x.2.stage ∧ SameOd serviceKeys x.1 (commitApply x).1 ∧ (commitApply x).1.journal = x.1.journal)

/-- The server's timers (R386, R397), and a USB transfer (R438), which carries one request of the service host. Compare
channels (R508): a written mode arms the channel, the old values hold until the write takes effect, and a match counts,
steps CMP_VAL in mode 2 and ends mode 1. -/
def Obligations.TimersTransfersAndCompares : Prop :=
  (∀ (t q : Nat) (s : State), s.m.alive = true → (s.m.at t).due (.assembly q) = true →
    DoesS (.assemblyTimeout t q) t s fun x y =>
      y.2.asms = x.2.asms.filter (fun a => a.requester != q) ∧ Frame [] [.assembly q] x.1 y.1 ∧
      y.2 = { x.2 with asms := y.2.asms }) ∧
  (∀ (t q : Nat) (s : State), s.m.alive = true → (s.m.at t).due (.snapshot q) = true →
    DoesS (.readSnapshotExpiry t q) t s fun x y =>
      y.2.snaps = x.2.snaps.filter (fun a => a.requester != q) ∧ Frame [] [.snapshot q] x.1 y.1 ∧
      y.2 = { x.2 with snaps := y.2.snaps }) ∧
  (∀ (t : Nat) (s : State), s.m.alive = true →
    DoesS (.recordHoldExpiry t) t s fun x y =>
      OnlyFams ([]) x.1 y.1 ∧
      y.1 = x.1 ∧ y.2 = { x.2 with recs := y.2.recs } ∧
      (∀ c ∈ x.2.recs, c ∈ y.2.recs ∨ (c.status ≠ 0xFF ∧ c.doneAt + sec (x.1.n E.REC_HOLD 0) ≤ x.1.tb)) ∧
      (∀ c ∈ y.2.recs, c ∈ x.2.recs ∧ (c.status = 0xFF ∨ x.1.tb < c.doneAt + sec (x.1.n E.REC_HOLD 0)))) ∧
  (∀ (t length : Nat) (r : Req) (s : State), s.m.alive = true → s.m.usb.attached = true → s.m.n E.USB_DATA_ROLE 0 = 0 →
    20 ≤ length → length ≤ 1044 →
    Admitted (s.m.at t, s.srv) { r with requester := usbRequester, transport := .usb, data := r.data.take (length - 20) } →
    r.op = 4 → s.srv.stage ≠ [] → s.srv.owner = some usbRequester →
    DoesS (.usbTransfer t length r) t s fun x y =>
      OnlyFams (serveFams) x.1 y.1 ∧ y.2.stage = [] ∧ y.2.owner = none ∧ y.1.deadline .stage = none) ∧
  (∀ (t length : Nat) (r : Req) (s : State), s.m.alive = true → s.m.usb.attached = true → s.m.n E.USB_DATA_ROLE 0 = 0 →
    20 ≤ length → length ≤ 1044 →
    exec (.usbTransfer t length r) s =
      (let r' : Req := { r with requester := usbRequester, transport := .usb, data := r.data.take (length - 20) }
       if r.op = 1 then exec (.odRead t r') s else if r.op = 2 then exec (.odWrite t r') s
       else if r.op = 3 then exec (.odCommit t r') s else if r.op = 4 then exec (.odDiscard t r') s
       else exec (.usbTransfer t length r) s)) ∧
  (∀ (t c : Nat) (r : Req) (v : Val) (s : State), s.m.alive = true → Takes (s.m.at t, s.srv) r E.CMP_MODE c v →
    DoesS (.cmpModeWrite t r) t s fun x y =>
      Recorded y x r 0 ∧ y.1.n E.CMP_MODE c = v.toNat ∧ y.1.n E.CMP_STATE c = (if v.toNat = 0 then 0 else 1) ∧
      ((y.1.cmp[c]?).getD {}).upTo = x.1.tb + 3 ∧ SameOd (E.CMP_MODE.key c :: E.CMP_STATE.key c :: serviceKeys) x.1 y.1) ∧
  (∀ (t c : Nat) (s : State), s.m.alive = true → c < 32 → ((s.m.cmp[c]?).getD {}).upTo < (s.m.at t).tb →
    s.m.n E.CMP_STATE c = 1 → s.m.n E.CMP_VAL c ≤ (s.m.at t).tb → s.m.n E.CAP_CMP 0 ≠ c →
    DoesM (.cmpMatch t c) t s fun m m' =>
      m'.n E.CMP_CNT c = inc32 (m.n E.CMP_CNT c) ∧
      (m.n E.CMP_MODE c = 2 → m'.n E.CMP_VAL c = nextMatch (m.n E.CMP_VAL c) (m.n E.CMP_INT c) m.tb ∧ m'.n E.CMP_STATE c = 1) ∧
      (m.n E.CMP_MODE c ≠ 2 → m'.n E.CMP_STATE c = 2 ∧ m'.n E.CMP_VAL c = m.n E.CMP_VAL c) ∧
      Frame [E.CMP_CNT.key c, E.CMP_VAL.key c, E.CMP_STATE.key c] [] m m')

/-- Forwarding (R340, R342, R344, R363, R364, R367, R369): a station passes a frame on with one hop less and its own MAC-48
as the source: one of class 0 to 2 at once, breaking off what is on the wire, another with its credits; one addressed to it
goes no further and frees its credits; a request addressed to it that passes its checks is served. -/
def Obligations.FrameForwarding : Prop :=
  (∀ (t l k : Nat) (h : Hdr) (s : State), s.m.alive = true → l < 4 → s.m.n E.LINK_STATE l = 3 → h.cls ≤ 2 → headerOk h = true →
    h.hops ≠ 0 → [1, 2, 3, 4, 5, 7, 0x11].contains h.typ = false → s.m.endsHere h l = false → s.m.ownFrame h = false →
    s.m.crosses l h = false → s.m.otherLink l = some k → h.fcsOk = true →
    DoesS (.frameForward t l h .other) t s fun x y =>
      let f := Out.forward k { h with hops := h.hops - 1, mac := Config.mac48 }
      y.2 = x.2 ∧ y.1.out.contains f = true ∧
      (x.1.wireEnd k ≤ x.1.tb → y.1.out = [f] ∧ Frame [] [] (x.1.heard l) y.1) ∧
      (∀ w, (x.1.linkOf k).tx = some w → w.start ≤ x.1.tb → x.1.tb < w.stop → w.yields < 3 →
        y.1.out = [w.out.cut, f, w.out] ∧ SameOd [] x.1 y.1 ∧
        (y.1.linkOf k).tx.map (fun z => (z.out, z.yields, z.start)) = some (w.out, w.yields + 1, x.1.tb + wireTicks h.bytes))) ∧
  (∀ (t l k : Nat) (h : Hdr) (s : State), s.m.alive = true → l < 4 → s.m.n E.LINK_STATE l = 3 → 3 ≤ h.cls → h.cls ≤ 7 →
    s.m.soundFrame l h = true → [1, 2, 3, 4, 5, 7].contains h.typ = false → s.m.endsHere h l = false → s.m.ownFrame h = false →
    s.m.crosses l h = false → s.m.otherLink l = some k → s.m.net.held = [] → s.m.net.drops = [] →
    s.m.wireEnd k ≤ (s.m.at t).tb →
    (h.cls = 6 → s.m.ingress6 l + h.bytes ≤ 32768 ∧ (s.m.at t).ingress6 l + h.bytes ≤ 32768) →
    (∀ c, creditPlace h.cls = some c → frameCredits h.bytes ≤ s.m.credit k c) →
    DoesS (.frameForward t l h .other) t s fun x y =>
      y.1.out = [.forward k { h with hops := h.hops - 1, mac := Config.mac48 }] ∧ y.2 = x.2 ∧ SameOd [] x.1 y.1 ∧
      (∀ c, creditPlace h.cls = some c →
        ((y.1.linkOf k).used[c]?).getD 0 = (((x.1.linkOf k).used[c]?).getD 0 + frameCredits h.bytes) % 2 ^ 32 ∧
        ((y.1.linkOf l).freedOut[c]?).getD 0 = (((x.1.linkOf l).freedOut[c]?).getD 0 + frameCredits h.bytes) % 2 ^ 32)) ∧
  (∀ (t l : Nat) (h : Hdr) (s : State), s.m.alive = true → l < 4 → s.m.n E.LINK_STATE l = 3 → s.m.addressed h = true →
    h.fcsOk = true → headerOk h = true → s.m.soundFrame l h = true →
    (namedTypes ++ [0x11, 0x30, 0x35, 0x50, 0x51]).contains h.typ = false →
    DoesS (.frameForward t l h .other) t s fun x y =>
      y.1.out = [] ∧ y.2 = x.2 ∧ Frame [] [] ((x.1.heard l).freeCredits l h) y.1) ∧
  (∀ (t l : Nat) (h : Hdr) (r : Req) (s : State), s.m.alive = true → l < 4 → s.m.n E.LINK_STATE l = 3 → s.m.addressed h = true →
    Passes (s.m.at t) h 0x40 (some l) → s.m.superseded h = false → s.srv.stage ≠ [] → s.srv.owner = some h.src → r.op = 4 →
    Admitted (((s.m.at t).frameCheck h 0x40 (some l)).1, s.srv) { r with requester := h.src, transport := .zwl } →
    DoesS (.frameForward t l h (.odReq r)) t s fun x y =>
      OnlyFams (serveFams ++ (rxFams ++ [E.STAGE_DISCARDS])) x.1 y.1 ∧ y.2.stage = [] ∧ y.2.owner = none ∧
      y.1.deadline .stage = none)

/-! ## Two-wire and CAN ports -/

/-- The HOST2W window (R453 to R460): a target that cannot take a transaction acknowledges nothing and counts it; pointer
0xFF selects a page; a data byte on a request page goes to the request buffer and nowhere else; a byte whose acknowledge
slot is interrupted is discarded; a read returns bytes from the pointer on. -/
def Obligations.WindowTransactions : Prop :=
  (∀ (t count : Nat) (bytes : List Nat) (e : Ending) (c : Instr) (s : State), s.m.alive = true → (s.m.at t).h2wBusy = true →
    (c = .h2wWriteTransaction t bytes e ∨ c = .h2wReadTransaction t count) →
    DoesM c t s fun m m' =>
      m'.out = [.h2wAck []] ∧ m'.bitOf E.H2W_FLAGS 0 4 = true ∧ m'.n E.H2W_NACKS 0 = inc32 (m.n E.H2W_NACKS 0) ∧
      Frame [E.H2W_FLAGS.key 0, E.H2W_NACKS.key 0] [] m m') ∧
  (∀ (t page : Nat) (s : State), s.m.alive = true → (s.m.at t).h2wBusy = false →
    DoesM (.h2wPageSelect t page) t s fun m m' =>
      m'.h2w.page = page % 256 ∧ m'.h2w.ptr = 0 ∧ m'.out = [.h2wAck [true, true]] ∧
      m'.n E.H2W_XFERS 0 = inc32 (m.n E.H2W_XFERS 0) ∧ m'.h2w.buf = m.h2w.buf ∧ m'.h2w.reqLen = m.h2w.reqLen ∧
      m'.h2w.xstate = m.h2w.xstate ∧ SameOd [E.H2W_XFERS.key 0] m m' ∧ SameTimers [] m m') ∧
  (∀ (t ofs b : Nat) (s : State), s.m.alive = true → (s.m.at t).h2wBusy = false → requestPage s.m.h2w.page = true →
    s.m.h2w.xstate ≠ 1 → ofs < 255 →
    DoesM (.h2wWriteTransaction t [ofs, b] .stop) t s fun m m' =>
      bufGet m'.h2w.buf (bufAddr m.h2w.page ofs) = b % 256 ∧
      (∀ k, k < 1275 → k ≠ bufAddr m.h2w.page ofs → bufGet m'.h2w.buf k = bufGet m.h2w.buf k) ∧
      (Memory.wf m.h2w.buf = true → Memory.wf m'.h2w.buf = true) ∧
      m'.h2w.ptr = ofs + 1 ∧ m'.out = [.h2wAck [true, true]] ∧ SameOd [E.H2W_XFERS.key 0] m m') ∧
  (∀ (t page : Nat) (s : State), s.m.alive = true → (s.m.at t).h2wBusy = false →
    DoesM (.h2wWriteTransaction t [0xFF, page] .srInAck) t s fun m m' =>
      m'.h2w.page = m.h2w.page ∧ m'.h2w.ptr = 0xFF ∧ m'.bitOf E.H2W_FLAGS 0 0 = true ∧ m'.out = [.h2wAck [true]] ∧
      m'.h2w.buf = m.h2w.buf ∧ SameOd [E.H2W_FLAGS.key 0] m m') ∧
  (∀ (t lo hi : Nat) (s : State), s.m.alive = true → (s.m.at t).h2wBusy = false → s.m.h2w.page = 0 → lo < 256 → hi < 256 →
    DoesM (.h2wWriteTransaction t [1, lo, hi] .stop) t s fun m m' =>
      m'.h2w.reqLen = hi * 256 + lo ∧ m'.out = [.h2wAck [true, true, true]] ∧ m'.h2w.buf = m.h2w.buf ∧
      SameOd [E.H2W_XFERS.key 0] m m') ∧
  (∀ (t count : Nat) (s : State), s.m.alive = true → (s.m.at t).h2wBusy = false → 0 < count →
    DoesM (.h2wReadTransaction t count) t s fun m m' =>
      m'.n E.H2W_XFERS 0 = inc32 (m.n E.H2W_XFERS 0) ∧ m'.h2w.ptr = (m.h2w.ptr + count) % 256 ∧
      m'.h2w.snap = fit 28 m.h2w.live ++ leBytes 4 m.tb ∧ m'.h2w.buf = m.h2w.buf ∧ SameOd [E.H2W_XFERS.key 0] m m' ∧
      (count = 1 → requestPage m.h2w.page = true → m.h2w.ptr ≠ 0xFF →
        m'.out = [.h2w [bufGet m.h2w.buf (bufAddr m.h2w.page m.h2w.ptr)]]) ∧
      (count = 4 → m.h2w.page = 1 → m.h2w.ptr = 28 → m'.out = [.h2w (leBytes 4 m.tb)]))

/-- Requests over the window and HALERT (R457, R458, R460, R461): GO serves the request in the buffer, its response comes to
the window with cause 0, RELEASE gives it up, a cause is cleared by a 1 unless it came in this tick, and the address sent
whole releases the line. -/
def Obligations.WindowRequests : Prop :=
  (∀ (t : Nat) (s : State), s.m.alive = true → (s.m.at t).h2wBusy = false → s.m.mayGo = true →
    DoesS (.h2wGo t) t s fun x y =>
      y.1.h2w.xstate = 1 ∧ y.1.h2w.go = some (askerOf x.1.h2wRequest (x.1.n E.EPOCH 0)) ∧ y.1.h2w.busyTo = x.1.tb + us 50 ∧
      y.1.h2w.buf = x.1.h2w.buf) ∧
  (∀ (t : Nat) (s : State), s.m.alive = true → (s.m.at t).h2wBusy = false → s.m.mayGo = true → s.m.h2wRequest.op = 4 →
    Admitted (s.m.at t, s.srv) s.m.h2wRequest → s.srv.stage ≠ [] → s.srv.owner = some h2wRequester →
    DoesS (.h2wGo t) t s fun x y =>
      OnlyFams (serveFams) x.1 y.1 ∧
      y.2.stage = [] ∧ y.2.owner = none ∧ Recorded y x x.1.h2wRequest 0 ∧ y.1.h2w.waiting.length = x.1.h2w.waiting.length + 1) ∧
  (∀ (t : Nat) (b : List Nat) (rest : List (List Nat)) (s : State), s.m.alive = true → s.m.h2w.xstate = 1 →
    s.m.h2w.waiting = b :: rest →
    DoesM (.h2wResponse t) t s fun m m' =>
      m'.h2w.rsp = b ∧ m'.h2w.waiting = rest ∧ m'.h2w.xstate = 2 ∧ m'.h2w.busyTo = m.tb + us 50 ∧ bit m'.alert 0 = true ∧
      (bit m.h2w.mask 0 = true → bit m.alert 0 = false → m.b E.HALERT_EN 0 = true → m'.h2w.pulled = true) ∧
      SameOd (E.Q_FILL.keys ++ (E.Q_MAX.keys ++ (E.Q_HIGH.keys ++ E.Q_HWM_CNT.keys))) m m') ∧
  (∀ (t : Nat) (s : State), s.m.alive = true → (s.m.at t).h2wBusy = false → s.m.h2w.xstate = 2 →
    DoesM (.h2wRelease t) t s fun m m' =>
      m'.h2w.xstate = 0 ∧ m'.h2w.rsp = [] ∧ bit m'.alert 0 = false ∧ SameOd [] m m' ∧ SameTimers [] m m') ∧
  (∀ (t bits : Nat) (s : State), s.m.alive = true → (s.m.at t).h2wBusy = false →
    DoesM (.alertCauseWrite t bits) t s fun m m' =>
      (∀ k, k < 16 → bit m'.alert k = (bit m.alert k && (!bit bits k || bit m.alertNew k))) ∧
      (m'.alert &&& m.h2w.mask = 0 → m'.h2w.pulled = false) ∧ SameOd [] m m' ∧ SameTimers [] m m') ∧
  (∀ (t : Nat) (won : Bool) (s : State), s.m.alive = true → s.m.h2w.pulled = true →
    DoesM (.alertResponse t won) t s fun m m' =>
      m'.out = [.h2w [2 * m.h2w.addr.getD (m.n E.H2W_ADDR 0)]] ∧ m'.h2w.pulled = !won ∧ SameOd [] m m' ∧ SameTimers [] m m') ∧
  (∀ (t : Nat) (s : State), s.m.alive = true →
    DoesM (.h2wSrInAck t) t s fun m m' => m'.bitOf E.H2W_FLAGS 0 0 = true ∧ Frame [E.H2W_FLAGS.key 0] [] m m')

/-- A line that stays low (R462): its flag, and source 10:0 at the tenth timeout within 60 s. The model's own choices:
assumption log 89. BAT2W (R463 to R466): a poll and an alert send a Block Read, its words reach their entries and MOD_FLAGS
goes back, a failed transaction is repeated once after 5 ms, and lost arbitration is tried again 50 µs later or, at the
STOP, ends the poll. -/
def Obligations.BatteryBus : Prop :=
  (∀ (t k : Nat) (c : Instr) (s : State), s.m.alive = true →
     let lately := fun (x : Mod) =>
       ((x.h2w.tmos ++ x.b2w.flatMap (fun b => b.tmos)).filter (fun u => decide (x.tb < u + sec 60))).length
     (((c = .sclTimeout t 0 ∧ k = 2) ∨ (c = .sdaTimeout t 0 ∧ k = 3)) →
       DoesM c t s fun m m' =>
         m'.bitOf E.H2W_FLAGS 0 k = true ∧ m'.h2w.busyTo = m.tb + ms 10 ∧ m'.h2w.tmos = recentTmos m.tb m.h2w.tmos ∧
         (10 ≤ lately m' → m'.bitOf E.FLT_ACTIVE 10 0 = true) ∧
         (lately m' < 10 → SameOd [E.H2W_FLAGS.key 0] m m' ∧ SameTimers [] m m')) ∧
     (∀ u, u < 2 → ((c = .sclTimeout t (u + 1) ∧ k = 2) ∨ (c = .sdaTimeout t (u + 1) ∧ k = 3)) →
       DoesM c t s fun m m' =>
         m'.bitOf E.B2W_FLAGS u k = true ∧ (m'.b2wOf u).tmos = recentTmos m.tb (m.b2wOf u).tmos ∧ (m'.b2wOf u).running = false ∧
         (10 ≤ lately m' → m'.bitOf E.FLT_ACTIVE 10 0 = true))) ∧
  (∀ (t u : Nat) (s : State), s.m.alive = true → (s.m.at t).b2wReady u = true → (s.m.b2wOf u).lastPoll = none →
    DoesM (.bat2wPoll t u) t s fun m m' =>
      m'.out = [.twoWire (u + 1) (m.n E.B2W_TARGET u) [0x30]] ∧ (m'.b2wOf u).running = true ∧
      (m'.b2wOf u).lastPoll = some m.tb ∧
      (m'.b2wOf u).failed = (if (m.b2wOf u).wrote.isSome then 0 else (m.b2wOf u).failed) ∧ (m'.b2wOf u).wrote = none ∧
      SameOd [] m m' ∧ SameTimers [] m m') ∧
  (∀ (t u last : Nat) (s : State), s.m.alive = true → (s.m.at t).b2wReady u = true → (s.m.b2wOf u).lastPoll = some last →
    last + ms 10 ≤ (s.m.at t).tb →
    DoesM (.balertEdge t u) t s fun m m' =>
      m'.n E.BALERT_CNT u = inc32 (m.n E.BALERT_CNT u) ∧ m'.out = [.twoWire (u + 1) (m.n E.B2W_TARGET u) [0x30]] ∧
      (m'.b2wOf u).lastPoll = some m.tb ∧ SameOd [E.BALERT_CNT.key u] m m') ∧
  (∀ (t u w : Nat) (x : BmsBlock) (s : State), s.m.alive = true → u < 2 → (s.m.b2wOf u).running = true →
  s.m.n E.BMS_SRC 0 = u + 1 → x.nack = false →
    (s.m.b E.B2W_PEC u = true → x.pecOk = true) → x.stretch = false → x.tmo = false → x.count = 12 →
    x.words = [0xFFFF, 0xFFFF, 0xFFFF, 0xFFFF, w, 0xFFFF] → w ≤ 10000 →
    DoesM (.bat2wBlockReadDone t u x) t s fun m m' =>
      OnlyFams (tripFams ++ [E.B2W_ERR_CNT, E.B2W_FLAGS, E.BMS_AGE, E.BMS_FRESH, E.BMS_SOC, E.BMS_STALE_CNT, E.MOD_FLAGS])
        m m' ∧
      m'.n E.BMS_SOC 0 = f32OfRat (dec 1 2 * w) ∧ m'.n E.BMS_FLAGS 0 = m.n E.BMS_FLAGS 0 ∧ (m'.b2wOf u).running = false ∧
      (m'.b2wOf u).wrote = some m.tb ∧ m'.out.contains (.twoWire (u + 1) (m.n E.B2W_TARGET u) m'.flagsWord) = true) ∧
  (∀ (t u : Nat) (x : BmsBlock) (s : State), s.m.alive = true → u < 2 → (s.m.b2wOf u).running = true →
    (x.nack = true ∨ (s.m.b E.B2W_PEC u = true ∧ x.pecOk = false) ∨ x.stretch = true ∨ x.tmo = true ∨ x.count ≠ 12) →
    DoesM (.bat2wBlockReadDone t u x) t s fun m m' =>
      m'.n E.B2W_ERR_CNT u = inc32 (m.n E.B2W_ERR_CNT u) ∧ (m'.b2wOf u).running = false ∧
      ((m.b2wOf u).repeated = false → m'.deadline (.b2wRetry u) = some (max m.tb (m.b2wOf u).busyTo + ms 5) ∧
        SameOd [E.B2W_ERR_CNT.key u, E.B2W_FLAGS.key u] m m') ∧
      ((m.b2wOf u).repeated = true → (m'.b2wOf u).failed = (m.b2wOf u).failed + 1 ∧
        (2 ≤ (m.b2wOf u).failed → m'.bitOf E.FLT_ACTIVE 10 1 = true))) ∧
  (∀ (t u : Nat) (s : State), s.m.alive = true → (s.m.at t).due (.b2wRetry u) = true → s.m.n E.BMS_SRC 0 = u + 1 →
    DoesM (.bat2wRetry t u) t s fun m m' =>
      m'.out = [.twoWire (u + 1) (m.n E.B2W_TARGET u) (if (m.b2wOf u).wrote.isSome then m.flagsWord else [0x30])] ∧
      ((m.b2wOf u).wrote = none → (m'.b2wOf u).running = true) ∧ SameOd [] m m' ∧
      SameTimers [.b2wRetry u] m m') ∧
  (∀ (t u : Nat) (s : State), s.m.alive = true → u < 2 → (s.m.b2wOf u).running = true → (s.m.b2wOf u).arbTries < 3 →
    DoesM (.arbLost t u false) t s fun m m' =>
      m'.bitOf E.B2W_FLAGS u 0 = true ∧ (m'.b2wOf u).running = false ∧ m'.deadline (.b2wRetry u) = some (m.tb + us 50) ∧
      SameOd [E.B2W_FLAGS.key u] m m' ∧ SameTimers [.b2wRetry u] m m') ∧
  (∀ (t u : Nat) (s : State), s.m.alive = true → u < 2 → (s.m.b2wOf u).running = true →
    DoesM (.arbLost t u true) t s fun m m' =>
      OnlyFams (tripFams ++ [E.B2W_ERR_CNT, E.B2W_FLAGS]) m m' ∧
      m'.bitOf E.B2W_FLAGS u 1 = true ∧ (m'.b2wOf u).running = false ∧ (m'.b2wOf u).failed = (m.b2wOf u).failed + 1 ∧
      m'.n E.B2W_ERR_CNT u = inc32 (m.n E.B2W_ERR_CNT u))

/-- CAN (R468 to R476): a compact request is served, the status frame goes out where it is due, a mapped frame writes its
target, a mapping without frames goes stale, and a port's state follows its bus. -/
def Obligations.CanPorts : Prop :=
  (∀ (t who : Nat) (f : CanFrame) (s : State), s.m.alive = true → s.m.canAsker f = some who → (canReq f who).op = 4 →
    Admitted (s.m.at t, s.srv) (canReq f who) → s.srv.stage ≠ [] → s.srv.owner = some who →
    DoesS (.canRequest t f) t s fun x y => y.2.stage = [] ∧ y.2.owner = none ∧ Recorded y x (canReq f who) 0) ∧
  (∀ (t u : Nat) (s : State), s.m.alive = true → u < 2 → (s.m.at t).statusDue u = true → s.m.n E.CAN_STATE u ≠ 2 →
    DoesM (.canStatusFrame t) t s fun m m' =>
      m'.out.contains (.can (m.statusFrame u)) = true ∧ (m'.can.lastStatus[u]?).getD none = some m.tb ∧
      (m'.can.sentFlags[u]?).getD 0 = m.n E.MOD_FLAGS 0) ∧
  (∀ (t i : Nat) (raw : Rat) (f : CanFrame) (s : State), s.m.alive = true → i < 32 → s.m.canOn f.bus = true →
    s.m.canCompact f = false → (∀ k, k < 32 → k ≠ i → s.m.b E.MAP_EN k = false) → s.m.mapMatches f i = true →
    s.m.n E.MAP_OFS i + mapLength (s.m.n E.MAP_FMT i) ≤ f.data.length →
    mapRaw (s.m.n E.MAP_FMT i) ((f.data.drop (s.m.n E.MAP_OFS i)).take (mapLength (s.m.n E.MAP_FMT i))) = some raw →
    s.m.mapTarget i = some (E.BMS_SOC, 0) → s.m.n E.BMS_SRC 0 = 3 →
    E.BMS_SOC.inRange (.num (f32OfRat (s.m.mapValue i raw))) = true →
    DoesS (.canMappedFrame t f) t s fun x y =>
      y.1.n E.MAP_RX_CNT i = inc32 (x.1.n E.MAP_RX_CNT i) ∧ y.1.n E.BMS_SOC 0 = f32OfRat (x.1.mapValue i raw) ∧
      y.1.n E.MAP_STATE i = 1 ∧ y.2 = x.2 ∧
      y.1.deadline (.mapStale i) = (if x.1.n E.MAP_STALE_T i = 0 then none else some (x.1.tb + ms (x.1.n E.MAP_STALE_T i)))) ∧
  (∀ (t i : Nat) (s : State), s.m.alive = true → i < 32 → (s.m.at t).due (.mapStale i) = true → s.m.b E.MAP_EN i = true →
    DoesM (.mapStale t i) t s fun m m' =>
      m'.n E.MAP_STATE i = 2 ∧ m'.deadline (.mapStale i) = none ∧ Frame [E.MAP_STATE.key i] [.mapStale i] m m') ∧
  (∀ (t u : Nat) (s : State), s.m.alive = true → s.m.canOn u = true →
    DoesM (.canBusOff t u) t s fun m m' =>
      OnlyFams (tripFams ++ [E.CAN_BUSOFF_CNT, E.CAN_STATE]) m m' ∧
      m'.n E.CAN_STATE u = 2 ∧ m'.n E.CAN_BUSOFF_CNT u = inc32 (m.n E.CAN_BUSOFF_CNT u) ∧ m'.bitOf E.FLT_ACTIVE 11 0 = true) ∧
  (∀ (t u : Nat) (s : State), s.m.alive = true → u < 2 → s.m.n E.CAN_STATE u = 2 →
    DoesM (.canBusOffRecover t u) t s fun m m' =>
      OnlyFams (tripFams ++ [E.CAN_STATE]) m m' ∧
      m'.n E.CAN_STATE u = 0 ∧ m'.can.held = m.can.held.filter (fun f => f.bus != u) ∧
      m'.out = (m.can.held.filter (fun f => f.bus == u)).map (fun f => .can f) ∧
      (m.n E.CAN_STATE (1 - u) ≠ 2 → m'.bitOf E.FLT_ACTIVE 11 0 = false)) ∧
  (∀ (t u : Nat) (passive : Bool) (s : State), s.m.alive = true → s.m.canOn u = true →
    DoesM (.canErrorPassive t u passive) t s fun m m' =>
      OnlyFams (tripFams ++ [E.CAN_STATE]) m m' ∧
      m'.n E.CAN_STATE u = b2n passive ∧
      m'.bitOf E.FLT_ACTIVE 11 1 = (passive || m.n E.CAN_STATE (1 - u) == 1))

/-! ## The mode tick and its requests -/

/-- MODE_TICK completes where no port's voltage lies beyond its absolute maximum (R36, R37): the window's page 1 stands as
the tick leaves it (R459), and the waiting requests' memory keeps its sessions. -/
def Obligations.ModeTickCompletes : Prop :=
  ∀ (t : Nat) (x : TickIn) (s : State), s.m.alive = true → (s.m.at t).beyond x = none →
    DoesS (.modeTick t x) t s fun a y => y.1.h2w.live = y.1.pageOne ∧ y.2.sessions = a.2.sessions ∧ y.2.fails = a.2.fails

/-- What a mode tick takes and tells (R82, R83, R510): the inputs are latched and the RTC goes on; a complete resolution
notes its tick, and one that is not complete counts and leaves envelope, path and coupling as they were. -/
def Obligations.ModeTickResolves : Prop :=
  (∀ (t : Nat) (x : TickIn) (s : State), s.m.alive = true → (s.m.at t).beyond x = none → s.srv.commit = none →
    DoesS (.modeTick t x) t s fun a y =>
      y.1.sens = x ∧ y.1.n E.RTC 0 = (a.1.n E.RTC 0 + x.rtcAdv) % 2 ^ 64 ∧ y.1.n E.COOL_IN 0 = f32OfRat x.coolIn ∧
      y.1.tb = a.1.tb ∧
      (x.complete = true → y.1.n E.TICK_LAST 0 = a.1.tb ∧ y.1.n E.TICK_OVERRUN 0 = a.1.n E.TICK_OVERRUN 0)) ∧
  (∀ (t : Nat) (x : TickIn) (s : State), s.m.alive = true → (s.m.at t).beyond x = none → s.srv.commit = none →
  x.complete = false →
    DoesS (.modeTick t x) t s fun a y =>
      y.1.n E.TICK_OVERRUN 0 = inc32 (a.1.n E.TICK_OVERRUN 0) ∧ y.1.n E.ENV_EFF 0 = a.1.n E.ENV_EFF 0 ∧
      y.1.n E.PATH_ACT 0 = a.1.n E.PATH_ACT 0 ∧ y.1.n E.COUPLING_ACT 0 = a.1.n E.COUPLING_ACT 0 ∧
      y.1.n E.TICK_LAST 0 = a.1.n E.TICK_LAST 0 ∧ y.2 = a.2)

/-- The mode axes' requests (R64, R73, R76, R512, R513): an accepted one is stored and ACCEPTED; a request above STANDBY
raises the power state, HIBERNATE is entered within 200 ms. Writes of set points and choices (R88, R130, R139, R180): the
entry holds the value at once, its journal record is on its way, and nothing else changes. -/
def Obligations.RequestWrites : Prop :=
  (∀ (t : Nat) (r : Req) (v : Val) (s : State), s.m.alive = true → Takes (s.m.at t, s.srv) r E.ENV_REQ 0 v →
    DoesS (.envReqWrite t r) t s fun x y =>
      Recorded y x r 1 ∧ y.1.n E.ENV_REQ 0 = v.toNat ∧
      (v.toNat ≤ 1 → x.1.n E.PATH_ACT 0 = 8 → y.1.n E.TRANS_STATE 0 = 0 ∧ y.1.modes.transFail = false) ∧
      (x.1.n E.POWER_ACT 0 = 1 → 2 ≤ v.toNat → y.1.n E.POWER_REQ 0 = 0 ∧ y.1.modes.raising = true ∧
        y.1.deadline .activeReturn = some (x.1.tb + ms 20)) ∧
      SameOd ([E.ENV_REQ.key 0, E.TRANS_STATE.key 0, E.POWER_REQ.key 0] ++ serviceKeys) x.1 y.1) ∧
  (∀ (t : Nat) (r : Req) (v : Val) (s : State), s.m.alive = true → Takes (s.m.at t, s.srv) r E.COUPLING_REQ 0 v →
    DoesS (.couplingReqWrite t r) t s fun x y =>
      Recorded y x r 1 ∧ y.1.n E.COUPLING_REQ 0 = v.toNat ∧ (v.toNat = 2 → y.1.modes.bridgeQual = 0) ∧
      SameOd (E.COUPLING_REQ.key 0 :: serviceKeys) x.1 y.1) ∧
  (∀ (t : Nat) (r : Req) (v : Val) (s : State), s.m.alive = true → Takes (s.m.at t, s.srv) r E.POWER_REQ 0 v →
    DoesS (.powerReqWrite t r) t s fun x y =>
      Recorded y x r 1 ∧ y.1.n E.POWER_REQ 0 = v.toNat ∧ y.1.modes.hibernating = (v.toNat == 2) ∧
      (v.toNat = 2 → y.1.deadline .hibernate = some (x.1.tb + ms 200)) ∧
      (v.toNat = 0 → x.1.n E.POWER_ACT 0 = 1 → y.1.modes.raising = true ∧ y.1.deadline .activeReturn = some (x.1.tb + ms 20)) ∧
      y.1.n E.POWER_ACT 0 = x.1.n E.POWER_ACT 0 ∧ SameOd (E.POWER_REQ.key 0 :: serviceKeys) x.1 y.1) ∧
  (∀ (t i : Nat) (f : Fam) (r : Req) (v : Val) (c : Instr) (s : State), s.m.alive = true → Takes (s.m.at t, s.srv) r f i v →
     ((c = .sysVsetWrite t r ∧ f = E.SYS_VSET) ∨ (c = .srcPolicyWrite t r ∧ f = E.SRC_POLICY) ∨
       (c = .manSlackWrite t r ∧ f = E.MAN_SLACK) ∨ (c = .loopPresetWrite t r ∧ f = E.LOOP_PRESET)) →
     DoesS c t s fun x y =>
       Recorded y x r 0xFF ∧ y.1.getV f i = f.mask v ∧
       (y.1.journal[x.1.journal.length]?).map (fun j => j.writes) = some [(f.key i, f.mask v)] ∧ y.1.reg = x.1.reg ∧
       SameOd (f.key i :: serviceKeys) x.1 y.1)

/-- What is not in the dictionary (R377, R383, R409): a request to an index that does not exist is answered NO_ENTRY, one to
an unlisted subindex NO_SUBINDEX, another OP NO_ENTRY with DETAIL 0xFF; subindex 0 reads the highest subindex present and
takes no write. -/
def Obligations.WhatIsNotInTheDictionary : Prop :=
  (∀ (t : Nat) (r : Req) (s : State), s.m.alive = true → Admitted (s.m.at t, s.srv) r → r.op = 2 →
  findEntry r.index r.sub families = none →
    (r.sub ≠ 0 ∨ indexExists r.index = false) →
    DoesS (.odWrite t r) t s fun x y =>
      let st := if indexExists r.index = true then 0x11 else 0x10
      Recorded y x r st ∧ Answered y r st [] ∧ y.2.stage = x.2.stage ∧ y.1.journal = x.1.journal ∧ SameOd serviceKeys x.1 y.1) ∧
  (∀ (t : Nat) (r : Req) (s : State), s.m.alive = true → Admitted (s.m.at t, s.srv) r → r.op = 1 →
  findEntry r.index r.sub families = none →
    (r.sub ≠ 0 ∨ indexExists r.index = false) →
    DoesS (.odRead t r) t s fun x y =>
      Answered y r (if indexExists r.index = true then 0x11 else 0x10) [] ∧ y.2.stage = x.2.stage ∧
      SameOd serviceKeys x.1 y.1) ∧
  (∀ (t : Nat) (r : Req) (s : State), s.m.alive = true → Admitted (s.m.at t, s.srv) r → r.op = 1 → r.sub = 0 →
    indexExists r.index = true → (r.ty = 0 ∨ r.ty = 2) → r.len = 0 → r.data = [] → r.offset = 0 →
    DoesS (.odRead t r) t s fun x y =>
      Answered y r 0 [highestSub r.index] ∧ SameOd serviceKeys x.1 y.1) ∧
  (∀ (t : Nat) (r : Req) (s : State), s.m.alive = true → Admitted (s.m.at t, s.srv) r → r.op = 2 → r.sub = 0 →
    indexExists r.index = true → r.ty = 2 → r.len = 1 → r.data.length = 1 → r.offset = 0 → r.more = false →
    DoesS (.odWrite t r) t s fun x y => Recorded y x r 0x15 ∧ Answered y r 0x15 [] ∧ SameOd serviceKeys x.1 y.1) ∧
  (∀ (index : Nat) (f : Fam), f ∈ families → (f.inst index).isSome = true →
    f.sub ≤ highestSub index ∧ ∃ g ∈ families, (g.inst index).isSome = true ∧ g.sub = highestSub index) ∧
  (∀ (t length : Nat) (r : Req) (s : State), s.m.alive = true → s.m.usb.attached = true → s.m.n E.USB_DATA_ROLE 0 = 0 →
    20 ≤ length → length ≤ 1044 → (r.op = 0 ∨ 4 < r.op) →
    Admitted (s.m.at t, s.srv) { r with requester := usbRequester, transport := .usb, data := r.data.take (length - 20) } →
    DoesS (.usbTransfer t length r) t s fun x y =>
      Answered y { r with requester := usbRequester, transport := .usb } 0x10 [] ∧
      y.1.out.any (fun o => match o with | .resp a => a.detail == 0xFF | _ => false) = true ∧ SameOd serviceKeys x.1 y.1)
end

