-- ==== Sys2Proof/Laws/Buffer.lean ====
section
/-! SUPPORT. Laws/Buffer.lean: the request buffer of the HOST2W window as a memory: what a written byte leaves, and the form
that every operation keeps. -/

namespace Sys2Proof.Machine

open Sys2Proof

/-- Every address listed lies above `a`. -/
def above (a : Nat) (l : List Host.Cell) : Prop := ∀ c ∈ l, a < c.1

theorem wf_cons (c : Host.Cell) (r : List Host.Cell) : Memory.wf (c :: r) = true ↔ c.2 ≠ 0 ∧ above c.1 r ∧ Memory.wf r = true := by
  induction r generalizing c with
  | nil => simp [Memory.wf, above]
  | cons d r ih =>
    have hd := ih d
    constructor
    · intro h
      simp only [Memory.wf, Bool.and_eq_true, decide_eq_true_eq, bne_iff_ne, ne_eq] at h
      obtain ⟨⟨h1, h2⟩, h3⟩ := h
      have h3' : Memory.wf (d :: r) = true := by simpa [Memory.wf] using h3
      refine ⟨h1, ?_, h3'⟩
      intro e he
      rcases List.mem_cons.mp he with rfl | he
      · exact h2
      · exact Nat.lt_trans h2 ((hd.mp h3').2.1 e he)
    · rintro ⟨h1, h2, h3⟩
      have : c.1 < d.1 := h2 d (by simp)
      simp only [Memory.wf, Bool.and_eq_true, decide_eq_true_eq, bne_iff_ne, ne_eq]
      exact ⟨⟨h1, this⟩, by simpa [Memory.wf] using h3⟩

theorem bufDel_mem {l : List Host.Cell} {a : Nat} {c : Host.Cell} (h : c ∈ bufDel l a) : c ∈ l := by
  induction l with
  | nil => simp [bufDel] at h
  | cons d r ih =>
    unfold bufDel at h
    split at h
    · exact List.mem_cons_of_mem _ (ih h)
    · rcases List.mem_cons.mp h with rfl | h
      · simp
      · exact List.mem_cons_of_mem _ (ih h)

theorem bufIns_mem {l : List Host.Cell} {a : Nat} {b : BitVec 8} {c : Host.Cell} (h : c ∈ bufIns l a b) : c = (a, b) ∨ c ∈ l := by
  induction l with
  | nil => simpa [bufIns] using h
  | cons d r ih =>
    unfold bufIns at h
    split at h
    · simpa using h
    · split at h
      · rcases List.mem_cons.mp h with rfl | h
        · exact .inl rfl
        · exact .inr (List.mem_cons_of_mem _ h)
      · rcases List.mem_cons.mp h with rfl | h
        · simp
        · rcases ih h with h | h
          · exact .inl h
          · exact .inr (List.mem_cons_of_mem _ h)

theorem bufDel_wf {l : List Host.Cell} (a : Nat) (h : Memory.wf l = true) : Memory.wf (bufDel l a) = true := by
  induction l with
  | nil => rfl
  | cons c r ih =>
    obtain ⟨h1, h2, h3⟩ := (wf_cons c r).mp h
    unfold bufDel
    split
    · exact ih h3
    · exact (wf_cons _ _).mpr ⟨h1, fun d hd => h2 d (bufDel_mem hd), ih h3⟩

theorem bufIns_wf {l : List Host.Cell} (a : Nat) {b : BitVec 8} (hb : b ≠ 0) (h : Memory.wf l = true) :
    Memory.wf (bufIns l a b) = true := by
  induction l with
  | nil => exact (wf_cons _ _).mpr ⟨hb, by simp [above], rfl⟩
  | cons c r ih =>
    obtain ⟨h1, h2, h3⟩ := (wf_cons c r).mp h
    unfold bufIns
    split
    · rename_i hlt
      refine (wf_cons _ _).mpr ⟨hb, ?_, h⟩
      intro d hd
      rcases List.mem_cons.mp hd with rfl | hd
      · exact hlt
      · exact Nat.lt_trans hlt (h2 d hd)
    · split
      · rename_i heq
        exact (wf_cons _ _).mpr ⟨hb, fun d hd => heq ▸ h2 d hd, h3⟩
      · rename_i hle hne
        refine (wf_cons _ _).mpr ⟨h1, ?_, ih h3⟩
        intro d hd
        rcases bufIns_mem hd with rfl | hd
        · show c.1 < a
          omega
        · exact h2 d hd

/-- Every write keeps the buffer's form. -/
theorem bufPut_wf (l : List Host.Cell) (a b : Nat) (h : Memory.wf l = true) : Memory.wf (bufPut l a b) = true := by
  unfold bufPut
  split
  · exact bufDel_wf a h
  · rename_i hb
    exact bufIns_wf a hb h

theorem bufGet_bufDel (l : List Host.Cell) (a k : Nat) : bufGet (bufDel l a) k = if k = a then 0 else bufGet l k := by
  induction l with
  | nil => simp [bufDel, bufGet]
  | cons c r ih =>
    unfold bufDel
    split
    · rename_i hc
      rw [ih]
      by_cases hk : k = a
      · simp [hk]
      · have : c.1 ≠ k := fun h => hk (h.symm.trans hc)
        simp [hk, bufGet, this]
    · rename_i hc
      unfold bufGet
      rw [ih]
      by_cases hk : c.1 = k
      · have : k ≠ a := fun h => hc (hk.trans h)
        simp [hk, this]
      · simp [hk]

theorem bufGet_bufIns (l : List Host.Cell) (a : Nat) (b : BitVec 8) (k : Nat) :
    bufGet (bufIns l a b) k = if k = a then b.toNat else bufGet l k := by
  induction l with
  | nil => simp [bufIns, bufGet, eq_comm]
  | cons c r ih =>
    unfold bufIns
    split
    · simp [bufGet, eq_comm]
    · split
      · rename_i hc
        by_cases hk : k = a
        · simp [bufGet, hk]
        · have : ¬ c.1 = k := fun h => hk (h.symm.trans hc)
          have : ¬ a = k := fun h => hk h.symm
          simp [bufGet, *]
      · rename_i h1 hc
        by_cases hk : k = a
        · subst hk
          simp [bufGet, ih, hc]
        · simp [bufGet, ih, hk]

/-- A written byte reads back, and every other address reads as before. -/
theorem bufGet_bufPut (l : List Host.Cell) (a b k : Nat) : bufGet (bufPut l a b) k = if k = a then b % 256 else bufGet l k := by
  unfold bufPut
  split
  · rename_i h
    have hb : b % 256 = 0 := by
      have := congrArg BitVec.toNat h
      simpa using this
    rw [bufGet_bufDel, hb]
  · rw [bufGet_bufIns]
    simp

/-- Right after reset the buffer has its form. -/
theorem reset_buf_wf : Memory.wf State.reset.m.h2w.buf = true := by decide

end Sys2Proof.Machine
end

