-- ==== Sys2Proof/Laws/Checks.lean ====
section
/-! SUPPORT. Laws/Checks.lean: the hypotheses of Safety.lean on a request or a frame, as checks that evaluate. -/

namespace Sys2Proof.Machine

open Sys2Proof

/-- Steps 1 to 7 of R387, as a check. -/
def admittedCheck (x : Sys) (r : Req) : Bool :=
  !x.1.requestFull r && x.2.sessionValid r && !(r.transport == .zwl && x.1.stale.contains r.requester) &&
  r.epoch == x.1.n E.EPOCH 0 && r.epoch != 0 &&
  (match x.2.seqs.find? (·.1 == r.requester) with | some l => newer r.seq l.2 | none => true) && x.2.recordFree

theorem Admitted.of_check {x : Sys} {r : Req} (h : admittedCheck x r = true) : Admitted x r := by
  unfold admittedCheck at h
  simp only [Bool.and_eq_true, Bool.not_eq_true', beq_iff_eq, bne_iff_ne] at h
  obtain ⟨⟨⟨⟨⟨⟨room, session⟩, fresh⟩, epoch⟩, epoch0⟩, seq⟩, record⟩ := h
  refine ⟨room, session, ?_, ⟨epoch, epoch0⟩, ?_, record⟩
  · rintro ⟨p, q⟩
    rw [p, q] at fresh
    simp at fresh
  · intro l hl
    simpa [hl] using seq

/-- Every check of R387 on a whole WRITE that takes `v`. -/
def takesCheck (x : Sys) (r : Req) (f : Fam) (i : Nat) (v : Val) : Bool :=
  admittedCheck x r && r.op == 2 && r.sub != 0 && findEntry r.index r.sub families == some (f, i) && r.ty == tyCode f.ty &&
  r.len == r.data.length && r.offset == 0 && !r.more &&
  (match tySize f.ty with
    | some k => r.data.length == k
    | none => decide (r.data.length ≤ 1024) && decide (r.data.length ≤ f.maxLen)) &&
  v == f.decode r.data && !(ruleOf f i).ro (arrived r x).1 r &&
  (checkValue (arrived r x) f i (ruleOf f i) r ((arrived r x).2.level r) v false false).isNone

theorem Takes.of_check {x : Sys} {r : Req} {f : Fam} {i : Nat} {v : Val} (h : takesCheck x r f i v = true) : Takes x r f i v := by
  unfold takesCheck at h
  simp only [Bool.and_eq_true, Bool.not_eq_true', beq_iff_eq, bne_iff_ne, Option.isNone_iff_eq_none] at h
  obtain ⟨⟨⟨⟨⟨⟨⟨⟨⟨⟨⟨admitted, op⟩, sub⟩, place⟩, type⟩, len⟩, ofs⟩, more⟩, size⟩, value⟩, ro⟩, checks⟩ := h
  refine ⟨.of_check admitted, op, sub, place, type, len, ⟨ofs, more⟩, ?_, ?_, value, ro, checks⟩
  · intro k hk
    simpa [hk] using size
  · intro hk
    simpa [hk] using size

/-- Every check on a READ from its start. -/
def readsCheck (x : Sys) (r : Req) (f : Fam) (i : Nat) : Bool :=
  admittedCheck x r && r.op == 1 && r.sub != 0 && findEntry r.index r.sub families == some (f, i) &&
  (r.ty == tyCode f.ty || r.ty == 0) && r.len == 0 && r.data == [] && r.offset == 0 && !r.stagedView

theorem Reads.of_check {x : Sys} {r : Req} {f : Fam} {i : Nat} (h : readsCheck x r f i = true) : Reads x r f i := by
  unfold readsCheck at h
  simp only [Bool.and_eq_true, Bool.or_eq_true, Bool.not_eq_true', beq_iff_eq, bne_iff_ne] at h
  obtain ⟨⟨⟨⟨⟨⟨⟨⟨admitted, op⟩, sub⟩, place⟩, type⟩, len⟩, data⟩, ofs⟩, staged⟩ := h
  exact ⟨.of_check admitted, op, sub, place, type, ⟨len, data⟩, ⟨ofs, staged⟩⟩

/-- The eight steps of R367, as a check. -/
def passesCheck (m : Mod) (h : Hdr) (typ : Nat) (ln : Option Nat) (who : Nat) : Bool :=
  !m.linkShut typ (ln.getD h.via) && h.fcsOk && headerOk h && h.typ == typ && h.hops != 0 && h.key == m.ringKeyOf h ln && h.key.isSome && m.fresh who h &&
  !(h.lant && newer (if m.fromParent h ln then m.net.parLgen else m.n E.LGEN 0) h.gen) &&
  (staleExempt typ || !m.superseded h) && !m.queueFull (8 + h.cls) h.bytes

theorem PassesBy.of_check {m : Mod} {h : Hdr} {typ : Nat} {ln : Option Nat} {who : Nat}
    (c : passesCheck m h typ ln who = true) : PassesBy m h typ ln who := by
  unfold passesCheck at c
  simp only [Bool.and_eq_true, Bool.or_eq_true, Bool.not_eq_true', beq_iff_eq, bne_iff_ne] at c
  obtain ⟨⟨⟨⟨⟨⟨⟨⟨⟨⟨up, fcs⟩, header⟩, typ_⟩, hops⟩, key⟩, keyed⟩, replay⟩, lgen⟩, gen⟩, room⟩ := c
  refine ⟨up, fcs, ⟨header, typ_, hops⟩, ⟨key, keyed⟩, replay, ?_, gen, room⟩
  rintro ⟨p, q⟩
  rw [p, q] at lgen
  simp at lgen

end Sys2Proof.Machine
end

