-- ==== Sys2Proof/Laws/State.lean ====
section
/-! SUPPORT. Laws/State.lean: what each elementary change of the module leaves as it was, field by field, and how the
dictionary's entries and the timers read after it. -/

namespace Sys2Proof.Machine

open Sys2Proof

/-! ## An entry takes a value: every other field -/

@[simp] theorem Mod.setV_pst (m : Mod) (f : Fam) (i : Nat) (v : Val) : (m.setV f i v).pst = m.pst := rfl
@[simp] theorem Mod.setV_tb (m : Mod) (f : Fam) (i : Nat) (v : Val) : (m.setV f i v).tb = m.tb := rfl
@[simp] theorem Mod.setV_phase (m : Mod) (f : Fam) (i : Nat) (v : Val) : (m.setV f i v).phase = m.phase := rfl
@[simp] theorem Mod.setV_ctl (m : Mod) (f : Fam) (i : Nat) (v : Val) : (m.setV f i v).ctl = m.ctl := rfl
@[simp] theorem Mod.setV_elogQ (m : Mod) (f : Fam) (i : Nat) (v : Val) : (m.setV f i v).elogQ = m.elogQ := rfl
@[simp] theorem Mod.setV_rst (m : Mod) (f : Fam) (i : Nat) (v : Val) : (m.setV f i v).rst = m.rst := rfl
@[simp] theorem Mod.setV_boot (m : Mod) (f : Fam) (i : Nat) (v : Val) : (m.setV f i v).boot = m.boot := rfl
@[simp] theorem Mod.setV_heldWake (m : Mod) (f : Fam) (i : Nat) (v : Val) : (m.setV f i v).heldWake = m.heldWake := rfl
@[simp] theorem Mod.setV_lockstep (m : Mod) (f : Fam) (i : Nat) (v : Val) : (m.setV f i v).lockstep = m.lockstep := rfl
@[simp] theorem Mod.setV_freeCtr (m : Mod) (f : Fam) (i : Nat) (v : Val) : (m.setV f i v).freeCtr = m.freeCtr := rfl
@[simp] theorem Mod.setV_sens (m : Mod) (f : Fam) (i : Nat) (v : Val) : (m.setV f i v).sens = m.sens := rfl
@[simp] theorem Mod.setV_out (m : Mod) (f : Fam) (i : Nat) (v : Val) : (m.setV f i v).out = m.out := rfl
@[simp] theorem Mod.setV_timers (m : Mod) (f : Fam) (i : Nat) (v : Val) : (m.setV f i v).timers = m.timers := rfl
@[simp] theorem Mod.setV_journal (m : Mod) (f : Fam) (i : Nat) (v : Val) : (m.setV f i v).journal = m.journal := rfl
@[simp] theorem Mod.setV_log (m : Mod) (f : Fam) (i : Nat) (v : Val) : (m.setV f i v).log = m.log := rfl
@[simp] theorem Mod.setV_q26 (m : Mod) (f : Fam) (i : Nat) (v : Val) : (m.setV f i v).q26 = m.q26 := rfl
@[simp] theorem Mod.setV_q26Lost (m : Mod) (f : Fam) (i : Nat) (v : Val) : (m.setV f i v).q26Lost = m.q26Lost := rfl
@[simp] theorem Mod.setV_retired (m : Mod) (f : Fam) (i : Nat) (v : Val) : (m.setV f i v).retired = m.retired := rfl
@[simp] theorem Mod.setV_eraseOp (m : Mod) (f : Fam) (i : Nat) (v : Val) : (m.setV f i v).eraseOp = m.eraseOp := rfl
@[simp] theorem Mod.setV_queues (m : Mod) (f : Fam) (i : Nat) (v : Val) : (m.setV f i v).queues = m.queues := rfl
@[simp] theorem Mod.setV_modes (m : Mod) (f : Fam) (i : Nat) (v : Val) : (m.setV f i v).modes = m.modes := rfl
@[simp] theorem Mod.setV_reg (m : Mod) (f : Fam) (i : Nat) (v : Val) : (m.setV f i v).reg = m.reg := rfl
@[simp] theorem Mod.setV_safe (m : Mod) (f : Fam) (i : Nat) (v : Val) : (m.setV f i v).safe = m.safe := rfl
@[simp] theorem Mod.setV_kpr (m : Mod) (f : Fam) (i : Nat) (v : Val) : (m.setV f i v).kpr = m.kpr := rfl
@[simp] theorem Mod.setV_keys (m : Mod) (f : Fam) (i : Nat) (v : Val) : (m.setV f i v).keys = m.keys := rfl
@[simp] theorem Mod.setV_fw (m : Mod) (f : Fam) (i : Nat) (v : Val) : (m.setV f i v).fw = m.fw := rfl
@[simp] theorem Mod.setV_flt (m : Mod) (f : Fam) (i : Nat) (v : Val) : (m.setV f i v).flt = m.flt := rfl
@[simp] theorem Mod.setV_prot (m : Mod) (f : Fam) (i : Nat) (v : Val) : (m.setV f i v).prot = m.prot := rfl
@[simp] theorem Mod.setV_qual (m : Mod) (f : Fam) (i : Nat) (v : Val) : (m.setV f i v).qual = m.qual := rfl
@[simp] theorem Mod.setV_inp (m : Mod) (f : Fam) (i : Nat) (v : Val) : (m.setV f i v).inp = m.inp := rfl
@[simp] theorem Mod.setV_stg (m : Mod) (f : Fam) (i : Nat) (v : Val) : (m.setV f i v).stg = m.stg := rfl
@[simp] theorem Mod.setV_phs (m : Mod) (f : Fam) (i : Nat) (v : Val) : (m.setV f i v).phs = m.phs := rfl
@[simp] theorem Mod.setV_grp (m : Mod) (f : Fam) (i : Nat) (v : Val) : (m.setV f i v).grp = m.grp := rfl
@[simp] theorem Mod.setV_intents (m : Mod) (f : Fam) (i : Nat) (v : Val) : (m.setV f i v).intents = m.intents := rfl
@[simp] theorem Mod.setV_sns (m : Mod) (f : Fam) (i : Nat) (v : Val) : (m.setV f i v).sns = m.sns := rfl
@[simp] theorem Mod.setV_alert (m : Mod) (f : Fam) (i : Nat) (v : Val) : (m.setV f i v).alert = m.alert := rfl
@[simp] theorem Mod.setV_alertNew (m : Mod) (f : Fam) (i : Nat) (v : Val) : (m.setV f i v).alertNew = m.alertNew := rfl
@[simp] theorem Mod.setV_prof (m : Mod) (f : Fam) (i : Nat) (v : Val) : (m.setV f i v).prof = m.prof := rfl
@[simp] theorem Mod.setV_bms (m : Mod) (f : Fam) (i : Nat) (v : Val) : (m.setV f i v).bms = m.bms := rfl
@[simp] theorem Mod.setV_scan (m : Mod) (f : Fam) (i : Nat) (v : Val) : (m.setV f i v).scan = m.scan := rfl
@[simp] theorem Mod.setV_meas (m : Mod) (f : Fam) (i : Nat) (v : Val) : (m.setV f i v).meas = m.meas := rfl
@[simp] theorem Mod.setV_cap (m : Mod) (f : Fam) (i : Nat) (v : Val) : (m.setV f i v).cap = m.cap := rfl
@[simp] theorem Mod.setV_cable (m : Mod) (f : Fam) (i : Nat) (v : Val) : (m.setV f i v).cable = m.cable := rfl
@[simp] theorem Mod.setV_cmp (m : Mod) (f : Fam) (i : Nat) (v : Val) : (m.setV f i v).cmp = m.cmp := rfl
@[simp] theorem Mod.setV_cal (m : Mod) (f : Fam) (i : Nat) (v : Val) : (m.setV f i v).cal = m.cal := rfl
@[simp] theorem Mod.setV_esess (m : Mod) (f : Fam) (i : Nat) (v : Val) : (m.setV f i v).esess = m.esess := rfl
@[simp] theorem Mod.setV_elog (m : Mod) (f : Fam) (i : Nat) (v : Val) : (m.setV f i v).elog = m.elog := rfl
@[simp] theorem Mod.setV_ePos (m : Mod) (f : Fam) (i : Nat) (v : Val) : (m.setV f i v).ePos = m.ePos := rfl
@[simp] theorem Mod.setV_h2w (m : Mod) (f : Fam) (i : Nat) (v : Val) : (m.setV f i v).h2w = m.h2w := rfl
@[simp] theorem Mod.setV_b2w (m : Mod) (f : Fam) (i : Nat) (v : Val) : (m.setV f i v).b2w = m.b2w := rfl
@[simp] theorem Mod.setV_can (m : Mod) (f : Fam) (i : Nat) (v : Val) : (m.setV f i v).can = m.can := rfl
@[simp] theorem Mod.setV_usb (m : Mod) (f : Fam) (i : Nat) (v : Val) : (m.setV f i v).usb = m.usb := rfl
@[simp] theorem Mod.setV_mean (m : Mod) (f : Fam) (i : Nat) (v : Val) : (m.setV f i v).mean = m.mean := rfl
@[simp] theorem Mod.setV_aux (m : Mod) (f : Fam) (i : Nat) (v : Val) : (m.setV f i v).aux = m.aux := rfl
@[simp] theorem Mod.setV_net (m : Mod) (f : Fam) (i : Nat) (v : Val) : (m.setV f i v).net = m.net := rfl
@[simp] theorem Mod.setV_stale (m : Mod) (f : Fam) (i : Nat) (v : Val) : (m.setV f i v).stale = m.stale := rfl
@[simp] theorem Mod.setV_segMooring (m : Mod) (f : Fam) (i : Nat) (v : Val) : (m.setV f i v).segMooring = m.segMooring := rfl

/-! ## A timer is started or stopped: every other field -/

@[simp] theorem Mod.arm_od (m : Mod) (T : Tmr) (d : Nat) : (m.arm T d).od = m.od := rfl
@[simp] theorem Mod.arm_pst (m : Mod) (T : Tmr) (d : Nat) : (m.arm T d).pst = m.pst := rfl
@[simp] theorem Mod.arm_tb (m : Mod) (T : Tmr) (d : Nat) : (m.arm T d).tb = m.tb := rfl
@[simp] theorem Mod.arm_phase (m : Mod) (T : Tmr) (d : Nat) : (m.arm T d).phase = m.phase := rfl
@[simp] theorem Mod.arm_ctl (m : Mod) (T : Tmr) (d : Nat) : (m.arm T d).ctl = m.ctl := rfl
@[simp] theorem Mod.arm_elogQ (m : Mod) (T : Tmr) (d : Nat) : (m.arm T d).elogQ = m.elogQ := rfl
@[simp] theorem Mod.arm_rst (m : Mod) (T : Tmr) (d : Nat) : (m.arm T d).rst = m.rst := rfl
@[simp] theorem Mod.arm_boot (m : Mod) (T : Tmr) (d : Nat) : (m.arm T d).boot = m.boot := rfl
@[simp] theorem Mod.arm_heldWake (m : Mod) (T : Tmr) (d : Nat) : (m.arm T d).heldWake = m.heldWake := rfl
@[simp] theorem Mod.arm_lockstep (m : Mod) (T : Tmr) (d : Nat) : (m.arm T d).lockstep = m.lockstep := rfl
@[simp] theorem Mod.arm_freeCtr (m : Mod) (T : Tmr) (d : Nat) : (m.arm T d).freeCtr = m.freeCtr := rfl
@[simp] theorem Mod.arm_sens (m : Mod) (T : Tmr) (d : Nat) : (m.arm T d).sens = m.sens := rfl
@[simp] theorem Mod.arm_out (m : Mod) (T : Tmr) (d : Nat) : (m.arm T d).out = m.out := rfl
@[simp] theorem Mod.arm_journal (m : Mod) (T : Tmr) (d : Nat) : (m.arm T d).journal = m.journal := rfl
@[simp] theorem Mod.arm_log (m : Mod) (T : Tmr) (d : Nat) : (m.arm T d).log = m.log := rfl
@[simp] theorem Mod.arm_q26 (m : Mod) (T : Tmr) (d : Nat) : (m.arm T d).q26 = m.q26 := rfl
@[simp] theorem Mod.arm_q26Lost (m : Mod) (T : Tmr) (d : Nat) : (m.arm T d).q26Lost = m.q26Lost := rfl
@[simp] theorem Mod.arm_retired (m : Mod) (T : Tmr) (d : Nat) : (m.arm T d).retired = m.retired := rfl
@[simp] theorem Mod.arm_eraseOp (m : Mod) (T : Tmr) (d : Nat) : (m.arm T d).eraseOp = m.eraseOp := rfl
@[simp] theorem Mod.arm_queues (m : Mod) (T : Tmr) (d : Nat) : (m.arm T d).queues = m.queues := rfl
@[simp] theorem Mod.arm_modes (m : Mod) (T : Tmr) (d : Nat) : (m.arm T d).modes = m.modes := rfl
@[simp] theorem Mod.arm_reg (m : Mod) (T : Tmr) (d : Nat) : (m.arm T d).reg = m.reg := rfl
@[simp] theorem Mod.arm_safe (m : Mod) (T : Tmr) (d : Nat) : (m.arm T d).safe = m.safe := rfl
@[simp] theorem Mod.arm_kpr (m : Mod) (T : Tmr) (d : Nat) : (m.arm T d).kpr = m.kpr := rfl
@[simp] theorem Mod.arm_keys (m : Mod) (T : Tmr) (d : Nat) : (m.arm T d).keys = m.keys := rfl
@[simp] theorem Mod.arm_fw (m : Mod) (T : Tmr) (d : Nat) : (m.arm T d).fw = m.fw := rfl
@[simp] theorem Mod.arm_flt (m : Mod) (T : Tmr) (d : Nat) : (m.arm T d).flt = m.flt := rfl
@[simp] theorem Mod.arm_prot (m : Mod) (T : Tmr) (d : Nat) : (m.arm T d).prot = m.prot := rfl
@[simp] theorem Mod.arm_qual (m : Mod) (T : Tmr) (d : Nat) : (m.arm T d).qual = m.qual := rfl
@[simp] theorem Mod.arm_inp (m : Mod) (T : Tmr) (d : Nat) : (m.arm T d).inp = m.inp := rfl
@[simp] theorem Mod.arm_stg (m : Mod) (T : Tmr) (d : Nat) : (m.arm T d).stg = m.stg := rfl
@[simp] theorem Mod.arm_phs (m : Mod) (T : Tmr) (d : Nat) : (m.arm T d).phs = m.phs := rfl
@[simp] theorem Mod.arm_grp (m : Mod) (T : Tmr) (d : Nat) : (m.arm T d).grp = m.grp := rfl
@[simp] theorem Mod.arm_intents (m : Mod) (T : Tmr) (d : Nat) : (m.arm T d).intents = m.intents := rfl
@[simp] theorem Mod.arm_sns (m : Mod) (T : Tmr) (d : Nat) : (m.arm T d).sns = m.sns := rfl
@[simp] theorem Mod.arm_alert (m : Mod) (T : Tmr) (d : Nat) : (m.arm T d).alert = m.alert := rfl
@[simp] theorem Mod.arm_alertNew (m : Mod) (T : Tmr) (d : Nat) : (m.arm T d).alertNew = m.alertNew := rfl
@[simp] theorem Mod.arm_prof (m : Mod) (T : Tmr) (d : Nat) : (m.arm T d).prof = m.prof := rfl
@[simp] theorem Mod.arm_bms (m : Mod) (T : Tmr) (d : Nat) : (m.arm T d).bms = m.bms := rfl
@[simp] theorem Mod.arm_scan (m : Mod) (T : Tmr) (d : Nat) : (m.arm T d).scan = m.scan := rfl
@[simp] theorem Mod.arm_meas (m : Mod) (T : Tmr) (d : Nat) : (m.arm T d).meas = m.meas := rfl
@[simp] theorem Mod.arm_cap (m : Mod) (T : Tmr) (d : Nat) : (m.arm T d).cap = m.cap := rfl
@[simp] theorem Mod.arm_cable (m : Mod) (T : Tmr) (d : Nat) : (m.arm T d).cable = m.cable := rfl
@[simp] theorem Mod.arm_cmp (m : Mod) (T : Tmr) (d : Nat) : (m.arm T d).cmp = m.cmp := rfl
@[simp] theorem Mod.arm_cal (m : Mod) (T : Tmr) (d : Nat) : (m.arm T d).cal = m.cal := rfl
@[simp] theorem Mod.arm_esess (m : Mod) (T : Tmr) (d : Nat) : (m.arm T d).esess = m.esess := rfl
@[simp] theorem Mod.arm_elog (m : Mod) (T : Tmr) (d : Nat) : (m.arm T d).elog = m.elog := rfl
@[simp] theorem Mod.arm_ePos (m : Mod) (T : Tmr) (d : Nat) : (m.arm T d).ePos = m.ePos := rfl
@[simp] theorem Mod.arm_h2w (m : Mod) (T : Tmr) (d : Nat) : (m.arm T d).h2w = m.h2w := rfl
@[simp] theorem Mod.arm_b2w (m : Mod) (T : Tmr) (d : Nat) : (m.arm T d).b2w = m.b2w := rfl
@[simp] theorem Mod.arm_can (m : Mod) (T : Tmr) (d : Nat) : (m.arm T d).can = m.can := rfl
@[simp] theorem Mod.arm_usb (m : Mod) (T : Tmr) (d : Nat) : (m.arm T d).usb = m.usb := rfl
@[simp] theorem Mod.arm_mean (m : Mod) (T : Tmr) (d : Nat) : (m.arm T d).mean = m.mean := rfl
@[simp] theorem Mod.arm_aux (m : Mod) (T : Tmr) (d : Nat) : (m.arm T d).aux = m.aux := rfl
@[simp] theorem Mod.arm_net (m : Mod) (T : Tmr) (d : Nat) : (m.arm T d).net = m.net := rfl
@[simp] theorem Mod.arm_stale (m : Mod) (T : Tmr) (d : Nat) : (m.arm T d).stale = m.stale := rfl
@[simp] theorem Mod.arm_segMooring (m : Mod) (T : Tmr) (d : Nat) : (m.arm T d).segMooring = m.segMooring := rfl

@[simp] theorem Mod.disarm_od (m : Mod) (T : Tmr) : (m.disarm T).od = m.od := rfl
@[simp] theorem Mod.disarm_pst (m : Mod) (T : Tmr) : (m.disarm T).pst = m.pst := rfl
@[simp] theorem Mod.disarm_tb (m : Mod) (T : Tmr) : (m.disarm T).tb = m.tb := rfl
@[simp] theorem Mod.disarm_phase (m : Mod) (T : Tmr) : (m.disarm T).phase = m.phase := rfl
@[simp] theorem Mod.disarm_ctl (m : Mod) (T : Tmr) : (m.disarm T).ctl = m.ctl := rfl
@[simp] theorem Mod.disarm_elogQ (m : Mod) (T : Tmr) : (m.disarm T).elogQ = m.elogQ := rfl
@[simp] theorem Mod.disarm_rst (m : Mod) (T : Tmr) : (m.disarm T).rst = m.rst := rfl
@[simp] theorem Mod.disarm_boot (m : Mod) (T : Tmr) : (m.disarm T).boot = m.boot := rfl
@[simp] theorem Mod.disarm_heldWake (m : Mod) (T : Tmr) : (m.disarm T).heldWake = m.heldWake := rfl
@[simp] theorem Mod.disarm_lockstep (m : Mod) (T : Tmr) : (m.disarm T).lockstep = m.lockstep := rfl
@[simp] theorem Mod.disarm_freeCtr (m : Mod) (T : Tmr) : (m.disarm T).freeCtr = m.freeCtr := rfl
@[simp] theorem Mod.disarm_sens (m : Mod) (T : Tmr) : (m.disarm T).sens = m.sens := rfl
@[simp] theorem Mod.disarm_out (m : Mod) (T : Tmr) : (m.disarm T).out = m.out := rfl
@[simp] theorem Mod.disarm_journal (m : Mod) (T : Tmr) : (m.disarm T).journal = m.journal := rfl
@[simp] theorem Mod.disarm_log (m : Mod) (T : Tmr) : (m.disarm T).log = m.log := rfl
@[simp] theorem Mod.disarm_q26 (m : Mod) (T : Tmr) : (m.disarm T).q26 = m.q26 := rfl
@[simp] theorem Mod.disarm_q26Lost (m : Mod) (T : Tmr) : (m.disarm T).q26Lost = m.q26Lost := rfl
@[simp] theorem Mod.disarm_retired (m : Mod) (T : Tmr) : (m.disarm T).retired = m.retired := rfl
@[simp] theorem Mod.disarm_eraseOp (m : Mod) (T : Tmr) : (m.disarm T).eraseOp = m.eraseOp := rfl
@[simp] theorem Mod.disarm_queues (m : Mod) (T : Tmr) : (m.disarm T).queues = m.queues := rfl
@[simp] theorem Mod.disarm_modes (m : Mod) (T : Tmr) : (m.disarm T).modes = m.modes := rfl
@[simp] theorem Mod.disarm_reg (m : Mod) (T : Tmr) : (m.disarm T).reg = m.reg := rfl
@[simp] theorem Mod.disarm_safe (m : Mod) (T : Tmr) : (m.disarm T).safe = m.safe := rfl
@[simp] theorem Mod.disarm_kpr (m : Mod) (T : Tmr) : (m.disarm T).kpr = m.kpr := rfl
@[simp] theorem Mod.disarm_keys (m : Mod) (T : Tmr) : (m.disarm T).keys = m.keys := rfl
@[simp] theorem Mod.disarm_fw (m : Mod) (T : Tmr) : (m.disarm T).fw = m.fw := rfl
@[simp] theorem Mod.disarm_flt (m : Mod) (T : Tmr) : (m.disarm T).flt = m.flt := rfl
@[simp] theorem Mod.disarm_prot (m : Mod) (T : Tmr) : (m.disarm T).prot = m.prot := rfl
@[simp] theorem Mod.disarm_qual (m : Mod) (T : Tmr) : (m.disarm T).qual = m.qual := rfl
@[simp] theorem Mod.disarm_inp (m : Mod) (T : Tmr) : (m.disarm T).inp = m.inp := rfl
@[simp] theorem Mod.disarm_stg (m : Mod) (T : Tmr) : (m.disarm T).stg = m.stg := rfl
@[simp] theorem Mod.disarm_phs (m : Mod) (T : Tmr) : (m.disarm T).phs = m.phs := rfl
@[simp] theorem Mod.disarm_grp (m : Mod) (T : Tmr) : (m.disarm T).grp = m.grp := rfl
@[simp] theorem Mod.disarm_intents (m : Mod) (T : Tmr) : (m.disarm T).intents = m.intents := rfl
@[simp] theorem Mod.disarm_sns (m : Mod) (T : Tmr) : (m.disarm T).sns = m.sns := rfl
@[simp] theorem Mod.disarm_alert (m : Mod) (T : Tmr) : (m.disarm T).alert = m.alert := rfl
@[simp] theorem Mod.disarm_alertNew (m : Mod) (T : Tmr) : (m.disarm T).alertNew = m.alertNew := rfl
@[simp] theorem Mod.disarm_prof (m : Mod) (T : Tmr) : (m.disarm T).prof = m.prof := rfl
@[simp] theorem Mod.disarm_bms (m : Mod) (T : Tmr) : (m.disarm T).bms = m.bms := rfl
@[simp] theorem Mod.disarm_scan (m : Mod) (T : Tmr) : (m.disarm T).scan = m.scan := rfl
@[simp] theorem Mod.disarm_meas (m : Mod) (T : Tmr) : (m.disarm T).meas = m.meas := rfl
@[simp] theorem Mod.disarm_cap (m : Mod) (T : Tmr) : (m.disarm T).cap = m.cap := rfl
@[simp] theorem Mod.disarm_cable (m : Mod) (T : Tmr) : (m.disarm T).cable = m.cable := rfl
@[simp] theorem Mod.disarm_cmp (m : Mod) (T : Tmr) : (m.disarm T).cmp = m.cmp := rfl
@[simp] theorem Mod.disarm_cal (m : Mod) (T : Tmr) : (m.disarm T).cal = m.cal := rfl
@[simp] theorem Mod.disarm_esess (m : Mod) (T : Tmr) : (m.disarm T).esess = m.esess := rfl
@[simp] theorem Mod.disarm_elog (m : Mod) (T : Tmr) : (m.disarm T).elog = m.elog := rfl
@[simp] theorem Mod.disarm_ePos (m : Mod) (T : Tmr) : (m.disarm T).ePos = m.ePos := rfl
@[simp] theorem Mod.disarm_h2w (m : Mod) (T : Tmr) : (m.disarm T).h2w = m.h2w := rfl
@[simp] theorem Mod.disarm_b2w (m : Mod) (T : Tmr) : (m.disarm T).b2w = m.b2w := rfl
@[simp] theorem Mod.disarm_can (m : Mod) (T : Tmr) : (m.disarm T).can = m.can := rfl
@[simp] theorem Mod.disarm_usb (m : Mod) (T : Tmr) : (m.disarm T).usb = m.usb := rfl
@[simp] theorem Mod.disarm_mean (m : Mod) (T : Tmr) : (m.disarm T).mean = m.mean := rfl
@[simp] theorem Mod.disarm_aux (m : Mod) (T : Tmr) : (m.disarm T).aux = m.aux := rfl
@[simp] theorem Mod.disarm_net (m : Mod) (T : Tmr) : (m.disarm T).net = m.net := rfl
@[simp] theorem Mod.disarm_stale (m : Mod) (T : Tmr) : (m.disarm T).stale = m.stale := rfl
@[simp] theorem Mod.disarm_segMooring (m : Mod) (T : Tmr) : (m.disarm T).segMooring = m.segMooring := rfl

/-! ## Something leaves at a port: every other field -/

@[simp] theorem Mod.emit_od (m : Mod) (o : Out) : (m.emit o).od = m.od := rfl
@[simp] theorem Mod.emit_pst (m : Mod) (o : Out) : (m.emit o).pst = m.pst := rfl
@[simp] theorem Mod.emit_tb (m : Mod) (o : Out) : (m.emit o).tb = m.tb := rfl
@[simp] theorem Mod.emit_phase (m : Mod) (o : Out) : (m.emit o).phase = m.phase := rfl
@[simp] theorem Mod.emit_ctl (m : Mod) (o : Out) : (m.emit o).ctl = m.ctl := rfl
@[simp] theorem Mod.emit_elogQ (m : Mod) (o : Out) : (m.emit o).elogQ = m.elogQ := rfl
@[simp] theorem Mod.emit_rst (m : Mod) (o : Out) : (m.emit o).rst = m.rst := rfl
@[simp] theorem Mod.emit_boot (m : Mod) (o : Out) : (m.emit o).boot = m.boot := rfl
@[simp] theorem Mod.emit_heldWake (m : Mod) (o : Out) : (m.emit o).heldWake = m.heldWake := rfl
@[simp] theorem Mod.emit_lockstep (m : Mod) (o : Out) : (m.emit o).lockstep = m.lockstep := rfl
@[simp] theorem Mod.emit_freeCtr (m : Mod) (o : Out) : (m.emit o).freeCtr = m.freeCtr := rfl
@[simp] theorem Mod.emit_sens (m : Mod) (o : Out) : (m.emit o).sens = m.sens := rfl
@[simp] theorem Mod.emit_timers (m : Mod) (o : Out) : (m.emit o).timers = m.timers := rfl
@[simp] theorem Mod.emit_journal (m : Mod) (o : Out) : (m.emit o).journal = m.journal := rfl
@[simp] theorem Mod.emit_log (m : Mod) (o : Out) : (m.emit o).log = m.log := rfl
@[simp] theorem Mod.emit_q26 (m : Mod) (o : Out) : (m.emit o).q26 = m.q26 := rfl
@[simp] theorem Mod.emit_q26Lost (m : Mod) (o : Out) : (m.emit o).q26Lost = m.q26Lost := rfl
@[simp] theorem Mod.emit_retired (m : Mod) (o : Out) : (m.emit o).retired = m.retired := rfl
@[simp] theorem Mod.emit_eraseOp (m : Mod) (o : Out) : (m.emit o).eraseOp = m.eraseOp := rfl
@[simp] theorem Mod.emit_queues (m : Mod) (o : Out) : (m.emit o).queues = m.queues := rfl
@[simp] theorem Mod.emit_modes (m : Mod) (o : Out) : (m.emit o).modes = m.modes := rfl
@[simp] theorem Mod.emit_reg (m : Mod) (o : Out) : (m.emit o).reg = m.reg := rfl
@[simp] theorem Mod.emit_safe (m : Mod) (o : Out) : (m.emit o).safe = m.safe := rfl
@[simp] theorem Mod.emit_kpr (m : Mod) (o : Out) : (m.emit o).kpr = m.kpr := rfl
@[simp] theorem Mod.emit_keys (m : Mod) (o : Out) : (m.emit o).keys = m.keys := rfl
@[simp] theorem Mod.emit_fw (m : Mod) (o : Out) : (m.emit o).fw = m.fw := rfl
@[simp] theorem Mod.emit_flt (m : Mod) (o : Out) : (m.emit o).flt = m.flt := rfl
@[simp] theorem Mod.emit_prot (m : Mod) (o : Out) : (m.emit o).prot = m.prot := rfl
@[simp] theorem Mod.emit_qual (m : Mod) (o : Out) : (m.emit o).qual = m.qual := rfl
@[simp] theorem Mod.emit_inp (m : Mod) (o : Out) : (m.emit o).inp = m.inp := rfl
@[simp] theorem Mod.emit_stg (m : Mod) (o : Out) : (m.emit o).stg = m.stg := rfl
@[simp] theorem Mod.emit_phs (m : Mod) (o : Out) : (m.emit o).phs = m.phs := rfl
@[simp] theorem Mod.emit_grp (m : Mod) (o : Out) : (m.emit o).grp = m.grp := rfl
@[simp] theorem Mod.emit_intents (m : Mod) (o : Out) : (m.emit o).intents = m.intents := rfl
@[simp] theorem Mod.emit_sns (m : Mod) (o : Out) : (m.emit o).sns = m.sns := rfl
@[simp] theorem Mod.emit_alert (m : Mod) (o : Out) : (m.emit o).alert = m.alert := rfl
@[simp] theorem Mod.emit_alertNew (m : Mod) (o : Out) : (m.emit o).alertNew = m.alertNew := rfl
@[simp] theorem Mod.emit_prof (m : Mod) (o : Out) : (m.emit o).prof = m.prof := rfl
@[simp] theorem Mod.emit_bms (m : Mod) (o : Out) : (m.emit o).bms = m.bms := rfl
@[simp] theorem Mod.emit_scan (m : Mod) (o : Out) : (m.emit o).scan = m.scan := rfl
@[simp] theorem Mod.emit_meas (m : Mod) (o : Out) : (m.emit o).meas = m.meas := rfl
@[simp] theorem Mod.emit_cap (m : Mod) (o : Out) : (m.emit o).cap = m.cap := rfl
@[simp] theorem Mod.emit_cable (m : Mod) (o : Out) : (m.emit o).cable = m.cable := rfl
@[simp] theorem Mod.emit_cmp (m : Mod) (o : Out) : (m.emit o).cmp = m.cmp := rfl
@[simp] theorem Mod.emit_cal (m : Mod) (o : Out) : (m.emit o).cal = m.cal := rfl
@[simp] theorem Mod.emit_esess (m : Mod) (o : Out) : (m.emit o).esess = m.esess := rfl
@[simp] theorem Mod.emit_elog (m : Mod) (o : Out) : (m.emit o).elog = m.elog := rfl
@[simp] theorem Mod.emit_ePos (m : Mod) (o : Out) : (m.emit o).ePos = m.ePos := rfl
@[simp] theorem Mod.emit_h2w (m : Mod) (o : Out) : (m.emit o).h2w = m.h2w := rfl
@[simp] theorem Mod.emit_b2w (m : Mod) (o : Out) : (m.emit o).b2w = m.b2w := rfl
@[simp] theorem Mod.emit_can (m : Mod) (o : Out) : (m.emit o).can = m.can := rfl
@[simp] theorem Mod.emit_usb (m : Mod) (o : Out) : (m.emit o).usb = m.usb := rfl
@[simp] theorem Mod.emit_mean (m : Mod) (o : Out) : (m.emit o).mean = m.mean := rfl
@[simp] theorem Mod.emit_aux (m : Mod) (o : Out) : (m.emit o).aux = m.aux := rfl
@[simp] theorem Mod.emit_net (m : Mod) (o : Out) : (m.emit o).net = m.net := rfl
@[simp] theorem Mod.emit_stale (m : Mod) (o : Out) : (m.emit o).stale = m.stale := rfl
@[simp] theorem Mod.emit_segMooring (m : Mod) (o : Out) : (m.emit o).segMooring = m.segMooring := rfl

/-! ## The numeric forms of a change of an entry -/

@[simp] theorem Mod.setN_eq (m : Mod) (f : Fam) (i v : Nat) : m.setN f i v = m.setV f i (.num v) := rfl
@[simp] theorem Mod.setQ_eq (m : Mod) (f : Fam) (i : Nat) (v : Rat) : m.setQ f i v = m.setV f i (.num (f32OfRat v)) := rfl
@[simp] theorem Mod.setB_eq (m : Mod) (f : Fam) (i : Nat) (v : Bool) : m.setB f i v = m.setV f i (.num (b2n v)) := rfl
@[simp] theorem Mod.setBytes_eq (m : Mod) (f : Fam) (i : Nat) (v : List Nat) : m.setBytes f i v = m.setV f i (.bytes v) := rfl
@[simp] theorem Mod.inc_eq (m : Mod) (f : Fam) (i : Nat) : m.inc f i = m.setV f i (.num (inc32 (m.n f i))) := rfl
@[simp] theorem Mod.add_eq (m : Mod) (f : Fam) (i k : Nat) : m.add f i k = m.setV f i (.num ((m.n f i + k) % 2 ^ 32)) := rfl
@[simp] theorem Mod.setBit_eq (m : Mod) (f : Fam) (i k : Nat) (v : Bool) :
    m.setBit f i k v = m.setV f i (.num (Sys2Proof.setBit (m.n f i) k v)) := rfl

@[simp] theorem Mod.when_true (m : Mod) (f : Mod → Mod) : m.when true f = f m := rfl
@[simp] theorem Mod.when_false (m : Mod) (f : Mod → Mod) : m.when false f = m := rfl

/-! ## The store -/

theorem odGet_odDel_same (l : List (Nat × Val)) (k : Nat) : odGet (odDel l k) k = none := by
  induction l with
  | nil => rfl
  | cons e r ih => by_cases h : e.1 = k <;> simp [odDel, odGet, h, ih]

theorem odGet_odDel_ne (l : List (Nat × Val)) {k j : Nat} (h : j ≠ k) : odGet (odDel l k) j = odGet l j := by
  induction l with
  | nil => rfl
  | cons e r ih =>
    by_cases h1 : e.1 = k
    · have : e.1 ≠ j := fun h2 => h (h2 ▸ h1)
      simp [odDel, odGet, h1, ih]
      intro h2; exact absurd h2.symm h
    · simp [odDel, odGet, h1, ih]

theorem odGet_odPut_same (l : List (Nat × Val)) (k : Nat) (v : Val) : odGet (odPut l k v) k = some v := by
  induction l with
  | nil => simp [odPut, odGet]
  | cons e r ih =>
    simp only [odPut]
    split
    · simp [odGet]
    · split
      · simp [odGet]
      · rename_i h1 h2; simp [odGet, h2, ih]

theorem odGet_odPut_ne (l : List (Nat × Val)) {k j : Nat} (v : Val) (h : j ≠ k) : odGet (odPut l k v) j = odGet l j := by
  have h' : ¬ k = j := fun e => h e.symm
  induction l with
  | nil => simp [odPut, odGet, h']
  | cons e r ih =>
    simp only [odPut]
    split
    · simp [odGet, h']
    · split
      · rename_i h1 h2
        have : ¬ e.1 = j := fun e2 => h' (h2 ▸ e2)
        simp [odGet, h', this]
      · simp [odGet, ih]

/-- An entry that exists reads the value it has taken. -/
@[simp] theorem Mod.getV_setV_same (m : Mod) (f : Fam) (i : Nat) (v : Val) (h : i < f.count) : (m.setV f i v).getV f i = v := by
  simp only [Mod.setV, Mod.getV, h, if_true]
  split
  · rename_i hv; simp [odGet_odDel_same, hv]
  · simp [odGet_odPut_same]

/-- Another place of the store is as it was. -/
theorem Mod.odGet_setV_ne (m : Mod) (f : Fam) (i : Nat) (v : Val) {k : Nat} (h : k ≠ f.key i) :
    odGet (m.setV f i v).od k = odGet m.od k := by
  simp only [Mod.setV]
  split
  · split
    · exact odGet_odDel_ne _ h
    · exact odGet_odPut_ne _ _ h
  · rfl

/-- Another entry reads as it did. -/
@[simp] theorem Mod.getV_setV_ne (m : Mod) (f g : Fam) (i j : Nat) (v : Val) (h : g.key j ≠ f.key i) :
    (m.setV f i v).getV g j = m.getV g j := by
  simp only [Mod.getV, Mod.odGet_setV_ne m f i v h]

@[simp] theorem Mod.n_setV_same (m : Mod) (f : Fam) (i : Nat) (v : Val) (h : i < f.count) : (m.setV f i v).n f i = v.toNat := by
  simp only [Mod.n, Mod.getV_setV_same m f i v h]

@[simp] theorem Mod.n_setV_ne (m : Mod) (f g : Fam) (i j : Nat) (v : Val) (h : g.key j ≠ f.key i) :
    (m.setV f i v).n g j = m.n g j := by
  simp only [Mod.n, Mod.getV_setV_ne m f g i j v h]

/-- An entry depends on the store alone. -/
theorem Mod.getV_congr {m m' : Mod} (f : Fam) (i : Nat) (h : odGet m'.od (f.key i) = odGet m.od (f.key i)) :
    m'.getV f i = m.getV f i := by simp only [Mod.getV, h]

/-! ## The store's form -/

/-- A place below every place of a list. -/
def below (k : Nat) : List (Nat × Val) → Prop
  | [] => True
  | e :: _ => k < e.1

theorem odSorted_cons (e : Nat × Val) (r : List (Nat × Val)) : odSorted (e :: r) = true ↔ below e.1 r ∧ odSorted r = true := by
  cases r with
  | nil => simp [odSorted, below]
  | cons a b => simp [odSorted, below]

theorem below_trans {k j : Nat} (h : k < j) {l : List (Nat × Val)} (hl : below j l) : below k l := by
  cases l with
  | nil => trivial
  | cons a b => exact Nat.lt_trans h hl

theorem below_odDel {k j : Nat} {l : List (Nat × Val)} (hs : odSorted l = true) (h : below k l) : below k (odDel l j) := by
  induction l with
  | nil => trivial
  | cons a b ih =>
    have hs' := (odSorted_cons a b).1 hs
    simp only [odDel]
    split
    · exact ih hs'.2 (below_trans h hs'.1)
    · exact h

theorem odSorted_odDel {l : List (Nat × Val)} (j : Nat) (hs : odSorted l = true) : odSorted (odDel l j) = true := by
  induction l with
  | nil => rfl
  | cons a b ih =>
    have hs' := (odSorted_cons a b).1 hs
    simp only [odDel]
    split
    · exact ih hs'.2
    · exact (odSorted_cons _ _).2 ⟨below_odDel hs'.2 hs'.1, ih hs'.2⟩

theorem below_odPut {k j : Nat} {v : Val} {l : List (Nat × Val)} (h : below k l) (hj : k < j) : below k (odPut l j v) := by
  cases l with
  | nil => exact hj
  | cons a b =>
    simp only [odPut]
    split
    · exact hj
    · split
      · exact hj
      · exact h

theorem odSorted_odPut {l : List (Nat × Val)} (j : Nat) (v : Val) (hs : odSorted l = true) : odSorted (odPut l j v) = true := by
  induction l with
  | nil => rfl
  | cons a b ih =>
    have hs' := (odSorted_cons a b).1 hs
    simp only [odPut]
    split
    · exact (odSorted_cons _ _).2 ⟨by assumption, hs⟩
    · split
      · rename_i h1 h2; exact (odSorted_cons _ _).2 ⟨by rw [← h2]; exact hs'.1, hs'.2⟩
      · rename_i h1 h2; exact (odSorted_cons _ _).2 ⟨below_odPut hs'.1 (by omega), ih hs'.2⟩

/-- Every change of an entry keeps the store's form. -/
theorem Mod.odSorted_setV (m : Mod) (f : Fam) (i : Nat) (v : Val) (h : odSorted m.od = true) : odSorted (m.setV f i v).od = true := by
  simp only [Mod.setV]
  split
  · split
    · exact odSorted_odDel _ h
    · exact odSorted_odPut _ _ h
  · exact h

/-! ## Timers -/

@[simp] theorem Mod.deadline_arm_same (m : Mod) (T : Tmr) (d : Nat) : (m.arm T d).deadline T = some d := by
  simp [Mod.arm, Mod.deadline]

theorem find_filter_ne (l : List (Tmr × Nat)) {T U : Tmr} (h : U ≠ T) :
    (l.filter (fun x => decide (x.1 ≠ T))).find? (fun x => decide (x.1 = U)) = l.find? (fun x => decide (x.1 = U)) := by
  induction l with
  | nil => rfl
  | cons a b ih =>
    by_cases h1 : a.1 = T
    · have h2 : ¬ T = U := fun e => h e.symm
      simpa [List.filter, List.find?, h1, h2] using ih
    · by_cases h2 : a.1 = U
      · simp [List.filter, List.find?, h2, h]
      · simpa [List.filter, List.find?, h1, h2] using ih

theorem find_filter_same (l : List (Tmr × Nat)) (T : Tmr) :
    (l.filter (fun x => decide (x.1 ≠ T))).find? (fun x => decide (x.1 = T)) = none := by
  simp [List.find?_eq_none]

@[simp] theorem Mod.deadline_disarm_same (m : Mod) (T : Tmr) : (m.disarm T).deadline T = none := by
  simp only [Mod.disarm, Mod.deadline, find_filter_same, Option.map_none]

@[simp] theorem Mod.deadline_disarm_ne (m : Mod) {T U : Tmr} (h : U ≠ T) : (m.disarm T).deadline U = m.deadline U := by
  simp only [Mod.disarm, Mod.deadline, find_filter_ne _ h]

@[simp] theorem Mod.deadline_arm_ne (m : Mod) {T U : Tmr} (d : Nat) (h : U ≠ T) : (m.arm T d).deadline U = m.deadline U := by
  have h' : ¬ T = U := fun e => h e.symm
  simp only [Mod.arm, Mod.deadline, List.find?, h', decide_false, find_filter_ne _ h]

@[simp] theorem Mod.deadline_setV (m : Mod) (f : Fam) (i : Nat) (v : Val) (T : Tmr) : (m.setV f i v).deadline T = m.deadline T := rfl
@[simp] theorem Mod.deadline_emit (m : Mod) (o : Out) (T : Tmr) : (m.emit o).deadline T = m.deadline T := rfl
@[simp] theorem Mod.n_arm (m : Mod) (T : Tmr) (d : Nat) (f : Fam) (i : Nat) : (m.arm T d).n f i = m.n f i := rfl
@[simp] theorem Mod.n_disarm (m : Mod) (T : Tmr) (f : Fam) (i : Nat) : (m.disarm T).n f i = m.n f i := rfl
@[simp] theorem Mod.n_emit (m : Mod) (o : Out) (f : Fam) (i : Nat) : (m.emit o).n f i = m.n f i := rfl

/-! ## A stage, a phase, a group, an input, a port, a block or a link changes: entries, timers and the rest -/

@[simp] theorem Mod.modLink_od (m : Mod) (l : Nat) (h : LinkS → LinkS) : (m.modLink l h).od = m.od := rfl
@[simp] theorem Mod.modLink_tb (m : Mod) (l : Nat) (h : LinkS → LinkS) : (m.modLink l h).tb = m.tb := rfl
@[simp] theorem Mod.modLink_out (m : Mod) (l : Nat) (h : LinkS → LinkS) : (m.modLink l h).out = m.out := rfl
@[simp] theorem Mod.modLink_timers (m : Mod) (l : Nat) (h : LinkS → LinkS) : (m.modLink l h).timers = m.timers := rfl
@[simp] theorem Mod.modLink_log (m : Mod) (l : Nat) (h : LinkS → LinkS) : (m.modLink l h).log = m.log := rfl
@[simp] theorem Mod.modLink_journal (m : Mod) (l : Nat) (h : LinkS → LinkS) : (m.modLink l h).journal = m.journal := rfl
@[simp] theorem Mod.n_modLink (m : Mod) (l : Nat) (h : LinkS → LinkS) (f : Fam) (i : Nat) : (m.modLink l h).n f i = m.n f i := rfl
@[simp] theorem Mod.q_modLink (m : Mod) (l : Nat) (h : LinkS → LinkS) (f : Fam) (i : Nat) : (m.modLink l h).q f i = m.q f i := rfl
@[simp] theorem Mod.deadline_modLink (m : Mod) (l : Nat) (h : LinkS → LinkS) (T : Tmr) : (m.modLink l h).deadline T = m.deadline T := rfl
@[simp] theorem Mod.modFlt_od (m : Mod) (b : Nat) (h : Flt → Flt) : (m.modFlt b h).od = m.od := rfl
@[simp] theorem Mod.modFlt_tb (m : Mod) (b : Nat) (h : Flt → Flt) : (m.modFlt b h).tb = m.tb := rfl
@[simp] theorem Mod.modFlt_out (m : Mod) (b : Nat) (h : Flt → Flt) : (m.modFlt b h).out = m.out := rfl
@[simp] theorem Mod.modFlt_timers (m : Mod) (b : Nat) (h : Flt → Flt) : (m.modFlt b h).timers = m.timers := rfl
@[simp] theorem Mod.modFlt_log (m : Mod) (b : Nat) (h : Flt → Flt) : (m.modFlt b h).log = m.log := rfl
@[simp] theorem Mod.modFlt_journal (m : Mod) (b : Nat) (h : Flt → Flt) : (m.modFlt b h).journal = m.journal := rfl
@[simp] theorem Mod.modFlt_flt (m : Mod) (b : Nat) (h : Flt → Flt) : (m.modFlt b h).flt = modAt {} m.flt b h := rfl
@[simp] theorem Mod.n_modFlt (m : Mod) (b : Nat) (h : Flt → Flt) (f : Fam) (i : Nat) : (m.modFlt b h).n f i = m.n f i := rfl
@[simp] theorem Mod.q_modFlt (m : Mod) (b : Nat) (h : Flt → Flt) (f : Fam) (i : Nat) : (m.modFlt b h).q f i = m.q f i := rfl
@[simp] theorem Mod.deadline_modFlt (m : Mod) (b : Nat) (h : Flt → Flt) (T : Tmr) : (m.modFlt b h).deadline T = m.deadline T := rfl
@[simp] theorem Mod.modStg_od (m : Mod) (g : Nat) (h : Stg → Stg) : (m.modStg g h).od = m.od := rfl
@[simp] theorem Mod.modStg_tb (m : Mod) (g : Nat) (h : Stg → Stg) : (m.modStg g h).tb = m.tb := rfl
@[simp] theorem Mod.modStg_out (m : Mod) (g : Nat) (h : Stg → Stg) : (m.modStg g h).out = m.out := rfl
@[simp] theorem Mod.modStg_timers (m : Mod) (g : Nat) (h : Stg → Stg) : (m.modStg g h).timers = m.timers := rfl
@[simp] theorem Mod.modStg_log (m : Mod) (g : Nat) (h : Stg → Stg) : (m.modStg g h).log = m.log := rfl
@[simp] theorem Mod.modStg_journal (m : Mod) (g : Nat) (h : Stg → Stg) : (m.modStg g h).journal = m.journal := rfl
@[simp] theorem Mod.modStg_stg (m : Mod) (g : Nat) (h : Stg → Stg) : (m.modStg g h).stg = modAt {} m.stg g h := rfl
@[simp] theorem Mod.n_modStg (m : Mod) (g : Nat) (h : Stg → Stg) (f : Fam) (i : Nat) : (m.modStg g h).n f i = m.n f i := rfl
@[simp] theorem Mod.q_modStg (m : Mod) (g : Nat) (h : Stg → Stg) (f : Fam) (i : Nat) : (m.modStg g h).q f i = m.q f i := rfl
@[simp] theorem Mod.deadline_modStg (m : Mod) (g : Nat) (h : Stg → Stg) (T : Tmr) : (m.modStg g h).deadline T = m.deadline T := rfl
@[simp] theorem Mod.modPh_od (m : Mod) (p : Nat) (h : Ph → Ph) : (m.modPh p h).od = m.od := rfl
@[simp] theorem Mod.modPh_tb (m : Mod) (p : Nat) (h : Ph → Ph) : (m.modPh p h).tb = m.tb := rfl
@[simp] theorem Mod.modPh_out (m : Mod) (p : Nat) (h : Ph → Ph) : (m.modPh p h).out = m.out := rfl
@[simp] theorem Mod.modPh_timers (m : Mod) (p : Nat) (h : Ph → Ph) : (m.modPh p h).timers = m.timers := rfl
@[simp] theorem Mod.modPh_log (m : Mod) (p : Nat) (h : Ph → Ph) : (m.modPh p h).log = m.log := rfl
@[simp] theorem Mod.modPh_journal (m : Mod) (p : Nat) (h : Ph → Ph) : (m.modPh p h).journal = m.journal := rfl
@[simp] theorem Mod.modPh_phs (m : Mod) (p : Nat) (h : Ph → Ph) : (m.modPh p h).phs = modAt {} m.phs p h := rfl
@[simp] theorem Mod.n_modPh (m : Mod) (p : Nat) (h : Ph → Ph) (f : Fam) (i : Nat) : (m.modPh p h).n f i = m.n f i := rfl
@[simp] theorem Mod.q_modPh (m : Mod) (p : Nat) (h : Ph → Ph) (f : Fam) (i : Nat) : (m.modPh p h).q f i = m.q f i := rfl
@[simp] theorem Mod.deadline_modPh (m : Mod) (p : Nat) (h : Ph → Ph) (T : Tmr) : (m.modPh p h).deadline T = m.deadline T := rfl
@[simp] theorem Mod.modGrp_od (m : Mod) (k : Nat) (h : Grp → Grp) : (m.modGrp k h).od = m.od := rfl
@[simp] theorem Mod.modGrp_tb (m : Mod) (k : Nat) (h : Grp → Grp) : (m.modGrp k h).tb = m.tb := rfl
@[simp] theorem Mod.modGrp_out (m : Mod) (k : Nat) (h : Grp → Grp) : (m.modGrp k h).out = m.out := rfl
@[simp] theorem Mod.modGrp_timers (m : Mod) (k : Nat) (h : Grp → Grp) : (m.modGrp k h).timers = m.timers := rfl
@[simp] theorem Mod.modGrp_log (m : Mod) (k : Nat) (h : Grp → Grp) : (m.modGrp k h).log = m.log := rfl
@[simp] theorem Mod.modGrp_journal (m : Mod) (k : Nat) (h : Grp → Grp) : (m.modGrp k h).journal = m.journal := rfl
@[simp] theorem Mod.modGrp_grp (m : Mod) (k : Nat) (h : Grp → Grp) : (m.modGrp k h).grp = modAt {} m.grp k h := rfl
@[simp] theorem Mod.n_modGrp (m : Mod) (k : Nat) (h : Grp → Grp) (f : Fam) (i : Nat) : (m.modGrp k h).n f i = m.n f i := rfl
@[simp] theorem Mod.q_modGrp (m : Mod) (k : Nat) (h : Grp → Grp) (f : Fam) (i : Nat) : (m.modGrp k h).q f i = m.q f i := rfl
@[simp] theorem Mod.deadline_modGrp (m : Mod) (k : Nat) (h : Grp → Grp) (T : Tmr) : (m.modGrp k h).deadline T = m.deadline T := rfl
@[simp] theorem Mod.modInp_od (m : Mod) (k : Nat) (h : InS → InS) : (m.modInp k h).od = m.od := rfl
@[simp] theorem Mod.modInp_tb (m : Mod) (k : Nat) (h : InS → InS) : (m.modInp k h).tb = m.tb := rfl
@[simp] theorem Mod.modInp_out (m : Mod) (k : Nat) (h : InS → InS) : (m.modInp k h).out = m.out := rfl
@[simp] theorem Mod.modInp_timers (m : Mod) (k : Nat) (h : InS → InS) : (m.modInp k h).timers = m.timers := rfl
@[simp] theorem Mod.modInp_log (m : Mod) (k : Nat) (h : InS → InS) : (m.modInp k h).log = m.log := rfl
@[simp] theorem Mod.modInp_journal (m : Mod) (k : Nat) (h : InS → InS) : (m.modInp k h).journal = m.journal := rfl
@[simp] theorem Mod.modInp_inp (m : Mod) (k : Nat) (h : InS → InS) : (m.modInp k h).inp = modAt {} m.inp k h := rfl
@[simp] theorem Mod.n_modInp (m : Mod) (k : Nat) (h : InS → InS) (f : Fam) (i : Nat) : (m.modInp k h).n f i = m.n f i := rfl
@[simp] theorem Mod.q_modInp (m : Mod) (k : Nat) (h : InS → InS) (f : Fam) (i : Nat) : (m.modInp k h).q f i = m.q f i := rfl
@[simp] theorem Mod.deadline_modInp (m : Mod) (k : Nat) (h : InS → InS) (T : Tmr) : (m.modInp k h).deadline T = m.deadline T := rfl
@[simp] theorem Mod.modProt_od (m : Mod) (k : Nat) (h : Prot → Prot) : (m.modProt k h).od = m.od := rfl
@[simp] theorem Mod.modProt_tb (m : Mod) (k : Nat) (h : Prot → Prot) : (m.modProt k h).tb = m.tb := rfl
@[simp] theorem Mod.modProt_out (m : Mod) (k : Nat) (h : Prot → Prot) : (m.modProt k h).out = m.out := rfl
@[simp] theorem Mod.modProt_timers (m : Mod) (k : Nat) (h : Prot → Prot) : (m.modProt k h).timers = m.timers := rfl
@[simp] theorem Mod.modProt_log (m : Mod) (k : Nat) (h : Prot → Prot) : (m.modProt k h).log = m.log := rfl
@[simp] theorem Mod.modProt_journal (m : Mod) (k : Nat) (h : Prot → Prot) : (m.modProt k h).journal = m.journal := rfl
@[simp] theorem Mod.modProt_prot (m : Mod) (k : Nat) (h : Prot → Prot) : (m.modProt k h).prot = modAt {} m.prot k h := rfl
@[simp] theorem Mod.n_modProt (m : Mod) (k : Nat) (h : Prot → Prot) (f : Fam) (i : Nat) : (m.modProt k h).n f i = m.n f i := rfl
@[simp] theorem Mod.q_modProt (m : Mod) (k : Nat) (h : Prot → Prot) (f : Fam) (i : Nat) : (m.modProt k h).q f i = m.q f i := rfl
@[simp] theorem Mod.deadline_modProt (m : Mod) (k : Nat) (h : Prot → Prot) (T : Tmr) : (m.modProt k h).deadline T = m.deadline T := rfl
@[simp] theorem Mod.modQual_od (m : Mod) (k : Nat) (h : Qual → Qual) : (m.modQual k h).od = m.od := rfl
@[simp] theorem Mod.modQual_tb (m : Mod) (k : Nat) (h : Qual → Qual) : (m.modQual k h).tb = m.tb := rfl
@[simp] theorem Mod.modQual_out (m : Mod) (k : Nat) (h : Qual → Qual) : (m.modQual k h).out = m.out := rfl
@[simp] theorem Mod.modQual_timers (m : Mod) (k : Nat) (h : Qual → Qual) : (m.modQual k h).timers = m.timers := rfl
@[simp] theorem Mod.modQual_log (m : Mod) (k : Nat) (h : Qual → Qual) : (m.modQual k h).log = m.log := rfl
@[simp] theorem Mod.modQual_journal (m : Mod) (k : Nat) (h : Qual → Qual) : (m.modQual k h).journal = m.journal := rfl
@[simp] theorem Mod.modQual_qual (m : Mod) (k : Nat) (h : Qual → Qual) : (m.modQual k h).qual = modAt {} m.qual k h := rfl
@[simp] theorem Mod.n_modQual (m : Mod) (k : Nat) (h : Qual → Qual) (f : Fam) (i : Nat) : (m.modQual k h).n f i = m.n f i := rfl
@[simp] theorem Mod.q_modQual (m : Mod) (k : Nat) (h : Qual → Qual) (f : Fam) (i : Nat) : (m.modQual k h).q f i = m.q f i := rfl
@[simp] theorem Mod.deadline_modQual (m : Mod) (k : Nat) (h : Qual → Qual) (T : Tmr) : (m.modQual k h).deadline T = m.deadline T := rfl

end Sys2Proof.Machine
end

