-- ==== Sys2Proof/Laws/Frames.lean ====
section
/-! SUPPORT. Laws/Frames.lean: what the shared operations leave as it was, stated once for each: the entries outside the places
they name, and how lists, repetitions and conditions carry a property along. -/

namespace Sys2Proof.Machine

open Sys2Proof

/-! ## A command of the running module -/

@[simp] theorem Mod.at_n (m : Mod) (t : Nat) (f : Fam) (i : Nat) : (m.at t).n f i = m.n f i := rfl
@[simp] theorem Mod.at_getV (m : Mod) (t : Nat) (f : Fam) (i : Nat) : (m.at t).getV f i = m.getV f i := rfl
@[simp] theorem Mod.at_alive (m : Mod) (t : Nat) : (m.at t).alive = m.alive := rfl
@[simp] theorem Mod.at_out (m : Mod) (t : Nat) : (m.at t).out = [] := rfl

/-- A command that concerns the module alone does to a running module what its meaning says. -/
theorem DoesM.intro {i : Instr} {t : Nat} {f : Mod → Mod} {s : State} {P : Mod → Mod → Prop} (hx : exec i s = execM t f s)
    (ha : s.m.alive = true) (h : P (s.m.at t) (f (s.m.at t))) : DoesM i t s P := by
  refine ⟨f (s.m.at t), ?_, h⟩
  rw [hx, execM]
  simp [ha]

/-- A command that concerns the server too does to a running module what its meaning says. -/
theorem DoesS.intro {i : Instr} {t : Nat} {f : Sys → Sys} {s : State} {P : Sys → Sys → Prop} (hx : exec i s = execS t f s)
    (ha : s.m.alive = true) (h : P (s.m.at t, s.srv) (f (s.m.at t, s.srv))) : DoesS i t s P := by
  refine ⟨f (s.m.at t, s.srv), ?_, h⟩
  rw [hx, execS]
  simp [ha]

/-! ## Lists that read a default beyond their end -/

@[simp] theorem getD_modAt_same {α : Type} (d : α) (l : List α) (k : Nat) (f : α → α) :
    ((modAt d l k f)[k]?).getD d = f ((l[k]?).getD d) := by
  induction k generalizing l with
  | zero => cases l <;> simp [modAt]
  | succ k ih => cases l with
    | nil => simpa [modAt] using ih []
    | cons a b => simpa [modAt] using ih b

@[simp] theorem getD_modAt_ne {α : Type} (d : α) (l : List α) {k j : Nat} (f : α → α) (h : j ≠ k) :
    ((modAt d l k f)[j]?).getD d = (l[j]?).getD d := by
  induction k generalizing l j with
  | zero => cases l with
    | nil => cases j with
      | zero => exact absurd rfl h
      | succ j => simp [modAt]
    | cons a b => cases j with
      | zero => exact absurd rfl h
      | succ j => simp [modAt]
  | succ k ih => cases l with
    | nil => cases j with
      | zero => simp [modAt]
      | succ j => simpa [modAt] using ih [] (by omega)
    | cons a b => cases j with
      | zero => simp [modAt]
      | succ j => simpa [modAt] using ih b (by omega)

/-! ## Repetitions -/

/-- A reading that no round changes is unchanged by all of them. -/
theorem foldl_keeps {α β γ : Type} (g : α → γ) (f : α → β → α) (h : ∀ a b, g (f a b) = g a) (l : List β) (a : α) :
    g (l.foldl f a) = g a := by
  induction l generalizing a with
  | nil => rfl
  | cons b r ih => rw [List.foldl_cons, ih, h]

theorem Mod.each_keeps {γ : Type} (g : Mod → γ) (f : Nat → Mod → Mod) (h : ∀ k a, g (f k a) = g a) (n : Nat) (m : Mod) :
    g (m.each n f) = g m := foldl_keeps g (fun a k => f k a) (fun a k => h k a) _ m

theorem Mod.when_keeps {γ : Type} (g : Mod → γ) (f : Mod → Mod) (h : ∀ a, g (f a) = g a) (c : Bool) (m : Mod) :
    g (m.when c f) = g m := by cases c <;> simp [h]

/-! ## Entries outside a family -/

/-- A change of an instance of a family leaves every place outside the family as it was. -/
theorem Mod.odGet_setV_keys (m : Mod) (f : Fam) (i : Nat) (v : Val) {k : Nat} (h : k ∉ f.keys) :
    odGet (m.setV f i v).od k = odGet m.od k := by
  by_cases hi : i < f.count
  · refine m.odGet_setV_ne f i v (fun e => h ?_)
    rw [e]
    exact List.mem_map_of_mem (List.mem_range.2 hi)
  · simp [Mod.setV, hi]

theorem Fam.mem_keys {f : Fam} {i : Nat} (h : i < f.count) : f.key i ∈ f.keys := List.mem_map_of_mem (List.mem_range.2 h)

theorem SameOd.refl (ks : List Nat) (m : Mod) : SameOd ks m m := fun _ _ => rfl
theorem SameOd.trans {ks : List Nat} {a b c : Mod} (h : SameOd ks a b) (g : SameOd ks b c) : SameOd ks a c :=
  fun k hk => (g k hk).trans (h k hk)
theorem SameOd.mono {ks js : List Nat} {a b : Mod} (h : SameOd ks a b) (hs : ks ⊆ js) : SameOd js a b :=
  fun k hk => h k (fun hm => hk (hs hm))

/-- What an entry reads outside the places that change. -/
theorem SameOd.n {ks : List Nat} {a b : Mod} (h : SameOd ks a b) (f : Fam) (i : Nat) (hk : f.key i ∉ ks) : b.n f i = a.n f i := by
  simp only [Mod.n, Mod.getV_congr f i (h _ hk)]

/-! ## The event log -/

theorem Mod.eraseStart_od (m : Mod) (w : Nat) {k : Nat} (h : k ∉ E.KPR_STATE.keys) : odGet (m.eraseStart w).od k = odGet m.od k := by
  unfold Mod.eraseStart
  cases hk : m.kpr.running <;> simp [hk, Mod.when, Mod.odGet_setV_keys _ _ _ _ h]

theorem Mod.logWrite_od (m : Mod) (r : LogRec) {k : Nat} (h1 : k ∉ E.LOG_CNT.keys) (h2 : k ∉ E.LOG_NEXT.keys)
    (h3 : k ∉ E.KPR_STATE.keys) : odGet (m.logWrite r).od k = odGet m.od k := by
  unfold Mod.logWrite Mod.when
  dsimp only
  split
  · rw [Mod.eraseStart_od _ _ h3, Mod.inc_eq, Mod.odGet_setV_keys _ _ _ _ h2, Mod.inc_eq, Mod.odGet_setV_keys _ _ _ _ h1]
  · rw [Mod.inc_eq, Mod.odGet_setV_keys _ _ _ _ h2, Mod.inc_eq, Mod.odGet_setV_keys _ _ _ _ h1]

theorem Mod.logWait_od (m : Mod) (r : LogRec) {k : Nat} (h : k ∉ E.Q_DROP.keys) : odGet (m.logWait r).od k = odGet m.od k := by
  unfold Mod.logWait
  split
  · rfl
  · split
    · rw [Mod.inc_eq, Mod.odGet_setV_keys _ _ _ _ h]
    · rfl

/-- A queue's marks change its four entries alone. -/
theorem Mod.fillMarks_od (m : Mod) (q : Nat) (f : Rat) {k : Nat} (h1 : k ≠ E.Q_FILL.key q) (h2 : k ≠ E.Q_MAX.key q)
    (h3 : k ≠ E.Q_HIGH.key q) (h4 : k ≠ E.Q_HWM_CNT.key q) : odGet (m.fillMarks q f).od k = odGet m.od k := by
  have s : ∀ (m : Mod) (f : Fam) (v : Val), k ≠ f.key q → odGet (m.setV f q v).od k = odGet m.od k :=
    fun m f v h => m.odGet_setV_ne f q v h
  have e1 : ∀ m : Mod, odGet (m.setQ E.Q_FILL q f).od k = odGet m.od k := fun m => s m _ _ h1
  have e2 : ∀ m : Mod, odGet (m.setQ E.Q_MAX q f).od k = odGet m.od k := fun m => s m _ _ h2
  have e3 : ∀ (m : Mod) (b : Bool), odGet (m.setB E.Q_HIGH q b).od k = odGet m.od k := fun m b => s m _ _ h3
  have e4 : ∀ m : Mod, odGet (m.inc E.Q_HWM_CNT q).od k = odGet m.od k := fun m => by rw [Mod.inc_eq]; exact s m _ _ h4
  unfold Mod.fillMarks
  rw [Mod.when_keeps (fun x : Mod => odGet x.od k) _ (fun x => e3 x false),
    Mod.when_keeps (fun x : Mod => odGet x.od k) _ (fun x => by rw [e4, e3]),
    Mod.when_keeps (fun x : Mod => odGet x.od k) _ e2, e1]

theorem Mod.q26Marks_od (m : Mod) {k : Nat} (h : k ∉ logKeys) : odGet m.q26Marks.od k = odGet m.od k := by
  simp only [logKeys, List.mem_append, List.mem_cons, List.not_mem_nil, or_false, not_or] at h
  obtain ⟨-, -, hd, -, h1, h2, h3, h4⟩ := h
  unfold Mod.q26Marks
  rw [Mod.when_keeps (fun x : Mod => odGet x.od k) _ (fun x => x.logWait_od _ hd)]
  exact m.fillMarks_od 26 _ h1 h2 h3 h4

/-- A record changes no entry but the log's counters, the keeper's pause, and the drops and marks of Q26. -/
theorem Mod.logPut_od (m : Mod) (r : LogRec) {k : Nat} (h : k ∉ logKeys) : odGet (m.logPut r).od k = odGet m.od k := by
  have h' := h
  simp only [logKeys, List.mem_append, not_or] at h'
  unfold Mod.logPut
  split
  · exact m.logWrite_od r h'.1 h'.2.1 h'.2.2.2.1
  · rw [Mod.q26Marks_od _ h, Mod.logWait_od _ _ h'.2.2.1]

theorem SameOd.logPut (m : Mod) (r : LogRec) : SameOd logKeys m (m.logPut r) := fun _ hk => m.logPut_od r hk

theorem SameOd.event (m : Mod) (kind : Nat) (data : List Nat) : SameOd logKeys m (m.event kind data) := SameOd.logPut m _
theorem SameOd.note (m : Mod) (f : Fam) (i : Nat) (old : Val) : SameOd logKeys m (m.note f i old) := SameOd.logPut m _

theorem Mod.logWait_timers (m : Mod) (r : LogRec) : (m.logWait r).timers = m.timers := by
  unfold Mod.logWait
  split
  · rfl
  · split <;> rfl

theorem Mod.fillMarks_timers (m : Mod) (q : Nat) (f : Rat) : (m.fillMarks q f).timers = m.timers := by
  have e2 : ∀ m : Mod, (m.setQ E.Q_MAX q f).timers = m.timers := fun _ => rfl
  have e3 : ∀ (m : Mod) (b : Bool), (m.setB E.Q_HIGH q b).timers = m.timers := fun _ _ => rfl
  have e4 : ∀ m : Mod, ((m.setB E.Q_HIGH q true).inc E.Q_HWM_CNT q).timers = m.timers := fun _ => rfl
  unfold Mod.fillMarks
  rw [Mod.when_keeps Mod.timers _ (fun x => e3 x false), Mod.when_keeps Mod.timers _ e4, Mod.when_keeps Mod.timers _ e2]
  rfl

theorem Mod.q26Marks_timers (m : Mod) : m.q26Marks.timers = m.timers := by
  unfold Mod.q26Marks
  rw [Mod.when_keeps Mod.timers _ (fun x => x.logWait_timers _), Mod.fillMarks_timers]

/-- A record changes no timer but that of an erase. -/
theorem SameTimers.logPut (m : Mod) (r : LogRec) : SameTimers [.erase] m (m.logPut r) := by
  intro T hT
  have hT : T ≠ .erase := by simpa using hT
  unfold Mod.logPut
  split
  · unfold Mod.logWrite Mod.eraseStart Mod.when
    dsimp only
    split
    · split <;> simp [hT] <;> rfl
    · rfl
  · unfold Mod.deadline
    rw [Mod.q26Marks_timers, Mod.logWait_timers]

end Sys2Proof.Machine
end

