-- ==== Sys2Proof/WellFormed.lean ====
section
/-! DEFINITION. WellFormed.lean: which commands can be given: every operand lies in the range its rule gives it. The meanings
are total, so a command that fails this changes nothing that its rule does not. -/

namespace Sys2Proof

/-- A byte (R10). -/
def byteOk (b : Nat) : Bool := b < 256

/-- R382: the fields of a request body fit their widths, and DATA holds bytes, at most 1024 of them. -/
def Req.wf (r : Req) : Bool :=
  r.op < 256 && r.index < 65536 && r.sub < 256 && r.ty < 256 && r.len < 65536 && decide (r.epoch < 2 ^ 32) && r.seq < 65536 &&
    decide (r.offset < 2 ^ 32) && r.requester < 65536 && r.data.length ≤ 1024 && r.data.all byteOk && r.smp.length ≤ 200 && r.smp.all (·.length == 16)

def CmdStage.wf : CmdStage → Bool
  | .accept r => r.wf
  | .boundary => true

/-- R9: one value for each port, phase, switch and thermistor. -/
def TickIn.wf (x : TickIn) : Bool :=
  x.smp.length ≤ 200 && x.smp.all (·.length == 16) && x.hs.length == 16 && x.sw.length == 8 && x.temp.length == 4

/-- R312: at most the samples of one mode tick, each of `n` channels. -/
def rowsWf (n : Nat) (l : List (List Rat)) : Bool := l.length ≤ 200 && l.all (·.length == n)

def VLoopIn.wf (x : VLoopIn) : Bool := x.vIn.length == 4 && x.revMax.length == 4

/-- R149: one value for each phase of the stage. -/
def SwIn.wf (x : SwIn) : Bool := x.iPh.length == 8 && x.v1.length == 8 && x.v2.length == 8

/-- R345: the fields of a header fit their widths. -/
def Hdr.wf (h : Hdr) : Bool :=
  h.cls < 8 && h.typ < 256 && h.ver < 16 && h.src < 65536 && h.dst < 65536 && h.hops < 256 && h.gen < 65536 && h.seq < 65536 &&
    h.epochLo < 65536

/-- R470: a CAN frame carries at most 64 bytes on one of two ports. -/
def CanFrame.wf (f : CanFrame) : Bool := f.bus < 2 && f.data.length ≤ 64 && f.data.all byteOk

/-- R463: six words of 16 bits. -/
def BmsBlock.wf (x : BmsBlock) : Bool := x.words.length == 6 && x.words.all (fun w => w < 65536)

def WakeSrc.wf : WakeSrc → Bool
  | .net l => l < 4
  | _ => true

/-- R349: confidence is a byte. -/
def AllocMsg.wf (x : AllocMsg) : Bool := x.conf < 256 && 1 ≤ x.entries.length && x.entries.length ≤ 21
def IntentMsg.wf (x : IntentMsg) : Bool := x.conf < 256

def FwdBody.wf : FwdBody → Bool
  | .intent m => m.wf
  | .odReq r => r.wf
  | .bulk r => r.wf
  | _ => true

/-- A command that can be given. -/
def Instr.wf (i : Instr) : Bool :=
  match i with
  | .modeTick _ x => x.wf
  | .autoDwellExpiry _ => true
  | .rotationTick _ => true
  | .envReqWrite _ r => r.wf
  | .couplingReqWrite _ r => r.wf
  | .powerReqWrite _ r => r.wf
  | .hibernateEntry _ => true
  | .activeReturnDone _ => true
  | .sysVsetWrite _ r => r.wf
  | .bridgeQualExpiry _ => true
  | .bridgeEntryDone _ => true
  | .bridgeExitDone _ => true
  | .bsTerminalLive _ _ => true
  | .bsContTExpiry _ => true
  | .bsPrechargeDone _ _ _ => true
  | .bsPrechargeTimeout _ => true
  | .bsSettleExpiry _ => true
  | .bsTimeout _ => true
  | .ssRampEnd _ => true
  | .ssSwitchOpen _ => true
  | .ssLinkDischarged _ _ => true
  | .ovlExpiry _ _ => true
  | .ovlClear _ _ => true
  | .qualWindowEnter _ k _ => decide (k < 5)
  | .qualWindowExcursion _ k _ => decide (k < 5)
  | .insertionDelayExpiry _ k => decide (k < 5)
  | .prechargeDone _ k _ _ => decide (k < 5)
  | .prechargeTimeout _ k => decide (k < 5)
  | .rideEntry _ k _ => decide (k < 5)
  | .rideReturn _ k _ => decide (k < 5)
  | .rideExpiry _ k _ => decide (k < 5)
  | .flapWExpiry _ k => decide (k < 5)
  | .inputCollapse _ k _ _ => decide (k < 5)
  | .portOvervoltage _ k _ => decide (k < 5)
  | .reverseCurrentFault _ k _ => decide (k < 4)
  | .pilotOpen _ k => decide (k < 8)
  | .pilotClose _ k => decide (k < 8)
  | .voltageLoopPeriod _ x => x.wf
  | .srcPolicyWrite _ r => r.wf
  | .manSlackWrite _ r => r.wf
  | .adaptPeriodExpiry _ k => decide (k < 4)
  | .adaptStepDone _ k _ _ _ _ => decide (k < 4)
  | .adaptBackoff _ k _ _ => decide (k < 4)
  | .switchingPeriod _ _ x => x.wf
  | .peakComparator _ p => decide (p < 16)
  | .phaseArmingDone _ p => decide (p < 16)
  | .phaseAddDone _ p => decide (p < 16)
  | .shedTExpiry _ _ g => decide (g < 4)
  | .phaseShedDone _ p => decide (p < 16)
  | .armHoldExpiry _ p => decide (p < 16)
  | .respacingDone _ _ => true
  | .phaseFault _ p cause => decide (p < 16) && (1 ≤ cause && cause ≤ 3)
  | .loopPresetWrite _ r => r.wf
  | .sstDelayExpiry _ _ => true
  | .softStartComplete _ _ _ _ => true
  | .softStartAbort _ _ => true
  | .hiccupRetry _ _ => true
  | .sspDelayExpiry _ _ => true
  | .softStopDone _ _ => true
  | .senseOpen _ _ => true
  | .senseReversed _ _ => true
  | .senseRestore _ _ => true
  | .intentRx _ m => m.wf
  | .intentArm _ _ _ => true
  | .prebiasStart _ _ _ => true
  | .intentWithdraw _ _ _ => true
  | .profStart _ c => c.wf
  | .profStop _ c => c.wf
  | .profRestart _ c => c.wf
  | .profSkip _ c => c.wf
  | .stepExit _ x => (1 ≤ x && x ≤ 3)
  | .stepRequestFail _ _ _ _ => true
  | .stepTimeout _ => true
  | .pulseLevelChange _ => true
  | .bmsAging _ => true
  | .bmsStale _ => true
  | .bmsWakeAttemptFail _ => true
  | .bmsWakeResend _ => true
  | .scanStart _ => true
  | .scanPointDone _ _ => true
  | .lifetimeCommit _ => true
  | .secondaryControlTick _ => true
  | .shareRptRx _ h _ => h.wf
  | .trimRx _ h _ => h.wf
  | .trimHoldExpiry _ => true
  | .frTExpiry _ => true
  | .intentAllocate _ h m => h.wf && m.wf
  | .ringEnvWrite _ r => r.wf
  | .roleDrop _ r => r.wf
  | .darkDeclare _ _ => true
  | .takeRx _ h _ => h.wf
  | .takeOfferLapse _ => true
  | .shareReadmit _ r => r.wf
  | .fastTrip _ k _ => decide (k < 8)
  | .i2tTrip _ k _ => decide (k < 8)
  | .i2tClear _ k => decide (k < 8)
  | .limitExit _ k => decide (k < 8)
  | .sysOvervoltageTrip _ _ => true
  | .brkClamp _ _ => true
  | .brkClampRelease _ _ _ => true
  | .linkOvervoltage _ _ => true
  | .switchFailure _ k _ => decide (k < 8)
  | .switchOvertemp _ k _ => decide (k < 8)
  | .switchTempClear _ k _ => decide (k < 8)
  | .portDisable _ r => r.wf
  | .portSwitchRelease _ k _ => decide (k < 8)
  | .portEnable _ r => r.wf
  | .ilkOpen _ => true
  | .ilkClose _ => true
  | .ilkOpenReqWrite _ r => r.wf
  | .estopOpen _ => true
  | .estopClose _ => true
  | .estopTest _ _ => true
  | .tamperOpen _ => true
  | .holdupOperation _ => true
  | .lockstepMismatch _ => true
  | .contPullExpiry _ => true
  | .contOpenLoad _ _ => true
  | .contOvercurrent _ _ => true
  | .imdGrantRx _ h _ _ => h.wf
  | .imdGrantExpiry _ => true
  | .imdHalfPeriod _ _ _ _ => true
  | .imdConflict _ => true
  | .channelSaturated _ ch => decide (ch < 16)
  | .channelRangeFail _ ch => decide (ch < 16)
  | .autoZero _ k _ _ => decide (k < 8)
  | .telWindowEnd _ w inputs store others => decide (w < 2) && rowsWf 8 inputs && rowsWf 4 store && rowsWf 4 others &&
      inputs.length == store.length && inputs.length == others.length
  | .pkSnap _ r => r.wf
  | .phtSnap _ r => r.wf
  | .stepSnap _ r => r.wf
  | .capArm _ r => r.wf
  | .capTriggerCmd _ r => r.wf
  | .capStreamA _ r => r.wf
  | .capAbort _ r => r.wf
  | .captureTrigger _ _ => true
  | .capPreHeld _ => true
  | .capFrozen _ => true
  | .streamAEnd _ _ => true
  | .capTrigRx _ h _ => h.wf
  | .streamBBlock _ => true
  | .gapRx _ h _ => h.wf
  | .gapRecordTx _ _ => true
  | .cableSys _ r => r.wf
  | .cableBat _ r => r.wf
  | .cableBrk _ r => r.wf
  | .brkAutoMeasure _ _ => true
  | .cableResult _ run _ => (1 ≤ run && run ≤ 3)
  | .calSet _ r => r.wf
  | .esessOpen _ r => r.wf
  | .esessClose _ r => r.wf
  | .esessInterim _ => true
  | .linkUp _ l => decide (l < 4)
  | .linkDown _ l => decide (l < 4)
  | .delayReqTx _ l => decide (l < 4)
  | .delayReqRx _ l h _ => decide (l < 4) && h.wf
  | .delayRespRx _ l h _ => decide (l < 4) && h.wf
  | .beaconTx _ => true
  | .beaconRx _ l h _ _ => decide (l < 4) && h.wf
  | .beaconReturn _ _ _ _ _ => true
  | .creditRx _ l h freed => decide (l < 4) && h.wf && decide (freed.length = 4)
  | .creditTx _ l => decide (l < 4)
  | .claimTx _ => true
  | .claimRx _ l h _ => decide (l < 4) && h.wf
  | .electionWin _ => true
  | .ringOfOneLantern _ => true
  | .netHandover _ r => r.wf
  | .handoverRx _ h _ _ => h.wf
  | .handoverLapse _ => true
  | .timeRelayRx _ l h _ _ => decide (l < 4) && h.wf
  | .ntimeHoldoverExpiry _ => true
  | .stnRecRx _ h _ => h.wf
  | .stnAssignRx _ h _ _ _ => h.wf
  | .ringSumTx _ => true
  | .ringSumRx _ h _ => h.wf
  | .fleetStateTx _ => true
  | .fleetStateRx _ h _ => h.wf
  | .imdAlarmRx _ h _ _ _ _ => h.wf
  | .synciEdge _ => true
  | .syncoPulse _ => true
  | .linkWakeTx _ r => r.wf
  | .odRead _ r => r.wf
  | .odWrite _ r => r.wf
  | .odCommit _ r => r.wf
  | .odDiscard _ r => r.wf
  | .journalDurable _ _ => true
  | .stageTimeout _ => true
  | .assemblyTimeout _ requester => decide (requester < 65536)
  | .queueTimeout _ r => r.wf
  | .recordHoldExpiry _ => true
  | .pstoreDefaults _ r => r.wf
  | .rstCmd _ r => r.wf
  | .rtcWrite _ r => r.wf
  | .cmpModeWrite _ r => r.wf
  | .cmpMatch _ c => decide (c < 32)
  | .kprKey _ r => r.wf
  | .kprCheckin _ r => r.wf
  | .keeperExpiry _ => true
  | .faultRaise _ b bit _ _ => decide (b < 16) && decide (bit < 16)
  | .faultScan _ => true
  | .faultAck _ b _ => decide (b < 16)
  | .faultEscalate _ b => decide (b < 16)
  | .blockResetDone _ b => decide (b < 16)
  | .faultRecover _ b => decide (b < 16)
  | .fltStickyClear _ r => r.wf
  | .fltLatchedClear _ r => r.wf
  | .fltInject _ r => r.wf
  | .injMiss _ b bit => decide (b < 16) && decide (bit < 16)
  | .faultContactRestore _ => true
  | .eraseDone _ => true
  | .eraseTimeout _ => true
  | .usbAttach _ _ => true
  | .usbDetach _ => true
  | .sourceCapabilities _ _ => true
  | .eprKeepalive _ _ => true
  | .eprExit _ => true
  | .prSwap _ => true
  | .drSwap _ => true
  | .frSwap _ _ => true
  | .notSupported _ _ => true
  | .hardReset _ _ => true
  | .vbusDischargeDone _ _ => true
  | .discoverIdentity _ => true
  | .discoverSvids _ => true
  | .discoverModes _ svid => decide (svid < 65536)
  | .enterMode _ svid _ => decide (svid < 65536)
  | .exitMode _ => true
  | .usbTransfer _ _ r => r.wf
  | .credLogin _ r => r.wf
  | .credLogout _ r => r.wf
  | .credSet _ r => r.wf
  | .sessionIdleTimeout _ requester => decide (requester < 65536)
  | .lockoutExpiry _ cls => decide (cls < 4)
  | .secretErase _ r => r.wf
  | .scrubDone _ => true
  | .ringKeyOwn _ r => r.wf
  | .ringKeyPar _ r => r.wf
  | .signKeygen _ r => r.wf
  | .fwImg _ r => r.wf
  | .fwVerifyDone _ _ => true
  | .fwSwitch _ r => r.wf
  | .trialConfirm _ => true
  | .h2wWriteTransaction _ bytes _ => bytes.all byteOk
  | .h2wReadTransaction _ _ => true
  | .h2wPageSelect _ page => decide (page < 256)
  | .h2wGo _ => true
  | .h2wRelease _ => true
  | .h2wResponse _ => true
  | .alertCauseWrite _ _ => true
  | .alertResponse _ _ => true
  | .h2wSrInAck _ => true
  | .sclTimeout _ port => decide (port < 3)
  | .sdaTimeout _ port => decide (port < 3)
  | .bat2wPoll _ u => decide (u < 2)
  | .balertEdge _ u => decide (u < 2)
  | .bat2wBlockReadDone _ u m => decide (u < 2) && m.wf
  | .bat2wRetry _ u => decide (u < 2)
  | .arbLost _ u _ => decide (u < 2)
  | .canRequest _ f => f.wf
  | .canStatusFrame _ => true
  | .canMappedFrame _ f => f.wf
  | .mapStale _ m => decide (m < 32)
  | .canBusOff _ u => decide (u < 2)
  | .canBusOffRecover _ u => decide (u < 2)
  | .tcxoFail _ => true
  | .pllUnlock _ => true
  | .pllRelockTimeout _ => true
  | .por => true
  | .bor => true
  | .wrstPin _ => true
  | .wdrst _ => true
  | .sfrst _ => true
  | .wakeEvent w _ => w.wf
  | .startUp _ _ _ => true
  | .epochWriteRetry _ => true
  | .aoReserveExhausted => true
  | .sourceReturn _ => true
  | .holdupRechargeCheck _ _ => true
  | .tamperClose _ => true
  | .phyLink _ l _ => decide (l < 4)
  | .frameForward _ l h m => decide (l < 4) && h.wf && m.wf
  | .fenceRampDone _ => true
  | .canErrorPassive _ u _ => decide (u < 2)
  | .faultEventHoldExpiry _ b bit => decide (b < 16) && decide (bit < 16)
  | .readSnapshotExpiry _ requester => decide (requester < 65536)
  | .pdRequest _ _ => true
  | .partnerIdentityRx _ _ => true
  | .imdGrantTx _ => true

end Sys2Proof
end

