-- ==== Sys2Proof/Tests/Slice0.lean ====
section
/-! SUPPORT. Tests/Slice0.lean: states and operands that meet the hypotheses of every statement, tests of the commands, and an
ill-formed command for each check of WellFormed.lean. -/

/-! ## Small states -/

namespace Sys2Proof.Machine

open Sys2Proof

/-- The module changed by `f`. -/
def State.mm (s : State) (f : Mod → Mod) : State := { s with m := f s.m }

/-- Entries set, and latched. -/
def State.put (s : State) (l : List (Fam × Nat × Nat)) : State :=
  s.mm fun m => (l.foldl (fun m x => m.setN x.1 x.2.1 x.2.2) m).latchControls

/-- A timer that has just ended. -/
def State.tmr (s : State) (T : Tmr) : State := s.mm fun m => m.arm T m.tb

/-- Both ring keys are held, and link 0 is UP in the own ring. -/
def State.keyd (s : State) : State :=
  (s.mm fun m => { m with keys := { m.keys with own := some [1, 2], par := some [1, 2] } }).put [(E.LINK_STATE, 0, 3), (E.LINK_ROLE, 0, 1)]

/-- Requester 9 has a session at L3 in epoch 5. -/
def State.ses (s : State) : State :=
  { s.put [(E.EPOCH, 0, 5)] with srv := { s.srv with sessions := [⟨9, 3, 0⟩] } }

/-- ENV_BOOT staged with a value. -/
def bootAt (v : Nat) : Staged := { key := E.ENV_BOOT.key 0, val := .num v, level := 2 }

/-- A stage of requester `o`. -/
def State.staged (s : State) (o : Nat) : State := { s with srv := { s.srv with stage := [bootAt 2], owner := some o } }

/-- The latest SEQ of requester 9. -/
def State.seen (s : State) (q : Nat) : State := { s with srv := { s.srv with seqs := [(9, q)] } }

end Sys2Proof.Machine

namespace Sys2Proof.Tests

-- One theorem after another: as one text of many theorems they would wait for each other in parallel.
set_option Elab.async false

open Sys2Proof Sys2Proof.Machine

/-- A running module with entries set. -/
def up (l : List (Fam × Nat × Nat)) : State :=
  State.put { m := { phase := .running, rst := none, tb := 1000000000 }, srv := {}, pending := [] } l

def noLoop : VLoopIn :=
  { vSense := 600, vLocal := 600, iSys := 1, demandA := 1, demandB := 0, demandV := 0, brkDemand := 0, excess := 0,
    vIn := [0, 0, 0, 0], revMax := [0, 0, 0, 0], vBat := 400, vSnsBat := 400, iBat := 0 }

def noSw : SwIn := { iPh := List.replicate 8 0, v1 := List.replicate 8 700, v2 := List.replicate 8 650 }

def noTick : TickIn := noInput

def noBoot : BootIn :=
  { records := true, heat := true, theta := true, counters := true, totals := true, fails := true, evidence := true,
    queue := true, crcBad := [], usbSource := none, portLive := true, bankOk := true }

def point (shift : Rat) : ScanPoint := { vSns := [400, 401, 400, 399], vLoc := [400, 401, 400, 399], i := [10, 11, 10, 9], shift := shift }

def trim : Trim := { seg := 4, high := 3, trim := 2, eligible := [0, 1], gens := [2, 3, 4] }

def answer : DelayResp := { roundTrip := 100, residence := 7, mac := 4, addr := 130, link := 0, role := 1, ring := 3 }

def beacon : Beacon :=
  { cycle := 1, lgen := 8, stn := 5, slotCount := 3, t0 := 1000, cf := 1, env := 2, ringOpen := true, traceable := true,
    synciRef := false, bound := true, darkN := 3, depth := 2, ring := 1, roles := [], slots := [], key := some [1, 2], lprio := 5, mac := 9 }

def gap : GapMsg := { orig := 5, dst := 6, typ := 0x60, firstSeq := 1, lost := 2, node := 3, tFirst := 0, tLast := 0 }

def gapSum : DropS := { orig := 5, dst := 6, typ := 0x60, first := 1, lost := 2, tFirst := 0, tLast := 9 }

def cable : CableRes := { loc := [600, 601, 602], remote := [600, 600, 601], iPort := [10, 11, 12], stepLeft := 1, v := 400, i := 3 }

def kid : RingSum := { mac := 6, ring := 9, depthBelow := 1, rings := [10], segs := [4], imd := [(4, 140)] }

def record : StnRec := { mac := 5, stn := 3, lprio := 4, seg := 4, shareMode := 1, imdEn := true, imdGsys := 3 }

def image : FwImage :=
  { magic := 0x59545846, version := 5, length := 100, floor := 2, hwMask := 1, keyIndex := 3, sigOk := true, hashOk := true }

/-- A BMS block whose one valid word is the fifth. -/
def block (words : List Nat) (count : Nat) : BmsBlock :=
  { words := words, count := count, pecOk := true, nack := false, stretch := false, tmo := false }

/-- Stage B's phases 8 and 9 are ACTIVE without load; the shed timer of their group has ended. -/
def shedding : State :=
  (up [(E.PH_STATE, 8, 4), (E.PH_STATE, 9, 4), (E.PH_TAP, 8, 4), (E.PH_TAP, 9, 4), (E.STG_NMIN, 1, 1), (E.STG_NACT, 1, 2)]).tmr (.shed 4)

/-- An intent of originator 5 whose load comes `d` ticks from now. -/
def soon (d : Int) : Intent :=
  { orig := 5, num := 1, dpm := 3, tArr := ((up []).m.ntime + d).toNat, conf := 255, dIm := 3, armed := false, iSysArm := 4, phase := 0,
    pre := false, pbEnd := 0, endT := 0 }

/-- Profile 0 of one step: number 3, of the kind 7. -/
def prof : List (Fam × Nat × Nat) :=
  [(E.PROF_SEL, 0, 0), (E.PROF_FIRST, 0, 3), (E.PROF_MAXVISITS, 0, 16), (E.KIND, 3, 7), (E.NEXT, 3, 3), (E.EX1, 3, 0), (E.EX2, 3, 0),
   (E.EX3, 3, 0), (E.T_MAX, 3, 0x42000000), (E.PROF_VCEIL, 0, f32OfRat 500)]

/-- Profile 0 runs its step 3 of a kind, with BAT joined and nothing that suspends it. -/
def stepping (kind : Nat) : State :=
  (up prof).put [(E.PROF_ACT, 0, 0), (E.PROF_STATE, 0, 1), (E.STEP_ACT, 0, 3), (E.PATH_ACT, 0, 3), (E.KIND, 3, kind),
    (E.QUAL_STATE, 4, 5), (E.PORT_EN, 4, 1), (E.BMS_REQ, 0, 0)]

/-- A frame's header under the key of `State.keyd`. -/
def hd (typ : Nat) (src : Nat := 130) : Hdr :=
  { cls := (typeClass typ).getD 0, typ := typ, turned := false, ver := 1, src := src, dst := 0xFFFF, scope := 1, lant := false,
    fenced := false, relayed := false, hops := 5, gen := 0, seq := 9, len := 40, epochLo := 3, key := some [1, 2], fcsOk := true,
    yieldMark := false, etherOk := true, bytes := 100 }

/-- A lantern's frame of generation 7. -/
def lant (typ : Nat) : Hdr := { hd typ with lant := true, gen := 7 }

def to77 (typ : Nat) : Hdr := { hd typ with src := 9, scope := 0, dst := 77 }

/-- The module leads its ring; link 1 is UP in it. -/
def onRing (l : List (Fam × Nat × Nat)) : State :=
  (up ([(E.LINK_STATE, 1, 3), (E.LINK_ROLE, 1, 1), (E.NET_FLAGS, 0, 1)] ++ l)).keyd

def leads : State := onRing [(E.NET_ROLE, 0, 1), (E.LGEN, 0, 7)]

def rpt : ShareRpt :=
  { stn := 1, seg := 4, idx := 1, gen := 1, path := 2, vSys := 640, iSys := 3, pSys := 5, room := 100, sinkRoom := 50, trim := 1,
    sysVset := 640, fswA := 1, fswB := 1, f := 1, ovlA := 0, ovlB := 0, switching := true, inLimit := false, atLimit := false,
    ntimeOk := true }

/-- It leads a group in segment 4, whose report it holds. -/
def group : State := leads.mm fun m =>
  { m with net := { m.net with lead := [⟨4, 0, 0, 1, 0xFF, 0⟩, ⟨4, 1, 1, 1, 0xFF, 0⟩], trims := [(4, 1)], rpts := [(rpt, m.tb)] } }

def coming (d : Int) : IntentMsg := { orig := 3, num := 1, seg := 4, dp := 500, tArr := (group.m.ntime + d).toNat, conf := 255 }

/-- Link 3 is UP and owes its neighbour credits. -/
def owing : State :=
  (up [(E.LINK_ROLE, 3, 1), (E.LINK_STATE, 3, 3)]).mm (·.modLink 3 fun x => { x with freedOut := [8, 0, 0, 0] })

/-- The entry of station 2 in a returned beacon. -/
def here : Slot :=
  { stn := 2, present := true, claim := false, takeAck := false, handoverAck := false, fenced := false, mooring := true, ntimeOk := true,
    imdCand := false, idx := 1, gen := 1, key := some [1, 2], ring := (onRing [(E.NET_ROLE, 0, 1)]).m.beaconRing, cycle := 1 }

/-- A station that may lead, and hears no lantern. -/
def candidate (l : List (Fam × Nat × Nat)) : State := onRing ([(E.LGEN, 0, 7), (E.NET_LPRIO, 0, 5), (E.SHARE_FLAGS, 0, 1)] ++ l)

/-- Links 0 and 1 are UP in the own ring. -/
def between : State := up [(E.LINK_STATE, 0, 3), (E.LINK_STATE, 1, 3), (E.LINK_ROLE, 0, 1), (E.LINK_ROLE, 1, 1)]

def wrb (f : Fam) (i : Nat) (d : List Nat) : Req :=
  { op := 2, index := f.index i, sub := f.sub, ty := tyCode f.ty, len := d.length, epoch := 5, seq := 7, offset := 0, more := false,
    stagedView := false, data := d, requester := 9, transport := .host2w }

/-- A WRITE of requester 9. -/
def wr (f : Fam) (i v : Nat) : Req := wrb f i (leBytes ((tySize f.ty).getD 1) v)

/-- The value that `wr` writes. -/
def wv (f : Fam) (i v : Nat) : Val := f.decode (leBytes ((tySize f.ty).getD 1) v)

/-- A READ of requester 9. -/
def rd (f : Fam) (i : Nat) : Req :=
  { op := 1, index := f.index i, sub := f.sub, ty := 0, len := 0, epoch := 5, seq := 7, offset := 0, more := false, stagedView := false,
    data := [], requester := 9, transport := .usb }

/-- The keeper's service runs. -/
def keeping (l : List (Fam × Nat × Nat)) : State := (up l).mm fun m => { m with kpr := { m.kpr with running := true } }

/-- A USB partner is attached. -/
def plugged (l : List (Fam × Nat × Nat)) : State := (up l).mm fun m => { m with usb := { attached := true } }

/-- The USB service host has a session at L3. -/
def hosted : State := { (plugged []).ses with srv := { sessions := [⟨usbRequester, 3, 0⟩] } }

/-- The queue of the HOST2W window's requests is full. -/
def crowded : State := (up []).mm fun m =>
  { m with queues := setAt {} m.queues (reqQueue .host2w) { items := List.replicate 40 ⟨1, 1, 1, false, 0⟩, gapNext := false } }

def done : CRec := { requester := 9, epoch := 5, seq := 7, op := 2, index := 0, sub := 0, status := 0, detail := 0, eff := 0, doneAt := 0 }

def asker : Asker := askerOf (rd E.EPOCH 0) 5

/-- A journal record of one write. -/
def slewRec : JRec := { writes := [(E.SYS_SLEW.key 0, .num 7)], olds := [(E.SYS_SLEW.key 0, .num 9)], ask := none, kind := 0 }

/-- A request of these bytes lies in the window's buffer; the bus has rested. -/
def window (body : List Nat) : State := (up []).mm fun m =>
  { m with h2w := { m.h2w with busyTo := 0, reqLen := 20, buf := body.zipIdx.filterMap fun x =>
      if x.1 = 0 then none else some (x.2, BitVec.ofNat 8 x.1) } }

/-- A BMS poll of unit 1 runs. -/
def busy : State := (up [(E.BMS_SRC, 0, 2)]).mm fun m => { m with b2w := [{}, { running := true }] }

/-- Both CAN ports take OD requests at 0x600. -/
def can (l : List (Fam × Nat × Nat)) : State :=
  up ([(E.CAN_EN, 0, 1), (E.CAN_EN, 1, 1), (E.CAN_OD_BASE, 0, 0x600), (E.CAN_OD_BASE, 1, 0x600), (E.CAN_NODE, 0, 7), (E.CAN_NODE, 1, 7)] ++ l)

def compact : CanFrame :=
  { bus := 0, id := 0x603, ext := false, fd := true, data := [7, 4, 0, 0, 0, 0, 0, 0, 5, 0, 0, 0, 7, 0, 0, 0, 0, 0, 0, 0] }

def mapped : CanFrame := { bus := 1, id := 0x123, ext := false, fd := true, data := [7, 4, 0, 0, 50, 0, 0, 0] }

/-- The state a command leaves. -/
def after : Host.Outcome State Fault Refusal → State
  | .next s => s
  | _ => up []

theorem next_of {o : Host.Outcome State Fault Refusal} (h : (match o with | .next _ => true | _ => false) = true) : o = .next (after o) := by
  cases o <;> simp_all [after]

theorem fault_of {o : Host.Outcome State Fault Refusal} {f : Fault} (h : (match o with | .fault g => g == f | _ => false) = true) :
    o = .fault f := by
  cases o <;> simp_all

/-! ## The hypotheses of every statement are met -/

theorem TheQueueIsServedInOrder_met :
    (∃ (c : Instr) (s s' : State), exec c s = .next s') ∧
    (∃ (s : State), s.pending = []) :=
  ⟨⟨.estopTest 0 true, up [], _, next_of (by decide +kernel)⟩,
   ⟨State.reset, by decide +kernel⟩⟩

theorem OnlyVoltagesBeyondTheMaximumStopTheMachine_met :
    ∃ (c : Instr) (s : State) (f : Fault), exec c s = .fault f :=
  ⟨.modeTick 0 { noTick with smp := [2000 :: List.replicate 15 0] }, up [], .outsideManual 0, fault_of (by decide +kernel)⟩

theorem EveryStepKeepsTheServerBounded_met :
    ∃ s s' : State, s.srv.Bounded ∧ step s = .next s' :=
  ⟨{ up [] with pending := [.estopTest 0 true] }, _, ⟨by decide +kernel, by decide +kernel, by decide +kernel, by
    decide +kernel⟩, next_of (by decide +kernel)⟩

theorem EveryStepKeepsTheRequestBuffer_met :
    ∃ s s' : State, Memory.wf s.m.h2w.buf = true ∧ step s = .next s' :=
  ⟨{ window [4, 0, 7] with pending := [.h2wWriteTransaction 0 [2, 9] .stop] }, _, by decide +kernel, next_of (by
    decide +kernel)⟩

theorem ModeAxisAndBridgeEvents_met :
    (∃ (s : State) (r : Nat), s.m.alive = true ∧ s.m.modes.dwellCand = some r ∧ moored r = true ∧ s.m.n E.ENV_EFF 0 = 10 ∧
      s.m.n E.AUTO_DWELL 0 ≤ s.m.modes.dwellCnt ∧ moored (s.m.n E.PATH_ACT 0) = true) ∧
    (∃ (s : State), s.m.alive = true ∧ s.m.n E.BRIDGE_STATE 0 = 2 ∧ (s.m.stgOf 0).respLeft = 0 ∧ s.m.anyShedding 0 = false ∧
      (s.m.stgOf 0).rotLeft = 0 ∧ s.m.b E.ROT_EN 0 = true) ∧
    (∃ (s : State), s.m.alive = true ∧ s.m.modes.hibernating = true ∧ s.m.n E.POWER_REQ 0 = 2 ∧ s.m.n E.ENV_EFF 0 = 0 ∧
      s.m.envelope.1 = 0) ∧
    (∃ (s : State), s.m.alive = true ∧ s.m.modes.raising = true) ∧
    (∃ (s : State), s.m.alive = true ∧ s.m.n E.BRIDGE_QUAL 0 ≤ s.m.modes.bridgeQual ∧ s.m.n E.BRIDGE_STATE 0 = 0 ∧ s.m.n
      E.COUPLING_ACT 0 = 1 ∧ s.m.running 1 = true) ∧
    (∃ (t : Nat) (s : State), s.m.alive = true ∧ s.m.n E.BRIDGE_STATE 0 = 1 ∧ (s.m.at t).due .bridge = true) ∧
    (∃ (t : Nat) (s : State), s.m.alive = true ∧ s.m.n E.BRIDGE_STATE 0 = 3 ∧ (s.m.at t).due .bridge = true ∧ (s.m.at
      t).vsetDone = true) :=
  ⟨⟨(up [(E.ENV_EFF, 0, 10),(E.PATH_ACT, 0, 2),(E.AUTO_DWELL, 0, 20)]).mm fun m =>
  { m with modes := { dwellCand := some 2, dwellCnt := 20 } }, 2, by decide +kernel⟩,
   ⟨up [(E.BRIDGE_STATE, 0, 2),(E.ROT_EN, 0, 1)], by decide +kernel⟩,
   ⟨(up [(E.POWER_REQ, 0, 2)]).mm fun m => { m with modes := { hibernating := true } }, by decide +kernel⟩,
   ⟨(up []).mm fun m => { m with modes := { raising := true } }, by decide +kernel⟩,
   ⟨(up [(E.COUPLING_ACT, 0, 1),(E.SST_STATE, 1, 3)]).mm fun m =>
     { m with stg := [{}, { gate := 0 }], modes := { bridgeQual := m.n E.BRIDGE_QUAL 0 } }, by decide +kernel⟩,
   ⟨0, (up [(E.BRIDGE_STATE, 0, 1)]).tmr .bridge, by decide +kernel⟩,
   ⟨0, (up [(E.BRIDGE_STATE, 0, 3)]).tmr .bridge, by decide +kernel⟩⟩

theorem BlackstartAndSafestopSteps_met :
    (∃ (v : Rat) (s : State), s.m.alive = true ∧ s.m.n E.PATH_ACT 0 = 7 ∧ s.m.n E.BS_STATE 0 = 1 ∧ s.m.winLo 4 ≤ v ∧ v ≤
      s.m.winHi 4) ∧
    (∃ (vInt : Rat) (vTerm : Rat) (s : State), s.m.alive = true ∧ s.m.n E.PATH_ACT 0 = 7 ∧ s.m.n E.BS_STATE 0 = 4 ∧ joined
      vInt vTerm = true ∧ s.m.lockstep = false ∧ (s.m.protOf 4).pilotOpen = false) ∧
    (∃ (t : Nat) (s : State), s.m.alive = true ∧ s.m.n E.PATH_ACT 0 = 7 ∧ s.m.n E.BS_STATE 0 = 6 ∧ (s.m.at t).due .bsSettle
      = true) ∧
    (∃ (t : Nat) (s : State) (c : Instr), s.m.alive = true ∧ s.m.n E.PATH_ACT 0 = 7 ∧ s.m.n E.SS_STATE 0 = 0 ∧ ((c =
      .bsContTExpiry t ∧ s.m.n E.BS_STATE 0 = 1 ∧ (s.m.at t).due .bsCont = true) ∨ (c = .bsPrechargeTimeout t ∧ s.m.n
      E.BS_STATE 0 = 4 ∧ (s.m.at t).due .bsPre = true) ∨ (c = .bsTimeout t ∧ 1 ≤ s.m.n E.BS_STATE 0 ∧ s.m.n E.BS_STATE 0 ≤ 6
      ∧ (s.m.at t).due .bsTimeout = true))) ∧
    (∃ (t : Nat) (s : State), s.m.alive = true ∧ s.m.n E.SS_STATE 0 = 1 ∧ (s.m.at t).due .ssRamp = true) ∧
    (∃ (t : Nat) (s : State), s.m.alive = true ∧ s.m.n E.SS_STATE 0 = 2 ∧ (s.m.at t).due .ssOpen = true) ∧
    (∃ (v : Rat) (s : State), s.m.alive = true ∧ s.m.n E.SS_STATE 0 = 3 ∧ v < 60) :=
  ⟨⟨(up []).m.winHi 4, up [(E.BS_STATE, 0, 1),(E.PATH_ACT, 0, 7)], by decide +kernel⟩,
   ⟨400, 401, up [(E.BS_STATE, 0, 4),(E.PATH_ACT, 0, 7)], by decide +kernel⟩,
   ⟨0, (up [(E.BS_STATE, 0, 6),(E.PATH_ACT, 0, 7)]).tmr .bsSettle, by decide +kernel⟩,
   ⟨0, (up [(E.BS_STATE, 0, 1),(E.PATH_ACT, 0, 7)]).tmr .bsCont, .bsContTExpiry 0, by decide +kernel⟩,
   ⟨0, (up [(E.SS_STATE, 0, 1)]).tmr .ssRamp, by decide +kernel⟩,
   ⟨0, (up [(E.SS_STATE, 0, 2)]).tmr .ssOpen, by decide +kernel⟩,
   ⟨59, up [(E.SS_STATE, 0, 3)], by decide +kernel⟩⟩

theorem OverloadAndAdaptiveLimits_met :
    (∃ (st : Stage) (s : State), s.m.alive = true ∧ 100000 ≤ (s.m.stgOf (Stage.idx st)).ovl ∧ (s.m.stgOf (Stage.idx
      st)).ovlHeld = false) ∧
    (∃ (st : Stage) (s : State), s.m.alive = true ∧ 600000 ≤ (s.m.stgOf (Stage.idx st)).ovlClear) ∧
    (∃ (t : Nat) (k : Nat) (s : State), s.m.alive = true ∧ k < 4 ∧ s.m.n E.QUAL_STATE k = 5 ∧ (s.m.at t).due (.adapt k) =
      true ∧ (∀ j, j < 4 → j ≠ k → (s.m.inpOf j).stepping = none) ∧ s.m.cb E.ADAPT_EN 0 = true ∧ 0 < s.m.iPort k ∧
      (s.m.inpOf k).starting = false) ∧
    (∃ (k : Nat) (dv : Rat) (load : Rat) (d : Rat) (s : State), s.m.alive = true ∧ k < 4 ∧ (s.m.inpOf k).stepping = some d ∧
      0 < d ∧ absR load ≤ 5 ∧ dec 2 1 ≤ dv ∧ dv / d ≤ 50) ∧
    (∃ (k : Nat) (v : Rat) (i : Rat) (s : State), s.m.alive = true ∧ k < 4 ∧ s.m.n E.QUAL_STATE k = 5 ∧ s.m.cb E.ADAPT_EN 0
      = true ∧ 0 < i ∧ v < s.m.vFloor k ∧ s.m.n E.ADAPT_STATE k ≠ 1) :=
  ⟨⟨.a, (up []).mm fun m => { m with stg := [{ ovl := 100000 }, {}] }, by decide +kernel⟩,
   ⟨.b, (up []).mm fun m => { m with stg := [{}, { ovlClear := 600000 }] }, by decide +kernel⟩,
   ⟨0, 3, ((up [(E.QUAL_STATE, 3, 5),(E.ADAPT_EN, 0, 1)]).tmr (.adapt 3)).mm fun m =>
     { m with mean := { m.mean with i := [0,0,0,4,0,0,0,0] } }, by decide +kernel⟩,
   ⟨0, 100, 5, 2, (up []).mm (·.modInp 0 fun x => { x with stepping := some 2 }), by decide +kernel⟩,
   ⟨0, 0, 1, up [(E.QUAL_STATE, 0, 5),(E.ADAPT_EN, 0, 1)], by decide +kernel⟩⟩

theorem QualificationEvents_met :
    (∃ (k : Nat) (v : Rat) (s : State), s.m.alive = true ∧ k < 5 ∧ s.m.n E.QUAL_STATE k = 1 ∧ s.m.portUsable k = true ∧
      qualRuns (s.m.n E.PATH_ACT 0) = true ∧ s.m.qualLow k ≤ v ∧ v ≤ s.m.winHi k) ∧
    (∃ (k : Nat) (v : Rat) (s : State), s.m.alive = true ∧ k < 5 ∧ 2 ≤ s.m.n E.QUAL_STATE k ∧ s.m.n E.QUAL_STATE k ≤ 4 ∧ (v
      < s.m.qualLow k ∨ s.m.winHi k < v)) ∧
    (∃ (t : Nat) (k : Nat) (s : State), s.m.alive = true ∧ k < 4 ∧ s.m.n E.QUAL_STATE k = 2 ∧ (s.m.at t).due (.insertion k)
      = true) ∧
    (∃ (k : Nat) (vInt : Rat) (vTerm : Rat) (s : State), s.m.alive = true ∧ k < 5 ∧ s.m.n E.QUAL_STATE k = 4 ∧ ¬ (k = 4 ∧
      s.m.n E.PATH_ACT 0 = 7) ∧ absR (vInt - vTerm) ≤ absR vTerm / 50 ∧ s.m.lockstep = false ∧ (s.m.protOf k).pilotOpen =
      false) ∧
    (∃ (t : Nat) (k : Nat) (s : State), s.m.alive = true ∧ k < 5 ∧ s.m.n E.QUAL_STATE k = 4 ∧ (s.m.at t).due (.precharge k)
      = true) :=
  ⟨⟨4, (up []).m.winHi 4, up [(E.QUAL_STATE, 4, 1),(E.PATH_ACT, 0, 3)], by decide +kernel⟩,
   ⟨0, (up []).m.winHi 0 + 1, up [(E.QUAL_STATE, 0, 4)], by decide +kernel⟩,
   ⟨0, 3, (up [(E.QUAL_STATE, 3, 2)]).tmr (.insertion 3), by decide +kernel⟩,
   ⟨4, 490, 500, up [(E.QUAL_STATE, 4, 4)], by decide +kernel⟩,
   ⟨0, 4, (up [(E.QUAL_STATE, 4, 4),(E.QUAL_PREFAIL, 4, 2)]).tmr (.precharge 4), by decide +kernel⟩⟩

theorem RideDropAndPilotEvents_met :
    (∃ (k : Nat) (v : Rat) (s : State), s.m.alive = true ∧ k < 5 ∧ s.m.n E.QUAL_STATE k = 5 ∧ v < s.m.rideEdge k) ∧
    (∃ (t : Nat) (k : Nat) (v : Rat) (s : State), s.m.alive = true ∧ k < 4 ∧ s.m.n E.QUAL_STATE k = 6 ∧ (s.m.at t).due
      (.ride k) = false ∧ s.m.rideEdge k < v) ∧
    (∃ (t : Nat) (k : Nat) (s : State), s.m.alive = true ∧ k < 5 ∧ (s.m.n E.QUAL_STATE k = 5 ∨ s.m.n E.QUAL_STATE k = 6) ∧
      (s.m.at t).due (.flap k) = true) ∧
    (∃ (t : Nat) (k : Nat) (v : Rat) (fall : Rat) (i : Rat) (s : State) (c : Instr) (cause : Nat), s.m.alive = true ∧ k < 5
      ∧ (s.m.n E.QUAL_STATE k = 5 ∨ s.m.n E.QUAL_STATE k = 6) ∧ ((c = .rideExpiry t k v ∧ cause = 1 ∧ s.m.n E.QUAL_STATE k =
      6 ∧ (s.m.at t).due (.ride k) = true ∧ ¬ (k = 4 ∧ s.m.n E.PATH_ACT 0 = 3)) ∨ (c = .portOvervoltage t k v ∧ cause = 2 ∧
      s.m.cq E.QUAL_OV k < v) ∨ (c = .inputCollapse t k v fall ∧ cause = 3 ∧ (100 < fall ∨ v < s.m.rideEdge k / 2)) ∨ (c =
      .reverseCurrentFault t k i ∧ cause = 6 ∧ k < 4 ∧ s.m.cb E.IN_BIDIR k = false ∧ i < -2))) ∧
    (∃ (k : Nat) (s : State), s.m.alive = true ∧ k < 8 ∧ (s.m.protOf k).pilotOpen = false) ∧
    (∃ (k : Nat) (s : State), s.m.alive = true ∧ k < 8 ∧ (s.m.protOf k).pilotOpen = true) :=
  ⟨⟨0, 10, up [(E.QUAL_STATE, 0, 5)], by decide +kernel⟩,
   ⟨0, 3, 2000, up [(E.QUAL_STATE, 3, 6)], by decide +kernel⟩,
   ⟨0, 4, (up [(E.QUAL_STATE, 4, 6)]).tmr (.flap 4), by decide +kernel⟩,
   ⟨0, 4, 0, 101, 0, up [(E.QUAL_STATE, 4, 6)], .inputCollapse 0 4 0 101, 3, by decide +kernel⟩,
   ⟨7, up [], by decide +kernel⟩,
   ⟨7, (up []).mm (·.modProt 7 fun x => { x with pilotOpen := true }), by decide +kernel⟩⟩

theorem EnginePeriods_met :
    (∃ (g : Nat) (s : State), s.m.alive = true ∧ s.m.regStage = some g ∧ s.m.running g = true ∧ s.m.deadRamp g = false ∧
      s.m.reg.bridgeTo = none) ∧
    (∃ (s : State), s.m.alive = true) ∧
    (∃ (s : State), s.m.alive = true) ∧
    (∃ (p : Nat) (s : State), s.m.alive = true ∧ p < 16 ∧ (s.m.switches p = true ∨ s.m.n E.PH_STATE p = 7)) :=
  ⟨⟨0, (up [(E.PATH_ACT, 0, 3),(E.SST_STATE, 0, 3)]).mm fun m => { m with stg := [{ gate := 0 }, { gate := 0 }] }, by
  decide +kernel⟩,
   ⟨up [], by decide +kernel⟩,
   ⟨up [], by decide +kernel⟩,
   ⟨15, up [(E.PH_STATE, 15, 7)], by decide +kernel⟩⟩

theorem PhaseEvents_met :
    (∃ (t : Nat) (p : Nat) (s : State), s.m.alive = true ∧ p < 16 ∧ (s.m.at t).due (.arming p) = true ∧ s.m.n E.PH_STATE p =
      1 ∧ s.m.gated (stageOf p) = false ∧ s.m.excluded p = false) ∧
    (∃ (p : Nat) (s : State), s.m.alive = true ∧ p < 16 ∧ s.m.n E.PH_STATE p = 3 ∧ 2 ≤ (s.m.phOf p).step) ∧
    (∃ (t : Nat) (k : Nat) (p : Nat) (st : Stage) (s : State), s.m.alive = true ∧ k =
      (match st with | .a => k % 4 | .b => 4) ∧ (s.m.at t).due (.shed k) = true ∧ s.m.shedHolds k = true ∧ s.m.anyShedding
      (groupStage k) = false ∧ s.m.longestActive k = some p) ∧
    (∃ (p : Nat) (s : State), s.m.alive = true ∧ p < 16 ∧ s.m.n E.PH_STATE p = 5 ∧ s.m.n E.STG_SHED_RAMP (stageOf p) ≤
      (s.m.phOf p).step) ∧
    (∃ (t : Nat) (p : Nat) (s : State), s.m.alive = true ∧ p < 16 ∧ (s.m.at t).due (.armHold p) = true ∧ s.m.n E.PH_STATE p
      = 2 ∧ (s.m.phOf p).held = false ∧ s.m.intentHolds (stageOf p) = false) ∧
    (∃ (st : Stage) (s : State), s.m.alive = true ∧ (s.m.stgOf (Stage.idx st)).respLeft = 1) ∧
    (∃ (p : Nat) (cause : Nat) (s : State), s.m.alive = true ∧ p < 16 ∧ 1 ≤ cause ∧ cause ≤ 3 ∧ s.m.n E.PH_STATE p ≠ 6 ∧
      (cause = 1 → 8 ≤ (s.m.phOf p).peakRun)) :=
  ⟨⟨0, 15, ((up [(E.PH_STATE, 15, 1)]).tmr (.arming 15)).mm fun m => { m with stg := [{ gate := 0 }, { gate := 0 }] }, by
  decide +kernel⟩,
   ⟨15, (up [(E.PH_STATE, 15, 3)]).mm (·.modPh 15 fun x => { x with step := 2 }), by decide +kernel⟩,
   ⟨0, 4, 8, .b, shedding, by decide +kernel⟩,
   ⟨0, (up [(E.PH_STATE, 0, 5),(E.STG_SHED_RAMP, 0, 4)]).mm (·.modPh 0 fun x => { x with step := 4 }), by decide +kernel⟩,
   ⟨0, 0, (up [(E.PH_STATE, 0, 2)]).tmr (.armHold 0), by decide +kernel⟩,
   ⟨.a, (up []).mm fun m => { m with stg := [{ respLeft := 1 }, {}] }, by decide +kernel⟩,
   ⟨15, 3, up [], by decide +kernel⟩⟩

theorem SoftStartAndStop_met :
    (∃ (t : Nat) (st : Stage) (s : State), s.m.alive = true ∧ s.m.n E.SST_STATE (Stage.idx st) = 1 ∧ (s.m.at t).due
      (.sstDelay (Stage.idx st == 0)) = true ∧ s.m.gated (Stage.idx st) = false) ∧
    (∃ (st : Stage) (v : Rat) (s : State), s.m.alive = true ∧ s.m.n E.SST_STATE (Stage.idx st) = 2 ∧ s.m.gated (Stage.idx
      st) = false ∧ 1 ≤ (s.m.stgOf (Stage.idx st)).lim ∧ (s.m.regStage = some (Stage.idx st) → s.m.reg.vset = s.m.vsetEnd ∧
      absR (v - s.m.q E.V_REF 0) ≤ s.m.q E.V_REF 0 / 50)) ∧
    (∃ (st : Stage) (s : State), s.m.alive = true ∧ s.m.deadRamp (Stage.idx st) = true ∧ 30 ≤ s.m.reg.vset ∧ s.m.n
      E.PATH_ACT 0 ≠ 7) ∧
    (∃ (t : Nat) (st : Stage) (s : State), s.m.alive = true ∧ s.m.n E.SST_STATE (Stage.idx st) = 5 ∧ (s.m.at t).due (.hiccup
      (Stage.idx st == 0)) = true ∧ (s.m.stgOf (Stage.idx st)).gate = 0x20 ∧ s.m.portUsable 5 = true ∧ s.m.lockstep = false) ∧
    (∃ (t : Nat) (st : Stage) (s : State), s.m.alive = true ∧ (s.m.at t).due (.sspDelay (Stage.idx st == 0)) = true) ∧
    (∃ (st : Stage) (s : State), s.m.alive = true ∧ (s.m.stgOf (Stage.idx st)).stopping = true ∧ (s.m.stgOf (Stage.idx
      st)).lim ≤ 0 ∧ s.m.n E.SS_STATE 0 = 0 ∧ s.m.armed .fenceRamp = false) :=
  ⟨⟨0, .b, ((up [(E.SST_STATE, 1, 1)]).tmr (.sstDelay false)).mm fun m => { m with stg := [{}, { gate := 0 }] }, by
  decide +kernel⟩,
   ⟨.b, 0, (up [(E.SST_STATE, 1, 2)]).mm fun m => { m with stg := [{}, { gate := 0, lim := 1 }] }, by decide +kernel⟩,
   ⟨.a, (up [(E.SST_STATE, 0, 2),(E.PATH_ACT, 0, 3)]).mm fun m =>
     { m with stg := [{ deadBus := true }, {}], reg := { m.reg with vset := 30 } }, by decide +kernel⟩,
   ⟨0, .a, ((up [(E.SST_STATE, 0, 5)]).tmr (.hiccup true)).mm fun m => { m with stg := [{ gate := 0x20 }, {}] }, by
     decide +kernel⟩,
   ⟨0, .a, (up []).tmr (.sspDelay true), by decide +kernel⟩,
   ⟨.a, (up []).mm fun m => { m with stg := [{ stopping := true, lim := 0 }, {}] }, by decide +kernel⟩⟩

theorem SenseAndIntentEvents_met :
    (∃ (t : Nat) (pr : Pair) (s : State) (c : Instr) (st : Nat), s.m.alive = true ∧ s.m.n E.SNS_STATE (Pair.idx pr) = 1 ∧
      ((c = .senseOpen t pr ∧ st = 2) ∨ (c = .senseReversed t pr ∧ st = 3))) ∧
    (∃ (pr : Pair) (s : State), s.m.alive = true ∧ (s.m.n E.SNS_STATE (Pair.idx pr) = 2 ∨ s.m.n E.SNS_STATE (Pair.idx pr) =
      3) ∧ s.m.b E.SNS_EN (Pair.idx pr) = true) ∧
    (∃ (t : Nat) (a : AllocMsg) (idx : Nat) (d : Int) (s : State), s.m.alive = true ∧ s.m.ntimeOk = true ∧ s.m.n
      E.SHARE_ROLE 0 = 1 ∧ a.seg = s.m.n E.SEG_ID 0 ∧ s.m.n E.SHARE_IDX 0 = idx ∧ a.entries.find? (fun e => e.1 == idx) =
      some (idx, d) ∧ s.m.cb E.INT_EN 0 = true ∧ s.m.cn E.INT_CMIN 0 ≤ a.conf ∧ s.m.intentPath = true ∧ a.tArr ≤ (s.m.at
      t).ntime + ticksMs (s.m.cq E.INT_HORIZON 0) ∧ (s.m.at t).ntime < a.tArr + ticksUs (s.m.cq E.INT_WIN 0) ∧
      (s.m.intents.filter (fun j => j.phase == 0)).length < 8) ∧
    (∃ (a : AllocMsg) (s : State), s.m.alive = true ∧ (s.m.n E.SHARE_ROLE 0 ≠ 1 ∨ a.seg ≠ s.m.n E.SEG_ID 0 ∨ a.entries.all
      (fun e => e.1 != s.m.n E.SHARE_IDX 0) = true)) ∧
    (∃ (t : Nat) (orig : Nat) (num : Nat) (i : Intent) (s : State), s.m.alive = true ∧ s.m.pendingIntent orig num = some i ∧
      i.armed = false ∧ i.tArr ≤ (s.m.at t).ntime + ticksUs (s.m.cq E.INT_T_ARM 0)) ∧
    (∃ (t : Nat) (orig : Nat) (num : Nat) (i : Intent) (s : State), s.m.alive = true ∧ s.m.pendingIntent orig num = some i ∧
      i.pre = false ∧ i.tArr ≤ (s.m.at t).ntime + ticksUs (s.m.cq E.INT_T_PB 0)) ∧
    (∃ (t : Nat) (orig : Nat) (num : Nat) (i : Intent) (s : State), s.m.alive = true ∧ s.m.pendingIntent orig num = some i ∧
      i.tArr + ticksUs (s.m.cq E.INT_WIN 0) < (s.m.at t).ntime) ∧
    (∃ (t : Nat) (s : State), s.m.alive = true ∧ (s.m.at t).due .fr = true) :=
  ⟨⟨0, .sys, up [(E.SNS_STATE, 0, 1)], .senseOpen 0 .sys, 2, by decide +kernel⟩,
   ⟨.bat, up [(E.SNS_STATE, 1, 3),(E.SNS_EN, 1, 1)], by decide +kernel⟩,
   ⟨0, { seg := 4, orig := 1, num := 2, tArr := (up []).m.ntime + 50, conf := 255, entries := [(1, 7)] }, 1, 7, up
     [(E.INT_EN, 0, 1),(E.NET_FLAGS, 0, 1),(E.PATH_ACT, 0, 3),(E.SHARE_ROLE, 0, 1),(E.SEG_ID, 0, 4),(E.SHARE_IDX, 0, 1)], by
     decide +kernel⟩,
   ⟨{ seg := 4, orig := 1, num := 2, tArr := 0, conf := 255, entries := [(1, 7)] }, up [], by decide +kernel⟩,
   ⟨0, 5, 1, soon 0, (up []).mm fun m => { m with intents := [soon 0] }, by decide +kernel⟩,
   ⟨0, 5, 1, soon 0, (up []).mm fun m => { m with intents := [soon 0] }, by decide +kernel⟩,
   ⟨0, 5, 1, soon (-50000000), (up []).mm fun m => { m with intents := [soon (-50000000)] }, by decide +kernel⟩,
   ⟨0, (up []).tmr .fr, by decide +kernel⟩⟩

theorem ProfileCommands_met :
    (∃ (t : Nat) (k : Nat) (r : Req) (c : Instr) (v : Val) (s : State), s.m.alive = true ∧ ((k = 1 ∧ c = .profStart t
      (.accept r)) ∨ (k = 2 ∧ c = .profStop t (.accept r)) ∨ (k = 3 ∧ c = .profRestart t (.accept r)) ∨ (k = 4 ∧ c =
      .profSkip t (.accept r))) ∧ Takes (s.m.at t, s.srv) r E.PROF_CMD 0 v ∧ leNat r.data = k) ∧
    (∃ (t : Nat) (k : Nat) (n : Nat) (c : Instr) (cs : List Nat) (s : State), s.m.alive = true ∧ s.m.prof.cmds = k :: cs ∧
      ((k = 1 ∧ c = .profStart t .boundary ∧ n = s.m.n E.PROF_SEL 0 ∧ (s.m.n E.PROF_STATE 0 = 0 ∨ s.m.n E.PROF_STATE 0 = 3))
      ∨ (k = 3 ∧ c = .profRestart t .boundary ∧ n = s.m.n E.PROF_ACT 0 ∧ (s.m.n E.PROF_STATE 0 = 1 ∨ s.m.n E.PROF_STATE 0 =
      2))) ∧ n < 16 ∧ s.m.profileError n = 0 ∧ s.m.n E.PROF_FIRST n < 16 ∧ 1 ≤ s.m.n E.PROF_MAXVISITS n) ∧
    (∃ (cs : List Nat) (s : State), s.m.alive = true ∧ s.m.prof.cmds = 2 :: cs ∧ (s.m.n E.PROF_STATE 0 = 1 ∨ s.m.n
      E.PROF_STATE 0 = 2)) ∧
    (∃ (cs : List Nat) (s : State), s.m.alive = true ∧ s.m.prof.cmds = 4 :: cs ∧ s.m.n E.PROF_STATE 0 = 1 ∧ s.m.n E.STEP_ACT
      0 < 16) :=
  ⟨⟨0, 4, wr E.PROF_CMD 0 4, .profSkip 0 (.accept (wr E.PROF_CMD 0 4)), wv E.PROF_CMD 0 4, (stepping 7).ses, by decide +kernel,
  by decide +kernel, Takes.of_check (by decide +kernel), by decide +kernel⟩,
   ⟨0, 1, 0, .profStart 0 .boundary, [3], ((up prof).mm fun m => { m with prof := { m.prof with cmds := [1, 3] } }), by
     decide +kernel⟩,
   ⟨[3], (stepping 7).mm fun m => { m with prof := { m.prof with cmds := [2, 3] } }, by decide +kernel⟩,
   ⟨[3], (stepping 7).mm fun m => { m with prof := { m.prof with cmds := [4, 3] } }, by decide +kernel⟩⟩

theorem ProfileStepEvents_met :
    (∃ (e : Nat) (s : State), s.m.alive = true ∧ s.m.regulating = true ∧ s.m.suspendCause = 0 ∧ s.m.exitStands = some e ∧
      s.m.recovering = false ∧ s.m.n E.STEP_ACT 0 < 16) ∧
    (∃ (s : State), s.m.alive = true ∧ s.m.regulating = true ∧ s.m.suspendCause = 0 ∧ s.m.exitStands = none ∧ s.m.recovering
      = false ∧ s.m.n E.STEP_ACT 0 < 16 ∧ 0 < s.m.q E.T_MAX s.m.stepIdx ∧ s.m.q E.T_MAX s.m.stepIdx ≤ mkRat s.m.prof.ticks
      10000) ∧
    (∃ (status : Nat) (s : State), s.m.alive = true ∧ s.m.stepRunning = true ∧ 2 ≤ status) ∧
    (∃ (s : State), s.m.alive = true ∧ s.m.regulating = true ∧ s.m.n E.KIND s.m.stepIdx = 6 ∧ (if s.m.prof.pulseLow = true
      then s.m.q E.SP_T2 s.m.stepIdx else s.m.q E.SP_T s.m.stepIdx) ≤ mkRat ((s.m.prof.ticks - s.m.prof.pulseFrom : Nat) :
      Int) 10000) :=
  ⟨⟨1, ((stepping 7).put [(E.EX1, 3, 0xFE01)]).mm fun m => { m with prof := { m.prof with exT := [50,50,50] } }, by
  decide +kernel⟩,
   ⟨(stepping 7).mm fun m => { m with prof := { m.prof with ticks := 100000000 } }, by decide +kernel⟩,
   ⟨2, stepping 7, by decide +kernel⟩,
   ⟨(stepping 6).mm fun m => { m with prof := { m.prof with ticks := 100000000 } }, by decide +kernel⟩⟩

theorem BatteryAndScanEvents_met :
    (∃ (t : Nat) (s : State), s.m.alive = true ∧ s.m.n E.BMS_SRC 0 ≠ 0 ∧ s.m.bms.written = true ∧ s.m.n E.BMS_FRESH 0 = 0 ∧
      ms (s.m.n E.BMS_STALE_T 0) < (s.m.at t).bmsAge ∧ (s.m.at t).bmsAge ≤ ms (s.m.n E.BMS_STALE_T 0 + s.m.n E.BMS_GRACE_T
      0)) ∧
    (∃ (t : Nat) (s : State), s.m.alive = true ∧ s.m.n E.BMS_SRC 0 ≠ 0 ∧ s.m.bms.written = true ∧ s.m.n E.BMS_FRESH 0 ≤ 1 ∧
      ms (s.m.n E.BMS_STALE_T 0 + s.m.n E.BMS_GRACE_T 0) < (s.m.at t).bmsAge) ∧
    (∃ (t : Nat) (s : State), s.m.alive = true ∧ s.m.bms.wake = true ∧ s.m.bms.waiting = false ∧ (s.m.at t).due .bmsWake =
      true) ∧
    (∃ (t : Nat) (s : State), s.m.alive = true ∧ s.m.bms.wake = true ∧ s.m.bms.waiting = true ∧ (s.m.at t).due .bmsWake =
      true) ∧
    (∃ (s : State), s.m.alive = true ∧ s.m.scan.req = true ∧ s.m.regulating = true ∧ s.m.n E.KIND s.m.stepIdx = 10) ∧
    (∃ (t : Nat) (x : ScanPoint) (s : State), s.m.alive = true ∧ s.m.n E.SCAN_STATE 0 = 1 ∧ s.m.scan.retried = false ∧
      s.m.scan.from_ + s.m.scanSpan ≤ (s.m.at t).tb ∧ (s.m.scan.disturbed = true ∨ s.m.scan.amp / 20 < absR x.shift)) ∧
    (∃ (t : Nat) (x : ScanPoint) (s : State), s.m.alive = true ∧ s.m.n E.SCAN_STATE 0 = 1 ∧ s.m.scan.from_ + s.m.scanSpan ≤
      (s.m.at t).tb ∧ s.m.scan.disturbed = false ∧ absR x.shift ≤ s.m.scan.amp / 20) ∧
    (∃ (t : Nat) (s : State), s.m.alive = true ∧ (s.m.at t).due .lifetime = true) :=
  ⟨⟨0, (up [(E.BMS_SRC, 0, 3),(E.BMS_FRESH, 0, 0),(E.BMS_STALE_T, 0, 100),(E.BMS_GRACE_T, 0, 200)]).mm fun m =>
  { m with bms := { m.bms with written := true, last := List.replicate 5 (m.tb - ms 150) } }, by decide +kernel⟩,
   ⟨0, (up [(E.BMS_SRC, 0, 3),(E.BMS_FRESH, 0, 0),(E.BMS_STALE_T, 0, 100),(E.BMS_GRACE_T, 0, 200)]).mm fun m =>
     { m with bms := { m.bms with written := true, last := List.replicate 5 (m.tb - ms 350) } }, by decide +kernel⟩,
   ⟨0, ((up []).tmr .bmsWake).mm fun m => { m with bms := { m.bms with wake := true } }, by decide +kernel⟩,
   ⟨0, ((up []).tmr .bmsWake).mm fun m => { m with bms := { m.bms with wake := true, waiting := true } }, by decide +kernel⟩,
   ⟨(stepping 10).mm fun m => { m with scan := { m.scan with req := true } }, by decide +kernel⟩,
   ⟨0, point 9, up [(E.SCAN_STATE, 0, 1)], by decide +kernel⟩,
   ⟨0, point 0, up [(E.SCAN_STATE, 0, 1)], by decide +kernel⟩,
   ⟨0, (up []).tmr .lifetime, by decide +kernel⟩⟩

theorem SharingEvents_met :
    (∃ (t : Nat) (h : Hdr) (s : State), s.m.alive = true ∧ s.m.leads = true ∧ s.m.addressed h = true ∧ Passes (s.m.at t) h
      0x30 none) ∧
    (∃ (h : Hdr) (x : ShareRpt) (s : State), s.m.alive = true ∧ (s.m.leads = false ∨ s.m.addressed h = false) ∧ s.m.n
      E.SHARE_ROLE 0 = 1 ∧ x.seg = s.m.n E.SEG_ID 0 ∧ s.m.soundFrame h.via h = true ∧ s.m.keys.own.isSome = true ∧ h.typ =
      0x30 ∧ s.m.n E.LINK_ROLE h.via = 1 ∧ s.m.n E.LINK_STATE h.via = 3) ∧
    (∃ (t : Nat) (h : Hdr) (x : Trim) (s : State), s.m.alive = true ∧ Passes (s.m.at t) h 0x31 none ∧ s.m.fromLantern h =
      true ∧ s.m.n E.SHARE_ROLE 0 = 1 ∧ x.seg = s.m.n E.SEG_ID 0 ∧ (x.gens[s.m.n E.SHARE_IDX 0]?).getD 0 = s.m.n E.SHARE_GEN
      0) ∧
    (∃ (t : Nat) (g : Nat) (h : Hdr) (x : Trim) (s : State), s.m.alive = true ∧ Passes (s.m.at t) h 0x31 none ∧
      s.m.fromLantern h = true ∧ s.m.n E.SHARE_ROLE 0 = 1 ∧ x.seg = s.m.n E.SEG_ID 0 ∧ (x.gens[s.m.n E.SHARE_IDX 0]?).getD 0
      = g ∧ g ≠ 0 ∧ newer g (s.m.n E.SHARE_GEN 0) = true ∧ s.m.net.fenceNext = none) ∧
    (∃ (t : Nat) (s : State), s.m.alive = true ∧ (s.m.at t).due .trimHold = true) ∧
    (∃ (s : State), s.m.alive = true ∧ s.m.leads = false ∧ s.m.n E.SHARE_ROLE 0 = 1 ∧ s.m.n E.LANT_ADDR 0 ≠ 0xFFFF ∧
      (s.m.upLinks 1).isEmpty = false ∧ s.m.canReach 0x30 (s.m.n E.LANT_ADDR 0) = true) ∧
    (∃ (t : Nat) (seg : Nat) (t0 : Rat) (s : State), s.m.alive = true ∧ s.m.leads = true ∧ s.m.n E.SHARE_ROLE 0 = 0 ∧
      s.m.ringSegs = [seg] ∧ s.m.b E.TRIM_EN 0 = true ∧ (s.m.at t).segConflict seg = false ∧ s.m.groupTrim seg = some t0 ∧
      ((s.m.at t).groupReports seg).any (·.switching) = true) :=
  ⟨⟨0, to77 0x30, (leads.put [(E.NET_ADDR, 0, 77)]).keyd, by decide +kernel, by decide +kernel, by decide +kernel,
  PassesBy.of_check (by decide +kernel)⟩,
   ⟨to77 0x30, rpt, ((up []).keyd).put [(E.SHARE_ROLE, 0, 1),(E.SEG_ID, 0, 4)], by decide +kernel⟩,
   ⟨0, lant 0x31, trim, (leads.put [(E.SHARE_ROLE, 0, 1),(E.SEG_ID, 0, 4),(E.SHARE_IDX, 0, 1),(E.SHARE_GEN, 0, 3)]).keyd, by
     decide +kernel, PassesBy.of_check (by decide +kernel), by decide +kernel⟩,
   ⟨0, 3, lant 0x31, trim, (leads.put [(E.SHARE_ROLE, 0, 1),(E.SEG_ID, 0, 4),(E.SHARE_IDX, 0, 1),(E.SHARE_GEN, 0, 2)]).keyd,
     by decide +kernel, PassesBy.of_check (by decide +kernel), by decide +kernel⟩,
   ⟨0, (up []).tmr .trimHold, by decide +kernel⟩,
   ⟨onRing [(E.SHARE_ROLE, 0, 1),(E.LANT_ADDR, 0, 5)], by decide +kernel⟩,
   ⟨0, 4, 1, group, by decide +kernel⟩⟩

theorem AllocationTakeoverAndFencing_met :
    (∃ (t : Nat) (h : Hdr) (x : IntentMsg) (s : State), s.m.alive = true ∧ Passes (s.m.at t) h 0x10 none ∧ s.m.leads = true
      ∧ x.seg ≠ 0 ∧ (s.m.leadGroup x.seg).isEmpty = false ∧ x.tArr ≤ (s.m.at t).ntime + ticksMs (s.m.q E.INT_HORIZON 0) ∧
      (s.m.at t).ntime < x.tArr + ticksUs (s.m.q E.INT_WIN 0)) ∧
    (∃ (t : Nat) (h : Hdr) (x : IntentMsg) (s : State), s.m.alive = true ∧ Passes (s.m.at t) h 0x10 none ∧ s.m.leads = true
      ∧ x.seg ≠ 0 ∧ ((s.m.leadGroup x.seg).isEmpty = true ∨ (s.m.at t).ntime + ticksMs (s.m.q E.INT_HORIZON 0) < x.tArr)) ∧
    (∃ (n : Nat) (x : Stn) (s : State), s.m.alive = true ∧ s.m.leads = true ∧ s.m.stnOf n = some x ∧ x.dark = false ∧ s.m.n
      E.DARK_N 0 ≤ x.misses ∧ s.m.net.offer = none) ∧
    (∃ (t : Nat) (h : Hdr) (x : TakeMsg) (s : State), s.m.alive = true ∧ Passes (s.m.at t) h 0x32 none ∧ s.m.fromLantern h =
      true ∧ s.m.numbered = true ∧ x.target = s.m.net.stn ∧ s.m.mooring = true ∧ s.m.mayTake = true ∧ x.seg = s.m.n E.SEG_ID
      0) ∧
    (∃ (t : Nat) (o : Offer) (r : RoleRec) (s : State), s.m.alive = true ∧ s.m.net.offer = some o ∧ o.since + 30000 ≤
      (s.m.at t).tb ∧ s.m.leadRole o.seg o.idx = some r ∧ r.gen ≠ 0) ∧
    (∃ (t : Nat) (s : State), s.m.alive = true ∧ s.m.fenced = true ∧ (s.m.at t).due .fenceRamp = true) :=
  ⟨⟨0, hd 0x10, coming 50, group, by decide +kernel, PassesBy.of_check (by decide +kernel), by decide +kernel⟩,
   ⟨0, hd 0x10, coming 50000000, group, by decide +kernel, PassesBy.of_check (by decide +kernel), by decide +kernel⟩,
   ⟨1, { stn := 1, misses := 50 }, (group.put [(E.DARK_N, 0, 50)]).mm fun m =>
     { m with net := { m.net with stns := [{ stn := 1, misses := 50 }] } }, by decide +kernel⟩,
   ⟨0, lant 0x32, ⟨4, 1, 3, 5⟩, ((up [(E.LGEN, 0, 7),(E.SEG_ID, 0, 4),(E.NET_ADDR, 0, 131),(E.SHARE_ROLE, 0, 2),(E.ENV_EFF,
     0, 2),(E.PATH_ACT, 0, 2),(E.SHARE_MODE, 0, 2)]).mm fun m => { m with net := { m.net with stn := 3 } }).keyd, by
     decide +kernel, PassesBy.of_check (by decide +kernel), by decide +kernel⟩,
   ⟨0, ⟨4, 1, 3, 5, 7⟩, ⟨4, 1, 1, 1, 0xFF, 2⟩, group.mm fun m =>
     { m with net := { m.net with offer := some ⟨4, 1, 3, 5, 7⟩, lead := [⟨4, 1, 1, 1, 0xFF, 2⟩] } }, by decide +kernel⟩,
   ⟨0, (up [(E.SHARE_ROLE, 0, 3)]).tmr .fenceRamp, by decide +kernel⟩⟩

theorem RingRequests_met :
    (∃ (t : Nat) (r : Req) (v : Val) (s : State), s.m.alive = true ∧ Takes (s.m.at t, s.srv) r E.RING_ENV 0 v) ∧
    (∃ (t : Nat) (r : Req) (v : Val) (s : State), s.m.alive = true ∧ Takes (s.m.at t, s.srv) r E.ROLE_DROP 0 v) ∧
    (∃ (t : Nat) (r : Req) (v : Val) (s : State), s.m.alive = true ∧ Takes (s.m.at t, s.srv) r E.SHARE_READMIT 0 v) ∧
    (∃ (t : Nat) (r : Req) (v : Val) (s : State), s.m.alive = true ∧ Takes (s.m.at t, s.srv) r E.NET_HANDOVER 0 v) ∧
    (∃ (t : Nat) (i : Nat) (r : Req) (v : Val) (s : State), s.m.alive = true ∧ Takes (s.m.at t, s.srv) r E.LINK_WAKE_TX i v) :=
  ⟨⟨0, wr E.RING_ENV 0 2, wv E.RING_ENV 0 2, group.ses, by decide +kernel, Takes.of_check (by decide +kernel)⟩,
   ⟨0, wr E.ROLE_DROP 0 0x10004, wv E.ROLE_DROP 0 0x10004, (group.mm fun m =>
     { m with net := { m.net with lead := [⟨4, 1, 1, 1, 0xFF, 2⟩] } }).ses, by decide +kernel, Takes.of_check (by
     decide +kernel)⟩,
   ⟨0, wr E.SHARE_READMIT 0 1, wv E.SHARE_READMIT 0 1, (group.put [(E.SHARE_ROLE, 0, 3)]).ses, by decide +kernel,
     Takes.of_check (by decide +kernel)⟩,
   ⟨0, wr E.NET_HANDOVER 0 2, wv E.NET_HANDOVER 0 2, (group.mm fun m =>
     { m with net := { m.net with stns := [{ stn := 2, slot := some { m.flashSlot 2 false with fenced := false } }] } }).ses,
     by decide +kernel, Takes.of_check (by decide +kernel)⟩,
   ⟨0, 3, wr E.LINK_WAKE_TX 3 1, wv E.LINK_WAKE_TX 3 1, (up []).ses, by decide +kernel, Takes.of_check (by decide +kernel)⟩⟩

theorem LinkStates_met :
    (∃ (l : Nat) (s : State), s.m.alive = true ∧ l < 4 ∧ s.m.n E.LINK_ROLE l ≠ 0) ∧
    (∃ (l : Nat) (s : State), s.m.alive = true ∧ l < 4 ∧ s.m.n E.LINK_ROLE l ≠ 0) ∧
    (∃ (t : Nat) (l : Nat) (s : State), s.m.alive = true ∧ l < 4 ∧ (s.m.at t).upReady l = true) ∧
    (∃ (t : Nat) (l : Nat) (s : State), s.m.alive = true ∧ l < 4 ∧ (s.m.at t).downReady l = true) :=
  ⟨⟨3, up [(E.LINK_ROLE, 3, 1)], by decide +kernel⟩,
   ⟨3, up [(E.LINK_ROLE, 3, 1)], by decide +kernel⟩,
   ⟨0, 3, (up [(E.LINK_ROLE, 3, 1),(E.LINK_STATE, 3, 2)]).mm (·.modLink 3 fun x => { x with phy := true, good := 12 }), by
     decide +kernel⟩,
   ⟨0, 3, up [(E.LINK_ROLE, 3, 1),(E.LINK_STATE, 3, 3)], by decide +kernel⟩⟩

theorem DelayAndCreditExchange_met :
    (∃ (t : Nat) (l : Nat) (s : State), s.m.alive = true ∧ l < 4 ∧ (s.m.linkOf l).phy = true ∧ 2 ≤ s.m.n E.LINK_STATE l ∧
      (s.m.linkKey l).isSome = true ∧ (s.m.at t).delayDue l = true) ∧
    (∃ (t : Nat) (l : Nat) (h : Hdr) (s : State), s.m.alive = true ∧ l < 4 ∧ Passes (s.m.at t) h 2 (some l)) ∧
    (∃ (t : Nat) (l : Nat) (h : Hdr) (s : State), s.m.alive = true ∧ l < 4 ∧ Passes (s.m.at t) h 3 (some l) ∧ s.m.net.inj =
      [] ∧ s.m.n E.LINK_ROLE l = 1 ∧ (s.m.linkOf l).awaiting = true) ∧
    (∃ (t : Nat) (l : Nat) (h : Hdr) (s : State), s.m.alive = true ∧ l < 4 ∧ Passes (s.m.at t) h 4 (some l) ∧ s.m.net.held =
      [] ∧ s.m.n E.CAP_STATE 0 ≠ 5) ∧
    (∃ (t : Nat) (l : Nat) (s : State), s.m.alive = true ∧ l < 4 ∧ (s.m.at t).creditDue l = true ∧ (s.m.linkKey l).isSome =
      true) :=
  ⟨⟨0, 3, ((up [(E.LINK_ROLE, 3, 1),(E.LINK_STATE, 3, 2)]).mm (·.modLink 3 fun x => { x with phy := true })).keyd, by
  decide +kernel⟩,
   ⟨0, 3, hd 2, (up [(E.LINK_ROLE, 3, 1)]).keyd, by decide +kernel, by decide +kernel, PassesBy.of_check (by
     decide +kernel)⟩,
   ⟨0, 3, hd 3, ((up [(E.LINK_ROLE, 3, 1)]).mm (·.modLink 3 fun x => { x with awaiting := true })).keyd, by decide +kernel,
     by decide +kernel, PassesBy.of_check (by decide +kernel), by decide +kernel⟩,
   ⟨0, 3, hd 4, (up [(E.LINK_ROLE, 3, 1),(E.LINK_STATE, 3, 3)]).keyd, by decide +kernel, by decide +kernel,
     PassesBy.of_check (by decide +kernel), by decide +kernel⟩,
   ⟨0, 3, owing.keyd, by decide +kernel⟩⟩

theorem BeaconEvents_met :
    (∃ (t : Nat) (s : State), s.m.alive = true ∧ s.m.isLantern = true ∧ s.m.parentLantern = false ∧ s.m.keys.own.isSome =
      true ∧ (s.m.upLinks 1).isEmpty = false ∧ absR (s.m.at t).cycleOff ≤ 20) ∧
    (∃ (t : Nat) (l : Nat) (h : Hdr) (b : Beacon) (s : State), s.m.alive = true ∧ l < 4 ∧ s.m.n E.LINK_STATE l = 3 ∧ s.m.n
      E.LINK_ROLE l = 1 ∧ s.m.isLantern = false ∧ s.m.isHead = false ∧ h.fcsOk = true ∧ headerOk h = true ∧ h.typ = 1 ∧
      h.hops ≠ 0 ∧ h.turned = false ∧ b.key = s.m.keys.own ∧ b.key.isSome = true ∧ newer (s.m.n E.LGEN 0) b.lgen = false ∧
      (s.m.ntimeOk = true → absR ((s.m.at t).ntimeNs - 10 * b.t0) ≤ 1000000)) ∧
    (∃ (s : State), s.m.alive = true ∧ s.m.leads = true ∧ (s.m.net.stns.map (·.stn)).Nodup) ∧
    (∃ (cycle : Nat) (n : Nat) (slots : List Slot) (lt : Rat) (x : Slot) (y : Stn) (s : State), s.m.alive = true ∧ s.m.leads
      = true ∧ (s.m.net.stns.map (·.stn)).Nodup ∧ s.m.stnOf n = some y ∧ n ≠ s.m.leadStn ∧ lt ≤ 300 ∧ slots.find? (fun z =>
      z.stn == n && slotHolds s.m.leadKey s.m.beaconRing (cycle % 2 ^ 32) s.m.leadGen z) = some x) :=
  ⟨⟨0, (onRing [(E.NET_ROLE, 0, 1)]).keyd, by decide +kernel⟩,
   ⟨0, 1, hd 1, beacon, onRing [(E.LGEN, 0, 7),(E.NET_FLAGS, 0, 0)], by decide +kernel⟩,
   ⟨(onRing [(E.NET_ROLE, 0, 1)]).mm fun m => { m with net := { m.net with stns := [{ stn := 1 }, { stn := 2 }] } }, by
     decide +kernel⟩,
   ⟨1, 2, [here], 50, here, { stn := 2 }, ((onRing [(E.NET_ROLE, 0, 1)]).mm fun m =>
     { m with net := { m.net with stns := [{ stn := 1 }, { stn := 2 }] } }).keyd, by decide +kernel⟩⟩

theorem ElectionAndHandover_met :
    (∃ (t : Nat) (s : State), s.m.alive = true ∧ s.m.isHead = false ∧ s.m.candidate = true ∧ (s.m.at t).noLantern = true ∧
      (s.m.at t).recentClaims = [] ∧ (s.m.upLinks 1).isEmpty = false ∧ s.m.keys.own.isSome = true) ∧
    (∃ (t : Nat) (l : Nat) (h : Hdr) (x : ClaimMsg) (s : State), s.m.alive = true ∧ l < 4 ∧ Passes (s.m.at t) h 5 (some l) ∧
      s.m.isLantern = false ∧ s.m.n E.LINK_ROLE l = 1 ∧ (s.m.at t).recentClaims = [] ∧ x.mac ≠ Config.mac48 ∧ betterKey
      (x.lprio, x.stn, x.mac) s.m.claimKey = true) ∧
    (∃ (t : Nat) (l : Nat) (h : Hdr) (x : ClaimMsg) (s : State), s.m.alive = true ∧ l < 4 ∧ Passes (s.m.at t) h 5 (some l) ∧
      s.m.isLantern = false ∧ s.m.n E.LINK_ROLE l = 1 ∧ (s.m.at t).recentClaims = [] ∧ x.mac = Config.mac48 ∧
      s.m.net.claiming = true ∧ x.lgen = s.m.net.proposed) ∧
    (∃ (t : Nat) (s : State), s.m.alive = true ∧ s.m.isHead = false ∧ s.m.net.claiming = true ∧ 3 ≤ s.m.net.returns ∧
      s.m.candidate = true ∧ (s.m.at t).recentClaims = []) ∧
    (∃ (s : State), s.m.alive = true ∧ s.m.isHead = false ∧ s.m.candidate = true ∧ (s.m.upLinks 1).isEmpty = true) ∧
    (∃ (t : Nat) (h : Hdr) (target : Nat) (lgen : Nat) (s : State), s.m.alive = true ∧ Passes (s.m.at t) h 6 none ∧
      s.m.fromLantern h = true ∧ s.m.isHead = false ∧ s.m.numbered = true ∧ s.m.net.stn = target ∧ s.m.candidate = true ∧
      lgen = nextGen (s.m.n E.LGEN 0)) ∧
    (∃ (t : Nat) (s : State), s.m.alive = true ∧ (s.m.at t).due .handover = true) :=
  ⟨⟨0, (candidate []).keyd, by decide +kernel⟩,
   ⟨0, 1, hd 5, { lprio := 1, stn := 1, mac := Config.mac48 + 1, lgen := 8 }, (candidate []).keyd, by decide +kernel, by
     decide +kernel, PassesBy.of_check (by decide +kernel), by decide +kernel, by decide +kernel, by decide +kernel,
     Nat.succ_ne_self _, by decide +kernel⟩,
   ⟨0, 1, hd 5, { lprio := 1, stn := 1, mac := Config.mac48, lgen := 8 }, ((candidate []).mm fun m =>
     { m with net := { m.net with claiming := true, proposed := 8 } }).keyd, by decide +kernel, by decide +kernel,
     PassesBy.of_check (by decide +kernel), by decide +kernel, by decide +kernel, by decide +kernel, rfl, by decide +kernel,
     by decide +kernel⟩,
   ⟨0, (candidate []).mm fun m => { m with net := { m.net with claiming := true, returns := 3 } }, by decide +kernel⟩,
   ⟨(candidate []).put [(E.LINK_STATE, 1, 1),(E.LINK_STATE, 0, 1)], by decide +kernel⟩,
   ⟨0, lant 6, 3, 8, ((candidate [(E.NET_ADDR, 0, 131)]).mm fun m => { m with net := { m.net with stn := 3 } }).keyd, by
     decide +kernel, PassesBy.of_check (by decide +kernel), by decide +kernel⟩,
   ⟨0, (up []).tmr .handover, by decide +kernel⟩⟩

theorem NetworkTimeAndNumbering_met :
    (∃ (t : Nat) (l : Nat) (h : Hdr) (s : State), s.m.alive = true ∧ l < 4 ∧ Passes (s.m.at t) h 7 (some l) ∧ s.m.isLantern
      = true ∧ s.m.n E.LINK_ROLE l = 1 ∧ s.m.n E.LINK_STATE l = 3) ∧
    (∃ (t : Nat) (s : State), s.m.alive = true ∧ (s.m.at t).due .ntime = true ∧ (s.m.at t).leadsRoot = false) ∧
    (∃ (s : State), s.m.alive = true ∧ s.m.n E.SYNCI_MODE 0 ≠ 0) ∧
    (∃ (t : Nat) (k : Nat) (s : State), s.m.alive = true ∧ s.m.b E.SYNCO_EN 0 = true ∧ 0 < s.m.n E.SYNCO_PER 0 ∧ absR
      ((s.m.at t).syncoNs - k * (s.m.n E.SYNCO_PER 0 * 1000000)) ≤ 20) ∧
    (∃ (t : Nat) (n : Nat) (h : Hdr) (x : StnRec) (s : State), s.m.alive = true ∧ PassesBy (s.m.at t) h 0x33 none
      (originator h (0x10000 + x.mac)) ∧ s.m.leads = true ∧ s.m.numberFor x.mac x.stn = some n ∧ s.m.canReach 0x34 0xFFFF =
      true) ∧
    (∃ (t : Nat) (stn : Nat) (h : Hdr) (s : State), s.m.alive = true ∧ Passes (s.m.at t) h 0x34 none ∧ s.m.fromLantern h =
      true ∧ s.m.isLantern = false ∧ stn ≠ 0xFF) ∧
    (∃ (t : Nat) (s : State), s.m.alive = true ∧ s.m.leads = true ∧ (s.m.at t).leadsRoot = false ∧ s.m.canReach 0x35 0xFFFF
      = true) ∧
    (∃ (t : Nat) (h : Hdr) (s : State), s.m.alive = true ∧ Passes (s.m.at t) h 0x35 none ∧ s.m.leads = true ∧ (s.m.at
      t).endsHere { h with typ := 0x35 } h.via = true) ∧
    (∃ (t : Nat) (s : State), s.m.alive = true ∧ (s.m.at t).leadsRoot = true) ∧
    (∃ (t : Nat) (h : Hdr) (s : State), s.m.alive = true ∧ Passes (s.m.at t) h 0x37 none) :=
  ⟨⟨0, 1, hd 7, (onRing [(E.NET_ROLE, 0, 1)]).keyd, by decide +kernel, by decide +kernel, PassesBy.of_check (by
  decide +kernel), by decide +kernel⟩,
   ⟨0, (up []).tmr .ntime, by decide +kernel⟩,
   ⟨up [(E.SYNCI_MODE, 0, 1)], by decide +kernel⟩,
   ⟨0, 1000, up [(E.SYNCO_EN, 0, 1),(E.SYNCO_PER, 0, 10)], by decide +kernel⟩,
   ⟨0, 3, hd 0x33 0xFFFF, record, ((onRing [(E.NET_ROLE, 0, 1)]).mm fun m =>
     { m with net := { m.net with stn := 50 } }).keyd, by decide +kernel, PassesBy.of_check (by decide +kernel), by
     decide +kernel⟩,
   ⟨0, 4, lant 0x34, (onRing [(E.LGEN, 0, 7)]).keyd, by decide +kernel, PassesBy.of_check (by decide +kernel), by
     decide +kernel⟩,
   ⟨0, (onRing [(E.NET_ROLE, 0, 1)]).mm fun m => { m with net := { m.net with relayAt := some m.tb } }, by decide +kernel⟩,
   ⟨0, hd 0x35, (onRing [(E.NET_ROLE, 0, 1)]).keyd, by decide +kernel, PassesBy.of_check (by decide +kernel), by
     decide +kernel⟩,
   ⟨0, onRing [(E.NET_ROLE, 0, 1)], by decide +kernel⟩,
   ⟨0, hd 0x37, (onRing []).keyd, by decide +kernel, PassesBy.of_check (by decide +kernel)⟩⟩

theorem PortTripsAndClears_met :
    (∃ (k : Nat) (x : Rat) (s : State), s.m.alive = true ∧ k < 8 ∧ s.m.n E.PROT_STATE k ≤ 1 ∧ s.m.cq E.FT_MULT k *
      portRating k ≤ fastSense k x) ∧
    (∃ (k : Nat) (s : State), s.m.alive = true ∧ k < 8 ∧ s.m.n E.PROT_STATE k ≤ 1 ∧ s.m.cq E.I2T_K k ≤ (s.m.protOf k).theta) ∧
    (∃ (x : Rat) (s : State), s.m.alive = true ∧ s.m.n E.PROT_STATE 5 ≤ 1 ∧ s.m.ovpThreshold < x) ∧
    (∃ (k : Nat) (x : Rat) (s : State), s.m.alive = true ∧ k < 8 ∧ s.m.n E.PROT_STATE k ≤ 1 ∧ 150 < x) ∧
    (∃ (k : Nat) (s : State), s.m.alive = true ∧ k < 8 ∧ s.m.n E.PROT_STATE k = 2 ∧ 2 < s.m.n E.PROT_CAUSE k ∧ s.m.cq
      E.I2T_K k ≤ (s.m.protOf k).theta ∧ (s.m.protOf k).tripTick = s.m.modes.tickNo + 1) ∧
    (∃ (k : Nat) (s : State), s.m.alive = true ∧ k < 8 ∧ s.m.n E.PROT_STATE k = 2 ∧ s.m.n E.PROT_CAUSE k = 2 ∧ s.m.i2tPct k
      < s.m.cq E.I2T_RESET k) ∧
    (∃ (k : Nat) (x : Rat) (s : State), s.m.alive = true ∧ k < 8 ∧ s.m.n E.PROT_STATE k = 2 ∧ s.m.n E.PROT_CAUSE k = 5 ∧ x <
      110) ∧
    (∃ (t : Nat) (k : Nat) (s : State), s.m.alive = true ∧ k < 8 ∧ s.m.n E.PROT_STATE k = 1 ∧ (s.m.at t).due (.limitExit k)
      = true ∧ s.m.limitHolds k = false) :=
  ⟨⟨0, 20000, up [], by decide +kernel⟩,
   ⟨7, (up []).mm (·.modProt 7 fun x => { x with theta := 1000 }), by decide +kernel⟩,
   ⟨1200, up [], by decide +kernel⟩,
   ⟨7, 151, up [], by decide +kernel⟩,
   ⟨5, (up [(E.PROT_STATE, 5, 2),(E.PROT_CAUSE, 5, 3)]).mm (·.modProt 5 fun x => { x with theta := 1000, tripTick := 1 }),
     by decide +kernel⟩,
   ⟨7, up [(E.PROT_STATE, 7, 2),(E.PROT_CAUSE, 7, 2)], by decide +kernel⟩,
   ⟨7, 109, up [(E.PROT_STATE, 7, 2),(E.PROT_CAUSE, 7, 5)], by decide +kernel⟩,
   ⟨0, 0, (up [(E.PROT_STATE, 0, 1)]).tmr (.limitExit 0), by decide +kernel⟩⟩

theorem LinkProtectionAndToggles_met :
    (∃ (v : Rat) (s : State), s.m.alive = true ∧ s.m.safe.clampArmed = true ∧ s.m.safe.clamping = false ∧ s.m.cq E.CLAMP_V 0
      < v) ∧
    (∃ (v : Rat) (s : State), s.m.alive = true ∧ s.m.safe.clamping = true ∧ v < s.m.cq E.CLAMP_V 0 - 20) ∧
    (∃ (v : Rat) (s : State), s.m.alive = true ∧ 1095 < v) ∧
    (∃ (t : Nat) (k : Nat) (t0 : Nat) (i : Rat) (s : State), s.m.alive = true ∧ k < 8 ∧ (s.m.protOf k).openedAt = some t0 ∧
      t0 + us 200 ≤ (s.m.at t).tb ∧ 5 < absR i ∧ ¬ (s.m.n E.PROT_STATE k = 3 ∧ s.m.n E.PROT_CAUSE k = 8)) ∧
    (∃ (t : Nat) (k : Nat) (r : Req) (v : Val) (s : State), s.m.alive = true ∧ Takes (s.m.at t, s.srv) r E.PORT_EN k v ∧
      leNat r.data = 0 ∧ s.m.b E.PORT_EN k = true) ∧
    (∃ (t : Nat) (k : Nat) (r : Req) (v : Val) (s : State), s.m.alive = true ∧ Takes (s.m.at t, s.srv) r E.PORT_EN k v ∧
      leNat r.data = 1 ∧ s.m.b E.PORT_EN k = false) ∧
    (∃ (t : Nat) (k : Nat) (i : Rat) (s : State), s.m.alive = true ∧ s.m.armed (.switchRelease k) = true ∧ (absR i < 2 ∨
      (s.m.at t).due (.switchRelease k) = true)) :=
  ⟨⟨2000, (up []).mm fun m => { m with safe := { m.safe with clampArmed := true } }, by decide +kernel⟩,
   ⟨20, (up []).mm fun m => { m with safe := { m.safe with clamping := true } }, by decide +kernel⟩,
   ⟨1096, up [], by decide +kernel⟩,
   ⟨0, 7, 5, 6, (up []).mm (·.modProt 7 fun x => { x with openedAt := some 5 }), by decide +kernel⟩,
   ⟨0, 7, wr E.PORT_EN 7 0, wv E.PORT_EN 7 0, (up [(E.PORT_EN, 7, 1)]).ses, by decide +kernel, Takes.of_check (by
     decide +kernel), by decide +kernel⟩,
   ⟨0, 0, wr E.PORT_EN 0 1, wv E.PORT_EN 0 1, (up [(E.PORT_EN, 0, 0)]).ses, by decide +kernel, Takes.of_check (by
     decide +kernel), by decide +kernel⟩,
   ⟨0, 0, 1, (up []).tmr (.switchRelease 0), by decide +kernel⟩⟩

theorem SafetyInputsAndContact_met :
    (∃ (t : Nat) (c : Nat) (i : Instr) (s : State), s.m.alive = true ∧ ((i = .ilkOpen t ∧ c = 1 ∧ s.m.b E.ILK_EN 0 = true ∧
      s.m.safe.ilkOpen = false) ∨ (i = .estopOpen t ∧ c = 0 ∧ s.m.b E.ESTOP_EN 0 = true ∧ s.m.n E.ESTOP_STATE 0 = 0) ∨ (i =
      .tamperOpen t ∧ c = 3))) ∧
    (∃ (t : Nat) (c : Nat) (i : Instr) (s : State), s.m.alive = true ∧ ((i = .ilkClose t ∧ c = 1 ∧ s.m.b E.ILK_EN 0 = true ∧
      s.m.safe.ilkOpen = true) ∨ (i = .estopClose t ∧ c = 0 ∧ s.m.b E.ESTOP_EN 0 = true ∧ s.m.safe.estopFails = 0 ∧ (s.m.n
      E.ESTOP_STATE 0 = 1 ∨ s.m.n E.ESTOP_STATE 0 = 3)) ∨ (i = .tamperClose t ∧ c = 3))) ∧
    (∃ (s : State), s.m.alive = true ∧ s.m.b E.ESTOP_EN 0 = true) ∧
    (∃ (t : Nat) (r : Req) (v : Val) (s : State), s.m.alive = true ∧ Takes (s.m.at t, s.srv) r E.ILK_OPEN_REQ 0 v) ∧
    (∃ (t : Nat) (s : State), s.m.alive = true ∧ (s.m.at t).due .contPull = true) ∧
    (∃ (i : Rat) (s : State), s.m.alive = true ∧ s.m.safe.contOn = true ∧ i < mkRat 5 100) ∧
    (∃ (i : Rat) (s : State), s.m.alive = true ∧ s.m.safe.contOn = true ∧ 3 < i ∧ (s.m.n E.CONT_STATE 0 = 1 → 10 ≤ i)) ∧
    (∃ (s : State), s.m.alive = true) ∧
    (∃ (s : State), s.m.phase = .running) ∧
    (∃ (t : Nat) (s : State), s.m.phase = .holdup ∧ s.m.safe.holdup = true ∧ s.m.n E.SS_STATE 0 = 2 ∧ (s.m.at t).due .ssOpen
      = true) :=
  ⟨⟨0, 1, .ilkOpen 0, up [(E.ILK_EN, 0, 1)], by decide +kernel⟩,
   ⟨0, 0, .estopClose 0, up [(E.ESTOP_EN, 0, 1),(E.ESTOP_STATE, 0, 1)], by decide +kernel⟩,
   ⟨up [(E.ESTOP_EN, 0, 1)], by decide +kernel⟩,
   ⟨0, wr E.ILK_OPEN_REQ 0 1, wv E.ILK_OPEN_REQ 0 1, (up []).ses, by decide +kernel, Takes.of_check (by decide +kernel)⟩,
   ⟨0, (up []).tmr .contPull, by decide +kernel⟩,
   ⟨0, (up []).mm fun m => { m with safe := { m.safe with contOn := true } }, by decide +kernel⟩,
   ⟨5, (up []).mm fun m => { m with safe := { m.safe with contOn := true } }, by decide +kernel⟩,
   ⟨up [], by decide +kernel⟩,
   ⟨up [], by decide +kernel⟩,
   ⟨0, ((up [(E.SS_STATE, 0, 2)]).mm fun m => { m with phase := .holdup, safe := { m.safe with holdup := true } }).tmr
     .ssOpen, by decide +kernel⟩⟩

theorem InsulationMonitor_met :
    (∃ (t : Nat) (gsys : Nat) (node : Nat) (h : Hdr) (s : State), s.m.alive = true ∧ Passes (s.m.at t) h 0x36 none ∧
      s.m.imdShared = true ∧ s.m.n E.IMD_GSYS 0 = gsys ∧ s.m.fenced = false ∧ s.m.ntimeOk = true ∧ s.m.n E.NET_ADDR 0 = node
      ∧ node ≠ 0xFFFF) ∧
    (∃ (t : Nat) (s : State), s.m.alive = true ∧ (s.m.at t).due .imdGrant = true ∧ s.m.n E.IMD_ROLE 0 = 1) ∧
    (∃ (s : State), s.m.alive = true ∧ s.m.b E.IMD_EN 0 = true ∧ s.m.n E.IMD_ROLE 0 = 1 ∧ (s.m.fltOf 15).resetting = false) ∧
    (∃ (s : State), s.m.alive = true ∧ s.m.n E.IMD_ROLE 0 = 1) ∧
    (∃ (t : Nat) (g : Nat) (a : Nat) (s : State), s.m.alive = true ∧ (s.m.at t).leadsRoot = true ∧ s.m.canReach 0x36 0xFFFF
      = true ∧ s.m.summary.imd = [(g, a)] ∧ s.m.safe.imdBarred = [] ∧ s.m.n E.IMD_GSYS 0 ≠ g) ∧
    (∃ (t : Nat) (h : Hdr) (s : State), s.m.alive = true ∧ Passes (s.m.at t) h 0x23 none ∧ (s.m.at t).leadsRoot = true) :=
  ⟨⟨0, 4, 131, hd 0x36, (up [(E.IMD_EN, 0, 1),(E.IMD_GSYS, 0, 4),(E.NET_ADDR, 0, 131),(E.SHARE_ROLE, 0, 1),(E.NET_FLAGS, 0,
  1)]).keyd, by decide +kernel, PassesBy.of_check (by decide +kernel), by decide +kernel⟩,
   ⟨0, (up [(E.IMD_ROLE, 0, 1)]).tmr .imdGrant, by decide +kernel⟩,
   ⟨up [(E.IMD_ROLE, 0, 1),(E.IMD_EN, 0, 1)], by decide +kernel⟩,
   ⟨up [(E.IMD_ROLE, 0, 1)], by decide +kernel⟩,
   ⟨0, 4, 140, ((onRing [(E.NET_ROLE, 0, 1),(E.IMD_GSYS, 0, 9)]).mm fun m =>
     { m with net := { m.net with kids := [kid] } }), by decide +kernel⟩,
   ⟨0, hd 0x23, (onRing [(E.NET_ROLE, 0, 1)]).keyd, by decide +kernel, PassesBy.of_check (by decide +kernel), by
     decide +kernel⟩⟩

theorem MeasurementsAndSnapshots_met :
    (∃ (t : Nat) (ch : Nat) (s : State), s.m.alive = true ∧ ch < 16 ∧ (s.m.at t).satLong ch = true) ∧
    (∃ (ch : Nat) (s : State), s.m.alive = true ∧ ch < 16) ∧
    (∃ (t : Nat) (k : Nat) (s : State), s.m.alive = true ∧ k < 8 ∧ (s.m.at t).zeroDue k = true) ∧
    (∃ (t : Nat) (w : Nat) (s : State), s.m.alive = true ∧ w < 2 ∧ (s.m.meas.telSkip[w]?).getD false = false ∧ (s.m.at
      t).telIdx w ≠ (s.m.telOf w).idx) ∧
    (∃ (t : Nat) (w : Nat) (s : State), s.m.alive = true ∧ w < 2 ∧ w < s.m.meas.telSkip.length ∧ (s.m.meas.telSkip[w]?).getD
      false = true ∧ (s.m.at t).telIdx w ≠ (s.m.telOf w).idx) ∧
    (∃ (t : Nat) (k : Nat) (r : Req) (s : State), s.m.alive = true ∧ Reads (s.m.at t, s.srv) r E.PK_SNAP k) ∧
    (∃ (t : Nat) (p : Nat) (r : Req) (s : State), s.m.alive = true ∧ Reads (s.m.at t, s.srv) r E.PHT_SNAP p) ∧
    (∃ (t : Nat) (r : Req) (s : State), s.m.alive = true ∧ Reads (s.m.at t, s.srv) r E.STEP_SNAP 0) :=
  ⟨⟨0, 15, up [], by decide +kernel⟩,
   ⟨15, up [], by decide +kernel⟩,
   ⟨0, 7, (up []).mm (·.modProt 7 fun x => { x with zeroFrom := some 0 }), by decide +kernel⟩,
   ⟨0, 1, up [], by decide +kernel⟩,
   ⟨0, 1, (up []).mm fun m => { m with meas := { m.meas with telSkip := [true, true] } }, by decide +kernel⟩,
   ⟨0, 7, rd E.PK_SNAP 7, (up []).ses, by decide +kernel, Reads.of_check (by decide +kernel)⟩,
   ⟨0, 15, rd E.PHT_SNAP 15, (up []).ses, by decide +kernel, Reads.of_check (by decide +kernel)⟩,
   ⟨0, rd E.STEP_SNAP 0, (up []).ses, by decide +kernel, Reads.of_check (by decide +kernel)⟩⟩

theorem Captures_met :
    (∃ (t : Nat) (r : Req) (v : Val) (s : State), s.m.alive = true ∧ Takes (s.m.at t, s.srv) r E.CAP_CMD 0 v ∧ leNat r.data
      = 1) ∧
    (∃ (t : Nat) (r : Req) (v : Val) (s : State), s.m.alive = true ∧ Takes (s.m.at t, s.srv) r E.CAP_CMD 0 v ∧ leNat r.data
      = 2 ∧ (s.m.n E.CAP_STATE 0 = 1 ∨ s.m.n E.CAP_STATE 0 = 2)) ∧
    (∃ (t : Nat) (r : Req) (v : Val) (s : State), s.m.alive = true ∧ Takes (s.m.at t, s.srv) r E.CAP_CMD 0 v ∧ leNat r.data
      = 3) ∧
    (∃ (t : Nat) (r : Req) (v : Val) (s : State), s.m.alive = true ∧ Takes (s.m.at t, s.srv) r E.CAP_CMD 0 v ∧ leNat r.data
      = 4) ∧
    (∃ (x : TrigIn) (s : State), s.m.alive = true ∧ s.m.capConditions (s.m.codes x.before) (s.m.codes x.now) &&& s.m.n
      E.CAP_TRIG_SRC 0 ≠ 0 ∧ s.m.n E.CAP_STATE 0 ≠ 0) ∧
    (∃ (t : Nat) (c : Instr) (s : State), s.m.alive = true ∧ ((c = .capPreHeld t ∧ s.m.n E.CAP_STATE 0 = 1 ∧ s.m.cap.first +
      s.m.capPre * s.m.capTick ≤ (s.m.at t).tb) ∨ (c = .capFrozen t ∧ s.m.n E.CAP_STATE 0 = 3 ∧ s.m.cap.first + s.m.cap.len
      * s.m.capTick ≤ (s.m.at t).tb))) ∧
    (∃ (s : State), s.m.alive = true ∧ s.m.n E.CAP_STATE 0 = 5 ∧ s.m.b E.CAP_AUTO_REARM 0 = false ∧ s.m.streamCredited =
      true) ∧
    (∃ (t : Nat) (s : State), s.m.alive = true ∧ s.m.n E.CAP_STATE 0 = 5 ∧ (s.m.at t).due .streamA = true) ∧
    (∃ (t : Nat) (h : Hdr) (s : State), s.m.alive = true ∧ Passes (s.m.at t) h 0x22 none ∧ s.m.bitOf E.CAP_TRIG_SRC 0 9 =
      true ∧ s.m.n E.CAP_STATE 0 = 2) ∧
    (∃ (s : State), s.m.alive = true ∧ s.m.b E.STRB_EN 0 = true ∧ s.m.canReach 0x60 (s.m.n E.STRB_DEST 0) = true ∧ (s.m.b
      E.Q_HIGH 28 = false ∨ s.m.cap.skipB = true) ∧ s.m.queueFull 28 (24 + 2 * channels (s.m.n E.STRB_MASK 0) * blockSamples
      (s.m.n E.STRB_MASK 0)) = false) ∧
    (∃ (t : Nat) (h : Hdr) (s : State), s.m.alive = true ∧ Passes (s.m.at t) h 0x51 none) ∧
    (∃ (t : Nat) (x : GapMsg) (d : DropS) (s : State), s.m.alive = true ∧ s.m.net.drops.find? (fun d => d.of x.orig x.dst
      x.typ) = some d ∧ s.m.canReach 0x51 d.orig = true ∧ (d.dst = s.m.n E.NET_ADDR 0 ∨ d.dst = s.m.n E.NET_ADDR_P 0 ∨
      s.m.canReach 0x51 d.dst = true) ∧ d.tLast + ms 1 ≤ (s.m.at t).ntime) :=
  ⟨⟨0, wr E.CAP_CMD 0 1, wv E.CAP_CMD 0 1, (up []).ses, by decide +kernel, Takes.of_check (by decide +kernel), by
  decide +kernel⟩,
   ⟨0, wr E.CAP_CMD 0 2, wv E.CAP_CMD 0 2, (up [(E.CAP_STATE, 0, 2),(E.CAP_TRIG_SRC, 0, 1)]).ses, by decide +kernel,
     Takes.of_check (by decide +kernel), by decide +kernel⟩,
   ⟨0, wr E.CAP_CMD 0 3, wv E.CAP_CMD 0 3, (up [(E.CAP_STATE, 0, 4),(E.CAP_DEST, 0, 5)]).ses, by decide +kernel,
     Takes.of_check (by decide +kernel), by decide +kernel⟩,
   ⟨0, wr E.CAP_CMD 0 4, wv E.CAP_CMD 0 4, (up [(E.CAP_STATE, 0, 4)]).ses, by decide +kernel, Takes.of_check (by
     decide +kernel), by decide +kernel⟩,
   ⟨{ before := List.replicate 16 0, now := List.replicate 16 900, tSample := 1000 }, up [(E.CAP_STATE, 0,
     1),(E.CAP_TRIG_SRC, 0, 0x7FF),(E.CAP_LVL_CH, 0, 1),(E.CAP_LVL_HI, 0, 0x40A00000),(E.CAP_LVL_LO, 0, 0x40A00000)], by
     decide +kernel⟩,
   ⟨0, .capFrozen 0, up [(E.CAP_STATE, 0, 3)], by decide +kernel⟩,
   ⟨(up [(E.CAP_STATE, 0, 5)]).mm fun m => { m with cap := { m.cap with lastUsed := some (0, 0) } }, by decide +kernel⟩,
   ⟨0, (up [(E.CAP_STATE, 0, 5)]).tmr .streamA, by decide +kernel⟩,
   ⟨0, hd 0x22, (up [(E.CAP_STATE, 0, 2),(E.CAP_TRIG_SRC, 0, 0x200)]).keyd, by decide +kernel, PassesBy.of_check (by
     decide +kernel), by decide +kernel⟩,
   ⟨onRing [(E.STRB_EN, 0, 1)], by decide +kernel⟩,
   ⟨0, hd 0x51, (up []).keyd, by decide +kernel, PassesBy.of_check (by decide +kernel)⟩,
   ⟨0, gap, gapSum, (onRing []).mm fun m => { m with net := { m.net with drops := [gapSum] } }, by decide +kernel⟩⟩

theorem CableAndCalibration_met :
    (∃ (t : Nat) (k : Nat) (r : Req) (c : Instr) (v : Val) (s : State), s.m.alive = true ∧ ((k = 1 ∧ c = .cableSys t r) ∨ (k
      = 2 ∧ c = .cableBat t r) ∨ (k = 3 ∧ c = .cableBrk t r)) ∧ Takes (s.m.at t, s.srv) r E.CABLE_CMD 0 v ∧ leNat r.data =
      k) ∧
    (∃ (v : Rat) (s : State), s.m.alive = true ∧ 100 ≤ v ∧ s.m.n E.BRK_R 0 = 0 ∧ s.m.cable.brkDone = false ∧ s.m.protOk 6 =
      true ∧ s.m.cableBusy = false) ∧
    (∃ (t : Nat) (s : State), s.m.alive = true ∧ s.m.cable.run = 3 ∧ (s.m.at t).cableOver = true) ∧
    (∃ (t : Nat) (k : Nat) (s : State), s.m.alive = true ∧ (k = 1 ∨ k = 2) ∧ s.m.cable.run = k ∧ (s.m.at t).cableOver =
      true) ∧
    (∃ (t : Nat) (r : Req) (v : Val) (s : State), s.m.alive = true ∧ Takes (s.m.at t, s.srv) r E.CAL_SET 0 v) :=
  ⟨⟨0, 3, wr E.CABLE_CMD 0 3, .cableBrk 0 (wr E.CABLE_CMD 0 3), wv E.CABLE_CMD 0 3, ((up []).mm fun m =>
  { m with sens := { m.sens with vLink := 100 } }).ses, by decide +kernel, by decide +kernel, Takes.of_check (by
  decide +kernel), by decide +kernel⟩,
   ⟨100, up [], by decide +kernel⟩,
   ⟨0, (up []).mm fun m => { m with cable := { m.cable with run := 3 } }, by decide +kernel⟩,
   ⟨0, 2, (up []).mm fun m => { m with cable := { m.cable with run := 2 } }, by decide +kernel⟩,
   ⟨0, wrb E.CAL_SET 0 ([15, 0, 0, 0] ++ leBytes 4 0x3F800000 ++ leBytes 4 0), .bytes ([15, 0, 0, 0] ++ leBytes 4 0x3F800000
     ++ leBytes 4 0), (up []).ses, by decide +kernel, Takes.of_check (by decide +kernel)⟩⟩

theorem EnergySessions_met :
    (∃ (t : Nat) (r : Req) (v : Val) (s : State), s.m.alive = true ∧ Takes (s.m.at t, s.srv) r E.ESESS_CMD 0 v ∧ leNat
      r.data = 1) ∧
    (∃ (t : Nat) (r : Req) (v : Val) (s : State), s.m.alive = true ∧ Takes (s.m.at t, s.srv) r E.ESESS_CMD 0 v ∧ leNat
      r.data = 2) ∧
    (∃ (t : Nat) (s : State), s.m.alive = true ∧ s.m.n E.ESESS_STATE 0 = 1 ∧ (s.m.at t).due .esess = true ∧ (s.m.ePos %
      recordsPerEnergySector ≠ 0 ∨ (elogSectors (s.m.elogQ ++ s.m.elog)).length + (s.m.retired[1]?).getD 0 < energySectors)) :=
  ⟨⟨0, wr E.ESESS_CMD 0 1, wv E.ESESS_CMD 0 1, (up []).ses, by decide +kernel, Takes.of_check (by decide +kernel), by
  decide +kernel⟩,
   ⟨0, wr E.ESESS_CMD 0 2, wv E.ESESS_CMD 0 2, (up [(E.ESESS_STATE, 0, 1)]).ses, by decide +kernel, Takes.of_check (by
     decide +kernel), by decide +kernel⟩,
   ⟨0, (up [(E.ESESS_STATE, 0, 1)]).tmr .esess, by decide +kernel⟩⟩

theorem FaultRaising_met :
    (∃ (b : Nat) (k : Nat) (cls : Nat) (s : State), s.m.alive = true ∧ b < 16 ∧ s.m.classNow b k = some cls ∧ s.m.bitOf
      E.FLT_ACTIVE b k = false) ∧
    (∃ (s : State), s.m.alive = true) ∧
    (∃ (t : Nat) (b : Nat) (s : State), s.m.alive = true ∧ b < 16 ∧ (s.m.at t).due (.grace b) = false) ∧
    (∃ (t : Nat) (b : Nat) (k : Nat) (s : State), s.m.alive = true ∧ (s.m.at t).due (.eventHold b k) = true) :=
  ⟨⟨12, 2, ((up []).m.classNow 12 2).getD 9, up [], by decide +kernel⟩,
   ⟨up [], by decide +kernel⟩,
   ⟨0, 15, up [], by decide +kernel⟩,
   ⟨0, 15, 0, (up []).tmr (.eventHold 15 0), by decide +kernel⟩⟩

theorem FaultEscalation_met :
    (∃ (t : Nat) (b : Nat) (s : State), s.m.alive = true ∧ b < 16 ∧ (s.m.at t).due (.grace b) = true ∧ (s.m.fltOf b).unacked
      ≠ 0) ∧
    (∃ (t : Nat) (b : Nat) (s : State), s.m.alive = true ∧ b < 16 ∧ (s.m.fltOf b).resetting = true ∧ (s.m.at t).due
      (.blockReset b) = true) ∧
    (∃ (t : Nat) (b : Nat) (s : State), s.m.alive = true ∧ b < 16 ∧ (s.m.at t).mayRecover b = true) :=
  ⟨⟨0, 15, ((up []).tmr (.grace 15)).mm (·.modFlt 15 fun x => { x with unacked := 5 }), by decide +kernel⟩,
   ⟨0, 15, ((up []).tmr (.blockReset 15)).mm (·.modFlt 15 fun x => { x with resetting := true }), by decide +kernel⟩,
   ⟨0, 15, (up [(E.FLT_CLASS, 15, 1),(E.FLT_QUIET, 15, 1)]).mm (·.modFlt 15 fun x => { x with since := 0 }), by
     decide +kernel⟩⟩

theorem FaultClearing_met :
    (∃ (t : Nat) (b : Nat) (r : Req) (v : Val) (s : State), s.m.alive = true ∧ Takes (s.m.at t, s.srv) r E.FLT_STICKY b v) ∧
    (∃ (t : Nat) (b : Nat) (r : Req) (v : Val) (s : State), s.m.alive = true ∧ Takes (s.m.at t, s.srv) r E.FLT_LATCHED b v) ∧
    (∃ (t : Nat) (b : Nat) (r : Req) (v : Val) (s : State), s.m.alive = true ∧ Takes (s.m.at t, s.srv) r E.FLT_INJECT b v) ∧
    (∃ (t : Nat) (b : Nat) (k : Nat) (s : State), s.m.alive = true ∧ b < 16 ∧ bit (s.m.fltOf b).injected k = true ∧ (b = 3 ∨
      (s.m.at t).due (.injMiss b k) = true)) ∧
    (∃ (t : Nat) (s : State), s.m.alive = true ∧ s.m.faultLine = false ∧ s.m.lockstep = false ∧ s.m.b E.FAULT_OUT 0 = false
      ∧ ((s.m.at t).due .faultContact = true ∨ s.m.armed .faultContact = false)) :=
  ⟨⟨0, 15, wr E.FLT_STICKY 15 3, wv E.FLT_STICKY 15 3, (up []).ses, by decide +kernel, Takes.of_check (by decide +kernel)⟩,
   ⟨0, 15, wr E.FLT_LATCHED 15 0, wv E.FLT_LATCHED 15 0, (up []).ses, by decide +kernel, Takes.of_check (by decide +kernel)⟩,
   ⟨0, 12, wr E.FLT_INJECT 12 (injectable 12), wv E.FLT_INJECT 12 (injectable 12), (up [(E.INJ_EN, 0, 1)]).ses, by
     decide +kernel, Takes.of_check (by decide +kernel)⟩,
   ⟨0, 15, 1, ((up []).mm (·.modFlt 15 fun x => { x with injected := 3 })).tmr (.injMiss 15 1), by decide +kernel⟩,
   ⟨0, up [(E.FAULT_OUT, 0, 0)], by decide +kernel⟩⟩

theorem KeeperAndErases_met :
    (∃ (t : Nat) (r : Req) (v : Val) (s : State), s.m.alive = true ∧ Takes (s.m.at t, s.srv) r E.KPR_KEY 0 v ∧ v.toNat =
      0xB7E1 ∧ s.m.kpr.running = true ∧ s.m.kpr.suspendedAt = none ∧ s.m.n E.KPR_OPEN_T 0 ≤ (s.m.at t).tb ∧ s.m.n E.KPR_SEEN
      0 &&& s.m.n E.KPR_TASKS 0 = s.m.n E.KPR_TASKS 0) ∧
    (∃ (t : Nat) (r : Req) (v : Val) (s : State), s.m.alive = true ∧ Takes (s.m.at t, s.srv) r E.KPR_KEY 0 v ∧ (v.toNat ≠
      0xB7E1 ∨ (s.m.kpr.running = true ∧ s.m.kpr.suspendedAt.isSome = true))) ∧
    (∃ (t : Nat) (r : Req) (v : Val) (s : State), s.m.alive = true ∧ Takes (s.m.at t, s.srv) r E.KPR_KEY 0 v ∧ v.toNat =
      0xB7E1 ∧ s.m.kpr.running = true ∧ s.m.kpr.suspendedAt = none ∧ (s.m.at t).tb < s.m.n E.KPR_OPEN_T 0) ∧
    (∃ (t : Nat) (r : Req) (v : Val) (s : State), s.m.alive = true ∧ Takes (s.m.at t, s.srv) r E.KPR_CHECKIN 0 v ∧
      s.m.kpr.running = true) ∧
    (∃ (t : Nat) (s : State), s.m.alive = true ∧ s.m.kpr.running = true ∧ s.m.kpr.suspendedAt = none ∧ s.m.n E.KPR_CLOSE_T 0
      ≤ (s.m.at t).tb) ∧
    (∃ (t0 : Nat) (u : Nat) (s : State), s.m.alive = true ∧ s.m.eraseOp = some (3, t0) ∧ s.m.q26 = [] ∧ s.m.kpr.suspendedAt
      = some u) ∧
    (∃ (t0 : Nat) (s : State), s.m.alive = true ∧ s.m.eraseOp = some (3, t0) ∧ s.m.q26 = [] ∧ s.m.kpr.suspendedAt = none) ∧
    (∃ (t : Nat) (w : Nat) (t0 : Nat) (s : State), s.m.alive = true ∧ s.m.eraseOp = some (w, t0) ∧ 1 ≤ w ∧ w ≤ 3 ∧ (s.m.at
      t).due .erase = true) :=
  ⟨⟨0, wr E.KPR_KEY 0 0xB7E1, wv E.KPR_KEY 0 0xB7E1, (keeping [(E.KPR_OPEN_T, 0, 5),(E.KPR_SEEN, 0, 0x1d),(E.KPR_TASKS, 0,
  0x1d)]).ses, by decide +kernel, Takes.of_check (by decide +kernel), by decide +kernel⟩,
   ⟨0, wr E.KPR_KEY 0 0xB7E2, wv E.KPR_KEY 0 0xB7E2, (keeping []).ses, by decide +kernel, Takes.of_check (by
     decide +kernel), by decide +kernel⟩,
   ⟨0, wr E.KPR_KEY 0 0xB7E1, wv E.KPR_KEY 0 0xB7E1, (keeping [(E.KPR_OPEN_T, 0, 500000000000)]).ses, by decide +kernel,
     Takes.of_check (by decide +kernel), by decide +kernel⟩,
   ⟨0, wr E.KPR_CHECKIN 0 0xFFFF, wv E.KPR_CHECKIN 0 0xFFFF, (keeping []).ses, by decide +kernel, Takes.of_check (by
     decide +kernel), by decide +kernel⟩,
   ⟨0, keeping [(E.KPR_CLOSE_T, 0, 5)], by decide +kernel⟩,
   ⟨3, 5, (keeping []).mm fun m => { m with eraseOp := some (3, 3), kpr := { m.kpr with suspendedAt := some 5 } }, by
     decide +kernel⟩,
   ⟨3, (keeping []).mm fun m => { m with eraseOp := some (3, 3) }, by decide +kernel⟩,
   ⟨0, 3, 3, ((up []).mm fun m => { m with eraseOp := some (3, 3) }).tmr .erase, by decide +kernel⟩⟩

theorem UsbContracts_met :
    (∃ (s : State), s.m.alive = true ∧ s.m.usb.attached = false ∧ (s.m.fltOf 9).resetting = false) ∧
    (∃ (s : State), s.m.alive = true ∧ s.m.usb.attached = true) ∧
    (∃ (c : SrcCaps) (v : Nat) (s : State), s.m.alive = true ∧ s.m.usb.attached = true ∧ s.m.n E.USB_PWR_ROLE 0 = 0 ∧ s.m.n
      E.USB_STATE 0 ≠ 3 ∧ eprChoice c = some v) ∧
    (∃ (c : SrcCaps) (s : State), s.m.alive = true ∧ s.m.usb.attached = true ∧ s.m.n E.USB_PWR_ROLE 0 = 0 ∧ s.m.n
      E.USB_STATE 0 ≠ 3 ∧ eprChoice c = none) ∧
    (∃ (t : Nat) (answered : Bool) (c : Instr) (s : State), s.m.alive = true ∧ s.m.usb.attached = true ∧ s.m.b E.USB_EPR 0 =
      true ∧ s.m.n E.USB_STATE 0 ≠ 3 ∧ (c = .eprKeepalive t answered ∨ (c = .eprExit t ∧ answered = false))) ∧
    (∃ (s : State), s.m.alive = true ∧ s.m.usb.attached = true ∧ s.m.n E.USB_PWR_ROLE 0 = 1 ∧ s.m.usb.srcOn = true ∧ s.m.n
      E.USB_STATE 0 ≠ 3) ∧
    (∃ (s : State), s.m.alive = true ∧ s.m.usb.attached = true ∧ s.m.n E.USB_PWR_ROLE 0 = 1 ∧ s.m.usb.discharging = true) :=
  ⟨⟨up [], by decide +kernel⟩,
   ⟨plugged [], by decide +kernel⟩,
   ⟨{ eprCapable := true, epr := [28, 36] }, 36, plugged [], by decide +kernel⟩,
   ⟨{ eprCapable := false, epr := [] }, plugged [], by decide +kernel⟩,
   ⟨0, false, .eprExit 0, plugged [(E.USB_EPR, 0, 1)], by decide +kernel⟩,
   ⟨(plugged [(E.USB_PWR_ROLE, 0, 1)]).mm fun m => { m with usb := { m.usb with srcOn := true } }, by decide +kernel⟩,
   ⟨(plugged [(E.USB_PWR_ROLE, 0, 1)]).mm fun m => { m with usb := { m.usb with discharging := true } }, by decide +kernel⟩⟩

theorem UsbSwapsAndDiscovery_met :
    (∃ (s : State), s.m.alive = true ∧ s.m.usb.attached = true) ∧
    (∃ (s : State), s.m.alive = true ∧ s.m.usb.attached = true) ∧
    (∃ (s : State), s.m.alive = true ∧ s.m.usb.attached = true) ∧
    (∃ (s : State), s.m.alive = true ∧ s.m.usb.attached = true) ∧
    (∃ (s : State), s.m.alive = true ∧ s.m.usb.attached = true) ∧
    (∃ (t : Nat) (svid : Nat) (c : Instr) (o : Out) (s : State), s.m.alive = true ∧ s.m.usb.attached = true ∧ ((c =
      .discoverIdentity t ∧ o = .pd "Discover_Identity_ACK" [1, 1, 0x3A71, 0, 0x60010042]) ∨ (c = .discoverSvids t ∧ o = .pd
      "Discover_SVIDs_ACK" [0x3A71, 0]) ∨ (c = .discoverModes t svid ∧ svid = 0x3A71 ∧ o = .pd "Discover_Modes_ACK" [1]) ∨
      (c = .discoverModes t svid ∧ svid ≠ 0x3A71 ∧ o = .pd "Discover_Modes_NAK" []))) ∧
    (∃ (s : State), s.m.alive = true ∧ s.m.usb.attached = true ∧ s.m.n E.USB_DATA_ROLE 0 = 1) ∧
    (∃ (s : State), s.m.alive = true ∧ s.m.usb.attached = true) ∧
    (∃ (s : State), s.m.alive = true ∧ s.m.usb.attached = true ∧ s.m.n E.USB_STATE 0 = 3) :=
  ⟨⟨plugged [], by decide +kernel⟩,
   ⟨plugged [], by decide +kernel⟩,
   ⟨plugged [], by decide +kernel⟩,
   ⟨plugged [], by decide +kernel⟩,
   ⟨plugged [], by decide +kernel⟩,
   ⟨0, 0x3A72, .discoverModes 0 0x3A72, .pd "Discover_Modes_NAK" [], plugged [], by decide +kernel⟩,
   ⟨plugged [(E.USB_DATA_ROLE, 0, 1)], by decide +kernel⟩,
   ⟨plugged [], by decide +kernel⟩,
   ⟨plugged [(E.USB_STATE, 0, 3)], by decide +kernel⟩⟩

theorem SessionsAndSecrets_met :
    (∃ (t : Nat) (l : Nat) (r : Req) (v : Val) (s : State), s.m.alive = true ∧ Takes (s.m.at t, s.srv) r E.CRED_LOGIN 0 v ∧
      s.m.armed (.lockout (loginClass r.transport)) = false ∧ s.m.loginLevel v.toBytes = some l) ∧
    (∃ (t : Nat) (r : Req) (v : Val) (s : State), s.m.alive = true ∧ Takes (s.m.at t, s.srv) r E.CRED_LOGIN 0 v ∧ s.m.armed
      (.lockout (loginClass r.transport)) = false ∧ s.m.loginLevel v.toBytes = none) ∧
    (∃ (t : Nat) (r : Req) (v : Val) (s : State), s.m.alive = true ∧ Takes (s.m.at t, s.srv) r E.CRED_LOGOUT 0 v) ∧
    (∃ (t : Nat) (q : Nat) (s : State), s.m.alive = true ∧ (s.m.at t).due (.session q) = true) ∧
    (∃ (t : Nat) (c : Nat) (s : State), s.m.alive = true ∧ (s.m.at t).due (.lockout c) = true) ∧
    (∃ (t : Nat) (r : Req) (v : Val) (s : State), s.m.alive = true ∧ Takes (s.m.at t, s.srv) r E.CRED_SET 0 v) ∧
    (∃ (t : Nat) (r : Req) (v : Val) (s : State), s.m.alive = true ∧ Takes (s.m.at t, s.srv) r E.RING_KEY_OWN 0 v) ∧
    (∃ (t : Nat) (r : Req) (v : Val) (s : State), s.m.alive = true ∧ Takes (s.m.at t, s.srv) r E.RING_KEY_PAR 0 v) ∧
    (∃ (t : Nat) (r : Req) (v : Val) (s : State), s.m.alive = true ∧ Takes (s.m.at t, s.srv) r E.SIGN_KEYGEN 0 v) ∧
    (∃ (t : Nat) (r : Req) (v : Val) (s : State), s.m.alive = true ∧ Takes (s.m.at t, s.srv) r E.SECRET_ERASE 0 v) ∧
    (∃ (s : State), s.m.alive = true) :=
  ⟨⟨0, 2, wrb E.CRED_LOGIN 0 [8,8,8,8,8,8,8,8,8,8,8,8,8,8,8,8], .bytes [8,8,8,8,8,8,8,8,8,8,8,8,8,8,8,8], ((up []).mm fun m =>
  { m with keys := { m.keys with cred := [none, some [8,8,8,8,8,8,8,8,8,8,8,8,8,8,8,8], none] } }).ses, by decide +kernel,
  Takes.of_check (by decide +kernel), by decide +kernel⟩,
   ⟨0, wrb E.CRED_LOGIN 0 [8,8,8,8,8,8,8,8,8,8,8,8,8,8,8,8], .bytes [8,8,8,8,8,8,8,8,8,8,8,8,8,8,8,8], ((up []).mm fun m =>
     { m with keys := { m.keys with cred := [none, none, some [9,9,9,9,9,9,9,9,9,9,9,9,9,9,9,9]] } }).ses, by
     decide +kernel, Takes.of_check (by decide +kernel), by decide +kernel⟩,
   ⟨0, wr E.CRED_LOGOUT 0 1, wv E.CRED_LOGOUT 0 1, (up []).ses, by decide +kernel, Takes.of_check (by decide +kernel)⟩,
   ⟨0, 9, (up []).tmr (.session 9), by decide +kernel⟩,
   ⟨0, 3, (up []).tmr (.lockout 3), by decide +kernel⟩,
   ⟨0, wrb E.CRED_SET 0 [3,7,7,7,7,7,7,7,7,7,7,7,7,7,7,7,7], .bytes [3,7,7,7,7,7,7,7,7,7,7,7,7,7,7,7,7], (up []).ses, by
     decide +kernel, Takes.of_check (by decide +kernel)⟩,
   ⟨0, wrb E.RING_KEY_OWN 0 [7,7,7,7,7,7,7,7,7,7,7,7,7,7,7,7], .bytes [7,7,7,7,7,7,7,7,7,7,7,7,7,7,7,7], (up []).ses, by
     decide +kernel, Takes.of_check (by decide +kernel)⟩,
   ⟨0, wrb E.RING_KEY_PAR 0 [7,7,7,7,7,7,7,7,7,7,7,7,7,7,7,7], .bytes [7,7,7,7,7,7,7,7,7,7,7,7,7,7,7,7], (up []).ses, by
     decide +kernel, Takes.of_check (by decide +kernel)⟩,
   ⟨0, wr E.SIGN_KEYGEN 0 1, wv E.SIGN_KEYGEN 0 1, (up []).ses, by decide +kernel, Takes.of_check (by decide +kernel)⟩,
   ⟨0, wr E.SECRET_ERASE 0 58853, wv E.SECRET_ERASE 0 58853, (up []).ses, by decide +kernel, Takes.of_check (by
     decide +kernel)⟩,
   ⟨up [], by decide +kernel⟩⟩

theorem FirmwareEvents_met :
    (∃ (t : Nat) (r : Req) (v : Val) (s : State), s.m.alive = true ∧ Takes (s.m.at t, s.srv) r E.FW_IMG 0 v) ∧
    (∃ (s : State), s.m.alive = true ∧ s.m.fw.altState = 1 ∧ s.m.armed .fwVerify = true) ∧
    (∃ (t : Nat) (r : Req) (v : Val) (s : State), s.m.alive = true ∧ Takes (s.m.at t, s.srv) r E.FW_SWITCH 0 v) ∧
    (∃ (t : Nat) (s : State), s.m.alive = true ∧ s.m.fw.trial = true ∧ (s.m.at t).due .trial = true ∧ s.m.n E.POWER_ACT 0 =
      0) :=
  ⟨⟨0, wrb E.FW_IMG 0 (List.replicate 160 7), .bytes (List.replicate 160 7), (up []).ses, by decide +kernel, Takes.of_check (by
  decide +kernel)⟩,
   ⟨((up []).mm fun m => { m with fw := { m.fw with altState := 1, altLen := 100 } }).tmr .fwVerify, by decide +kernel⟩,
   ⟨0, wr E.FW_SWITCH 0 1, wv E.FW_SWITCH 0 1, ((up []).mm fun m =>
     { m with fw := { m.fw with altState := 2, altVer := 100 } }).ses, by decide +kernel, Takes.of_check (by
     decide +kernel)⟩,
   ⟨0, ((up []).mm fun m => { m with fw := { m.fw with trial := true } }).tmr .trial, by decide +kernel⟩⟩

theorem ClocksAndSources_met :
    (∃ (s : State), s.m.alive = true ∧ s.m.bitOf E.FLT_ACTIVE 14 1 = false) ∧
    (∃ (s : State), s.m.alive = true ∧ s.m.bitOf E.FLT_ACTIVE 14 0 = false) ∧
    (∃ (t : Nat) (s : State), s.m.alive = true ∧ (s.m.at t).due .pllRelock = true ∧ s.m.b E.PLL_LOCK 0 = false) ∧
    (∃ (s : State), s.m.phase = .holdup) ∧
    (∃ (t : Nat) (s : State), s.m.alive = true ∧ (s.m.at t).due .holdup300 = true) ∧
    (∃ (t : Nat) (s : State), s.m.alive = true ∧ (s.m.at t).due .holdup300 = false) :=
  ⟨⟨up [], by decide +kernel⟩,
   ⟨up [], by decide +kernel⟩,
   ⟨0, (up [(E.PLL_LOCK, 0, 0)]).tmr .pllRelock, by decide +kernel⟩,
   ⟨(up []).mm fun m => { m with phase := .holdup }, by decide +kernel⟩,
   ⟨0, (up []).tmr .holdup300, by decide +kernel⟩,
   ⟨0, up [], by decide +kernel⟩⟩

theorem ResetsAndWakes_met :
    (∃ (s : State), s.m.counting = true) ∧
    (∃ (s : State), s.m.alive = true) ∧
    (∃ (t : Nat) (s : State), s.m.alive = true ∧ (s.m.at t).due .wdrst = true) ∧
    (∃ (s : State), s.m.alive = true ∧ s.m.armed .reset = true) ∧
    (∃ (t : Nat) (r : Req) (v : Val) (s : State), s.m.alive = true ∧ Takes (s.m.at t, s.srv) r E.RST_CMD 0 v) ∧
    (∃ (w : WakeSrc) (s : State), s.m.phase = .hibernate ∧ s.m.wakeEnabled w = true) ∧
    (∃ (w : WakeSrc) (s : State), s.m.phase = .hibernate ∧ s.m.wakeEnabled w = true) ∧
    (∃ (s : State), s.m.counting = false) ∧
    (∃ (s : State), s.m.phase = .hibernate ∧ s.m.heldWake = true) :=
  ⟨⟨up [], by decide +kernel⟩,
   ⟨up [], by decide +kernel⟩,
   ⟨0, (up []).tmr .wdrst, by decide +kernel⟩,
   ⟨(up []).tmr .reset, by decide +kernel⟩,
   ⟨0, wr E.RST_CMD 0 1, wv E.RST_CMD 0 1, (up []).ses, by decide +kernel, Takes.of_check (by decide +kernel)⟩,
   ⟨.usb, (up [(E.WAKE_EN, 0, 15)]).mm fun m => { m with phase := .hibernate }, by decide +kernel⟩,
   ⟨.usb, (up [(E.WAKE_EN, 0, 15)]).mm fun m => { m with phase := .hibernate }, by decide +kernel⟩,
   ⟨(up []).mm fun m => { m with phase := .off }, by decide +kernel⟩,
   ⟨(up []).mm fun m => { m with phase := .hibernate, heldWake := true }, by decide +kernel⟩⟩

theorem StartUpRuns_met :
    (∃ (s : State), s.m.rst.isSome = true ∧ (s.m.phase = .off ∨ s.m.phase = .booting) ∧ s.m.durableEpoch < 0xFFFFFFFF) ∧
    (∃ (s : State), s.m.rst.isSome = true ∧ (s.m.phase = .off ∨ s.m.phase = .booting) ∧ s.m.durableEpoch < 0xFFFFFFFF) ∧
    (∃ (s : State), s.m.rst.isSome = true ∧ (s.m.phase = .off ∨ s.m.phase = .booting) ∧ s.m.durableEpoch = 0xFFFFFFFF) ∧
    (∃ (adv : Nat) (x : BootIn) (s : State), s.m.phase = .epochWait ∧ s.m.boot = some (adv, x) ∧ s.m.durableEpoch <
      0xFFFFFFFF) ∧
    (∃ (adv : Nat) (x : BootIn) (s : State), s.m.phase = .epochWait ∧ s.m.boot = some (adv, x)) :=
  ⟨⟨State.reset, by decide +kernel⟩,
   ⟨State.reset, by decide +kernel⟩,
   ⟨State.reset.mm fun m => { m with pst := [(E.EPOCH.key 0, .num 0xFFFFFFFF)] }, by decide +kernel⟩,
   ⟨5, noBoot, State.reset.mm fun m => { m with phase := .epochWait, boot := some (5, noBoot) }, by decide +kernel⟩,
   ⟨5, noBoot, State.reset.mm fun m => { m with phase := .epochWait, boot := some (5, noBoot) }, by decide +kernel⟩⟩

theorem RefusedRequestsChangeNothing_met :
    (∃ (t : Nat) (r : Req) (s : State), s.m.alive = true ∧ r.op = 2 ∧ (s.m.at t).requestFull r = true) ∧
    (∃ (t : Nat) (r : Req) (s : State), s.m.alive = true ∧ (s.m.at t).requestFull r = false) ∧
    (∃ (t : Nat) (r : Req) (s : State), s.m.alive = true ∧ r.op = 2 ∧ (s.m.at t).requestFull r = false ∧ s.srv.sessionValid
      r = false) ∧
    (∃ (t : Nat) (r : Req) (s : State), s.m.alive = true ∧ r.op = 2 ∧ (s.m.at t).requestFull r = false ∧ s.srv.sessionValid
      r = true ∧ r.transport ≠ .zwl ∧ (r.epoch = 0 ∨ s.m.n E.EPOCH 0 < r.epoch)) ∧
    (∃ (t : Nat) (last : Nat) (r : Req) (s : State), s.m.alive = true ∧ r.op = 2 ∧ (s.m.at t).requestFull r = false ∧
      s.srv.sessionValid r = true ∧ r.transport ≠ .zwl ∧ r.epoch ≠ 0 ∧ r.epoch = s.m.n E.EPOCH 0 ∧ s.srv.seqs.find? (fun q
      => q.1 == r.requester) = some (r.requester, last) ∧ newer r.seq last = false ∧ s.srv.recOf r.requester r.epoch r.seq =
      none) ∧
    (∃ (t : Nat) (i : Nat) (st : Nat) (k : Nat) (data : List Nat) (f : Fam) (r : Req) (s : State), s.m.alive = true ∧
      Admitted (s.m.at t, s.srv) r ∧ r.op = 2 ∧ r.sub ≠ 0 ∧ findEntry r.index r.sub families = some (f, i) ∧ r.ty = tyCode
      f.ty ∧ tySize f.ty = some k ∧ r.len = k ∧ r.data.length = k ∧ r.offset = 0 ∧ r.more = false ∧ (ruleOf f i).ro (arrived
      r (s.m.at t, s.srv)).1 r = false ∧ checkValue (arrived r (s.m.at t, s.srv)) f i (ruleOf f i) r ((arrived r (s.m.at t,
      s.srv)).2.level r) (f.decode r.data) false false = some (st, data)) :=
  ⟨⟨0, wr E.SYS_SLEW 0 5, crowded, by decide +kernel⟩,
   ⟨0, wr E.SYS_SLEW 0 5, up [], by decide +kernel⟩,
   ⟨0, { wr E.SYS_SLEW 0 5 with transport := .usb }, up [], by decide +kernel⟩,
   ⟨0, { wr E.SYS_SLEW 0 5 with epoch := 6 }, (up []).ses, by decide +kernel⟩,
   ⟨0, 7, wr E.SYS_SLEW 0 5, (up []).ses.seen 7, by decide +kernel⟩,
   ⟨0, 0, 20, 1, [], E.SRC_POLICY, wr E.SRC_POLICY 0 5, (up []).ses, by decide +kernel, Admitted.of_check (by
     decide +kernel), by decide +kernel⟩⟩

theorem ReadsAndRepeats_met :
    (∃ (t : Nat) (i : Nat) (f : Fam) (r : Req) (s : State), s.m.alive = true ∧ Reads (s.m.at t, s.srv) r f i ∧ (ruleOf f
      i).clear = none ∧ f.acc ≠ .wo ∧ (ruleOf f i).unread (looked r (s.m.at t, s.srv)).1 = false ∧ (tySize f.ty).isSome =
      true) ∧
    (∃ (t : Nat) (last : Nat) (c : CRec) (r : Req) (s : State), s.m.alive = true ∧ r.op = 2 ∧ (s.m.at t).requestFull r =
      false ∧ s.srv.sessionValid r = true ∧ r.transport ≠ .zwl ∧ r.epoch ≠ 0 ∧ r.epoch = s.m.n E.EPOCH 0 ∧ s.srv.seqs.find?
      (fun q => q.1 == r.requester) = some (r.requester, last) ∧ newer r.seq last = false ∧ s.srv.recOf r.requester r.epoch
      r.seq = some c ∧ c.status ≠ 0xFF) :=
  ⟨⟨0, 0, E.EPOCH, rd E.EPOCH 0, (up []).ses, by decide +kernel, Reads.of_check (by decide +kernel), by decide +kernel⟩,
   ⟨0, 7, done, wr E.SYS_SLEW 0 5, { (up []).ses.seen 7 with srv := { ((up []).ses.seen 7).srv with recs := [done] } }, by
     decide +kernel⟩⟩

theorem WritesStageOrTakeEffect_met :
    (∃ (t : Nat) (i : Nat) (f : Fam) (r : Req) (v : Val) (s : State), s.m.alive = true ∧ Takes (s.m.at t, s.srv) r f i v ∧
      f.acc = .rwc ∧ (s.srv.stage.filter (fun e => e.key != f.key i)).length < 512) ∧
    (∃ (t : Nat) (i : Nat) (f : Fam) (r : Req) (v : Val) (s : State), s.m.alive = true ∧ Takes (s.m.at t, s.srv) r f i v ∧
      f.acc ≠ .rwc ∧ f.committed = false ∧ tweaks.find? (fun w => w.1 == f.key 0) = none) ∧
    (∃ (t : Nat) (i : Nat) (f : Fam) (r : Req) (v : Val) (s : State), s.m.alive = true ∧ Takes (s.m.at t, s.srv) r f i v ∧
      f.acc ≠ .rwc ∧ f.committed = true ∧ tweaks.find? (fun w => w.1 == f.key 0) = none) :=
  ⟨⟨0, 0, E.ENV_BOOT, wr E.ENV_BOOT 0 10, wv E.ENV_BOOT 0 10, (up []).ses, by decide +kernel, Takes.of_check (by
  decide +kernel), by decide +kernel⟩,
   ⟨0, 0, E.ESESS_RD_NUM, wr E.ESESS_RD_NUM 0 0xFFFFFFFF, wv E.ESESS_RD_NUM 0 0xFFFFFFFF, (up []).ses, by decide +kernel,
     Takes.of_check (by decide +kernel), by decide +kernel⟩,
   ⟨0, 0, E.AUTO_DWELL, wr E.AUTO_DWELL 0 100, wv E.AUTO_DWELL 0 100, (up []).ses, by decide +kernel, Takes.of_check (by
     decide +kernel), by decide +kernel⟩⟩

theorem StageOperations_met :
    (∃ (t : Nat) (r : Req) (s : State), s.m.alive = true ∧ Admitted (s.m.at t, s.srv) r ∧ r.op = 3 ∧ s.srv.stage ≠ [] ∧
      s.srv.owner = some r.requester) ∧
    (∃ (t : Nat) (r : Req) (s : State), s.m.alive = true ∧ Admitted (s.m.at t, s.srv) r ∧ r.op = 4 ∧ s.srv.stage ≠ [] ∧
      s.srv.owner = some r.requester) ∧
    (∃ (t : Nat) (r : Req) (c : Instr) (s : State), s.m.alive = true ∧ Admitted (s.m.at t, s.srv) r ∧ s.srv.stage = [] ∧ ((c
      = .odCommit t r ∧ r.op = 3) ∨ (c = .odDiscard t r ∧ r.op = 4))) ∧
    (∃ (t : Nat) (o : Nat) (r : Req) (c : Instr) (s : State), s.m.alive = true ∧ Admitted (s.m.at t, s.srv) r ∧ s.srv.stage
      ≠ [] ∧ s.srv.owner = some o ∧ o ≠ r.requester ∧ ((c = .odCommit t r ∧ r.op = 3) ∨ (c = .odDiscard t r ∧ r.op = 4))) ∧
    (∃ (t : Nat) (s : State), s.m.alive = true ∧ (s.m.at t).due .stage = true ∧ s.srv.commit = none ∧ s.srv.stage ≠ []) :=
  ⟨⟨0, { rd E.EPOCH 0 with op := 3 }, (up []).ses.staged 9, by decide +kernel, Admitted.of_check (by decide +kernel), by
  decide +kernel⟩,
   ⟨0, { rd E.EPOCH 0 with op := 4 }, (up []).ses.staged 9, by decide +kernel, Admitted.of_check (by decide +kernel), by
     decide +kernel⟩,
   ⟨0, { rd E.EPOCH 0 with op := 4 }, .odDiscard 0 { rd E.EPOCH 0 with op := 4 }, (up []).ses, by decide +kernel,
     Admitted.of_check (by decide +kernel), by decide +kernel⟩,
   ⟨0, 3, { rd E.EPOCH 0 with op := 3 }, .odCommit 0 { rd E.EPOCH 0 with op := 3 }, (up []).ses.staged 3, by decide +kernel,
     Admitted.of_check (by decide +kernel), by decide +kernel⟩,
   ⟨0, ((up []).ses.staged 3).tmr .stage, by decide +kernel⟩⟩

theorem JournalAndCommits_met :
    (∃ (t : Nat) (j : JRec) (js : List JRec) (s : State), s.m.alive = true ∧ s.m.journal = j :: js ∧ (s.m.phase = .holdup →
      s.m.safe.pageLeft = true ∧ (s.m.at t).tb ≤ s.m.safe.holdupAt + ms 2)) ∧
    (∃ (t : Nat) (ok : Bool) (s : State), s.m.phase = .holdup ∧ s.m.journal ≠ [] ∧ (ok = false ∨ s.m.safe.pageLeft = false ∨
      s.m.safe.holdupAt + ms 2 < (s.m.at t).tb)) ∧
    (∃ (j : JRec) (js : List JRec) (s : State), s.m.phase = .running ∧ s.m.journal = j :: js ∧ s.m.bitOf E.FLT_ACTIVE 8 1 =
      false) ∧
    (∃ (t : Nat) (r : Req) (v : Val) (s : State), s.m.alive = true ∧ Takes (s.m.at t, s.srv) r E.PSTORE_DEFAULTS 0 v) ∧
    (∃ (t : Nat) (r : Req) (v : Val) (s : State), s.m.alive = true ∧ Takes (s.m.at t, s.srv) r E.RTC 0 v) ∧
    (∃ (a : Asker) (e : Staged) (f : Fam) (i : Nat) (x : Sys), x.2.commit = some a ∧ x.2.stage = [e] ∧ entryAt e.key = some
      (f, i) ∧ f.base ≠ 0xA100 ∧ commitError a (x.1.putPlace e.key e.val, { x.2 with commit := none }) = none) ∧
    (∃ (a : Asker) (k : Nat) (st : Nat) (x : Sys), x.2.commit = some a ∧ commitError a (x.2.stage.foldl (fun m e =>
      m.putPlace e.key e.val) x.1, { x.2 with commit := none }) = some (k, st)) :=
  ⟨⟨0, slewRec, [], (up []).mm fun m => { m with journal := [slewRec] }, by decide +kernel⟩,
   ⟨0, false, (up []).mm fun m => { m with journal := [slewRec], phase := .holdup }, by decide +kernel⟩,
   ⟨slewRec, [], (up []).mm fun m => { m with journal := [slewRec] }, by decide +kernel⟩,
   ⟨0, wr E.PSTORE_DEFAULTS 0 54768, wv E.PSTORE_DEFAULTS 0 54768, (up []).ses, by decide +kernel, Takes.of_check (by
     decide +kernel)⟩,
   ⟨0, wr E.RTC 0 54768, wv E.RTC 0 54768, (up []).ses, by decide +kernel, Takes.of_check (by decide +kernel)⟩,
   ⟨asker, bootAt 10, E.ENV_BOOT, 0, ((up []).m,
     { sessions := [⟨9, 3, 0⟩], stage := [bootAt 10], owner := some 9, commit := some asker }), by decide +kernel⟩,
   ⟨asker, E.ENV_BOOT.key 0, 20, ((up []).m,
     { sessions := [⟨9, 3, 0⟩], stage := [bootAt 7], owner := some 9, commit := some asker }), by decide +kernel⟩⟩

theorem TimersTransfersAndCompares_met :
    (∃ (t : Nat) (q : Nat) (s : State), s.m.alive = true ∧ (s.m.at t).due (.assembly q) = true) ∧
    (∃ (t : Nat) (q : Nat) (s : State), s.m.alive = true ∧ (s.m.at t).due (.snapshot q) = true) ∧
    (∃ (s : State), s.m.alive = true) ∧
    (∃ (t : Nat) (length : Nat) (r : Req) (s : State), s.m.alive = true ∧ s.m.usb.attached = true ∧ s.m.n E.USB_DATA_ROLE 0
      = 0 ∧ 20 ≤ length ∧ length ≤ 1044 ∧ Admitted (s.m.at t, s.srv)
      { r with requester := usbRequester, transport := .usb, data := r.data.take (length - 20) } ∧ r.op = 4 ∧ s.srv.stage ≠
      [] ∧ s.srv.owner = some usbRequester) ∧
    (∃ (length : Nat) (s : State), s.m.alive = true ∧ s.m.usb.attached = true ∧ s.m.n E.USB_DATA_ROLE 0 = 0 ∧ 20 ≤ length ∧
      length ≤ 1044) ∧
    (∃ (t : Nat) (c : Nat) (r : Req) (v : Val) (s : State), s.m.alive = true ∧ Takes (s.m.at t, s.srv) r E.CMP_MODE c v) ∧
    (∃ (t : Nat) (c : Nat) (s : State), s.m.alive = true ∧ c < 32 ∧ ((s.m.cmp[c]?).getD {}).upTo < (s.m.at t).tb ∧ s.m.n
      E.CMP_STATE c = 1 ∧ s.m.n E.CMP_VAL c ≤ (s.m.at t).tb ∧ s.m.n E.CAP_CMP 0 ≠ c) :=
  ⟨⟨0, 9, (up []).tmr (.assembly 9), by decide +kernel⟩,
   ⟨0, 9, (up []).tmr (.snapshot 9), by decide +kernel⟩,
   ⟨up [], by decide +kernel⟩,
   ⟨0, 20, { rd E.EPOCH 0 with op := 4 }, hosted.staged usbRequester, by decide +kernel, by decide +kernel, by
     decide +kernel, by decide +kernel, by decide +kernel, Admitted.of_check (by decide +kernel), by decide +kernel⟩,
   ⟨1044, hosted, by decide +kernel⟩,
   ⟨0, 31, wr E.CMP_MODE 31 1, wv E.CMP_MODE 31 1, (up []).ses, by decide +kernel, Takes.of_check (by decide +kernel)⟩,
   ⟨0, 31, up [(E.CMP_STATE, 31, 1),(E.CMP_VAL, 31, 7)], by decide +kernel⟩⟩

theorem FrameForwarding_met :
    (∃ (l : Nat) (k : Nat) (h : Hdr) (s : State), s.m.alive = true ∧ l < 4 ∧ s.m.n E.LINK_STATE l = 3 ∧ h.cls ≤ 2 ∧ headerOk
      h = true ∧ h.hops ≠ 0 ∧ [1, 2, 3, 4, 5, 7, 0x11].contains h.typ = false ∧ s.m.endsHere h l = false ∧ s.m.ownFrame h =
      false ∧ s.m.crosses l h = false ∧ s.m.otherLink l = some k ∧ h.fcsOk = true) ∧
    (∃ (t : Nat) (l : Nat) (k : Nat) (h : Hdr) (s : State), s.m.alive = true ∧ l < 4 ∧ s.m.n E.LINK_STATE l = 3 ∧ 3 ≤ h.cls
      ∧ h.cls ≤ 7 ∧ s.m.soundFrame l h = true ∧ [1, 2, 3, 4, 5, 7].contains h.typ = false ∧ s.m.endsHere h l = false ∧
      s.m.ownFrame h = false ∧ s.m.crosses l h = false ∧ s.m.otherLink l = some k ∧ s.m.net.held = [] ∧ s.m.net.drops = [] ∧
      s.m.wireEnd k ≤ (s.m.at t).tb ∧ (h.cls = 6 → s.m.ingress6 l + h.bytes ≤ 32768 ∧ (s.m.at t).ingress6 l + h.bytes ≤
      32768) ∧ (∀ c, creditPlace h.cls = some c → frameCredits h.bytes ≤ s.m.credit k c)) ∧
    (∃ (l : Nat) (h : Hdr) (s : State), s.m.alive = true ∧ l < 4 ∧ s.m.n E.LINK_STATE l = 3 ∧ s.m.addressed h = true ∧
      h.fcsOk = true ∧ headerOk h = true ∧ s.m.soundFrame l h = true ∧ (namedTypes ++ [0x11, 0x30, 0x35, 0x50,
      0x51]).contains h.typ = false) ∧
    (∃ (t : Nat) (l : Nat) (h : Hdr) (r : Req) (s : State), s.m.alive = true ∧ l < 4 ∧ s.m.n E.LINK_STATE l = 3 ∧
      s.m.addressed h = true ∧ Passes (s.m.at t) h 0x40 (some l) ∧ s.m.superseded h = false ∧ s.srv.stage ≠ [] ∧ s.srv.owner
      = some h.src ∧ r.op = 4 ∧ Admitted (((s.m.at t).frameCheck h 0x40 (some l)).1, s.srv)
      { r with requester := h.src, transport := .zwl }) :=
  ⟨⟨0, 1, hd 0x20, between.keyd, by decide +kernel⟩,
   ⟨0, 0, 1, { hd 0x60 with scope := 0, dst := 99 }, (between.keyd).mm (·.modLink 1 fun x =>
     { x with freedIn := [64, 64, 64, 64] }), by decide +kernel⟩,
   ⟨0, to77 0x40, (between.put [(E.NET_ADDR, 0, 77)]).keyd, by decide +kernel⟩,
   ⟨0, 0, to77 0x40, { rd E.EPOCH 0 with op := 4 }, ((between.put [(E.NET_ADDR, 0, 77),(E.NET_ADDR_P, 0,
     77)]).keyd.ses).staged 9, by decide +kernel, by decide +kernel, by decide +kernel, by decide +kernel, PassesBy.of_check
     (by decide +kernel), by decide +kernel, by decide +kernel, by decide +kernel, by decide +kernel, Admitted.of_check (by
     decide +kernel)⟩⟩

theorem WindowTransactions_met :
    (∃ (t : Nat) (count : Nat) (bytes : List Nat) (e : Ending) (c : Instr) (s : State), s.m.alive = true ∧ (s.m.at
      t).h2wBusy = true ∧ (c = .h2wWriteTransaction t bytes e ∨ c = .h2wReadTransaction t count)) ∧
    (∃ (t : Nat) (s : State), s.m.alive = true ∧ (s.m.at t).h2wBusy = false) ∧
    (∃ (t : Nat) (ofs : Nat) (s : State), s.m.alive = true ∧ (s.m.at t).h2wBusy = false ∧ requestPage s.m.h2w.page = true ∧
      s.m.h2w.xstate ≠ 1 ∧ ofs < 255) ∧
    (∃ (t : Nat) (s : State), s.m.alive = true ∧ (s.m.at t).h2wBusy = false) ∧
    (∃ (t : Nat) (lo : Nat) (hi : Nat) (s : State), s.m.alive = true ∧ (s.m.at t).h2wBusy = false ∧ s.m.h2w.page = 0 ∧ lo <
      256 ∧ hi < 256) ∧
    (∃ (t : Nat) (count : Nat) (s : State), s.m.alive = true ∧ (s.m.at t).h2wBusy = false ∧ 0 < count) :=
  ⟨⟨0, 1, [1, 2], .stop, .h2wReadTransaction 0 1, up [(E.Q_HIGH, 20, 1)], by decide +kernel⟩,
   ⟨0, window [], by decide +kernel⟩,
   ⟨0, 254, (window []).mm fun m => { m with h2w := { m.h2w with page := 0x10 } }, by decide +kernel⟩,
   ⟨0, window [], by decide +kernel⟩,
   ⟨0, 255, 255, (window []).mm fun m => { m with h2w := { m.h2w with page := 0 } }, by decide +kernel⟩,
   ⟨0, 1, window [], by decide +kernel⟩⟩

theorem WindowRequests_met :
    (∃ (t : Nat) (s : State), s.m.alive = true ∧ (s.m.at t).h2wBusy = false ∧ s.m.mayGo = true) ∧
    (∃ (t : Nat) (s : State), s.m.alive = true ∧ (s.m.at t).h2wBusy = false ∧ s.m.mayGo = true ∧ s.m.h2wRequest.op = 4 ∧
      Admitted (s.m.at t, s.srv) s.m.h2wRequest ∧ s.srv.stage ≠ [] ∧ s.srv.owner = some h2wRequester) ∧
    (∃ (b : List Nat) (rest : List (List Nat)) (s : State), s.m.alive = true ∧ s.m.h2w.xstate = 1 ∧ s.m.h2w.waiting = b ::
      rest) ∧
    (∃ (t : Nat) (s : State), s.m.alive = true ∧ (s.m.at t).h2wBusy = false ∧ s.m.h2w.xstate = 2) ∧
    (∃ (t : Nat) (s : State), s.m.alive = true ∧ (s.m.at t).h2wBusy = false) ∧
    (∃ (s : State), s.m.alive = true ∧ s.m.h2w.pulled = true) ∧
    (∃ (s : State), s.m.alive = true) :=
  ⟨⟨0, (window [4, 0, 0, 0, 0, 0, 0, 0, 5, 0, 0, 0, 7]).ses, by decide +kernel⟩,
   ⟨0, (window [4, 0, 0, 0, 0, 0, 0, 0, 5, 0, 0, 0, 7]).ses.staged h2wRequester, by decide +kernel, by decide +kernel, by
     decide +kernel, by decide +kernel, Admitted.of_check (by decide +kernel), by decide +kernel⟩,
   ⟨[1], [], (window []).mm fun m => { m with h2w := { m.h2w with xstate := 1, waiting := [[1]] } }, by decide +kernel⟩,
   ⟨0, (window []).mm fun m => { m with h2w := { m.h2w with xstate := 2 } }, by decide +kernel⟩,
   ⟨0, up [], by decide +kernel⟩,
   ⟨(window []).mm fun m => { m with h2w := { m.h2w with pulled := true } }, by decide +kernel⟩,
   ⟨up [], by decide +kernel⟩⟩

theorem BatteryBus_met :
    (∃ (t u : Nat) (c : Instr) (s : State), s.m.alive = true ∧ u < 2 ∧ c = .sdaTimeout t (u + 1)) ∧
    (∃ (t : Nat) (u : Nat) (s : State), s.m.alive = true ∧ (s.m.at t).b2wReady u = true ∧ (s.m.b2wOf u).lastPoll = none) ∧
    (∃ (t : Nat) (u : Nat) (last : Nat) (s : State), s.m.alive = true ∧ (s.m.at t).b2wReady u = true ∧ (s.m.b2wOf
      u).lastPoll = some last ∧ last + ms 10 ≤ (s.m.at t).tb) ∧
    (∃ (u : Nat) (w : Nat) (x : BmsBlock) (s : State), s.m.alive = true ∧ u < 2 ∧ (s.m.b2wOf u).running = true ∧ s.m.n
      E.BMS_SRC 0 = u + 1 ∧ x.nack = false ∧ (s.m.b E.B2W_PEC u = true → x.pecOk = true) ∧ x.stretch = false ∧ x.tmo = false
      ∧ x.count = 12 ∧ x.words = [0xFFFF, 0xFFFF, 0xFFFF, 0xFFFF, w, 0xFFFF] ∧ w ≤ 10000) ∧
    (∃ (u : Nat) (x : BmsBlock) (s : State), s.m.alive = true ∧ u < 2 ∧ (s.m.b2wOf u).running = true ∧ (x.nack = true ∨
      (s.m.b E.B2W_PEC u = true ∧ x.pecOk = false) ∨ x.stretch = true ∨ x.tmo = true ∨ x.count ≠ 12)) ∧
    (∃ (t : Nat) (u : Nat) (s : State), s.m.alive = true ∧ (s.m.at t).due (.b2wRetry u) = true ∧ s.m.n E.BMS_SRC 0 = u + 1) ∧
    (∃ (u : Nat) (s : State), s.m.alive = true ∧ u < 2 ∧ (s.m.b2wOf u).running = true ∧ (s.m.b2wOf u).arbTries < 3) ∧
    (∃ (u : Nat) (s : State), s.m.alive = true ∧ u < 2 ∧ (s.m.b2wOf u).running = true) :=
  ⟨⟨0, 1, .sdaTimeout 0 2, up [], by decide +kernel⟩,
   ⟨0, 1, up [(E.BMS_SRC, 0, 2)], by decide +kernel⟩,
   ⟨0, 1, 3, (up [(E.BMS_SRC, 0, 2)]).mm fun m => { m with b2w := [{}, { lastPoll := some 3 }] }, by decide +kernel⟩,
   ⟨1, 10000, block [0xFFFF, 0xFFFF, 0xFFFF, 0xFFFF, 10000, 0xFFFF] 12, busy, by decide +kernel⟩,
   ⟨1, block [] 13, busy, by decide +kernel⟩,
   ⟨0, 1, (up [(E.BMS_SRC, 0, 2)]).tmr (.b2wRetry 1), by decide +kernel⟩,
   ⟨1, busy, by decide +kernel⟩,
   ⟨1, busy, by decide +kernel⟩⟩

theorem CanPorts_met :
    (∃ (t : Nat) (who : Nat) (f : CanFrame) (s : State), s.m.alive = true ∧ s.m.canAsker f = some who ∧ (canReq f who).op =
      4 ∧ Admitted (s.m.at t, s.srv) (canReq f who) ∧ s.srv.stage ≠ [] ∧ s.srv.owner = some who) ∧
    (∃ (t : Nat) (u : Nat) (s : State), s.m.alive = true ∧ u < 2 ∧ (s.m.at t).statusDue u = true ∧ s.m.n E.CAN_STATE u ≠ 2) ∧
    (∃ (i : Nat) (raw : Rat) (f : CanFrame) (s : State), s.m.alive = true ∧ i < 32 ∧ s.m.canOn f.bus = true ∧ s.m.canCompact
      f = false ∧ (∀ k, k < 32 → k ≠ i → s.m.b E.MAP_EN k = false) ∧ s.m.mapMatches f i = true ∧ s.m.n E.MAP_OFS i +
      mapLength (s.m.n E.MAP_FMT i) ≤ f.data.length ∧ mapRaw (s.m.n E.MAP_FMT i) ((f.data.drop (s.m.n E.MAP_OFS i)).take
      (mapLength (s.m.n E.MAP_FMT i))) = some raw ∧ s.m.mapTarget i = some (E.BMS_SOC, 0) ∧ s.m.n E.BMS_SRC 0 = 3 ∧
      E.BMS_SOC.inRange (.num (f32OfRat (s.m.mapValue i raw))) = true) ∧
    (∃ (t : Nat) (i : Nat) (s : State), s.m.alive = true ∧ i < 32 ∧ (s.m.at t).due (.mapStale i) = true ∧ s.m.b E.MAP_EN i =
      true) ∧
    (∃ (u : Nat) (s : State), s.m.alive = true ∧ s.m.canOn u = true) ∧
    (∃ (u : Nat) (s : State), s.m.alive = true ∧ u < 2 ∧ s.m.n E.CAN_STATE u = 2) ∧
    (∃ (u : Nat) (s : State), s.m.alive = true ∧ s.m.canOn u = true) :=
  ⟨⟨0, 0x4203, compact, ((can []).ses).staged 0x4203, by decide +kernel, by decide +kernel, by decide +kernel,
  Admitted.of_check (by decide +kernel), by decide +kernel⟩,
   ⟨0, 1, can [(E.BMS_SRC, 0, 3)], by decide +kernel⟩,
   ⟨31, 50, mapped, can [(E.MAP_EN, 31, 1),(E.MAP_ID, 31, 0x123),(E.MAP_MASK, 31, 0x7ff),(E.MAP_BUS, 31, 1),(E.MAP_OFS, 31,
     4),(E.MAP_FMT, 31, 1),(E.BMS_SRC, 0, 3),(E.MAP_TARGET, 31, E.BMS_SOC.base + 65536 * E.BMS_SOC.sub),(E.MAP_SCALE, 31,
     f32OfRat 1),(E.MAP_OFFSET, 31, 0)], by decide +kernel⟩,
   ⟨0, 31, (up [(E.MAP_EN, 31, 1)]).tmr (.mapStale 31), by decide +kernel⟩,
   ⟨1, can [], by decide +kernel⟩,
   ⟨1, can [(E.CAN_STATE, 1, 2)], by decide +kernel⟩,
   ⟨1, can [], by decide +kernel⟩⟩

theorem ModeTickCompletes_met :
    ∃ (t : Nat) (x : TickIn) (s : State), s.m.alive = true ∧ (s.m.at t).beyond x = none :=
  ⟨0, noTick, up [], by decide +kernel⟩

theorem ModeTickResolves_met :
    (∃ (t : Nat) (x : TickIn) (s : State), s.m.alive = true ∧ (s.m.at t).beyond x = none ∧ s.srv.commit = none) ∧
    (∃ (t : Nat) (x : TickIn) (s : State), s.m.alive = true ∧ (s.m.at t).beyond x = none ∧ s.srv.commit = none ∧ x.complete
      = false) :=
  ⟨⟨0, noTick, up [], by decide +kernel⟩,
   ⟨0, { noTick with complete := false }, up [], by decide +kernel⟩⟩

theorem RequestWrites_met :
    (∃ (t : Nat) (r : Req) (v : Val) (s : State), s.m.alive = true ∧ Takes (s.m.at t, s.srv) r E.ENV_REQ 0 v) ∧
    (∃ (t : Nat) (r : Req) (v : Val) (s : State), s.m.alive = true ∧ Takes (s.m.at t, s.srv) r E.COUPLING_REQ 0 v) ∧
    (∃ (t : Nat) (r : Req) (v : Val) (s : State), s.m.alive = true ∧ Takes (s.m.at t, s.srv) r E.POWER_REQ 0 v) ∧
    (∃ (t : Nat) (i : Nat) (f : Fam) (r : Req) (v : Val) (c : Instr) (s : State), s.m.alive = true ∧ Takes (s.m.at t, s.srv)
      r f i v ∧ ((c = .sysVsetWrite t r ∧ f = E.SYS_VSET) ∨ (c = .srcPolicyWrite t r ∧ f = E.SRC_POLICY) ∨ (c =
      .manSlackWrite t r ∧ f = E.MAN_SLACK) ∨ (c = .loopPresetWrite t r ∧ f = E.LOOP_PRESET))) :=
  ⟨⟨0, wr E.ENV_REQ 0 1, wv E.ENV_REQ 0 1, (up []).ses, by decide +kernel, Takes.of_check (by decide +kernel)⟩,
   ⟨0, wr E.COUPLING_REQ 0 0, wv E.COUPLING_REQ 0 0, (up []).ses, by decide +kernel, Takes.of_check (by decide +kernel)⟩,
   ⟨0, wr E.POWER_REQ 0 1, wv E.POWER_REQ 0 1, (up [(E.WAKE_EN, 0, 1)]).ses, by decide +kernel, Takes.of_check (by
     decide +kernel)⟩,
   ⟨0, 0, E.SRC_POLICY, wr E.SRC_POLICY 0 1, wv E.SRC_POLICY 0 1, .srcPolicyWrite 0 (wr E.SRC_POLICY 0 1), (up []).ses, by
     decide +kernel, Takes.of_check (by decide +kernel), by decide +kernel⟩⟩

theorem WhatIsNotInTheDictionary_met :
    (∃ (t : Nat) (r : Req) (s : State), s.m.alive = true ∧ Admitted (s.m.at t, s.srv) r ∧ r.op = 2 ∧ findEntry r.index r.sub
      families = none ∧ (r.sub ≠ 0 ∨ indexExists r.index = false)) ∧
    (∃ (t : Nat) (r : Req) (s : State), s.m.alive = true ∧ Admitted (s.m.at t, s.srv) r ∧ r.op = 1 ∧ findEntry r.index r.sub
      families = none ∧ (r.sub ≠ 0 ∨ indexExists r.index = false)) ∧
    (∃ (t : Nat) (r : Req) (s : State), s.m.alive = true ∧ Admitted (s.m.at t, s.srv) r ∧ r.op = 1 ∧ r.sub = 0 ∧ indexExists
      r.index = true ∧ (r.ty = 0 ∨ r.ty = 2) ∧ r.len = 0 ∧ r.data = [] ∧ r.offset = 0) ∧
    (∃ (t : Nat) (r : Req) (s : State), s.m.alive = true ∧ Admitted (s.m.at t, s.srv) r ∧ r.op = 2 ∧ r.sub = 0 ∧ indexExists
      r.index = true ∧ r.ty = 2 ∧ r.len = 1 ∧ r.data.length = 1 ∧ r.offset = 0 ∧ r.more = false) ∧
    (∃ (index : Nat) (f : Fam), f ∈ families ∧ (f.inst index).isSome = true) ∧
    (∃ (t : Nat) (length : Nat) (r : Req) (s : State), s.m.alive = true ∧ s.m.usb.attached = true ∧ s.m.n E.USB_DATA_ROLE 0
      = 0 ∧ 20 ≤ length ∧ length ≤ 1044 ∧ (r.op = 0 ∨ 4 < r.op) ∧ Admitted (s.m.at t, s.srv)
      { r with requester := usbRequester, transport := .usb, data := r.data.take (length - 20) }) :=
  ⟨⟨0, { wr E.SRC_POLICY 0 1 with sub := 0xF0 }, (up []).ses, by decide +kernel, Admitted.of_check (by decide +kernel), by
  decide +kernel⟩,
   ⟨0, { rd E.SRC_POLICY 0 with index := 0x0FFF }, (up []).ses, by decide +kernel, Admitted.of_check (by decide +kernel), by
     decide +kernel⟩,
   ⟨0, { rd E.SRC_POLICY 0 with sub := 0 }, (up []).ses, by decide +kernel, Admitted.of_check (by decide +kernel), by
     decide +kernel⟩,
   ⟨0, { wr E.SRC_POLICY 0 1 with sub := 0, ty := 2, len := 1, data := [1] }, (up []).ses, by decide +kernel,
     Admitted.of_check (by decide +kernel), by decide +kernel⟩,
   ⟨0x2000, E.ENV_REQ, by decide +kernel⟩,
   ⟨0, 1044, { rd E.EPOCH 0 with op := 9 }, hosted, by decide +kernel, by decide +kernel, by decide +kernel, by
     decide +kernel, by decide +kernel, by decide +kernel, Admitted.of_check (by decide +kernel)⟩⟩

/-! ## An ill-formed command for each check -/

theorem test_wf_request : (Instr.odWrite 0 (wr E.SRC_POLICY 0 1)).wf = true := by decide +kernel
theorem test_wf_request_refuses :
    [{ rd E.EPOCH 0 with op := 256 }, { rd E.EPOCH 0 with index := 65536 }, { rd E.EPOCH 0 with sub := 256 },
     { rd E.EPOCH 0 with ty := 256 }, { rd E.EPOCH 0 with len := 65536 }, { rd E.EPOCH 0 with epoch := 2 ^ 32 },
     { rd E.EPOCH 0 with seq := 65536 }, { rd E.EPOCH 0 with offset := 2 ^ 32 }, { rd E.EPOCH 0 with requester := 65536 },
     { rd E.EPOCH 0 with data := List.replicate 1025 0 }, { rd E.EPOCH 0 with data := [256] }].all
      (fun r => !(Instr.odRead 0 r).wf) = true := by decide +kernel
theorem test_wf_accepted_request_refuses : (Instr.profStart 0 (.accept { rd E.EPOCH 0 with op := 256 })).wf = false := by
  decide +kernel
theorem test_wf_tick_refuses :
    [{ noTick with smp := [[]] }, { noTick with hs := [] }, { noTick with sw := [] },
     { noTick with temp := [] }].all (fun x => !(Instr.modeTick 0 x).wf) = true := by decide +kernel
theorem test_wf_loop_refuses :
    (Instr.voltageLoopPeriod 0 { noLoop with vIn := [1] }).wf = false ∧
    [{ noSw with iPh := [] }, { noSw with v1 := [] }, { noSw with v2 := [] }].all (fun x => !(Instr.switchingPeriod 0 .a x).wf) = true := by
  decide +kernel
theorem test_wf_header_refuses :
    [{ hd 0x37 with cls := 8 }, { hd 0x37 with typ := 256 }, { hd 0x37 with ver := 16 }, { hd 0x37 with src := 65536 },
     { hd 0x37 with dst := 65536 }, { hd 0x37 with hops := 256 }, { hd 0x37 with gen := 65536 }, { hd 0x37 with seq := 65536 },
     { hd 0x37 with epochLo := 65536 }].all (fun h => !(Instr.imdGrantRx 0 h 4 131).wf) = true := by decide +kernel
theorem test_wf_bus_refuses :
    [{ compact with bus := 2 }, { compact with data := List.replicate 65 0 }, { compact with data := [256] }].all
      (fun f => !(Instr.canRequest 0 f).wf) = true ∧
    (Instr.bat2wBlockReadDone 0 0 (block [1] 12)).wf = false ∧
    (Instr.bat2wBlockReadDone 0 0 (block [1, 2, 3, 4, 5, 65536] 12)).wf = false ∧
    (Instr.h2wWriteTransaction 0 [256] .stop).wf = false ∧ (Instr.h2wPageSelect 0 256).wf = false := by decide +kernel
theorem test_wf_numbers_refuses :
    [Instr.qualWindowEnter 0 5 0, .reverseCurrentFault 0 4 0, .pilotOpen 0 8, .adaptPeriodExpiry 0 4, .peakComparator 0 16,
     .shedTExpiry 0 .a 4, .phaseFault 0 0 4, .phaseFault 0 0 0, .stepExit 0 4, .stepExit 0 0, .fastTrip 0 8 0, .channelSaturated 0 16,
     .telWindowEnd 0 2 [] [] [], .telWindowEnd 0 0 [[]] [] [], .cableResult 0 4 cable, .cableResult 0 0 cable, .linkUp 0 4, .creditRx 0 0 (hd 4) [1], .cmpMatch 0 32,
     .faultRaise 0 16 0 true 0, .faultRaise 0 0 16 true 0, .discoverModes 0 65536, .sessionIdleTimeout 0 65536, .lockoutExpiry 0 4,
     .sclTimeout 0 3, .bat2wPoll 0 2, .mapStale 0 32, .wakeEvent (.net 4) false,
     .intentRx 0 { seg := 4, orig := 1, num := 2, tArr := 0, conf := 256, entries := [] }, .intentAllocate 0 (hd 0x10) { coming 0 with conf := 256 }].all
      (fun i => !i.wf) = true := by decide +kernel

/-! ## One command at a time -/

/-- The command leaves the module in a state of which `p` holds. -/
def shows (i : Instr) (s : State) (p : Mod → Bool) : Bool :=
  match exec i s with
  | .next s' => p s'.m
  | _ => false

/-- R112: the link below 60 V stops the module. -/
theorem test_link_discharged : shows (.ssLinkDischarged 0 59) (up [(E.SS_STATE, 0, 3)]) (fun m => m.n E.SS_STATE 0 == 4) = true := by
  decide +kernel
theorem test_link_still_charged : shows (.ssLinkDischarged 0 60) (up [(E.SS_STATE, 0, 3)]) (fun m => m.n E.SS_STATE 0 == 3) = true := by
  decide +kernel

/-- R123: the third failed precharge locks the port out. -/
theorem test_precharge_third :
    shows (.prechargeTimeout 0 1) ((up [(E.QUAL_STATE, 1, 4), (E.QUAL_PREFAIL, 1, 2)]).tmr (.precharge 1))
      (fun m => m.n E.QUAL_STATE 1 == 7 && m.n E.QUAL_PREFAIL 1 == 3) = true := by decide +kernel
theorem test_precharge_first :
    shows (.prechargeTimeout 0 1) ((up [(E.QUAL_STATE, 1, 4)]).tmr (.precharge 1))
      (fun m => m.n E.QUAL_STATE 1 == 1 && m.n E.QUAL_PREFAIL 1 == 1) = true := by decide +kernel

/-- R296: ESTOP holds the gates off and drops CONT. -/
theorem test_estop_open :
    shows (.estopOpen 0) ((up [(E.ESTOP_EN, 0, 1)]).mm fun m => { m with safe := { m.safe with contOn := true } })
      (fun m => m.bitOf E.SAFE_FORCE_SRC 0 0 && m.gated 0 && m.gated 1 && m.n E.ESTOP_STATE 0 == 1) = true := by decide +kernel

/-- R291: an overtemperature of a switch trips its port with cause 5, at more than 150 °C. -/
theorem test_overtemp_trips :
    shows (.switchOvertemp 0 7 151) (up []) (fun m => m.n E.PROT_STATE 7 == 2 && m.n E.PROT_CAUSE 7 == 5 && m.n E.TRIP_CNT 7 == 1) = true := by
  decide +kernel
theorem test_overtemp_at_limit : shows (.switchOvertemp 0 7 150) (up []) (fun m => m.n E.PROT_STATE 7 == 0) = true := by decide +kernel

/-- R321: a level crossed while the pre-trigger part fills freezes a short capture. -/
theorem test_trigger_in_arming :
    shows (.captureTrigger 0 { before := List.replicate 16 100, now := List.replicate 16 900, tSample := 1000000000 })
      (up [(E.CAP_STATE, 0, 1), (E.CAP_TRIG_SRC, 0, 2), (E.CAP_LVL_CH, 0, 10), (E.CAP_LVL_HI, 0, 0x43960000)])
      (fun m => m.n E.CAP_STATE 0 == 3 && m.bitOf E.CAP_FLAGS 0 0 && m.n E.CAP_TRIG_CAUSE 0 == 2) = true := by decide +kernel

/-- R301: a module that no longer injects reports no insulation resistance. -/
theorem test_imd_conflict_stops :
    shows (.imdConflict 0) (up [(E.IMD_ROLE, 0, 1), (E.IMD_RISO, 0, 0x43960000)])
      (fun m => m.n E.IMD_ROLE 0 == 3 && m.n E.IMD_RISO 0 == 0) = true := by decide +kernel

/-- R377, R407: a READ of EPOCH (U32) is answered with its four bytes, least first. -/
theorem test_read_epoch :
    shows (.odRead 0 (rd E.EPOCH 0)) (up []).ses (fun m => m.out.any (fun o =>
      match o with | .resp a => a.status == 0 && a.data == [5, 0, 0, 0] | _ => false)) = true := by decide +kernel

/-- R409: a READ of an index that is not listed is answered NO_ENTRY, of a subindex that is not, NO_SUBINDEX. -/
theorem test_read_nothing :
    shows (.odRead 0 { rd E.EPOCH 0 with index := 0x0FFF }) (up []).ses (fun m => m.out.any (fun o =>
      match o with | .resp a => a.status == 0x10 | _ => false)) = true := by decide +kernel
theorem test_read_no_subindex :
    shows (.odRead 0 { rd E.EPOCH 0 with sub := 0xF0 }) (up []).ses (fun m => m.out.any (fun o =>
      match o with | .resp a => a.status == 0x11 | _ => false)) = true := by decide +kernel

/-- R396, R515: a start from the power-on reset tells cause 1 and epoch 1. -/
theorem test_start_up :
    shows (.startUp 0 true noBoot) State.reset (fun m => m.phase == .running && m.n E.RST_CAUSE 0 == 1 && m.n E.EPOCH 0 == 1) = true := by
  decide +kernel

/-- R463: a block's fifth word is the state of charge, in units of 0.01 %. -/
theorem test_bms_block :
    shows (.bat2wBlockReadDone 0 1 (block [0xFFFF, 0xFFFF, 0xFFFF, 0xFFFF, 5000, 0xFFFF] 12)) busy
      (fun m => m.n E.BMS_SOC 0 == f32OfRat 50) = true := by decide +kernel

/-- R439: Discover SVIDs is answered with the module's one SVID. -/
theorem test_discover_svids :
    shows (.discoverSvids 0) (plugged []) (fun m => m.out.contains (.pd "Discover_SVIDs_ACK" [0x3A71, 0])) = true := by decide +kernel

/-- The front command runs, and those behind it wait. -/
theorem test_step_takes_front :
    (match step { up [] with pending := [.bor, .por] } with | .next s => s.pending == [.por] && s.m.rst == some 2 | _ => false) = true := by
  decide +kernel

end Sys2Proof.Tests
end

section
/-! PROOF. What serving a request changes of the dictionary. A request that names no entry keeps to `serviceKeys` on every transport,
as long as every frame that waits for a transmitter has one of R345's classes: the answer to a Zwinglink request brings its link to
serve what waits there (R365), and what is served leaves by its class's queue, whose marks follow (R405). -/

namespace Sys2Proof.Machine

open Sys2Proof

/-- Every frame that waits for a transmitter has one of the classes 0 to 7 (R345). -/
def Mod.HeldClassed (m : Mod) : Prop := ∀ f ∈ m.net.held, f.cls < 8

/-! ## The places of `serviceKeys` -/

theorem not_mem_serviceKeys {k : Nat} (h : k ∉ serviceKeys) :
    k ∉ E.Q_FILL.keys ∧ k ∉ E.Q_MAX.keys ∧ k ∉ E.Q_HIGH.keys ∧ k ∉ E.Q_HWM_CNT.keys ∧ k ∉ E.REC_EARLY.keys ∧
      k ∉ E.CLS_TX.keys ∧ k ∉ E.KPR_SEEN.keys := by
  simpa only [serviceKeys, List.mem_append, not_or] using h

theorem recEarly_service : E.REC_EARLY.keys ⊆ serviceKeys := fun k h => by
  simp only [serviceKeys, List.mem_append, h, true_or, or_true]

theorem clsTx_service : E.CLS_TX.keys ⊆ serviceKeys := fun k h => by
  simp only [serviceKeys, List.mem_append, h, true_or, or_true]

theorem kprSeen_service : E.KPR_SEEN.keys ⊆ serviceKeys := fun k h => by
  simp only [serviceKeys, List.mem_append, h, or_true]

/-- A change of an entry whose places are all among `ks` keeps to them. -/
theorem SameOd.setV {ks : List Nat} (m : Mod) {f : Fam} (i : Nat) (v : Val) (hf : f.keys ⊆ ks) : SameOd ks m (m.setV f i v) :=
  fun _ hk => m.odGet_setV_keys f i v fun h => hk (hf h)

/-- Two modules with one dictionary keep to the same places. -/
theorem SameOd.of_od {ks : List Nat} {m x y : Mod} (h : SameOd ks m x) (e : y.od = x.od) : SameOd ks m y :=
  fun k hk => e ▸ h k hk

theorem SameOd.emit {ks : List Nat} {m x : Mod} (h : SameOd ks m x) (o : Out) : SameOd ks m (x.emit o) := h

/-- The dictionary outside `serviceKeys` and all that the network keeps are unchanged. -/
def Serviced (m m' : Mod) : Prop := SameOd serviceKeys m m' ∧ m'.net = m.net

theorem Serviced.refl (m : Mod) : Serviced m m := ⟨.refl _ m, rfl⟩

theorem Serviced.trans {a b c : Mod} (h : Serviced a b) (g : Serviced b c) : Serviced a c := ⟨h.1.trans g.1, g.2.trans h.2⟩

theorem Serviced.heldClassed {m m' : Mod} (h : Serviced m m') (hm : m.HeldClassed) : m'.HeldClassed :=
  fun f hf => hm f (h.2 ▸ hf)

/-! ## Queues -/

theorem Mod.fillMarks_net (m : Mod) (q : Nat) (f : Rat) : (m.fillMarks q f).net = m.net := by
  have clear : ∀ m : Mod, (m.setB E.Q_HIGH q false).net = m.net := fun _ => rfl
  have raise : ∀ m : Mod, ((m.setB E.Q_HIGH q true).inc E.Q_HWM_CNT q).net = m.net := fun _ => rfl
  have most : ∀ m : Mod, (m.setQ E.Q_MAX q f).net = m.net := fun _ => rfl
  unfold Mod.fillMarks
  rw [Mod.when_keeps Mod.net _ clear, Mod.when_keeps Mod.net _ raise, Mod.when_keeps Mod.net _ most]
  rfl

/-- The marks of every queue but the event log's are among `serviceKeys`. -/
theorem Mod.queueMarks_service (m : Mod) {q : Nat} (h : q < 32) (hq : q ≠ 26) : Serviced m (m.queueMarks q) := by
  rw [Mod.queueMarks, if_neg hq]
  refine ⟨fun k hk => ?_, m.fillMarks_net q _⟩
  obtain ⟨fill, most, high, count, -⟩ := not_mem_serviceKeys hk
  have key_ne : ∀ {f : Fam}, k ∉ f.keys → f.count = 32 → k ≠ f.key q := fun hf hc e => hf (e ▸ Fam.mem_keys (hc ▸ h))
  exact m.fillMarks_od q _ (key_ne fill rfl) (key_ne most rfl) (key_ne high rfl) (key_ne count rfl)

theorem Mod.enqueue_service (m : Mod) {q : Nat} (bytes peer seq : Nat) (h : q < 32) (hq : q ≠ 26) :
    Serviced m (m.enqueue q bytes peer seq) :=
  Mod.queueMarks_service _ h hq

theorem Mod.dequeue_service (m : Mod) {q : Nat} (h : q < 32) (hq : q ≠ 26) : Serviced m (m.dequeue q) :=
  Mod.queueMarks_service _ h hq

theorem Mod.through_service (m : Mod) {q : Nat} (bytes peer seq : Nat) (h : q < 32) (hq : q ≠ 26) :
    Serviced m (m.through q bytes peer seq) :=
  (m.enqueue_service bytes peer seq h hq).trans (Mod.dequeue_service _ h hq)

/-! ## The transmitter of a link -/

/-- The deficit round robin changes no entry and no waiting frame, and picks one of those. -/
theorem Mod.drrPick_keeps (k n : Nat) (m : Mod) :
    (Mod.drrPick k n m).1.od = m.od ∧ (Mod.drrPick k n m).1.net.held = m.net.held ∧
      ∀ f, (Mod.drrPick k n m).2 = some f → f ∈ m.net.held := by
  induction n generalizing m with
  | zero => simp [Mod.drrPick]
  | succ n ih =>
    have pick_mem : ∀ {c : Nat} {f : HeldF}, m.firstOn k c = some f → f ∈ m.net.held := fun h =>
      (List.mem_filter.1 (List.mem_of_find?_eq_some h)).1
    rw [Mod.drrPick]
    split
    · rename_i f hf
      split
      · exact ⟨rfl, rfl, fun g hg => Option.some.inj hg ▸ pick_mem hf⟩
      · exact ih _
    · exact ih _

theorem Mod.useCredit_keeps (m : Mod) (cls credits : Nat) (o : Out) :
    (m.useCredit cls credits o).od = m.od ∧ (m.useCredit cls credits o).net.held = m.net.held := by
  unfold Mod.useCredit
  split <;> exact ⟨rfl, rfl⟩

theorem Mod.launch_keeps (m : Mod) (f : HeldF) : (m.launch f).od = m.od ∧ (m.launch f).net.held = m.net.held := by
  unfold Mod.launch
  split
  · exact ⟨rfl, rfl⟩
  · split
    · unfold Mod.freeClass
      split <;> exact m.useCredit_keeps _ _ _
    · exact m.useCredit_keeps _ _ _

/-- A transmitter takes a frame that waits: it leaves its class's queue, where it is the module's own, and goes on the wire. -/
def Mod.takeHeld (m : Mod) (f : HeldF) : Mod :=
  let x : Mod := { m with net := { m.net with held := m.net.held.erase f } }
  (if f.via.isNone then x.dequeue f.cls else x).launch f

theorem Mod.takeHeld_service (m : Mod) (f : HeldF) (hf : f.cls < 8) :
    SameOd serviceKeys m (m.takeHeld f) ∧ (m.takeHeld f).net.held = m.net.held.erase f := by
  have left : ∀ x : Mod, Serviced x (if f.via.isNone then x.dequeue f.cls else x) := by
    intro x
    split
    · exact x.dequeue_service (by omega) (by omega)
    · exact .refl x
  obtain ⟨od, net⟩ := left { m with net := { m.net with held := m.net.held.erase f } }
  obtain ⟨launched, held⟩ := Mod.launch_keeps _ f
  exact ⟨fun k hk => od.of_od launched k hk, held.trans (congrArg Net.held net)⟩

/-- A transmitter that serves what waits for it touches the marks of the queues of R345's classes alone. -/
theorem Mod.serveLink_service (k n : Nat) (m : Mod) (hm : m.HeldClassed) :
    SameOd serviceKeys m (Mod.serveLink k n m) ∧ (Mod.serveLink k n m).HeldClassed := by
  induction n generalizing m with
  | zero => exact ⟨.refl _ m, hm⟩
  | succ n ih =>
    obtain ⟨od, held, picked⟩ := Mod.drrPick_keeps k 40 m
    rw [Mod.serveLink]
    split
    · split
      · rename_i p f hp
        rw [hp] at od held picked
        change SameOd serviceKeys m (Mod.serveLink k n (p.takeHeld f)) ∧ (Mod.serveLink k n (p.takeHeld f)).HeldClassed
        obtain ⟨taken, left⟩ := p.takeHeld_service f (hm f (picked f rfl))
        obtain ⟨rest, restHeld⟩ := ih (p.takeHeld f) fun g hg => hm g (held ▸ List.mem_of_mem_erase (left ▸ hg))
        exact ⟨(SameOd.of_od (.refl _ m) od).trans (taken.trans rest), restHeld⟩
      · rename_i p hp
        rw [hp] at od held
        exact ⟨SameOd.of_od (.refl _ m) od, fun f hf => hm f (held ▸ hf)⟩
    · exact ⟨.refl _ m, hm⟩

/-! ## A response (R384, R385) -/

/-- A frame of class 3 to 7 leaves at once or waits in its class's queue. -/
theorem Mod.launchOrHold_service (m : Mod) (f : HeldF) {bytes : Nat} (hf : f.cls < 8) :
    SameOd serviceKeys m (if m.mayLaunch f then m.launch f
      else { m.enqueue f.cls bytes 0xFFFF 0 with
        net := { (m.enqueue f.cls bytes 0xFFFF 0).net with held := (m.enqueue f.cls bytes 0xFFFF 0).net.held ++ [f] } }) := by
  split
  · exact fun j _ => congrArg (odGet · j) (m.launch_keeps f).1
  · exact (m.enqueue_service bytes 0xFFFF 0 (by omega) (by omega)).1

theorem Mod.sendFrame_service (m : Mod) {cls : Nat} (credits : Nat) (o : Out) (hm : m.HeldClassed) (lo : 2 < cls) (hi : cls < 8) :
    SameOd serviceKeys m (m.sendFrame cls credits o) := by
  rw [Mod.sendFrame, Mod.sendVia, if_neg (by omega)]
  cases m.outLink o with
  | none => exact m.launchOrHold_service _ hi
  | some k => exact (Mod.serveLink_service k _ m hm).1.trans ((m.serveOne k).launchOrHold_service _ hi)

theorem Mod.transmit_service (m : Mod) {cls : Nat} (typ dst : Nat) (content : List Nat) (hm : m.HeldClassed) (lo : 2 < cls)
    (hi : cls < 8) : SameOd serviceKeys m (m.transmit cls typ dst content) := by
  unfold Mod.transmit
  split
  · exact .refl _ m
  · exact (m.sendFrame_service _ _ hm lo hi).trans (.setV _ _ _ clsTx_service)

theorem Mod.canSend_service (m : Mod) (u peer seq : Nat) (f : CanFrame) : SameOd serviceKeys m (m.canSend u peer seq f) := by
  have port : (if u = 0 then 16 else 18) < 32 ∧ (if u = 0 then 16 else 18) ≠ 26 := by split <;> decide
  unfold Mod.canSend
  generalize (if u = 0 then 16 else 18) = q at port
  by_cases off : m.n E.CAN_STATE u = 2
  · by_cases full : m.queueFull q f.data.length = true
    · simpa [off, full] using SameOd.refl serviceKeys m
    · simp only [off, full, if_true]
      exact (m.enqueue_service _ _ _ port.1 port.2).1
  · simp only [off, if_false]
    exact (m.through_service _ _ _ port.1 port.2).1

/-- A response keeps to `serviceKeys` on every transport. -/
theorem Mod.respond_service (m : Mod) (r : Resp) (hm : m.HeldClassed) : SameOd serviceKeys m (m.respond r) := by
  cases ht : r.transport with
  | engine =>
    simp only [Mod.respond, ht]
    exact (SameOd.refl _ m).emit _
  | host2w =>
    simp only [Mod.respond, ht]
    exact (m.enqueue_service (20 + r.data.length) r.requester r.seq (show 21 < 32 by decide) (by decide)).1.of_od (by dsimp only)
  | usb =>
    simp only [Mod.respond, ht]
    exact (m.through_service (q := 23) _ _ _ (by decide) (by decide)).1.emit _
  | can u =>
    simp only [Mod.respond, ht]
    exact m.canSend_service _ _ _ _
  | zwl =>
    simp only [Mod.respond, ht]
    have through := m.through_service (q := 5) (20 + r.data.length) r.requester r.seq (by decide) (by decide)
    exact through.1.trans (Mod.transmit_service _ _ _ _ (through.heldClassed hm) (by decide) (by decide))

theorem Mod.kprTask_service (m : Mod) (k : Nat) : SameOd serviceKeys m (m.kprTask k) := by
  unfold Mod.kprTask
  split
  · exact .setV _ _ _ kprSeen_service
  · exact .refl _ m

/-! ## The server (R387) -/

theorem finish_service (x : Sys) (a : Asker) (status detail : Nat) (data : List Nat) (eff : Nat) (staged : Bool)
    (hx : x.1.HeldClassed) : SameOd serviceKeys x.1 (finish x a status detail data eff staged).1 :=
  (x.1.respond_service _ hx).trans (Mod.kprTask_service _ 1)

theorem refuse_service (x : Sys) (a : Asker) (status : Nat) (data : List Nat) (detail : Nat) (hx : x.1.HeldClassed) :
    SameOd serviceKeys x.1 (refuse x a status data detail).1 :=
  finish_service x a status detail data 0 false hx

theorem serveCommit_service (x : Sys) (a : Asker) (hx : x.1.HeldClassed) : SameOd serviceKeys x.1 (serveCommit x a).1 := by
  unfold serveCommit
  split
  · exact finish_service x a 0 0 [] 0 false hx
  · split
    · exact refuse_service x a 0x22 _ 0 hx
    · exact (SameOd.refl _ x.1).of_od rfl

theorem serveDiscard_service (x : Sys) (a : Asker) (hx : x.1.HeldClassed) : SameOd serviceKeys x.1 (serveDiscard x a).1 := by
  unfold serveDiscard
  split
  · exact finish_service x a 0 0 [] 0 false hx
  · split
    · exact refuse_service x a 0x22 _ 0 hx
    · exact finish_service (x.1.disarm .stage, _) a 0 0 [] 1 false hx

theorem serveSubZero_service (x : Sys) (a : Asker) (r : Req) (hx : x.1.HeldClassed) :
    SameOd serviceKeys x.1 (serveSubZero x a r).1 := by
  have done : ∀ (a : Asker) (st : Nat) (data : List Nat) (eff : Nat), SameOd serviceKeys x.1 (finish x a st 0 data eff).1 :=
    fun a st data eff => finish_service x a st 0 data eff false hx
  unfold serveSubZero refuse
  split_ifs <;> exact done _ _ _ _

/-- The request is for the stage, for no operation of R383, for a subindex 0, or for what is not in the dictionary. -/
def NamesNoEntry (r : Req) : Prop :=
  r.op = 1 ∨ r.op = 2 → (r.sub = 0 ∧ indexExists r.index = true) ∨ findEntry r.index r.sub families = none

theorem serveEntry_service (rules : Fam → Nat → Rule) (x : Sys) (a : Asker) (r : Req) (hr : NamesNoEntry r)
    (hx : x.1.HeldClassed) : SameOd serviceKeys x.1 (serveEntry rules x a r).1 := by
  unfold serveEntry
  by_cases commit : r.op = 3
  · rw [if_pos commit]
    exact serveCommit_service x a hx
  rw [if_neg commit]
  by_cases discard : r.op = 4
  · rw [if_pos discard]
    exact serveDiscard_service x a hx
  rw [if_neg discard]
  by_cases other : r.op ≠ 1 ∧ r.op ≠ 2
  · rw [if_pos other]
    exact refuse_service x _ _ _ _ hx
  rw [if_neg other]
  by_cases zero : r.sub = 0 ∧ indexExists r.index = true
  · rw [if_pos zero]
    exact serveSubZero_service x a r hx
  have absent : findEntry r.index r.sub families = none := (hr (by omega)).resolve_left zero
  rw [if_neg zero, absent]
  exact refuse_service x _ _ _ _ hx

theorem touchSession_service (x : Sys) (r : Req) : Serviced x.1 (touchSession x r).1 := by
  unfold touchSession
  cases r.transport <;> exact ⟨fun _ _ => rfl, rfl⟩

theorem makeRecord_service (x : Sys) (a : Asker) : Serviced x.1 (makeRecord x a).1 := by
  have early : ∀ c : Bool, Serviced x.1 (x.1.when c (·.inc E.REC_EARLY 0))
    | false => .refl _
    | true => ⟨.setV _ _ _ recEarly_service, rfl⟩
  unfold makeRecord
  split
  · exact .refl _
  · split
    · exact .refl _
    · exact early _

theorem takeIn_service (a : Asker) (r : Req) (x : Sys) : Serviced x.1 (takeIn a r x).1 := by
  have staged : ∀ (m : Mod) (c : Bool), Serviced m (m.when c fun m => m.arm .stage (m.tb + sec (m.n E.STAGE_TMO 0)))
    | _, false => .refl _
    | _, true => ⟨fun _ _ => rfl, rfl⟩
  exact ((makeRecord_service x a).trans (staged _ _)).trans (touchSession_service (_, noteSeq (makeRecord x a).2 r.requester r.seq) r)

theorem reject_service (x : Sys) (r : Req) (status detail : Nat) (data : List Nat) (hx : x.1.HeldClassed) :
    SameOd serviceKeys x.1 (reject x r status detail data).1 :=
  x.1.respond_service _ hx

theorem accept_service (rules : Fam → Nat → Rule) (x : Sys) (r : Req) (hr : NamesNoEntry r) (hx : x.1.HeldClassed) :
    SameOd serviceKeys x.1 (accept rules x r).1 := by
  unfold accept
  split
  · split
    · exact reject_service x r _ _ _ hx
    · have taken := takeIn_service (askerOf r (x.1.n E.EPOCH 0)) r x
      exact taken.1.trans (serveEntry_service rules _ _ r hr (taken.heldClassed hx))
  · have touched := touchSession_service (x.1, noteSeq x.2 r.requester r.seq) r
    exact touched.1.trans (serveEntry_service rules _ _ r hr (touched.heldClassed hx))

/-- Serving a request that names no entry keeps to `serviceKeys`, whatever the answer and its transport, as long as every frame that
waits has a class. -/
theorem serve_service (rules : Fam → Nat → Rule) (r : Req) (x : Sys) (hr : NamesNoEntry r) (hx : x.1.HeldClassed) :
    SameOd serviceKeys x.1 (serve rules r x).1 := by
  have queue : reqQueue r.transport < 32 ∧ reqQueue r.transport ≠ 26 := by
    unfold reqQueue
    split
    case h_3 u => split <;> decide
    all_goals decide
  have through : Serviced x.1 (queued r x).1 := x.1.through_service (20 + r.data.length) r.requester r.seq queue.1 queue.2
  have hq : (queued r x).1.HeldClassed := through.heldClassed hx
  have rejected : ∀ status detail data, SameOd serviceKeys x.1 (reject (queued r x) r status detail data).1 :=
    fun _ _ _ => through.1.trans (reject_service _ r _ _ _ hq)
  have answered : ∀ a : Resp, SameOd serviceKeys x.1 ((queued r x).1.respond a) :=
    fun a => through.1.trans (Mod.respond_service _ a hq)
  have accepted : SameOd serviceKeys x.1 (accept rules (queued r x) r).1 := through.1.trans (accept_service rules _ r hr hq)
  unfold serve
  dsimp only
  split
  · exact x.1.respond_service _ hx
  split
  · exact rejected _ _ _
  split
  · exact rejected _ _ _
  split
  · exact rejected _ _ _
  split
  · exact rejected _ _ _
  split
  · split
    · exact answered _
    · exact rejected _ _ _
  split
  · exact accepted
  split
  · exact accepted
  split
  · exact rejected _ _ _
  split
  · exact through.1
  · exact answered _

/-- OD_READ, OD_WRITE, OD_COMMIT and OD_DISCARD, where they name no entry. -/
theorem DoesS.ownOp_service {i : Instr} {t op : Nat} {r : Req} {s : State} (hi : exec i s = execS t (ownOp op r) s)
    (ha : s.m.alive = true) (hr : NamesNoEntry r) (hm : s.m.HeldClassed) : DoesS i t s fun x y => SameOd serviceKeys x.1 y.1 := by
  refine .intro hi ha ?_
  unfold ownOp
  split
  · exact serve_service ruleOf r _ hr hm
  · exact .refl _ _

/-- After a reset no frame waits. -/
theorem heldClassed_reset : State.reset.m.HeldClassed := fun _ hf => nomatch hf

end Sys2Proof.Machine
end

section
/-! PROOF. The statements of O49 and O60 do not ask that every waiting frame has a class (`Mod.HeldClassed`), and without it their
frames fail. In `turn26` the answer to a Zwinglink request first has its link serve a frame of "class" 26, which leaves by queue 26,
the event log's (R401); the marks of a full Q26 then record an episode of Q_HIGH, for which Q26 gives up a record that Q_DROP counts
(R404, R405), and Q_DROP is not among `serviceKeys`. -/

namespace Sys2Proof.Machine

open Sys2Proof

/-! ## The state -/

/-- A class C record that waits in Q26. -/
def waitingRec : LogRec :=
  { seq := 0, epoch := 5, tb := 0, rtc := 0, kind := 0x0F00, cls := 0, blk := 0xFF, src := 0xFF, flags := 0, merged := 1, dropped := 0,
    index := 0, sub := 0, status := 0xFF, data := [] }

/-- A frame that waits for link 0 with a class that R345 does not have. -/
def class26Frame : HeldF :=
  { cls := 26, credits := 0
    out := .forward 0
      { cls := 26, typ := 0x50, turned := false, ver := 1, src := 0, dst := 0, scope := 0, lant := false, fenced := false,
        relayed := false, hops := 1, gen := 0, seq := 0, len := 0, epochLo := 5, key := none, fcsOk := true, yieldMark := false,
        etherOk := true, bytes := 0, mac := 0 } }

/-- A running module in epoch 5 with link 0 UP in its own ring, where it is the turn of class 26 and a frame of that class waits;
256 records fill Q26. The server holds nothing. -/
def turn26 : State :=
  { m :=
      { od := [(E.EPOCH.key 0, .num 5), (E.LINK_ROLE.key 0, .num 1), (E.LINK_STATE.key 0, .num 3)]
        phase := .running
        net := { links := [{ turn := 26 }], held := [class26Frame] }
        q26 := List.replicate 256 waitingRec }
    srv := {}
    pending := [] }

/-- A request of ring address 9 in epoch 5. -/
def ringReq (op index sub : Nat) : Req :=
  { op := op, index := index, sub := sub, ty := 0, len := 0, epoch := 5, seq := 7, offset := 0, more := false, stagedView := false,
    data := [], requester := 9, transport := .zwl }

/-- Q26's drop count after a command. -/
def dropsAfter : Host.Outcome State Fault Refusal → Option Nat
  | .next s => some (s.m.n E.Q_DROP 26)
  | _ => none

/-! ## What the request's answer changes there -/

theorem turn26_not_heldClassed : ¬ turn26.m.HeldClassed := fun h => absurd (h class26Frame (by decide)) (by decide)

theorem qDrop_not_service : E.Q_DROP.key 26 ∉ serviceKeys := by decide +kernel

/-- A command that keeps to the places of `serviceKeys` leaves Q26's drop count. -/
theorem DoesS.dropsAfter_eq {i : Instr} {t : Nat} {s : State} {P : Sys → Sys → Prop} (h : DoesS i t s P)
    (hP : ∀ y, P (s.m.at t, s.srv) y → SameOd serviceKeys (s.m.at t) y.1) : dropsAfter (exec i s) = some (s.m.n E.Q_DROP 26) := by
  obtain ⟨y, hy, hp⟩ := h
  rw [hy]
  exact congrArg some ((hP y hp).n E.Q_DROP 26 qDrop_not_service)

theorem drops_turn26 : turn26.m.n E.Q_DROP 26 = 0 := by decide +kernel

/-- A command after which Q26 has dropped a record in `turn26` does nothing that keeps to `serviceKeys`. -/
theorem not_doesS_turn26 {i : Instr} {P : Sys → Sys → Prop} (counted : dropsAfter (exec i turn26) = some 1)
    (hP : ∀ y, P (turn26.m.at 0, turn26.srv) y → SameOd serviceKeys (turn26.m.at 0) y.1) : ¬ DoesS i 0 turn26 P := by
  intro h
  rw [h.dropsAfter_eq hP, drops_turn26] at counted
  exact absurd counted (by decide)

end Sys2Proof.Machine

namespace Sys2Proof

open Machine

/-- Refutes O49: a DISCARD on an empty stage that comes by Zwinglink is admitted in `turn26`, and its answer makes Q26 drop a
record, which Q_DROP counts. -/
theorem not_stageOperations : ¬ Obligations.StageOperations := by
  rintro ⟨-, -, onEmpty, -, -⟩
  refine not_doesS_turn26 (i := .odDiscard 0 (ringReq 4 0 0)) (by decide +kernel) ?_
    (onEmpty 0 (ringReq 4 0 0) _ turn26 rfl (.of_check (by decide +kernel)) rfl (.inr ⟨rfl, rfl⟩))
  rintro y ⟨-, -, -, -, -, -, -, kept, -⟩
  exact kept

/-- Refutes O60: a WRITE to index 0FFF, which does not exist, that comes by Zwinglink is admitted in `turn26`, and its answer makes
Q26 drop a record, which Q_DROP counts. -/
theorem not_whatIsNotInTheDictionary : ¬ Obligations.WhatIsNotInTheDictionary := by
  rintro ⟨onWrite, -⟩
  refine not_doesS_turn26 (i := .odWrite 0 (ringReq 2 0x0FFF 1)) (by decide +kernel) ?_
    (onWrite 0 (ringReq 2 0x0FFF 1) turn26 rfl (.of_check (by decide +kernel)) rfl (by decide +kernel) (.inl (by decide)))
  rintro y ⟨-, -, -, -, kept⟩
  exact kept

end Sys2Proof
end

section
/-! PROOF. Statements that fail for the reason that O49 and O60 fail: their frames leave out Q26's drop count (Q_DROP, R404), and do
not ask that every waiting frame has a class (`Mod.HeldClassed`). Where a frame of the module's own leaves by a link whose turn is a
"class" 26, the link first serves the frame of that class, and Q26 gives up a record. -/

-- The kernel evaluates the states below one after another; a thread of its own for each would only wait for it.
set_option Elab.async false

namespace Sys2Proof.Machine

open Sys2Proof

/-- A command that keeps to places that leave out Q26's drop count drops no record. -/
theorem DoesS.not_dropped {ks : List Nat} {i : Instr} {t : Nat} {s : State} {P : Sys → Sys → Prop} (h : DoesS i t s P)
    (kept : ∀ x y, P x y → SameOd ks x.1 y.1) (hk : E.Q_DROP.key 26 ∉ ks)
    (dropped : dropsAfter (exec i s) ≠ some (s.m.n E.Q_DROP 26)) : False := by
  obtain ⟨y, hy, hp⟩ := h
  rw [hy] at dropped
  exact dropped (congrArg some ((kept _ y hp).n E.Q_DROP 26 hk))

/-- The same, of a command that concerns the module alone. -/
theorem DoesM.not_dropped {ks : List Nat} {i : Instr} {t : Nat} {s : State} {P : Mod → Mod → Prop} (h : DoesM i t s P)
    (kept : ∀ m m', P m m' → SameOd ks m m') (hk : E.Q_DROP.key 26 ∉ ks)
    (dropped : dropsAfter (exec i s) ≠ some (s.m.n E.Q_DROP 26)) : False := by
  obtain ⟨m', hm, hp⟩ := h
  rw [hm] at dropped
  exact dropped (congrArg some ((kept _ m' hp).n E.Q_DROP 26 hk))

/-- `turn26` with entries set; requester 9 has a session at L3. -/
def jammed (l : List (Fam × Nat × Nat)) : State :=
  { turn26 with m := l.foldl (fun m x => m.setN x.1 x.2.1 x.2.2) turn26.m, srv := { sessions := [⟨9, 3, 0⟩] } }

/-- A whole WRITE of these bytes by ring address 9. -/
def ringWrite (f : Fam) (i : Nat) (data : List Nat) : Req :=
  { ringReq 2 (f.index i) f.sub with ty := tyCode f.ty, len := data.length, data := data }

/-- The module's own ring key is held. -/
def State.ownKey (s : State) : State := { s with m := { s.m with keys := { s.m.keys with own := some [1, 2] } } }

/-- The summary of a child ring, with a candidate for the injection grant. -/
def childRing : RingSum := { mac := 6, ring := 9, depthBelow := 1, rings := [10], segs := [4], imd := [(4, 140)] }

/-- A frame with the TYPE of a request (R345), for ring address 77. -/
def requestFrame : Hdr :=
  { cls := 4, typ := 0x40, turned := false, ver := 1, src := 9, dst := 77, scope := 0, lant := false, fenced := false,
    relayed := false, hops := 5, gen := 0, seq := 9, len := 40, epochLo := 3, key := some [1, 2], fcsOk := true,
    yieldMark := false, etherOk := true, bytes := 100 }

/-- What the module keeps of the network, changed by `f`. -/
def State.netTo (s : State) (f : Net → Net) : State := { s with m := { s.m with net := f s.m.net } }

/-- A module of `turn26` that leads its ring. -/
def jammedLead : State := (jammed [(E.NET_ROLE, 0, 1)]).ownKey

/-- Ring address 9 owns a stage. -/
def jammedStage : State :=
  { (jammed [(E.NET_ADDR, 0, 77)]).ownKey with
    srv := { sessions := [⟨9, 3, 0⟩], stage := [{ key := E.ENV_BOOT.key 0, val := .num 2, level := 2 }], owner := some 9 } }

end Sys2Proof.Machine

namespace Sys2Proof

open Machine

/-- Refutes O15: STOP is accepted over Zwinglink, and its answer makes Q26 drop a record. -/
theorem not_profileCommands : ¬ Obligations.ProfileCommands := by
  rintro ⟨accepted, -⟩
  exact (accepted 0 2 (ringWrite E.PROF_CMD 0 [2]) _ (.num 2) (jammed [(E.PROF_STATE, 0, 1)]) rfl (.inr (.inl ⟨rfl, rfl⟩))
    (.of_check (by decide +kernel)) rfl).not_dropped
    (fun _ _ ⟨_, _, kept⟩ => kept) (by decide +kernel) (by decide +kernel)

/-- Refutes O20: LINK_WAKE_TX is written over Zwinglink, and its answer makes Q26 drop a record. -/
theorem not_ringRequests : ¬ Obligations.RingRequests := by
  rintro ⟨-, -, -, -, pulse⟩
  exact (pulse 0 3 (ringWrite E.LINK_WAKE_TX 3 [1]) (.num 1) (jammed []) rfl (.of_check (by decide +kernel))).not_dropped
    (fun _ _ ⟨_, _, kept⟩ => kept) (by decide +kernel) (by decide +kernel)

/-- Refutes O28: ILK_OPEN_REQ is written over Zwinglink, and its answer makes Q26 drop a record. -/
theorem not_safetyInputsAndContact : ¬ Obligations.SafetyInputsAndContact := by
  rintro ⟨-, -, -, asked, -⟩
  exact (asked 0 (ringWrite E.ILK_OPEN_REQ 0 [1]) (.num 1) (jammed []) rfl (.of_check (by decide +kernel))).not_dropped
    (fun _ _ ⟨_, _, _, kept⟩ => kept) (by decide +kernel) (by decide +kernel)

/-- Refutes O31: ABORT is written to CAP_CMD over Zwinglink, and its answer makes Q26 drop a record. -/
theorem not_captures : ¬ Obligations.Captures := by
  rintro ⟨-, -, -, abort, -⟩
  exact (abort 0 (ringWrite E.CAP_CMD 0 [4]) (.num 4) (jammed [(E.CAP_STATE, 0, 4)]) rfl (.of_check (by decide +kernel)) rfl).not_dropped
    (fun _ _ ⟨_, _, _, kept⟩ => kept) (by decide +kernel) (by decide +kernel)

/-- Refutes O33: an energy session is opened over Zwinglink, and the answer makes Q26 drop a record. -/
theorem not_energySessions : ¬ Obligations.EnergySessions := by
  rintro ⟨opens, -⟩
  exact (opens 0 (ringWrite E.ESESS_CMD 0 [1]) (.num 1) (jammed []) rfl (.of_check (by decide +kernel)) rfl).not_dropped
    (fun _ _ ⟨kept, _⟩ => kept) (by decide +kernel) (by decide +kernel)

/-- Refutes O40: the secrets are erased over Zwinglink, and the answer makes Q26 drop a record. -/
theorem not_sessionsAndSecrets : ¬ Obligations.SessionsAndSecrets := by
  rintro ⟨-, -, -, -, -, -, -, -, -, erase, -⟩
  exact (erase 0 (ringWrite E.SECRET_ERASE 0 (leBytes 2 58853)) (.num 58853) (jammed []) rfl (.of_check (by decide +kernel))).not_dropped
    (fun _ _ ⟨_, _, _, _, _, _, _, _, _, _, kept⟩ => kept) (by decide +kernel) (by decide +kernel)

/-- Refutes O48: ENV_BOOT is staged over Zwinglink, and the answer makes Q26 drop a record. -/
theorem not_writesStageOrTakeEffect : ¬ Obligations.WritesStageOrTakeEffect := by
  rintro ⟨staged, -⟩
  exact (staged 0 0 E.ENV_BOOT (ringWrite E.ENV_BOOT 0 [10]) (.num 10) (jammed []) rfl (.of_check (by decide +kernel)) rfl (by decide)).not_dropped
    (fun _ _ ⟨_, _, _, _, _, kept, _⟩ => kept) (by decide +kernel) (by decide +kernel)

/-- Refutes O50: RTC is written over Zwinglink, and its answer makes Q26 drop a record. -/
theorem not_journalAndCommits : ¬ Obligations.JournalAndCommits := by
  rintro ⟨-, -, -, -, clock, -⟩
  exact (clock 0 (ringWrite E.RTC 0 (leBytes 8 1)) (.num 1) (jammed []) rfl (.of_check (by decide +kernel))).not_dropped
    (fun _ _ ⟨_, _, _, kept⟩ => kept) (by decide +kernel) (by decide +kernel)

/-- Refutes O51: CMP_MODE is written over Zwinglink, and its answer makes Q26 drop a record. -/
theorem not_timersTransfersAndCompares : ¬ Obligations.TimersTransfersAndCompares := by
  rintro ⟨-, -, -, -, -, mode, -⟩
  exact (mode 0 31 (ringWrite E.CMP_MODE 31 [1]) (.num 1) (jammed []) rfl (.of_check (by decide +kernel))).not_dropped
    (fun _ _ ⟨_, _, _, _, kept⟩ => kept) (by decide +kernel) (by decide +kernel)

/-- Refutes O59: COUPLING_REQ is written over Zwinglink, and its answer makes Q26 drop a record. -/
theorem not_requestWrites : ¬ Obligations.RequestWrites := by
  rintro ⟨-, coupling, -⟩
  exact (coupling 0 (ringWrite E.COUPLING_REQ 0 [0]) (.num 0) (jammed []) rfl (.of_check (by decide +kernel))).not_dropped
    (fun _ _ ⟨_, _, _, kept⟩ => kept) (by decide +kernel) (by decide +kernel)

/-- Refutes O18: the report of a member that answers to a lantern makes its link serve what waits, and Q26 drops a record. -/
theorem not_sharingEvents : ¬ Obligations.SharingEvents := by
  rintro ⟨-, -, -, -, -, report, -⟩
  exact (report 0 (jammed [(E.SHARE_ROLE, 0, 1), (E.LANT_ADDR, 0, 5)]).ownKey rfl rfl rfl (by decide) rfl rfl).not_dropped
    (fun _ _ ⟨_, kept⟩ => kept) (by decide +kernel) (by decide +kernel)

/-- Refutes O22: a CREDIT that leaves makes its link serve what waits, and Q26 drops a record. -/
theorem not_delayAndCreditExchange : ¬ Obligations.DelayAndCreditExchange := by
  rintro ⟨-, -, -, -, credit⟩
  exact (credit 5000 0 (jammed []).ownKey rfl (by decide) (by decide +kernel) rfl).not_dropped
    (fun _ _ ⟨_, _, _, kept⟩ => kept) (by decide +kernel) (by decide +kernel)

/-- Refutes O25: the summary of a ring that goes up makes its link serve what waits, and Q26 drops a record. -/
theorem not_networkTimeAndNumbering : ¬ Obligations.NetworkTimeAndNumbering := by
  rintro ⟨-, -, -, -, -, -, summary, -⟩
  exact (summary 0 (jammedLead.netTo fun x => { x with relayAt := some 0 }) rfl (by decide +kernel) (by decide +kernel)
    (by decide +kernel)).not_dropped
    (fun _ _ ⟨_, kept⟩ => kept) (by decide +kernel) (by decide +kernel)

/-- Refutes O29: a grant of the root lantern makes its link serve what waits, and Q26 drops a record. -/
theorem not_insulationMonitor : ¬ Obligations.InsulationMonitor := by
  rintro ⟨-, -, -, -, grant, -⟩
  exact (grant 0 4 140 (jammedLead.netTo fun x => { x with kids := [childRing] }) rfl (by decide +kernel) (by decide +kernel)
    (by decide +kernel) rfl (by decide +kernel)).not_dropped
    (fun _ _ ⟨_, kept⟩ => kept) (by decide +kernel) (by decide +kernel)

/-- Refutes O30: STEP_SNAP is read over Zwinglink, and its answer makes Q26 drop a record. -/
theorem not_measurementsAndSnapshots : ¬ Obligations.MeasurementsAndSnapshots := by
  rintro ⟨-, -, -, -, -, -, -, snapshot⟩
  exact (snapshot 0 (ringReq 1 (E.STEP_SNAP.index 0) E.STEP_SNAP.sub) (jammed []) rfl (.of_check (by decide +kernel))).not_dropped
    (fun _ _ ⟨_, _, _, _, _, _, _, kept⟩ => kept) (by decide +kernel) (by decide +kernel)

/-- Refutes O32: a cable run is asked for over Zwinglink, and the answer makes Q26 drop a record. -/
theorem not_cableAndCalibration : ¬ Obligations.CableAndCalibration := by
  rintro ⟨asked, -⟩
  exact (asked 0 3 (ringWrite E.CABLE_CMD 0 [3]) _ (.num 3)
    { jammed [] with m := { (jammed []).m with sens := { noInput with vLink := 100 } } } rfl (.inr (.inr ⟨rfl, rfl⟩))
    (.of_check (by decide +kernel)) rfl).not_dropped
    (fun _ _ ⟨_, _, _, kept⟩ => kept) (by decide +kernel) (by decide +kernel)

/-- Refutes O36: FLT_INJECT is written over Zwinglink, and its answer makes Q26 drop a record. -/
theorem not_faultClearing : ¬ Obligations.FaultClearing := by
  rintro ⟨-, -, inject, -⟩
  exact (inject 0 12 (ringWrite E.FLT_INJECT 12 (leBytes 4 0)) (.num 0) (jammed [(E.INJ_EN, 0, 1)]) rfl (.of_check (by decide +kernel))).not_dropped
    (fun _ _ ⟨_, _, _, kept⟩ => kept) (by decide +kernel) (by decide +kernel)

/-- Refutes O41: FW_SWITCH is written over Zwinglink, and its answer makes Q26 drop a record. -/
theorem not_firmwareEvents : ¬ Obligations.FirmwareEvents := by
  rintro ⟨-, -, switch, -⟩
  exact (switch 0 (ringWrite E.FW_SWITCH 0 [1]) (.num 1)
    { jammed [] with m := { (jammed []).m with fw := { altState := 2, altVer := 100 } } } rfl (.of_check (by decide +kernel))).not_dropped
    (fun _ _ ⟨_, _, _, _, kept⟩ => kept) (by decide +kernel) (by decide +kernel)

/-- Refutes O46: a request that has waited too long is turned away over Zwinglink, and the answer makes Q26 drop a record. -/
theorem not_refusedRequestsChangeNothing : ¬ Obligations.RefusedRequestsChangeNothing := by
  rintro ⟨-, expired, -⟩
  exact (expired 0 (ringReq 2 0 0) (jammed []) rfl (by decide +kernel)).not_dropped
    (fun _ _ ⟨⟨_, kept, _⟩, _⟩ => kept) (by decide +kernel) (by decide +kernel)

/-- Refutes O47: EPOCH is read over Zwinglink, and the answer makes Q26 drop a record. -/
theorem not_readsAndRepeats : ¬ Obligations.ReadsAndRepeats := by
  rintro ⟨read, -⟩
  exact (read 0 0 E.EPOCH (ringReq 1 (E.EPOCH.index 0) E.EPOCH.sub) (jammed []) rfl (.of_check (by decide +kernel)) (by decide +kernel)
    (by decide) (by decide +kernel) rfl).not_dropped
    (fun _ _ ⟨_, _, _, kept, _⟩ => kept) (by decide +kernel) (by decide +kernel)

/-- Refutes O52: a request that comes in a frame is served, and its answer makes Q26 drop a record. -/
theorem not_frameForwarding : ¬ Obligations.FrameForwarding := by
  rintro ⟨-, -, -, request⟩
  exact (request 0 0 requestFrame (ringReq 4 0 0) jammedStage rfl (by decide) (by decide +kernel) (by decide +kernel)
    (.of_check (by decide +kernel)) (by decide +kernel) (by decide) rfl rfl (.of_check (by decide +kernel))).not_dropped
    (fun _ _ ⟨kept, _⟩ => kept) (by decide +kernel) (by decide +kernel)

end Sys2Proof
end

section
/-! PROOF. Statements that a state of its own refutes: what their clauses leave out happens there. -/

-- The kernel evaluates the states below one after another; a thread of its own for each would only wait for it.
set_option Elab.async false

namespace Sys2Proof.Machine

open Sys2Proof

/-- A running module with entries set, and latched. -/
def settled (l : List (Fam × Nat × Nat)) : Mod :=
  (l.foldl (fun (m : Mod) x => m.setN x.1 x.2.1 x.2.2) { phase := .running, rst := none }).latchControls

/-- A module with a server that holds nothing, and no command waiting. -/
def alone (m : Mod) : State := { m := m, srv := {}, pending := [] }

/-- What a command makes of something that the module holds. -/
def seenAfter {α : Type} (f : Mod → α) : Host.Outcome State Fault Refusal → Option α
  | .next s => some (f s.m)
  | _ => none

/-- A command does nothing that asks another value of what it leaves. -/
theorem DoesM.seenAfter_eq {i : Instr} {t : Nat} {s : State} {P : Mod → Mod → Prop} (h : DoesM i t s P) {α : Type} (f : Mod → α)
    {a : α} (hP : ∀ m', P (s.m.at t) m' → f m' = a) : seenAfter f (exec i s) = some a := by
  obtain ⟨m', hm, hp⟩ := h
  rw [hm]
  exact congrArg some (hP m' hp)

theorem DoesS.seenAfter_eq {i : Instr} {t : Nat} {s : State} {P : Sys → Sys → Prop} (h : DoesS i t s P) {α : Type} (f : Mod → α)
    {a : α} (hP : ∀ y, P (s.m.at t, s.srv) y → f y.1 = a) : seenAfter f (exec i s) = some a := by
  obtain ⟨y, hy, hp⟩ := h
  rw [hy]
  exact congrArg some (hP y hp)

/-- Input 0 is to be measured (R139) in the mode tick in which the step of input 1 has ended. -/
def toMeasure : State :=
  alone (({ settled [(E.QUAL_STATE, 0, 5), (E.ADAPT_EN, 0, 1)] with
    mean := { i := [4] }, inp := [{}, { stepEnd := 1 }] } : Mod).arm (.adapt 0) 0)

/-- A PULSE step runs (R203) after one that regulated 400 V. -/
def pulsing : State :=
  alone { settled [(E.KIND, 0, 6), (E.PROF_STATE, 0, 1), (E.PROF_ACT, 0, 0), (E.STEP_ACT, 0, 0)] with prof := { vGoal := 400 } }

/-- The BRK clamp acts (R289), and H holds 5 J of its action. -/
def clampActs : State := alone { settled [] with safe := { clamping := true, heat := 100, clampJ := 5 } }

/-- The grace of block 15 has ended with a source not acknowledged (R480), and IMD_RISO reads 32. -/
def graceOver : State :=
  alone (((settled [(E.IMD_RISO, 0, 0x42000000)]).modFlt 15 fun x => { x with unacked := 1 }).arm (.grace 15) 0)

end Sys2Proof.Machine

namespace Sys2Proof

open Machine

/-- Refutes O8: in the mode tick in which another input's step has ended, the measurement is put off by 600 µs (assumption log 96),
which the clause on ADAPT_PERIOD does not allow for. -/
theorem not_overloadAndAdaptiveLimits : ¬ Obligations.OverloadAndAdaptiveLimits := by
  rintro ⟨-, -, period, -⟩
  have h := (period 0 0 toMeasure rfl (by decide) (by decide +kernel) (by decide +kernel) (by decide +kernel) (by decide +kernel)
    (by decide +kernel) (by decide +kernel)).seenAfter_eq (·.deadline (.adapt 0)) fun _ ⟨deadline, _⟩ => deadline
  exact absurd h (by decide +kernel)

/-- Refutes O16: a level change of a PULSE step that follows one that regulated voltage also takes the voltage goal back to 0. -/
theorem not_profileStepEvents : ¬ Obligations.ProfileStepEvents := by
  rintro ⟨-, -, -, level⟩
  have h := (level 0 pulsing rfl (by decide +kernel) (by decide +kernel) (by decide +kernel)).seenAfter_eq (·.prof.vGoal)
    (a := 400) fun _ ⟨prof, _⟩ => by rw [prof]; rfl
  exact absurd h (by decide +kernel)

/-- Refutes O27: at its release the clamp's energy is not added to H as a whole: H already holds 5 J of it (R96). -/
theorem not_linkProtectionAndToggles : ¬ Obligations.LinkProtectionAndToggles := by
  rintro ⟨-, release, -⟩
  have h := (release 0 20 10 clampActs rfl rfl (by decide +kernel)).seenAfter_eq (·.safe.heat) fun _ ⟨_, heat, _⟩ => heat
  exact absurd h (by decide +kernel)

/-- Refutes O35: the reset of block 15 sets IMD_RISO to 0, which is not among the families of the clause. -/
theorem not_faultEscalation : ¬ Obligations.FaultEscalation := by
  rintro ⟨escalate, -⟩
  have h := (escalate 0 15 graceOver rfl (by decide) (by decide +kernel) (by decide +kernel)).seenAfter_eq (·.n E.IMD_RISO 0)
    fun _ ⟨kept, _⟩ => (kept (by decide)).n E.IMD_RISO 0 (by decide +kernel)
  exact absurd h (by decide +kernel)

end Sys2Proof
end

section
/-! PROOF. Statements that fail where a partner is attached (R431). -/

-- The kernel evaluates the states below one after another; a thread of its own for each would only wait for it.
set_option Elab.async false

namespace Sys2Proof.Machine

open Sys2Proof

/-- A running module at whose service port a partner is attached. -/
def partnered : State := alone { settled [] with usb := { attached := true } }

/-- Who owns the stage after a command. -/
def ownerAfter : Host.Outcome State Fault Refusal → Option (Option Nat)
  | .next s => some s.srv.owner
  | _ => none

/-- The USB service host owns a stage that holds nothing. -/
def ownsNothing : State := { partnered with srv := { owner := some usbRequester } }

end Sys2Proof.Machine

namespace Sys2Proof

open Machine

/-- Refutes O38: a detach lets go of the stage only where it holds a value. -/
theorem not_usbContracts : ¬ Obligations.UsbContracts := by
  rintro ⟨-, detach, -⟩
  obtain ⟨y, hy, -, -, -, -, -, -, -, -, -, owner⟩ := detach 0 ownsNothing rfl rfl
  have h : ownerAfter (exec (.usbDetach 0) ownsNothing) = some y.2.owner := by rw [hy]; rfl
  have kept : ownerAfter (exec (.usbDetach 0) ownsNothing) = some (some usbRequester) := by decide +kernel
  exact owner (Option.some.inj (h.symm.trans kept))

/-- Refutes O39: the answer to Discover Identity carries 1, 2, 1, 0x3A71, 0, 0x60010042, 1, and the statement tells of five numbers, of
which the second is 1. -/
theorem not_usbSwapsAndDiscovery : ¬ Obligations.UsbSwapsAndDiscovery := by
  rintro ⟨-, -, -, -, -, answers, -⟩
  have h := (answers 0 0 (.discoverIdentity 0) _ partnered rfl rfl (.inl ⟨rfl, rfl⟩)).seenAfter_eq (·.out) fun _ ⟨out, _⟩ => out
  exact absurd h (by decide +kernel)

end Sys2Proof
end

section
/-! PROOF. Statements on paths and ports that a state of its own refutes: the phases that a port's leaving turns off, and a rotation
that this period has had. -/

-- The kernel evaluates the states below one after another; a thread of its own for each would only wait for it.
set_option Elab.async false

namespace Sys2Proof.Machine

open Sys2Proof

/-- Stage B is bridged, and Stage A has rotated in this period (R174). -/
def rotated : State := alone { settled [(E.BRIDGE_STATE, 0, 2), (E.ROT_EN, 0, 1)] with stg := [{ rotDone := true }, {}] }

/-- BLACKSTART waits for a live terminal at BAT (R110), and phase 8 runs alone for BAT's warm join (R122). -/
def joinsInBlackstart : State :=
  alone { settled [(E.PATH_ACT, 0, 7), (E.BS_STATE, 0, 1), (E.PORT_EN, 4, 1), (E.PH_STATE, 8, 4)] with
    qual := [{}, {}, {}, {}, { joinPh := some 8 }] }

/-- IN1 is in PRECHARGE, and phase 0 runs alone for its warm join (R122). -/
def joins : State :=
  alone { settled [(E.QUAL_STATE, 0, 4), (E.PH_STATE, 0, 4)] with qual := [{ joinPh := some 0 }] }

/-- IN1 is CONNECTED, and phase 0, tapped to it, carries 1 A. -/
def draws : State :=
  alone (settled [(E.QUAL_STATE, 0, 5), (E.PH_STATE, 0, 4), (E.PH_TAP, 0, 0), (E.PH_I, 0, 0x3F800000)])

end Sys2Proof.Machine

namespace Sys2Proof

open Machine

/-- Refutes O6: a stage that has rotated in this period does not rotate again (R174), and the rotation tick does not count. -/
theorem not_modeAxisAndBridgeEvents : ¬ Obligations.ModeAxisAndBridgeEvents := by
  rintro ⟨-, tick, -⟩
  have h := (tick 0 rotated rfl (by decide +kernel) (by decide +kernel) (by decide +kernel) (by decide +kernel)
    (by decide +kernel)).seenAfter_eq (·.n E.ROT_COUNT 0) fun _ ⟨count, _⟩ => count
  exact absurd h (by decide +kernel)

/-- Refutes O7: as BAT's qualification begins anew, the phase of its warm join is SHED (R122), and PH_STATE is not among the entries of
the first clause. -/
theorem not_blackstartAndSafestopSteps : ¬ Obligations.BlackstartAndSafestopSteps := by
  rintro ⟨live, -⟩
  have h := (live 0 (joinsInBlackstart.m.winLo 4) joinsInBlackstart rfl (by decide +kernel) (by decide +kernel) (by decide +kernel)
    (by decide +kernel)).seenAfter_eq (·.n E.PH_STATE 8) fun _ ⟨_, _, _, kept, _⟩ => kept.n E.PH_STATE 8 (by decide +kernel)
  exact absurd h (by decide +kernel)

/-- Refutes O9: an excursion out of PRECHARGE ends a warm join, and its phase is SHED (R122); PH_STATE is not among the entries of the
clause. -/
theorem not_qualificationEvents : ¬ Obligations.QualificationEvents := by
  rintro ⟨-, excursion, -⟩
  have h := (excursion 0 0 0 joins rfl (by decide) (by decide +kernel) (by decide +kernel)
    (by decide +kernel)).seenAfter_eq (·.n E.PH_STATE 0) fun _ ⟨_, _, _, kept, _⟩ => kept.n E.PH_STATE 0 (by decide +kernel)
  exact absurd h (by decide +kernel)

/-- Refutes O10: as a port begins to ride, its phases leave by force (R124, R167) and their currents read 0; PH_I is not among the
families of the clause. -/
theorem not_rideDropAndPilotEvents : ¬ Obligations.RideDropAndPilotEvents := by
  rintro ⟨ride, -⟩
  have h := (ride 0 0 0 draws rfl (by decide) (by decide +kernel) (by decide +kernel)).seenAfter_eq (·.n E.PH_I 0)
    fun _ ⟨kept, _⟩ => SameOd.n kept E.PH_I 0 (by decide +kernel)
  exact absurd h (by decide +kernel)

end Sys2Proof
end

section
/-! PROOF. Statements that a state of its own refutes: an age beyond what its entry holds, a beacon that has passed before, and a clamp
that a reset ends. -/

-- The kernel evaluates the states below one after another; a thread of its own for each would only wait for it.
set_option Elab.async false

namespace Sys2Proof.Machine

open Sys2Proof

/-- The limits are FRESH, and BMS_STALE_T and BMS_GRACE_T are the longest of their types. -/
def freshAgesAgo : State :=
  alone { settled [(E.BMS_SRC, 0, 1), (E.BMS_STALE_T, 0, 4294967295), (E.BMS_GRACE_T, 0, 4294967295), (E.BMS_FRESH, 0, 0)] with
    bms := { written := true, last := [0] } }

/-- A sound header of a beacon (R346). -/
def beaconHeader : Hdr :=
  { cls := 0, typ := 1, turned := false, ver := 1, src := 0xFFFF, dst := 0xFFFF, scope := 1, lant := true, fenced := false,
    relayed := false, hops := 1, gen := 0, seq := 0, len := 0, epochLo := 0, key := some [1], fcsOk := true, yieldMark := false,
    etherOk := true, bytes := 64 }

/-- A beacon of the own ring that names fleet envelope 2. -/
def ringBeacon : Beacon :=
  { cycle := 0, lgen := 0, stn := 1, slotCount := 0, t0 := 0, cf := 0, env := 2, ringOpen := false, traceable := false,
    synciRef := false, bound := false, darkN := 3, depth := 0, ring := 0, roles := [], slots := [], key := some [1], lprio := 0,
    mac := 0 }

/-- Link 0 is UP in the own ring, and the beacon has passed (R340). -/
def beaconPassed : State :=
  let m := settled [(E.LINK_STATE, 0, 3), (E.LINK_ROLE, 0, 1)]
  alone { m with keys := { m.keys with own := some [1] }, net := { m.net with passed := [Mod.passKey false ringBeacon] } }

/-- The BRK clamp acts (R289), and H is just short of its warning. -/
def clampNearWarning : State := alone { settled [] with safe := { clamping := true, heat := 10000000, heatWarned := false } }

end Sys2Proof.Machine

namespace Sys2Proof

open Machine

/-- Refutes O17: BMS_AGE shows 4.3 × 10⁹ ms at the most, and BMS_STALE_T may be longer. -/
theorem not_batteryAndScanEvents : ¬ Obligations.BatteryAndScanEvents := by
  rintro ⟨aging, -⟩
  have h := (aging 500000000000000 freshAgesAgo rfl (by decide +kernel) rfl (by decide +kernel) (by decide +kernel)
    (by decide +kernel)).seenAfter_eq (·.n E.BMS_AGE 0) fun _ ⟨_, age, _⟩ => age
  exact absurd h (by decide +kernel)

/-- Refutes O23: a station takes a beacon when it comes for the first time (R353), and the clause on it does not ask that it does. -/
theorem not_beaconEvents : ¬ Obligations.BeaconEvents := by
  rintro ⟨-, rx, -⟩
  have h := (rx 0 0 beaconHeader ringBeacon 0 beaconPassed rfl (by decide) (by decide +kernel) (by decide +kernel) (by decide +kernel)
    (by decide +kernel) rfl (by decide +kernel) rfl (by decide) rfl rfl rfl (by decide +kernel)
    (fun h => absurd h (by decide +kernel))).seenAfter_eq (·.n E.FLEET_ENV 0) fun _ ⟨_, _, env, _⟩ => env
  exact absurd h (by decide +kernel)

/-- Refutes O43: a reset that opens BRK's switch ends the clamp's action, and what that adds to H may record the warning (R96), though
the clause on POR keeps the log. -/
theorem not_resetsAndWakes : ¬ Obligations.ResetsAndWakes := by
  rintro ⟨por, -⟩
  obtain ⟨m', hm, reset⟩ := por clampNearWarning
  obtain ⟨-, -, log, -⟩ := reset.kept
  have h : seenAfter (·.log.length) (exec .por clampNearWarning) = some clampNearWarning.m.log.length := by
    rw [hm]
    exact congrArg (fun l => some l.length) log
  exact absurd h (by decide +kernel)

end Sys2Proof
end

section
/-! PROOF. Statements on the mode tick that fail where it ends a USB contract (R433). -/

-- The kernel evaluates the states below one after another; a thread of its own for each would only wait for it.
set_option Elab.async false

namespace Sys2Proof.Machine

open Sys2Proof

/-- The module is the source of a contract, the service host has a session, and no supply is live. -/
def unpoweredSource : State :=
  { m := { settled [(E.USB_PWR_ROLE, 0, 1)] with usb := { attached := true, contract := true } }
    srv := { sessions := [⟨usbRequester, 1, 0⟩] }
    pending := [] }

/-- The inputs of a tick whose resolution is not complete (R82). -/
def overrunInput : TickIn := { noInput with complete := false }

/-- The sessions after a command. -/
def sessionsAfter : Host.Outcome State Fault Refusal → List Sess
  | .next s => s.srv.sessions
  | _ => []

/-- A command after which the server's sessions are those from before. -/
theorem DoesS.sessionsAfter_eq {i : Instr} {t : Nat} {s : State} {P : Sys → Sys → Prop} (h : DoesS i t s P)
    (hP : ∀ y, P (s.m.at t, s.srv) y → y.2.sessions = s.srv.sessions) : sessionsAfter (exec i s) = s.srv.sessions := by
  obtain ⟨y, hy, hp⟩ := h
  rw [hy]
  exact hP y hp

end Sys2Proof.Machine

namespace Sys2Proof

open Machine

/-- Refutes O57: a tick that finds the module no longer powered ends its source contract as at a detach (R433), and with it the service
host's session. -/
theorem not_modeTickCompletes : ¬ Obligations.ModeTickCompletes := by
  intro tick
  have h := (tick 0 noInput unpoweredSource rfl (by decide +kernel)).sessionsAfter_eq fun _ ⟨_, sessions, _⟩ => sessions
  exact absurd h (by decide +kernel)

/-- Refutes O58: the server is as it was only where the tick does not end a source contract (R433). -/
theorem not_modeTickResolves : ¬ Obligations.ModeTickResolves := by
  rintro ⟨-, overrun⟩
  have h := (overrun 0 overrunInput unpoweredSource rfl (by decide +kernel) rfl rfl).sessionsAfter_eq
    fun _ ⟨_, _, _, _, _, same⟩ => congrArg Srv.sessions same
  exact absurd h (by decide +kernel)

end Sys2Proof
end

section
/-! PROOF. What one command can answer: a next state with the same waiting commands, or the stop of a mode tick. -/

namespace Sys2Proof.Machine

open Sys2Proof

/-- The command answers a next state, and the waiting commands are unchanged. -/
def Proceeds (s : State) (o : Host.Outcome State Fault Refusal) : Prop := ∃ s', o = .next s' ∧ s'.pending = s.pending

theorem Proceeds.next (s : State) (m : Mod) (v : Srv) : Proceeds s (.next { s with m := m, srv := v }) := ⟨_, rfl, rfl⟩

/-- A command of the running module answers one of two states. -/
theorem Proceeds.ite {p : Prop} [Decidable p] {s a b : State} (ha : a.pending = s.pending) (hb : b.pending = s.pending) :
    Proceeds s (.next (if p then a else b)) := by
  split
  · exact ⟨a, rfl, ha⟩
  · exact ⟨b, rfl, hb⟩

/-- USB_ATTACH wakes the module from HIBERNATE, and attaches otherwise. -/
theorem Proceeds.execUsbAttach (t : Nat) (source : Bool) (s : State) : Proceeds s (execUsbAttach t source s) := by
  simp only [Machine.execUsbAttach]
  split
  · exact .next s _ _
  · exact .ite rfl rfl

/-- A mode tick stops the machine where a port lies beyond its absolute maximum, and only there (R37). -/
theorem execModeTick_proceeds_or_stops (t : Nat) (x : TickIn) (s : State) : Proceeds s (execModeTick t x s) ∨
    ∃ k, (s.m.at t).alive = true ∧ (s.m.at t).beyond x = some k ∧ execModeTick t x s = .fault (.outsideManual k) := by
  unfold execModeTick
  cases alive : (s.m.at t).alive with
  | false => exact .inl (.ite rfl rfl)
  | true =>
    cases h : (s.m.at t).beyond x with
    | none => exact .inl (.ite rfl rfl)
    | some k => exact .inr ⟨k, rfl, rfl, rfl⟩

theorem exec_proceeds_or_stops (c : Instr) (s : State) : Proceeds s (exec c s) ∨
    ∃ t x k, c = .modeTick t x ∧ (s.m.at t).alive = true ∧ (s.m.at t).beyond x = some k ∧
      exec c s = .fault (.outsideManual k) := by
  cases c
  case modeTick t x =>
    exact (execModeTick_proceeds_or_stops t x s).imp_right fun ⟨k, h⟩ => ⟨t, x, k, rfl, h⟩
  case usbAttach t source => exact .inl (.execUsbAttach t source s)
  all_goals first
    | exact .inl (.next s _ _)
    | exact .inl (.ite rfl rfl)

/-- The port beyond its absolute maximum is one of the eight. -/
theorem Mod.beyond_eq_some {m : Mod} {x : TickIn} {k : Nat} (h : m.beyond x = some k) :
    k < 8 ∧ m.portBeyond k (((m.meansOf (x.smp.map m.codes)).v[k]?).getD 0) = true := by
  simp only [Mod.beyond] at h
  exact ⟨List.mem_range.mp (List.mem_of_find?_eq_some h), by simpa using List.find?_some h⟩

end Sys2Proof.Machine

namespace Sys2Proof

open Machine

/-- Settles O1: `step` is `exec` on the front of the queue. -/
theorem stepTakesTheFrontCommand : Obligations.StepTakesTheFrontCommand := by
  intro c rest s
  rfl

/-- Settles O2, by the two answers that a command can give. -/
theorem theQueueIsServedInOrder : Obligations.TheQueueIsServedInOrder := by
  refine ⟨fun c s => ?_, fun s h => by simp [step, h]⟩
  obtain ⟨y, hy, same⟩ | ⟨t, x, k, -, -, -, stops⟩ := exec_proceeds_or_stops c s
  · refine ⟨by simp [hy], fun s' h => ?_⟩
    obtain rfl : y = s' := by simpa [hy] using h
    exact same
  · simp [stops]

/-- Settles O3, by the two answers that a command can give. -/
theorem onlyVoltagesBeyondTheMaximumStopTheMachine : Obligations.OnlyVoltagesBeyondTheMaximumStopTheMachine := by
  intro c s f h
  obtain ⟨y, hy, -⟩ | ⟨t, x, k, rfl, alive, beyond, stops⟩ := exec_proceeds_or_stops c s
  · simp [hy] at h
  · obtain rfl : .outsideManual k = f := by simpa [stops] using h
    obtain ⟨small, beyond⟩ := Mod.beyond_eq_some beyond
    exact ⟨t, x, k, rfl, rfl, small, alive, beyond⟩

/-- Settles O45: no entry is listed, so each reads its default; the rest stands in the state's own defaults. -/
theorem resetState : Obligations.ResetState := by
  have closed : ∀ k, State.reset.m.closed k = false := fun k => by
    show ((List.replicate 8 ({} : Prot))[k]?.getD {}).closed = false
    rw [List.getElem?_replicate]
    split <;> rfl
  exact ⟨fun _ _ => rfl, rfl, rfl, rfl, rfl, by decide, closed, rfl, rfl, rfl, rfl, rfl, rfl,
    ⟨by decide, by decide, by decide, rfl⟩, rfl, reset_buf_wf⟩

end Sys2Proof
end

section
/-! PROOF. What the operations that many commands share leave as it was: the entries outside their families, and the module's plant
(`Mod.plant`), which is all that neither the event log nor a frame touches. -/

set_option Elab.async false

namespace Sys2Proof

/-! ## Bits -/

theorem bit_setBit_same (n i : Nat) (b : Bool) : bit (setBit n i b) i = b := by
  cases b with
  | true => simp [bit, setBit, Nat.testBit_or, Nat.one_shiftLeft]
  | false =>
    unfold bit setBit
    rw [if_neg Bool.false_ne_true]
    split
    · rename_i set
      have low := Nat.testBit_two_pow_add_eq (n - 2 ^ i) i
      rw [Nat.add_sub_of_le (Nat.ge_two_pow_of_testBit set), set] at low
      simpa [Nat.one_shiftLeft] using low
    · rename_i clear
      simpa using clear

theorem bit_setBit_ne (n : Nat) {i j : Nat} (b : Bool) (h : j ≠ i) : bit (setBit n i b) j = bit n j := by
  cases b with
  | true => simp [bit, setBit, Nat.testBit_or, Nat.one_shiftLeft, h.symm]
  | false =>
    unfold bit setBit
    rw [if_neg Bool.false_ne_true]
    split
    · rename_i set
      rw [Nat.one_shiftLeft]
      rcases Nat.lt_or_gt_of_ne h with below | above
      · rw [← Nat.testBit_two_pow_add_gt below, Nat.add_sub_of_le (Nat.ge_two_pow_of_testBit set)]
      · obtain ⟨d, rfl⟩ := Nat.exists_eq_add_of_le' (show i + 1 ≤ j from above)
        have odd : n / 2 ^ i % 2 = 1 := by simpa [Nat.testBit_eq_decide_div_mod_eq] using set
        have one : (n - 2 ^ i) / 2 ^ i = n / 2 ^ i - 1 := by simpa using Nat.sub_mul_div n (2 ^ i) 1
        have same : (n - 2 ^ i) / 2 ^ (i + 1) = n / 2 ^ (i + 1) := by
          rw [Nat.pow_succ, ← Nat.div_div_eq_div_mul, ← Nat.div_div_eq_div_mul, one]
          generalize n / 2 ^ i = q at odd
          omega
        rw [← Nat.testBit_div_two_pow, ← Nat.testBit_div_two_pow, same]
    · rfl

end Sys2Proof

namespace Sys2Proof.Machine

open Sys2Proof

/-! ## Families -/

theorem OnlyFams.refl (fs : List Fam) (m : Mod) : OnlyFams fs m m := SameOd.refl _ m

theorem OnlyFams.trans {fs : List Fam} {a b c : Mod} (h : OnlyFams fs a b) (g : OnlyFams fs b c) : OnlyFams fs a c :=
  SameOd.trans h g

theorem OnlyFams.mono {fs gs : List Fam} {a b : Mod} (h : OnlyFams fs a b) (hs : fs ⊆ gs) : OnlyFams gs a b :=
  SameOd.mono h fun _ hk => by
    obtain ⟨f, hf, hk⟩ := List.mem_flatMap.1 hk
    exact List.mem_flatMap.2 ⟨f, hs hf, hk⟩

theorem OnlyFams.setV {fs : List Fam} (m : Mod) {f : Fam} (i : Nat) (v : Val) (hf : f ∈ fs) : OnlyFams fs m (m.setV f i v) :=
  fun _ hk => m.odGet_setV_keys f i v fun h => hk (List.mem_flatMap.2 ⟨f, hf, h⟩)

theorem OnlyFams.set {fs : List Fam} {m x : Mod} (h : OnlyFams fs m x) {f : Fam} {i : Nat} {v : Val} (hf : f ∈ fs) :
    OnlyFams fs m (x.setV f i v) := h.trans (.setV x i v hf)

/-- Two modules with one dictionary keep to the same families. -/
theorem OnlyFams.of_od {fs : List Fam} {m x y : Mod} (h : OnlyFams fs m x) (e : y.od = x.od) : OnlyFams fs m y :=
  fun k hk => e ▸ h k hk

theorem OnlyFams.when {fs : List Fam} (m : Mod) (c : Bool) {f : Mod → Mod} (hf : OnlyFams fs m (f m)) :
    OnlyFams fs m (m.when c f) := by
  cases c
  · exact .refl fs m
  · exact hf

theorem OnlyFams.foldl {fs : List Fam} {β : Type} {f : Mod → β → Mod} (hf : ∀ m b, OnlyFams fs m (f m b)) (l : List β) (m : Mod) :
    OnlyFams fs m (l.foldl f m) := by
  induction l generalizing m with
  | nil => exact .refl fs m
  | cons b r ih => exact (hf m b).trans (ih _)

theorem OnlyFams.each {fs : List Fam} {f : Nat → Mod → Mod} (hf : ∀ k m, OnlyFams fs m (f k m)) (n : Nat) (m : Mod) :
    OnlyFams fs m (m.each n f) := OnlyFams.foldl (fun m k => hf k m) _ m

theorem OnlyFams.of_sameOd {fs : List Fam} {ks : List Nat} {a b : Mod} (h : SameOd ks a b) (hs : ks ⊆ fs.flatMap Fam.keys) :
    OnlyFams fs a b := SameOd.mono h hs

/-! ## The plant -/

/-- The module without its entries and timers, what it puts out, what an event record touches, what a frame touches, the alert and
the capture. -/
def Mod.plant (m : Mod) : Mod :=
  { m.rest with
    log := [], q26 := [], q26Lost := 0, eraseOp := none, kpr := {}, queues := [], net := {}, alert := 0, alertNew := 0,
    cap := {}, h2w := { m.h2w with mask := 0, pulled := false } }

@[simp] theorem Mod.plant_setV (m : Mod) (f : Fam) (i : Nat) (v : Val) : (m.setV f i v).plant = m.plant := rfl
@[simp] theorem Mod.plant_arm (m : Mod) (T : Tmr) (d : Nat) : (m.arm T d).plant = m.plant := rfl
@[simp] theorem Mod.plant_disarm (m : Mod) (T : Tmr) : (m.disarm T).plant = m.plant := rfl
@[simp] theorem Mod.plant_emit (m : Mod) (o : Out) : (m.emit o).plant = m.plant := rfl
@[simp] theorem Mod.plant_modLink (m : Mod) (l : Nat) (f : LinkS → LinkS) : (m.modLink l f).plant = m.plant := rfl
@[simp] theorem Mod.plant_net (m : Mod) (n : Net) : ({ m with net := n } : Mod).plant = m.plant := rfl
@[simp] theorem Mod.plant_queues (m : Mod) (l : List Queue) : ({ m with queues := l } : Mod).plant = m.plant := rfl
@[simp] theorem Mod.plant_out (m : Mod) (l : List Out) : ({ m with out := l } : Mod).plant = m.plant := rfl
@[simp] theorem Mod.plant_cap (m : Mod) (c : Cap) : ({ m with cap := c } : Mod).plant = m.plant := rfl
@[simp] theorem Mod.plant_alertTo (m : Mod) (cause mask : Nat) : (m.alertTo cause mask).plant = m.plant := rfl
@[simp] theorem Mod.plant_alertSet (m : Mod) (k : Nat) : (m.alertSet k).plant = m.plant := rfl

/-! ## The event log -/

theorem logKeys_logFams : logKeys ⊆ logFams.flatMap Fam.keys := fun k hk => by
  have mark : ∀ f : Fam, f.count = 32 → f.key 26 ∈ f.keys := fun f hc => Fam.mem_keys (hc ▸ by decide)
  simp only [logKeys, List.mem_append, List.mem_cons, List.not_mem_nil, or_false] at hk
  simp only [logFams, List.flatMap_cons, List.flatMap_nil, List.mem_append, List.not_mem_nil, or_false]
  rcases hk with h | h | h | h | h | h | h | h
  · simp [h]
  · simp [h]
  · simp [h]
  · simp [h]
  · simp [h, mark E.Q_FILL rfl]
  · simp [h, mark E.Q_MAX rfl]
  · simp [h, mark E.Q_HIGH rfl]
  · simp [h, mark E.Q_HWM_CNT rfl]

theorem OnlyFams.logPut (m : Mod) (r : LogRec) : OnlyFams logFams m (m.logPut r) := .of_sameOd (.logPut m r) logKeys_logFams

theorem OnlyFams.note (m : Mod) (f : Fam) (i : Nat) (old : Val) : OnlyFams logFams m (m.note f i old) := .logPut m _

theorem OnlyFams.event (m : Mod) (kind : Nat) (data : List Nat) : OnlyFams logFams m (m.event kind data) := .logPut m _

@[simp] theorem Mod.plant_eraseStart (m : Mod) (w : Nat) : (m.eraseStart w).plant = m.plant := by
  unfold Mod.eraseStart
  cases h : m.kpr.running <;> rfl

@[simp] theorem Mod.plant_logWait (m : Mod) (r : LogRec) : (m.logWait r).plant = m.plant := by
  unfold Mod.logWait
  split
  · rfl
  · split <;> rfl

@[simp] theorem Mod.plant_fillMarks (m : Mod) (q : Nat) (f : Rat) : (m.fillMarks q f).plant = m.plant := by
  have low : ∀ m : Mod, (m.setB E.Q_HIGH q false).plant = m.plant := fun _ => rfl
  have high : ∀ m : Mod, ((m.setB E.Q_HIGH q true).inc E.Q_HWM_CNT q).plant = m.plant := fun _ => rfl
  have most : ∀ m : Mod, (m.setQ E.Q_MAX q f).plant = m.plant := fun _ => rfl
  unfold Mod.fillMarks
  rw [Mod.when_keeps Mod.plant _ low, Mod.when_keeps Mod.plant _ high, Mod.when_keeps Mod.plant _ most]
  rfl

@[simp] theorem Mod.plant_logPut (m : Mod) (r : LogRec) : (m.logPut r).plant = m.plant := by
  unfold Mod.logPut Mod.logWrite Mod.q26Marks
  split
  · rw [Mod.when_keeps Mod.plant _ fun m => m.plant_eraseStart 1]
    rfl
  · rw [Mod.when_keeps Mod.plant _ fun m => m.plant_logWait _]
    simp

/-! ## Frames -/

@[simp] theorem Mod.plant_queueMarks (m : Mod) (q : Nat) : (m.queueMarks q).plant = m.plant := by
  unfold Mod.queueMarks Mod.q26Marks
  split
  · rw [Mod.when_keeps Mod.plant _ fun m => m.plant_logWait _, Mod.plant_fillMarks]
  · exact m.plant_fillMarks _ _

@[simp] theorem Mod.plant_enqueue (m : Mod) (q bytes peer seq : Nat) : (m.enqueue q bytes peer seq).plant = m.plant :=
  (Mod.plant_queueMarks _ q).trans (m.plant_queues _)

@[simp] theorem Mod.plant_dequeue (m : Mod) (q : Nat) : (m.dequeue q).plant = m.plant :=
  (Mod.plant_queueMarks _ q).trans (m.plant_queues _)

/-- A frame of class 0 to 2 puts itself out, and may count in EXP_LATE. -/
theorem Mod.cutIn_cases (m : Mod) (o : Out) : ∃ (x : Mod) (l : List Out) (n : Net), (x = m ∨ x = m.inc E.EXP_LATE 0) ∧
    m.cutIn o = { x with out := l, net := n } := by
  unfold Mod.cutIn
  dsimp only
  split
  · exact ⟨m, _, _, .inl rfl, rfl⟩
  · split
    · exact ⟨m, _, _, .inl rfl, rfl⟩
    · split
      · exact ⟨m, _, _, .inl rfl, rfl⟩
      · split
        · exact ⟨m, _, _, .inl rfl, rfl⟩
        · exact ⟨m.inc E.EXP_LATE 0, _, _, .inr rfl, rfl⟩

@[simp] theorem Mod.plant_cutIn (m : Mod) (o : Out) : (m.cutIn o).plant = m.plant := by
  obtain ⟨x, l, n, rfl | rfl, e⟩ := m.cutIn_cases o
  · rw [e]; rfl
  · rw [e]; rfl

theorem OnlyFams.cutIn (m : Mod) (o : Out) : OnlyFams outFams m (m.cutIn o) := by
  obtain ⟨x, l, n, rfl | rfl, e⟩ := m.cutIn_cases o
  · rw [e]; exact .refl _ x
  · rw [e]; exact OnlyFams.setV (f := E.EXP_LATE) m 0 _ (by simp [outFams])

@[simp] theorem Mod.plant_useCredit (m : Mod) (cls credits : Nat) (o : Out) : (m.useCredit cls credits o).plant = m.plant := by
  unfold Mod.useCredit
  split <;> rfl

@[simp] theorem Mod.plant_freeClass (m : Mod) (l cls credits : Nat) : (m.freeClass l cls credits).plant = m.plant := by
  unfold Mod.freeClass
  split <;> rfl

@[simp] theorem Mod.plant_launch (m : Mod) (f : HeldF) : (m.launch f).plant = m.plant := by
  unfold Mod.launch
  split
  · rfl
  · split <;> simp

@[simp] theorem Mod.plant_drrPick (k n : Nat) (m : Mod) : (Mod.drrPick k n m).1.plant = m.plant := by
  induction n generalizing m with
  | zero => rfl
  | succ n ih =>
    rw [Mod.drrPick]
    split
    · split
      · rfl
      · exact (ih _).trans rfl
    · exact (ih _).trans rfl

@[simp] theorem Mod.plant_takeHeld (m : Mod) (f : HeldF) : (m.takeHeld f).plant = m.plant := by
  unfold Mod.takeHeld
  split <;> simp

@[simp] theorem Mod.plant_serveLink (k n : Nat) (m : Mod) : (Mod.serveLink k n m).plant = m.plant := by
  induction n generalizing m with
  | zero => rfl
  | succ n ih =>
    have picked := Mod.plant_drrPick k 40 m
    rw [Mod.serveLink]
    split
    · split
      · rename_i p f hp
        rw [hp] at picked
        change (Mod.serveLink k n (p.takeHeld f)).plant = m.plant
        rw [ih, Mod.plant_takeHeld, picked]
      · rename_i p hp
        rw [hp] at picked
        exact picked
    · rfl

@[simp] theorem Mod.plant_sendVia (via : Option Nat) (m : Mod) (cls credits : Nat) (o : Out) :
    (m.sendVia via cls credits o).plant = m.plant := by
  have left : ∀ (x : Mod) (f : HeldF), (if x.mayLaunch f then x.launch f else
      let y := if via.isNone then x.enqueue cls o.bytes 0xFFFF 0 else x
      { y with net := { y.net with held := y.net.held ++ [f] } }).plant = x.plant := by
    intro x f
    split
    · exact x.plant_launch f
    · dsimp only
      split <;> simp
  unfold Mod.sendVia
  split
  · exact m.plant_cutIn o
  · split
    · exact (left _ _).trans (Mod.plant_serveLink _ _ m)
    · exact left _ _

@[simp] theorem Mod.plant_transmitOn (m : Mod) (link : Option Nat) (par : Bool) (cls typ dst : Nat) (content : List Nat) :
    (m.transmitOn link par cls typ dst content).plant = m.plant := by
  unfold Mod.transmitOn Mod.sendFrame Mod.seqStep
  simp

@[simp] theorem Mod.plant_originateIn (m : Mod) (par : Bool) (cls typ dst : Nat) (content : List Nat) :
    (m.originateIn par cls typ dst content).plant = m.plant := by
  unfold Mod.originateIn Mod.expHold
  split
  · rfl
  · split <;> simp

@[simp] theorem Mod.plant_originate (m : Mod) (cls typ dst : Nat) (content : List Nat) :
    (m.originate cls typ dst content).plant = m.plant := m.plant_originateIn _ _ _ _ _

theorem OnlyFams.transmitOn (m : Mod) (link : Option Nat) (par : Bool) {cls : Nat} (typ dst : Nat) (content : List Nat) (hc : cls ≤ 2) :
    OnlyFams outFams m (m.transmitOn link par cls typ dst content) := by
  have counted : ∀ x : Mod, OnlyFams outFams x (x.seqStep cls) := fun x =>
    OnlyFams.of_od (x := x.inc E.CLS_TX cls) (.setV (f := E.CLS_TX) x cls _ (by simp [outFams])) rfl
  unfold Mod.transmitOn Mod.sendFrame Mod.sendVia
  simp only [hc, if_true]
  exact (OnlyFams.cutIn m _).trans (counted _)

/-- A frame of class 0 to 2 that the module originates leaves, or is held for its cycle (R362). -/
theorem OnlyFams.originateIn (m : Mod) (par : Bool) {cls : Nat} (typ dst : Nat) (content : List Nat) (hc : cls ≤ 2) :
    OnlyFams outFams m (m.originateIn par cls typ dst content) := by
  unfold Mod.originateIn
  split
  · exact .refl _ m
  · split
    · rename_i net _
      exact .transmitOn { m with net := net } none par typ dst content hc
    · exact .setV (f := E.EXP_DEFER) (m.expHold _) 0 _ (by simp [outFams])

theorem OnlyFams.originate (m : Mod) {cls : Nat} (typ dst : Nat) (content : List Nat) (hc : cls ≤ 2) :
    OnlyFams outFams m (m.originate cls typ dst content) := .originateIn m _ typ dst content hc

/-! ## The capture's trigger -/

@[simp] theorem Mod.plant_capTrigger (m : Mod) (bits t : Nat) : (m.capTrigger bits t).plant = m.plant := by
  have placed : ∀ c t : Nat, (m.capPlace c t).plant = m.plant := fun c t => by
    unfold Mod.capPlace
    dsimp only
    split <;> rfl
  have told : ∀ (x : Mod) (t : Nat), (x.capTell t).plant = x.plant := fun x t =>
    Mod.when_keeps Mod.plant _ (fun a => a.plant_originate _ _ _ _) _ x
  unfold Mod.capTrigger
  dsimp only
  split
  · rfl
  · split
    · rw [told, placed]
    · split <;> rfl

/-- A trigger touches the capture's entries, and those of the frame that tells the ring of it. -/
theorem OnlyFams.capTrigger (m : Mod) (bits t : Nat) : OnlyFams (outFams ++ capFams) m (m.capTrigger bits t) := by
  have entry : ∀ (x : Mod) (f : Fam) (i : Nat) (v : Val), f ∈ capFams → OnlyFams (outFams ++ capFams) x (x.setV f i v) :=
    fun x f i v h => .setV x i v (List.mem_append_right _ h)
  have placed : ∀ c t : Nat, OnlyFams (outFams ++ capFams) m (m.capPlace c t) := fun c t => by
    have shown : ∀ x : Mod, OnlyFams (outFams ++ capFams) x
        ((((x.setN E.CAP_STATE 0 3).setN E.CAP_TRIG_T 0 t).setN E.CAP_TRIG_CAUSE 0 c).inc E.CAP_NUM 0) := fun x =>
      (((entry x E.CAP_STATE 0 _ (by simp [capFams])).trans (entry _ E.CAP_TRIG_T 0 _ (by simp [capFams]))).trans
        (entry _ E.CAP_TRIG_CAUSE 0 _ (by simp [capFams]))).trans (entry _ E.CAP_NUM 0 _ (by simp [capFams]))
    unfold Mod.capPlace
    dsimp only
    split
    · exact (entry m E.CAP_FLAGS 0 _ (by simp [capFams])).trans (shown _)
    · exact (OnlyFams.of_od (.refl _ m) rfl).trans (shown _)
  have told : ∀ (x : Mod) (t : Nat), OnlyFams (outFams ++ capFams) x (x.capTell t) := fun x t =>
    .when x _ ((OnlyFams.originate x _ _ _ (by decide)).mono (List.subset_append_left _ _))
  unfold Mod.capTrigger
  dsimp only
  split
  · exact .refl _ m
  · split
    · exact (placed _ _).trans (told _ _)
    · split
      · exact entry m E.CAP_TRIG_CAUSE 0 _ (by simp [capFams])
      · exact entry m E.CAP_TRIG_LOST 0 _ (by simp [capFams])

/-! ## Timers -/

theorem SameTimers.refl (Ts : List Tmr) (m : Mod) : SameTimers Ts m m := fun _ _ => rfl

theorem SameTimers.trans {Ts : List Tmr} {a b c : Mod} (h : SameTimers Ts a b) (g : SameTimers Ts b c) : SameTimers Ts a c :=
  fun T hT => (g T hT).trans (h T hT)

theorem SameTimers.mono {Ts Us : List Tmr} {a b : Mod} (h : SameTimers Ts a b) (hs : Ts ⊆ Us) : SameTimers Us a b :=
  fun T hT => h T fun hm => hT (hs hm)

theorem SameTimers.of_timers {Ts : List Tmr} {a b : Mod} (h : b.timers = a.timers) : SameTimers Ts a b := fun T _ => by
  unfold Mod.deadline
  rw [h]

theorem SameTimers.arm {Ts : List Tmr} (m : Mod) {T : Tmr} (d : Nat) (hT : T ∈ Ts) : SameTimers Ts m (m.arm T d) := fun _ hU =>
  Mod.deadline_arm_ne m d fun e => hU (e ▸ hT)

theorem SameTimers.disarm {Ts : List Tmr} (m : Mod) {T : Tmr} (hT : T ∈ Ts) : SameTimers Ts m (m.disarm T) := fun _ hU =>
  Mod.deadline_disarm_ne m fun e => hU (e ▸ hT)

theorem SameTimers.when {Ts : List Tmr} (m : Mod) (c : Bool) {f : Mod → Mod} (hf : SameTimers Ts m (f m)) :
    SameTimers Ts m (m.when c f) := by
  cases c
  · exact .refl Ts m
  · exact hf

theorem Mod.originateIn_timers (m : Mod) (par : Bool) {cls : Nat} (typ dst : Nat) (content : List Nat) (hc : cls ≤ 2) :
    (m.originateIn par cls typ dst content).timers = m.timers := by
  have sent : ∀ (x : Mod), (x.transmitOn none par cls typ dst content).timers = x.timers := fun x => by
    have cut : ∀ o : Out, (x.cutIn o).timers = x.timers := fun o => by
      obtain ⟨y, l, n, rfl | rfl, e⟩ := x.cutIn_cases o
      · rw [e]
      · rw [e]; rfl
    unfold Mod.transmitOn Mod.sendFrame Mod.sendVia Mod.seqStep
    simp only [hc, if_true]
    exact cut _
  unfold Mod.originateIn
  split
  · rfl
  · split
    · exact sent _
    · rfl

theorem Mod.capTrigger_timers (m : Mod) (bits t : Nat) : (m.capTrigger bits t).timers = m.timers := by
  have placed : ∀ c t : Nat, (m.capPlace c t).timers = m.timers := fun c t => by
    unfold Mod.capPlace
    dsimp only
    split <;> rfl
  have told : ∀ (x : Mod) (t : Nat), (x.capTell t).timers = x.timers := fun x t =>
    Mod.when_keeps Mod.timers _ (fun a => a.originateIn_timers _ _ _ _ (by decide)) _ x
  unfold Mod.capTrigger
  dsimp only
  split
  · rfl
  · split
    · rw [told, placed]
    · split <;> rfl

/-! ## Gate-off -/

theorem OnlyFams.phaseOff (m : Mod) (p st : Nat) : OnlyFams stageFams m (m.phaseOff p st) :=
  OnlyFams.of_od (x := (((m.setN E.PH_STATE p st).setN E.PH_SLOT p 0xFF).setQ E.PH_IREF p 0).setQ E.PH_I p 0)
    (((((OnlyFams.refl _ m).set (f := E.PH_STATE) (by simp [stageFams])).set (f := E.PH_SLOT) (by simp [stageFams])).set
      (f := E.PH_IREF) (by simp [stageFams])).set (f := E.PH_I) (by simp [stageFams])) rfl

theorem OnlyFams.countPhases (m : Mod) : OnlyFams stageFams m m.countPhases :=
  (((OnlyFams.refl _ m).set (f := E.STG_NACT) (by simp [stageFams])).set (f := E.STG_NACT) (by simp [stageFams])).trans
    (.each (fun k x => .setV (f := E.IN_PHASES) x k _ (by simp [stageFams])) 4 _)

/-- R170: a phase that switches is SHED. -/
def Mod.haltPhase (m : Mod) (p : Nat) : Mod :=
  let st := m.n E.PH_STATE p
  let m := m.disarm (.arming p)
  if st == 3 || st == 4 || st == 5 || st == 7 then m.phaseOff p 1 else m

/-- R170: adds, sheds, re-spacing and rotation of a stage are abandoned. -/
def Stg.halted (x : Stg) : Stg :=
  { x with rotPending := false, rotWanted := false, rotLeft := 0, respLeft := 0, lim := 0, stopping := false, endStop := false,
           refs := [] }

/-- R170: no group of the stage adds. -/
def Mod.haltAdds (m : Mod) (g : Nat) : Mod :=
  if g = 0 then m.each 4 (fun k m => m.modGrp k (fun x => { x with adding := false }))
  else m.modGrp 4 (fun x => { x with adding := false })

theorem Mod.abandonStage_eq (m : Mod) (g : Nat) :
    m.abandonStage g = ((((stagePhases g).foldl Mod.haltPhase m).modStg g Stg.halted).haltAdds g).countPhases := rfl

theorem OnlyFams.modStg (fs : List Fam) (m : Mod) (g : Nat) (f : Stg → Stg) : OnlyFams fs m (m.modStg g f) := fun _ _ => rfl

theorem OnlyFams.haltPhase (m : Mod) (p : Nat) : OnlyFams stageFams m (m.haltPhase p) := by
  unfold Mod.haltPhase
  dsimp only
  split
  · exact .phaseOff (m.disarm (.arming p)) p 1
  · exact fun _ _ => rfl

theorem Mod.haltAdds_od (m : Mod) (g : Nat) : (m.haltAdds g).od = m.od := by
  unfold Mod.haltAdds
  split
  · exact Mod.each_keeps Mod.od _ (fun k x => x.modGrp_od k _) 4 m
  · rfl

/-- R170: abandoning a stage's adds and sheds turns its phases off and counts them. -/
theorem OnlyFams.abandonStage (m : Mod) (g : Nat) : OnlyFams stageFams m (m.abandonStage g) := by
  rw [Mod.abandonStage_eq]
  exact (((OnlyFams.foldl OnlyFams.haltPhase _ m).trans (.modStg _ _ g _)).of_od (Mod.haltAdds_od _ g)).trans (.countPhases _)

/-- R27: what a gate-off notes of the stage. -/
def Stg.gatedOff (c : Nat) (x : Stg) : Stg := { x with gate := Sys2Proof.setBit (Sys2Proof.setBit x.gate c true) 5 true }

/-- R27: the entries of a stage that is gated off. -/
def Mod.gateShow (m : Mod) (g : Nat) : Mod :=
  let m := m.setN E.SST_STATE g (if m.n E.SST_STATE g == 5 then 5 else 0)
  let m := (m.disarm (.sstDelay (g == 0))).disarm (.sspDelay (g == 0))
  (m.setN E.FB_ACTIVE g 0).when (g == 1) (fun m => if m.n E.BRIDGE_STATE 0 == 0 then m else m.setN E.BRIDGE_STATE 0 0)

theorem Mod.gateOff_eq (m : Mod) (g c : Nat) :
    m.gateOff g c = ((m.abandonStage g).modStg g (Stg.gatedOff c)).gateShow g := rfl

theorem OnlyFams.gateShow (m : Mod) (g : Nat) : OnlyFams stageFams m (m.gateShow g) := by
  have entries : ∀ st : Nat, OnlyFams stageFams m
      ((((m.setN E.SST_STATE g st).disarm (.sstDelay (g == 0))).disarm (.sspDelay (g == 0))).setN E.FB_ACTIVE g 0) := fun st =>
    OnlyFams.of_od (x := (m.setN E.SST_STATE g st).setN E.FB_ACTIVE g 0)
      (((OnlyFams.refl _ m).set (f := E.SST_STATE) (by simp [stageFams])).set (f := E.FB_ACTIVE) (by simp [stageFams])) rfl
  have bridge : ∀ x : Mod, OnlyFams stageFams x (if x.n E.BRIDGE_STATE 0 == 0 then x else x.setN E.BRIDGE_STATE 0 0) := fun x => by
    split
    · exact .refl _ x
    · exact .setV (f := E.BRIDGE_STATE) x 0 _ (by simp [stageFams])
  exact (entries _).trans (.when _ _ (bridge _))

/-- R27: a gate-off touches the stages' entries alone. -/
theorem OnlyFams.gateOff (m : Mod) (g c : Nat) : OnlyFams stageFams m (m.gateOff g c) := by
  rw [Mod.gateOff_eq]
  exact ((OnlyFams.abandonStage m g).trans (.modStg _ _ g _)).trans (.gateShow _ g)

theorem OnlyFams.gateOffBoth (m : Mod) (c : Nat) : OnlyFams stageFams m (m.gateOffBoth c) :=
  (OnlyFams.gateOff m 0 c).trans (.gateOff _ 1 c)

/-- The plant without what a gate-off, a SAFE force and the stop of R112 touch. -/
def Mod.site (m : Mod) : Mod := { m.plant with stg := [], phs := [], grp := [], intents := [], modes := {}, safe := {} }

theorem Mod.site_of_plant {m m' : Mod} (h : m'.plant = m.plant) : m'.site = m.site := by
  unfold Mod.site
  rw [h]

/-- The plant, and the site, without the states of the fault blocks. -/
def Mod.bulk (m : Mod) : Mod := { m.plant with flt := [] }
def Mod.hull (m : Mod) : Mod := { m.site with flt := [] }

theorem Mod.bulk_of_plant {m m' : Mod} (h : m'.plant = m.plant) : m'.bulk = m.bulk := by
  unfold Mod.bulk
  rw [h]

theorem Mod.hull_of_site {m m' : Mod} (h : m'.site = m.site) : m'.hull = m.hull := by
  unfold Mod.hull
  rw [h]

theorem Mod.hull_of_bulk {m m' : Mod} (h : m'.bulk = m.bulk) : m'.hull = m.hull := by
  have without : ∀ x : Mod, x.hull = { x.bulk with stg := [], phs := [], grp := [], intents := [], modes := {}, safe := {} } := fun _ => rfl
  rw [without, without, h]

@[simp] theorem Mod.bulk_modFlt (m : Mod) (b : Nat) (f : Flt → Flt) : (m.modFlt b f).bulk = m.bulk := rfl
@[simp] theorem Mod.bulk_setV (m : Mod) (f : Fam) (i : Nat) (v : Val) : (m.setV f i v).bulk = m.bulk := rfl
@[simp] theorem Mod.bulk_arm (m : Mod) (T : Tmr) (d : Nat) : (m.arm T d).bulk = m.bulk := rfl
@[simp] theorem Mod.bulk_disarm (m : Mod) (T : Tmr) : (m.disarm T).bulk = m.bulk := rfl

theorem Mod.stg_of_bulk {m m' : Mod} (h : m'.bulk = m.bulk) : m'.stg = m.stg := by
  have same := congrArg Mod.stg h
  exact same

theorem Mod.safe_of_bulk {m m' : Mod} (h : m'.bulk = m.bulk) : m'.safe = m.safe := by
  have same := congrArg Mod.safe h
  exact same

theorem Mod.modes_of_bulk {m m' : Mod} (h : m'.bulk = m.bulk) : m'.modes = m.modes := by
  have same := congrArg Mod.modes h
  exact same

theorem Mod.flt_of_site {m m' : Mod} (h : m'.site = m.site) : m'.flt = m.flt := by
  have same := congrArg Mod.flt h
  exact same

theorem Mod.tb_of_hull {m m' : Mod} (h : m'.hull = m.hull) : m'.tb = m.tb := by
  have same := congrArg Mod.tb h
  exact same

theorem Mod.phase_of_hull {m m' : Mod} (h : m'.hull = m.hull) : m'.phase = m.phase := by
  have same := congrArg Mod.phase h
  exact same

theorem Mod.prot_of_hull {m m' : Mod} (h : m'.hull = m.hull) : m'.prot = m.prot := by
  have same := congrArg Mod.prot h
  exact same

theorem Mod.qual_of_hull {m m' : Mod} (h : m'.hull = m.hull) : m'.qual = m.qual := by
  have same := congrArg Mod.qual h
  exact same

theorem Mod.journal_of_hull {m m' : Mod} (h : m'.hull = m.hull) : m'.journal = m.journal := by
  have same := congrArg Mod.journal h
  exact same

theorem Mod.usb_of_hull {m m' : Mod} (h : m'.hull = m.hull) : m'.usb = m.usb := by
  have same := congrArg Mod.usb h
  exact same

theorem Mod.sns_of_hull {m m' : Mod} (h : m'.hull = m.hull) : m'.sns = m.sns := by
  have same := congrArg Mod.sns h
  exact same

theorem Mod.prof_of_hull {m m' : Mod} (h : m'.hull = m.hull) : m'.prof = m.prof := by
  have same := congrArg Mod.prof h
  exact same

theorem Mod.bms_of_hull {m m' : Mod} (h : m'.hull = m.hull) : m'.bms = m.bms := by
  have same := congrArg Mod.bms h
  exact same

theorem Mod.lockstep_of_hull {m m' : Mod} (h : m'.hull = m.hull) : m'.lockstep = m.lockstep := by
  have same := congrArg Mod.lockstep h
  exact same

theorem Mod.sens_of_hull {m m' : Mod} (h : m'.hull = m.hull) : m'.sens = m.sens := by
  have same := congrArg Mod.sens h
  exact same

theorem Mod.stg_of_plant {m m' : Mod} (h : m'.plant = m.plant) : m'.stg = m.stg := Mod.stg_of_bulk (Mod.bulk_of_plant h)

theorem Mod.flt_of_plant {m m' : Mod} (h : m'.plant = m.plant) : m'.flt = m.flt := Mod.flt_of_site (Mod.site_of_plant h)

@[simp] theorem Mod.site_modStg (m : Mod) (g : Nat) (f : Stg → Stg) : (m.modStg g f).site = m.site := rfl
@[simp] theorem Mod.site_modPh (m : Mod) (p : Nat) (f : Ph → Ph) : (m.modPh p f).site = m.site := rfl
@[simp] theorem Mod.site_modGrp (m : Mod) (k : Nat) (f : Grp → Grp) : (m.modGrp k f).site = m.site := rfl

@[simp] theorem Mod.plant_countPhases (m : Mod) : m.countPhases.plant = m.plant := by
  have shown : ∀ (k v : Nat) (x : Mod), (x.setN E.IN_PHASES k v).plant = x.plant := fun _ _ _ => rfl
  unfold Mod.countPhases
  dsimp only
  rw [Mod.each_keeps Mod.plant _ fun k x => shown k _ x]
  rfl

theorem Mod.haltPhase_keeps (m : Mod) (p : Nat) : (m.haltPhase p).site = m.site ∧ (m.haltPhase p).stg = m.stg := by
  unfold Mod.haltPhase
  dsimp only
  split <;> exact ⟨rfl, rfl⟩

theorem Mod.haltAdds_keeps (m : Mod) (g : Nat) : (m.haltAdds g).site = m.site ∧ (m.haltAdds g).stg = m.stg := by
  have site : ∀ (k : Nat) (x : Mod), (x.modGrp k fun y => { y with adding := false }).site = x.site := fun _ _ => rfl
  have stg : ∀ (k : Nat) (x : Mod), (x.modGrp k fun y => { y with adding := false }).stg = x.stg := fun _ _ => rfl
  unfold Mod.haltAdds
  split
  · exact ⟨Mod.each_keeps Mod.site _ site 4 m, Mod.each_keeps Mod.stg _ stg 4 m⟩
  · exact ⟨rfl, rfl⟩

@[simp] theorem Mod.site_abandonStage (m : Mod) (g : Nat) : (m.abandonStage g).site = m.site := by
  rw [Mod.abandonStage_eq, Mod.site_of_plant (Mod.plant_countPhases _), (Mod.haltAdds_keeps _ g).1, Mod.site_modStg]
  exact foldl_keeps Mod.site _ (fun x p => (x.haltPhase_keeps p).1) _ m

theorem Mod.abandonStage_stg (m : Mod) (g : Nat) : (m.abandonStage g).stg = modAt {} m.stg g Stg.halted := by
  rw [Mod.abandonStage_eq, Mod.stg_of_plant (Mod.plant_countPhases _), (Mod.haltAdds_keeps _ g).2, Mod.modStg_stg,
    foldl_keeps Mod.stg Mod.haltPhase (fun x p => (x.haltPhase_keeps p).2)]

theorem Mod.gateShow_plant (m : Mod) (g : Nat) : (m.gateShow g).plant = m.plant := by
  have bridge : ∀ x : Mod, (if x.n E.BRIDGE_STATE 0 == 0 then x else x.setN E.BRIDGE_STATE 0 0).plant = x.plant := fun x => by
    split <;> rfl
  unfold Mod.gateShow
  dsimp only
  rw [Mod.when_keeps Mod.plant _ bridge]
  rfl

@[simp] theorem Mod.site_gateOff (m : Mod) (g c : Nat) : (m.gateOff g c).site = m.site := by
  rw [Mod.gateOff_eq, Mod.site_of_plant (Mod.gateShow_plant _ g), Mod.site_modStg, Mod.site_abandonStage]

theorem Mod.gateOff_stg (m : Mod) (g c : Nat) : (m.gateOff g c).stg = modAt {} (modAt {} m.stg g Stg.halted) g (Stg.gatedOff c) := by
  rw [Mod.gateOff_eq, Mod.stg_of_plant (Mod.gateShow_plant _ g), Mod.modStg_stg, Mod.abandonStage_stg]

theorem Stg.gatedOff_gate (c : Nat) (x : Stg) : (x.gatedOff c).gate ≠ 0 := fun h => by
  have held := bit_setBit_same (Sys2Proof.setBit x.gate c true) 5 true
  rw [show Sys2Proof.setBit (Sys2Proof.setBit x.gate c true) 5 true = 0 from h] at held
  exact absurd held (by decide)

/-- A stage that is gated off is gated. -/
theorem Mod.gateOff_gated (m : Mod) (g c : Nat) : (m.gateOff g c).gated g = true := by
  unfold Mod.gated Mod.stgOf
  rw [Mod.gateOff_stg, getD_modAt_same]
  exact bne_iff_ne.2 (Stg.gatedOff_gate c _)

/-- A gate-off leaves the other stage as it is. -/
theorem Mod.gateOff_stgOf_ne (m : Mod) {g j : Nat} (c : Nat) (h : j ≠ g) : (m.gateOff g c).stgOf j = m.stgOf j := by
  unfold Mod.stgOf
  rw [Mod.gateOff_stg, getD_modAt_ne _ _ _ h, getD_modAt_ne _ _ _ h]

theorem Mod.gated_of_stg {m m' : Mod} (h : m'.stg = m.stg) (g : Nat) : m'.gated g = m.gated g := by
  unfold Mod.gated Mod.stgOf
  rw [h]

theorem Mod.gateOffBoth_gated (m : Mod) (c : Nat) : (m.gateOffBoth c).gated 0 = true ∧ (m.gateOffBoth c).gated 1 = true := by
  refine ⟨?_, Mod.gateOff_gated _ 1 c⟩
  have off := m.gateOff_gated 0 c
  unfold Mod.gated at off ⊢
  rwa [Mod.gateOffBoth, Mod.gateOff_stgOf_ne _ c (by decide)]

end Sys2Proof.Machine
end

section
/-! PROOF. What a SAFE force (R296) and a source that is raised or lowered (R477, R522) leave as it was. -/

set_option Elab.async false

namespace Sys2Proof.Machine

open Sys2Proof

/-! ## Entries -/

theorem Mod.bitOf_setBit_same (m : Mod) {f : Fam} {i : Nat} (k : Nat) (b : Bool) (h : i < f.count) :
    (m.setBit f i k b).bitOf f i k = b := by
  unfold Mod.bitOf
  rw [Mod.setBit_eq, Mod.n_setV_same _ _ _ _ h]
  exact bit_setBit_same _ k b

theorem Mod.bitOf_setBit_ne (m : Mod) {f : Fam} {i : Nat} {k j : Nat} (b : Bool) (h : i < f.count) (hj : j ≠ k) :
    (m.setBit f i k b).bitOf f i j = m.bitOf f i j := by
  unfold Mod.bitOf
  rw [Mod.setBit_eq, Mod.n_setV_same _ _ _ _ h]
  exact bit_setBit_ne _ b hj

@[simp] theorem Mod.n_inc_same (m : Mod) {f : Fam} {i : Nat} (h : i < f.count) : (m.inc f i).n f i = inc32 (m.n f i) := by
  rw [Mod.inc_eq, Mod.n_setV_same _ _ _ _ h]
  rfl

@[simp] theorem Mod.n_inc_ne (m : Mod) {f g : Fam} {i j : Nat} (h : g.key j ≠ f.key i) : (m.inc f i).n g j = m.n g j := by
  rw [Mod.inc_eq, Mod.n_setV_ne _ _ _ _ _ _ h]

@[simp] theorem Mod.n_setN_same (m : Mod) {f : Fam} {i : Nat} (v : Nat) (h : i < f.count) : (m.setN f i v).n f i = v := by
  rw [Mod.setN_eq, Mod.n_setV_same _ _ _ _ h]
  rfl

@[simp] theorem Mod.n_setN_ne (m : Mod) {f g : Fam} {i j : Nat} (v : Nat) (h : g.key j ≠ f.key i) : (m.setN f i v).n g j = m.n g j := by
  rw [Mod.setN_eq, Mod.n_setV_ne _ _ _ _ _ _ h]

/-- An entry's bit depends on the store alone. -/
theorem Mod.bitOf_of_od {m m' : Mod} (h : m'.od = m.od) (f : Fam) (i k : Nat) : m'.bitOf f i k = m.bitOf f i k := by
  simp only [Mod.bitOf, Mod.n, Mod.getV, h]

theorem OnlyFams.n {fs : List Fam} {a b : Mod} (h : OnlyFams fs a b) (f : Fam) (i : Nat) (hk : f.key i ∉ fs.flatMap Fam.keys) :
    b.n f i = a.n f i := SameOd.n h f i hk

theorem OnlyFams.bitOf {fs : List Fam} {a b : Mod} (h : OnlyFams fs a b) (f : Fam) (i k : Nat)
    (hk : f.key i ∉ fs.flatMap Fam.keys) : b.bitOf f i k = a.bitOf f i k := congrArg (bit · k) (h.n f i hk)

@[simp] theorem Mod.alertSet_od (m : Mod) (k : Nat) : (m.alertSet k).od = m.od := rfl

/-! ## The outputs of SAFE -/

theorem OnlyFams.ilko (m : Mod) : OnlyFams [E.ILKO_STATE] m m.ilko := .setV (f := E.ILKO_STATE) m 0 _ (by simp)

@[simp] theorem Mod.plant_ilko (m : Mod) : m.ilko.plant = m.plant := rfl

theorem OnlyFams.contOff (m : Mod) : OnlyFams [E.CONT_STATE, E.CONT_I] m m.contOff := by
  have off : OnlyFams [E.CONT_STATE, E.CONT_I] m { m with safe := { m.safe with contOn := false } } := fun _ _ => rfl
  have state : ∀ (x : Mod) (c : Bool), OnlyFams [E.CONT_STATE, E.CONT_I] x (x.when c (·.setN E.CONT_STATE 0 0)) := fun x c =>
    .when x c (.setV (f := E.CONT_STATE) x 0 _ (by simp))
  have coil : ∀ x : Mod, OnlyFams [E.CONT_STATE, E.CONT_I] x ((x.setQ E.CONT_I 0 0).disarm .contPull) := fun x =>
    OnlyFams.of_od (x := x.setQ E.CONT_I 0 0) (.setV (f := E.CONT_I) x 0 _ (by simp)) rfl
  exact (off.trans (state _ _)).trans (coil _)

@[simp] theorem Mod.site_contOff (m : Mod) : m.contOff.site = m.site := by
  have shown : ∀ x : Mod, (x.setN E.CONT_STATE 0 0).site = x.site := fun _ => rfl
  unfold Mod.contOff
  dsimp only
  change (Mod.when _ _ _).site = _
  rw [Mod.when_keeps Mod.site _ shown]
  rfl

/-! ## SAFE force (R296, R113) -/

/-- What a SAFE force touches once its cause stands. -/
def forceEffects : List Fam :=
  [E.SS_STATE, E.ILKO_STATE, E.CONT_STATE, E.CONT_I, E.INT_PENDING, E.INT_NEXT_T, E.INT_PB_V] ++
    (stageFams ++ (logFams ++ (outFams ++ capFams)))

/-- R63, R296: a cause that arises is recorded and told. -/
def Mod.forceNoted (m : Mod) (was : Nat) (c : Nat) : Mod :=
  m.when (!bit was c) (fun m => ((m.note E.SAFE_FORCE_SRC 0 (.num was)).alertSet 4).capTrigger 0x20 m.tb)

/-- R192: a SAFE force withdraws every intent. -/
def Mod.dropIntents (m : Mod) : Mod :=
  ((({ m with intents := [] } : Mod).setN E.INT_PENDING 0 0).setN E.INT_NEXT_T 0 0).setQ E.INT_PB_V 0 0

/-- R112, R113: the stop of a SAFE force, without its ramp. -/
def Mod.forceStop (m : Mod) : Mod :=
  if m.n E.SS_STATE 0 == 0 || m.n E.SS_STATE 0 == 1 then
    ((m.setN E.SS_STATE 0 2).disarm .ssRamp).arm .ssOpen (m.tb + us 100)
  else if m.n E.SS_STATE 0 == 2 then m
  else m.when m.contHeld Mod.contOff

/-- A SAFE force tells the ring of its cause. -/
def Mod.forceTold (m : Mod) (was c : Nat) : Mod :=
  m.when (!bit was c) (·.originate 2 0x20 0xFFFF ([if c = 2 then 3 else 2, 0xFF, c, 0] ++ leBytes 8 m.ntime ++ leBytes 4 0))

/-- The cause of a SAFE force stands, and waits for the mode tick (R63). -/
def Mod.forceCause (m : Mod) (c : Nat) : Mod :=
  { m.setBit E.SAFE_FORCE_SRC 0 c true with modes := { m.modes with forceSeen := true } }

theorem Mod.force_eq (m : Mod) (c : Nat) :
    m.force c = ((((((m.forceCause c).forceNoted (m.n E.SAFE_FORCE_SRC 0) c).gateOffBoth 0).forceTold (m.n E.SAFE_FORCE_SRC 0) c).ilko).dropIntents).forceStop :=
  rfl

theorem OnlyFams.forceNoted (m : Mod) (was c : Nat) : OnlyFams (logFams ++ (outFams ++ capFams)) m (m.forceNoted was c) := by
  have recorded : OnlyFams (logFams ++ (outFams ++ capFams)) m ((m.note E.SAFE_FORCE_SRC 0 (.num was)).alertSet 4) :=
    ((OnlyFams.note m _ _ _).mono (List.subset_append_left _ _)).of_od (Mod.alertSet_od _ _)
  exact .when m _ (recorded.trans ((OnlyFams.capTrigger _ _ _).mono (List.subset_append_right _ _)))

theorem OnlyFams.forceTold (m : Mod) (was c : Nat) : OnlyFams outFams m (m.forceTold was c) :=
  .when m _ (.originate m _ _ _ (by decide))

theorem OnlyFams.dropIntents (m : Mod) : OnlyFams [E.INT_PENDING, E.INT_NEXT_T, E.INT_PB_V] m m.dropIntents := by
  have dropped : OnlyFams [E.INT_PENDING, E.INT_NEXT_T, E.INT_PB_V] m { m with intents := [] } := fun _ _ => rfl
  exact ((dropped.set (f := E.INT_PENDING) (by simp)).set (f := E.INT_NEXT_T) (by simp)).set (f := E.INT_PB_V) (by simp)

theorem OnlyFams.forceStop (m : Mod) : OnlyFams [E.SS_STATE, E.CONT_STATE, E.CONT_I] m m.forceStop := by
  unfold Mod.forceStop
  split
  · exact OnlyFams.of_od (x := m.setN E.SS_STATE 0 2) (.setV (f := E.SS_STATE) m 0 _ (by simp)) rfl
  · split
    · exact .refl _ m
    · exact .when m _ ((OnlyFams.contOff m).mono (by simp))

theorem OnlyFams.forceEffects (m : Mod) (c : Nat) : OnlyFams forceEffects (m.forceCause c) (m.force c) := by
  have stages : stageFams ⊆ Machine.forceEffects := by
    unfold Machine.forceEffects
    exact fun _ h => by simp [h]
  have told : outFams ⊆ Machine.forceEffects := by
    unfold Machine.forceEffects
    exact fun _ h => by simp [h]
  have noted : logFams ++ (outFams ++ capFams) ⊆ Machine.forceEffects := by
    unfold Machine.forceEffects
    exact fun _ h => by simp only [List.mem_append] at h ⊢; tauto
  rw [Mod.force_eq]
  refine (((((OnlyFams.forceNoted _ _ _).mono noted).trans ((OnlyFams.gateOffBoth _ _).mono stages)).trans
    ((OnlyFams.forceTold _ _ _).mono told)).trans ((OnlyFams.ilko _).mono ?_)).trans
    (((OnlyFams.dropIntents _).mono ?_).trans ((OnlyFams.forceStop _).mono ?_))
  all_goals simp [Machine.forceEffects]

theorem OnlyFams.force (m : Mod) (c : Nat) : OnlyFams forceFams m (m.force c) := by
  have cause : OnlyFams forceFams m (m.forceCause c) :=
    OnlyFams.of_od (x := m.setBit E.SAFE_FORCE_SRC 0 c true) (.setV (f := E.SAFE_FORCE_SRC) m 0 _ (by simp [forceFams])) rfl
  exact cause.trans ((OnlyFams.forceEffects m c).mono (List.subset_cons_self _ _))

@[simp] theorem Mod.plant_forceNoted (m : Mod) (was c : Nat) : (m.forceNoted was c).plant = m.plant :=
  Mod.when_keeps Mod.plant _ (fun x => by rw [Mod.plant_capTrigger, Mod.plant_alertSet]; exact x.plant_logPut _) _ m

@[simp] theorem Mod.plant_forceTold (m : Mod) (was c : Nat) : (m.forceTold was c).plant = m.plant :=
  Mod.when_keeps Mod.plant _ (fun x => x.plant_originate _ _ _ _) _ m

@[simp] theorem Mod.site_dropIntents (m : Mod) : m.dropIntents.site = m.site := rfl

theorem Mod.dropIntents_stg (m : Mod) : m.dropIntents.stg = m.stg := rfl

@[simp] theorem Mod.site_forceStop (m : Mod) : m.forceStop.site = m.site := by
  unfold Mod.forceStop
  split
  · rfl
  · split
    · rfl
    · exact Mod.when_keeps Mod.site _ Mod.site_contOff _ m

/-- A SAFE force changes the site in nothing. -/
@[simp] theorem Mod.site_force (m : Mod) (c : Nat) : (m.force c).site = m.site := by
  rw [Mod.force_eq, Mod.site_forceStop, Mod.site_dropIntents, Mod.site_of_plant (Mod.plant_ilko _),
    Mod.site_of_plant (Mod.plant_forceTold _ _ _), Mod.gateOffBoth, Mod.site_gateOff, Mod.site_gateOff,
    Mod.site_of_plant (Mod.plant_forceNoted _ _ _)]
  rfl

theorem Mod.forceStop_stg (m : Mod) : m.forceStop.stg = m.stg := by
  have off : ∀ x : Mod, x.contOff.stg = x.stg := fun x => by
    have shown : ∀ y : Mod, (y.setN E.CONT_STATE 0 0).stg = y.stg := fun _ => rfl
    exact (Mod.when_keeps Mod.stg _ shown _ _).trans rfl
  unfold Mod.forceStop
  split
  · rfl
  · split
    · rfl
    · exact Mod.when_keeps Mod.stg _ off _ m

/-- A SAFE force gates both stages off. -/
theorem Mod.force_gated (m : Mod) (c : Nat) : (m.force c).gated 0 = true ∧ (m.force c).gated 1 = true := by
  have stg : (m.force c).stg = (((m.forceCause c).forceNoted (m.n E.SAFE_FORCE_SRC 0) c).gateOffBoth 0).stg := by
    rw [Mod.force_eq, Mod.forceStop_stg]
    exact (Mod.dropIntents_stg _).trans ((Mod.stg_of_plant (Mod.plant_ilko _)).trans (Mod.stg_of_plant (Mod.plant_forceTold _ _ _)))
  rw [Mod.gated_of_stg stg, Mod.gated_of_stg stg]
  exact Mod.gateOffBoth_gated _ 0

/-- The cause of a SAFE force stands. -/
theorem Mod.force_cause (m : Mod) (c : Nat) : (m.force c).bitOf E.SAFE_FORCE_SRC 0 c = true := by
  have cause : (m.forceCause c).bitOf E.SAFE_FORCE_SRC 0 c = true :=
    (Mod.bitOf_of_od (m := m.setBit E.SAFE_FORCE_SRC 0 c true) rfl _ _ _).trans (m.bitOf_setBit_same c true (by decide))
  rwa [(OnlyFams.forceEffects m c).bitOf E.SAFE_FORCE_SRC 0 c (by decide +kernel)]

/-! ## Sources (R477, R479, R483, R522) -/

/-- A record of a raising that is merged with one of the last second changes no entry; another is one of the log's (R498). -/
theorem OnlyFams.logFault (m : Mod) (b bit cls : Nat) (value : Option Rat) : OnlyFams logFams m (m.logFault b bit cls value) := by
  unfold Mod.logFault
  split
  · exact .refl _ m
  · dsimp only
    split
    · exact fun _ _ => rfl
    · exact fun _ _ => rfl
    · exact OnlyFams.trans (b := m.modFlt b _) (fun _ _ => rfl) (.logPut _ _)

@[simp] theorem Mod.bulk_logFault (m : Mod) (b bit cls : Nat) (value : Option Rat) : (m.logFault b bit cls value).bulk = m.bulk := by
  unfold Mod.logFault
  split
  · rfl
  · dsimp only
    split
    · rfl
    · rfl
    · rw [Mod.bulk_of_plant (Mod.plant_logPut _ _), Mod.bulk_modFlt]

theorem Mod.injFound_od (m : Mod) (b bit : Nat) : (m.injFound b bit).od = m.od := by
  unfold Mod.injFound
  split <;> rfl

@[simp] theorem Mod.bulk_injFound (m : Mod) (b bit : Nat) : (m.injFound b bit).bulk = m.bulk := by
  unfold Mod.injFound
  split <;> rfl

theorem OnlyFams.faultPin (m : Mod) : OnlyFams [E.FAULT_OUT] m m.faultPin := by
  unfold Mod.faultPin
  split
  · exact OnlyFams.of_od (x := m.setB E.FAULT_OUT 0 false) (.setV (f := E.FAULT_OUT) m 0 _ (by simp)) rfl
  · exact .refl _ m

@[simp] theorem Mod.plant_faultPin (m : Mod) : m.faultPin.plant = m.plant := by
  unfold Mod.faultPin
  split <;> rfl

/-- R483: what a source of class F does beside the force. -/
def Mod.classFNoted (m : Mod) (b bits : Nat) : Mod :=
  let m := m.modFlt b (fun x => { x with fActive := setBits x.fActive bits, unacked := 0 })
  (m.setN E.FLT_CLASS b 3).disarm (.grace b)

theorem Mod.classF_eq (m : Mod) (b bits : Nat) : m.classF b bits = (m.classFNoted b bits).force 2 := rfl

theorem Mod.classFNoted_od (m : Mod) (b bits : Nat) : (m.classFNoted b bits).od = (m.setN E.FLT_CLASS b 3).od := rfl

@[simp] theorem Mod.bulk_classFNoted (m : Mod) (b bits : Nat) : (m.classFNoted b bits).bulk = m.bulk := rfl

/-- What raising a source of class F touches beside the source's own bits. -/
def raiseEffects : List Fam := [E.FLT_CLASS, E.FLT_SUMMARY, E.FAULT_OUT] ++ forceFams

/-- What raising a source of class C or U touches beside the source's own bits. -/
def noticeEffects : List Fam := [E.FLT_CLASS, E.FLT_SUMMARY, E.FAULT_OUT] ++ (logFams ++ (outFams ++ capFams))

/-- R477: a source that becomes active shows in its block's entries. -/
def Mod.sourceShown (m : Mod) (b cls : Nat) : Mod :=
  let m := (m.when (m.n E.FLT_CLASS b < cls) (·.setN E.FLT_CLASS b cls)).setBit E.FLT_SUMMARY 0 b true
  m.modFlt b (fun x => { x with since := m.tb })

/-- R477: the bits of a source that becomes active. -/
def Mod.sourceBits (m : Mod) (b bit : Nat) : Mod := (m.setBit E.FLT_ACTIVE b bit true).setBit E.FLT_STICKY b bit true

/-- R479: SUP0 is told, where the source's bit is enabled; an event is held for 1 ms (R522). -/
def Mod.sourceTold (m : Mod) (b bit : Nat) : Mod :=
  let m := m.when (m.bitOf E.FLT_IRQ_EN b bit) (·.modFlt b (fun x => { x with told := Sys2Proof.setBit x.told bit true }))
  m.when (srcEvent b bit) (·.arm (.eventHold b bit) (m.tb + ms 1))

/-- R480: the grace of a class U source runs. -/
def Mod.graceBegun (m : Mod) (b bit cls : Nat) : Mod :=
  m.when (cls == 2) (fun m =>
    let m := m.modFlt b (fun x => { x with unacked := Sys2Proof.setBit x.unacked bit true })
    m.when (!m.armed (.grace b) && !(m.fltOf b).resetting) (·.arm (.grace b) (m.tb + ms (m.n E.FLT_GRACE b))))

/-- R483, R320: what a source's class does. -/
def Mod.classActs (m : Mod) (b bit cls : Nat) : Mod :=
  ((m.when (cls == 3) (·.classF b (1 <<< bit))).when (2 ≤ cls) (fun m => m.capTrigger 0x40 m.tb)).faultPin

/-- A source that is raised while it is not active. -/
theorem Mod.raiseAs_eq (m : Mod) (b bit cls : Nat) (value : Option Rat) (h : m.bitOf E.FLT_ACTIVE b bit = false) :
    m.raiseAs b bit cls value =
      (((((((m.sourceBits b bit).sourceShown b cls).sourceTold b bit).logFault b bit cls value).injFound b bit).graceBegun b bit cls).classActs b bit cls) := by
  unfold Mod.raiseAs
  rw [if_neg (by rw [show Sys2Proof.bit (m.n E.FLT_ACTIVE b) bit = false from h]; decide)]
  rfl

theorem OnlyFams.sourceShown (m : Mod) (b cls : Nat) : OnlyFams [E.FLT_CLASS, E.FLT_SUMMARY] m (m.sourceShown b cls) := by
  have ranked : OnlyFams [E.FLT_CLASS, E.FLT_SUMMARY] m (m.when (m.n E.FLT_CLASS b < cls) (·.setN E.FLT_CLASS b cls)) :=
    .when m _ (.setV (f := E.FLT_CLASS) m b _ (by simp))
  exact (ranked.set (f := E.FLT_SUMMARY) (by simp)).of_od (Mod.modFlt_od _ _ _)

theorem Mod.sourceTold_od (m : Mod) (b bit : Nat) : (m.sourceTold b bit).od = m.od := by
  unfold Mod.sourceTold
  dsimp only
  rw [Mod.when_keeps Mod.od _ fun x => x.arm_od _ _, Mod.when_keeps Mod.od _ fun x => x.modFlt_od _ _]

theorem Mod.graceBegun_od (m : Mod) (b bit cls : Nat) : (m.graceBegun b bit cls).od = m.od := by
  unfold Mod.graceBegun
  refine Mod.when_keeps Mod.od _ (fun x => ?_) _ m
  dsimp only
  rw [Mod.when_keeps Mod.od _ fun x => x.arm_od _ _, Mod.modFlt_od]

@[simp] theorem Mod.bulk_sourceShown (m : Mod) (b cls : Nat) : (m.sourceShown b cls).bulk = m.bulk := by
  unfold Mod.sourceShown
  dsimp only
  rw [Mod.bulk_modFlt, Mod.setBit_eq, Mod.bulk_setV]
  exact Mod.when_keeps Mod.bulk (fun x => x.setN E.FLT_CLASS b cls) (fun x => x.bulk_setV _ _ _) _ m

@[simp] theorem Mod.bulk_sourceTold (m : Mod) (b bit : Nat) : (m.sourceTold b bit).bulk = m.bulk := by
  unfold Mod.sourceTold
  dsimp only
  rw [Mod.when_keeps Mod.bulk _ fun x => x.bulk_arm _ _, Mod.when_keeps Mod.bulk _ fun x => x.bulk_modFlt _ _]

@[simp] theorem Mod.bulk_graceBegun (m : Mod) (b bit cls : Nat) : (m.graceBegun b bit cls).bulk = m.bulk := by
  unfold Mod.graceBegun
  refine Mod.when_keeps Mod.bulk _ (fun x => ?_) _ m
  dsimp only
  rw [Mod.when_keeps Mod.bulk _ fun x => x.bulk_arm _ _, Mod.bulk_modFlt]

/-- What a source's class does touches. -/
def classEffects : List Fam := [E.FLT_CLASS, E.FAULT_OUT] ++ forceFams

/-- What a source of class C or U does by its class touches. -/
def tellEffects : List Fam := E.FAULT_OUT :: (outFams ++ capFams)

/-- A source of class F forces the module; what it does besides is what one of class U does. -/
theorem OnlyFams.classActs (m : Mod) (b bit cls : Nat) : OnlyFams classEffects m (m.classActs b bit cls) := by
  have forced : forceFams ⊆ classEffects := List.subset_append_right _ _
  have captured : outFams ++ capFams ⊆ classEffects := fun f h => forced (by
    simp only [forceFams, List.mem_append] at h ⊢
    tauto)
  have noted : ∀ x : Mod, OnlyFams classEffects x (x.classFNoted b (1 <<< bit)) := fun x =>
    OnlyFams.of_od (.setV (f := E.FLT_CLASS) x b _ (by simp [classEffects])) (x.classFNoted_od b (1 <<< bit))
  have pin : ∀ x : Mod, OnlyFams classEffects x x.faultPin := fun x => (OnlyFams.faultPin x).mono (by simp [classEffects])
  have held : ∀ x : Mod, OnlyFams classEffects x (x.classF b (1 <<< bit)) := fun x => by
    rw [Mod.classF_eq]
    exact (noted x).trans ((OnlyFams.force _ 2).mono forced)
  have fires : ∀ x : Mod, OnlyFams classEffects x (x.when (2 ≤ cls) (fun m => m.capTrigger 0x40 m.tb)) := fun x =>
    .when x _ ((OnlyFams.capTrigger x _ _).mono captured)
  exact ((OnlyFams.when m (cls == 3) (held m)).trans (fires _)).trans (pin _)

/-- A source of class C or U only tells of itself. -/
theorem OnlyFams.classActs_notice (m : Mod) (b bit : Nat) {cls : Nat} (h : cls ≠ 3) :
    OnlyFams tellEffects m (m.classActs b bit cls) ∧ (m.classActs b bit cls).plant = m.plant := by
  have pin : ∀ x : Mod, OnlyFams tellEffects x x.faultPin := fun x => (OnlyFams.faultPin x).mono (by simp [tellEffects])
  have fires : OnlyFams tellEffects m (m.when (2 ≤ cls) (fun m => m.capTrigger 0x40 m.tb)) :=
    .when m _ ((OnlyFams.capTrigger m _ _).mono (List.subset_cons_self _ _))
  have same : (m.when (2 ≤ cls) (fun m => m.capTrigger 0x40 m.tb)).plant = m.plant :=
    Mod.when_keeps Mod.plant (fun m => m.capTrigger 0x40 m.tb) (fun x => x.plant_capTrigger _ _) _ m
  have acts : m.classActs b bit cls = (m.when (2 ≤ cls) (fun m => m.capTrigger 0x40 m.tb)).faultPin := by
    unfold Mod.classActs
    rw [show (cls == 3) = false by simpa using h]
    rfl
  rw [acts]
  exact ⟨fires.trans (pin _), (Mod.plant_faultPin _).trans same⟩

/-- A source that is active already is counted, and no entry changes. -/
theorem Mod.raiseAs_active (m : Mod) (b bit cls : Nat) (value : Option Rat) (h : m.bitOf E.FLT_ACTIVE b bit = true) :
    (m.raiseAs b bit cls value).od = m.od ∧ (m.raiseAs b bit cls value).bulk = m.bulk := by
  have active : Sys2Proof.bit (m.n E.FLT_ACTIVE b) bit = true := h
  unfold Mod.raiseAs
  rw [if_pos active]
  dsimp only
  rw [Mod.injFound_od, Mod.bulk_injFound, Mod.when_keeps Mod.od _ fun x => x.arm_od _ _,
    Mod.when_keeps Mod.bulk _ fun x => x.bulk_arm _ _]
  exact ⟨rfl, rfl⟩

theorem OnlyFams.raiseAs_effects (m : Mod) (b bit cls : Nat) (value : Option Rat) (h : m.bitOf E.FLT_ACTIVE b bit = false) :
    OnlyFams raiseEffects (m.sourceBits b bit) (m.raiseAs b bit cls value) := by
  have logs : logFams ⊆ raiseEffects := fun f h => by
    simp only [raiseEffects, forceFams, List.mem_append]
    tauto
  have acts : classEffects ⊆ raiseEffects := fun f h => by
    simp only [classEffects, raiseEffects, List.mem_append, List.mem_cons, List.not_mem_nil, or_false] at h ⊢
    tauto
  rw [m.raiseAs_eq b bit cls value h]
  refine OnlyFams.trans (.of_od (.of_od ?_ (Mod.injFound_od _ b bit)) (Mod.graceBegun_od _ b bit cls)) ((OnlyFams.classActs _ b bit cls).mono acts)
  exact (((OnlyFams.sourceShown _ b cls).mono (by simp [raiseEffects])).of_od (Mod.sourceTold_od _ b bit)).trans
    ((OnlyFams.logFault _ b bit cls value).mono logs)

theorem OnlyFams.raiseAs_notice (m : Mod) (b bit : Nat) {cls : Nat} (value : Option Rat) (hc : cls ≠ 3)
    (h : m.bitOf E.FLT_ACTIVE b bit = false) : OnlyFams noticeEffects (m.sourceBits b bit) (m.raiseAs b bit cls value) := by
  have logs : logFams ⊆ noticeEffects := fun f h => by
    simp only [noticeEffects, List.mem_append]
    tauto
  have tells : tellEffects ⊆ noticeEffects := fun f h => by
    simp only [tellEffects, noticeEffects, List.mem_append, List.mem_cons, List.not_mem_nil, or_false] at h ⊢
    tauto
  rw [m.raiseAs_eq b bit cls value h]
  refine OnlyFams.trans (.of_od (.of_od ?_ (Mod.injFound_od _ b bit)) (Mod.graceBegun_od _ b bit cls))
    ((OnlyFams.classActs_notice _ b bit hc).1.mono tells)
  exact (((OnlyFams.sourceShown _ b cls).mono (by simp [noticeEffects])).of_od (Mod.sourceTold_od _ b bit)).trans
    ((OnlyFams.logFault _ b bit cls value).mono logs)

theorem Mod.sourceBits_only (m : Mod) (b bit : Nat) : OnlyFams [E.FLT_ACTIVE, E.FLT_STICKY] m (m.sourceBits b bit) :=
  (OnlyFams.setV (f := E.FLT_ACTIVE) m b _ (by simp)).set (f := E.FLT_STICKY) (by simp)

theorem OnlyFams.raiseAs (m : Mod) (b bit cls : Nat) (value : Option Rat) : OnlyFams raiseFams m (m.raiseAs b bit cls value) := by
  have effects : raiseEffects ⊆ raiseFams := fun f h => by
    simp only [raiseEffects, raiseFams, List.mem_append, List.mem_cons, List.not_mem_nil, or_false] at h ⊢
    tauto
  by_cases h : m.bitOf E.FLT_ACTIVE b bit = true
  · exact OnlyFams.of_od (.refl _ m) (m.raiseAs_active b bit cls value h).1
  · exact ((m.sourceBits_only b bit).mono (by simp [raiseFams])).trans
      ((OnlyFams.raiseAs_effects m b bit cls value (by simpa using h)).mono effects)

/-- What raising a source of class C or U touches. -/
def noticeFams : List Fam := [E.FLT_ACTIVE, E.FLT_STICKY] ++ noticeEffects

theorem OnlyFams.raiseAs_noticeFams (m : Mod) (b bit : Nat) {cls : Nat} (value : Option Rat) (hc : cls ≠ 3) :
    OnlyFams noticeFams m (m.raiseAs b bit cls value) := by
  by_cases h : m.bitOf E.FLT_ACTIVE b bit = true
  · exact OnlyFams.of_od (.refl _ m) (m.raiseAs_active b bit cls value h).1
  · exact ((m.sourceBits_only b bit).mono (List.subset_append_left _ _)).trans
      ((OnlyFams.raiseAs_notice m b bit value hc (by simpa using h)).mono (List.subset_append_right _ _))

/-- A source of class C or U leaves the bulk as it is. -/
theorem Mod.bulk_raiseAs (m : Mod) (b bit : Nat) {cls : Nat} (value : Option Rat) (hc : cls ≠ 3) :
    (m.raiseAs b bit cls value).bulk = m.bulk := by
  by_cases h : m.bitOf E.FLT_ACTIVE b bit = true
  · exact (m.raiseAs_active b bit cls value h).2
  · rw [m.raiseAs_eq b bit cls value (by simpa using h), Mod.bulk_of_plant (OnlyFams.classActs_notice _ b bit hc).2]
    simp [Mod.sourceBits]

@[simp] theorem Mod.hull_classActs (m : Mod) (b bit cls : Nat) : (m.classActs b bit cls).hull = m.hull := by
  unfold Mod.classActs
  rw [Mod.hull_of_site (Mod.site_of_plant (Mod.plant_faultPin _)),
    Mod.when_keeps Mod.hull _ fun x => Mod.hull_of_site (Mod.site_of_plant (x.plant_capTrigger _ _))]
  refine Mod.when_keeps Mod.hull _ (fun x => ?_) _ m
  rw [Mod.classF_eq, Mod.hull_of_site (Mod.site_force _ _), Mod.hull_of_bulk (Mod.bulk_classFNoted _ _ _)]

/-- A source that is raised leaves the hull as it is. -/
@[simp] theorem Mod.hull_raiseAs (m : Mod) (b bit cls : Nat) (value : Option Rat) : (m.raiseAs b bit cls value).hull = m.hull := by
  by_cases h : m.bitOf E.FLT_ACTIVE b bit = true
  · exact Mod.hull_of_bulk (m.raiseAs_active b bit cls value h).2
  · rw [m.raiseAs_eq b bit cls value (by simpa using h), Mod.hull_classActs]
    exact Mod.hull_of_bulk (by simp [Mod.sourceBits])

/-- A source that has been raised is active. -/
theorem Mod.raiseAs_bitOf (m : Mod) {b : Nat} (bit cls : Nat) (value : Option Rat) (hb : b < 16) :
    (m.raiseAs b bit cls value).bitOf E.FLT_ACTIVE b bit = true := by
  by_cases h : m.bitOf E.FLT_ACTIVE b bit = true
  · rw [Mod.bitOf_of_od (m.raiseAs_active b bit cls value h).1, h]
  · have absent : ∀ j < 16, E.FLT_ACTIVE.key j ∉ raiseEffects.flatMap Fam.keys := by decide +kernel
    have apart : ∀ j < 16, E.FLT_ACTIVE.key j ≠ E.FLT_STICKY.key j := by decide +kernel
    rw [(OnlyFams.raiseAs_effects m b bit cls value (by simpa using h)).bitOf _ _ _ (absent b hb)]
    unfold Mod.sourceBits Mod.bitOf
    rw [Mod.setBit_eq, Mod.n_setV_ne _ _ _ _ _ _ (apart b hb)]
    exact m.bitOf_setBit_same bit true hb

theorem Mod.raise_eq {b bit cls : Nat} (m : Mod) (value : Option Rat) (h : srcClass b bit = some cls) :
    m.raise b bit value = m.raiseAs b bit cls value := by
  unfold Mod.raise
  rw [h]

theorem OnlyFams.raise (m : Mod) (b bit : Nat) (value : Option Rat) : OnlyFams raiseFams m (m.raise b bit value) := by
  unfold Mod.raise
  split
  · exact .raiseAs m _ _ _ _
  · exact .refl _ m

@[simp] theorem Mod.hull_raise (m : Mod) (b bit : Nat) (value : Option Rat) : (m.raise b bit value).hull = m.hull := by
  unfold Mod.raise
  split
  · exact m.hull_raiseAs _ _ _ _
  · rfl

theorem OnlyFams.lower (m : Mod) (b bit : Nat) : OnlyFams [E.FLT_ACTIVE] m (m.lower b bit) := by
  unfold Mod.lower
  split
  · exact OnlyFams.of_od (x := m.setBit E.FLT_ACTIVE b bit false) (.setV (f := E.FLT_ACTIVE) m b _ (by simp)) rfl
  · exact .refl _ m

@[simp] theorem Mod.bulk_lower (m : Mod) (b bit : Nat) : (m.lower b bit).bulk = m.bulk := by
  unfold Mod.lower
  split <;> rfl

/-- A source that has been lowered is not active. -/
theorem Mod.lower_bitOf (m : Mod) {b : Nat} (bit : Nat) (hb : b < 16) : (m.lower b bit).bitOf E.FLT_ACTIVE b bit = false := by
  unfold Mod.lower
  split
  · exact (Mod.bitOf_of_od (m := m.setBit E.FLT_ACTIVE b bit false) rfl _ _ _).trans (m.bitOf_setBit_same bit false hb)
  · rename_i h
    exact Bool.not_eq_true _ ▸ h

theorem OnlyFams.sync (m : Mod) (b bit : Nat) (cond : Bool) (value : Option Rat) :
    OnlyFams raiseFams m (m.sync b bit cond value) := by
  unfold Mod.sync
  split
  · split
    · exact .refl _ m
    · exact .raise m _ _ _
  · exact (OnlyFams.lower m _ _).mono (by simp [raiseFams])

@[simp] theorem Mod.hull_sync (m : Mod) (b bit : Nat) (cond : Bool) (value : Option Rat) : (m.sync b bit cond value).hull = m.hull := by
  unfold Mod.sync
  split
  · split
    · rfl
    · exact m.hull_raise _ _ _
  · exact Mod.hull_of_bulk (m.bulk_lower _ _)

/-- A source of class F that comes forces the module (R483): cause 2 stands and both stages are gated off. -/
theorem Mod.raiseAs_forces (m : Mod) (b bit : Nat) (value : Option Rat) (h : m.bitOf E.FLT_ACTIVE b bit = false) :
    (m.raiseAs b bit 3 value).bitOf E.SAFE_FORCE_SRC 0 2 = true ∧ (m.raiseAs b bit 3 value).gated 0 = true ∧
      (m.raiseAs b bit 3 value).gated 1 = true := by
  have after : ∀ x : Mod, ((x.capTrigger 0x40 x.tb).faultPin).bitOf E.SAFE_FORCE_SRC 0 2 = x.bitOf E.SAFE_FORCE_SRC 0 2 ∧
      ((x.capTrigger 0x40 x.tb).faultPin).stg = x.stg := fun x =>
    ⟨((OnlyFams.faultPin _).bitOf E.SAFE_FORCE_SRC 0 2 (by decide +kernel)).trans
      ((OnlyFams.capTrigger x _ _).bitOf E.SAFE_FORCE_SRC 0 2 (by decide +kernel)),
      (Mod.stg_of_plant (Mod.plant_faultPin _)).trans (Mod.stg_of_plant (x.plant_capTrigger _ _))⟩
  rw [m.raiseAs_eq b bit 3 value h]
  generalize ((((m.sourceBits b bit).sourceShown b 3).sourceTold b bit).logFault b bit 3 value |>.injFound b bit).graceBegun b bit 3 = x
  change ((((x.classF b (1 <<< bit)).capTrigger 0x40 _).faultPin).bitOf E.SAFE_FORCE_SRC 0 2 = true ∧ _)
  obtain ⟨cause, stg⟩ := after (x.classF b (1 <<< bit))
  obtain ⟨a, b'⟩ := Mod.force_gated (x.classFNoted b (1 <<< bit)) 2
  exact ⟨cause.trans (Mod.force_cause _ 2), (Mod.gated_of_stg stg 0).trans a, (Mod.gated_of_stg stg 1).trans b'⟩

/-! ## Timers of a source of class C or U -/

theorem Mod.logFault_timers (m : Mod) (b bit cls : Nat) (value : Option Rat) : SameTimers [.erase] m (m.logFault b bit cls value) := by
  unfold Mod.logFault
  split
  · exact .refl _ m
  · dsimp only
    split
    · exact .of_timers rfl
    · exact .of_timers rfl
    · exact SameTimers.trans (b := m.modFlt b _) (.of_timers rfl) (.logPut _ _)

/-- The timers that a source of class C or U touches when it is raised. -/
def noticeTimers (b bit : Nat) : List Tmr := [.erase, .eventHold b bit, .injMiss b bit, .grace b, .faultContact]

/-- A source of class C or U touches its own timers, and those of the log and of FAULT. -/
theorem SameTimers.raiseAs_notice (m : Mod) (b bit : Nat) {cls : Nat} (value : Option Rat) (hc : cls ≠ 3) :
    SameTimers (noticeTimers b bit) m (m.raiseAs b bit cls value) := by
  have found : ∀ x : Mod, SameTimers (noticeTimers b bit) x (x.injFound b bit) := fun x => by
    unfold Mod.injFound
    split
    · exact .refl _ x
    · exact SameTimers.trans (b := x.modFlt b _) (.of_timers rfl) (.disarm _ (by simp [noticeTimers]))
  have event : ∀ (x : Mod) (d : Nat), SameTimers (noticeTimers b bit) x (x.when (srcEvent b bit) (·.arm (.eventHold b bit) d)) :=
    fun x d => .when x _ (.arm x d (by simp [noticeTimers]))
  by_cases h : m.bitOf E.FLT_ACTIVE b bit = true
  · have active : Sys2Proof.bit (m.n E.FLT_ACTIVE b) bit = true := h
    unfold Mod.raiseAs
    rw [if_pos active]
    dsimp only
    exact ((SameTimers.of_timers (Mod.modFlt_timers _ _ _)).trans (event _ _)).trans (found _)
  · have bits : (m.sourceBits b bit).timers = m.timers := rfl
    have shown : ∀ x : Mod, (x.sourceShown b cls).timers = x.timers := fun x => by
      have ranked : ∀ y : Mod, (y.setN E.FLT_CLASS b cls).timers = y.timers := fun _ => rfl
      exact (Mod.when_keeps Mod.timers _ ranked _ x)
    have told : ∀ x : Mod, SameTimers (noticeTimers b bit) x (x.sourceTold b bit) := fun x =>
      (SameTimers.when x _ (.of_timers (Mod.modFlt_timers _ _ _))).trans (event _ _)
    have graced : ∀ x : Mod, SameTimers (noticeTimers b bit) x (x.graceBegun b bit cls) := fun x =>
      .when x _ ((SameTimers.of_timers (Mod.modFlt_timers _ _ _)).trans (.when _ _ (.arm _ _ (by simp [noticeTimers]))))
    have acts : ∀ x : Mod, SameTimers (noticeTimers b bit) x (x.classActs b bit cls) := fun x => by
      have pin : ∀ y : Mod, SameTimers (noticeTimers b bit) y y.faultPin := fun y => by
        unfold Mod.faultPin
        split
        · exact SameTimers.trans (b := y.setB E.FAULT_OUT 0 false) (.of_timers rfl) (.arm _ _ (by simp [noticeTimers]))
        · exact .refl _ y
      have fires : (x.when (2 ≤ cls) (fun m => m.capTrigger 0x40 m.tb)).timers = x.timers :=
        Mod.when_keeps Mod.timers (fun m => m.capTrigger 0x40 m.tb) (fun y => y.capTrigger_timers _ _) _ x
      have eq : x.classActs b bit cls = (x.when (2 ≤ cls) (fun m => m.capTrigger 0x40 m.tb)).faultPin := by
        unfold Mod.classActs
        rw [show (cls == 3) = false by simpa using hc]
        rfl
      rw [eq]
      exact (SameTimers.of_timers fires).trans (pin _)
    rw [m.raiseAs_eq b bit cls value (by simpa using h)]
    exact ((((((SameTimers.of_timers bits).trans (.of_timers (shown _))).trans (told _)).trans
      ((Mod.logFault_timers _ b bit cls value).mono (by simp [noticeTimers]))).trans (found _)).trans (graced _)).trans (acts _)

/-- A source that follows a condition that holds is active. -/
theorem Mod.sync_bitOf (m : Mod) {b : Nat} (bit : Nat) (value : Option Rat) (hb : b < 16) (hc : (srcClass b bit).isSome = true) :
    (m.sync b bit true value).bitOf E.FLT_ACTIVE b bit = true := by
  obtain ⟨cls, hc⟩ := Option.isSome_iff_exists.1 hc
  unfold Mod.sync
  rw [if_pos rfl]
  split
  · assumption
  · rw [Mod.raise_eq m value hc]
    exact m.raiseAs_bitOf bit cls value hb

theorem SameTimers.lower (m : Mod) (b bit : Nat) : SameTimers [.eventHold b bit] m (m.lower b bit) := by
  unfold Mod.lower
  split
  · exact SameTimers.trans (b := (m.setBit E.FLT_ACTIVE b bit false).modFlt b _) (.of_timers rfl) (.disarm _ (by simp))
  · exact .refl _ m

theorem Mod.sync_notice_timers (m : Mod) {b bit cls : Nat} (cond : Bool) (value : Option Rat) (hc : srcClass b bit = some cls)
    (h : cls ≠ 3) : SameTimers (noticeTimers b bit) m (m.sync b bit cond value) := by
  unfold Mod.sync
  split
  · split
    · exact .refl _ m
    · rw [Mod.raise_eq m value hc]
      exact .raiseAs_notice m b bit value h
  · exact (SameTimers.lower m b bit).mono (by simp [noticeTimers])

end Sys2Proof.Machine
end

section
/-! PROOF. The root clock, and the return of a source (R59, R306, R503). -/

set_option Elab.async false

namespace Sys2Proof.Machine

open Sys2Proof

/-! ## The root clock -/

/-- A clock failure counts and forces the module (R503). -/
theorem Mod.clockFail_does (m : Mod) {bit : Nat} (hc : srcClass 14 bit = some 3) (h : m.bitOf E.FLT_ACTIVE 14 bit = false) :
    OnlyFams (tripFams ++ [E.CLK_FAIL_CNT]) m (m.clockFail bit) ∧ OnlyFams raiseFams (m.inc E.CLK_FAIL_CNT 0) (m.clockFail bit) ∧
      (m.clockFail bit).n E.CLK_FAIL_CNT 0 = inc32 (m.n E.CLK_FAIL_CNT 0) ∧ (m.clockFail bit).bitOf E.FLT_ACTIVE 14 bit = true ∧
      (m.clockFail bit).bitOf E.SAFE_FORCE_SRC 0 2 = true ∧ (m.clockFail bit).gated 0 = true ∧ (m.clockFail bit).gated 1 = true := by
  have counted : (m.inc E.CLK_FAIL_CNT 0).bitOf E.FLT_ACTIVE 14 bit = false := by
    unfold Mod.bitOf
    rw [Mod.n_inc_ne _ (by decide)]
    exact h
  have raised : m.clockFail bit = (m.inc E.CLK_FAIL_CNT 0).raiseAs 14 bit 3 none := Mod.raise_eq _ none hc
  have kept : OnlyFams raiseFams (m.inc E.CLK_FAIL_CNT 0) (m.clockFail bit) := raised ▸ .raiseAs _ _ _ _ _
  obtain ⟨cause, a, b⟩ := Mod.raiseAs_forces _ 14 bit none counted
  rw [← raised] at cause a b
  refine ⟨(OnlyFams.setV (f := E.CLK_FAIL_CNT) m 0 _ (by simp)).trans (kept.mono ?_), kept, ?_, ?_, cause, a, b⟩
  · exact fun _ hf => by simp [tripFams, hf]
  · rw [kept.n E.CLK_FAIL_CNT 0 (by decide +kernel), Mod.n_inc_same _ (by decide)]
  · rw [raised]
    exact Mod.raiseAs_bitOf _ bit 3 none (by decide)

theorem OnlyFams.holdover (m : Mod) : OnlyFams [E.NET_FLAGS] m m.holdover :=
  .when m _ (.setV (f := E.NET_FLAGS) m 0 _ (by simp))

theorem Mod.holdover_stg (m : Mod) : m.holdover.stg = m.stg := Mod.when_keeps Mod.stg _ (fun x => x.setV_stg _ _ _) _ m

/-- Loss of lock is a clock failure that leaves network time, where it holds, under HOLDOVER (R503). -/
theorem Mod.pllUnlock_does (m : Mod) (h : m.bitOf E.FLT_ACTIVE 14 0 = false) :
    OnlyFams (tripFams ++ [E.CLK_FAIL_CNT, E.NET_FLAGS, E.PLL_LOCK]) m m.pllUnlock ∧
      m.pllUnlock.n E.CLK_FAIL_CNT 0 = inc32 (m.n E.CLK_FAIL_CNT 0) ∧ m.pllUnlock.bitOf E.FLT_ACTIVE 14 0 = true ∧
      m.pllUnlock.b E.PLL_LOCK 0 = false ∧ m.pllUnlock.bitOf E.SAFE_FORCE_SRC 0 2 = true ∧ m.pllUnlock.gated 0 = true ∧
      m.pllUnlock.gated 1 = true ∧ (m.ntimeOk = true → m.pllUnlock.bitOf E.NET_FLAGS 0 1 = true) := by
  have open_ : ∀ (f : Fam) (i : Nat), f.key i ≠ E.PLL_LOCK.key 0 → (m.setB E.PLL_LOCK 0 false).n f i = m.n f i := fun f i hf => by
    rw [Mod.setB_eq, Mod.n_setV_ne _ _ _ _ _ _ hf]
  have inactive : (m.setB E.PLL_LOCK 0 false).bitOf E.FLT_ACTIVE 14 0 = false := by
    unfold Mod.bitOf
    rw [open_ _ _ (by decide)]
    exact h
  obtain ⟨only, kept, count, active, cause, a, b⟩ := (m.setB E.PLL_LOCK 0 false).clockFail_does (bit := 0) (by decide) inactive
  have last := OnlyFams.holdover ((m.setB E.PLL_LOCK 0 false).clockFail 0)
  have stg := Mod.holdover_stg ((m.setB E.PLL_LOCK 0 false).clockFail 0)
  refine ⟨?_, ?_, ?_, ?_, ?_, ?_, ?_, fun ok => ?_⟩
  · exact ((OnlyFams.setV (f := E.PLL_LOCK) m 0 _ (by simp)).trans (only.mono (by simp))).trans (last.mono (by simp))
  · exact (last.n E.CLK_FAIL_CNT 0 (by decide +kernel)).trans (count.trans (congrArg inc32 (open_ _ _ (by decide))))
  · exact (last.bitOf E.FLT_ACTIVE 14 0 (by decide +kernel)).trans active
  · have lock : m.pllUnlock.n E.PLL_LOCK 0 = 0 := by
      refine (last.n E.PLL_LOCK 0 (by decide +kernel)).trans ((kept.n E.PLL_LOCK 0 (by decide +kernel)).trans ?_)
      rw [Mod.n_inc_ne _ (by decide), Mod.setB_eq, Mod.n_setV_same _ _ _ _ (by decide)]
      rfl
    simp [Mod.b, lock]
  · exact (last.bitOf E.SAFE_FORCE_SRC 0 2 (by decide +kernel)).trans cause
  · exact (Mod.gated_of_stg stg 0).trans a
  · exact (Mod.gated_of_stg stg 1).trans b
  · have same : ((m.setB E.PLL_LOCK 0 false).clockFail 0).n E.NET_FLAGS 0 = m.n E.NET_FLAGS 0 := by
      rw [kept.n E.NET_FLAGS 0 (by decide +kernel), Mod.n_inc_ne _ (by decide), open_ _ _ (by decide)]
    have valid : ((m.setB E.PLL_LOCK 0 false).clockFail 0).ntimeOk = true := by
      rw [Mod.ntimeOk, Mod.bitOf, same]
      exact ok
    have held : m.pllUnlock = ((m.setB E.PLL_LOCK 0 false).clockFail 0).setBit E.NET_FLAGS 0 1 true := by
      rw [Mod.pllUnlock, Mod.holdover, Mod.when, if_pos valid]
    rw [held]
    exact Mod.bitOf_setBit_same _ 1 true (by decide)

/-! ## The return of a source -/

/-- The energy records that wait touch the log of the energy sessions, and the keeper's pause where an erase begins (R500). -/
theorem Mod.elogFlush_keeps (m : Mod) :
    SameOd logKeys m m.elogFlush ∧ SameTimers [.erase] m m.elogFlush ∧ m.elogFlush.phase = m.phase ∧ m.elogFlush.safe = m.safe := by
  have erase : ∀ x : Mod, SameOd logKeys x (x.eraseStart 2) ∧ SameTimers [.erase] x (x.eraseStart 2) ∧
      (x.eraseStart 2).phase = x.phase ∧ (x.eraseStart 2).safe = x.safe := by
    intro x
    refine ⟨fun k hk => x.eraseStart_od 2 fun h => hk (by simp [logKeys, h]), fun T hT => ?_, ?_⟩
    · have hT : T ≠ .erase := by simpa using hT
      unfold Mod.eraseStart Mod.when
      split <;> simp [hT] <;> rfl
    · unfold Mod.eraseStart Mod.when
      split <;> exact ⟨rfl, rfl⟩
  have maybe : ∀ (x : Mod) (c : Bool), SameOd logKeys x (x.when c (·.eraseStart 2)) ∧ SameTimers [.erase] x (x.when c (·.eraseStart 2)) ∧
      (x.when c (·.eraseStart 2)).phase = x.phase ∧ (x.when c (·.eraseStart 2)).safe = x.safe := fun x c => by
    cases c
    · exact ⟨.refl _ x, fun _ _ => rfl, rfl, rfl⟩
    · exact erase x
  have put : ∀ (x : Mod) (r : ERec), SameOd logKeys x (x.elogPut r) ∧ SameTimers [.erase] x (x.elogPut r) ∧
      (x.elogPut r).phase = x.phase ∧ (x.elogPut r).safe = x.safe := by
    intro x r
    unfold Mod.elogPut
    split
    · exact ⟨fun _ _ => rfl, fun _ _ => rfl, rfl, rfl⟩
    · obtain ⟨od, timers, phase, safe⟩ := maybe { x with elog := r :: x.elog } _
      exact ⟨fun k hk => od k hk, fun T hT => timers T hT, phase, safe⟩
  have all : ∀ (l : List ERec) (x : Mod), SameOd logKeys x (l.foldl Mod.elogPut x) ∧ SameTimers [.erase] x (l.foldl Mod.elogPut x) ∧
      (l.foldl Mod.elogPut x).phase = x.phase ∧ (l.foldl Mod.elogPut x).safe = x.safe := by
    intro l
    induction l with
    | nil => exact fun x => ⟨.refl _ x, fun _ _ => rfl, rfl, rfl⟩
    | cons r l ih =>
      intro x
      obtain ⟨od, timers, phase, safe⟩ := put x r
      obtain ⟨od', timers', phase', safe'⟩ := ih (x.elogPut r)
      exact ⟨od.trans od', fun T hT => (timers' T hT).trans (timers T hT), phase'.trans phase, safe'.trans safe⟩
  exact all m.elogQ { m with elogQ := [] }

/-- The records that wait in Q26 touch what a record touches. -/
theorem Mod.q26Flush_keeps (m : Mod) :
    SameOd logKeys m m.q26Flush ∧ SameTimers [.erase] m m.q26Flush ∧ m.q26Flush.plant = m.plant := by
  have all : ∀ (l : List LogRec) (x : Mod), SameOd logKeys x (l.foldl Mod.logPut x) ∧ SameTimers [.erase] x (l.foldl Mod.logPut x) ∧
      (l.foldl Mod.logPut x).plant = x.plant := by
    intro l
    induction l with
    | nil => exact fun x => ⟨.refl _ x, fun _ _ => rfl, rfl⟩
    | cons r l ih =>
      intro x
      obtain ⟨od, timers, plant⟩ := ih (x.logPut r)
      exact ⟨(SameOd.logPut x r).trans od, fun T hT => (timers T hT).trans (SameTimers.logPut x r T hT), plant.trans (x.plant_logPut r)⟩
  obtain ⟨od, timers, plant⟩ := all m.q26 { m with q26 := [] }
  have marks : ∀ x : Mod, x.q26Marks.plant = x.plant := fun x => by
    unfold Mod.q26Marks
    dsimp only
    rw [Mod.when_keeps Mod.plant _ fun y => y.plant_logWait _, Mod.plant_fillMarks]
  refine ⟨od.trans fun k hk => Mod.q26Marks_od _ hk, fun T hT => ?_, (marks _).trans (plant.trans rfl)⟩
  have same := timers T hT
  unfold Mod.deadline at same ⊢
  rw [Mod.q26Flush, Mod.q26Marks_timers]
  exact same

/-- A cause of R296 that clears changes SAFE_FORCE_SRC, ILKO and the log, and SAFE's own memory in nothing. -/
theorem Mod.unforce_keeps (m : Mod) (c : Nat) :
    SameOd ([E.SAFE_FORCE_SRC.key 0, E.ILKO_STATE.key 0] ++ logKeys) m (m.unforce c) ∧ (m.unforce c).phase = m.phase ∧
      (m.unforce c).safe = m.safe ∧ (m.unforce c).tb = m.tb ∧ (m.unforce c).bitOf E.SAFE_FORCE_SRC 0 c = false := by
  have shown : SameOd [E.SAFE_FORCE_SRC.key 0, E.ILKO_STATE.key 0] m (m.setBit E.SAFE_FORCE_SRC 0 c false).ilko := fun k hk => by
    simp only [List.mem_cons, List.not_mem_nil, or_false, not_or] at hk
    exact (Mod.odGet_setV_ne _ E.ILKO_STATE 0 _ hk.2).trans (Mod.odGet_setV_ne _ E.SAFE_FORCE_SRC 0 _ hk.1)
  have clear : ((m.setBit E.SAFE_FORCE_SRC 0 c false).ilko).bitOf E.SAFE_FORCE_SRC 0 c = false :=
    ((OnlyFams.ilko _).bitOf E.SAFE_FORCE_SRC 0 c (by decide +kernel)).trans (m.bitOf_setBit_same c false (by decide))
  have ungate : ∀ (k : Nat) (x : Mod), (x.modStg k fun y => { y with gate := Sys2Proof.setBit y.gate 0 false }).od = x.od ∧
      (x.modStg k fun y => { y with gate := Sys2Proof.setBit y.gate 0 false }).site = x.site ∧
      (x.modStg k fun y => { y with gate := Sys2Proof.setBit y.gate 0 false }).safe = x.safe := fun _ _ => ⟨rfl, rfl, rfl⟩
  generalize hx : (m.setBit E.SAFE_FORCE_SRC 0 c false).ilko = x at shown clear
  have site : x.site = m.site := by rw [← hx]; rfl
  have safe : x.safe = m.safe := by rw [← hx]; rfl
  have released : ∀ b : Bool, (x.when b (·.each 2 fun g m => m.modStg g fun y => { y with gate := Sys2Proof.setBit y.gate 0 false })).od = x.od ∧
      (x.when b (·.each 2 fun g m => m.modStg g fun y => { y with gate := Sys2Proof.setBit y.gate 0 false })).site = x.site ∧
      (x.when b (·.each 2 fun g m => m.modStg g fun y => { y with gate := Sys2Proof.setBit y.gate 0 false })).safe = x.safe := fun b =>
    ⟨Mod.when_keeps Mod.od _ (fun y => Mod.each_keeps Mod.od _ (fun k z => (ungate k z).1) 2 y) b x,
      Mod.when_keeps Mod.site _ (fun y => Mod.each_keeps Mod.site _ (fun k z => (ungate k z).2.1) 2 y) b x,
      Mod.when_keeps Mod.safe _ (fun y => Mod.each_keeps Mod.safe _ (fun k z => (ungate k z).2.2) 2 y) b x⟩
  unfold Mod.unforce
  dsimp only
  rw [hx]
  generalize hy : x.when _ _ = y
  obtain ⟨od, site', safe'⟩ := released (x.n E.SAFE_FORCE_SRC 0 == 0 && !x.lockstep)
  rw [hy] at od site' safe'
  have noted : ∀ (b : Bool) (v : Val), SameOd logKeys y (y.when b (·.note E.SAFE_FORCE_SRC 0 v)) ∧
      (y.when b (·.note E.SAFE_FORCE_SRC 0 v)).plant = y.plant := fun b v => by
    cases b
    · exact ⟨.refl _ _, rfl⟩
    · exact ⟨.note _ _ _ _, y.plant_logPut _⟩
  obtain ⟨log, plant⟩ := noted (bit (m.n E.SAFE_FORCE_SRC 0) c) (.num (m.n E.SAFE_FORCE_SRC 0))
  have end_ := (Mod.site_of_plant plant).trans (site'.trans site)
  refine ⟨((shown.mono (by simp)).trans fun k _ => congrArg (odGet · k) od).trans (log.mono (by simp)), ?_, ?_, ?_, ?_⟩
  · exact Mod.phase_of_hull (Mod.hull_of_site end_)
  · exact (Mod.safe_of_bulk (Mod.bulk_of_plant plant)).trans (safe'.trans safe)
  · exact Mod.tb_of_hull (Mod.hull_of_site end_)
  · unfold Mod.bitOf
    rw [log.n E.SAFE_FORCE_SRC 0 (by decide +kernel)]
    exact (Mod.bitOf_of_od od _ _ _).trans clear

/-- The store recharges, and what has waited for flash is written (R59). -/
theorem Mod.resume_keeps (m : Mod) (d : Nat) (c : Bool) :
    SameOd logKeys m ((m.arm .holdup300 d).when c (·.q26Flush.elogFlush)) ∧
      ((m.arm .holdup300 d).when c (·.q26Flush.elogFlush)).deadline .holdup300 = some d ∧
      ((m.arm .holdup300 d).when c (·.q26Flush.elogFlush)).phase = m.phase ∧
      ((m.arm .holdup300 d).when c (·.q26Flush.elogFlush)).safe = m.safe := by
  have armed : (m.arm .holdup300 d).deadline .holdup300 = some d := Mod.deadline_arm_same m _ d
  have od0 : SameOd logKeys m (m.arm .holdup300 d) := fun _ _ => rfl
  have phase0 : (m.arm .holdup300 d).phase = m.phase := rfl
  have safe0 : (m.arm .holdup300 d).safe = m.safe := rfl
  generalize m.arm .holdup300 d = x at armed od0 phase0 safe0
  cases c
  · exact ⟨od0, armed, phase0, safe0⟩
  · obtain ⟨od, timers, plant⟩ := x.q26Flush_keeps
    obtain ⟨od', timers', phase, safe⟩ := x.q26Flush.elogFlush_keeps
    have phase1 := Mod.phase_of_hull (Mod.hull_of_bulk (Mod.bulk_of_plant plant))
    have safe1 := Mod.safe_of_bulk (Mod.bulk_of_plant plant)
    exact ⟨od0.trans (od.trans od'), (timers' _ (by simp)).trans ((timers _ (by simp)).trans armed), phase.trans (phase1.trans phase0),
      safe.trans (safe1.trans safe0)⟩

/-- In hold-up operation the return of a source takes the module back into operation (R59). -/
theorem Mod.sourceReturn_does (m : Mod) (port : Bool) (h : m.phase = .holdup) :
    (m.sourceReturn port).phase = .running ∧ (m.sourceReturn port).bitOf E.SAFE_FORCE_SRC 0 4 = false ∧
      (m.sourceReturn port).safe.holdup = false ∧ (m.sourceReturn port).deadline .holdup300 = some (m.tb + ms 300) ∧
      SameOd ([E.SAFE_FORCE_SRC.key 0, E.ILKO_STATE.key 0] ++ logKeys) m (m.sourceReturn port) := by
  unfold Mod.sourceReturn
  dsimp only
  rw [if_pos h]
  generalize hx : ({ m with usb := _, phase := _, safe := _ } : Mod) = x
  have od0 : x.od = m.od := by rw [← hx]
  have phase0 : x.phase = .running := by rw [← hx]
  have safe0 : x.safe.holdup = false := by rw [← hx]
  have tb0 : x.tb = m.tb := by rw [← hx]
  obtain ⟨od, phase, safe, tb, clear⟩ := x.unforce_keeps 4
  obtain ⟨od', armed, phase', safe'⟩ := (x.unforce 4).resume_keeps (m.tb + ms 300) m.eraseOp.isNone
  refine ⟨phase'.trans (phase.trans phase0), ?_, ?_, armed, ?_⟩
  · unfold Mod.bitOf
    rw [od'.n E.SAFE_FORCE_SRC 0 (by decide +kernel)]
    exact clear
  · rw [safe', safe, safe0]
  · exact SameOd.trans (b := x) (fun _ _ => congrArg (odGet · _) od0) (od.trans (od'.mono (by simp)))

/-- R59: the check of the store raises 13:1 below 1.8 J (R59), and leaves all else. -/
theorem Mod.recharge_does (m : Mod) (e : Rat) (h : m.due .holdup300 = true) :
    (m.recharge e).n E.HOLDUP_E 0 = f32OfRat e ∧ (m.recharge e).deadline .holdup300 = none ∧
      (e < 18 / 10 → (m.recharge e).bitOf E.FLT_ACTIVE 13 1 = true) ∧
      (18 / 10 ≤ e → Frame [E.HOLDUP_E.key 0] [.holdup300] m (m.recharge e)) := by
  have due : (m.setQ E.HOLDUP_E 0 e).due .holdup300 = true := h
  have shown : ((m.setQ E.HOLDUP_E 0 e).disarm .holdup300).n E.HOLDUP_E 0 = f32OfRat e := by
    rw [Mod.n_disarm, Mod.setQ_eq, Mod.n_setV_same _ _ _ _ (by decide)]
    rfl
  have ended : ((m.setQ E.HOLDUP_E 0 e).disarm .holdup300).deadline .holdup300 = none := Mod.deadline_disarm_same _ _
  unfold Mod.recharge
  dsimp only
  rw [if_pos due]
  by_cases low : e < 18 / 10
  · rw [show decide (e < 18 / 10) = true by simpa using low]
    generalize (m.setQ E.HOLDUP_E 0 e).disarm .holdup300 = x at shown ended
    have only : OnlyFams raiseFams x (x.sync 13 1 true (some e)) := .sync _ _ _ _ _
    refine ⟨(only.n E.HOLDUP_E 0 (by decide +kernel)).trans shown, (x.sync_notice_timers (cls := 2) true (some e) (by decide) (by decide) _ (by simp [noticeTimers])).trans ended,
      fun _ => x.sync_bitOf 1 (some e) (by decide) (by decide), fun h => absurd low (not_lt.2 h)⟩
  · rw [show decide (e < 18 / 10) = false by simpa using low]
    refine ⟨shown, ended, fun h => absurd h low, fun _ => ⟨fun k hk => ?_, fun T hT => ?_, rfl⟩⟩
    · exact Mod.odGet_setV_ne _ _ _ _ (by simpa using hk)
    · exact (Mod.deadline_disarm_ne _ (by simpa using hT)).trans rfl

end Sys2Proof.Machine

namespace Sys2Proof

open Machine

/-- Settles O42, from what a class F source, a cause of R296 that clears and a record that waits touch. -/
theorem clocksAndSources : Obligations.ClocksAndSources := by
  refine ⟨fun t s ha h => ?_, fun t s ha h => ?_, fun t s ha due lock => ?_, fun port s h => ?_, fun t e s ha due => ?_, fun t e s ha due => ?_⟩
  · obtain ⟨only, kept, count, active, cause, a, b⟩ := (s.m.at t).clockFail_does (bit := 1) (by decide) h
    have lock := (kept.n E.PLL_LOCK 0 (by decide +kernel)).trans (Mod.n_inc_ne _ (by decide))
    exact .intro rfl ha ⟨only, count, active, cause, a, b, lock⟩
  · exact .intro rfl ha ((s.m.at t).pllUnlock_does h)
  · have eq : (s.m.at t).pllTimeout = ((s.m.at t).disarm .pllRelock).arm .reset (s.m.at t).tb := by
      have unlocked : (s.m.at t).b E.PLL_LOCK 0 = false := lock
      unfold Mod.pllTimeout
      rw [due, unlocked]
      rfl
    refine .intro rfl ha ?_
    rw [eq]
    refine ⟨Mod.deadline_arm_same _ _ _, (Mod.deadline_arm_ne _ _ (by decide)).trans (Mod.deadline_disarm_same _ _), fun _ _ => rfl, ?_, rfl⟩
    exact (SameTimers.disarm _ (by simp)).trans (.arm _ _ (by simp))
  · exact ⟨_, rfl, ({ s.m with out := [] } : Mod).sourceReturn_does port h⟩
  · exact .intro rfl ha ((s.m.at t).recharge_does e due)
  · have eq : (s.m.at t).recharge e = (s.m.at t).setQ E.HOLDUP_E 0 e := by
      have idle : ((s.m.at t).setQ E.HOLDUP_E 0 e).due .holdup300 = false := due
      unfold Mod.recharge
      dsimp only
      rw [idle]
      rfl
    refine .intro rfl ha ?_
    rw [eq]
    refine ⟨?_, fun k hk => Mod.odGet_setV_ne _ _ _ _ (by simpa using hk), fun _ _ => rfl, rfl⟩
    rw [Mod.setQ_eq, Mod.n_setV_same _ _ _ _ (by decide)]
    rfl

end Sys2Proof
end

section
/-! PROOF. Raising, scanning and acknowledging sources (R304, R476, R477, R479). -/

set_option Elab.async false

namespace Sys2Proof.Machine

open Sys2Proof

@[simp] theorem Mod.fltOf_modFlt_same (m : Mod) (b : Nat) (f : Flt → Flt) : (m.modFlt b f).fltOf b = f (m.fltOf b) := getD_modAt_same _ _ _ _

theorem Mod.fltOf_modFlt_ne (m : Mod) {b j : Nat} (f : Flt → Flt) (h : j ≠ b) : (m.modFlt b f).fltOf j = m.fltOf j :=
  getD_modAt_ne _ _ _ h

theorem Mod.fltOf_of_flt {m m' : Mod} (h : m'.flt = m.flt) (b : Nat) : m'.fltOf b = m.fltOf b := by
  unfold Mod.fltOf
  rw [h]

/-! ## Timers of a force -/

/-- The timers that a SAFE force touches. -/
def forceTimers : List Tmr :=
  [.erase, .ssRamp, .ssOpen, .contPull, .sstDelay true, .sstDelay false, .sspDelay true, .sspDelay false] ++
    (List.range 16).map .arming

theorem SameTimers.foldl {Ts : List Tmr} {β : Type} {f : Mod → β → Mod} (l : List β) (hf : ∀ m, ∀ b ∈ l, SameTimers Ts m (f m b)) (m : Mod) :
    SameTimers Ts m (l.foldl f m) := by
  induction l generalizing m with
  | nil => exact .refl Ts m
  | cons b r ih => exact (hf m b (by simp)).trans (ih (fun m c hc => hf m c (List.mem_cons_of_mem _ hc)) _)

theorem SameTimers.haltPhase (m : Mod) {p : Nat} (hp : p < 16) : SameTimers forceTimers m (m.haltPhase p) := by
  have stopped : SameTimers forceTimers m (m.disarm (.arming p)) := .disarm m (by simp [forceTimers, hp])
  unfold Mod.haltPhase
  dsimp only
  split
  · exact stopped.trans (.of_timers rfl)
  · exact stopped

theorem Mod.countPhases_timers (m : Mod) : m.countPhases.timers = m.timers := by
  have shown : ∀ (k v : Nat) (x : Mod), (x.setN E.IN_PHASES k v).timers = x.timers := fun _ _ _ => rfl
  unfold Mod.countPhases
  dsimp only
  rw [Mod.each_keeps Mod.timers _ fun k x => shown k _ x]
  rfl

theorem Mod.haltAdds_timers (m : Mod) (g : Nat) : (m.haltAdds g).timers = m.timers := by
  have idle : ∀ (k : Nat) (x : Mod), (x.modGrp k fun y => { y with adding := false }).timers = x.timers := fun _ _ => rfl
  unfold Mod.haltAdds
  split
  · exact Mod.each_keeps Mod.timers _ idle 4 m
  · rfl

theorem SameTimers.gateOff (m : Mod) {g : Nat} (c : Nat) (hg : g < 2) : SameTimers forceTimers m (m.gateOff g c) := by
  have phases : ∀ p ∈ stagePhases g, p < 16 := fun p hp => by
    obtain ⟨k, hk, rfl⟩ := List.mem_map.1 hp
    have := List.mem_range.1 hk
    omega
  have delays : ∀ x : Mod, SameTimers forceTimers x (x.gateShow g) := fun x => by
    have stopped : ∀ y : Mod, SameTimers forceTimers y ((y.disarm (.sstDelay (g == 0))).disarm (.sspDelay (g == 0))) := fun y =>
      (SameTimers.disarm y (by cases g == 0 <;> simp [forceTimers])).trans (.disarm _ (by cases g == 0 <;> simp [forceTimers]))
    have bridge : ∀ y : Mod, SameTimers forceTimers y (if y.n E.BRIDGE_STATE 0 == 0 then y else y.setN E.BRIDGE_STATE 0 0) := fun y => by
      split
      · exact .refl _ y
      · exact .of_timers rfl
    unfold Mod.gateShow
    exact (((SameTimers.of_timers (b := x.setN E.SST_STATE g _) rfl).trans (stopped _)).trans (.of_timers rfl)).trans (.when _ _ (bridge _))
  rw [Mod.gateOff_eq, Mod.abandonStage_eq]
  exact ((((SameTimers.foldl _ (fun x p hp => .haltPhase x (phases p hp)) m).trans (.of_timers (Mod.modStg_timers _ _ _))).trans
    (.of_timers (Mod.haltAdds_timers _ g))).trans (.of_timers (Mod.countPhases_timers _))).trans
    ((SameTimers.of_timers (Mod.modStg_timers _ _ _)).trans (delays _))

theorem SameTimers.force (m : Mod) (c : Nat) : SameTimers forceTimers m (m.force c) := by
  have noted : ∀ (x : Mod) (was : Nat), SameTimers forceTimers x (x.forceNoted was c) := fun x was => by
    have recorded : SameTimers forceTimers x ((x.note E.SAFE_FORCE_SRC 0 (.num was)).alertSet 4) :=
      ((SameTimers.logPut x _).mono (by simp [forceTimers])).trans (.of_timers rfl)
    exact .when x _ (recorded.trans (.of_timers (Mod.capTrigger_timers _ _ _)))
  have told : ∀ (x : Mod) (was : Nat), SameTimers forceTimers x (x.forceTold was c) := fun x was =>
    .when x _ (.of_timers (x.originateIn_timers _ _ _ _ (by decide)))
  have stopped : ∀ x : Mod, SameTimers forceTimers x x.forceStop := fun x => by
    have coil : ∀ y : Mod, SameTimers forceTimers y y.contOff := fun y => by
      have state : ∀ (z : Mod) (b : Bool), SameTimers forceTimers z (z.when b (·.setN E.CONT_STATE 0 0)) := fun z b =>
        .when z b (.of_timers rfl)
      have off : SameTimers forceTimers y { y with safe := { y.safe with contOn := false } } := .of_timers rfl
      have shown : ∀ z : Mod, SameTimers forceTimers z (z.setQ E.CONT_I 0 0) := fun _ => .of_timers rfl
      exact ((off.trans (state _ _)).trans (shown _)).trans (.disarm _ (by simp [forceTimers]))
    unfold Mod.forceStop
    split
    · have begun : SameTimers forceTimers x (x.setN E.SS_STATE 0 2) := .of_timers rfl
      exact (begun.trans (.disarm _ (by simp [forceTimers]))).trans (.arm _ _ (by simp [forceTimers]))
    · split
      · exact .refl _ x
      · exact .when x _ (coil x)
  have cause : SameTimers forceTimers m (m.forceCause c) := .of_timers rfl
  have gates : ∀ x : Mod, SameTimers forceTimers x (x.gateOffBoth 0) := fun x =>
    (SameTimers.gateOff x 0 (by decide)).trans (.gateOff _ 0 (by decide))
  have shown : ∀ x : Mod, SameTimers forceTimers x x.ilko.dropIntents := fun _ => .of_timers rfl
  rw [Mod.force_eq]
  exact ((((cause.trans (noted _ _)).trans (gates _)).trans (told _ _)).trans (shown _)).trans (stopped _)

/-! ## A source that comes -/

/-- What an escalation looks at: when the source last changed, what waits for an acknowledgement, and whether its block resets. -/
def Flt.grace (f : Flt) : Nat × Nat × Bool := (f.since, f.unacked, f.resetting)

theorem Mod.grace_modFlt (m : Mod) (b j : Nat) (f : Flt → Flt) (hf : ∀ x, (f x).grace = x.grace) :
    ((m.modFlt b f).fltOf j).grace = (m.fltOf j).grace := by
  by_cases h : j = b
  · rw [h, Mod.fltOf_modFlt_same, hf]
  · rw [Mod.fltOf_modFlt_ne _ _ h]

theorem Mod.grace_when (m : Mod) (c : Bool) {f : Mod → Mod} (j : Nat) (hf : ((f m).fltOf j).grace = (m.fltOf j).grace) :
    ((m.when c f).fltOf j).grace = (m.fltOf j).grace := by
  cases c
  · rfl
  · exact hf

theorem Mod.sourceTold_grace (m : Mod) (b bit j : Nat) : ((m.sourceTold b bit).fltOf j).grace = (m.fltOf j).grace := by
  have held : ∀ (x : Mod) (c : Bool) (d : Nat), (x.when c (·.arm (.eventHold b bit) d)).fltOf j = x.fltOf j := fun x c d => by
    cases c <;> rfl
  unfold Mod.sourceTold
  dsimp only
  rw [held]
  exact m.grace_when _ _ (m.grace_modFlt _ _ _ fun _ => rfl)

theorem Mod.logFault_grace (m : Mod) (b bit cls j : Nat) (value : Option Rat) :
    ((m.logFault b bit cls value).fltOf j).grace = (m.fltOf j).grace := by
  have told : ((m.modFlt b fun x => { x with counts := x.counts.filter (·.1 != bit) }).fltOf j).grace = (m.fltOf j).grace :=
    m.grace_modFlt b j _ fun _ => rfl
  unfold Mod.logFault
  split
  · rfl
  · dsimp only
    split
    · exact told
    · exact told
    · exact (congrArg Flt.grace (Mod.fltOf_of_flt (Mod.flt_of_plant (Mod.plant_logPut _ _)) j)).trans told

theorem Mod.injFound_grace (m : Mod) (b bit j : Nat) : ((m.injFound b bit).fltOf j).grace = (m.fltOf j).grace := by
  unfold Mod.injFound
  split
  · rfl
  · exact m.grace_modFlt b j _ fun _ => rfl

/-- What a source's class does changes of the blocks' states what a class F state does (R483). -/
theorem Mod.classActs_fltOf (m : Mod) (b bit cls : Nat) :
    (m.classActs b bit cls).flt = (if cls = 3 then m.classFNoted b (1 <<< bit) else m).flt := by
  have after : ∀ x : Mod, ((x.when (2 ≤ cls) (fun m => m.capTrigger 0x40 m.tb)).faultPin).flt = x.flt := fun x =>
    (Mod.flt_of_plant (Mod.plant_faultPin _)).trans
      (Mod.when_keeps Mod.flt (fun m => m.capTrigger 0x40 m.tb) (fun y => Mod.flt_of_plant (y.plant_capTrigger _ _)) _ x)
  refine (after _).trans ?_
  by_cases h : cls = 3
  · rw [if_pos h, Mod.when, if_pos (by simpa using h), Mod.classF_eq]
    exact Mod.flt_of_site (Mod.site_force _ 2)
  · rw [if_neg h, Mod.when, if_neg (by simpa using h)]

/-- R477: a source that comes, up to its record. -/
def Mod.sourceCome (m : Mod) (b bit cls : Nat) (value : Option Rat) : Mod :=
  ((((m.sourceBits b bit).sourceShown b cls).sourceTold b bit).logFault b bit cls value).injFound b bit

theorem Mod.raiseAs_come (m : Mod) (b bit cls : Nat) (value : Option Rat) (h : m.bitOf E.FLT_ACTIVE b bit = false) :
    m.raiseAs b bit cls value = ((m.sourceCome b bit cls value).graceBegun b bit cls).classActs b bit cls := m.raiseAs_eq b bit cls value h

theorem Mod.sourceCome_grace (m : Mod) (b bit cls : Nat) (value : Option Rat) :
    ((m.sourceCome b bit cls value).fltOf b).grace = (m.tb, (m.fltOf b).unacked, (m.fltOf b).resetting) := by
  have shown : ∀ x : Mod, ((x.sourceShown b cls).fltOf b).grace = (x.tb, (x.fltOf b).unacked, (x.fltOf b).resetting) := fun x => by
    unfold Mod.sourceShown
    dsimp only
    rw [Mod.fltOf_modFlt_same]
    by_cases h : x.n E.FLT_CLASS b < cls
    · rw [Mod.when, if_pos (by simpa using h)]
      rfl
    · rw [Mod.when, if_neg (by simpa using h)]
      rfl
  rw [Mod.sourceCome, Mod.injFound_grace, Mod.logFault_grace, Mod.sourceTold_grace, shown]
  rfl

theorem Mod.sourceCome_timers (m : Mod) (b bit cls : Nat) (value : Option Rat) :
    SameTimers [.erase, .eventHold b bit, .injMiss b bit] m (m.sourceCome b bit cls value) := by
  have shown : ∀ x : Mod, (x.sourceShown b cls).timers = x.timers := fun x => by
    have ranked : ∀ y : Mod, (y.setN E.FLT_CLASS b cls).timers = y.timers := fun _ => rfl
    exact Mod.when_keeps Mod.timers _ ranked _ x
  have told : ∀ x : Mod, SameTimers [.erase, .eventHold b bit, .injMiss b bit] x (x.sourceTold b bit) := fun x =>
    (SameTimers.when x _ (.of_timers (Mod.modFlt_timers _ _ _))).trans (.when _ _ (.arm _ _ (by simp)))
  have found : ∀ x : Mod, SameTimers [.erase, .eventHold b bit, .injMiss b bit] x (x.injFound b bit) := fun x => by
    unfold Mod.injFound
    split
    · exact .refl _ x
    · exact SameTimers.trans (b := x.modFlt b _) (.of_timers rfl) (.disarm _ (by simp))
  have bits : (m.sourceBits b bit).timers = m.timers := rfl
  exact (((SameTimers.of_timers bits).trans (.of_timers (shown _))).trans (told _)).trans
    (((Mod.logFault_timers _ b bit cls value).mono (by simp)).trans (found _))

theorem OnlyFams.sourceCome (m : Mod) (b bit cls : Nat) (value : Option Rat) :
    OnlyFams ([E.FLT_CLASS, E.FLT_SUMMARY] ++ logFams) (m.sourceBits b bit) (m.sourceCome b bit cls value) := by
  refine OnlyFams.of_od ?_ (Mod.injFound_od _ b bit)
  exact (((OnlyFams.sourceShown _ b cls).mono (List.subset_append_left _ _)).of_od (Mod.sourceTold_od _ b bit)).trans
    ((OnlyFams.logFault _ b bit cls value).mono (List.subset_append_right _ _))

/-- The class and the summary that a source that comes leaves (R477). -/
theorem Mod.sourceCome_shows (m : Mod) {b : Nat} (bit cls : Nat) (value : Option Rat) (hb : b < 16) :
    (m.sourceCome b bit cls value).n E.FLT_CLASS b = (if m.n E.FLT_CLASS b < cls then cls else m.n E.FLT_CLASS b) ∧
      (m.sourceCome b bit cls value).bitOf E.FLT_SUMMARY 0 b = true := by
  have apart : ∀ j < 16, E.FLT_CLASS.key j ∉ logFams.flatMap Fam.keys ∧ E.FLT_CLASS.key j ≠ E.FLT_SUMMARY.key 0 ∧
      E.FLT_CLASS.key j ≠ E.FLT_ACTIVE.key j ∧ E.FLT_CLASS.key j ≠ E.FLT_STICKY.key j := by decide +kernel
  obtain ⟨log, summary, active, sticky⟩ := apart b hb
  have bits : (m.sourceBits b bit).n E.FLT_CLASS b = m.n E.FLT_CLASS b := by
    unfold Mod.sourceBits
    rw [Mod.setBit_eq, Mod.n_setV_ne _ _ _ _ _ _ sticky, Mod.setBit_eq, Mod.n_setV_ne _ _ _ _ _ _ active]
  have later : ∀ x : Mod, OnlyFams logFams (x.sourceShown b cls) (((x.sourceShown b cls).sourceTold b bit).logFault b bit cls value |>.injFound b bit) :=
    fun x => OnlyFams.of_od (OnlyFams.trans (OnlyFams.of_od (.refl _ _) (Mod.sourceTold_od _ b bit)) (.logFault _ b bit cls value)) (Mod.injFound_od _ b bit)
  have shown : ∀ x : Mod, (x.sourceShown b cls).n E.FLT_CLASS b = (if x.n E.FLT_CLASS b < cls then cls else x.n E.FLT_CLASS b) ∧
      (x.sourceShown b cls).bitOf E.FLT_SUMMARY 0 b = true := fun x => by
    refine ⟨?_, ?_⟩
    · unfold Mod.sourceShown
      dsimp only
      rw [Mod.n_modFlt, Mod.setBit_eq, Mod.n_setV_ne _ _ _ _ _ _ summary]
      by_cases h : x.n E.FLT_CLASS b < cls
      · rw [Mod.when, if_pos (by simpa using h), if_pos h, Mod.n_setN_same _ _ hb]
      · rw [Mod.when, if_neg (by simpa using h), if_neg h]
    · exact (Mod.bitOf_of_od (Mod.modFlt_od _ _ _) _ _ _).trans (Mod.bitOf_setBit_same _ b true (by decide))
  obtain ⟨class_, sum⟩ := shown (m.sourceBits b bit)
  refine ⟨((later _).n _ _ log).trans (class_.trans (by rw [bits])), ((later _).bitOf _ _ _ (by decide +kernel)).trans sum⟩

/-- The state of the block of a source that comes. -/
theorem Mod.raiseAs_grace (m : Mod) {b bit cls : Nat} (value : Option Rat) (h : m.bitOf E.FLT_ACTIVE b bit = false) :
    ((m.raiseAs b bit cls value).fltOf b).since = m.tb ∧
      (cls = 2 → Sys2Proof.bit ((m.raiseAs b bit cls value).fltOf b).unacked bit = true) := by
  have come := m.sourceCome_grace b bit cls value
  rw [m.raiseAs_come b bit cls value h]
  generalize m.sourceCome b bit cls value = x at come
  have since : (x.fltOf b).since = m.tb := congrArg (·.1) come
  have held : ∀ (y : Mod) (c : Bool) (d : Nat), (y.when c (·.arm (.grace b) d)).fltOf b = y.fltOf b := fun y c d => by cases c <;> rfl
  by_cases hu : cls = 2
  · have begun : (x.graceBegun b bit cls).fltOf b = { x.fltOf b with unacked := Sys2Proof.setBit (x.fltOf b).unacked bit true } := by
      unfold Mod.graceBegun
      rw [Mod.when, if_pos (by simpa using hu)]
      dsimp only
      rw [held, Mod.fltOf_modFlt_same]
    rw [Mod.fltOf_of_flt (Mod.classActs_fltOf _ b bit cls), if_neg (by omega), begun]
    exact ⟨since, fun _ => bit_setBit_same _ bit true⟩
  · have begun : x.graceBegun b bit cls = x := by
      unfold Mod.graceBegun
      rw [Mod.when, if_neg (by simpa using hu)]
    rw [Mod.fltOf_of_flt (Mod.classActs_fltOf _ b bit cls), begun]
    refine ⟨?_, fun h => absurd h hu⟩
    split
    · unfold Mod.classFNoted
      exact (congrArg Flt.since (Mod.fltOf_modFlt_same _ _ _)).trans since
    · exact since

/-- The entries of a source that comes (R477, R483). -/
theorem Mod.raiseAs_shows (m : Mod) {b bit cls : Nat} (value : Option Rat) (hb : b < 16) (h : m.bitOf E.FLT_ACTIVE b bit = false) :
    (m.raiseAs b bit cls value).bitOf E.FLT_STICKY b bit = true ∧ (m.raiseAs b bit cls value).bitOf E.FLT_SUMMARY 0 b = true ∧
      (m.raiseAs b bit cls value).n E.FLT_CLASS b = (if cls = 3 ∨ m.n E.FLT_CLASS b < cls then cls else m.n E.FLT_CLASS b) := by
  have apart : ∀ j < 16, E.FLT_STICKY.key j ∉ raiseEffects.flatMap Fam.keys ∧ E.FLT_CLASS.key j ∉ forceFams.flatMap Fam.keys ∧
      E.FLT_CLASS.key j ∉ tellEffects.flatMap Fam.keys ∧ E.FLT_CLASS.key j ∉ [E.FAULT_OUT].flatMap Fam.keys ∧
      E.FLT_CLASS.key j ∉ (outFams ++ capFams).flatMap Fam.keys := by decide +kernel
  obtain ⟨sticky, forced, told, pin, captured⟩ := apart b hb
  obtain ⟨class_, summary⟩ := m.sourceCome_shows bit cls value hb
  refine ⟨?_, ?_, ?_⟩
  · rw [(OnlyFams.raiseAs_effects m b bit cls value h).bitOf _ _ _ sticky]
    exact Mod.bitOf_setBit_same _ bit true hb
  · rw [m.raiseAs_come b bit cls value h, (OnlyFams.classActs _ b bit cls).bitOf _ _ _ (by decide +kernel),
      Mod.bitOf_of_od (Mod.graceBegun_od _ b bit cls)]
    exact summary
  · rw [m.raiseAs_come b bit cls value h]
    have graced : ((m.sourceCome b bit cls value).graceBegun b bit cls).n E.FLT_CLASS b = (m.sourceCome b bit cls value).n E.FLT_CLASS b :=
      SameOd.n (ks := []) (fun k _ => congrArg (odGet · k) (Mod.graceBegun_od _ b bit cls)) _ _ (by simp)
    by_cases hf : cls = 3
    · have held : ∀ x : Mod, ((x.classF b (1 <<< bit)).capTrigger 0x40 (x.classF b (1 <<< bit)).tb).faultPin.n E.FLT_CLASS b = 3 := fun x => by
        rw [(OnlyFams.faultPin _).n _ _ pin, (OnlyFams.capTrigger _ _ _).n _ _ captured, Mod.classF_eq, (OnlyFams.force _ 2).n _ _ forced, Mod.classFNoted, Mod.n_disarm, Mod.n_setN_same _ _ hb]
      rw [if_pos (.inl hf), hf]
      exact held _
    · rw [(OnlyFams.classActs_notice _ b bit hf).1.n _ _ told, graced, class_]
      simp [hf]

/-! ## Timers of a source that comes -/

/-- The timers that a source that comes may touch once it has been told. -/
def sourceTimers (b bit : Nat) : List Tmr := [.erase, .injMiss b bit, .grace b, .faultContact] ++ forceTimers

theorem Mod.faultPin_timers (m : Mod) (b bit : Nat) : SameTimers (sourceTimers b bit) m m.faultPin := by
  unfold Mod.faultPin
  split
  · exact SameTimers.trans (b := m.setB E.FAULT_OUT 0 false) (.of_timers rfl) (.arm _ _ (by simp [sourceTimers]))
  · exact .refl _ m

theorem Mod.classActs_timers (m : Mod) (b bit cls : Nat) : SameTimers (sourceTimers b bit) m (m.classActs b bit cls) := by
  have noted : SameTimers (sourceTimers b bit) m (m.classF b (1 <<< bit)) := by
    rw [Mod.classF_eq]
    exact (SameTimers.trans (b := (m.modFlt b _).setN E.FLT_CLASS b 3) (.of_timers rfl) (.disarm _ (by simp [sourceTimers]))).trans
      ((SameTimers.force _ 2).mono (List.subset_append_right _ _))
  have fires : ∀ x : Mod, (x.when (2 ≤ cls) (fun m => m.capTrigger 0x40 m.tb)).timers = x.timers :=
    Mod.when_keeps Mod.timers (fun m => m.capTrigger 0x40 m.tb) (fun y => y.capTrigger_timers _ _) _
  unfold Mod.classActs
  exact ((SameTimers.when m (cls == 3) (f := (·.classF b (1 <<< bit))) noted).trans (.of_timers (fires _))).trans (Mod.faultPin_timers _ b bit)

theorem Mod.graceBegun_timers (m : Mod) (b bit cls : Nat) : SameTimers [.grace b] m (m.graceBegun b bit cls) :=
  .when m _ ((SameTimers.of_timers (Mod.modFlt_timers _ _ _)).trans (.when _ _ (.arm _ _ (by simp))))

theorem Mod.injFound_timers (m : Mod) (b bit : Nat) : SameTimers [.injMiss b bit] m (m.injFound b bit) := by
  unfold Mod.injFound
  split
  · exact .refl _ m
  · exact SameTimers.trans (b := m.modFlt b _) (.of_timers rfl) (.disarm _ (by simp))

theorem eventHold_apart (b bit b' bit' : Nat) : Tmr.eventHold b' bit' ∉ sourceTimers b bit := by
  simp [sourceTimers, forceTimers]

/-- An event source that comes holds its bit for 1 ms (R522). -/
theorem Mod.raiseAs_held (m : Mod) {b bit : Nat} (cls : Nat) (value : Option Rat) (h : m.bitOf E.FLT_ACTIVE b bit = false)
    (hs : srcEvent b bit = true) : (m.raiseAs b bit cls value).deadline (.eventHold b bit) = some (m.tb + ms 1) := by
  have told : ∀ x : Mod, (x.sourceTold b bit).deadline (.eventHold b bit) = some (x.tb + ms 1) := fun x => by
    have same : ∀ c : Bool, (x.when c (·.modFlt b fun y => { y with told := Sys2Proof.setBit y.told bit true })).tb = x.tb := fun c => by
      cases c <;> rfl
    unfold Mod.sourceTold
    dsimp only
    rw [Mod.when, if_pos hs, Mod.deadline_arm_same, same]
  have shown : ∀ x : Mod, (x.sourceShown b cls).tb = x.tb := fun x =>
    Mod.when_keeps Mod.tb (·.setN E.FLT_CLASS b cls) (fun _ => rfl) (x.n E.FLT_CLASS b < cls) x
  rw [m.raiseAs_come b bit cls value h, Mod.classActs_timers _ b bit cls _ (eventHold_apart _ _ _ _), Mod.graceBegun_timers _ b bit cls _ (by simp),
    Mod.sourceCome, Mod.injFound_timers _ b bit _ (by simp), Mod.logFault_timers _ b bit cls value _ (by simp), told, shown]
  rfl

/-- A class U source that comes while its block waits for nothing begins the block's grace (R480). -/
theorem Mod.raiseAs_begins (m : Mod) {b bit : Nat} (value : Option Rat) (hb : b < 16) (h : m.bitOf E.FLT_ACTIVE b bit = false)
    (ha : m.armed (.grace b) = false) (hr : (m.fltOf b).resetting = false) :
    (m.raiseAs b bit 2 value).deadline (.grace b) = some (m.tb + ms (m.n E.FLT_GRACE b)) := by
  have apart : ∀ j < 16, E.FLT_GRACE.key j ∉ ([E.FLT_CLASS, E.FLT_SUMMARY] ++ logFams).flatMap Fam.keys ∧
      E.FLT_GRACE.key j ∉ [E.FLT_ACTIVE, E.FLT_STICKY].flatMap Fam.keys := by decide +kernel
  obtain ⟨come, bits⟩ := apart b hb
  have length : (m.sourceCome b bit 2 value).n E.FLT_GRACE b = m.n E.FLT_GRACE b := by
    rw [(OnlyFams.sourceCome m b bit 2 value).n _ _ come, (m.sourceBits_only b bit).n _ _ bits]
  have tb : (m.sourceCome b bit 2 value).tb = m.tb := Mod.tb_of_hull (Mod.hull_of_bulk (by simp [Mod.sourceCome, Mod.sourceBits]))
  have idle : (m.sourceCome b bit 2 value).armed (.grace b) = false := by
    rw [Mod.armed, m.sourceCome_timers b bit 2 value _ (by simp)]
    exact ha
  have graced : ((m.sourceCome b bit 2 value).fltOf b).resetting = false :=
    (congrArg (·.2.2) (m.sourceCome_grace b bit 2 value)).trans hr
  have acts : ∀ x : Mod, (x.classActs b bit 2).deadline (.grace b) = x.deadline (.grace b) := fun x => by
    have fires : (x.capTrigger 0x40 x.tb).timers = x.timers := x.capTrigger_timers _ _
    have pin : ∀ y : Mod, SameTimers [.faultContact] y y.faultPin := fun y => by
      unfold Mod.faultPin
      split
      · exact SameTimers.trans (b := y.setB E.FAULT_OUT 0 false) (.of_timers rfl) (.arm _ _ (by simp))
      · exact .refl _ y
    exact (pin (x.capTrigger 0x40 x.tb) _ (by simp)).trans (SameTimers.of_timers (Ts := []) fires _ (by simp))
  rw [m.raiseAs_come b bit 2 value h, acts]
  generalize m.sourceCome b bit 2 value = x at length tb idle graced
  have begun : x.graceBegun b bit 2 =
      (x.modFlt b fun y => { y with unacked := Sys2Proof.setBit y.unacked bit true }).arm (.grace b) (x.tb + ms (x.n E.FLT_GRACE b)) := by
    have ready : (!(x.modFlt b fun y => { y with unacked := Sys2Proof.setBit y.unacked bit true }).armed (.grace b) &&
        !((x.modFlt b fun y => { y with unacked := Sys2Proof.setBit y.unacked bit true }).fltOf b).resetting) = true := by
      rw [Mod.fltOf_modFlt_same, show (x.modFlt b _).armed (.grace b) = x.armed (.grace b) from rfl, idle, graced]
      rfl
    unfold Mod.graceBegun
    rw [Mod.when, if_pos (by decide)]
    dsimp only
    rw [Mod.when, if_pos ready]
    rfl
  rw [begun, Mod.deadline_arm_same, length, tb]

/-! ## What raising asks beside the raising -/

/-- Calibration, the ECC check and VBUS add to a source nothing that the raising looks at (R312, R329). -/
theorem Mod.raiseEffect_frame (m : Mod) (b bit : Nat) : OnlyFams [E.CAL_STATE, E.CAP_FLAGS] m (m.raiseEffect b bit) ∧
    (m.raiseEffect b bit).timers = m.timers ∧ (m.raiseEffect b bit).flt = m.flt ∧ (m.raiseEffect b bit).tb = m.tb := by
  have ecc : OnlyFams [E.CAL_STATE, E.CAP_FLAGS] m m.capEcc ∧ m.capEcc.timers = m.timers ∧ m.capEcc.flt = m.flt ∧ m.capEcc.tb = m.tb := by
    have lost : ∀ (x : Mod) (c : Bool), OnlyFams [E.CAL_STATE, E.CAP_FLAGS] x (x.when c (·.setBit E.CAP_FLAGS 0 2 true)) ∧
        (x.when c (·.setBit E.CAP_FLAGS 0 2 true)).timers = x.timers ∧ (x.when c (·.setBit E.CAP_FLAGS 0 2 true)).flt = x.flt ∧
        (x.when c (·.setBit E.CAP_FLAGS 0 2 true)).tb = x.tb := fun x c =>
      ⟨.when x _ (.setV (f := E.CAP_FLAGS) x 0 _ (by simp)), by cases c <;> rfl, by cases c <;> rfl, by cases c <;> rfl⟩
    unfold Mod.capEcc
    dsimp only
    split
    · exact ⟨.of_od (.refl _ m) rfl, rfl, rfl, rfl⟩
    · exact lost _ _
  unfold Mod.raiseEffect
  split
  · exact ⟨.setV (f := E.CAL_STATE) m 0 _ (by simp), rfl, rfl, rfl⟩
  split
  · cases !Sys2Proof.bit (m.fltOf 6).injected 1
    · exact ⟨.refl _ m, rfl, rfl, rfl⟩
    · exact ecc
  split
  · exact ⟨fun _ _ => rfl, rfl, rfl, rfl⟩
  · exact ⟨.refl _ m, rfl, rfl, rfl⟩

/-! ## Scan, acknowledgement and the end of an event -/

theorem Mod.told_of_scan (m : Mod) {b : Nat} (hb : b < 16) :
    ((m.each 16 (fun b m => m.modFlt b (fun x => { x with told := m.n E.FLT_ACTIVE b }))).fltOf b).told = m.n E.FLT_ACTIVE b := by
  have scanned : ∀ (l : List Nat) (x : Mod), x.n E.FLT_ACTIVE b = m.n E.FLT_ACTIVE b →
      (b ∈ l ∨ (x.fltOf b).told = m.n E.FLT_ACTIVE b) →
      ((l.foldl (fun x k => x.modFlt k (fun y => { y with told := x.n E.FLT_ACTIVE k })) x).fltOf b).told = m.n E.FLT_ACTIVE b := by
    intro l
    induction l with
    | nil => exact fun x _ h => h.resolve_left (by simp)
    | cons k r ih =>
      intro x hx h
      refine ih _ hx ?_
      by_cases hk : b = k
      · subst hk
        exact .inr ((congrArg Flt.told (Mod.fltOf_modFlt_same x b _)).trans hx)
      · rcases h with h | h
        · exact .inl ((List.mem_cons.1 h).resolve_left hk)
        · exact .inr ((congrArg Flt.told (Mod.fltOf_modFlt_ne x _ hk)).trans h)
  exact scanned (List.range 16) m rfl (.inl (List.mem_range.2 hb))

theorem Mod.kprTask_only (m : Mod) (k : Nat) : SameOd E.KPR_SEEN.keys m (m.kprTask k) := by
  unfold Mod.kprTask
  split
  · exact .setV m (f := E.KPR_SEEN) 0 _ (List.Subset.refl _)
  · exact .refl _ m

theorem Mod.kprTask_flt (m : Mod) (k : Nat) : (m.kprTask k).flt = m.flt := by
  unfold Mod.kprTask
  split <;> rfl

/-- The bits of an absent block's source stay as they are. -/
theorem Mod.lower_absent (m : Mod) {b : Nat} (bit : Nat) (hb : ¬ b < 16) : (m.lower b bit).od = m.od := by
  have absent : ∀ v : Val, (m.setV E.FLT_ACTIVE b v).od = m.od := fun v => if_neg hb
  unfold Mod.lower
  split
  · exact absent _
  · rfl

/-- A raised source, with what its raising rule asks beside (R476, R477, R480, R483). -/
theorem Mod.faultRaise_source (m : Mod) {b k cls : Nat} (value : Rat) (hb : b < 16) (hc : m.classNow b k = some cls)
    (h : m.bitOf E.FLT_ACTIVE b k = false) :
    ∃ x : Mod, m.faultRaise b k true value = x.raiseAs b k cls (some value) ∧ OnlyFams [E.CAL_STATE, E.CAP_FLAGS] m x ∧
      x.timers = m.timers ∧ x.flt = m.flt ∧ x.tb = m.tb ∧ x.bitOf E.FLT_ACTIVE b k = false ∧
      x.n E.FLT_CLASS b = m.n E.FLT_CLASS b ∧ x.n E.FLT_GRACE b = m.n E.FLT_GRACE b := by
  have apart : ∀ j < 16, E.FLT_ACTIVE.key j ∉ [E.CAL_STATE, E.CAP_FLAGS].flatMap Fam.keys ∧
      E.FLT_CLASS.key j ∉ [E.CAL_STATE, E.CAP_FLAGS].flatMap Fam.keys ∧
      E.FLT_GRACE.key j ∉ [E.CAL_STATE, E.CAP_FLAGS].flatMap Fam.keys := by decide +kernel
  obtain ⟨active, class_, grace⟩ := apart b hb
  obtain ⟨only, timers, flt, tb⟩ := m.raiseEffect_frame b k
  refine ⟨m.raiseEffect b k, ?_, only, timers, flt, tb, (only.bitOf _ _ _ active).trans h, only.n _ _ class_, only.n _ _ grace⟩
  unfold Mod.faultRaise
  rw [hc]
  rfl

end Sys2Proof.Machine

namespace Sys2Proof

open Machine

/-- Settles O34: a source that comes shows at its class, begins its grace or forces the module; the scan tells it, the
acknowledgement stops its grace, and an event ends after its hold. -/
theorem faultRaising : Obligations.FaultRaising := by
  unfold Obligations.FaultRaising
  refine ⟨?_, ?_, ?_, ?_⟩
  · intro t b k cls value s ha hb hc h
    refine DoesM.intro (f := Mod.faultRaise b k true value) rfl ha ?_
    obtain ⟨x, hx, only, timers, flt, tb, active, class_, grace⟩ := (s.m.at t).faultRaise_source value hb hc h
    have block : x.fltOf b = (s.m.at t).fltOf b := Mod.fltOf_of_flt flt b
    have idle : ∀ T : Tmr, x.armed T = (s.m.at t).armed T := fun T => congrArg Option.isSome (SameTimers.of_timers (Ts := []) timers T (by simp))
    rw [hx]
    obtain ⟨sticky, summary, level⟩ := x.raiseAs_shows (cls := cls) (some value) hb active
    obtain ⟨since, waits⟩ := x.raiseAs_grace (cls := cls) (some value) active
    refine ⟨(only.mono (by simp [tripFams, raiseFams, forceFams, capFams])).trans
        ((OnlyFams.raiseAs x b k cls _).mono fun f hf => ?_), x.raiseAs_bitOf k cls _ hb, sticky, summary,
      by rw [level, class_], since.trans tb, fun he => by rw [x.raiseAs_held cls _ active he, tb], fun hu => ⟨waits hu, fun h1 h2 _ => ?_⟩, fun hf => ?_⟩
    · simp only [tripFams, List.mem_append]
      exact .inl (.inr hf)
    · subst hu
      rw [x.raiseAs_begins _ hb active ((idle _).trans h1) (block ▸ h2), tb, grace]
    · subst hf
      exact x.raiseAs_forces b k _ active
  · intro t s ha
    refine DoesM.intro (f := Mod.faultScan) rfl ha ⟨fun b hb => ?_, ?_⟩
    · exact (congrArg Flt.told (Mod.fltOf_of_flt (Mod.kprTask_flt _ _) b)).trans (Mod.told_of_scan _ hb)
    · refine SameOd.trans (fun k _ => ?_) (Mod.kprTask_only _ _)
      exact congrArg (odGet · k) (Mod.each_keeps Mod.od _ (fun _ _ => Mod.modFlt_od _ _ _) 16 (s.m.at t))
  · intro t b bits s ha hb hd
    refine DoesM.intro (f := Mod.faultAck b bits) rfl ha ?_
    generalize s.m.at t = m at hd
    have eq : m.faultAck b bits =
        (m.modFlt b fun x => { x with unacked := clearBits x.unacked (bits &&& m.n E.FLT_ACTIVE b) }).when
          (((m.modFlt b fun x => { x with unacked := clearBits x.unacked (bits &&& m.n E.FLT_ACTIVE b) }).fltOf b).unacked == 0)
          (·.disarm (.grace b)) := by
      unfold Mod.faultAck
      rw [if_neg (by simp [hd]; omega)]
    have unacked := congrArg Flt.unacked (Mod.fltOf_modFlt_same m b fun x => { x with unacked := clearBits x.unacked (bits &&& m.n E.FLT_ACTIVE b) })
    rw [eq]
    generalize hx : (m.modFlt b fun x => { x with unacked := clearBits x.unacked (bits &&& m.n E.FLT_ACTIVE b) }) = x at unacked
    have od : x.od = m.od := hx ▸ rfl
    have timers : x.timers = m.timers := hx ▸ rfl
    have same : x.deadline (.grace b) = m.deadline (.grace b) := SameTimers.of_timers (Ts := []) timers _ (by simp)
    by_cases h0 : (x.fltOf b).unacked = 0
    · rw [Mod.when, if_pos (by simpa using h0)]
      refine ⟨unacked, ?_, fun k _ => congrArg (odGet · k) od⟩
      rw [if_pos (show ((x.disarm (.grace b)).fltOf b).unacked = 0 from h0), Mod.deadline_disarm_same]
    · rw [Mod.when, if_neg (by simpa using h0)]
      exact ⟨unacked, by rw [if_neg h0, same], fun k _ => congrArg (odGet · k) od⟩
  · intro t b k s ha hd
    refine DoesM.intro (f := Mod.eventHold b k) rfl ha ?_
    generalize s.m.at t = m at hd
    have eq : m.eventHold b k = (m.lower b k).disarm (.eventHold b k) := if_pos hd
    rw [eq]
    refine ⟨Mod.deadline_disarm_same _ _, ?_, ?_⟩
    · refine (Mod.bitOf_of_od (m := m.lower b k) rfl _ _ _).trans ?_
      split
      · rename_i hb
        exact m.lower_bitOf k hb
      · rename_i hb
        exact Mod.bitOf_of_od (m.lower_absent k hb) _ _ _
    · unfold Mod.lower
      split
      · exact fun j hj => m.odGet_setV_ne E.FLT_ACTIVE b _ (by simpa using hj)
      · exact fun _ _ => rfl

end Sys2Proof
end

section
/-! PROOF. Requests that are admitted, their records, and a DISCARD by the stage's owner (R387, R393, R397). -/

set_option Elab.async false

namespace Sys2Proof.Machine

open Sys2Proof

theorem Mod.stale_of_hull {m m' : Mod} (h : m'.hull = m.hull) : m'.stale = m.stale := by
  have same := congrArg Mod.stale h
  exact same

theorem Mod.can_of_hull {m m' : Mod} (h : m'.hull = m.hull) : m'.can = m.can := by
  have same := congrArg Mod.can h
  exact same

theorem Mod.b2w_of_hull {m m' : Mod} (h : m'.hull = m.hull) : m'.b2w = m.b2w := by
  have same := congrArg Mod.b2w h
  exact same

/-- An admitted request goes to its acceptance (R387 steps 1 to 7). -/
theorem serve_admitted (rules : Fam → Nat → Rule) {x : Sys} {r : Req} (h : Admitted x r) : serve rules r x = accept rules (queued r x) r := by
  obtain ⟨room, session, fresh, ⟨epoch, known⟩, newSeq, -⟩ := h
  have same : (queued r x).2 = x.2 := rfl
  have stale : (queued r x).1.stale = x.1.stale := by
    have marked : ∀ (m : Mod) (q : Nat), (m.queueMarks q).stale = m.stale := fun m q =>
      Mod.stale_of_hull (Mod.hull_of_site (Mod.site_of_plant (m.plant_queueMarks q)))
    exact (marked _ _).trans (marked _ _)
  unfold serve
  dsimp only
  rw [if_neg (by simpa using room), if_neg (by rw [same, session]; decide), if_neg (by rw [stale]; exact fresh), if_neg (fun h => known h.1),
    if_neg (by omega), if_neg (by omega), same]
  split
  · rfl
  · rename_i last hl
    rw [if_pos (newSeq _ hl)]

/-! ## Records (R397) -/

/-- The record of an asker that is not complete yet. -/
def Asker.record (a : Asker) : CRec :=
  { requester := a.requester, epoch := a.epoch, seq := a.seq, op := a.op, index := a.index, sub := a.sub, status := 0xFF, detail := 0, eff := 0,
    doneAt := 0 }

theorem oldestDone_some {l : List CRec} (h : l.any CRec.free = true) : ∃ d, oldestDone l = some d := by
  induction l with
  | nil => exact absurd h (by decide)
  | cons c cs ih =>
    unfold oldestDone
    cases hd : oldestDone cs with
    | some d =>
      dsimp only
      split
      · exact ⟨c, rfl⟩
      · exact ⟨d, rfl⟩
    | none =>
      have free : c.free = true := by
        rw [List.any_cons, Bool.or_eq_true] at h
        refine h.resolve_right fun hc => ?_
        obtain ⟨d, hd'⟩ := ih hc
        rw [hd] at hd'
        exact nomatch hd'
      exact ⟨c, if_pos free⟩

/-- A request that is taken has the newest record, and the stage and its owner stay (R397). -/
theorem takeIn_server (a : Asker) (r : Req) {x : Sys} (h : x.2.recordFree = true) :
    (takeIn a r x).2.recs.head? = some a.record ∧ (takeIn a r x).2.stage = x.2.stage ∧ (takeIn a r x).2.owner = x.2.owner := by
  have made : (makeRecord x a).2.recs.head? = some a.record ∧ (makeRecord x a).2.stage = x.2.stage ∧ (makeRecord x a).2.owner = x.2.owner := by
    unfold makeRecord
    dsimp only
    split
    · exact ⟨rfl, rfl, rfl⟩
    · rename_i full
      obtain ⟨d, hd⟩ := oldestDone_some (l := x.2.recs) (by
        unfold Srv.recordFree at h
        rw [Bool.or_eq_true] at h
        exact h.resolve_left (by simpa using full))
      rw [hd]
      exact ⟨rfl, rfl, rfl⟩
  have touched : ∀ y : Sys, (touchSession y r).2.recs = y.2.recs ∧ (touchSession y r).2.stage = y.2.stage ∧ (touchSession y r).2.owner = y.2.owner := fun y => by
    unfold touchSession
    split
    · exact ⟨rfl, rfl, rfl⟩
    · exact ⟨rfl, rfl, rfl⟩
    · dsimp only
      split <;> exact ⟨rfl, rfl, rfl⟩
    · exact ⟨rfl, rfl, rfl⟩
  obtain ⟨recs, stage, owner⟩ := touched ((makeRecord x a).1.when (decide ((makeRecord x a).2.owner = some r.requester) && !(makeRecord x a).2.stage.isEmpty && r.op != 1)
    (fun m => m.arm .stage (m.tb + sec (m.n E.STAGE_TMO 0))), noteSeq (makeRecord x a).2 r.requester r.seq)
  exact ⟨(congrArg List.head? recs).trans made.1, stage.trans made.2.1, owner.trans made.2.2⟩

/-- A request that is finished has its record complete (R397). -/
theorem finish_recOf (x : Sys) (a : Asker) (status detail : Nat) (data : List Nat) (eff : Nat) (staged : Bool) {c : CRec}
    (h : x.2.recs.head? = some c) (hq : c.requester = a.requester) (he : c.epoch = a.epoch) (hs : c.seq = a.seq) (hf : c.status = 0xFF) :
    ∃ d, (finish x a status detail data eff staged).2.recOf a.requester a.epoch a.seq = some d ∧ d.status = status := by
  obtain ⟨l, hl⟩ : ∃ l, x.2.recs = c :: l := by
    cases hr : x.2.recs with
    | nil => rw [hr] at h; exact nomatch h
    | cons b l =>
      rw [hr] at h
      exact ⟨l, by rw [Option.some.inj h]⟩
  refine ⟨{ c with status := status, detail := detail, eff := eff, doneAt := x.1.tb }, ?_, rfl⟩
  change List.find? _ (x.2.recs.map _) = _
  rw [hl, List.map_cons, if_pos ⟨hq, he, hs, hf⟩, List.find?_cons_of_pos]
  simp [hq, he, hs]

/-- What acceptance does with a request that gets a record (R387 step 7). -/
theorem accept_taken (rules : Fam → Nat → Rule) {x : Sys} {r : Req} (h : x.2.recordFree = true) (hr : needsRecord rules r = true) :
    accept rules x r = serveEntry rules (takeIn (askerOf r (x.1.n E.EPOCH 0)) r x) (askerOf r (x.1.n E.EPOCH 0)) r := by
  unfold accept
  rw [if_pos hr, if_neg (by rw [h]; decide)]

theorem queued_epoch (x : Sys) (r : Req) : (queued r x).1.n E.EPOCH 0 = x.1.n E.EPOCH 0 := by
  have queue : reqQueue r.transport < 32 ∧ reqQueue r.transport ≠ 26 := by
    unfold reqQueue
    split
    · decide
    · decide
    · split <;> decide
    · decide
    · decide
  exact (x.1.through_service (20 + r.data.length) r.requester r.seq queue.1 queue.2).1.n _ _ (by decide +kernel)

/-! ## A DISCARD by the owner (R393) -/

/-- A DISCARD by the stage's owner empties the stage and frees it. -/
theorem serveDiscard_owner {x : Sys} {a : Asker} (hs : x.2.stage ≠ []) (ho : x.2.owner = some a.requester) :
    serveDiscard x a = finish (x.1.disarm .stage, { (markStaged x x.2.stage 3 0).2 with stage := [], owner := none, commit := none }) a 0 0 [] 1 := by
  unfold serveDiscard
  rw [if_neg (by simpa using hs), if_neg (by simp [ho])]

/-- A DISCARD is served as one. -/
theorem serve_discard {x : Sys} {r : Req} (h : Admitted x r) (hop : r.op = 4) :
    serve ruleOf r x = serveDiscard (takeIn (askerOf r (x.1.n E.EPOCH 0)) r (queued r x)) (askerOf r (x.1.n E.EPOCH 0)) := by
  rw [serve_admitted ruleOf h, accept_taken ruleOf (x := queued r x) h.record (if_neg (by omega)), queued_epoch]
  unfold serveEntry
  rw [if_neg (by omega), if_pos hop]

/-- An owner's DISCARD leaves no stage and no owner, and its record is complete. -/
theorem serve_discard_server {x : Sys} {r : Req} (h : Admitted x r) (hop : r.op = 4) (hs : x.2.stage ≠ []) (ho : x.2.owner = some r.requester) :
    (serve ruleOf r x).2.stage = [] ∧ (serve ruleOf r x).2.owner = none ∧ Recorded (serve ruleOf r x) x r 0 := by
  rw [serve_discard h hop]
  generalize ha : askerOf r (x.1.n E.EPOCH 0) = a
  have who : a.requester = r.requester ∧ a.epoch = x.1.n E.EPOCH 0 ∧ a.seq = r.seq := ha ▸ ⟨rfl, rfl, rfl⟩
  obtain ⟨newest, stage, owner⟩ := takeIn_server a r (x := queued r x) h.record
  generalize takeIn a r (queued r x) = y at newest stage owner
  have mine : y.2.owner = some a.requester := owner.trans (ho.trans (by rw [who.1]))
  rw [serveDiscard_owner (by rw [stage]; exact hs) mine]
  refine ⟨rfl, rfl, ?_⟩
  obtain ⟨l, hl⟩ : ∃ l, y.2.recs = a.record :: l := by
    cases hr : y.2.recs with
    | nil => rw [hr] at newest; exact nomatch newest
    | cons b l =>
      rw [hr] at newest
      exact ⟨l, by rw [Option.some.inj newest]⟩
  have marked : ∃ c, (markStaged y y.2.stage 3 0).2.recs.head? = some c ∧ c.requester = a.requester ∧ c.epoch = a.epoch ∧ c.seq = a.seq ∧ c.status = 0xFF := by
    refine ⟨_, by rw [markStaged, hl, List.map_cons, List.head?_cons], ?_⟩
    split <;> exact ⟨rfl, rfl, rfl, rfl⟩
  obtain ⟨c, hc, hq, he, hseq, hf⟩ := marked
  obtain ⟨d, hd, hst⟩ := finish_recOf (y.1.disarm .stage, { (markStaged y y.2.stage 3 0).2 with stage := [], owner := none, commit := none }) a 0 0 [] 1 false hc hq he hseq hf
  rw [who.1, who.2.1, who.2.2] at hd
  exact ⟨d, hd, hst⟩

end Sys2Proof.Machine
end

section
/-! PROOF. Records, queues and sources of class C put nothing out, and a source leaves the bits of the others as they are. -/

set_option Elab.async false

namespace Sys2Proof.Machine

open Sys2Proof

/-! ## What is put out, and the network's state -/

/-- What the module puts out, and what it keeps of its networks. -/
def Mod.tidings (m : Mod) : List Out × Net := (m.out, m.net)

theorem Mod.out_of_tidings {m m' : Mod} (h : m'.tidings = m.tidings) : m'.out = m.out := congrArg Prod.fst h
theorem Mod.net_of_tidings {m m' : Mod} (h : m'.tidings = m.tidings) : m'.net = m.net := congrArg Prod.snd h


theorem Mod.fillMarks_tidings (m : Mod) (q : Nat) (f : Rat) : (m.fillMarks q f).tidings = m.tidings := by
  have low : ∀ m : Mod, (m.setB E.Q_HIGH q false).tidings = m.tidings := fun _ => rfl
  have high : ∀ m : Mod, ((m.setB E.Q_HIGH q true).inc E.Q_HWM_CNT q).tidings = m.tidings := fun _ => rfl
  have most : ∀ m : Mod, (m.setQ E.Q_MAX q f).tidings = m.tidings := fun _ => rfl
  unfold Mod.fillMarks
  rw [Mod.when_keeps Mod.tidings _ low, Mod.when_keeps Mod.tidings _ high, Mod.when_keeps Mod.tidings _ most]
  rfl

theorem Mod.logWait_tidings (m : Mod) (r : LogRec) : (m.logWait r).tidings = m.tidings := by
  unfold Mod.logWait
  split
  · rfl
  · split <;> rfl

theorem Mod.q26Marks_tidings (m : Mod) : m.q26Marks.tidings = m.tidings := by
  unfold Mod.q26Marks
  rw [Mod.when_keeps Mod.tidings _ fun m => m.logWait_tidings _]
  exact m.fillMarks_tidings _ _

theorem Mod.logPut_tidings (m : Mod) (r : LogRec) : (m.logPut r).tidings = m.tidings := by
  have erase : ∀ (x : Mod) (w : Nat), (x.eraseStart w).tidings = x.tidings := fun x w => by
    unfold Mod.eraseStart
    cases h : x.kpr.running <;> rfl
  unfold Mod.logPut Mod.logWrite
  split
  · rw [Mod.when_keeps Mod.tidings _ fun m => erase m 1]
    rfl
  · rw [Mod.q26Marks_tidings, Mod.logWait_tidings]

@[simp] theorem Mod.noteAt_tidings (m : Mod) (f : Fam) (i : Nat) : (m.noteAt f i).tidings = m.tidings := m.logPut_tidings _

theorem Mod.queueMarks_tidings (m : Mod) (q : Nat) : (m.queueMarks q).tidings = m.tidings := by
  unfold Mod.queueMarks
  split
  · exact m.q26Marks_tidings
  · exact m.fillMarks_tidings _ _

@[simp] theorem Mod.dequeue_tidings (m : Mod) (q : Nat) : (m.dequeue q).tidings = m.tidings := Mod.queueMarks_tidings _ q

@[simp] theorem Mod.enqueue_tidings (m : Mod) (q bytes peer seq : Nat) : (m.enqueue q bytes peer seq).tidings = m.tidings := Mod.queueMarks_tidings _ q

@[simp] theorem Mod.noteAt_out (m : Mod) (f : Fam) (i : Nat) : (m.noteAt f i).out = m.out := Mod.out_of_tidings (m.noteAt_tidings f i)
@[simp] theorem Mod.dequeue_out (m : Mod) (q : Nat) : (m.dequeue q).out = m.out := Mod.out_of_tidings (m.dequeue_tidings q)
@[simp] theorem Mod.enqueue_out (m : Mod) (q bytes peer seq : Nat) : (m.enqueue q bytes peer seq).out = m.out :=
  Mod.out_of_tidings (m.enqueue_tidings q bytes peer seq)

/-! ## Queues -/

/-- What an item that enters or leaves a queue touches (R402, R405). -/
def markFams : List Fam := [E.Q_FILL, E.Q_MAX, E.Q_HIGH, E.Q_HWM_CNT]

theorem OnlyFams.fillMarks (m : Mod) (q : Nat) (f : Rat) : OnlyFams markFams m (m.fillMarks q f) := by
  have most : ∀ (x : Mod) (c : Bool), OnlyFams markFams x (x.when c (·.setQ E.Q_MAX q f)) := fun x c =>
    .when x c (.setV (f := E.Q_MAX) x q _ (by simp [markFams]))
  have high : ∀ (x : Mod) (c : Bool), OnlyFams markFams x (x.when c fun m => (m.setB E.Q_HIGH q true).inc E.Q_HWM_CNT q) := fun x c =>
    .when x c ((OnlyFams.setV (f := E.Q_HIGH) x q _ (by simp [markFams])).set (f := E.Q_HWM_CNT) (by simp [markFams]))
  have low : ∀ (x : Mod) (c : Bool), OnlyFams markFams x (x.when c (·.setB E.Q_HIGH q false)) := fun x c =>
    .when x c (.setV (f := E.Q_HIGH) x q _ (by simp [markFams]))
  exact (((OnlyFams.setV (f := E.Q_FILL) m q _ (by simp [markFams])).trans (most _ _)).trans (high _ _)).trans (low _ _)

theorem OnlyFams.queueMarks (m : Mod) {q : Nat} (hq : q ≠ 26) : OnlyFams markFams m (m.queueMarks q) := by
  rw [Mod.queueMarks, if_neg hq]
  exact .fillMarks m q _

theorem markFams_log : markFams ⊆ logFams := fun f hf => by
  simp only [markFams, List.mem_cons, List.not_mem_nil, or_false] at hf
  rcases hf with rfl | rfl | rfl | rfl <;> simp [logFams]

/-- The marks of any queue, the event log's among them. -/
theorem OnlyFams.anyMarks (m : Mod) (q : Nat) : OnlyFams logFams m (m.queueMarks q) := by
  by_cases hq : q = 26
  · rw [Mod.queueMarks, if_pos hq]
    exact fun k hk => m.q26Marks_od fun h => hk (logKeys_logFams h)
  · exact (OnlyFams.queueMarks m hq).mono markFams_log

theorem Mod.queueMarks_timers (m : Mod) (q : Nat) : (m.queueMarks q).timers = m.timers := by
  unfold Mod.queueMarks
  split
  · exact m.q26Marks_timers
  · exact m.fillMarks_timers q _

theorem OnlyFams.dequeue (m : Mod) {q : Nat} (hq : q ≠ 26) : OnlyFams markFams m (m.dequeue q) :=
  OnlyFams.trans (b := { m with queues := _ }) (fun _ _ => rfl) (.queueMarks _ hq)

theorem OnlyFams.enqueue (m : Mod) {q : Nat} (bytes peer seq : Nat) (hq : q ≠ 26) : OnlyFams markFams m (m.enqueue q bytes peer seq) :=
  OnlyFams.trans (b := { m with queues := _ }) (fun _ _ => rfl) (.queueMarks _ hq)

theorem OnlyFams.through (m : Mod) {q : Nat} (bytes peer seq : Nat) (hq : q ≠ 26) : OnlyFams markFams m (m.through q bytes peer seq) :=
  (OnlyFams.enqueue m bytes peer seq hq).trans (.dequeue _ hq)

theorem markFams_raise : markFams ⊆ raiseFams := fun f hf => by
  simp only [markFams, List.mem_cons, List.not_mem_nil, or_false] at hf
  simp only [raiseFams, forceFams, logFams, List.mem_append, List.mem_cons]
  rcases hf with rfl | rfl | rfl | rfl <;> simp

theorem raiseFams_trip : raiseFams ⊆ tripFams := List.subset_append_right _ _

/-! ## Sources of class C -/

/-- A source of class C puts nothing out when it is raised. -/
theorem Mod.raiseAs_tidings (m : Mod) (b bit : Nat) (value : Option Rat) : (m.raiseAs b bit 1 value).tidings = m.tidings := by
  have found : ∀ x : Mod, (x.injFound b bit).tidings = x.tidings := fun x => by
    unfold Mod.injFound
    split <;> rfl
  have event : ∀ (x : Mod) (c : Bool) (d : Nat), (x.when c (·.arm (.eventHold b bit) d)).tidings = x.tidings := fun x c d => by cases c <;> rfl
  by_cases h : m.bitOf E.FLT_ACTIVE b bit = true
  · unfold Mod.raiseAs
    rw [if_pos (show Sys2Proof.bit (m.n E.FLT_ACTIVE b) bit = true from h)]
    dsimp only
    rw [found, event]
    rfl
  · have shown : ∀ x : Mod, (x.sourceShown b 1).tidings = x.tidings := fun x =>
      Mod.when_keeps Mod.tidings (·.setN E.FLT_CLASS b 1) (fun _ => rfl) _ x
    have told : ∀ x : Mod, (x.sourceTold b bit).tidings = x.tidings := fun x => by
      unfold Mod.sourceTold
      dsimp only
      rw [event]
      exact Mod.when_keeps Mod.tidings (·.modFlt b _) (fun x => rfl) _ x
    have logged : ∀ x : Mod, (x.logFault b bit 1 value).tidings = x.tidings := fun x => by
      unfold Mod.logFault
      split
      · rfl
      · dsimp only
        split
        · rfl
        · rfl
        · exact Mod.logPut_tidings _ _
    have pin : ∀ x : Mod, x.faultPin.tidings = x.tidings := fun x => by
      unfold Mod.faultPin
      split <;> rfl
    have acts : ∀ x : Mod, (x.classActs b bit 1).tidings = x.tidings := fun x => pin x
    have graced : ∀ x : Mod, x.graceBegun b bit 1 = x := fun _ => rfl
    rw [m.raiseAs_eq b bit 1 value (by simpa using h), acts, graced, found, logged, told, shown]
    rfl

theorem Mod.lower_tidings (m : Mod) (b bit : Nat) : (m.lower b bit).tidings = m.tidings := by
  unfold Mod.lower
  split <;> rfl

theorem Mod.raise_tidings (m : Mod) {b bit : Nat} (value : Option Rat) (hc : srcClass b bit = some 1) : (m.raise b bit value).tidings = m.tidings := by
  rw [Mod.raise_eq m value hc]
  exact m.raiseAs_tidings b bit value

theorem Mod.sync_tidings (m : Mod) {b bit : Nat} (cond : Bool) (value : Option Rat) (hc : srcClass b bit = some 1) :
    (m.sync b bit cond value).tidings = m.tidings := by
  unfold Mod.sync
  split
  · split
    · rfl
    · exact m.raise_tidings value hc
  · exact m.lower_tidings b bit

theorem Mod.sync_out (m : Mod) {b bit : Nat} (cond : Bool) (value : Option Rat) (hc : srcClass b bit = some 1) :
    (m.sync b bit cond value).out = m.out := Mod.out_of_tidings (m.sync_tidings cond value hc)

/-! ## The other sources of a block -/

/-- A source that is raised leaves the others of its block as they are. -/
theorem Mod.raiseAs_others (m : Mod) {b : Nat} (bit cls j : Nat) (value : Option Rat) (hb : b < 16) (hj : j ≠ bit) :
    (m.raiseAs b bit cls value).bitOf E.FLT_ACTIVE b j = m.bitOf E.FLT_ACTIVE b j := by
  by_cases h : m.bitOf E.FLT_ACTIVE b bit = true
  · exact Mod.bitOf_of_od (m.raiseAs_active b bit cls value h).1 _ _ _
  · have apart : ∀ j < 16, E.FLT_ACTIVE.key j ∉ raiseEffects.flatMap Fam.keys ∧ E.FLT_ACTIVE.key j ≠ E.FLT_STICKY.key j := by decide +kernel
    obtain ⟨effects, sticky⟩ := apart b hb
    rw [(OnlyFams.raiseAs_effects m b bit cls value (by simpa using h)).bitOf _ _ _ effects]
    refine Eq.trans ?_ (m.bitOf_setBit_ne (f := E.FLT_ACTIVE) true hb hj)
    unfold Mod.sourceBits Mod.bitOf
    rw [Mod.setBit_eq (m.setBit E.FLT_ACTIVE b bit true), Mod.n_setV_ne _ _ _ _ _ _ sticky]

theorem Mod.raise_others (m : Mod) {b : Nat} (bit j : Nat) (value : Option Rat) (hb : b < 16) (hj : j ≠ bit) :
    (m.raise b bit value).bitOf E.FLT_ACTIVE b j = m.bitOf E.FLT_ACTIVE b j := by
  unfold Mod.raise
  split
  · exact m.raiseAs_others bit _ j value hb hj
  · rfl

theorem Mod.lower_others (m : Mod) {b : Nat} (bit j : Nat) (hb : b < 16) (hj : j ≠ bit) :
    (m.lower b bit).bitOf E.FLT_ACTIVE b j = m.bitOf E.FLT_ACTIVE b j := by
  unfold Mod.lower
  split
  · exact (Mod.bitOf_of_od (m := m.setBit E.FLT_ACTIVE b bit false) rfl _ _ _).trans (m.bitOf_setBit_ne (f := E.FLT_ACTIVE) false hb hj)
  · rfl

theorem Mod.sync_others (m : Mod) {b : Nat} (bit j : Nat) (cond : Bool) (value : Option Rat) (hb : b < 16) (hj : j ≠ bit) :
    (m.sync b bit cond value).bitOf E.FLT_ACTIVE b j = m.bitOf E.FLT_ACTIVE b j := by
  unfold Mod.sync
  split
  · split
    · rfl
    · exact m.raise_others bit j value hb hj
  · exact m.lower_others bit j hb hj

/-- A source follows its condition. -/
theorem Mod.sync_follows (m : Mod) {b : Nat} (bit : Nat) (cond : Bool) (value : Option Rat) (hb : b < 16) (hc : (srcClass b bit).isSome = true) :
    (m.sync b bit cond value).bitOf E.FLT_ACTIVE b bit = cond := by
  cases cond
  · exact m.lower_bitOf bit hb
  · exact m.sync_bitOf bit value hb hc

end Sys2Proof.Machine
end

section
/-! PROOF. Transactions of the HOST2W window (R453 to R460). -/

set_option Elab.async false

namespace Sys2Proof.Machine

open Sys2Proof

/-- At a STOP at most the address in force changes (R417). -/
theorem Mod.h2wStop_addr (m : Mod) : ∃ a, m.h2wStop = m.modH2w fun h => { h with addr := a } := by
  unfold Mod.h2wStop
  split
  · exact ⟨m.h2w.addr, rfl⟩
  · exact ⟨none, rfl⟩

/-- A write transaction that has ended with a STOP. -/
def Mod.h2wDone (m : Mod) (acks : List Bool) : Mod := ((m.emit (.h2wAck acks)).inc E.H2W_XFERS 0).h2wStop

theorem Mod.h2wDone_h2w (m : Mod) (acks : List Bool) : ∃ a, (m.h2wDone acks).h2w = { m.h2w with addr := a } := by
  obtain ⟨a, h⟩ := ((m.emit (.h2wAck acks)).inc E.H2W_XFERS 0).h2wStop_addr
  exact ⟨a, congrArg Mod.h2w h⟩

theorem Mod.h2wStop_frame (m : Mod) : m.h2wStop.od = m.od ∧ m.h2wStop.out = m.out ∧ m.h2wStop.timers = m.timers := by
  obtain ⟨a, h⟩ := m.h2wStop_addr
  rw [h]
  exact ⟨rfl, rfl, rfl⟩

theorem Mod.h2wDone_frame (m : Mod) (acks : List Bool) :
    (m.h2wDone acks).out = m.out ++ [.h2wAck acks] ∧ (m.h2wDone acks).n E.H2W_XFERS 0 = inc32 (m.n E.H2W_XFERS 0) ∧
      SameOd [E.H2W_XFERS.key 0] m (m.h2wDone acks) ∧ SameTimers [] m (m.h2wDone acks) := by
  obtain ⟨od, out, timers⟩ := ((m.emit (.h2wAck acks)).inc E.H2W_XFERS 0).h2wStop_frame
  have counted : ∀ x : Mod, (x.inc E.H2W_XFERS 0).n E.H2W_XFERS 0 = inc32 (x.n E.H2W_XFERS 0) := fun x => x.n_inc_same (by decide)
  refine ⟨out, ?_, ?_, .of_timers timers⟩
  · exact (SameOd.n (ks := []) (fun k _ => congrArg (odGet · k) od) _ _ (by simp)).trans (counted _)
  · exact SameOd.of_od (x := (m.emit (.h2wAck acks)).inc E.H2W_XFERS 0)
      (fun k hk => (m.emit (.h2wAck acks)).odGet_setV_ne E.H2W_XFERS 0 _ (by simpa using hk)) od

/-! ## One data byte -/

/-- A data byte on a request page goes to the request buffer (R455). -/
theorem h2wPut_request (m : Mod) (srv : Srv) {ofs b : Nat} (hp : requestPage m.h2w.page = true) (hx : m.h2w.xstate ≠ 1) :
    h2wPut ofs b (m, srv) = ((m.modH2w fun h => { h with buf := bufPut h.buf (bufAddr m.h2w.page ofs) b }, srv), true) := by
  unfold h2wPut
  rw [if_pos hp, if_neg hx]

/-- A low byte of page 0 waits for its high byte; the high byte of REQ_LEN completes it (R456). -/
theorem h2wPut_reqLen (m : Mod) (srv : Srv) (b : Nat) (hp : m.h2w.page = 0) :
    h2wPut 1 b (m, srv) = ((m.modH2w fun h => { h with lows := setAt 0 h.lows 0 b }, srv), true) ∧
      h2wPut 2 b (m, srv) = ((m.modH2w fun h => { h with reqLen := b * 256 + (m.h2w.lows[0]?).getD 0 }, srv), true) := by
  have page : requestPage m.h2w.page = false := hp ▸ rfl
  unfold h2wPut
  dsimp only
  rw [page, hp]
  exact ⟨rfl, rfl⟩

/-- A data byte at a pointer below 0xFF is put there, and the pointer advances (R454). -/
theorem h2wByte_put (w : WriteX) {b : Nat} {y : Sys} {ok : Bool} (hw : w.wrapped = false) (hp : w.x.1.h2w.ptr ≠ 0xFF)
    (h : h2wPut w.x.1.h2w.ptr (b % 256) w.x = (y, ok)) :
    h2wByte w b = { x := (y.1.modH2w (fun h => { h with ptr := w.x.1.h2w.ptr + 1 }), y.2), acks := w.acks ++ [ok], first := false,
                    wrapped := false } := by
  unfold h2wByte
  rw [hw]
  dsimp only
  rw [if_neg (by decide), if_neg hp, h]

/-! ## Write transactions -/

theorem h2wWrite_busy (m : Mod) (srv : Srv) (bytes : List Nat) (e : Ending) (h : m.h2wBusy = true) :
    h2wWrite bytes e (m, srv) = (m.h2wNack, srv) := by
  unfold h2wWrite
  rw [if_pos h]

/-- A write transaction in progress after its pointer byte (R454). -/
def WriteX.pointed (m : Mod) (srv : Srv) (p : Nat) : WriteX :=
  { x := (m.modH2w (fun h => { h with ptr := p % 256 }), srv), acks := [true], first := true, wrapped := false }

/-- A write transaction up to its STOP (R454). -/
theorem h2wWrite_stop (m : Mod) (srv : Srv) (p : Nat) (rest : List Nat) (h : m.h2wBusy = false) :
    h2wWrite (p :: rest) .stop (m, srv) =
      ((rest.foldl h2wByte (.pointed m srv p)).x.1.h2wDone (rest.foldl h2wByte (.pointed m srv p)).acks,
        (rest.foldl h2wByte (.pointed m srv p)).x.2) := by
  unfold h2wWrite
  rw [if_neg (by simpa using h)]
  rfl

/-! ## Reads -/

theorem Mod.h2wReadBytes_frame (m : Mod) (n : Nat) :
    ∃ latch, (m.h2wReadBytes n).1 = m.modH2w fun h => { h with rlatch := latch, ptr := if n = 0 then h.ptr else (h.ptr + n) % 256 } := by
  induction n generalizing m with
  | zero => exact ⟨m.h2w.rlatch, rfl⟩
  | succ n ih =>
    obtain ⟨latch, h⟩ := ih m.h2wReadByte.1
    refine ⟨latch, ?_⟩
    have step : (m.h2wReadBytes (n + 1)).1 = (m.h2wReadByte.1.h2wReadBytes n).1 := rfl
    have ptr : (if n = 0 then (m.h2w.ptr + 1) % 256 else ((m.h2w.ptr + 1) % 256 + n) % 256) = (m.h2w.ptr + (n + 1)) % 256 := by
      split
      · subst_vars
        rfl
      · omega
    rw [step, h]
    unfold Mod.h2wReadByte Mod.modH2w
    dsimp only
    rw [ptr, if_neg (by omega)]

/-- A read transaction (R454, R459). -/
theorem Mod.h2wRead_eq (m : Mod) (count : Nat) (h : m.h2wBusy = false) :
    m.h2wRead count =
      ((((m.modH2w fun h => { h with snap := fit 28 h.live ++ leBytes 4 m.tb }).h2wReadBytes count).1.emit
        (.h2w ((m.modH2w fun h => { h with snap := fit 28 h.live ++ leBytes 4 m.tb }).h2wReadBytes count).2)).inc E.H2W_XFERS 0).h2wStop := by
  unfold Mod.h2wRead
  rw [if_neg (by simpa using h)]

theorem fit_length (n : Nat) (l : List Nat) : (fit n l).length = n := by
  unfold fit
  simp

/-- The four bytes of TB at the end of page 1 as it was latched (R459). -/
theorem h2wReadBytes_tb (m : Mod) (live : List Nat) (tb : Nat) (hs : m.h2w.snap = fit 28 live ++ leBytes 4 tb) (hp : m.h2w.page = 1)
    (ho : m.h2w.ptr = 28) : (m.h2wReadBytes 4).2 = leBytes 4 tb := by
  have at_ : ∀ j, ((fit 28 live ++ leBytes 4 tb)[28 + j]?).getD 0 = ((leBytes 4 tb)[j]?).getD 0 := fun j => by
    rw [List.getElem?_append_right (by rw [fit_length]; omega), fit_length]
    congr 2
    omega
  have byte : ∀ (x : Mod) (j : Nat), x.h2w.snap = m.h2w.snap → x.h2w.page = 1 → x.h2w.ptr = 28 + j → j < 4 →
      x.h2wGet = ((leBytes 4 tb)[j]?).getD 0 := fun x j h1 h2 h3 hj => by
    unfold Mod.h2wGet
    dsimp only
    rw [h1, h2, h3, if_neg (by omega), if_neg (by decide), if_pos rfl, hs, at_]
  have next : ∀ x : Mod, x.h2wReadByte.1.h2w.snap = x.h2w.snap ∧ x.h2wReadByte.1.h2w.page = x.h2w.page ∧
      x.h2wReadByte.1.h2w.ptr = (x.h2w.ptr + 1) % 256 ∧ x.h2wReadByte.2 = x.h2wGet := fun _ => ⟨rfl, rfl, rfl, rfl⟩
  have read : ∀ n j (x : Mod), j + n = 4 → x.h2w.snap = m.h2w.snap → x.h2w.page = 1 → x.h2w.ptr = 28 + j →
      (x.h2wReadBytes n).2 = (leBytes 4 tb).drop j := by
    intro n
    induction n with
    | zero => exact fun j x hj _ _ _ => by rw [show j = 4 by omega]; rfl
    | succ n ih =>
      intro j x hj h1 h2 h3
      obtain ⟨snap, page, ptr, value⟩ := next x
      have rest := ih (j + 1) x.h2wReadByte.1 (by omega) (snap.trans h1) (page.trans h2) (by rw [ptr, h3]; omega)
      have len : j < (leBytes 4 tb).length := by simp [leBytes]; omega
      have split : (x.h2wReadBytes (n + 1)).2 = x.h2wReadByte.2 :: (x.h2wReadByte.1.h2wReadBytes n).2 := rfl
      rw [split, rest, value, byte x j h1 h2 h3 (by omega), List.drop_eq_getElem_cons len, List.getElem?_eq_getElem len]
      rfl
  exact read 4 0 m rfl rfl hp ho

/-- A transaction that the target cannot take (R453). -/
theorem Mod.h2wNack_frame (m : Mod) (h : m.out = []) :
    m.h2wNack.out = [.h2wAck []] ∧ m.h2wNack.bitOf E.H2W_FLAGS 0 4 = true ∧ m.h2wNack.n E.H2W_NACKS 0 = inc32 (m.n E.H2W_NACKS 0) ∧
      Frame [E.H2W_FLAGS.key 0, E.H2W_NACKS.key 0] [] m m.h2wNack := by
  have flagged : ∀ x : Mod, ((x.inc E.H2W_NACKS 0).emit (.h2wAck [])).bitOf E.H2W_FLAGS 0 4 = x.bitOf E.H2W_FLAGS 0 4 := fun x =>
    congrArg (bit · 4) (x.n_inc_ne (f := E.H2W_NACKS) (g := E.H2W_FLAGS) (i := 0) (j := 0) (by decide +kernel))
  refine ⟨by rw [show m.h2wNack.out = m.out ++ [.h2wAck []] from rfl, h]; rfl, (flagged _).trans (m.bitOf_setBit_same 4 true (by decide)), ?_, ?_, ?_, rfl⟩
  · refine ((m.h2wFlag 4).n_inc_same (f := E.H2W_NACKS) (i := 0) (by decide)).trans (congrArg inc32 ?_)
    exact m.n_setV_ne _ _ _ _ _ (by decide +kernel)
  · intro k hk
    obtain ⟨h1, h2⟩ : k ≠ E.H2W_FLAGS.key 0 ∧ k ≠ E.H2W_NACKS.key 0 := by simpa using hk
    exact ((m.h2wFlag 4).odGet_setV_ne E.H2W_NACKS 0 _ h2).trans (m.odGet_setV_ne E.H2W_FLAGS 0 _ h1)
  · exact .of_timers rfl

/-! ## The transactions of a running module -/

/-- Pointer 0xFF and a page number select a page (R455). -/
theorem h2wWrite_select (m : Mod) (srv : Srv) (page : Nat) (h : m.h2wBusy = false) :
    h2wWrite [0xFF, page] .stop (m, srv) =
      ((m.modH2w fun h => { h with page := page % 256, ptr := 0 }).h2wDone [true, true], srv) := by
  rw [h2wWrite_stop m srv 0xFF [page] h]
  rfl

/-- A byte is written at an offset of a request page (R455). -/
theorem h2wWrite_request (m : Mod) (srv : Srv) {ofs : Nat} (b : Nat) (h : m.h2wBusy = false) (hp : requestPage m.h2w.page = true)
    (hx : m.h2w.xstate ≠ 1) (ho : ofs < 255) :
    h2wWrite [ofs, b] .stop (m, srv) =
      ((m.modH2w fun h => { h with buf := bufPut h.buf (bufAddr m.h2w.page ofs) (b % 256), ptr := ofs + 1 }).h2wDone [true, true], srv) := by
  have ptr : (WriteX.pointed m srv ofs).x.1.h2w.ptr = ofs := Nat.mod_eq_of_lt (by omega)
  have put := h2wPut_request (m.modH2w fun h => { h with ptr := ofs % 256 }) srv (ofs := (WriteX.pointed m srv ofs).x.1.h2w.ptr) (b := b % 256) hp hx
  have byte := h2wByte_put (WriteX.pointed m srv ofs) (b := b) rfl (by rw [ptr]; omega) put
  rw [h2wWrite_stop m srv ofs [b] h, List.foldl_cons, List.foldl_nil, byte, ptr]
  rfl

/-- REQ_LEN takes its two bytes (R456). -/
theorem h2wWrite_reqLen (m : Mod) (srv : Srv) {lo hi : Nat} (h : m.h2wBusy = false) (hp : m.h2w.page = 0) (hlo : lo < 256)
    (hhi : hi < 256) :
    h2wWrite [1, lo, hi] .stop (m, srv) =
      ((m.modH2w fun h => { h with lows := setAt 0 h.lows 0 lo, reqLen := hi * 256 + lo, ptr := 3 }).h2wDone [true, true, true], srv) := by
  have low := (h2wPut_reqLen (m.modH2w fun h => { h with ptr := 1 }) srv (lo % 256) hp).1
  have first : h2wByte (.pointed m srv 1) lo =
      ⟨(m.modH2w fun h => { h with ptr := 2, lows := setAt 0 h.lows 0 (lo % 256) }, srv), [true, true], false, false⟩ :=
    (h2wByte_put (WriteX.pointed m srv 1) (b := lo) rfl (by decide : (1 : Nat) ≠ 0xFF) low).trans rfl
  have high := (h2wPut_reqLen (m.modH2w fun h => { h with ptr := 2, lows := setAt 0 h.lows 0 (lo % 256) }) srv (hi % 256) hp).2
  have second := h2wByte_put ⟨(m.modH2w fun h => { h with ptr := 2, lows := setAt 0 h.lows 0 (lo % 256) }, srv), [true, true], false, false⟩ (b := hi)
    rfl (by decide : (2 : Nat) ≠ 0xFF) high
  have latched : ((setAt 0 m.h2w.lows 0 (lo % 256))[0]?).getD 0 = lo % 256 := getD_modAt_same 0 _ 0 _
  rw [h2wWrite_stop m srv 1 [lo, hi] h, List.foldl_cons, List.foldl_cons, List.foldl_nil, first, second]
  dsimp only
  rw [show ((m.modH2w fun h => { h with ptr := 2, lows := setAt 0 h.lows 0 (lo % 256) }).h2w.lows[0]?).getD 0 = lo % 256 from latched,
    Nat.mod_eq_of_lt hlo, Nat.mod_eq_of_lt hhi]
  rfl

/-- A repeated START in an acknowledge slot discards the byte that it interrupts (R460). -/
theorem h2wWrite_interrupted (m : Mod) (srv : Srv) (page : Nat) (h : m.h2wBusy = false) :
    h2wWrite [0xFF, page] .srInAck (m, srv) =
      (((m.h2wFlag 0).modH2w fun h => { h with ptr := 0xFF }).emit (.h2wAck [true]), srv) := by
  unfold h2wWrite
  rw [if_neg (by simpa using h)]
  rfl

theorem Mod.h2wFlag_frame (m : Mod) (k : Nat) : (m.h2wFlag k).bitOf E.H2W_FLAGS 0 k = true ∧ SameOd [E.H2W_FLAGS.key 0] m (m.h2wFlag k) :=
  ⟨m.bitOf_setBit_same k true (by decide), fun _ hk => m.odGet_setV_ne E.H2W_FLAGS 0 _ (by simpa using hk)⟩

/-- What a read transaction leaves (R454, R459). -/
theorem Mod.h2wRead_frame (m : Mod) {count : Nat} (h : m.h2wBusy = false) (hc : 0 < count) (ho : m.out = []) :
    (m.h2wRead count).n E.H2W_XFERS 0 = inc32 (m.n E.H2W_XFERS 0) ∧ (m.h2wRead count).h2w.ptr = (m.h2w.ptr + count) % 256 ∧
      (m.h2wRead count).h2w.snap = fit 28 m.h2w.live ++ leBytes 4 m.tb ∧ (m.h2wRead count).h2w.buf = m.h2w.buf ∧
      SameOd [E.H2W_XFERS.key 0] m (m.h2wRead count) ∧
      (m.h2wRead count).out = [.h2w ((m.modH2w fun h => { h with snap := fit 28 h.live ++ leBytes 4 m.tb }).h2wReadBytes count).2] := by
  obtain ⟨latch, read⟩ := (m.modH2w fun h => { h with snap := fit 28 h.live ++ leBytes 4 m.tb }).h2wReadBytes_frame count
  rw [m.h2wRead_eq count h]
  generalize ((m.modH2w fun h => { h with snap := fit 28 h.live ++ leBytes 4 m.tb }).h2wReadBytes count).2 = bytes
  rw [read]
  generalize hy : ((m.modH2w fun h => { h with snap := fit 28 h.live ++ leBytes 4 m.tb }).modH2w fun h =>
    { h with rlatch := latch, ptr := if count = 0 then h.ptr else (h.ptr + count) % 256 }) = y
  have od : y.od = m.od := hy ▸ rfl
  have window : y.h2w.ptr = (m.h2w.ptr + count) % 256 ∧ y.h2w.snap = fit 28 m.h2w.live ++ leBytes 4 m.tb ∧ y.h2w.buf = m.h2w.buf :=
    hy ▸ ⟨if_neg (by omega), rfl, rfl⟩
  have out : y.out = [] := hy ▸ ho
  obtain ⟨a, stopped⟩ := ((y.emit (.h2w bytes)).inc E.H2W_XFERS 0).h2wStop_addr
  have counted : ∀ x : Mod, (x.inc E.H2W_XFERS 0).n E.H2W_XFERS 0 = inc32 (x.n E.H2W_XFERS 0) := fun x => x.n_inc_same (by decide)
  have same : y.n E.H2W_XFERS 0 = m.n E.H2W_XFERS 0 := SameOd.n (ks := []) (fun k _ => congrArg (odGet · k) od) _ _ (by simp)
  rw [stopped]
  refine ⟨(counted (y.emit _)).trans (congrArg inc32 same), window.1, window.2.1, window.2.2, fun k hk => ?_, ?_⟩
  · exact ((y.emit (.h2w bytes)).odGet_setV_ne E.H2W_XFERS 0 _ (by simpa using hk)).trans (congrArg (odGet · k) od)
  · exact (congrArg (· ++ [Out.h2w bytes]) out).trans rfl

/-- A command that leaves the server alone does to a running module what it does to the module. -/
theorem DoesM.of_execS {i : Instr} {t : Nat} {f : Sys → Sys} {s : State} {P : Mod → Mod → Prop} {m' : Mod} (hx : exec i s = execS t f s)
    (ha : s.m.alive = true) (hf : f (s.m.at t, s.srv) = (m', s.srv)) (h : P (s.m.at t) m') : DoesM i t s P := by
  obtain ⟨y, hy, rfl⟩ := DoesS.intro (P := fun x y => y = f x) hx ha rfl
  exact ⟨m', by rw [hy, hf], h⟩

end Sys2Proof.Machine

namespace Sys2Proof

open Machine

/-- Settles O53: a write transaction by its bytes, a read by its count; a busy target takes neither. -/
theorem windowTransactions : Obligations.WindowTransactions := by
  unfold Obligations.WindowTransactions
  refine ⟨?_, ?_, ?_, ?_, ?_, ?_⟩
  · rintro t count bytes e c s ha hb (rfl | rfl)
    · exact .of_execS (f := h2wWrite bytes e) rfl ha (h2wWrite_busy _ _ bytes e hb) ((s.m.at t).h2wNack_frame rfl)
    · refine DoesM.intro (f := Mod.h2wRead count) rfl ha ?_
      rw [show (s.m.at t).h2wRead count = (s.m.at t).h2wNack from if_pos hb]
      exact (s.m.at t).h2wNack_frame rfl
  · intro t page s ha hb
    refine .of_execS (f := h2wWrite [0xFF, page] .stop) rfl ha (h2wWrite_select _ _ page hb) ?_
    generalize hx : ((s.m.at t).modH2w fun h => { h with page := page % 256, ptr := 0 }) = x
    obtain ⟨a, window⟩ := x.h2wDone_h2w [true, true]
    obtain ⟨out, xfers, od, timers⟩ := x.h2wDone_frame [true, true]
    rw [window]
    subst hx
    exact ⟨rfl, rfl, out, xfers, rfl, rfl, rfl, od, timers⟩
  · intro t ofs b s ha hb hp hx ho
    refine .of_execS (f := h2wWrite [ofs, b] .stop) rfl ha (h2wWrite_request _ _ b hb hp hx ho) ?_
    generalize hy : ((s.m.at t).modH2w fun h => { h with buf := bufPut h.buf (bufAddr (s.m.at t).h2w.page ofs) (b % 256), ptr := ofs + 1 }) = y
    obtain ⟨a, window⟩ := y.h2wDone_h2w [true, true]
    obtain ⟨out, xfers, od, timers⟩ := y.h2wDone_frame [true, true]
    rw [window]
    subst hy
    refine ⟨?_, fun k _ hk => ?_, bufPut_wf _ _ _, rfl, out, od⟩
    · exact (bufGet_bufPut _ _ _ _).trans ((if_pos rfl).trans (Nat.mod_mod b 256))
    · exact (bufGet_bufPut _ _ _ _).trans (if_neg hk)
  · intro t page s ha hb
    obtain ⟨flag, od⟩ := (s.m.at t).h2wFlag_frame 0
    exact .of_execS (f := h2wWrite [0xFF, page] .srInAck) rfl ha (h2wWrite_interrupted _ _ page hb) ⟨rfl, rfl, flag, rfl, rfl, od⟩
  · intro t lo hi s ha hb hp hlo hhi
    refine .of_execS (f := h2wWrite [1, lo, hi] .stop) rfl ha (h2wWrite_reqLen _ _ hb hp hlo hhi) ?_
    generalize hy : ((s.m.at t).modH2w fun h => { h with lows := setAt 0 h.lows 0 lo, reqLen := hi * 256 + lo, ptr := 3 }) = y
    obtain ⟨a, window⟩ := y.h2wDone_h2w [true, true, true]
    obtain ⟨out, xfers, od, timers⟩ := y.h2wDone_frame [true, true, true]
    rw [window]
    subst hy
    exact ⟨rfl, out, rfl, od⟩
  · intro t count s ha hb hc
    refine DoesM.intro (f := Mod.h2wRead count) rfl ha ?_
    obtain ⟨xfers, ptr, snap, buf, od, out⟩ := (s.m.at t).h2wRead_frame hb hc rfl
    refine ⟨xfers, ptr, snap, buf, od, ?_, ?_⟩
    · rintro rfl hp ho
      have pages : ∀ p, requestPage p = true → p ≠ 0 ∧ p ≠ 1 := fun p h => by
        have := of_decide_eq_true (Bool.and_eq_true_iff.1 h).1
        omega
      obtain ⟨h0, h1⟩ := pages _ hp
      have byte : ((s.m.at t).modH2w fun h => { h with snap := fit 28 h.live ++ leBytes 4 (s.m.at t).tb }).h2wGet =
          bufGet (s.m.at t).h2w.buf (bufAddr (s.m.at t).h2w.page (s.m.at t).h2w.ptr) :=
        (if_neg ho).trans ((if_neg h0).trans ((if_neg h1).trans (if_pos hp)))
      rw [out]
      exact congrArg (fun b => [Out.h2w [b]]) byte
    · rintro rfl hp ho
      rw [out]
      exact congrArg (fun b => [Out.h2w b]) (h2wReadBytes_tb ((s.m.at t).modH2w _) (s.m.at t).h2w.live _ rfl hp ho)

end Sys2Proof
end

section
/-! PROOF. The CAN ports (R468 to R476). -/

set_option Elab.async false

namespace Sys2Proof.Machine

open Sys2Proof

/-! ## Port states -/

/-- Sources 11:0 and 11:1 follow the ports' states (R476). -/
theorem Mod.canFaults_eq (m : Mod) :
    m.canFaults = (m.sync 11 0 (m.n E.CAN_STATE 0 == 2 || m.n E.CAN_STATE 1 == 2)).sync 11 1 (m.n E.CAN_STATE 0 == 1 || m.n E.CAN_STATE 1 == 1) := rfl

theorem Mod.canFaults_follow (m : Mod) :
    m.canFaults.bitOf E.FLT_ACTIVE 11 0 = (m.n E.CAN_STATE 0 == 2 || m.n E.CAN_STATE 1 == 2) ∧
      m.canFaults.bitOf E.FLT_ACTIVE 11 1 = (m.n E.CAN_STATE 0 == 1 || m.n E.CAN_STATE 1 == 1) := by
  rw [Mod.canFaults_eq]
  exact ⟨(Mod.sync_others _ 1 0 _ none (by decide) (by decide)).trans (m.sync_follows 0 _ none (by decide) (by decide)),
    Mod.sync_follows _ 1 _ none (by decide) (by decide)⟩

theorem OnlyFams.canFaults (m : Mod) : OnlyFams raiseFams m m.canFaults := by
  rw [Mod.canFaults_eq]
  exact (OnlyFams.sync m 11 0 _ _).trans (.sync _ 11 1 _ _)

theorem Mod.canFaults_out (m : Mod) : m.canFaults.out = m.out := by
  rw [Mod.canFaults_eq, Mod.sync_out _ _ none (by decide), Mod.sync_out _ _ none (by decide)]

theorem Mod.canFaults_hull (m : Mod) : m.canFaults.hull = m.hull := by
  rw [Mod.canFaults_eq, Mod.hull_sync, Mod.hull_sync]

theorem canState_apart : ∀ j < 2, E.CAN_STATE.key j ∉ raiseFams.flatMap Fam.keys ∧ E.CAN_STATE.key j ≠ E.CAN_STATE.key (1 - j) ∧
    E.CAN_STATE.key j ≠ E.CAN_BUSOFF_CNT.key j ∧ E.CAN_STATE.key (1 - j) ≠ E.CAN_BUSOFF_CNT.key j ∧
    E.CAN_BUSOFF_CNT.key j ∉ raiseFams.flatMap Fam.keys ∧ E.CAN_BUSOFF_CNT.key j ≠ E.CAN_STATE.key j := by decide +kernel

theorem Mod.canOn_lt {m : Mod} {u : Nat} (h : m.canOn u = true) : u < 2 := by
  unfold Mod.canOn at h
  rw [Bool.and_eq_true, Bool.and_eq_true] at h
  exact of_decide_eq_true h.1.1

/-- Port `u` is the first or the second. -/
theorem Mod.anyPort (m : Mod) {u : Nat} (hu : u < 2) (st : Nat) :
    (m.n E.CAN_STATE 0 == st || m.n E.CAN_STATE 1 == st) = (m.n E.CAN_STATE u == st || m.n E.CAN_STATE (1 - u) == st) := by
  obtain rfl | rfl : u = 0 ∨ u = 1 := by omega
  · rfl
  · exact Bool.or_comm _ _

/-- A port's queue is not the event log's (R403). -/
theorem canQueue (u : Nat) : (if u = 0 then 16 else 18) ≠ 26 := by split <;> decide

/-- Frames that leave a port's queue go out, oldest first (R468). -/
theorem Mod.release_out (q : Nat) (l : List CanFrame) (m : Mod) :
    (l.foldl (fun m f => (m.dequeue q).emit (.can f)) m).out = m.out ++ l.map (fun f => .can f) := by
  induction l generalizing m with
  | nil => simp
  | cons f r ih =>
    rw [List.foldl_cons, ih, Mod.emit, List.map_cons]
    dsimp only
    rw [Mod.dequeue_out]
    simp

theorem OnlyFams.release {q : Nat} (hq : q ≠ 26) (l : List CanFrame) (m : Mod) :
    OnlyFams markFams m (l.foldl (fun m f => (m.dequeue q).emit (.can f)) m) := by
  have one : ∀ (x : Mod) (f : CanFrame), OnlyFams markFams x ((x.dequeue q).emit (.can f)) := fun x _ =>
    OnlyFams.of_od (x := x.dequeue q) (.dequeue x hq) rfl
  exact .foldl (fun x f => one x f) l m

theorem Mod.release_hull (q : Nat) (l : List CanFrame) (m : Mod) : (l.foldl (fun m f => (m.dequeue q).emit (.can f)) m).hull = m.hull :=
  foldl_keeps Mod.hull _ (fun x _ => (Mod.hull_of_site (Mod.site_of_plant ((Mod.plant_emit _ _).trans (x.plant_dequeue q))))) l m

/-- A port that was bus-off recovers, and what waited leaves (R468). -/
theorem Mod.canRecover_frame (m : Mod) {u : Nat} (hu : u < 2) (h : m.n E.CAN_STATE u = 2) (ho : m.out = []) :
    OnlyFams (tripFams ++ [E.CAN_STATE]) m (m.canRecover u) ∧ (m.canRecover u).n E.CAN_STATE u = 0 ∧
      (m.canRecover u).can.held = m.can.held.filter (fun f => f.bus != u) ∧
      (m.canRecover u).out = (m.can.held.filter (fun f => f.bus == u)).map (fun f => .can f) ∧
      (m.n E.CAN_STATE (1 - u) ≠ 2 → (m.canRecover u).bitOf E.FLT_ACTIVE 11 0 = false) := by
  obtain ⟨raised, apart, -⟩ := canState_apart u hu
  have eq : m.canRecover u = (m.can.held.filter (fun f => f.bus == u)).foldl (fun m f => (m.dequeue (if u = 0 then 16 else 18)).emit (.can f))
      ((({ m with can := { m.can with held := m.can.held.filter (fun f => f.bus != u) } } : Mod).setN E.CAN_STATE u 0).canFaults) := by
    unfold Mod.canRecover
    rw [if_pos (by simp [hu, h])]
  have idle : OnlyFams (tripFams ++ [E.CAN_STATE]) m (({ m with can := { m.can with held := m.can.held.filter (fun f => f.bus != u) } } : Mod).setN E.CAN_STATE u 0) :=
    fun k hk => m.odGet_setV_keys E.CAN_STATE u _ fun hc => hk (List.mem_flatMap.2 ⟨E.CAN_STATE, by simp, hc⟩)
  have state : (({ m with can := { m.can with held := m.can.held.filter (fun f => f.bus != u) } } : Mod).setN E.CAN_STATE u 0).n E.CAN_STATE u = 0 :=
    Mod.n_setN_same _ 0 hu
  have other : (({ m with can := { m.can with held := m.can.held.filter (fun f => f.bus != u) } } : Mod).setN E.CAN_STATE u 0).n E.CAN_STATE (1 - u) =
      m.n E.CAN_STATE (1 - u) := by
    rw [Mod.setN_eq, Mod.n_setV_ne _ _ _ _ _ _ (Ne.symm apart)]
    rfl
  rw [eq]
  generalize hx : (({ m with can := { m.can with held := m.can.held.filter (fun f => f.bus != u) } } : Mod).setN E.CAN_STATE u 0) = x at idle state other
  have held : x.can.held = m.can.held.filter (fun f => f.bus != u) := hx ▸ rfl
  have out : x.out = [] := hx ▸ ho
  have left := OnlyFams.release (canQueue u) (m.can.held.filter (fun f => f.bus == u)) x.canFaults
  refine ⟨(idle.trans ((OnlyFams.canFaults x).mono fun f hf => ?_)).trans (left.mono fun f hf => ?_), ?_, ?_, ?_, fun hn => ?_⟩
  · exact List.mem_append_left _ (raiseFams_trip hf)
  · exact List.mem_append_left _ (raiseFams_trip (markFams_raise hf))
  · rw [(left.mono markFams_raise).n _ _ raised, (OnlyFams.canFaults x).n _ _ raised, state]
  · rw [Mod.can_of_hull ((Mod.release_hull _ _ _).trans x.canFaults_hull), held]
  · rw [Mod.release_out, Mod.canFaults_out, out]
    rfl
  · rw [left.bitOf _ _ _ (by decide +kernel), x.canFaults_follow.1, x.anyPort hu, state, other]
    simpa using hn

/-- A port goes bus-off (R468, R476). -/
theorem Mod.canBusOff_frame (m : Mod) {u : Nat} (h : m.canOn u = true) :
    OnlyFams (tripFams ++ [E.CAN_BUSOFF_CNT, E.CAN_STATE]) m (m.canBusOff u) ∧ (m.canBusOff u).n E.CAN_STATE u = 2 ∧
      (m.canBusOff u).n E.CAN_BUSOFF_CNT u = inc32 (m.n E.CAN_BUSOFF_CNT u) ∧ (m.canBusOff u).bitOf E.FLT_ACTIVE 11 0 = true := by
  obtain ⟨raised, -, counted, -, count, counter⟩ := canState_apart u (Mod.canOn_lt h)
  have trips : raiseFams ⊆ tripFams ++ [E.CAN_BUSOFF_CNT, E.CAN_STATE] := fun f hf => List.mem_append_left _ (raiseFams_trip hf)
  rw [show m.canBusOff u = (((m.setN E.CAN_STATE u 2).inc E.CAN_BUSOFF_CNT u).raise 11 0).canFaults from if_pos h]
  generalize hx : (m.setN E.CAN_STATE u 2).inc E.CAN_BUSOFF_CNT u = x
  have off : OnlyFams (tripFams ++ [E.CAN_BUSOFF_CNT, E.CAN_STATE]) m x :=
    hx ▸ ((OnlyFams.setV (f := E.CAN_STATE) m u _ (by simp)).set (f := E.CAN_BUSOFF_CNT) (by simp))
  have state : x.n E.CAN_STATE u = 2 := by
    rw [← hx, Mod.n_inc_ne _ counted, Mod.n_setN_same _ _ (Mod.canOn_lt h)]
  have counts : x.n E.CAN_BUSOFF_CNT u = inc32 (m.n E.CAN_BUSOFF_CNT u) := by
    rw [← hx, Mod.n_inc_same _ (Mod.canOn_lt h), Mod.setN_eq, Mod.n_setV_ne _ _ _ _ _ _ counter]
  have told := OnlyFams.raise x 11 0 none
  have follows := OnlyFams.canFaults (x.raise 11 0)
  have after : (x.raise 11 0).n E.CAN_STATE u = 2 := (told.n _ _ raised).trans state
  refine ⟨(off.trans (told.mono trips)).trans (follows.mono trips), (follows.n _ _ raised).trans after,
    ((follows.n _ _ count).trans (told.n _ _ count)).trans counts, ?_⟩
  rw [(x.raise 11 0).canFaults_follow.1, (x.raise 11 0).anyPort (Mod.canOn_lt h), after]
  rfl

/-- A port enters error-passive, or leaves it (R476). -/
theorem Mod.canPassive_frame (m : Mod) {u : Nat} (passive : Bool) (h : m.canOn u = true) :
    OnlyFams (tripFams ++ [E.CAN_STATE]) m (m.canPassive u passive) ∧ (m.canPassive u passive).n E.CAN_STATE u = b2n passive ∧
      (m.canPassive u passive).bitOf E.FLT_ACTIVE 11 1 = (passive || m.n E.CAN_STATE (1 - u) == 1) := by
  obtain ⟨raised, apart, -⟩ := canState_apart u (Mod.canOn_lt h)
  have raised' : E.CAN_STATE.key (1 - u) ∉ raiseFams.flatMap Fam.keys := (canState_apart (1 - u) (by omega)).1
  have trips : raiseFams ⊆ tripFams ++ [E.CAN_STATE] := fun f hf => List.mem_append_left _ (raiseFams_trip hf)
  rw [show m.canPassive u passive = ((m.setN E.CAN_STATE u (b2n passive)).when passive (·.raise 11 1)).canFaults from if_pos h]
  have told : OnlyFams raiseFams (m.setN E.CAN_STATE u (b2n passive)) ((m.setN E.CAN_STATE u (b2n passive)).when passive (·.raise 11 1)) :=
    .when _ _ (.raise _ 11 1 none)
  generalize (m.setN E.CAN_STATE u (b2n passive)).when passive (·.raise 11 1) = x at told
  have state : x.n E.CAN_STATE u = b2n passive := (told.n _ _ raised).trans (Mod.n_setN_same _ _ (Mod.canOn_lt h))
  have other : x.n E.CAN_STATE (1 - u) = m.n E.CAN_STATE (1 - u) := by
    rw [told.n _ _ raised', Mod.setN_eq, Mod.n_setV_ne _ _ _ _ _ _ (Ne.symm apart)]
  have follows := OnlyFams.canFaults x
  refine ⟨((OnlyFams.setV (f := E.CAN_STATE) m u _ (by simp)).trans (told.mono trips)).trans (follows.mono trips),
    (follows.n _ _ raised).trans state, ?_⟩
  rw [x.canFaults_follow.2, x.anyPort (Mod.canOn_lt h), state, other]
  cases passive <;> rfl

/-! ## The status frame (R472) -/

/-- A status frame that leaves a port that is not bus-off. -/
theorem Mod.canSend_live (m : Mod) {u : Nat} (peer seq : Nat) (f : CanFrame) (h : m.n E.CAN_STATE u ≠ 2) :
    m.canSend u peer seq f = (m.through (if u = 0 then 16 else 18) f.data.length peer seq).emit (.can f) := by
  unfold Mod.canSend
  rw [if_neg h]

/-- One port's turn at the status frames. -/
def Mod.statusTurn (u : Nat) (m : Mod) : Mod :=
  if m.statusDue u then
    let m := m.canSend u 0xFFFF 0 (m.statusFrame u)
    { m with can := { m.can with lastStatus := setAt none m.can.lastStatus u (some m.tb), sentFlags := setAt 0 m.can.sentFlags u (m.n E.MOD_FLAGS 0) } }
  else m

theorem Mod.canStatus_eq (m : Mod) : m.canStatus = (m.statusTurn 0).statusTurn 1 := by
  rw [Mod.canStatus, Mod.each, show List.range 2 = [0, 1] from rfl, List.foldl_cons, List.foldl_cons, List.foldl_nil]
  rfl

/-- What a port's turn leaves as it is, and what it adds. -/
theorem Mod.canSend_frame (m : Mod) (u peer seq : Nat) (f : CanFrame) : OnlyFams markFams m (m.canSend u peer seq f) ∧
    (∃ l, (m.canSend u peer seq f).out = m.out ++ l) ∧ (m.canSend u peer seq f).tb = m.tb ∧
    (m.canSend u peer seq f).can.lastStatus = m.can.lastStatus ∧ (m.canSend u peer seq f).can.sentFlags = m.can.sentFlags := by
  have still : ∀ (x : Mod) (q : Nat), (x.queueMarks q).tb = x.tb ∧ (x.queueMarks q).can = x.can := fun x q =>
    ⟨Mod.tb_of_hull (Mod.hull_of_site (Mod.site_of_plant (x.plant_queueMarks q))),
      Mod.can_of_hull (Mod.hull_of_site (Mod.site_of_plant (x.plant_queueMarks q)))⟩
  have passes : ∀ (x : Mod) (q b p s : Nat), (x.through q b p s).tb = x.tb ∧ (x.through q b p s).can = x.can := fun x q b p s =>
    ⟨(still _ q).1.trans (still _ q).1, (still _ q).2.trans (still _ q).2⟩
  have enters : ∀ (x : Mod) (q b p s : Nat), (x.enqueue q b p s).tb = x.tb ∧ (x.enqueue q b p s).can = x.can := fun x q b p s => still _ q
  have other := canQueue u
  have queues : ∀ q : Nat, q ≠ 26 → ∀ x : Mod,
      (OnlyFams markFams x (x.enqueue q f.data.length peer seq) ∧ (x.enqueue q f.data.length peer seq).out = x.out) ∧
        OnlyFams markFams x (x.through q f.data.length peer seq) ∧ (x.through q f.data.length peer seq).out = x.out := fun q h x =>
    ⟨⟨.enqueue x _ _ _ h, x.enqueue_out _ _ _ _⟩, .through x _ _ _ h, (Mod.dequeue_out _ _).trans (x.enqueue_out _ _ _ _)⟩
  unfold Mod.canSend
  generalize (if u = 0 then 16 else 18) = q at other
  dsimp only
  obtain ⟨⟨entered, waits⟩, passed, out⟩ := queues q other m
  by_cases h : m.n E.CAN_STATE u = 2
  · rw [if_pos h]
    by_cases full : m.queueFull q f.data.length = true
    · rw [if_pos full]
      exact ⟨.refl _ m, ⟨[], by simp⟩, rfl, rfl, rfl⟩
    · rw [if_neg full]
      obtain ⟨tb, can⟩ := enters m q f.data.length peer seq
      generalize m.enqueue q f.data.length peer seq = x at tb can entered waits
      have last : x.can.lastStatus = m.can.lastStatus := congrArg CanS.lastStatus can
      have sent : x.can.sentFlags = m.can.sentFlags := congrArg CanS.sentFlags can
      exact ⟨.of_od entered rfl, ⟨[], by simpa using waits⟩, tb, last, sent⟩
  · rw [if_neg h]
    obtain ⟨tb, can⟩ := passes m q f.data.length peer seq
    generalize m.through q f.data.length peer seq = x at tb can passed out
    exact ⟨.of_od passed rfl, ⟨[.can f], congrArg (· ++ [Out.can f]) out⟩, tb, congrArg CanS.lastStatus can, congrArg CanS.sentFlags can⟩

/-- What a status frame reads of the module (R472). -/
theorem OnlyFams.statusFrame {a b : Mod} (h : OnlyFams markFams a b) {u : Nat} (hu : u < 2) : b.statusFrame u = a.statusFrame u ∧
    b.n E.MOD_FLAGS 0 = a.n E.MOD_FLAGS 0 ∧ b.n E.CAN_EN u = a.n E.CAN_EN u ∧ b.n E.BMS_SRC 0 = a.n E.BMS_SRC 0 ∧
    b.n E.CAN_STATE u = a.n E.CAN_STATE u := by
  have apart : ∀ j < 2, E.CAN_OD_BASE.key j ∉ markFams.flatMap Fam.keys ∧ E.CAN_NODE.key j ∉ markFams.flatMap Fam.keys ∧
      E.CAN_EN.key j ∉ markFams.flatMap Fam.keys ∧ E.CAN_STATE.key j ∉ markFams.flatMap Fam.keys := by decide +kernel
  obtain ⟨base, node, en, state⟩ := apart u hu
  have flags := h.n E.MOD_FLAGS 0 (by decide +kernel)
  have iref := h.n E.CHG_IREF 0 (by decide +kernel)
  have ilim := h.n E.CHG_ILIM_EFF 0 (by decide +kernel)
  refine ⟨?_, flags, h.n _ _ en, h.n _ _ (by decide +kernel), h.n _ _ state⟩
  unfold Mod.statusFrame Mod.q
  rw [h.n _ _ base, h.n _ _ node, flags, iref, ilim]

/-- A port's turn leaves the other port's due, its frame and its notes as they are. -/
theorem Mod.statusTurn_other (m : Mod) {u j : Nat} (hj : j < 2) (h : j ≠ u) :
    (m.statusTurn u).statusDue j = m.statusDue j ∧ (m.statusTurn u).statusFrame j = m.statusFrame j ∧ (∃ l, (m.statusTurn u).out = m.out ++ l) ∧
      (m.statusTurn u).tb = m.tb ∧ ((m.statusTurn u).can.lastStatus[j]?).getD none = (m.can.lastStatus[j]?).getD none ∧
      ((m.statusTurn u).can.sentFlags[j]?).getD 0 = (m.can.sentFlags[j]?).getD 0 ∧ (m.statusTurn u).n E.CAN_STATE j = m.n E.CAN_STATE j ∧
      (m.statusTurn u).n E.MOD_FLAGS 0 = m.n E.MOD_FLAGS 0 := by
  unfold Mod.statusTurn
  split
  · obtain ⟨only, out, tb, last, sent⟩ := m.canSend_frame u 0xFFFF 0 (m.statusFrame u)
    generalize m.canSend u 0xFFFF 0 (m.statusFrame u) = x at only out tb last sent
    dsimp only
    have later : OnlyFams markFams m { x with can := { x.can with lastStatus := setAt none x.can.lastStatus u (some x.tb), sentFlags := setAt 0 x.can.sentFlags u (x.n E.MOD_FLAGS 0) } } :=
      .of_od only rfl
    have lastJ : ((setAt none x.can.lastStatus u (some x.tb))[j]?).getD none = (m.can.lastStatus[j]?).getD none := by
      rw [setAt, getD_modAt_ne _ _ _ h, last]
    have sentJ : ((setAt 0 x.can.sentFlags u (x.n E.MOD_FLAGS 0))[j]?).getD 0 = (m.can.sentFlags[j]?).getD 0 := by
      rw [setAt, getD_modAt_ne _ _ _ h, sent]
    obtain ⟨frame, flags, en, src, state⟩ := later.statusFrame hj
    refine ⟨?_, frame, out, tb, lastJ, sentJ, state, flags⟩
    unfold Mod.statusDue Mod.b
    rw [en, src, flags]
    dsimp only
    rw [lastJ, sentJ, tb]
  · exact ⟨rfl, rfl, ⟨[], by simp⟩, rfl, rfl, rfl, rfl, rfl⟩

/-- The turn of a port whose frame is due. -/
theorem Mod.statusTurn_sends (m : Mod) {u : Nat} (hu : u < 2) (hd : m.statusDue u = true) (hs : m.n E.CAN_STATE u ≠ 2) :
    (m.statusTurn u).out = m.out ++ [.can (m.statusFrame u)] ∧ ((m.statusTurn u).can.lastStatus[u]?).getD none = some m.tb ∧
      ((m.statusTurn u).can.sentFlags[u]?).getD 0 = m.n E.MOD_FLAGS 0 := by
  obtain ⟨only, -, tb, -⟩ := m.canSend_frame u 0xFFFF 0 (m.statusFrame u)
  have flags := (only.statusFrame hu).2.1
  have out : (m.canSend u 0xFFFF 0 (m.statusFrame u)).out = m.out ++ [.can (m.statusFrame u)] := by
    rw [m.canSend_live _ _ _ hs]
    exact congrArg (· ++ [Out.can (m.statusFrame u)]) ((Mod.dequeue_out _ _).trans (m.enqueue_out _ _ _ _))
  unfold Mod.statusTurn
  rw [if_pos hd]
  generalize m.canSend u 0xFFFF 0 (m.statusFrame u) = x at tb flags out
  refine ⟨out, ?_, ?_⟩
  · exact (getD_modAt_same none x.can.lastStatus u _).trans (congrArg some tb)
  · exact (getD_modAt_same 0 x.can.sentFlags u _).trans flags

/-- The status frames that are due leave (R472). -/
theorem Mod.canStatus_sends (m : Mod) {u : Nat} (hu : u < 2) (hd : m.statusDue u = true) (hs : m.n E.CAN_STATE u ≠ 2) :
    m.canStatus.out.contains (.can (m.statusFrame u)) = true ∧ (m.canStatus.can.lastStatus[u]?).getD none = some m.tb ∧
      (m.canStatus.can.sentFlags[u]?).getD 0 = m.n E.MOD_FLAGS 0 := by
  rw [Mod.canStatus_eq]
  obtain rfl | rfl : u = 0 ∨ u = 1 := by omega
  · obtain ⟨out, last, sent⟩ := m.statusTurn_sends hu hd hs
    obtain ⟨-, -, ⟨l, later⟩, -, last', sent', -⟩ := (m.statusTurn 0).statusTurn_other (u := 1) (j := 0) (by decide) (by decide)
    rw [later, last', sent', out]
    exact ⟨by simp, last, sent⟩
  · obtain ⟨due, frame, -, tb, -, -, state, flags⟩ := m.statusTurn_other (u := 0) (j := 1) (by decide) (by decide)
    obtain ⟨out, last, sent⟩ := (m.statusTurn 0).statusTurn_sends hu (due.trans hd) (by rwa [state])
    rw [out, last, sent, tb, flags, frame]
    exact ⟨by simp, rfl, rfl⟩

/-! ## The mapped receive table (R473 to R475) -/

/-- A fold in which one item alone has an effect. -/
theorem foldl_once {α β : Type} [DecidableEq β] {f : α → β → α} {i : β} {x y : α} (hi : f x i = y) (l : List β) (hd : l.Nodup)
    (hx : ∀ k ∈ l, k ≠ i → f x k = x) (hy : ∀ k ∈ l, k ≠ i → f y k = y) : l.foldl f x = if i ∈ l then y else x := by
  have after : ∀ r : List β, (∀ k ∈ r, f y k = y) → r.foldl f y = y := fun r => by
    induction r with
    | nil => exact fun _ => rfl
    | cons k r ih => exact fun h => by rw [List.foldl_cons, h k (by simp), ih fun j hj => h j (by simp [hj])]
  induction l with
  | nil => rfl
  | cons k r ih =>
    obtain ⟨hk, hr⟩ := List.nodup_cons.1 hd
    rw [List.foldl_cons]
    by_cases e : k = i
    · subst e
      rw [hi, if_pos (by simp)]
      exact after r fun j hj => hy j (by simp [hj]) fun h => hk (h ▸ hj)
    · rw [hx k (by simp) e, ih hr (fun j hj => hx j (by simp [hj])) fun j hj => hy j (by simp [hj])]
      simp [Ne.symm e]

/-- A frame that a mapping decodes: noted, counted, and the mapping's staleness counts from here (R473, R475). -/
def Mod.mapCounted (m : Mod) (i : Nat) : Mod :=
  let m : Mod := { m with can := { m.can with maps := setAt {} m.can.maps i { last := some m.tb, shortNoted := false } } }
  let m := m.inc E.MAP_RX_CNT i
  if m.n E.MAP_STALE_T i = 0 then m.disarm (.mapStale i) else m.arm (.mapStale i) (m.tb + ms (m.n E.MAP_STALE_T i))

theorem mapFrame_counted (f : CanFrame) (m : Mod) (srv : Srv) (i : Nat) (hm : m.mapMatches f i = true)
    (hl : m.n E.MAP_OFS i + mapLength (m.n E.MAP_FMT i) ≤ f.data.length) :
    mapFrame f (m, srv) i =
      match mapRaw ((m.mapCounted i).n E.MAP_FMT i) ((f.data.drop (m.n E.MAP_OFS i)).take (mapLength (m.n E.MAP_FMT i))) with
      | none => ((m.mapCounted i).setN E.MAP_STATE i 3, srv)
      | some raw =>
        let y := mapApply i f.bus ((m.mapCounted i).mapValue i raw) (m.mapCounted i, srv)
        (y.1.1.setN E.MAP_STATE i (if y.2 then 1 else 3), y.1.2) := by
  unfold mapFrame
  dsimp only
  rw [if_neg (by rw [hm]; decide), if_neg (by omega)]
  rfl

theorem Mod.mapCounted_frame (m : Mod) {i : Nat} (hi : i < 32) : OnlyFams [E.MAP_RX_CNT] m (m.mapCounted i) ∧
    (m.mapCounted i).n E.MAP_RX_CNT i = inc32 (m.n E.MAP_RX_CNT i) ∧
    (m.mapCounted i).deadline (.mapStale i) = (if m.n E.MAP_STALE_T i = 0 then none else some (m.tb + ms (m.n E.MAP_STALE_T i))) := by
  have apart : ∀ j < 32, E.MAP_STALE_T.key j ≠ E.MAP_RX_CNT.key j := by decide +kernel
  unfold Mod.mapCounted
  generalize hx : ({ m with can := { m.can with maps := setAt {} m.can.maps i { last := some m.tb, shortNoted := false } } } : Mod) = x
  have od : x.od = m.od := hx ▸ rfl
  have tb : x.tb = m.tb := hx ▸ rfl
  have n : ∀ f j, x.n f j = m.n f j := hx ▸ fun _ _ => rfl
  have counted : OnlyFams [E.MAP_RX_CNT] m (x.inc E.MAP_RX_CNT i) := OnlyFams.trans (.of_od (.refl _ m) od) (.setV (f := E.MAP_RX_CNT) x i _ (by simp))
  have counts : (x.inc E.MAP_RX_CNT i).n E.MAP_RX_CNT i = inc32 (m.n E.MAP_RX_CNT i) := by rw [Mod.n_inc_same _ hi, n]
  have stale : (x.inc E.MAP_RX_CNT i).n E.MAP_STALE_T i = m.n E.MAP_STALE_T i := by rw [Mod.n_inc_ne _ (apart i hi), n]
  dsimp only
  rw [stale]
  split
  · exact ⟨.of_od counted rfl, counts, Mod.deadline_disarm_same _ _⟩
  · exact ⟨.of_od counted rfl, counts, (Mod.deadline_arm_same _ _ _).trans (by rw [Mod.inc_eq, Mod.setV_tb, tb])⟩

/-! ## What the battery's state of charge brings (R222, R223) -/

/-- What settling the age of the limits touches. -/
def settleFams : List Fam := [E.BMS_FRESH, E.BMS_STALE_CNT, E.MOD_FLAGS, E.BMS_AGE]

theorem Mod.bmsSettle_frame (m : Mod) : OnlyFams settleFams m m.bmsSettle ∧ SameTimers [.bmsWake] m m.bmsSettle := by
  have shown : ∀ x : Mod, OnlyFams settleFams x x.ageShow ∧ x.ageShow.timers = x.timers := fun x =>
    ⟨.setV (f := E.BMS_AGE) x 0 _ (by simp [settleFams]), rfl⟩
  have ended : ∀ x : Mod, OnlyFams settleFams x x.wakeEnd ∧ SameTimers [.bmsWake] x x.wakeEnd := fun x => by
    have flags : ∀ y : Mod, OnlyFams settleFams y y.flagsRefresh ∧ y.flagsRefresh.timers = y.timers := fun y =>
      ⟨.setV (f := E.MOD_FLAGS) y 0 _ (by simp [settleFams]), rfl⟩
    have idle : OnlyFams settleFams x (({ x with bms := { x.bms with wake := false, waiting := false } } : Mod).disarm .bmsWake) := .of_od (.refl _ x) rfl
    exact ⟨idle.trans (flags _).1, (SameTimers.trans (b := { x with bms := { x.bms with wake := false, waiting := false } }) (.of_timers rfl)
      (.disarm _ (by simp))).trans (.of_timers (flags _).2)⟩
  have stale : ∀ (x : Mod) (c : Bool), OnlyFams settleFams x (x.when c fun m => (m.inc E.BMS_STALE_CNT 0).alertSet 5) ∧
      (x.when c fun m => (m.inc E.BMS_STALE_CNT 0).alertSet 5).timers = x.timers := fun x c => by
    cases c
    · exact ⟨.refl _ x, rfl⟩
    · exact ⟨.of_od (x := x.inc E.BMS_STALE_CNT 0) (.setV (f := E.BMS_STALE_CNT) x 0 _ (by simp [settleFams])) rfl, rfl⟩
  have fresh : ∀ (x : Mod) (v : Nat), OnlyFams settleFams x (x.setFresh v) ∧ SameTimers [.bmsWake] x (x.setFresh v) := fun x v => by
    have put : OnlyFams settleFams x (x.setN E.BMS_FRESH 0 v) ∧ (x.setN E.BMS_FRESH 0 v).timers = x.timers :=
      ⟨.setV (f := E.BMS_FRESH) x 0 _ (by simp [settleFams]), rfl⟩
    exact ⟨(put.1.trans (stale _ _).1).trans (.when _ _ (ended _).1),
      (SameTimers.of_timers ((stale _ _).2.trans put.2)).trans (.when _ _ (ended _).2)⟩
  exact ⟨(fresh m _).1.trans (shown _).1, (fresh m _).2.trans (.of_timers (shown _).2)⟩

/-- A mapping whose target is the state of charge (R222, R474). -/
theorem mapApply_soc (m : Mod) (srv : Srv) {i : Nat} (bus : Nat) (q : Rat) (ht : m.mapTarget i = some (E.BMS_SOC, 0)) (hs : m.n E.BMS_SRC 0 = 3)
    (hr : E.BMS_SOC.inRange (.num (f32OfRat q)) = true) :
    mapApply i bus q (m, srv) = (((m.setN E.BMS_SOC 0 (f32OfRat q)).bmsSettle, srv), true) := by
  have number : E.BMS_SOC.fromRat q = some (.num (f32OfRat q)) := rfl
  unfold mapApply
  dsimp only
  rw [ht]
  dsimp only
  rw [number]
  dsimp only
  rw [if_pos (by decide), if_neg (by rw [hs]; decide), if_neg (by rw [hr]; decide)]
  rfl

/-- A mapped frame brings a state of charge in its range (R222, R473 to R475). -/
theorem mapFrame_soc (f : CanFrame) (m : Mod) (srv : Srv) {i : Nat} {raw : Rat} (hi : i < 32) (hm : m.mapMatches f i = true)
    (hl : m.n E.MAP_OFS i + mapLength (m.n E.MAP_FMT i) ≤ f.data.length)
    (hraw : mapRaw (m.n E.MAP_FMT i) ((f.data.drop (m.n E.MAP_OFS i)).take (mapLength (m.n E.MAP_FMT i))) = some raw)
    (ht : m.mapTarget i = some (E.BMS_SOC, 0)) (hs : m.n E.BMS_SRC 0 = 3)
    (hr : E.BMS_SOC.inRange (.num (f32OfRat (m.mapValue i raw))) = true) :
    mapFrame f (m, srv) i =
      ((((m.mapCounted i).setN E.BMS_SOC 0 (f32OfRat (m.mapValue i raw))).bmsSettle.setN E.MAP_STATE i 1), srv) := by
  have apart : ∀ j < 32, E.MAP_FMT.key j ∉ [E.MAP_RX_CNT].flatMap Fam.keys ∧ E.MAP_SCALE.key j ∉ [E.MAP_RX_CNT].flatMap Fam.keys ∧
      E.MAP_OFFSET.key j ∉ [E.MAP_RX_CNT].flatMap Fam.keys ∧ E.MAP_TARGET.key j ∉ [E.MAP_RX_CNT].flatMap Fam.keys := by decide +kernel
  obtain ⟨fmt, scale, offset, target⟩ := apart i hi
  obtain ⟨only, -⟩ := m.mapCounted_frame hi
  have value : (m.mapCounted i).mapValue i raw = m.mapValue i raw := by
    unfold Mod.mapValue Mod.q
    rw [only.n _ _ scale, only.n _ _ offset]
  have names : (m.mapCounted i).mapTarget i = some (E.BMS_SOC, 0) := by
    unfold Mod.mapTarget at ht ⊢
    dsimp only at ht ⊢
    rwa [only.n _ _ target]
  rw [mapFrame_counted f m srv i hm hl, only.n _ _ fmt, hraw]
  dsimp only
  rw [value, mapApply_soc (m.mapCounted i) srv f.bus _ names ((only.n _ _ (by decide +kernel)).trans hs) hr]
  rfl

/-- What a mapped state of charge leaves (R222, R473 to R475). -/
theorem Mod.mapSoc_frame (m : Mod) {i : Nat} (v : Nat) (hi : i < 32) :
    OnlyFams ([E.MAP_RX_CNT, E.BMS_SOC, E.MAP_STATE] ++ settleFams) m (((m.mapCounted i).setN E.BMS_SOC 0 v).bmsSettle.setN E.MAP_STATE i 1) ∧
      (((m.mapCounted i).setN E.BMS_SOC 0 v).bmsSettle.setN E.MAP_STATE i 1).n E.MAP_RX_CNT i = inc32 (m.n E.MAP_RX_CNT i) ∧
      (((m.mapCounted i).setN E.BMS_SOC 0 v).bmsSettle.setN E.MAP_STATE i 1).n E.BMS_SOC 0 = v ∧
      (((m.mapCounted i).setN E.BMS_SOC 0 v).bmsSettle.setN E.MAP_STATE i 1).n E.MAP_STATE i = 1 ∧
      (((m.mapCounted i).setN E.BMS_SOC 0 v).bmsSettle.setN E.MAP_STATE i 1).deadline (.mapStale i) =
        (if m.n E.MAP_STALE_T i = 0 then none else some (m.tb + ms (m.n E.MAP_STALE_T i))) := by
  have apart : ∀ j < 32, E.MAP_RX_CNT.key j ≠ E.MAP_STATE.key j ∧ E.MAP_RX_CNT.key j ∉ settleFams.flatMap Fam.keys ∧
      E.MAP_RX_CNT.key j ≠ E.BMS_SOC.key 0 ∧ E.BMS_SOC.key 0 ≠ E.MAP_STATE.key j := by decide +kernel
  obtain ⟨state, settle, soc, soc'⟩ := apart i hi
  obtain ⟨only, counts, stale⟩ := m.mapCounted_frame hi
  generalize m.mapCounted i = x at only counts stale
  have put : OnlyFams [E.MAP_RX_CNT, E.BMS_SOC] m (x.setN E.BMS_SOC 0 v) := (only.mono (by simp)).set (f := E.BMS_SOC) (by simp)
  have charge : (x.setN E.BMS_SOC 0 v).n E.BMS_SOC 0 = v := Mod.n_setN_same _ v (by decide)
  have count : (x.setN E.BMS_SOC 0 v).n E.MAP_RX_CNT i = inc32 (m.n E.MAP_RX_CNT i) := (x.n_setV_ne _ _ _ _ _ soc).trans counts
  have time : (x.setN E.BMS_SOC 0 v).deadline (.mapStale i) = x.deadline (.mapStale i) := rfl
  obtain ⟨settled, timers⟩ := (x.setN E.BMS_SOC 0 v).bmsSettle_frame
  generalize (x.setN E.BMS_SOC 0 v).bmsSettle = y at settled timers
  refine ⟨?_, ?_, ?_, Mod.n_setN_same _ 1 hi, ?_⟩
  · exact ((put.mono (by simp)).trans (settled.mono (List.subset_append_right _ _))).set (f := E.MAP_STATE) (by simp)
  · exact (y.n_setV_ne _ _ _ _ _ state).trans ((settled.n _ _ settle).trans count)
  · exact (y.n_setV_ne _ _ _ _ _ soc').trans ((settled.n _ _ (by decide +kernel)).trans charge)
  · exact (timers (.mapStale i) (by simp)).trans (time.trans stale)

/-- A mapping that is not enabled is not met (R473). -/
theorem mapFrame_disabled (f : CanFrame) (x : Sys) {k : Nat} (h : x.1.b E.MAP_EN k = false) : mapFrame f x k = x := by
  have unmatched : x.1.mapMatches f k = false := by
    unfold Mod.mapMatches
    dsimp only
    rw [h]
    rfl
  unfold mapFrame
  dsimp only
  rw [if_pos (by rw [unmatched]; rfl)]

end Sys2Proof.Machine

namespace Sys2Proof

open Machine

/-- Settles O56: a compact DISCARD through the server, the status frames by their ports' turns, a mapped frame through its one
mapping, and the ports' states with sources 11:0 and 11:1. -/
theorem canPorts : Obligations.CanPorts := by
  unfold Obligations.CanPorts
  refine ⟨?_, ?_, ?_, ?_, ?_, ?_, ?_⟩
  · intro t who f s ha hw hop hadm hs ho
    refine DoesS.intro (f := canRequest f) rfl ha ?_
    have eq : canRequest f (s.m.at t, s.srv) = serve ruleOf (canReq f who) (s.m.at t, s.srv) := by
      unfold canRequest
      rw [show (s.m.at t).canAsker f = some who from hw]
    rw [eq]
    exact serve_discard_server hadm hop hs ho
  · exact fun t u s ha hu hd hs => DoesM.intro (f := Mod.canStatus) rfl ha ((s.m.at t).canStatus_sends hu hd hs)
  · intro t i raw f s ha hi hon hc hen hm hl hraw ht hs hr
    refine DoesS.intro (f := mappedFrame f) rfl ha ?_
    have apart : ∀ j < 32, E.MAP_EN.key j ∉ ([E.MAP_RX_CNT, E.BMS_SOC, E.MAP_STATE] ++ settleFams).flatMap Fam.keys := by decide +kernel
    have met := mapFrame_soc f (s.m.at t) s.srv hi hm hl hraw ht hs hr
    obtain ⟨only, counts, charge, state, stale⟩ := (s.m.at t).mapSoc_frame (f32OfRat ((s.m.at t).mapValue i raw)) hi
    generalize (((s.m.at t).mapCounted i).setN E.BMS_SOC 0 (f32OfRat ((s.m.at t).mapValue i raw))).bmsSettle.setN E.MAP_STATE i 1 = y at met only counts charge state stale
    have eq : mappedFrame f (s.m.at t, s.srv) = (y, s.srv) := by
      have offered : ((s.m.at t).canOn f.bus && !(s.m.at t).canCompact f) = true := by
        rw [show (s.m.at t).canOn f.bus = true from hon, show (s.m.at t).canCompact f = false from hc]
        rfl
      unfold mappedFrame
      dsimp only
      rw [if_pos offered, foldl_once met (List.range 32) List.nodup_range
        (fun k hk hne => mapFrame_disabled f _ (hen k (List.mem_range.1 hk) hne))
        (fun k hk hne => mapFrame_disabled f _ ?_), if_pos (List.mem_range.2 hi)]
      exact (congrArg (· != 0) (only.n _ _ (apart k (List.mem_range.1 hk)))).trans (hen k (List.mem_range.1 hk) hne)
    rw [eq]
    exact ⟨counts, charge, state, rfl, stale⟩
  · intro t i s ha hi hd hen
    refine DoesM.intro (f := Mod.mapStale i) rfl ha ?_
    have eq : (s.m.at t).mapStale i = ((s.m.at t).disarm (.mapStale i)).setN E.MAP_STATE i 2 := by
      unfold Mod.mapStale
      rw [if_pos hd, show (s.m.at t).b E.MAP_EN i = true from hen]
      rfl
    rw [eq]
    refine ⟨Mod.n_setN_same _ 2 hi, Mod.deadline_disarm_same _ _, fun k hk => ?_, ?_, rfl⟩
    · exact Mod.odGet_setV_ne ((s.m.at t).disarm (.mapStale i)) E.MAP_STATE i _ (by simpa using hk)
    · exact SameTimers.trans (b := (s.m.at t).disarm (.mapStale i)) (.disarm _ (by simp)) (.of_timers rfl)
  · exact fun t u s ha hon => DoesM.intro (f := Mod.canBusOff u) rfl ha ((s.m.at t).canBusOff_frame hon)
  · exact fun t u s ha hu hst => DoesM.intro (f := Mod.canRecover u) rfl ha ((s.m.at t).canRecover_frame hu hst rfl)
  · exact fun t u passive s ha hon => DoesM.intro (f := Mod.canPassive u passive) rfl ha ((s.m.at t).canPassive_frame passive hon)

end Sys2Proof
end

section
/-! PROOF. The binary32 patterns of the magnitudes up to 100. -/

set_option Elab.async false

namespace Sys2Proof.Machine

open Sys2Proof

/-- A quotient of at most `c` rounds to at most `c`. -/
theorem roundDiv_le {n d c : Nat} (hd : 0 < d) (h : n ≤ c * d) : roundDiv n d ≤ c := by
  have quotient : n / d ≤ c := Nat.div_le_of_le_mul (by rwa [Nat.mul_comm])
  have division := Nat.div_add_mod n d
  unfold roundDiv
  dsimp only
  split
  · rename_i up
    rcases Nat.lt_or_ge (n / d) c with hlt | hge
    · omega
    · have exact_ : n % d = 0 := by
        have := Nat.mul_le_mul_left d hge
        rw [Nat.mul_comm d c] at this
        omega
      rw [exact_] at up
      simp only [Bool.or_eq_true, decide_eq_true_eq, Bool.and_eq_true, beq_iff_eq] at up
      omega
  · exact quotient

/-- The pattern of a significand of at most 2^24 whose exponent is `-j`. -/
theorem f32_pack_le {m j : Nat} {p : Nat × Int} (hp : p = if m == 0x1000000 then (0x800000, -(j : Int) + 1) else (m, -(j : Int)))
    (hm : m ≤ 0x1000000) (hj : 17 ≤ j) (h17 : j = 17 → m ≤ 0xC80000) :
    (if p.1 < 0x800000 then p.1 else if p.2 > 104 then 0x7F800000 else (p.2 + 150).toNat * 0x800000 + (p.1 - 0x800000)) ≤ 0x42C80000 := by
  by_cases hc : m = 0x1000000
  · rw [if_pos (by simpa using hc)] at hp
    subst hp
    have exponent : (-(j : Int) + 1 + 150).toNat ≤ 133 := by omega
    dsimp only
    rw [if_neg (by decide), if_neg (by omega)]
    omega
  · rw [if_neg (by simpa using hc)] at hp
    subst hp
    dsimp only
    split
    · omega
    · rw [if_neg (by omega)]
      by_cases h : j = 17
      · have := h17 h
        have exponent : (-(j : Int) + 150).toNat = 133 := by omega
        rw [exponent]
        omega
      · have exponent : (-(j : Int) + 150).toNat ≤ 132 := by omega
        omega

theorem natCast_le_of_neg {i k : Nat} (h : -(i : Int) < -(k : Int)) : k ≤ i := by omega

theorem neg_not_nonneg {k : Nat} (h : 0 < k) : ¬ -(k : Int) ≥ 0 := by omega

/-- The pattern of a magnitude of at most 100 is at most 100's. -/
theorem f32OfMag_le {n d : Nat} (h : n ≤ 100 * d) : f32OfMag n d ≤ 0x42C80000 := by
  rcases Nat.eq_zero_or_pos n with rfl | hn
  · exact Nat.zero_le _
  have hd : 0 < d := by omega
  obtain ⟨a, ha⟩ : ∃ a, Nat.log2 n = a := ⟨_, rfl⟩
  obtain ⟨b, hb⟩ : ∃ b, Nat.log2 d = b := ⟨_, rfl⟩
  have lowN : 2 ^ a ≤ n := ha ▸ Nat.log2_self_le (by omega)
  have highN : n < 2 ^ (a + 1) := ha ▸ Nat.lt_log2_self
  have lowD : 2 ^ b ≤ d := hb ▸ Nat.log2_self_le (by omega)
  have highD : d < 2 ^ (b + 1) := hb ▸ Nat.lt_log2_self
  have near : a ≤ b + 7 := by
    have : 2 ^ a < 2 ^ (b + 8) := by
      have : (2 : Nat) ^ (b + 8) = 128 * 2 ^ (b + 1) := by rw [show b + 8 = (b + 1) + 7 by omega, Nat.pow_add]; omega
      omega
    have := (Nat.pow_lt_pow_iff_right (by decide : 1 < 2)).1 this
    omega
  obtain ⟨k, hk⟩ : ∃ k, k + a = 23 + b := ⟨23 + b - a, by omega⟩
  -- `-k` is the exponent that the lengths suggest, `j` the one that is taken
  have upper : n * 2 ^ k < d * 2 ^ 24 := by
    have : 2 ^ (a + 1) * 2 ^ k = 2 ^ b * 2 ^ 24 := by rw [← Nat.pow_add, ← Nat.pow_add]; congr 1; omega
    calc n * 2 ^ k < 2 ^ (a + 1) * 2 ^ k := Nat.mul_lt_mul_of_pos_right highN (Nat.two_pow_pos k)
      _ = 2 ^ b * 2 ^ 24 := this
      _ ≤ d * 2 ^ 24 := Nat.mul_le_mul_right _ lowD
  have suggested : (Nat.log2 n : Int) - (Nat.log2 d : Int) - 23 = -(k : Int) := by omega
  have taken : ∃ j : Nat, 17 ≤ j ∧ n * 2 ^ j < d * 2 ^ 24 ∧
      (let e1 : Int := if (decide (n * 2 ^ k < d * 2 ^ 23)) = true then -(k : Int) - 1 else -(k : Int)
        if e1 < -149 then (-149 : Int) else e1) = -(j : Int) := by
    have first : ∃ i : Nat, 17 ≤ i ∧ n * 2 ^ i < d * 2 ^ 24 ∧
        (if (decide (n * 2 ^ k < d * 2 ^ 23)) = true then -(k : Int) - 1 else -(k : Int)) = -(i : Int) := by
      by_cases hlt : n * 2 ^ k < d * 2 ^ 23
      · refine ⟨k + 1, by omega, ?_, ?_⟩
        · rw [Nat.pow_succ, ← Nat.mul_assoc]
          omega
        · rw [if_pos (by simpa using hlt)]
          omega
      · refine ⟨k, ?_, upper, if_neg (by simpa using hlt)⟩
        by_contra h17
        have : k = 16 := by omega
        subst this
        omega
    obtain ⟨i, hi, hlt, he⟩ := first
    dsimp only
    rw [he]
    split
    · refine ⟨149, by decide, Nat.lt_of_le_of_lt (Nat.mul_le_mul_left n (Nat.pow_le_pow_right (by decide) (natCast_le_of_neg ‹_›))) hlt, rfl⟩
    · exact ⟨i, hi, hlt, rfl⟩
  obtain ⟨j, hj, hlt, he⟩ := taken
  have k0 : 0 < k := by omega
  have j0 : 0 < j := Nat.lt_of_lt_of_le (by decide) hj
  have significand : roundDiv (n * 2 ^ j) d ≤ 0x1000000 := roundDiv_le hd (by omega)
  unfold f32OfMag
  rw [if_neg (by simp; omega)]
  dsimp only at he ⊢
  rw [suggested, if_neg (neg_not_nonneg k0), neg_neg, Int.toNat_natCast, he, if_neg (neg_not_nonneg j0), neg_neg, Int.toNat_natCast]
  refine f32_pack_le rfl significand hj fun h17 => roundDiv_le hd ?_
  rw [h17]
  omega

/-- The numbers of the patterns up to 100's. -/
theorem f32ToRat_bounds {r : Nat} (h : r ≤ 0x42C80000) : f32Finite r = true ∧ 0 ≤ f32ToRat r ∧ f32ToRat r ≤ 100 := by
  have shift : r >>> 23 = r / 2 ^ 23 := Nat.shiftRight_eq_div_pow r 23
  have exponent : (r >>> 23) &&& 0xFF = r / 2 ^ 23 := by
    rw [shift, show (0xFF : Nat) = 2 ^ 8 - 1 by rfl, Nat.and_two_pow_sub_one_eq_mod]
    omega
  have fraction : r &&& 0x7FFFFF = r % 2 ^ 23 := by
    rw [show (0x7FFFFF : Nat) = 2 ^ 23 - 1 by rfl, Nat.and_two_pow_sub_one_eq_mod]
  have positive : r.testBit 31 = false := Nat.testBit_lt_two_pow (by omega)
  refine ⟨?_, ?_⟩
  · unfold f32Finite
    rw [exponent]
    simp
    omega
  unfold f32ToRat
  dsimp only
  rw [exponent, fraction, positive, if_neg (by decide), if_neg (by simp; omega)]
  by_cases h0 : r / 2 ^ 23 = 0
  · rw [if_pos (by simpa using h0)]
    have small : r % 2 ^ 23 < 2 ^ 23 := Nat.mod_lt _ (by decide)
    generalize r % 2 ^ 23 = m at small
    rw [Rat.mkRat_eq_div]
    refine ⟨by positivity, ?_⟩
    rw [div_le_iff₀ (by positivity)]
    have : ((m : Int) : Rat) ≤ ((2 ^ 23 : Nat) : Rat) := by exact_mod_cast small.le
    norm_num at this ⊢
    linarith
  · rw [if_neg (by simpa using h0), if_neg (by omega)]
    have small : (0x800000 + r % 2 ^ 23) ≤ 100 * 2 ^ (150 - r / 2 ^ 23) := by
      by_cases top : r / 2 ^ 23 = 133
      · rw [top]
        omega
      · have : 2 ^ 18 ≤ 2 ^ (150 - r / 2 ^ 23) := Nat.pow_le_pow_right (by decide) (by omega)
        omega
    generalize 0x800000 + r % 2 ^ 23 = m at small
    generalize 150 - r / 2 ^ 23 = k at small
    rw [Rat.mkRat_eq_div]
    refine ⟨by positivity, ?_⟩
    rw [div_le_iff₀ (by positivity)]
    exact_mod_cast small

/-- A number from 0 to 100 as binary32 is a number from 0 to 100. -/
theorem f32OfRat_bounds {q : Rat} (h0 : 0 ≤ q) (h : q ≤ 100) :
    f32Finite (f32OfRat q) = true ∧ 0 ≤ f32ToRat (f32OfRat q) ∧ f32ToRat (f32OfRat q) ≤ 100 := by
  have magnitude : q.num.natAbs ≤ 100 * q.den := by
    have : q.num ≤ 100 * q.den := by
      have := (Rat.le_iff _ _).1 h
      simpa using this
    have := Rat.num_nonneg.2 h0
    omega
  refine f32ToRat_bounds ?_
  unfold f32OfRat
  dsimp only
  rw [if_neg (by simp [not_lt.2 h0])]
  exact f32OfMag_le magnitude

end Sys2Proof.Machine
end

section
/-! PROOF. Line timeouts and BAT2W (R462 to R466). -/

set_option Elab.async false

namespace Sys2Proof.Machine

open Sys2Proof

/-! ## A port's state -/

@[simp] theorem Mod.b2wOf_modB2w (m : Mod) (u : Nat) (f : B2w → B2w) : (m.modB2w u f).b2wOf u = f (m.b2wOf u) := getD_modAt_same _ _ _ _

theorem Mod.b2wOf_of_b2w {m m' : Mod} (h : m'.b2w = m.b2w) (u : Nat) : m'.b2wOf u = m.b2wOf u := by
  unfold Mod.b2wOf
  rw [h]

theorem Mod.h2wTmos_of_hull {m m' : Mod} (h : m'.hull = m.hull) : m'.h2w.tmos = m.h2w.tmos ∧ m'.h2w.busyTo = m.h2w.busyTo := by
  have tmos := congrArg (fun x : Mod => x.h2w.tmos) h
  have busy := congrArg (fun x : Mod => x.h2w.busyTo) h
  exact ⟨tmos, busy⟩

/-- A change of a port that keeps its timeouts keeps the list of them all. -/
theorem tmos_modAt (l : List B2w) (u : Nat) (f : B2w → B2w) (hf : ∀ b, (f b).tmos = b.tmos) :
    (modAt {} l u f).flatMap (fun b => b.tmos) = l.flatMap (fun b => b.tmos) := by
  have empty : ∀ k, (modAt {} [] k f).flatMap (fun b => b.tmos) = [] := fun k => by
    induction k with
    | zero => simp [modAt, hf]
    | succ k ih => simpa [modAt] using ih
  induction l generalizing u with
  | nil => exact empty u
  | cons b r ih =>
    cases u with
    | zero => simp [modAt, hf]
    | succ u => simp [modAt, ih u]

/-- The two-wire ports' timeouts within 60 s (R462). -/
def Mod.lately (m : Mod) : Nat := ((m.h2w.tmos ++ m.b2w.flatMap (fun b => b.tmos)).filter (fun u => decide (m.tb < u + sec 60))).length

theorem Mod.lately_of_hull {m m' : Mod} (h : m'.hull = m.hull) : m'.lately = m.lately := by
  unfold Mod.lately
  rw [(Mod.h2wTmos_of_hull h).1, Mod.b2w_of_hull h, Mod.tb_of_hull h]

theorem Mod.lately_modB2w (m : Mod) (u : Nat) (f : B2w → B2w) (hf : ∀ b, (f b).tmos = b.tmos) : (m.modB2w u f).lately = m.lately := by
  have same := tmos_modAt m.b2w u f hf
  unfold Mod.lately Mod.modB2w
  dsimp only
  rw [same]

/-! ## The timeouts' source (R462, R476) -/

theorem Mod.tmoFault_eq (m : Mod) : m.tmoFault = m.when (10 ≤ m.lately) (·.raise 10 0) := by
  unfold Mod.tmoFault Mod.lately
  rfl

/-- Source 10:0 follows the tenth timeout, and nothing happens before it. -/
theorem Mod.tmoFault_frame (m : Mod) : m.tmoFault.hull = m.hull ∧ OnlyFams raiseFams m m.tmoFault ∧
    (10 ≤ m.lately → m.tmoFault.bitOf E.FLT_ACTIVE 10 0 = true) ∧ (m.lately < 10 → m.tmoFault = m) := by
  rw [Mod.tmoFault_eq]
  refine ⟨Mod.when_keeps Mod.hull _ (fun x => x.hull_raise 10 0 none) _ m, .when m _ (.raise m 10 0 none), fun h => ?_, fun h => ?_⟩
  · rw [Mod.when, if_pos (by simpa using h), Mod.raise_eq (cls := 1) m none (by decide)]
    exact m.raiseAs_bitOf 0 1 none (by decide)
  · rw [Mod.when, if_neg (by simpa using h)]

/-- A timeout of the HOST2W port (R462). -/
def Mod.windowTimeout (m : Mod) (k : Nat) : Mod := (m.h2wFlag k).modH2w fun h => { h with tmos := recentTmos m.tb h.tmos, busyTo := m.tb + ms 10 }

theorem Mod.lineTimeout_window (m : Mod) (k : Nat) : m.lineTimeout k 0 = (m.windowTimeout k).tmoFault := by
  unfold Mod.lineTimeout Mod.windowTimeout
  rw [if_pos rfl]

theorem Mod.lineTimeout_window_frame (m : Mod) (k : Nat) :
    (m.lineTimeout k 0).bitOf E.H2W_FLAGS 0 k = true ∧ (m.lineTimeout k 0).h2w.busyTo = m.tb + ms 10 ∧
      (m.lineTimeout k 0).h2w.tmos = recentTmos m.tb m.h2w.tmos ∧
      (10 ≤ (m.lineTimeout k 0).lately → (m.lineTimeout k 0).bitOf E.FLT_ACTIVE 10 0 = true) ∧
      ((m.lineTimeout k 0).lately < 10 → SameOd [E.H2W_FLAGS.key 0] m (m.lineTimeout k 0) ∧ SameTimers [] m (m.lineTimeout k 0)) := by
  have flag : (m.windowTimeout k).bitOf E.H2W_FLAGS 0 k = true :=
    (Mod.bitOf_of_od (m := m.h2wFlag k) rfl _ _ _).trans (m.bitOf_setBit_same (f := E.H2W_FLAGS) k true (by decide))
  have od : SameOd [E.H2W_FLAGS.key 0] m (m.windowTimeout k) := fun j hj => m.odGet_setV_ne E.H2W_FLAGS 0 _ (by simpa using hj)
  have timers : SameTimers [] m (m.windowTimeout k) := .of_timers rfl
  have busy : (m.windowTimeout k).h2w.busyTo = m.tb + ms 10 := rfl
  have tmos : (m.windowTimeout k).h2w.tmos = recentTmos m.tb m.h2w.tmos := rfl
  rw [Mod.lineTimeout_window]
  generalize m.windowTimeout k = x at flag od timers busy tmos
  obtain ⟨hull, only, raised, quiet⟩ := x.tmoFault_frame
  rw [Mod.lately_of_hull hull]
  refine ⟨(only.bitOf _ _ _ (by decide +kernel)).trans flag, (Mod.h2wTmos_of_hull hull).2.trans busy, (Mod.h2wTmos_of_hull hull).1.trans tmos, raised,
    fun h => ?_⟩
  rw [quiet h]
  exact ⟨od, timers⟩

/-! ## Failed transactions (R465) -/

/-- What a failed poll or transaction leaves of a port, whatever else it does. -/
theorem Mod.pollFailed_frame (m : Mod) (u : Nat) : OnlyFams raiseFams m (m.pollFailed u) ∧ ((m.pollFailed u).b2wOf u).running = false ∧
    ((m.pollFailed u).b2wOf u).failed = (m.b2wOf u).failed + 1 ∧ ((m.pollFailed u).b2wOf u).tmos = (m.b2wOf u).tmos ∧
    (m.pollFailed u).lately = m.lately ∧ (2 ≤ (m.b2wOf u).failed → (m.pollFailed u).bitOf E.FLT_ACTIVE 10 1 = true) ∧
    (m.pollFailed u).bitOf E.FLT_ACTIVE 10 0 = m.bitOf E.FLT_ACTIVE 10 0 := by
  unfold Mod.pollFailed
  dsimp only
  generalize hx : (m.modB2w u fun b => { b with running := false, wrote := none, repeated := false, failed := (m.b2wOf u).failed + 1 }) = x
  have od : x.od = m.od := hx ▸ rfl
  have port : x.b2wOf u = { m.b2wOf u with running := false, wrote := none, repeated := false, failed := (m.b2wOf u).failed + 1 } := hx ▸ m.b2wOf_modB2w u _
  have late : x.lately = m.lately := hx ▸ m.lately_modB2w u _ fun _ => rfl
  have hull : (x.when (3 ≤ (m.b2wOf u).failed + 1) (·.raise 10 1)).hull = x.hull := Mod.when_keeps Mod.hull _ (fun y => y.hull_raise 10 1 none) _ x
  have after := (Mod.b2wOf_of_b2w (Mod.b2w_of_hull hull) u).trans port
  refine ⟨OnlyFams.trans (.of_od (.refl _ m) od) (.when x _ (.raise x 10 1 none)), by rw [after], by rw [after], by rw [after],
    (Mod.lately_of_hull hull).trans late, fun h => ?_, ?_⟩
  · rw [Mod.when, if_pos (by simpa using h), Mod.raise_eq (cls := 1) x none (by decide)]
    exact x.raiseAs_bitOf 1 1 none (by decide)
  · refine (Mod.when_keeps (fun y : Mod => y.bitOf E.FLT_ACTIVE 10 0) _ (fun y => ?_) _ x).trans (Mod.bitOf_of_od od _ _ _)
    exact y.raise_others 1 0 none (by decide) (by decide)

/-- What a failed transaction leaves (R465). -/
theorem Mod.b2wFail_frame (m : Mod) {u : Nat} (hu : u < 2) :
    (m.b2wFail u).n E.B2W_ERR_CNT u = inc32 (m.n E.B2W_ERR_CNT u) ∧ ((m.b2wFail u).b2wOf u).running = false ∧
      ((m.b2wFail u).b2wOf u).tmos = (m.b2wOf u).tmos ∧ (m.b2wFail u).lately = m.lately ∧
      (m.b2wFail u).bitOf E.FLT_ACTIVE 10 0 = m.bitOf E.FLT_ACTIVE 10 0 ∧ OnlyFams (E.B2W_ERR_CNT :: raiseFams) m (m.b2wFail u) ∧
      ((m.b2wOf u).repeated = false → (m.b2wFail u).deadline (.b2wRetry u) = some (max m.tb (m.b2wOf u).busyTo + ms 5) ∧
        SameOd [E.B2W_ERR_CNT.key u] m (m.b2wFail u)) ∧
      ((m.b2wOf u).repeated = true → ((m.b2wFail u).b2wOf u).failed = (m.b2wOf u).failed + 1 ∧
        (2 ≤ (m.b2wOf u).failed → (m.b2wFail u).bitOf E.FLT_ACTIVE 10 1 = true)) := by
  have apart : ∀ j < 2, E.B2W_ERR_CNT.key j ∉ raiseFams.flatMap Fam.keys ∧ E.FLT_ACTIVE.key 10 ≠ E.B2W_ERR_CNT.key j := by decide +kernel
  obtain ⟨errors, active⟩ := apart u hu
  have counted : (m.inc E.B2W_ERR_CNT u).n E.B2W_ERR_CNT u = inc32 (m.n E.B2W_ERR_CNT u) := m.n_inc_same hu
  have od : SameOd [E.B2W_ERR_CNT.key u] m (m.inc E.B2W_ERR_CNT u) := fun k hk => m.odGet_setV_ne E.B2W_ERR_CNT u _ (by simpa using hk)
  have fams : OnlyFams (E.B2W_ERR_CNT :: raiseFams) m (m.inc E.B2W_ERR_CNT u) := .setV (f := E.B2W_ERR_CNT) m u _ (by simp)
  have source : (m.inc E.B2W_ERR_CNT u).bitOf E.FLT_ACTIVE 10 0 = m.bitOf E.FLT_ACTIVE 10 0 := congrArg (bit · 0) (m.n_inc_ne active)
  have port : (m.inc E.B2W_ERR_CNT u).b2wOf u = m.b2wOf u := rfl
  have late : (m.inc E.B2W_ERR_CNT u).lately = m.lately := rfl
  have tb : (m.inc E.B2W_ERR_CNT u).tb = m.tb := rfl
  unfold Mod.b2wFail
  generalize m.inc E.B2W_ERR_CNT u = x at counted od fams source port late tb
  dsimp only
  rw [port]
  cases hr : (m.b2wOf u).repeated
  · rw [if_neg (by decide), tb]
    have again := x.b2wOf_modB2w u fun b => { b with running := false, repeated := true }
    have late' := x.lately_modB2w u (fun b => { b with running := false, repeated := true }) fun _ => rfl
    have od' : (x.modB2w u fun b => { b with running := false, repeated := true }).od = x.od := rfl
    generalize (x.modB2w u fun b => { b with running := false, repeated := true }) = y at again late' od'
    have at_ : ∀ d, (y.arm (.b2wRetry u) d).b2wOf u = { m.b2wOf u with running := false, repeated := true } := fun d =>
      again.trans (by rw [port])
    have same : ∀ d, (y.arm (.b2wRetry u) d).od = x.od := fun _ => od'
    refine ⟨?_, by rw [at_], by rw [at_], late'.trans late, (Mod.bitOf_of_od (same _) _ _ _).trans source, .of_od fams (same _),
      fun _ => ⟨Mod.deadline_arm_same _ _ _, .of_od od (same _)⟩, fun h => absurd h (by decide)⟩
    exact (SameOd.n (ks := []) (fun k _ => congrArg (odGet · k) (same _)) _ _ (by simp)).trans counted
  · rw [if_pos rfl]
    obtain ⟨only, running, failed, tmos, late', raised, source'⟩ := x.pollFailed_frame u
    rw [port] at failed tmos raised
    exact ⟨(only.n _ _ errors).trans counted, running, tmos, late'.trans late, source'.trans source,
      fams.trans (only.mono (List.subset_cons_self _ _)), fun h => absurd h (by decide), fun _ => ⟨failed, raised⟩⟩

/-! ## Line timeouts of a BAT2W port (R462) -/

/-- A timeout of a BAT2W port is flagged and noted. -/
def Mod.portTimeout (m : Mod) (u k : Nat) : Mod := (m.b2wFlag u k).modB2w u fun b => { b with tmos := recentTmos m.tb b.tmos }

theorem Mod.lineTimeout_port (m : Mod) {u : Nat} (k : Nat) (hu : u < 2) :
    m.lineTimeout k (u + 1) = (((m.portTimeout u k).tmoFault.when (k == 3) (·.emit (.busClear (u + 1)))).when
      ((((m.portTimeout u k).tmoFault.when (k == 3) (·.emit (.busClear (u + 1)))).b2wBusy u)) (·.b2wFail u)) := by
  unfold Mod.lineTimeout Mod.portTimeout
  rw [if_neg (by omega), if_pos (by omega), Nat.add_sub_cancel]

theorem Mod.lineTimeout_port_frame (m : Mod) {u : Nat} (k : Nat) (hu : u < 2) :
    (m.lineTimeout k (u + 1)).bitOf E.B2W_FLAGS u k = true ∧ ((m.lineTimeout k (u + 1)).b2wOf u).tmos = recentTmos m.tb (m.b2wOf u).tmos ∧
      ((m.lineTimeout k (u + 1)).b2wOf u).running = false ∧
      (10 ≤ (m.lineTimeout k (u + 1)).lately → (m.lineTimeout k (u + 1)).bitOf E.FLT_ACTIVE 10 0 = true) := by
  have apart : ∀ j < 2, E.B2W_FLAGS.key j ∉ raiseFams.flatMap Fam.keys ∧ E.B2W_FLAGS.key j ∉ (E.B2W_ERR_CNT :: raiseFams).flatMap Fam.keys := by
    decide +kernel
  obtain ⟨raises, fails⟩ := apart u hu
  have flag : (m.portTimeout u k).bitOf E.B2W_FLAGS u k = true :=
    (Mod.bitOf_of_od (m := m.b2wFlag u k) rfl _ _ _).trans (m.bitOf_setBit_same (f := E.B2W_FLAGS) k true hu)
  have tmos : ((m.portTimeout u k).b2wOf u).tmos = recentTmos m.tb (m.b2wOf u).tmos := congrArg B2w.tmos ((m.b2wFlag u k).b2wOf_modB2w u _)
  rw [m.lineTimeout_port k hu]
  generalize m.portTimeout u k = x at flag tmos
  obtain ⟨hull, only, raised, -⟩ := x.tmoFault_frame
  have port := Mod.b2wOf_of_b2w (Mod.b2w_of_hull hull) u
  have late := Mod.lately_of_hull hull
  generalize x.tmoFault = y at hull only raised port late
  have cleared : ∀ c : Bool, (y.when c (·.emit (.busClear (u + 1)))).od = y.od ∧ (y.when c (·.emit (.busClear (u + 1)))).b2w = y.b2w ∧
      (y.when c (·.emit (.busClear (u + 1)))).lately = y.lately := fun c => by cases c <;> exact ⟨rfl, rfl, rfl⟩
  obtain ⟨od, b2w, late'⟩ := cleared (k == 3)
  generalize y.when (k == 3) (·.emit (.busClear (u + 1))) = z at od b2w late'
  have port' := (Mod.b2wOf_of_b2w b2w u).trans port
  have flag' : z.bitOf E.B2W_FLAGS u k = true := (Mod.bitOf_of_od od _ _ _).trans ((only.bitOf _ _ _ raises).trans flag)
  have source : 10 ≤ z.lately → z.bitOf E.FLT_ACTIVE 10 0 = true := fun h =>
    (Mod.bitOf_of_od od _ _ _).trans (raised (by rwa [late', late] at h))
  cases hb : z.b2wBusy u
  · have idle : (z.b2wOf u).running = false := (Bool.or_eq_false_iff.1 hb).1
    exact ⟨flag', (congrArg B2w.tmos port').trans tmos, idle, source⟩
  · obtain ⟨-, running, tmos', late'', same, failed, -⟩ := z.b2wFail_frame hu
    refine ⟨(failed.bitOf _ _ _ fails).trans flag', tmos'.trans ((congrArg B2w.tmos port').trans tmos), running, fun h => ?_⟩
    exact same.trans (source (by rwa [Mod.when_true, late''] at h))

/-! ## Polls (R463) -/

/-- A port as a poll begins. -/
def B2w.polled (now : Nat) (b : B2w) : B2w :=
  { b with lastPoll := some now, wrote := none, repeated := false, arbTries := 0, failed := if b.wrote.isSome then 0 else b.failed }

/-- A poll whose time has come, at an idle port. -/
theorem Mod.pollAfter_starts (m : Mod) {u span : Nat} (hr : m.b2wReady u = true)
    (hl : (match (m.b2wOf u).lastPoll with | none => true | some t => decide (t + span ≤ m.tb)) = true) :
    m.pollAfter u span = (m.modB2w u (B2w.polled m.tb)).blockRead u := by
  unfold Mod.pollAfter
  exact if_pos (by rw [hr, Bool.true_and]; exact hl)

/-- What a poll that starts leaves. -/
theorem Mod.pollStarted_frame (m : Mod) (u : Nat) {x : Mod} (hx : x = (m.modB2w u (B2w.polled m.tb)).blockRead u) :
    x.out = m.out ++ [.twoWire (u + 1) (m.n E.B2W_TARGET u) [0x30]] ∧ (x.b2wOf u).running = true ∧ (x.b2wOf u).lastPoll = some m.tb ∧
      (x.b2wOf u).failed = (if (m.b2wOf u).wrote.isSome then 0 else (m.b2wOf u).failed) ∧ (x.b2wOf u).wrote = none ∧ x.od = m.od ∧
      x.timers = m.timers := by
  have port : x.b2wOf u = { B2w.polled m.tb (m.b2wOf u) with running := true } := by
    rw [hx]
    refine ((m.modB2w u (B2w.polled m.tb)).b2wOf_modB2w u fun b => { b with running := true }).trans ?_
    rw [Mod.b2wOf_modB2w]
  rw [port, hx]
  exact ⟨rfl, rfl, rfl, rfl, rfl, rfl, rfl⟩

theorem Mod.b2wReady_lt {m : Mod} {u : Nat} (h : m.b2wReady u = true) : u < 2 := by
  unfold Mod.b2wReady at h
  simp only [Bool.and_eq_true, decide_eq_true_eq] at h
  exact h.1.1.1.1

/-- Counting an edge of BALERT leaves the port ready. -/
theorem Mod.b2wReady_counted (m : Mod) {u : Nat} (h : m.b2wReady u = true) : (m.inc E.BALERT_CNT u).b2wReady u = true := by
  have apart : ∀ j < 2, E.BMS_SRC.key 0 ≠ E.BALERT_CNT.key j := by decide +kernel
  have src : (m.inc E.BALERT_CNT u).n E.BMS_SRC 0 = m.n E.BMS_SRC 0 := m.n_inc_ne (apart u (Mod.b2wReady_lt h))
  unfold Mod.b2wReady at h ⊢
  rw [src]
  exact h

/-! ## The end of a Block Read (R463 to R465) -/

/-- The flags that a Block Read raises. -/
def Mod.blockFlags (m : Mod) (u : Nat) (x : BmsBlock) : Mod :=
  ((m.when x.nack (·.b2wFlag u 4)).when (m.b E.B2W_PEC u && !x.pecOk) (·.b2wFlag u 5)).when x.stretch (·.b2wFlag u 6)

theorem Mod.blockFlags_frame (m : Mod) (u : Nat) (x : BmsBlock) : SameOd [E.B2W_FLAGS.key u] m (m.blockFlags u x) ∧
    (m.blockFlags u x).b2w = m.b2w ∧ (m.blockFlags u x).tb = m.tb ∧ (m.blockFlags u x).timers = m.timers := by
  have flag : ∀ (y : Mod) (c : Bool) (k : Nat), SameOd [E.B2W_FLAGS.key u] y (y.when c (·.b2wFlag u k)) ∧ (y.when c (·.b2wFlag u k)).b2w = y.b2w ∧
      (y.when c (·.b2wFlag u k)).tb = y.tb ∧ (y.when c (·.b2wFlag u k)).timers = y.timers := fun y c k => by
    cases c
    · exact ⟨.refl _ y, rfl, rfl, rfl⟩
    · exact ⟨fun j hj => y.odGet_setV_ne E.B2W_FLAGS u _ (by simpa using hj), rfl, rfl, rfl⟩
  obtain ⟨od, b2w, tb, timers⟩ := flag m x.nack 4
  obtain ⟨od', b2w', tb', timers'⟩ := flag (m.when x.nack (·.b2wFlag u 4)) (m.b E.B2W_PEC u && !x.pecOk) 5
  obtain ⟨od'', b2w'', tb'', timers''⟩ := flag ((m.when x.nack (·.b2wFlag u 4)).when (m.b E.B2W_PEC u && !x.pecOk) (·.b2wFlag u 5)) x.stretch 6
  exact ⟨(od.trans od').trans od'', b2w''.trans (b2w'.trans b2w), tb''.trans (tb'.trans tb), timers''.trans (timers'.trans timers)⟩

/-- A Block Read that fails. -/
theorem Mod.blockDone_fails (m : Mod) {u : Nat} {x : BmsBlock} (hr : (m.b2wOf u).running = true)
    (hx : x.nack = true ∨ (m.b E.B2W_PEC u = true ∧ x.pecOk = false) ∨ x.stretch = true ∨ x.tmo = true ∨ x.count ≠ 12) :
    m.blockDone u x = (m.blockFlags u x).b2wFail u := by
  have failed : (x.nack || (m.b E.B2W_PEC u && !x.pecOk) || x.stretch || x.tmo || x.count != 12) = true := by
    simp only [Bool.or_eq_true, Bool.and_eq_true, Bool.not_eq_true', bne_iff_ne]
    tauto
  unfold Mod.blockDone
  dsimp only
  rw [if_neg (by simp [hr]), if_pos failed]
  rfl

theorem Mod.blockDone_fails_frame (m : Mod) {u : Nat} {x : BmsBlock} (hu : u < 2) (hr : (m.b2wOf u).running = true)
    (hx : x.nack = true ∨ (m.b E.B2W_PEC u = true ∧ x.pecOk = false) ∨ x.stretch = true ∨ x.tmo = true ∨ x.count ≠ 12) :
    (m.blockDone u x).n E.B2W_ERR_CNT u = inc32 (m.n E.B2W_ERR_CNT u) ∧ ((m.blockDone u x).b2wOf u).running = false ∧
      ((m.b2wOf u).repeated = false → (m.blockDone u x).deadline (.b2wRetry u) = some (max m.tb (m.b2wOf u).busyTo + ms 5) ∧
        SameOd [E.B2W_ERR_CNT.key u, E.B2W_FLAGS.key u] m (m.blockDone u x)) ∧
      ((m.b2wOf u).repeated = true → ((m.blockDone u x).b2wOf u).failed = (m.b2wOf u).failed + 1 ∧
        (2 ≤ (m.b2wOf u).failed → (m.blockDone u x).bitOf E.FLT_ACTIVE 10 1 = true)) := by
  have apart : ∀ j < 2, E.B2W_ERR_CNT.key j ≠ E.B2W_FLAGS.key j := by decide +kernel
  obtain ⟨od, b2w, tb, -⟩ := m.blockFlags_frame u x
  rw [m.blockDone_fails hr hx]
  generalize m.blockFlags u x = y at od b2w tb
  have port := Mod.b2wOf_of_b2w b2w u
  obtain ⟨errors, running, -, -, -, -, again, ended⟩ := y.b2wFail_frame hu
  rw [port] at again ended
  refine ⟨errors.trans (congrArg inc32 (od.n _ _ (by simpa using apart u hu))), running, fun h => ⟨(again h).1.trans (by rw [tb]), ?_⟩, ended⟩
  exact (od.mono (by simp)).trans ((again h).2.mono (by simp))

/-- A Block Read that brings a state of charge alone. -/
theorem Mod.blockDone_soc (m : Mod) {u w : Nat} {x : BmsBlock} (hr : (m.b2wOf u).running = true) (hs : m.n E.BMS_SRC 0 = u + 1)
    (hn : x.nack = false) (hp : m.b E.B2W_PEC u = true → x.pecOk = true) (ht : x.stretch = false) (ho : x.tmo = false) (hc : x.count = 12)
    (hw : x.words = [0xFFFF, 0xFFFF, 0xFFFF, 0xFFFF, w, 0xFFFF]) (hw' : w ≤ 10000) :
    m.blockDone u x =
      ((((m.modB2w u fun b => { b with running := false, repeated := false }).setN E.BMS_SOC 0 (f32OfRat (dec 1 2 * w))).bmsSettle).writeWord u) := by
  have pec : (m.b E.B2W_PEC u && !x.pecOk) = false := by
    cases h : m.b E.B2W_PEC u
    · rfl
    · rw [hp h]
      rfl
  have plain : m.blockFlags u x = m := by
    unfold Mod.blockFlags
    rw [hn, pec, ht]
    rfl
  have range : E.BMS_SOC.inRange (.num (f32OfRat (dec 1 2 * w))) = true := by
    have cent : dec 1 2 = 1 / 100 := by rw [dec, Rat.mkRat_eq_div]; norm_num
    have number : (w : Rat) ≤ 10000 := by exact_mod_cast hw'
    have nonneg : (0 : Rat) ≤ w := by positivity
    obtain ⟨finite, low, high⟩ := f32OfRat_bounds (q := dec 1 2 * w) (by rw [cent]; positivity) (by rw [cent]; linarith)
    have ends : f32Round (mkRat 0 1) = 0 ∧ f32Round (mkRat 100 1) = 100 := by decide +kernel
    unfold Fam.inRange
    change (f32Finite _ && [(mkRat 0 1, mkRat 100 1)].any _) = true
    rw [finite, Bool.true_and, List.any_cons, ends.1, ends.2]
    simp [low, high]
  have skip : ∀ (y : Mod) (f : Fam × Rat × Option Nat), y.blockField (0xFFFF, f) = y := fun y f => by
    unfold Mod.blockField
    exact if_pos rfl
  have field : ∀ y : Mod, y.blockField (w, E.BMS_SOC, dec 1 2, none) = y.setN E.BMS_SOC 0 (f32OfRat (dec 1 2 * w)) := fun y => by
    unfold Mod.blockField
    dsimp only
    rw [if_neg (by omega), show (if E.BMS_SOC.ty = Ty.f32 then f32OfRat (dec 1 2 * w) else w) = f32OfRat (dec 1 2 * w) from if_pos rfl,
      if_neg (by rw [range]; decide)]
    rfl
  have eq : m.blockDone u x = ((((fit 6 x.words).zip blockFields).foldl Mod.blockField
      ((m.blockFlags u x).modB2w u fun b => { b with running := false, repeated := false })).bmsSettle).writeWord u := by
    have src : ((m.blockFlags u x).modB2w u fun b => { b with running := false, repeated := false }).n E.BMS_SRC 0 = u + 1 := by
      rw [plain]
      exact hs
    unfold Mod.blockDone
    dsimp only
    rw [if_neg (by simp [hr]), if_neg (by simp [hn, pec, ht, ho, hc])]
    exact if_neg (not_not.2 src)
  rw [eq, plain, hw]
  change (([(0xFFFF, E.BMS_ICHG, dec 1 1, some 0), (0xFFFF, E.BMS_IDIS, dec 1 1, some 1), (0xFFFF, E.BMS_VMAX, dec 1 1, some 2),
    (0xFFFF, E.BMS_VMIN, dec 1 1, some 3), (w, E.BMS_SOC, dec 1 2, none), (0xFFFF, E.BMS_FLAGS, 1, some 4)] : List (Nat × Fam × Rat × Option Nat)).foldl
    Mod.blockField _).bmsSettle.writeWord u = _
  rw [List.foldl_cons, List.foldl_cons, List.foldl_cons, List.foldl_cons, List.foldl_cons, List.foldl_cons, List.foldl_nil, skip, skip, skip, skip, field, skip]

/-- Settling the age of the limits leaves the ports and the time as they are. -/
theorem Mod.bmsSettle_ports (m : Mod) : m.bmsSettle.b2w = m.b2w ∧ m.bmsSettle.tb = m.tb := by
  have ended : ∀ x : Mod, x.wakeEnd.b2w = x.b2w ∧ x.wakeEnd.tb = x.tb := fun _ => ⟨rfl, rfl⟩
  have stale : ∀ x : Mod, ((x.inc E.BMS_STALE_CNT 0).alertSet 5).b2w = x.b2w ∧ ((x.inc E.BMS_STALE_CNT 0).alertSet 5).tb = x.tb := fun _ => ⟨rfl, rfl⟩
  have fresh : ∀ (x : Mod) (v : Nat), (x.setFresh v).b2w = x.b2w ∧ (x.setFresh v).tb = x.tb := fun x v => by
    unfold Mod.setFresh
    exact ⟨(Mod.when_keeps Mod.b2w _ (fun y => (ended y).1) _ _).trans (Mod.when_keeps Mod.b2w _ (fun y => (stale y).1) _ _),
      (Mod.when_keeps Mod.tb _ (fun y => (ended y).2) _ _).trans (Mod.when_keeps Mod.tb _ (fun y => (stale y).2) _ _)⟩
  exact fresh m _

/-- What a Block Read that brings a state of charge leaves. -/
theorem Mod.socBlock_frame (m : Mod) {u v : Nat} (hu : u < 2) {y : Mod}
    (hy : y = (((m.modB2w u fun b => { b with running := false, repeated := false }).setN E.BMS_SOC 0 v).bmsSettle).writeWord u) :
    OnlyFams (E.BMS_SOC :: settleFams) m y ∧ y.n E.BMS_SOC 0 = v ∧ (y.b2wOf u).running = false ∧ (y.b2wOf u).wrote = some m.tb ∧
      y.out.contains (.twoWire (u + 1) (m.n E.B2W_TARGET u) y.flagsWord) = true := by
  have apart : ∀ j < 2, E.B2W_TARGET.key j ∉ (E.BMS_SOC :: settleFams).flatMap Fam.keys := by decide +kernel
  generalize hx : (m.modB2w u fun b => { b with running := false, repeated := false }).setN E.BMS_SOC 0 v = x at hy
  have put : OnlyFams (E.BMS_SOC :: settleFams) m x :=
    hx ▸ OnlyFams.trans (b := m.modB2w u fun b => { b with running := false, repeated := false }) (fun _ _ => rfl) (.setV (f := E.BMS_SOC) _ 0 _ (by simp))
  have charge : x.n E.BMS_SOC 0 = v := hx ▸ Mod.n_setN_same _ v (by decide)
  have port : (x.b2wOf u).running = false := hx ▸ congrArg B2w.running (m.b2wOf_modB2w u _)
  have tb : x.tb = m.tb := hx ▸ rfl
  obtain ⟨settled, -⟩ := x.bmsSettle_frame
  obtain ⟨b2w, tb'⟩ := x.bmsSettle_ports
  generalize x.bmsSettle = z at settled b2w tb' hy
  have only : OnlyFams (E.BMS_SOC :: settleFams) m z := put.trans (settled.mono (List.subset_cons_self _ _))
  have written : (z.writeWord u).b2wOf u = { z.b2wOf u with wrote := some z.tb } := z.b2wOf_modB2w u _
  have out : (z.writeWord u).out = z.out ++ [.twoWire (u + 1) (z.n E.B2W_TARGET u) z.flagsWord] := rfl
  have od : (z.writeWord u).od = z.od := rfl
  have word : (z.writeWord u).flagsWord = z.flagsWord := rfl
  subst hy
  refine ⟨.of_od only od, ?_, ?_, ?_, ?_⟩
  · exact (settled.n _ _ (by decide +kernel)).trans charge
  · rw [written]
    exact (congrArg B2w.running (Mod.b2wOf_of_b2w b2w u)).trans port
  · rw [written]
    exact congrArg some (tb'.trans tb)
  · rw [out, word, only.n _ _ (apart u hu)]
    simp

/-! ## Lost arbitration (R466) -/

/-- Arbitration lost in a Block Read that may be tried again. -/
theorem Mod.arbLost_again (m : Mod) {u : Nat} (hu : u < 2) (hr : (m.b2wOf u).running = true) (ht : (m.b2wOf u).arbTries < 3) :
    m.arbLost u false = ((m.b2wFlag u 0).modB2w u fun b => { b with running := false, arbTries := b.arbTries + 1 }).arm (.b2wRetry u) (m.tb + us 50) := by
  unfold Mod.arbLost
  dsimp only
  rw [hr, if_neg (by omega), if_neg (by decide), if_neg (by simp)]
  exact if_pos ht

/-- Arbitration lost at a STOP ends the poll. -/
theorem Mod.arbLost_ends (m : Mod) {u : Nat} (hu : u < 2) (hr : (m.b2wOf u).running = true) :
    m.arbLost u true = (((m.b2wFlag u 1).inc E.B2W_ERR_CNT u).pollFailed u).modB2w u
      fun b => { b with busyTo := (((m.b2wFlag u 1).inc E.B2W_ERR_CNT u).pollFailed u).tb + ms 35 } := by
  unfold Mod.arbLost
  dsimp only
  rw [hr, if_neg (by omega), if_pos rfl]
  rfl

theorem Mod.arbLost_ends_frame (m : Mod) {u : Nat} (hu : u < 2) (hr : (m.b2wOf u).running = true) :
    OnlyFams (tripFams ++ [E.B2W_ERR_CNT, E.B2W_FLAGS]) m (m.arbLost u true) ∧ (m.arbLost u true).bitOf E.B2W_FLAGS u 1 = true ∧
      ((m.arbLost u true).b2wOf u).running = false ∧ ((m.arbLost u true).b2wOf u).failed = (m.b2wOf u).failed + 1 ∧
      (m.arbLost u true).n E.B2W_ERR_CNT u = inc32 (m.n E.B2W_ERR_CNT u) := by
  have apart : ∀ j < 2, E.B2W_FLAGS.key j ≠ E.B2W_ERR_CNT.key j ∧ E.B2W_ERR_CNT.key j ≠ E.B2W_FLAGS.key j ∧
      E.B2W_FLAGS.key j ∉ raiseFams.flatMap Fam.keys ∧ E.B2W_ERR_CNT.key j ∉ raiseFams.flatMap Fam.keys := by decide +kernel
  obtain ⟨flags, errors, flags', errors'⟩ := apart u hu
  rw [m.arbLost_ends hu hr]
  generalize hx : (m.b2wFlag u 1).inc E.B2W_ERR_CNT u = x
  have fams : OnlyFams (tripFams ++ [E.B2W_ERR_CNT, E.B2W_FLAGS]) m x :=
    hx ▸ (OnlyFams.setV (f := E.B2W_FLAGS) m u _ (by simp)).set (f := E.B2W_ERR_CNT) (by simp)
  have flag : x.bitOf E.B2W_FLAGS u 1 = true :=
    hx ▸ (congrArg (bit · 1) ((m.b2wFlag u 1).n_inc_ne flags)).trans (m.bitOf_setBit_same (f := E.B2W_FLAGS) 1 true hu)
  have counted : x.n E.B2W_ERR_CNT u = inc32 (m.n E.B2W_ERR_CNT u) :=
    hx ▸ ((m.b2wFlag u 1).n_inc_same hu).trans (congrArg inc32 (m.n_setV_ne _ _ _ _ _ errors))
  have port : x.b2wOf u = m.b2wOf u := hx ▸ rfl
  obtain ⟨only, running, failed, -⟩ := x.pollFailed_frame u
  generalize x.pollFailed u = y at only running failed
  have freed := y.b2wOf_modB2w u fun b => { b with busyTo := y.tb + ms 35 }
  have od : (y.modB2w u fun b => { b with busyTo := y.tb + ms 35 }).od = y.od := rfl
  generalize (y.modB2w u fun b => { b with busyTo := y.tb + ms 35 }) = z at freed od
  refine ⟨.of_od (fams.trans (only.mono fun f hf => List.mem_append_left _ (raiseFams_trip hf))) od,
    (Mod.bitOf_of_od od _ _ _).trans ((only.bitOf _ _ _ flags').trans flag), by rw [freed]; exact running, by rw [freed, ← port]; exact failed, ?_⟩
  exact (SameOd.n (ks := []) (fun k _ => congrArg (odGet · k) od) _ _ (by simp)).trans ((only.n _ _ errors').trans counted)

end Sys2Proof.Machine

namespace Sys2Proof

open Machine

/-- Settles O55: a timeout by its port, a poll by its Block Read, and each end of a transaction by its row. -/
theorem batteryBus : Obligations.BatteryBus := by
  unfold Obligations.BatteryBus
  refine ⟨?_, ?_, ?_, ?_, ?_, ?_, ?_, ?_⟩
  · intro t k c s ha
    refine ⟨?_, fun u hu => ?_⟩
    · rintro (⟨rfl, rfl⟩ | ⟨rfl, rfl⟩)
      · exact DoesM.intro (f := Mod.lineTimeout 2 0) rfl ha ((s.m.at t).lineTimeout_window_frame 2)
      · exact DoesM.intro (f := Mod.lineTimeout 3 0) rfl ha ((s.m.at t).lineTimeout_window_frame 3)
    · rintro (⟨rfl, rfl⟩ | ⟨rfl, rfl⟩)
      · exact DoesM.intro (f := Mod.lineTimeout 2 (u + 1)) rfl ha ((s.m.at t).lineTimeout_port_frame 2 hu)
      · exact DoesM.intro (f := Mod.lineTimeout 3 (u + 1)) rfl ha ((s.m.at t).lineTimeout_port_frame 3 hu)
  · intro t u s ha hr hl
    refine DoesM.intro (f := fun m => m.pollAfter u (ms (m.n E.B2W_POLL u))) rfl ha ?_
    have starts := (s.m.at t).pollAfter_starts (span := ms ((s.m.at t).n E.B2W_POLL u)) hr (by rw [show ((s.m.at t).b2wOf u).lastPoll = none from hl])
    obtain ⟨out, running, last, failed, wrote, od, timers⟩ := (s.m.at t).pollStarted_frame u starts
    exact ⟨out, running, last, failed, wrote, fun k _ => congrArg (odGet · k) od, .of_timers timers⟩
  · intro t u last s ha hr hl ht
    refine DoesM.intro (f := fun m => (m.inc E.BALERT_CNT u).pollAfter u (ms 10)) rfl ha ?_
    have hu := Mod.b2wReady_lt hr
    have apart : ∀ j < 2, E.B2W_TARGET.key j ≠ E.BALERT_CNT.key j := by decide +kernel
    have starts := ((s.m.at t).inc E.BALERT_CNT u).pollAfter_starts (span := ms 10) ((s.m.at t).b2wReady_counted hr)
      (by rw [show (((s.m.at t).inc E.BALERT_CNT u).b2wOf u).lastPoll = some last from hl]; exact decide_eq_true ht)
    have counted : ((s.m.at t).inc E.BALERT_CNT u).n E.BALERT_CNT u = inc32 ((s.m.at t).n E.BALERT_CNT u) := Mod.n_inc_same _ hu
    have target : ((s.m.at t).inc E.BALERT_CNT u).n E.B2W_TARGET u = (s.m.at t).n E.B2W_TARGET u := Mod.n_inc_ne _ (apart u hu)
    have edge : SameOd [E.BALERT_CNT.key u] (s.m.at t) ((s.m.at t).inc E.BALERT_CNT u) := fun k hk =>
      (s.m.at t).odGet_setV_ne E.BALERT_CNT u _ (by simpa using hk)
    obtain ⟨out, -, poll, -, -, od, -⟩ := ((s.m.at t).inc E.BALERT_CNT u).pollStarted_frame u starts
    refine ⟨(SameOd.n (ks := []) (fun k _ => congrArg (odGet · k) od) _ _ (by simp)).trans counted, ?_, poll, .of_od edge od⟩
    rw [out, target]
    rfl
  · intro t u w x s ha hu hr hs hn hp ht ho hc hw hw'
    refine DoesM.intro (f := Mod.blockDone u x) rfl ha ?_
    obtain ⟨only, charge, running, wrote, word⟩ := (s.m.at t).socBlock_frame hu ((s.m.at t).blockDone_soc hr hs hn hp ht ho hc hw hw')
    refine ⟨only.mono ?_, charge, only.n _ _ (by decide +kernel), running, wrote, word⟩
    simp [settleFams]
  · exact fun t u x s ha hu hr hx => DoesM.intro (f := Mod.blockDone u x) rfl ha ((s.m.at t).blockDone_fails_frame hu hr hx)
  · intro t u s ha hd hs
    refine DoesM.intro (f := Mod.b2wRetry u) rfl ha ?_
    generalize hm : s.m.at t = m at hd
    have src : m.n E.BMS_SRC 0 = u + 1 := hm ▸ hs
    have out : m.out = [] := hm ▸ rfl
    have port : s.m.b2wOf u = m.b2wOf u := hm ▸ rfl
    have eq : m.b2wRetry u = if (m.b2wOf u).wrote.isSome then (m.disarm (.b2wRetry u)).writeWord u else (m.disarm (.b2wRetry u)).blockRead u := by
      unfold Mod.b2wRetry
      dsimp only
      rw [if_pos hd]
      exact if_neg (not_not.2 src)
    have timers : SameTimers [.b2wRetry u] m (m.disarm (.b2wRetry u)) := .disarm m (by simp)
    rw [eq]
    cases h : (m.b2wOf u).wrote with
    | none =>
      have running := congrArg B2w.running ((m.disarm (.b2wRetry u)).b2wOf_modB2w u fun b => { b with running := true })
      refine ⟨?_, fun _ => running, fun _ _ => rfl, timers.trans (.of_timers rfl)⟩
      exact (congrArg (· ++ [Out.twoWire (u + 1) (m.n E.B2W_TARGET u) [0x30]]) out).trans rfl
    | some b =>
      refine ⟨?_, fun h => absurd h (by simp), fun _ _ => rfl, timers.trans (.of_timers rfl)⟩
      exact (congrArg (· ++ [Out.twoWire (u + 1) (m.n E.B2W_TARGET u) m.flagsWord]) out).trans rfl
  · intro t u s ha hu hr ht
    refine DoesM.intro (f := Mod.arbLost u false) rfl ha ?_
    have flagged : ((s.m.at t).b2wFlag u 0).bitOf E.B2W_FLAGS u 0 = true := (s.m.at t).bitOf_setBit_same (f := E.B2W_FLAGS) 0 true hu
    have only : SameOd [E.B2W_FLAGS.key u] (s.m.at t) ((s.m.at t).b2wFlag u 0) := fun k hk => (s.m.at t).odGet_setV_ne E.B2W_FLAGS u _ (by simpa using hk)
    have timers : SameTimers [.b2wRetry u] (s.m.at t) ((s.m.at t).b2wFlag u 0) := .of_timers rfl
    rw [(s.m.at t).arbLost_again hu hr ht]
    generalize (s.m.at t).b2wFlag u 0 = x at flagged only timers
    have tried := x.b2wOf_modB2w u fun b => { b with running := false, arbTries := b.arbTries + 1 }
    have od : (x.modB2w u fun b => { b with running := false, arbTries := b.arbTries + 1 }).od = x.od := rfl
    have same : (x.modB2w u fun b => { b with running := false, arbTries := b.arbTries + 1 }).timers = x.timers := rfl
    generalize (x.modB2w u fun b => { b with running := false, arbTries := b.arbTries + 1 }) = y at tried od same
    have armed : ∀ d, (y.arm (.b2wRetry u) d).od = x.od ∧ (y.arm (.b2wRetry u) d).b2wOf u = y.b2wOf u := fun _ => ⟨od, rfl⟩
    refine ⟨(Mod.bitOf_of_od (armed _).1 _ _ _).trans flagged, by rw [(armed _).2, tried], Mod.deadline_arm_same _ _ _, .of_od only (armed _).1, ?_⟩
    exact (timers.trans (.of_timers same)).trans (.arm _ _ (by simp))
  · exact fun t u s ha hu hr => DoesM.intro (f := Mod.arbLost u true) rfl ha ((s.m.at t).arbLost_ends_frame hu hr)

end Sys2Proof
end

section
/-! PROOF. The transmitters of the links (R363 to R365), and the shape of the ring (R337 to R341, R354). -/

set_option Elab.async false

namespace Sys2Proof.Machine

open Sys2Proof

/-! ## What a transmitter leaves of a link -/

/-- A link without what its transmitter keeps. -/
def LinkS.receiver (x : LinkS) : LinkS := { x with used := [], freedOut := [], tx := none, turn := 0, deficit := [] }

/-- The links without what their transmitters keep. -/
def Mod.receivers (m : Mod) (l : Nat) : LinkS := (m.linkOf l).receiver

@[simp] theorem Mod.linkOf_modLink_same (m : Mod) (l : Nat) (f : LinkS → LinkS) : (m.modLink l f).linkOf l = f (m.linkOf l) := getD_modAt_same _ _ _ _

theorem Mod.linkOf_modLink_ne (m : Mod) {l j : Nat} (f : LinkS → LinkS) (h : j ≠ l) : (m.modLink l f).linkOf j = m.linkOf j :=
  getD_modAt_ne _ _ _ h

theorem Mod.receivers_modLink (m : Mod) (k : Nat) {f : LinkS → LinkS} (hf : ∀ x, (f x).receiver = x.receiver) : (m.modLink k f).receivers = m.receivers := by
  funext l
  unfold Mod.receivers
  by_cases h : l = k
  · rw [h, Mod.linkOf_modLink_same, hf]
  · rw [Mod.linkOf_modLink_ne m f h]

theorem Mod.receivers_of_net {m m' : Mod} (h : m'.net.links = m.net.links) : m'.receivers = m.receivers := by
  funext l
  unfold Mod.receivers Mod.linkOf
  rw [h]

theorem Mod.useCredit_receivers (m : Mod) (cls credits : Nat) (o : Out) : (m.useCredit cls credits o).receivers = m.receivers := by
  unfold Mod.useCredit
  split
  · rename_i c l _ _
    exact m.receivers_modLink l fun _ => rfl
  · rfl

theorem Mod.freeClass_receivers (m : Mod) (l cls credits : Nat) : (m.freeClass l cls credits).receivers = m.receivers := by
  unfold Mod.freeClass
  split
  · exact m.receivers_modLink l fun _ => rfl
  · rfl

theorem Mod.launch_receivers (m : Mod) (f : HeldF) : (m.launch f).receivers = m.receivers := by
  unfold Mod.launch
  split
  · rfl
  · rename_i k _
    dsimp only
    have sent : ∀ x : LinkS → LinkS, (∀ y, (x y).receiver = y.receiver) →
        ((m.useCredit f.cls f.credits (f.out.toLink k)).modLink k x).receivers = m.receivers := fun x hx =>
      (Mod.receivers_modLink _ k hx).trans (m.useCredit_receivers _ _ _)
    split
    · exact (Mod.freeClass_receivers _ _ _ _).trans (sent _ fun _ => rfl)
    · exact sent _ fun _ => rfl

theorem Mod.drrPick_receivers (k n : Nat) (m : Mod) : (Mod.drrPick k n m).1.receivers = m.receivers := by
  induction n generalizing m with
  | zero => rfl
  | succ n ih =>
    have turned : ∀ (x : Mod) (f : LinkS → LinkS), (∀ y, (f y).receiver = y.receiver) → x.receivers = m.receivers →
        (Mod.drrPick k n (x.modLink k f)).1.receivers = m.receivers := fun x f hf hx => (ih _).trans ((x.receivers_modLink k hf).trans hx)
    unfold Mod.drrPick
    dsimp only
    split
    · split
      · exact m.receivers_modLink k fun _ => rfl
      · exact turned m _ (fun _ => rfl) rfl
    · exact turned _ _ (fun _ => rfl) (m.receivers_modLink k fun _ => rfl)

theorem Mod.takeHeld_receivers (m : Mod) (f : HeldF) : (m.takeHeld f).receivers = m.receivers := by
  have left : ∀ x : Mod, (if f.via.isNone then x.dequeue f.cls else x).receivers = x.receivers := fun x => by
    split
    · exact Mod.receivers_of_net (congrArg Net.links (Mod.net_of_tidings (x.dequeue_tidings _)))
    · rfl
  exact (Mod.launch_receivers _ f).trans (left _)

/-! ## What a transmitter touches -/

theorem OnlyFams.takeHeld (m : Mod) (f : HeldF) : OnlyFams logFams m (m.takeHeld f) := by
  have left : ∀ x : Mod, OnlyFams logFams x (if f.via.isNone then x.dequeue f.cls else x) := fun x => by
    split
    · exact OnlyFams.trans (b := { x with queues := _ }) (fun _ _ => rfl) (.anyMarks _ _)
    · exact .refl _ x
  exact (OnlyFams.trans (b := { m with net := { m.net with held := m.net.held.erase f } }) (fun _ _ => rfl) (left _)).of_od (Mod.launch_keeps _ f).1

/-- A transmitter that serves what waits for it touches the queues' marks and the log's, and leaves the receivers. -/
theorem Mod.serveLink_frame (k n : Nat) (m : Mod) : OnlyFams logFams m (Mod.serveLink k n m) ∧ (Mod.serveLink k n m).receivers = m.receivers := by
  induction n generalizing m with
  | zero => exact ⟨.refl _ m, rfl⟩
  | succ n ih =>
    obtain ⟨od, -, -⟩ := Mod.drrPick_keeps k 40 m
    have same := Mod.drrPick_receivers k 40 m
    rw [Mod.serveLink]
    split
    · split
      · rename_i p f hp
        rw [hp] at od same
        change OnlyFams logFams m (Mod.serveLink k n (p.takeHeld f)) ∧ (Mod.serveLink k n (p.takeHeld f)).receivers = m.receivers
        obtain ⟨only, kept⟩ := ih (p.takeHeld f)
        exact ⟨((OnlyFams.of_od (.refl _ m) od).trans (.takeHeld p f)).trans only, kept.trans ((p.takeHeld_receivers f).trans same)⟩
      · rename_i p hp
        rw [hp] at od same
        exact ⟨.of_od (.refl _ m) od, same⟩
    · exact ⟨.refl _ m, rfl⟩

theorem Mod.creditFlush_frame (m : Mod) : OnlyFams logFams m m.creditFlush ∧ m.creditFlush.receivers = m.receivers ∧
    m.creditFlush.plant = m.plant := by
  have one : ∀ (x : Mod) (k : Nat), OnlyFams logFams x (x.serveOne k) ∧ (x.serveOne k).receivers = x.receivers := fun x k => Mod.serveLink_frame k _ x
  exact ⟨.foldl (fun x k => (one x k).1) _ m, foldl_keeps Mod.receivers _ (fun x k => (one x k).2) _ m,
    foldl_keeps Mod.plant _ (fun x k => x.plant_serveLink k _) _ m⟩

/-! ## Roles and the shape of the ring -/

/-- R265: an entry that is committed only where it changes. -/
def Mod.commitNew (m : Mod) (f : Fam) (v : Nat) : Mod := m.when (m.n f 0 != v) (·.commitN f 0 v)

theorem Mod.setRole_eq (m : Mod) (role idx gen : Nat) :
    m.setRole role idx gen = (((m.commitNew E.SHARE_ROLE role).commitNew E.SHARE_IDX idx).commitNew E.SHARE_GEN gen).when (role == 0)
      (fun m => (m.setQ E.LL_TRIM 0 0).modNet (fun x => { x with trimNext := none })) := rfl

theorem Mod.commitNew_frame {fs : List Fam} (m : Mod) {f : Fam} (v : Nat) (hf : f ∈ fs) : OnlyFams fs m (m.commitNew f v) ∧
    (m.commitNew f v).net = m.net ∧ (m.commitNew f v).out = m.out ∧ (m.commitNew f v).timers = m.timers := by
  unfold Mod.commitNew
  cases m.n f 0 != v
  · exact ⟨.refl _ m, rfl, rfl, rfl⟩
  · exact ⟨.of_od (x := m.setV f 0 (.num v)) (.setV m 0 _ hf) rfl, rfl, rfl, rfl⟩

/-- A change of the sharing role touches its entries, and the trim that waits. -/
theorem Mod.setRole_frame (m : Mod) (role idx gen : Nat) : OnlyFams roleFams m (m.setRole role idx gen) ∧
    (m.setRole role idx gen).net.links = m.net.links ∧ (m.setRole role idx gen).out = m.out ∧ (m.setRole role idx gen).timers = m.timers := by
  obtain ⟨a, an, ao, at_⟩ := m.commitNew_frame (fs := roleFams) (f := E.SHARE_ROLE) role (by simp [roleFams])
  obtain ⟨b, bn, bo, bt⟩ := (m.commitNew E.SHARE_ROLE role).commitNew_frame (fs := roleFams) (f := E.SHARE_IDX) idx (by simp [roleFams])
  obtain ⟨c, cn, co, ct⟩ := ((m.commitNew E.SHARE_ROLE role).commitNew E.SHARE_IDX idx).commitNew_frame (fs := roleFams) (f := E.SHARE_GEN) gen
    (by simp [roleFams])
  rw [Mod.setRole_eq]
  generalize ((m.commitNew E.SHARE_ROLE role).commitNew E.SHARE_IDX idx).commitNew E.SHARE_GEN gen = x at c cn co ct
  have net := congrArg Net.links (cn.trans (bn.trans an))
  have out := co.trans (bo.trans ao)
  have timers := ct.trans (bt.trans at_)
  have only := (a.trans b).trans c
  cases role == 0
  · exact ⟨only, net, out, timers⟩
  · exact ⟨.of_od (only.set (f := E.LL_TRIM) (i := 0) (v := .num (f32OfRat 0)) (by simp [roleFams])) rfl, net, out, timers⟩

/-- What the shape of the ring touches. -/
def shapeFams : List Fam := roleFams ++ [E.NET_FLAGS, E.NET_ROLE, E.NET_ADDR_P, E.RING_N]

theorem Mod.giveUpRoles_frame (m : Mod) : OnlyFams shapeFams m m.giveUpRoles ∧ m.giveUpRoles.net.links = m.net.links :=
  ⟨.of_od (x := (m.setN E.NET_ROLE 0 0).setBit E.NET_FLAGS 0 5 false)
    ((OnlyFams.setV (f := E.NET_ROLE) m 0 _ (by simp [shapeFams])).set (f := E.NET_FLAGS) (by simp [shapeFams])) rfl, rfl⟩

/-- R341: a module that is no head keeps nothing of a parent ring. -/
def Net.headless (x : Net) : Net := { x with parUp := none, parBeacon := none, parDepth := 0, aboveSegs := [] }

/-- R339 to R341: the links' roles decide whether the module ends a line, and heads a ring. -/
def Mod.ringHead (m : Mod) : Mod :=
  let own := m.upLinks 1
  let par := m.upLinks 2
  let m := m.setBit E.NET_FLAGS 0 2 (own.length == 1 || (m.bitOf E.NET_FLAGS 0 2 && !own.isEmpty))
  let m := m.when (!par.isEmpty && !m.fenced && !m.isHead) (fun m => m.giveUpRoles.setN E.NET_ROLE 0 2)
  m.when (par.isEmpty && m.isHead)
    (fun m => ((m.giveUpRoles).setN E.NET_ADDR_P 0 0xFFFF).modNet Net.headless)

/-- R248, R354: a ring of one lies alone; another one elects. -/
def Mod.ringSize (m : Mod) (alone : Bool) : Mod :=
  if alone then
    let m := (m.setN E.RING_N 0 1).modNet (fun x => { x with upstream := none })
    m.when (m.n E.SHARE_ROLE 0 == 1 || m.n E.SHARE_ROLE 0 == 2) (fun m => m.setRole 0 (m.n E.SHARE_IDX 0) (m.n E.SHARE_GEN 0))
  else m.modNet (fun x => { x with claimOpen := x.claimOpen || (m.n E.SHARE_ROLE 0 == 0 && m.n E.SHARE_IDX 0 != 0xFF) })

theorem Mod.ringShape_eq (m : Mod) : m.ringShape = m.ringHead.ringSize (m.upLinks 1).isEmpty := rfl

theorem Mod.ringHead_frame (m : Mod) : OnlyFams shapeFams m m.ringHead ∧ m.ringHead.net.links = m.net.links := by
  have lineEnd : ∀ (x : Mod) (c : Bool), OnlyFams shapeFams x (x.setBit E.NET_FLAGS 0 2 c) ∧ (x.setBit E.NET_FLAGS 0 2 c).net.links = x.net.links := fun x c =>
    ⟨.setV (f := E.NET_FLAGS) x 0 _ (by simp [shapeFams]), rfl⟩
  have heads : ∀ (x : Mod) (c : Bool), OnlyFams shapeFams x (x.when c fun m => m.giveUpRoles.setN E.NET_ROLE 0 2) ∧
      (x.when c fun m => m.giveUpRoles.setN E.NET_ROLE 0 2).net.links = x.net.links := fun x c => by
    cases c
    · exact ⟨.refl _ x, rfl⟩
    · exact ⟨x.giveUpRoles_frame.1.set (f := E.NET_ROLE) (by simp [shapeFams]), rfl⟩
  have leaves : ∀ (x : Mod) (c : Bool),
      OnlyFams shapeFams x (x.when c fun m => ((m.giveUpRoles).setN E.NET_ADDR_P 0 0xFFFF).modNet Net.headless) ∧
      (x.when c fun m => ((m.giveUpRoles).setN E.NET_ADDR_P 0 0xFFFF).modNet Net.headless).net.links = x.net.links := fun x c => by
    cases c
    · exact ⟨.refl _ x, rfl⟩
    · exact ⟨.of_od (x := x.giveUpRoles.setN E.NET_ADDR_P 0 0xFFFF) (x.giveUpRoles_frame.1.set (f := E.NET_ADDR_P) (by simp [shapeFams])) rfl, rfl⟩
  unfold Mod.ringHead
  exact ⟨((lineEnd _ _).1.trans (heads _ _).1).trans (leaves _ _).1,
    (leaves _ _).2.trans ((heads _ _).2.trans (lineEnd _ _).2)⟩

theorem Mod.ringSize_frame (m : Mod) (alone : Bool) : OnlyFams shapeFams m (m.ringSize alone) ∧ (m.ringSize alone).net.links = m.net.links := by
  have solo : ∀ (x : Mod) (c : Bool), OnlyFams shapeFams x (x.when c fun m => m.setRole 0 (m.n E.SHARE_IDX 0) (m.n E.SHARE_GEN 0)) ∧
      (x.when c fun m => m.setRole 0 (m.n E.SHARE_IDX 0) (m.n E.SHARE_GEN 0)).net.links = x.net.links := fun x c => by
    cases c
    · exact ⟨.refl _ x, rfl⟩
    · obtain ⟨only, links, -⟩ := x.setRole_frame 0 (x.n E.SHARE_IDX 0) (x.n E.SHARE_GEN 0)
      exact ⟨only.mono (List.subset_append_left _ _), links⟩
  cases alone
  · exact ⟨fun _ _ => rfl, rfl⟩
  · have one : OnlyFams shapeFams m ((m.setN E.RING_N 0 1).modNet fun x => { x with upstream := none }) :=
      .of_od (x := m.setN E.RING_N 0 1) (.setV (f := E.RING_N) m 0 _ (by simp [shapeFams])) rfl
    exact ⟨one.trans (solo _ _).1, (solo _ _).2⟩

theorem Mod.ringShape_frame (m : Mod) : OnlyFams shapeFams m m.ringShape ∧ m.ringShape.net.links = m.net.links := by
  rw [Mod.ringShape_eq]
  exact ⟨m.ringHead_frame.1.trans (Mod.ringSize_frame _ _).1, (Mod.ringSize_frame _ _).2.trans m.ringHead_frame.2⟩

end Sys2Proof.Machine
end

section
/-! PROOF. A frame that passes the checks of R367, and a module that becomes lantern (R354). -/

set_option Elab.async false

namespace Sys2Proof.Machine

open Sys2Proof

/-! ## Entries of other subindices -/

/-- An entry whose subindex no touched family has is as it was, whatever its instance. -/
theorem OnlyFams.n_sub {fs : List Fam} {a b : Mod} (h : OnlyFams fs a b) {f : Fam} (i : Nat) (hs : ∀ g ∈ fs, g.sub % 256 ≠ f.sub % 256) :
    b.n f i = a.n f i := by
  refine SameOd.n h f i fun hk => ?_
  obtain ⟨g, hg, hk⟩ := List.mem_flatMap.1 hk
  obtain ⟨j, -, hj⟩ := List.mem_map.1 hk
  have same := congrArg (· % 256) hj
  simp only [Fam.key] at same
  exact hs g hg (by omega)

/-! ## Frames that pass -/

/-- Step 8 of R367: the latest EPOCH_LO and SEQ of an originator and class. -/
def Net.received (h : Hdr) (who : Nat) (x : Net) : Net :=
  { x with rx := ((who, h.cls), (h.epochLo, h.seq)) :: x.rx.filter (fun y => y.1 != (who, h.cls)) }

/-- The module as it has consumed a frame that came by link `l`. -/
def Mod.takenIn (m : Mod) (h : Hdr) (l who : Nat) : Mod :=
  ((((((m.heard l).freeEnded l h).gapsHere h).through (8 + h.cls) h.bytes h.src h.seq).inc E.CLS_RX h.cls).modNet (Net.received h who))

/-- What the checks of a frame have changed before they look at it: only what the links' receivers and credits keep. -/
theorem Mod.heard_freed (m : Mod) (h : Hdr) (l : Nat) : ∃ ls, (m.heard l).freeEnded l h = { m with net := { m.net with links := ls } } := by
  have freed : ∀ x : Mod, ∃ ls, x.freeCredits l h = { x with net := { x.net with links := ls } } := fun x => by
    unfold Mod.freeCredits Mod.freeClass
    split
    · exact ⟨_, rfl⟩
    · exact ⟨x.net.links, rfl⟩
  unfold Mod.freeEnded Mod.when
  split
  · exact freed (m.heard l)
  · exact ⟨_, rfl⟩

theorem PassesBy.cls {m : Mod} {h : Hdr} {typ : Nat} {ln : Option Nat} {who : Nat} (p : PassesBy m h typ ln who) : typeClass typ = some h.cls := by
  obtain ⟨ok, rfl, -⟩ := p.header
  unfold headerOk at ok
  simp only [Bool.and_eq_true, beq_iff_eq] at ok
  exact ok.1.1.1.2

theorem Mod.frameCheckBy_passes {m : Mod} {h : Hdr} {typ : Nat} {ln : Option Nat} {who : Nat} (p : PassesBy m h typ ln who) :
    m.frameCheckBy h typ ln who = (m.takenIn h (ln.getD h.via) who, true) := by
  obtain ⟨ok, type, hops⟩ := p.header
  obtain ⟨key, held⟩ := p.key
  obtain ⟨k, hk⟩ := Option.isSome_iff_exists.1 held
  have ring : (if m.fromParent h ln = true then m.keys.par else m.keys.own) = some k := (key.symm.trans hk)
  unfold Mod.frameCheckBy Mod.takenIn
  dsimp only
  rw [if_neg (by rw [p.fcs]; decide), if_neg (by rw [p.up]; decide)]
  obtain ⟨ls, e⟩ := m.heard_freed h (ln.getD h.via)
  rw [e]
  generalize hx : ({ m with net := { m.net with links := ls } } : Mod) = x
  have kept : x.fromParent h ln = m.fromParent h ln ∧ x.keys = m.keys ∧ x.fresh who h = m.fresh who h ∧ x.net.parLgen = m.net.parLgen ∧
      x.n E.LGEN 0 = m.n E.LGEN 0 ∧ x.superseded h = m.superseded h ∧ x.queueFull (8 + h.cls) h.bytes = m.queueFull (8 + h.cls) h.bytes := by
    rw [← hx]; exact ⟨rfl, rfl, rfl, rfl, rfl, rfl, rfl⟩
  obtain ⟨par, keys, fresh, parGen, ownGen, fenced, full⟩ := kept
  have stale : ¬ (!staleExempt typ && x.superseded h) = true := by
    rw [fenced]
    rcases p.gen with g | g <;> simp [g]
  have old : ¬ (h.lant && newer (if m.fromParent h ln = true then m.net.parLgen else m.n E.LGEN 0) h.gen) = true := by
    simpa using p.lgen
  rw [if_neg (by simp [ok, type, hops]), par, keys, parGen, ownGen, ring]
  dsimp only
  rw [if_neg (by simp [hk]), if_neg (by simp [fresh, p.replay]), if_neg old, if_neg stale, Mod.consume, if_neg (by simp [full, p.room])]
  rfl

/-- A frame that passes has its effect on the module as it has consumed it. -/
theorem Mod.onFrame_passes {m : Mod} {h : Hdr} {typ : Nat} {ln : Option Nat} (f : Mod → Mod) (p : Passes m h typ ln) :
    m.onFrame h typ ln f = f (m.takenIn h (ln.getD h.via) (originator h (ln.getD 0))) := by
  unfold Mod.onFrame Mod.frameCheck
  rw [Mod.frameCheckBy_passes p]

/-- A frame that is consumed touches the marks of its queue and its class's count, and the network keeps what its links and its latest SEQ
tell. -/
theorem Mod.takenIn_frame (m : Mod) {h : Hdr} (l who : Nat) (hc : h.cls ≠ 6) (h8 : h.cls < 8) :
    OnlyFams (E.CLS_RX :: markFams) m (m.takenIn h l who) ∧ (m.takenIn h l who).plant = m.plant ∧ (m.takenIn h l who).out = m.out ∧
      ∃ ls, (m.takenIn h l who).net = Net.received h who { m.net with links := ls } := by
  have gaps : ∀ x : Mod, x.gapsHere h = x := fun x => by rw [Mod.gapsHere, if_neg hc]
  obtain ⟨ls, e⟩ := m.heard_freed h l
  unfold Mod.takenIn
  rw [gaps, e]
  generalize hx : ({ m with net := { m.net with links := ls } } : Mod) = x
  have same : x.od = m.od ∧ x.plant = m.plant ∧ x.tidings = (m.out, { m.net with links := ls }) := by rw [← hx]; exact ⟨rfl, rfl, rfl⟩
  obtain ⟨od, plant, tidings⟩ := same
  have marked := OnlyFams.through x (q := 8 + h.cls) h.bytes h.src h.seq (by omega)
  have kept : (x.through (8 + h.cls) h.bytes h.src h.seq).tidings = x.tidings := (Mod.dequeue_tidings _ _).trans (Mod.enqueue_tidings _ _ _ _ _)
  have place : (x.through (8 + h.cls) h.bytes h.src h.seq).plant = x.plant := (Mod.plant_dequeue _ _).trans (Mod.plant_enqueue _ _ _ _ _)
  generalize x.through (8 + h.cls) h.bytes h.src h.seq = y at marked kept place
  have all : OnlyFams (E.CLS_RX :: markFams) m y := OnlyFams.trans (b := x) (.of_od (.refl _ m) od) (marked.mono (List.subset_cons_self _ _))
  refine ⟨.of_od (x := y.inc E.CLS_RX h.cls) (all.set (f := E.CLS_RX) (by simp)) rfl, place.trans plant, ?_, ls, ?_⟩
  · exact (Mod.out_of_tidings kept).trans (congrArg Prod.fst tidings)
  · exact congrArg (Net.received h who) ((Mod.net_of_tidings kept).trans (congrArg Prod.snd tidings))

/-! ## A module that becomes lantern -/

@[simp] theorem Mod.commitPlace_od (m : Mod) (key v : Nat) : (m.commitPlace key v).od = m.od := by
  unfold Mod.commitPlace
  dsimp only
  split <;> rfl

@[simp] theorem Mod.commitPlace_tidings (m : Mod) (key v : Nat) : (m.commitPlace key v).tidings = m.tidings := by
  unfold Mod.commitPlace
  dsimp only
  split <;> rfl

/-- What a module that becomes lantern of its own ring touches. -/
def leadFams : List Fam := [E.LANT_ADDR, E.LGEN, E.NET_ADDR, E.NET_FLAGS, E.NET_ROLE, E.RING_ENV, E.SHARE_FLAGS]

/-- The entries of a lantern of its own ring (R348, R354). -/
def Mod.lanternShown (m : Mod) : Mod :=
  let m := (m.setN E.NET_ROLE 0 1).setN E.LANT_ADDR 0 (m.n E.NET_ADDR 0)
  let m := m.setN E.RING_ENV 0 (m.n E.FLEET_ENV 0)
  m.setBit E.SHARE_FLAGS 0 0 false

theorem Mod.lanternShown_frame (m : Mod) : OnlyFams leadFams m m.lanternShown ∧ m.lanternShown.n E.NET_ROLE 0 = 1 ∧
    m.lanternShown.n E.LGEN 0 = m.n E.LGEN 0 ∧ m.lanternShown.n E.LANT_ADDR 0 = m.lanternShown.n E.NET_ADDR 0 ∧
    m.lanternShown.n E.RING_ENV 0 = m.n E.FLEET_ENV 0 ∧ m.lanternShown.net = m.net := by
  unfold Mod.lanternShown
  dsimp only
  refine ⟨((((OnlyFams.setV (f := E.NET_ROLE) m 0 _ (by simp [leadFams])).set (f := E.LANT_ADDR) (by simp [leadFams])).set (f := E.RING_ENV)
    (by simp [leadFams])).set (f := E.SHARE_FLAGS) (by simp [leadFams])), ?_, ?_, ?_, ?_, rfl⟩ <;>
  simp (disch := decide) [Mod.setBit_eq, Mod.setN, Val.toNat]

theorem Mod.becomeLantern_own (m : Mod) (lgen : Nat) (h : m.isHead = false) : ∃ (n : Net) (ring stn : Nat) (g : Net → Net),
    m.becomeLantern lgen = ((({ m with net := n } : Mod).commitN E.LGEN 0 lgen).takeNumber ring stn).lanternShown.modNet g ∧
      ∀ x, (g x).claiming = false := by
  unfold Mod.becomeLantern
  dsimp only
  rw [if_neg (by rw [h]; decide)]
  exact ⟨_, _, _, _, rfl, fun _ => rfl⟩

theorem Mod.takeNumber_od (m : Mod) (ring stn : Nat) : (m.takeNumber ring stn).od = (m.setN E.NET_ADDR 0 (nodeAddr ring stn)).od :=
  Mod.commitPlace_od _ _ _

/-- A module that becomes lantern of its own ring touches its entries, of which this tells what they then show. -/
theorem Mod.becomeLantern_frame (m : Mod) (lgen : Nat) (h : m.isHead = false) : OnlyFams leadFams m (m.becomeLantern lgen) ∧
    (m.becomeLantern lgen).n E.NET_ROLE 0 = 1 ∧ (m.becomeLantern lgen).n E.LGEN 0 = lgen ∧
    (m.becomeLantern lgen).n E.LANT_ADDR 0 = (m.becomeLantern lgen).n E.NET_ADDR 0 ∧
    (m.becomeLantern lgen).n E.RING_ENV 0 = m.n E.FLEET_ENV 0 ∧ (m.becomeLantern lgen).net.claiming = false := by
  obtain ⟨n, ring, stn, g, e, ends⟩ := m.becomeLantern_own lgen h
  have committed : (({ m with net := n } : Mod).commitN E.LGEN 0 lgen).od = (m.setN E.LGEN 0 lgen).od := rfl
  have numbered := (({ m with net := n } : Mod).commitN E.LGEN 0 lgen).takeNumber_od ring stn
  generalize ({ m with net := n } : Mod).commitN E.LGEN 0 lgen = x at e committed numbered
  generalize x.takeNumber ring stn = y at e numbered
  have before : OnlyFams leadFams m y :=
    .of_od (x := x.setN E.NET_ADDR 0 (nodeAddr ring stn)) ((OnlyFams.of_od (.setV (f := E.LGEN) m 0 _ (by simp [leadFams])) committed).set
      (f := E.NET_ADDR) (by simp [leadFams])) numbered
  have same : ∀ (a b : Mod) (f : Fam), a.od = b.od → a.n f 0 = b.n f 0 := fun a b f h => by
    unfold Mod.n Mod.getV
    rw [h]
  have gen : y.n E.LGEN 0 = lgen := by
    rw [same _ _ _ numbered, Mod.n_setN_ne _ _ (by decide), same _ _ _ committed, Mod.n_setN_same _ _ (by decide)]
  have env : y.n E.FLEET_ENV 0 = m.n E.FLEET_ENV 0 := by
    rw [same _ _ _ numbered, Mod.n_setN_ne _ _ (by decide), same _ _ _ committed, Mod.n_setN_ne _ _ (by decide)]
  obtain ⟨only, role, lg, addr, ringEnv, -⟩ := y.lanternShown_frame
  rw [e]
  exact ⟨before.trans only, role, lg.trans gen, addr, ringEnv.trans env, ends _⟩

end Sys2Proof.Machine
end

section
/-! PROOF. Phases, slots, adding and shedding (R154 to R173): what each operation may touch. -/

set_option Elab.async false

namespace Sys2Proof.Machine

open Sys2Proof

/-! ## What the phases, groups and stages keep -/

/-- The module without its entries, its timers, and what its phases, groups and stages keep. -/
def Mod.yard (m : Mod) : Mod := { m.rest with phs := [], grp := [], stg := [] }

/-- Nothing changes but entries of these families, timers, and what the phases, groups and stages keep. -/
def AtPhases (fs : List Fam) (m m' : Mod) : Prop := OnlyFams fs m m' ∧ m'.yard = m.yard

theorem AtPhases.refl (fs : List Fam) (m : Mod) : AtPhases fs m m := ⟨.refl _ m, rfl⟩

theorem AtPhases.trans {fs : List Fam} {a b c : Mod} (h : AtPhases fs a b) (g : AtPhases fs b c) : AtPhases fs a c :=
  ⟨h.1.trans g.1, g.2.trans h.2⟩

theorem AtPhases.mono {fs gs : List Fam} {a b : Mod} (h : AtPhases fs a b) (hs : fs ⊆ gs) : AtPhases gs a b := ⟨h.1.mono hs, h.2⟩

theorem AtPhases.setV {fs : List Fam} (m : Mod) {f : Fam} (i : Nat) (v : Val) (hf : f ∈ fs) : AtPhases fs m (m.setV f i v) :=
  ⟨.setV m i v hf, rfl⟩

theorem AtPhases.set {fs : List Fam} {m x : Mod} (h : AtPhases fs m x) {f : Fam} {i : Nat} {v : Val} (hf : f ∈ fs) :
    AtPhases fs m (x.setV f i v) := h.trans (.setV x i v hf)

theorem AtPhases.modPh (fs : List Fam) (m : Mod) (p : Nat) (f : Ph → Ph) : AtPhases fs m (m.modPh p f) := ⟨fun _ _ => rfl, rfl⟩
theorem AtPhases.modGrp (fs : List Fam) (m : Mod) (k : Nat) (f : Grp → Grp) : AtPhases fs m (m.modGrp k f) := ⟨fun _ _ => rfl, rfl⟩
theorem AtPhases.modStg (fs : List Fam) (m : Mod) (g : Nat) (f : Stg → Stg) : AtPhases fs m (m.modStg g f) := ⟨fun _ _ => rfl, rfl⟩
theorem AtPhases.arm (fs : List Fam) (m : Mod) (T : Tmr) (d : Nat) : AtPhases fs m (m.arm T d) := ⟨fun _ _ => rfl, rfl⟩
theorem AtPhases.disarm (fs : List Fam) (m : Mod) (T : Tmr) : AtPhases fs m (m.disarm T) := ⟨fun _ _ => rfl, rfl⟩

theorem AtPhases.foldl {fs : List Fam} {β : Type} {f : Mod → β → Mod} (hf : ∀ m b, AtPhases fs m (f m b)) (l : List β) (m : Mod) :
    AtPhases fs m (l.foldl f m) := by
  induction l generalizing m with
  | nil => exact .refl fs m
  | cons b r ih => exact (hf m b).trans (ih _)

theorem Mod.intents_of_yard {m m' : Mod} (h : m'.yard = m.yard) : m'.intents = m.intents := by
  have same := congrArg Mod.intents h
  exact same

theorem Mod.tb_of_yard {m m' : Mod} (h : m'.yard = m.yard) : m'.tb = m.tb := by
  have same := congrArg Mod.tb h
  exact same

theorem Mod.journal_of_yard {m m' : Mod} (h : m'.yard = m.yard) : m'.journal = m.journal := by
  have same := congrArg Mod.journal h
  exact same

/-! ## Slots and counts -/

/-- What the counts of the phases touch. -/
def countFams : List Fam := [E.STG_NACT, E.IN_PHASES]

theorem AtPhases.countPhases (m : Mod) : AtPhases countFams m m.countPhases := by
  have shown : ∀ (k v : Nat) (x : Mod), AtPhases countFams x (x.setN E.IN_PHASES k v) := fun k v x =>
    .setV (f := E.IN_PHASES) x k _ (by simp [countFams])
  exact (((AtPhases.refl _ m).set (f := E.STG_NACT) (by simp [countFams])).set (f := E.STG_NACT) (by simp [countFams])).trans
    (.foldl (fun x k => shown k _ x) _ _)

/-- What a change of the phases that hold slots touches. -/
def slotFams : List Fam := E.PH_SLOT :: countFams

theorem AtPhases.putSlots {fs : List Fam} (m : Mod) (order : List Nat) (hf : E.PH_SLOT ∈ fs) : AtPhases fs m (m.putSlots order) :=
  .foldl (f := fun (m : Mod) (x : Nat × Nat) => m.setN E.PH_SLOT x.1 x.2) (fun x b => .setV (f := E.PH_SLOT) x b.1 _ hf) _ m

theorem AtPhases.respace (m : Mod) (g : Nat) : AtPhases slotFams m (m.respace g) :=
  ((AtPhases.putSlots m _ (by simp [slotFams])).trans (.modStg _ _ g _)).trans ((AtPhases.countPhases _).mono (List.subset_cons_self _ _))

theorem AtPhases.joinGap {fs : List Fam} (m : Mod) (g p : Nat) (hf : E.PH_SLOT ∈ fs) : AtPhases fs m (m.joinGap g p) := by
  unfold Mod.joinGap
  dsimp only
  split
  · exact (AtPhases.setV (f := E.PH_SLOT) m p _ hf).trans (.modPh _ _ p _)
  · exact (AtPhases.modPh _ m p _).trans (.putSlots _ _ hf)

theorem AtPhases.atSlots (fs : List Fam) (m : Mod) (g : Nat) : AtPhases fs m (m.atSlots g) := .foldl (fun x p => .modPh _ x p _) _ m

/-! ## Adding -/

/-- What a phase that starts touches. -/
def addFams : List Fam := [E.PH_STATE, E.PH_ADDS, E.PH_IREF] ++ slotFams

/-- R163: what a phase that starts keeps. -/
def Ph.started (x : Ph) : Ph := { x with step := 0, fresh := true, aboveAdd := 0, peakRun := 0 }

/-- R163: a phase that starts, before spacing begins anew. -/
def Mod.phaseBegun (m : Mod) (p : Nat) : Mod :=
  let m := (((m.setN E.PH_STATE p 3).joinGap (stageOf p) p).inc E.PH_ADDS p).setQ E.PH_IREF p 0
  ((m.disarm (.arming p)).disarm (.armHold p)).modPh p Ph.started

theorem Mod.startPhase_eq (m : Mod) (p : Nat) : m.startPhase p = (m.phaseBegun p).respace (stageOf p) := rfl

theorem AtPhases.phaseBegun (m : Mod) (p : Nat) : AtPhases addFams m (m.phaseBegun p) := by
  have joined := ((AtPhases.setV (f := E.PH_STATE) m p (.num 3) (fs := addFams) (by simp [addFams])).trans
    (.joinGap (m.setN E.PH_STATE p 3) (stageOf p) p (by simp [addFams, slotFams])))
  exact (((((joined.set (f := E.PH_ADDS) (by simp [addFams])).set (f := E.PH_IREF) (by simp [addFams])).trans (.disarm _ _ _)).trans
    (.disarm _ _ _)).trans (.modPh _ _ _ _))

theorem AtPhases.startPhase (m : Mod) (p : Nat) : AtPhases addFams m (m.startPhase p) :=
  (AtPhases.phaseBegun m p).trans ((AtPhases.respace _ _).mono (List.subset_append_right _ _))

theorem AtPhases.addPhase (m : Mod) (p : Nat) : AtPhases addFams m (m.addPhase p) := by
  unfold Mod.addPhase
  split
  · exact .startPhase m p
  · split
    · exact .arm _ m _ _
    · exact .refl _ m

theorem AtPhases.addSequence (m : Mod) (k : Nat) (ps : List Nat) : AtPhases addFams m (m.addSequence k ps) := by
  unfold Mod.addSequence
  split
  · exact .refl _ m
  · exact ((AtPhases.modGrp _ m k _).trans (.foldl AtPhases.addPhase ps _)).trans (.modStg _ _ _ _)

theorem AtPhases.settleAdding (fs : List Fam) (m : Mod) (k : Nat) : AtPhases fs m (m.settleAdding k) := by
  unfold Mod.settleAdding
  split
  · exact .refl _ m
  · exact .modGrp _ m k _

/-! ## Shedding -/

theorem AtPhases.shareRef {fs : List Fam} (m : Mod) (k : Nat) (hf : E.PH_IREF ∈ fs) : AtPhases fs m (m.shareRef k) :=
  .foldl (fun x p => .setV (f := E.PH_IREF) x p _ hf) _ m

/-- What a shed that is cancelled touches. -/
def cancelFams : List Fam := [E.PH_STATE, E.PH_IREF, E.STG_SHED_CANCEL] ++ countFams

theorem AtPhases.shedCancel (m : Mod) (k : Nat) : AtPhases cancelFams m (m.shedCancel k) := by
  refine .foldl (fun x p => ?_) _ m
  split
  · dsimp only
    refine ((((((AtPhases.modGrp cancelFams x k _).set (f := E.PH_STATE) (by simp [cancelFams])).trans (.modPh _ _ p _)).set
      (f := E.STG_SHED_CANCEL) (by simp [cancelFams])).trans (.disarm _ _ _)).trans
      ((AtPhases.countPhases _).mono (List.subset_append_right _ _))).trans (.shareRef _ k (by simp [cancelFams]))
  · exact .refl _ x

/-- What a phase that turns off touches. -/
def offFams : List Fam := [E.PH_STATE, E.PH_SLOT, E.PH_IREF, E.PH_I]

theorem AtPhases.phaseOff (m : Mod) (p st : Nat) : AtPhases offFams m (m.phaseOff p st) := by
  have shown : AtPhases offFams m ((((m.setN E.PH_STATE p st).setN E.PH_SLOT p 0xFF).setQ E.PH_IREF p 0).setQ E.PH_I p 0) :=
    ((((AtPhases.refl _ m).set (f := E.PH_STATE) (by simp [offFams])).set (f := E.PH_SLOT) (by simp [offFams])).set
      (f := E.PH_IREF) (by simp [offFams])).set (f := E.PH_I) (by simp [offFams])
  exact shown.trans (.modPh _ _ p _)

/-- R165: a phase that leaves is off, ARMED, and its stage is spaced anew. -/
theorem AtPhases.shedEnd (m : Mod) (p : Nat) : AtPhases (offFams ++ countFams) m (m.shedEnd p) :=
  (((AtPhases.phaseOff m p 2).mono (List.subset_append_left _ _)).trans (.arm _ _ _ _)).trans
    ((AtPhases.respace _ _).mono (by simp [slotFams, offFams, countFams]))

/-- R167: what a forced shed touches. -/
theorem AtPhases.forcedShed (m : Mod) (k : Nat) : AtPhases (offFams ++ countFams) m (m.forcedShed k) := by
  have one : ∀ (x : Mod) (p : Nat), AtPhases (offFams ++ countFams) x
      (if x.n E.PH_STATE p == 3 || x.n E.PH_STATE p == 4 || x.n E.PH_STATE p == 5 then (x.disarm (.arming p)).shedEnd p else x.disarm (.arming p)) := fun x p => by
    split
    · exact (AtPhases.disarm _ x _).trans (.shedEnd _ p)
    · exact .disarm _ x _
  exact ((AtPhases.foldl one (m.groupPhases k) m).trans (.modGrp _ _ k _)).trans (.disarm _ _ _)

/-! ## Rotation -/

theorem AtPhases.rotationEvent (m : Mod) (g : Nat) : AtPhases [E.PH_SLOT, E.ROT_COUNT] m (m.rotationEvent g) := by
  unfold Mod.rotationEvent
  dsimp only
  split
  · exact .modStg _ m g _
  · split
    · exact .refl _ m
    · refine AtPhases.set (f := E.ROT_COUNT) ?_ (by simp)
      split
      · exact ((AtPhases.modStg _ m g _).trans (.modStg _ _ g _)).trans (.foldl (fun x p => .setV (f := E.PH_SLOT) x p _ (by simp)) _ _)
      · exact .modStg _ m g _

theorem AtPhases.rotationResume (m : Mod) (g : Nat) : AtPhases [E.PH_SLOT, E.ROT_COUNT] m (m.rotationResume g) := by
  unfold Mod.rotationResume
  split
  · exact (AtPhases.modStg _ m g _).trans (.rotationEvent _ g)
  · exact .refl _ m

end Sys2Proof.Machine
end

section
/-! PROOF. The states of the links (R338, R357, R364). -/

set_option Elab.async false

namespace Sys2Proof.Machine

open Sys2Proof

/-- What a link shows of what its transmitter does not touch. -/
theorem Mod.link_of_receivers {m : Mod} {l : Nat} {x : LinkS} (h : m.receivers l = x.receiver) :
    (m.linkOf l).phy = x.phy ∧ (m.linkOf l).lastRx = x.lastRx ∧ (m.linkOf l).downAt = x.downAt := by
  have phy := congrArg LinkS.phy h
  have lastRx := congrArg LinkS.lastRx h
  have downAt := congrArg LinkS.downAt h
  exact ⟨phy, lastRx, downAt⟩

theorem linkKeys_apart : ∀ j < 4, E.LINK_STATE.key j ∉ raiseFams.flatMap Fam.keys ∧ E.LINK_STATE.key j ∉ shapeFams.flatMap Fam.keys ∧
    E.LINK_STATE.key j ∉ logFams.flatMap Fam.keys ∧ E.LINK_DOWN_CNT.key j ∉ raiseFams.flatMap Fam.keys ∧
    E.LINK_DOWN_CNT.key j ∉ shapeFams.flatMap Fam.keys ∧ E.LINK_DOWN_CNT.key j ∉ logFams.flatMap Fam.keys ∧
    E.LINK_STATE.key j ≠ E.LINK_DOWN_CNT.key j := by decide +kernel

/-- What the end of a change of the links does: the shape of the ring, then the transmitters. -/
theorem Mod.reshaped_frame (m : Mod) : OnlyFams (shapeFams ++ logFams) m m.ringShape.creditFlush ∧
    m.ringShape.creditFlush.receivers = m.receivers := by
  obtain ⟨shape, links⟩ := m.ringShape_frame
  obtain ⟨flush, kept, -⟩ := m.ringShape.creditFlush_frame
  exact ⟨(shape.mono (List.subset_append_left _ _)).trans (flush.mono (List.subset_append_right _ _)), kept.trans (Mod.receivers_of_net links)⟩

/-- What the end of a change of the links leaves of a link's entries and of the raised sources. -/
theorem Mod.reshaped_links (m : Mod) {l : Nat} (hl : l < 4) : m.ringShape.creditFlush.n E.LINK_STATE l = m.n E.LINK_STATE l ∧
    m.ringShape.creditFlush.n E.LINK_DOWN_CNT l = m.n E.LINK_DOWN_CNT l ∧
    m.ringShape.creditFlush.bitOf E.FLT_ACTIVE 3 0 = m.bitOf E.FLT_ACTIVE 3 0 := by
  obtain ⟨-, state, state', -, count, count', -⟩ := linkKeys_apart l hl
  have only := m.reshaped_frame.1
  have apart : ∀ {k : Nat}, k ∉ shapeFams.flatMap Fam.keys → k ∉ logFams.flatMap Fam.keys → k ∉ (shapeFams ++ logFams).flatMap Fam.keys := fun h h' => by
    rw [List.flatMap_append, List.mem_append]
    exact fun hk => hk.elim h h'
  exact ⟨only.n _ _ (apart state state'), only.n _ _ (apart count count'), only.bitOf _ _ _ (by decide +kernel)⟩

/-! ## A link that is declared down (R338) -/

/-- A link as its declaration leaves it. -/
def LinkS.failed (now : Nat) (x : LinkS) : LinkS :=
  { x with downAt := some now, good := 0, badCycles := [], awaiting := false, tx := none, turn := 3, deficit := List.replicate 8 0 }

/-- The injected losses of a link end with it. -/
def Mod.failInjected (m : Mod) (l : Nat) : Mod :=
  let m := m.modNet (fun x => { x with inj := x.inj.filter (fun y => y.2 != l) })
  m.modFlt 3 (fun f => { f with injected :=
    ([1, 2].filter (fun k => bit f.injected k && m.net.inj.any (·.1 == k))).foldl (fun a k => a + 2 ^ k) 0 })

/-- A link that is declared down, before source 3:0 is raised. -/
def Mod.linkLost (m : Mod) (l : Nat) : Mod :=
  (((m.setN E.LINK_STATE l 4).inc E.LINK_DOWN_CNT l).modLink l (LinkS.failed m.tb)).failInjected l

theorem Mod.linkFail_eq (m : Mod) (l : Nat) : m.linkFail l = ((m.linkLost l).raise 3 0).ringShape.creditFlush := rfl

theorem Mod.failInjected_frame (m : Mod) (l : Nat) : (m.failInjected l).od = m.od ∧ (m.failInjected l).receivers = m.receivers := ⟨rfl, rfl⟩

theorem Mod.linkLost_frame (m : Mod) {l : Nat} (hl : l < 4) : OnlyFams [E.LINK_STATE, E.LINK_DOWN_CNT] m (m.linkLost l) ∧
    (m.linkLost l).n E.LINK_STATE l = 4 ∧ (m.linkLost l).n E.LINK_DOWN_CNT l = inc32 (m.n E.LINK_DOWN_CNT l) ∧
    (m.linkLost l).receivers l = (LinkS.failed m.tb (m.linkOf l)).receiver := by
  obtain ⟨-, -, -, -, -, -, apart⟩ := linkKeys_apart l hl
  have only : OnlyFams [E.LINK_STATE, E.LINK_DOWN_CNT] m ((m.setN E.LINK_STATE l 4).inc E.LINK_DOWN_CNT l) :=
    (OnlyFams.setV (f := E.LINK_STATE) m l _ (by simp)).set (f := E.LINK_DOWN_CNT) (by simp)
  have state : ((m.setN E.LINK_STATE l 4).inc E.LINK_DOWN_CNT l).n E.LINK_STATE l = 4 := by
    rw [Mod.n_inc_ne _ apart, Mod.n_setN_same _ _ hl]
  have count : ((m.setN E.LINK_STATE l 4).inc E.LINK_DOWN_CNT l).n E.LINK_DOWN_CNT l = inc32 (m.n E.LINK_DOWN_CNT l) := by
    rw [Mod.n_inc_same _ hl, Mod.setN_eq, Mod.n_setV_ne _ _ _ _ _ _ (Ne.symm apart)]
  have link : ((m.setN E.LINK_STATE l 4).inc E.LINK_DOWN_CNT l).linkOf l = m.linkOf l := rfl
  unfold Mod.linkLost
  generalize (m.setN E.LINK_STATE l 4).inc E.LINK_DOWN_CNT l = x at only state count link
  obtain ⟨od, kept⟩ := (x.modLink l (LinkS.failed m.tb)).failInjected_frame l
  generalize (x.modLink l (LinkS.failed m.tb)).failInjected l = y at od kept
  have same : ∀ f i, y.n f i = x.n f i := fun f i => SameOd.n (ks := []) (fun k _ => congrArg (odGet · k) od) f i (by simp)
  refine ⟨.of_od only od, (same _ _).trans state, (same _ _).trans count, ?_⟩
  rw [kept, Mod.receivers, Mod.linkOf_modLink_same, link]

/-- What a declaration touches. -/
def failFams : List Fam := tripFams ++ (roleFams ++ [E.LINK_DOWN_CNT, E.LINK_STATE, E.NET_ADDR_P, E.NET_FLAGS, E.NET_ROLE, E.RING_N])

theorem logFams_raise : logFams ⊆ raiseFams := fun f hf => by
  simp only [raiseFams, forceFams, List.mem_append]
  exact .inr (.inr (.inr (.inl hf)))

theorem shapeFams_fail : shapeFams ⊆ failFams := by
  intro f hf
  simp only [shapeFams, List.mem_append, List.mem_cons, List.not_mem_nil, or_false] at hf
  simp only [failFams, List.mem_append, List.mem_cons, List.not_mem_nil, or_false]
  tauto

theorem Mod.linkFail_frame (m : Mod) {l : Nat} (hl : l < 4) : OnlyFams failFams m (m.linkFail l) ∧ (m.linkFail l).n E.LINK_STATE l = 4 ∧
    (m.linkFail l).n E.LINK_DOWN_CNT l = inc32 (m.n E.LINK_DOWN_CNT l) ∧ (m.linkFail l).bitOf E.FLT_ACTIVE 3 0 = true ∧
    (m.linkFail l).receivers l = (LinkS.failed m.tb (m.linkOf l)).receiver := by
  obtain ⟨states, -, -, counts, -, -, -⟩ := linkKeys_apart l hl
  obtain ⟨only, state, count, link⟩ := m.linkLost_frame hl
  rw [Mod.linkFail_eq]
  generalize m.linkLost l = x at only state count link
  have raised := OnlyFams.raise x 3 0 none
  have source : (x.raise 3 0).bitOf E.FLT_ACTIVE 3 0 = true := by
    rw [Mod.raise_eq (cls := 1) x none (by decide)]
    exact x.raiseAs_bitOf 0 1 none (by decide)
  have net : (x.raise 3 0).net = x.net := Mod.net_of_tidings (x.raise_tidings none (by decide))
  generalize x.raise 3 0 = y at raised source net
  obtain ⟨shaped, kept⟩ := y.reshaped_frame
  obtain ⟨state', count', source'⟩ := y.reshaped_links hl
  have trips : raiseFams ⊆ failFams := fun f hf => List.mem_append_left _ (raiseFams_trip hf)
  refine ⟨((only.mono (by simp [failFams])).trans (raised.mono trips)).trans (shaped.mono ?_), ?_, ?_, source'.trans source, ?_⟩
  · exact List.append_subset.2 ⟨shapeFams_fail, fun f hf => trips (logFams_raise hf)⟩
  · exact state'.trans ((raised.n _ _ states).trans state)
  · exact count'.trans ((raised.n _ _ counts).trans count)
  · rw [kept, Mod.receivers_of_net (congrArg Net.links net), link]

/-! ## A PHY's report, and a link that is ready (R338, R357) -/

/-- A link as its PHY's report leaves it. -/
def LinkS.found (now : Nat) (x : LinkS) : LinkS := { x with phy := true, phyAt := now, good := 0, dlys := [], reqAt := none }

theorem Mod.phyLink_up (m : Mod) {l : Nat} (hl : l < 4) (hr : m.n E.LINK_ROLE l ≠ 0) :
    m.phyLink l true = (m.modLink l (LinkS.found m.tb)).when (m.n E.LINK_STATE l != 4) (·.setN E.LINK_STATE l 2) := by
  unfold Mod.phyLink
  rw [if_pos (by simp [hl, hr]), if_pos rfl]
  rfl

/-- A link whose PHY has lost it. -/
def Mod.phyLost (m : Mod) (l : Nat) : Mod := (m.modLink l fun x => { x with phy := false }).loopGone l

theorem Mod.phyLost_frame (m : Mod) (l : Nat) : OnlyFams [E.NET_FLAGS] m (m.phyLost l) ∧ (m.phyLost l).linkOf l = { m.linkOf l with phy := false } := by
  have lost := m.linkOf_modLink_same l fun x => { x with phy := false }
  have od : (m.modLink l fun x => { x with phy := false }).od = m.od := rfl
  unfold Mod.phyLost
  generalize (m.modLink l fun x => { x with phy := false }) = x at lost od
  have gone : OnlyFams [E.NET_FLAGS] x (x.loopGone l) ∧ (x.loopGone l).linkOf l = x.linkOf l := by
    refine ⟨?_, rfl⟩
    exact OnlyFams.trans (b := x.modNet fun n => { n with loopLinks := n.loopLinks.filter (· != l) }) (fun _ _ => rfl)
      (.setV (f := E.NET_FLAGS) _ 0 _ (by simp))
  exact ⟨OnlyFams.trans (.of_od (.refl _ m) od) gone.1, gone.2.trans lost⟩

theorem Mod.phyLink_down (m : Mod) {l : Nat} (hl : l < 4) (hr : m.n E.LINK_ROLE l ≠ 0) :
    m.phyLink l false = if (m.phyLost l).n E.LINK_STATE l = 3 then (m.phyLost l).linkFail l
      else (m.phyLost l).when ((m.phyLost l).n E.LINK_STATE l != 4) (·.setN E.LINK_STATE l 1) := by
  unfold Mod.phyLink
  rw [if_pos (by simp [hl, hr]), if_neg (by decide)]
  rfl

theorem Mod.linkDown_eq (m : Mod) {l : Nat} (hl : l < 4) (h : m.downReady l = true) : m.linkDown l = m.linkFail l := by
  unfold Mod.linkDown
  rw [if_pos (by simp [hl, h])]

/-- A link as it is UP. -/
def LinkS.opened (now : Nat) (x : LinkS) : LinkS :=
  { x with lastRx := now, badCycles := [], downAt := none, used := [0, 0, 0, 0], freedIn := [0, 0, 0, 0],
           freedOut := [0, 0, 0, 0], told := [0, 0, 0, 0], creditAt := now, tx := none, turn := 3, deficit := List.replicate 8 0 }

/-- A link that is UP, with source 3:0 lowered where no link is declared down. -/
def Mod.linkOpened (m : Mod) (l : Nat) : Mod :=
  let m := (m.setN E.LINK_STATE l 3).modLink l (LinkS.opened m.tb)
  m.when (!(List.range 4).any (fun k => m.n E.LINK_STATE k == 4)) (·.lower 3 0)

theorem Mod.linkUp_eq (m : Mod) {l : Nat} (hl : l < 4) (h : m.upReady l = true) : m.linkUp l = (m.linkOpened l).ringShape.creditFlush := by
  unfold Mod.linkUp
  rw [if_pos (by simp [hl, h])]
  rfl

theorem Mod.linkOpened_frame (m : Mod) {l : Nat} (hl : l < 4) : OnlyFams [E.LINK_STATE, E.FLT_ACTIVE] m (m.linkOpened l) ∧
    (m.linkOpened l).n E.LINK_STATE l = 3 ∧ (m.linkOpened l).n E.LINK_DOWN_CNT l = m.n E.LINK_DOWN_CNT l ∧
    (m.linkOpened l).receivers l = (LinkS.opened m.tb (m.linkOf l)).receiver := by
  have apart : ∀ j < 4, E.LINK_STATE.key j ∉ [E.FLT_ACTIVE].flatMap Fam.keys ∧ E.LINK_DOWN_CNT.key j ∉ [E.FLT_ACTIVE].flatMap Fam.keys ∧
      E.LINK_DOWN_CNT.key j ≠ E.LINK_STATE.key j := by decide +kernel
  obtain ⟨state, count, ne⟩ := apart l hl
  have lowered : ∀ (x : Mod) (c : Bool), OnlyFams [E.FLT_ACTIVE] x (x.when c (·.lower 3 0)) ∧ (x.when c (·.lower 3 0)).net = x.net := fun x c => by
    cases c
    · exact ⟨.refl _ x, rfl⟩
    · exact ⟨.lower x 3 0, Mod.net_of_tidings (x.lower_tidings 3 0)⟩
  have opened : OnlyFams [E.LINK_STATE, E.FLT_ACTIVE] m ((m.setN E.LINK_STATE l 3).modLink l (LinkS.opened m.tb)) :=
    .of_od (x := m.setN E.LINK_STATE l 3) (.setV (f := E.LINK_STATE) m l _ (by simp)) rfl
  have up : ((m.setN E.LINK_STATE l 3).modLink l (LinkS.opened m.tb)).n E.LINK_STATE l = 3 := m.n_setN_same 3 hl
  have downs : ((m.setN E.LINK_STATE l 3).modLink l (LinkS.opened m.tb)).n E.LINK_DOWN_CNT l = m.n E.LINK_DOWN_CNT l := m.n_setV_ne _ _ _ _ _ ne
  have link : ((m.setN E.LINK_STATE l 3).modLink l (LinkS.opened m.tb)).linkOf l = LinkS.opened m.tb (m.linkOf l) :=
    (m.setN E.LINK_STATE l 3).linkOf_modLink_same l _
  unfold Mod.linkOpened
  dsimp only
  generalize (m.setN E.LINK_STATE l 3).modLink l (LinkS.opened m.tb) = x at opened up downs link
  obtain ⟨only, net⟩ := lowered x (!(List.range 4).any (fun k => x.n E.LINK_STATE k == 4))
  generalize x.when (!(List.range 4).any (fun k => x.n E.LINK_STATE k == 4)) (·.lower 3 0) = y at only net
  refine ⟨opened.trans (only.mono (by simp)), (only.n _ _ state).trans up, (only.n _ _ count).trans downs, ?_⟩
  rw [Mod.receivers_of_net (congrArg Net.links net), Mod.receivers, link]

end Sys2Proof.Machine

namespace Sys2Proof

open Machine

/-- Settles O21: a report of a PHY, a link that is UP, and one that is declared down, each with the ring's shape after it. -/
theorem linkStates : Obligations.LinkStates := by
  unfold Obligations.LinkStates
  refine ⟨?_, ?_, ?_, ?_⟩
  · intro t l s ha hl hr
    refine DoesM.intro (f := Mod.phyLink l true) rfl ha ?_
    rw [(s.m.at t).phyLink_up hl hr]
    generalize s.m.at t = m
    have found := m.linkOf_modLink_same l (LinkS.found m.tb)
    have n : ∀ f i, (m.modLink l (LinkS.found m.tb)).n f i = m.n f i := fun _ _ => rfl
    have od : (m.modLink l (LinkS.found m.tb)).od = m.od := rfl
    generalize m.modLink l (LinkS.found m.tb) = x at found n od
    by_cases h : m.n E.LINK_STATE l = 4
    · rw [Mod.when, if_neg (by simp [h]), found, n, if_pos h]
      exact ⟨rfl, rfl, rfl, h, .of_od (.refl _ m) od⟩
    · rw [Mod.when, if_pos (by simp [h]), if_neg h]
      have same : (x.setN E.LINK_STATE l 2).linkOf l = x.linkOf l := rfl
      rw [same, found]
      exact ⟨rfl, rfl, rfl, Mod.n_setN_same _ 2 hl, fun k hk => (x.odGet_setV_ne E.LINK_STATE l _ (by simpa using hk)).trans (congrArg (odGet · k) od)⟩
  · intro t l s ha hl hr
    refine DoesM.intro (f := Mod.phyLink l false) rfl ha ?_
    have apart : ∀ j < 4, E.LINK_STATE.key j ∉ [E.NET_FLAGS].flatMap Fam.keys ∧ E.LINK_DOWN_CNT.key j ∉ [E.NET_FLAGS].flatMap Fam.keys := by
      decide +kernel
    obtain ⟨state, count⟩ := apart l hl
    rw [(s.m.at t).phyLink_down hl hr]
    generalize s.m.at t = m
    obtain ⟨only, link⟩ := m.phyLost_frame l
    have st := only.n _ _ state
    have ct := only.n _ _ count
    generalize m.phyLost l = x at only link st ct
    have flags : OnlyFams failFams m x := only.mono (by simp [failFams])
    rw [st]
    by_cases h3 : m.n E.LINK_STATE l = 3
    · obtain ⟨failed, down, counted, -, kept⟩ := x.linkFail_frame hl
      rw [if_pos h3, if_pos (.inl h3), if_pos h3]
      refine ⟨flags.trans failed, ?_, down, counted.trans (congrArg inc32 ct)⟩
      rw [link] at kept
      exact (Mod.link_of_receivers kept).1
    · rw [if_neg h3, if_neg h3]
      by_cases h4 : m.n E.LINK_STATE l = 4
      · rw [Mod.when, if_neg (by simp [h4]), if_pos (.inr h4)]
        exact ⟨flags, congrArg LinkS.phy link, st.trans h4, ct⟩
      · rw [Mod.when, if_pos (by simp [h4]), if_neg (by tauto)]
        refine ⟨flags.set (f := E.LINK_STATE) (by simp [failFams]), congrArg LinkS.phy link, Mod.n_setN_same _ 1 hl, ?_⟩
        exact (x.n_setV_ne _ _ _ _ _ (Ne.symm (linkKeys_apart l hl).2.2.2.2.2.2)).trans ct
  · intro t l s ha hl h
    refine DoesM.intro (f := Mod.linkUp l) rfl ha ?_
    obtain ⟨only, up, downs, link⟩ := (s.m.at t).linkOpened_frame hl
    rw [(s.m.at t).linkUp_eq hl h]
    generalize (s.m.at t).linkOpened l = x at only up downs link
    obtain ⟨shaped, kept⟩ := x.reshaped_frame
    obtain ⟨state, count, -⟩ := x.reshaped_links hl
    have here := (congrFun kept l).trans link
    refine ⟨(only.mono (by simp)).trans (shaped.mono ?_), state.trans up, (Mod.link_of_receivers here).2.1, (Mod.link_of_receivers here).2.2, count.trans downs⟩
    intro f hf
    rcases List.mem_append.1 hf with h | h
    · rcases List.mem_append.1 h with h | h
      · simp [h]
      · simp only [List.mem_cons, List.not_mem_nil, or_false] at h
        rcases h with rfl | rfl | rfl | rfl <;> simp
    · simp [h]
  · intro t l s ha hl h
    refine DoesM.intro (f := Mod.linkDown l) rfl ha ?_
    rw [(s.m.at t).linkDown_eq hl h]
    obtain ⟨failed, down, counted, source, kept⟩ := (s.m.at t).linkFail_frame hl
    exact ⟨failed, down, (Mod.link_of_receivers kept).2.2, counted, source⟩

end Sys2Proof
end

section
/-! PROOF. Election and handover (R354 to R356). -/

set_option Elab.async false

namespace Sys2Proof.Machine

open Sys2Proof

/-! ## What puts a frame out -/

/-- A frame of class 0 to 2 is among what is put out. -/
theorem Mod.mem_cutIn (m : Mod) (o : Out) : o ∈ (m.cutIn o).out := by
  have last : ∀ x : Mod, o ∈ (x.emit o).out := fun x => List.mem_append_right _ (List.mem_singleton.2 rfl)
  unfold Mod.cutIn
  dsimp only
  split
  · exact last m
  · split
    · exact last m
    · split
      · change o ∈ (if _ then _ else _)
        split <;> simp
      · split
        · exact List.mem_append_left _ (last _)
        · exact last m

/-- Frames of classes 0 to 2 leave at once (R362 to R364). -/
theorem Mod.transmitOn_sent (m : Mod) (link : Option Nat) (par : Bool) {cls : Nat} (typ dst : Nat) (content : List Nat) (hc : cls ≤ 2) :
    Sent m (m.transmitOn link par cls typ dst content) cls typ dst content := by
  refine .inl (List.any_eq_true.2 ⟨?frame, ?_, ?_⟩)
  case refine_1 =>
    unfold Mod.transmitOn Mod.sendFrame Mod.sendVia
    dsimp only
    rw [if_pos hc]
    exact Mod.mem_cutIn _ _
  case refine_2 => simp [isFrame, Mod.txHeader, Mod.nextSeq]

theorem outFams_frameKeys : outFams.flatMap Fam.keys ⊆ frameKeys := fun k h => by
  simp only [outFams, List.flatMap_cons, List.flatMap_nil, List.mem_append, List.not_mem_nil, or_false] at h
  simp only [frameKeys, List.mem_append]
  rcases h with h | h | h | h | h | h | h <;> simp only [h, true_or, or_true]

theorem takenFams_frameKeys : (E.CLS_RX :: markFams).flatMap Fam.keys ⊆ frameKeys := fun k h => by
  simp only [markFams, List.flatMap_cons, List.flatMap_nil, List.mem_append, List.not_mem_nil, or_false] at h
  simp only [frameKeys, List.mem_append]
  rcases h with h | h | h | h | h <;> simp only [h, true_or, or_true]

/-- Of the network a frame of class 0 to 2 changes what the links keep. -/
theorem Mod.cutIn_net (m : Mod) (o : Out) : ∃ ls, (m.cutIn o).net = { m.net with links := ls } := by
  unfold Mod.cutIn
  dsimp only
  split
  · exact ⟨_, rfl⟩
  · split
    · exact ⟨_, rfl⟩
    · split
      · exact ⟨_, rfl⟩
      · split <;> exact ⟨_, rfl⟩

theorem Mod.transmitOn_net (m : Mod) (link : Option Nat) (par : Bool) {cls : Nat} (typ dst : Nat) (content : List Nat) (hc : cls ≤ 2) :
    ∃ ls seqs, (m.transmitOn link par cls typ dst content).net = { m.net with links := ls, txSeq := seqs } := by
  unfold Mod.transmitOn Mod.sendFrame Mod.sendVia
  dsimp only
  rw [if_pos hc]
  generalize Out.frame _ _ _ = o
  obtain ⟨ls, e⟩ := m.cutIn_net o
  refine ⟨ls, modAt 0 m.net.txSeq cls (fun s => (s + 1) % 65536), ?_⟩
  change { (m.cutIn o).net with txSeq := modAt 0 (m.cutIn o).net.txSeq cls (fun s => (s + 1) % 65536) } = _
  rw [e]

/-! ## Claims -/

/-- R354: the module claims with the generation `p`. -/
def Net.claims (p : Nat) (x : Net) : Net :=
  { x with claiming := true, proposed := p, returns := if x.claiming && x.proposed == p then x.returns else 0 }

theorem Mod.claimTx_own (m : Mod) (h : m.isHead = false) (cand : m.candidate = true) (none_ : m.noLantern = true) (claims : m.recentClaims = [])
    (up : (m.upLinks 1).isEmpty = false) (key : m.keys.own.isSome = true) :
    m.claimTx = (m.modNet (Net.claims (nextGen m.newestGen))).transmitOn none false 0 5 0xFFFF
      ([m.n E.NET_LPRIO 0, m.net.stn] ++ leBytes 6 Config.mac48 ++ leBytes 2 (nextGen m.newestGen)) := by
  have stn : ∀ x : Mod, x.isHead = false → x.claimKey = (x.n E.NET_LPRIO 0, x.net.stn, Config.mac48) := fun x hx => by
    rw [Mod.claimKey, Mod.claimStn, if_neg (by rw [hx]; decide)]
  unfold Mod.claimTx
  dsimp only
  rw [if_pos (by simp [h, cand, none_, claims, up, key])]
  have still : (m.modNet (Net.claims (nextGen m.newestGen))).isHead = false := h
  change (m.modNet (Net.claims (nextGen m.newestGen))).transmitOn none (m.modNet (Net.claims (nextGen m.newestGen))).isHead 0 5 0xFFFF
    ([(m.modNet (Net.claims (nextGen m.newestGen))).claimKey.1, (m.modNet (Net.claims (nextGen m.newestGen))).claimKey.2.1] ++
      leBytes 6 (m.modNet (Net.claims (nextGen m.newestGen))).claimKey.2.2 ++ leBytes 2 (nextGen m.newestGen)) = _
  rw [stn _ still, still]
  rfl

/-- What a frame of the election finds of a module that has consumed it. -/
theorem Mod.takenIn_claim (m : Mod) {h : Hdr} {l : Nat} (who : Nat) (hc : h.cls = 0) (hl : l < 4) :
    (m.takenIn h l who).isLantern = m.isLantern ∧ (m.takenIn h l who).claimKey = m.claimKey ∧ (m.takenIn h l who).onLink l = m.onLink l := by
  obtain ⟨only, -, -, ls, net⟩ := m.takenIn_frame l who (h := h) (by omega) (by omega)
  have apart : ∀ j < 4, E.LINK_STATE.key j ∉ (E.CLS_RX :: markFams).flatMap Fam.keys ∧
      E.LINK_ROLE.key j ∉ (E.CLS_RX :: markFams).flatMap Fam.keys := by decide +kernel
  have state : ∀ j < 4, (m.takenIn h l who).n E.LINK_STATE j = m.n E.LINK_STATE j := fun j hj => only.n _ _ (apart j hj).1
  have role : ∀ j < 4, (m.takenIn h l who).n E.LINK_ROLE j = m.n E.LINK_ROLE j := fun j hj => only.n _ _ (apart j hj).2
  have netRole := only.n E.NET_ROLE 0 (by decide +kernel)
  refine ⟨?_, ?_, ?_⟩
  · unfold Mod.isLantern
    rw [netRole]
  · unfold Mod.claimKey Mod.claimStn Mod.isHead
    rw [netRole, only.n E.NET_LPRIO 0 (by decide +kernel), only.n E.NET_ADDR_P 0 (by decide +kernel), net]
    rfl
  · have links : ∀ r, (m.takenIn h l who).upLinks r = m.upLinks r := fun r => List.filter_congr fun j hj => by
      rw [state j (List.mem_range.1 hj), role j (List.mem_range.1 hj)]
    unfold Mod.onLink
    rw [links, role l hl]

/-- R354: a claim that is better ends the own one, and is kept. -/
def Net.outbid (x : ClaimMsg) (t : Nat) (y : Net) : Net := { y with claiming := false, returns := 0, better := [(x, t)] }

/-- R354: the newest generation seen, where a claim of another arrives; the better claims are those of the latest cycles. -/
def Net.sees (x : ClaimMsg) (own : Bool) (seen : List (ClaimMsg × Nat)) (y : Net) : Net :=
  { y with newest := if newer x.lgen y.newest && !own then x.lgen else y.newest, better := seen }

/-- R340: a frame goes on round its ring. -/
def Mod.goesOn (m : Mod) (l : Nat) (h : Hdr) : Out :=
  .forward (m.onLink l) { h with hops := h.hops - 1, turned := h.turned || m.onLink l == l, mac := Config.mac48 }

/-- What a claim does that passes its checks at a module that is no lantern. -/
def Mod.claimed (l : Nat) (h : Hdr) (x : ClaimMsg) (m : Mod) : Mod :=
  let k := (x.lprio, x.stn, x.mac)
  let seen := m.recentClaims
  let own := x.mac == Config.mac48
  let m := m.modNet (Net.sees x own seen)
  if own then m.modNet (Net.claimReturn (m.tb / 10000) x.lgen seen.isEmpty)
  else if betterKey k m.claimKey && seen.all (fun y => betterKey k (y.1.lprio, y.1.stn, y.1.mac) || y.1 == x) then
    let m := m.modNet (fun y => { y with claiming := false, returns := 0, better := (x, m.tb) :: seen.filter (fun z => z.1 != x) })
    m.cutIn (m.goesOn l h)
  else m

theorem Mod.claimRx_own {m : Mod} {l : Nat} {h : Hdr} (x : ClaimMsg) (hl : l < 4) (p : Passes m h 5 (some l)) (lead : m.isLantern = false)
    (role : m.n E.LINK_ROLE l = 1) : m.claimRx l h x = (m.takenIn h l (originator h l)).claimed l h x := by
  unfold Mod.claimRx
  rw [if_pos hl, if_neg (by rw [if_neg (by omega), lead]; decide), Mod.onFrame_passes _ p]
  rfl

theorem Mod.claimed_better {m : Mod} (l : Nat) (h : Hdr) {x : ClaimMsg} (recent : m.recentClaims = []) (other : x.mac ≠ Config.mac48)
    (better : betterKey (x.lprio, x.stn, x.mac) m.claimKey = true) :
    m.claimed l h x = ((m.modNet (Net.sees x false [])).modNet (Net.outbid x m.tb)).cutIn (m.goesOn l h) := by
  have key : (m.modNet (Net.sees x false [])).claimKey = m.claimKey := rfl
  unfold Mod.claimed
  dsimp only
  rw [beq_false_of_ne other, recent, if_neg (by decide), key, better]
  rfl

theorem Mod.claimed_own {m : Mod} (l : Nat) (h : Hdr) {x : ClaimMsg} (recent : m.recentClaims = []) (own : x.mac = Config.mac48) :
    m.claimed l h x = (m.modNet (Net.sees x true [])).modNet (Net.claimReturn (m.tb / 10000) x.lgen true) := by
  unfold Mod.claimed
  dsimp only
  rw [own, beq_self_eq_true, recent, if_pos rfl]
  rfl

/-- R354 step 3: an own claim that returns counts in consecutive cycles. -/
theorem Net.claimReturn_counts (c lgen : Nat) (y : Net) (h : y.claiming = true) (g : lgen = y.proposed) :
    (y.returns = 0 → (y.claimReturn c lgen true).returns = 1) ∧
    (y.returns ≠ 0 → c = y.returnAt + 1 → (y.claimReturn c lgen true).returns = y.returns + 1) ∧
    (y.returns ≠ 0 → y.returnAt + 1 < c → (y.claimReturn c lgen true).returns = 1) ∧ (y.claimReturn c lgen true).claiming = true := by
  have live : (!(y.claiming && lgen == y.proposed && true)) = false := by simp [h, g]
  unfold Net.claimReturn
  rw [live, if_neg (by decide)]
  refine ⟨fun z => ?_, fun z e => ?_, fun z e => ?_, ?_⟩
  · rw [if_pos (.inl z)]
  · rw [if_neg (by omega), if_neg (by omega)]
  · rw [if_pos (.inr e)]
  · split
    · exact h
    · split <;> exact h

/-! ## A new lantern -/

/-- R354: a module that becomes lantern by an election counts it. -/
theorem Mod.elected_frame (m : Mod) (lgen : Nat) (h : m.isHead = false) :
    OnlyFams [E.ELECT_CNT, E.LANT_ADDR, E.LGEN, E.NET_ADDR, E.NET_FLAGS, E.NET_ROLE, E.RING_ENV, E.SHARE_FLAGS] m
      ((m.becomeLantern lgen).inc E.ELECT_CNT 0) ∧
    ((m.becomeLantern lgen).inc E.ELECT_CNT 0).n E.NET_ROLE 0 = 1 ∧ ((m.becomeLantern lgen).inc E.ELECT_CNT 0).n E.LGEN 0 = lgen ∧
    ((m.becomeLantern lgen).inc E.ELECT_CNT 0).n E.LANT_ADDR 0 = ((m.becomeLantern lgen).inc E.ELECT_CNT 0).n E.NET_ADDR 0 ∧
    ((m.becomeLantern lgen).inc E.ELECT_CNT 0).n E.ELECT_CNT 0 = inc32 (m.n E.ELECT_CNT 0) ∧
    ((m.becomeLantern lgen).inc E.ELECT_CNT 0).net.claiming = false ∧
    ((m.becomeLantern lgen).inc E.ELECT_CNT 0).n E.RING_ENV 0 = m.n E.FLEET_ENV 0 := by
  obtain ⟨only, role, gen, addr, env, ends⟩ := m.becomeLantern_frame lgen h
  have count := only.n E.ELECT_CNT 0 (by decide +kernel)
  generalize m.becomeLantern lgen = x at only role gen addr env ends count
  have other : ∀ f : Fam, f.key 0 ≠ E.ELECT_CNT.key 0 → (x.inc E.ELECT_CNT 0).n f 0 = x.n f 0 := fun f hf => Mod.n_inc_ne _ hf
  refine ⟨(only.mono (List.subset_cons_self _ _)).set (f := E.ELECT_CNT) (by simp), ?_, ?_, ?_, ?_, ends, ?_⟩
  · rw [other _ (by decide), role]
  · rw [other _ (by decide), gen]
  · rw [other _ (by decide), other _ (by decide), addr]
  · rw [Mod.n_inc_same _ (by decide), count]
  · rw [other _ (by decide), env]

/-- R356: what an offer does that passes its checks. -/
def Mod.offered (h : Hdr) (target lgen : Nat) (m : Mod) : Mod :=
  let par := m.fromParent h none
  let gen := if par then m.net.parLgen else m.n E.LGEN 0
  let mine := if par then m.isHead && m.n E.NET_ADDR_P 0 != 0xFFFF && m.n E.NET_ADDR_P 0 % 128 == target
    else !m.isHead && m.numbered && m.net.stn == target
  if h.lant && h.gen == gen && mine && m.candidate && lgen == nextGen gen then
    (m.becomeLantern lgen).modNet (fun x => if par then { x with handAckPar := true } else { x with handAck := true })
  else m

theorem Mod.handoverRx_eq (m : Mod) (h : Hdr) (target lgen : Nat) : m.handoverRx h target lgen = m.onFrame h 6 none (Mod.offered h target lgen) := rfl

/-- The target of an offer acknowledges it. -/
def Net.handTaken (x : Net) : Net := { x with handAck := true }

theorem Mod.offered_takes {m : Mod} {h : Hdr} {target lgen : Nat} (lant : m.fromLantern h = true)
    (head : m.isHead = false) (numbered : m.numbered = true) (stn : m.net.stn = target) (cand : m.candidate = true)
    (gen : lgen = nextGen (m.n E.LGEN 0)) : m.offered h target lgen = (m.becomeLantern lgen).modNet Net.handTaken := by
  simp only [Mod.fromLantern, Bool.and_eq_true, Bool.not_eq_true'] at lant
  obtain ⟨⟨isLant, own⟩, par⟩ := lant
  unfold Mod.offered
  rw [par]
  dsimp only
  rw [if_pos (by simp [isLant, head, numbered, stn, cand, gen]; simpa using own)]
  rfl

/-- What an offer finds of a module that has consumed it. -/
theorem Mod.takenIn_offer (m : Mod) {h : Hdr} (l who : Nat) (hc : h.cls = 0) : (m.takenIn h l who).fromLantern h = m.fromLantern h ∧
    (m.takenIn h l who).isHead = m.isHead ∧ (m.takenIn h l who).numbered = m.numbered ∧ (m.takenIn h l who).net.stn = m.net.stn ∧
    (m.takenIn h l who).candidate = m.candidate ∧ (m.takenIn h l who).n E.LGEN 0 = m.n E.LGEN 0 := by
  obtain ⟨only, -, -, ls, net⟩ := m.takenIn_frame l who (h := h) (by omega) (by omega)
  have role := only.n_sub (f := E.LINK_ROLE) h.via (by decide)
  have apart : ∀ f ∈ [E.NET_LPRIO, E.SHARE_ROLE, E.NET_ROLE, E.NET_FLAGS, E.LGEN, E.NET_ADDR],
      f.key 0 ∉ (E.CLS_RX :: markFams).flatMap Fam.keys := by decide +kernel
  have at0 := fun f hf => only.n f 0 (apart f hf)
  have stn : (m.takenIn h l who).net.stn = m.net.stn := by rw [net]; rfl
  clear net
  generalize m.takenIn h l who = y at *
  refine ⟨?_, ?_, ?_, stn, ?_, at0 _ (by simp)⟩
  · simp [Mod.fromLantern, Mod.fromParent, role, at0]
  · simp [Mod.isHead, at0]
  · simp [Mod.numbered, at0]
  · simp [Mod.candidate, Mod.fenced, Mod.leads, Mod.isLantern, Mod.parentLantern, Mod.bitOf, at0]

theorem takenFams_handover : E.CLS_RX :: markFams ⊆ tripFams ++ [E.CLS_DROP, E.CLS_RX, E.LANT_ADDR, E.LGEN, E.LINK_FCS_ERR, E.LINK_YIELDS,
    E.NET_ADDR, E.NET_AUTH_FAIL, E.NET_BAD_HDR, E.NET_EXP_DROP, E.NET_FLAGS, E.NET_GEN_STALE, E.NET_LGEN_OLD, E.NET_REPLAY,
    E.NET_ROLE, E.RING_ENV, E.SHARE_FLAGS] := fun f hf => by
  rcases List.mem_cons.1 hf with rfl | hf
  · simp
  · exact List.mem_append_left _ (List.mem_append_right _ (markFams_raise hf))

theorem leadFams_handover : leadFams ⊆ tripFams ++ [E.CLS_DROP, E.CLS_RX, E.LANT_ADDR, E.LGEN, E.LINK_FCS_ERR, E.LINK_YIELDS,
    E.NET_ADDR, E.NET_AUTH_FAIL, E.NET_BAD_HDR, E.NET_EXP_DROP, E.NET_FLAGS, E.NET_GEN_STALE, E.NET_LGEN_OLD, E.NET_REPLAY,
    E.NET_ROLE, E.RING_ENV, E.SHARE_FLAGS] := fun f hf => by
  simp only [leadFams, List.mem_cons, List.not_mem_nil, or_false] at hf
  rcases hf with rfl | rfl | rfl | rfl | rfl | rfl | rfl <;> simp

end Sys2Proof.Machine

namespace Sys2Proof

open Machine

/-- Settles O24: the claims of an election, its end, a ring of one, and a handover, each through the frame that brings it. -/
theorem electionAndHandover : Obligations.ElectionAndHandover := by
  unfold Obligations.ElectionAndHandover
  refine ⟨?_, ?_, ?_, ?_, ?_, ?_, ?_⟩
  · intro t s ha head cand none_ claims up key
    refine DoesM.intro (f := Mod.claimTx) rfl ha ?_
    rw [Mod.claimTx_own (s.m.at t) head cand none_ claims up key]
    generalize s.m.at t = m
    generalize hx : m.modNet (Net.claims (nextGen m.newestGen)) = x
    have net : x.net = Net.claims (nextGen m.newestGen) m.net := by rw [← hx]; rfl
    have od : x.od = m.od := by rw [← hx]; rfl
    generalize ([m.n E.NET_LPRIO 0, m.net.stn] ++ leBytes 6 Config.mac48 : List Nat) = who
    obtain ⟨ls, seqs, after⟩ := x.transmitOn_net none false (cls := 0) 5 0xFFFF (who ++ leBytes 2 (nextGen m.newestGen)) (by decide)
    have sent := x.transmitOn_sent none false (cls := 0) 5 0xFFFF (who ++ leBytes 2 (nextGen m.newestGen)) (by decide)
    have only := OnlyFams.transmitOn x none false (cls := 0) 5 0xFFFF (who ++ leBytes 2 (nextGen m.newestGen)) (by decide)
    generalize x.transmitOn none false 0 5 0xFFFF (who ++ leBytes 2 (nextGen m.newestGen)) = y at after sent only
    rw [net] at after
    have proposed : y.net.proposed = nextGen m.newestGen := by rw [after]; rfl
    refine ⟨by rw [after]; rfl, proposed, ?_, SameOd.trans (.of_od (.refl _ m) od) (SameOd.mono only outFams_frameKeys)⟩
    have seq : x.net.txSeq = m.net.txSeq := by rw [net]; rfl
    unfold Sent at sent ⊢
    rw [proposed]
    rwa [seq] at sent
  · intro t l h x s ha hl p lead role claims other better
    refine DoesM.intro (f := Mod.claimRx l h x) rfl ha ?_
    rw [Mod.claimRx_own x hl p lead role]
    have cls : h.cls = 0 := by simpa [typeClass] using p.cls.symm
    change (s.m.at t).isLantern = false at lead
    change betterKey _ (s.m.at t).claimKey = true at better
    generalize s.m.at t = m at *
    obtain ⟨only, plant, -, ls, net⟩ := m.takenIn_frame l (originator h l) (h := h) (by omega) (by omega)
    obtain ⟨-, key, link⟩ := m.takenIn_claim (originator h l) cls hl
    generalize m.takenIn h l (originator h l) = y at only plant net key link
    have tb := Mod.tb_of_hull (Mod.hull_of_site (Mod.site_of_plant plant))
    have recent : y.recentClaims = [] := by
      unfold Mod.recentClaims
      rw [net, tb]
      exact claims
    rw [Mod.claimed_better l h recent other (key ▸ better)]
    have goes : y.goesOn l h = m.goesOn l h := by
      unfold Mod.goesOn
      rw [link]
    generalize hz : (y.modNet (Net.sees x false [])).modNet (Net.outbid x y.tb) = z
    have od : z.od = y.od := by rw [← hz]; rfl
    have told : z.net = Net.outbid x m.tb (Net.sees x false [] y.net) := by rw [← hz, tb]; rfl
    obtain ⟨ls', after⟩ := z.cutIn_net (y.goesOn l h)
    have put := z.mem_cutIn (y.goesOn l h)
    have cut := OnlyFams.cutIn z (y.goesOn l h)
    rw [goes] at put after cut ⊢
    refine ⟨by rw [after, told]; rfl, by rw [after, told]; rfl, by rw [after, told]; rfl, List.contains_iff_mem.2 put, ?_⟩
    exact SameOd.trans (SameOd.mono (only.of_od od) takenFams_frameKeys) (SameOd.mono cut outFams_frameKeys)
  · intro t l h x s ha hl p lead role claims own claiming gen
    refine DoesM.intro (f := Mod.claimRx l h x) rfl ha ?_
    rw [Mod.claimRx_own x hl p lead role]
    have cls : h.cls = 0 := by simpa [typeClass] using p.cls.symm
    change (s.m.at t).net.claiming = true at claiming
    change x.lgen = (s.m.at t).net.proposed at gen
    generalize s.m.at t = m at *
    obtain ⟨only, plant, -, ls, net⟩ := m.takenIn_frame l (originator h l) (h := h) (by omega) (by omega)
    generalize m.takenIn h l (originator h l) = y at only plant net
    have tb := Mod.tb_of_hull (Mod.hull_of_site (Mod.site_of_plant plant))
    have recent : y.recentClaims = [] := by
      unfold Mod.recentClaims
      rw [net, tb]
      exact claims
    rw [Mod.claimed_own l h recent own, tb]
    generalize hz : (Net.sees x true []) y.net = z
    have same : z.claiming = m.net.claiming ∧ z.proposed = m.net.proposed ∧ z.returns = m.net.returns ∧ z.returnAt = m.net.returnAt := by
      rw [← hz, net]; exact ⟨rfl, rfl, rfl, rfl⟩
    obtain ⟨claims', proposed, returns, returnAt⟩ := same
    have counts := z.claimReturn_counts (m.tb / 10000) x.lgen (claims'.trans claiming) (gen.trans proposed.symm)
    rw [returns, returnAt] at counts
    have after : ((y.modNet (Net.sees x true [])).modNet (Net.claimReturn (m.tb / 10000) x.lgen true)).net =
      z.claimReturn (m.tb / 10000) x.lgen true := by rw [← hz]; rfl
    rw [after]
    exact ⟨counts.1, counts.2.1, counts.2.2.1, counts.2.2.2, SameOd.mono (only.of_od rfl) takenFams_frameKeys⟩
  · intro t s ha head claiming returns cand claims
    refine DoesM.intro (f := Mod.electionWin) rfl ha ?_
    have win : (s.m.at t).electionWin = ((s.m.at t).becomeLantern (s.m.at t).net.proposed).inc E.ELECT_CNT 0 := by
      change (s.m.at t).net.claiming = true at claiming
      change 3 ≤ (s.m.at t).net.returns at returns
      change (s.m.at t).candidate = true at cand
      rw [Mod.electionWin, if_pos (by simp [claiming, returns, cand, claims])]
    rw [win]
    exact (s.m.at t).elected_frame _ head
  · intro t s ha head cand up
    refine DoesM.intro (f := Mod.ringOfOne) rfl ha ?_
    have alone : (s.m.at t).ringOfOne = ((s.m.at t).becomeLantern (nextGen (s.m.at t).newestGen)).inc E.ELECT_CNT 0 := by
      change (s.m.at t).isHead = false at head
      change (s.m.at t).candidate = true at cand
      change ((s.m.at t).upLinks 1).isEmpty = true at up
      rw [Mod.ringOfOne, if_pos (by simp [up, head, cand])]
    have newest : (s.m.at t).newestGen = if newer (s.m.at t).net.newest ((s.m.at t).n E.LGEN 0) then (s.m.at t).net.newest else (s.m.at t).n E.LGEN 0 := by
      change (s.m.at t).isHead = false at head
      unfold Mod.newestGen
      dsimp only
      rw [head]
      rfl
    obtain ⟨only, role, gen, -, count, -⟩ := (s.m.at t).elected_frame (nextGen (s.m.at t).newestGen) head
    rw [alone]
    exact ⟨only, role, count, gen.trans (congrArg nextGen newest)⟩
  · intro t h target lgen s ha p lant head numbered stn cand gen
    refine DoesM.intro (f := Mod.handoverRx h target lgen) rfl ha ?_
    have cls : h.cls = 0 := by simpa [typeClass] using p.cls.symm
    rw [Mod.handoverRx_eq, Mod.onFrame_passes _ p]
    obtain ⟨only, -⟩ := (s.m.at t).takenIn_frame h.via (originator h 0) (h := h) (by omega) (by omega)
    obtain ⟨lant', head', numbered', stn', cand', gen'⟩ := (s.m.at t).takenIn_offer h.via (originator h 0) cls
    change (s.m.at t).fromLantern h = true at lant
    change (s.m.at t).isHead = false at head
    change (s.m.at t).numbered = true at numbered
    change (s.m.at t).net.stn = target at stn
    change (s.m.at t).candidate = true at cand
    change lgen = nextGen ((s.m.at t).n E.LGEN 0) at gen
    generalize s.m.at t = m at *
    dsimp only [Option.getD]
    generalize m.takenIn h h.via (originator h 0) = y at *
    rw [Mod.offered_takes (lant'.trans lant) (head'.trans head) (numbered'.trans numbered) (stn'.trans stn) (cand'.trans cand)
      (gen.trans (congrArg nextGen gen'.symm))]
    have still := head'.trans head
    obtain ⟨led, role, generation, -⟩ := y.becomeLantern_frame lgen still
    exact ⟨(only.mono takenFams_handover).trans ((led.mono leadFams_handover).of_od rfl), role, generation, rfl⟩
  · intro t s ha due
    refine DoesM.intro (f := Mod.handoverLapse) rfl ha ?_
    rw [Mod.handoverLapse, if_pos due]
    exact ⟨rfl, Mod.deadline_disarm_same _ _, rfl, .refl _ _, .disarm _ (by simp)⟩

end Sys2Proof
end

section
/-! PROOF. Remote sense (R185), and the intents (R187 to R192). -/

set_option Elab.async false

namespace Sys2Proof.Machine

open Sys2Proof

/-! ## Remote sense -/

theorem Pair.idx_lt (pr : Pair) : Pair.idx pr < 2 := by cases pr <;> decide

/-- R185: the voltage used begins to move from the last good reading, and the fall counts. -/
def Mod.sensed (m : Mod) (j st : Nat) : Mod :=
  ((m.senseMove j (ms 1) true (((m.sns[j]?).bind (·.good)).getD (m.senseV (j == 0)))).setN E.SNS_STATE j st).inc E.SNS_OPEN_CNT j

theorem Mod.senseFall_eq {m : Mod} {j : Nat} (st : Nat) (h : m.n E.SNS_STATE j = 1) : m.senseFall j st = (m.sensed j st).raise 5 4 := by
  unfold Mod.senseFall
  rw [if_pos (by simp [h])]
  rfl

theorem senseKeys_apart : ∀ j < 2, E.SNS_STATE.key j ≠ E.SNS_OPEN_CNT.key j ∧ E.SNS_STATE.key j ∉ raiseFams.flatMap Fam.keys ∧
    E.SNS_OPEN_CNT.key j ∉ raiseFams.flatMap Fam.keys := by decide +kernel

/-- A pair that falls back (R185). -/
theorem Mod.senseFall_frame {m : Mod} {j : Nat} (st : Nat) (hj : j < 2) (h : m.n E.SNS_STATE j = 1) :
    OnlyFams (tripFams ++ [E.SNS_OPEN_CNT, E.SNS_STATE]) m (m.senseFall j st) ∧ (m.senseFall j st).n E.SNS_STATE j = st ∧
      (m.senseFall j st).n E.SNS_OPEN_CNT j = inc32 (m.n E.SNS_OPEN_CNT j) ∧ (m.senseFall j st).bitOf E.FLT_ACTIVE 5 4 = true := by
  obtain ⟨apart, state, count⟩ := senseKeys_apart j hj
  have fallen : OnlyFams (tripFams ++ [E.SNS_OPEN_CNT, E.SNS_STATE]) m (m.sensed j st) :=
    (OnlyFams.trans (b := m.senseMove j (ms 1) true (((m.sns[j]?).bind (·.good)).getD (m.senseV (j == 0)))) (fun _ _ => rfl)
      (.setV (f := E.SNS_STATE) _ j _ (by simp))).set (f := E.SNS_OPEN_CNT) (by simp)
  have st' : (m.sensed j st).n E.SNS_STATE j = st := by
    unfold Mod.sensed
    rw [Mod.n_inc_ne _ apart, Mod.n_setN_same _ _ hj]
  have ct : (m.sensed j st).n E.SNS_OPEN_CNT j = inc32 (m.n E.SNS_OPEN_CNT j) := by
    unfold Mod.sensed
    rw [Mod.n_inc_same _ hj, Mod.n_setN_ne _ _ apart.symm]
    rfl
  rw [m.senseFall_eq st h]
  generalize m.sensed j st = x at fallen st' ct
  have raised := OnlyFams.raise x 5 4 none
  refine ⟨fallen.trans (raised.mono fun f hf => ?_), (raised.n _ _ state).trans st', (raised.n _ _ count).trans ct, ?_⟩
  · exact List.mem_append_left _ (List.mem_append_right _ hf)
  · rw [Mod.raise_eq (cls := 1) x none (by decide)]
    exact Mod.raiseAs_bitOf x 4 1 none (by decide)

theorem Mod.lower_sameOd (m : Mod) (b bit : Nat) : SameOd [E.FLT_ACTIVE.key b] m (m.lower b bit) := by
  unfold Mod.lower
  split
  · exact fun k hk => m.odGet_setV_ne E.FLT_ACTIVE b _ (by simpa using hk)
  · exact .refl _ m

/-- A pair that is good again (R185). -/
theorem Mod.senseRestore_frame {m : Mod} {j : Nat} (hj : j < 2) (h : m.n E.SNS_STATE j = 2 ∨ m.n E.SNS_STATE j = 3)
    (en : m.b E.SNS_EN j = true) : (m.senseRestore j).n E.SNS_STATE j = 1 ∧
      SameOd [E.SNS_STATE.key j, E.FLT_ACTIVE.key 5] m (m.senseRestore j) := by
  have apart : ∀ j < 2, E.SNS_STATE.key j ∉ [E.FLT_ACTIVE.key 5] := by decide +kernel
  have moved : ∀ x : Mod, x.od = (m.setN E.SNS_STATE j 1).od → (if x.sns.any (·.bad) then x else x.lower 5 4).n E.SNS_STATE j = 1 ∧
      SameOd [E.SNS_STATE.key j, E.FLT_ACTIVE.key 5] m (if x.sns.any (·.bad) then x else x.lower 5 4) := fun x od => by
    have same : SameOd [E.SNS_STATE.key j, E.FLT_ACTIVE.key 5] m x := SameOd.of_od
      (fun k hk => m.odGet_setV_ne E.SNS_STATE j _ (fun e => hk (List.mem_cons.2 (.inl e)))) od
    have good : x.n E.SNS_STATE j = 1 := by
      refine Eq.trans ?_ (m.n_setN_same (f := E.SNS_STATE) 1 hj)
      unfold Mod.n Mod.getV
      rw [od]
    split
    · exact ⟨good, same⟩
    · have low := x.lower_sameOd 5 4
      exact ⟨(SameOd.n low _ _ (apart j hj)).trans good, same.trans (low.mono (List.subset_cons_self _ _))⟩
  unfold Mod.senseRestore
  dsimp only
  rw [if_pos (by rcases h with h | h <;> simp [h, en])]
  exact moved _ rfl

/-! ## Intents -/

theorem Mod.n_pending_intentShow (m : Mod) : m.intentShow.n E.INT_PENDING 0 = (m.intentShow.intents.filter (fun j => j.phase == 0)).length := by
  unfold Mod.intentShow
  dsimp only
  simp (disch := decide) [Mod.setN, Mod.setQ, Val.toNat]

/-- The places that show the intents (R188, R190). -/
def intentKeys : List Nat := [E.INT_PENDING.key 0, E.INT_NEXT_T.key 0, E.INT_PB_V.key 0]

theorem Mod.intentShow_sameOd (m : Mod) : SameOd intentKeys m m.intentShow := fun k hk => by
  simp only [intentKeys, List.mem_cons, List.not_mem_nil, or_false, not_or] at hk
  obtain ⟨pending, next, bias⟩ := hk
  unfold Mod.intentShow
  dsimp only
  exact (Mod.odGet_setV_ne _ E.INT_PB_V 0 _ bias).trans ((Mod.odGet_setV_ne _ E.INT_NEXT_T 0 _ next).trans
    (Mod.odGet_setV_ne _ E.INT_PENDING 0 _ pending))

theorem OnlyFams.intentShow {fs : List Fam} (m : Mod) (hf : [E.INT_PENDING, E.INT_NEXT_T, E.INT_PB_V] ⊆ fs) : OnlyFams fs m m.intentShow :=
  SameOd.mono m.intentShow_sameOd fun k hk => by
    have places : intentKeys ⊆ [E.INT_PENDING, E.INT_NEXT_T, E.INT_PB_V].flatMap Fam.keys := by decide +kernel
    obtain ⟨f, hf', h⟩ := List.mem_flatMap.1 (places hk)
    exact List.mem_flatMap.2 ⟨f, hf hf', h⟩

/-- An intent that is pending stays in the list, and one in it was in it. -/
theorem Mod.mem_intentShow {m : Mod} {i : Intent} : (i ∈ m.intents → i.phase = 0 → i ∈ m.intentShow.intents) ∧
    (i ∈ m.intentShow.intents → i ∈ m.intents) :=
  ⟨fun h z => List.mem_filter.2 ⟨h, by simp [z]⟩, fun h => (List.mem_filter.1 h).1⟩

/-- R188: an intent joins a list. -/
def Mod.joined (m : Mod) (l : List Intent) (i : Intent) : Mod := ({ m with intents := l ++ [i] } : Mod).inc E.INT_RX 0

theorem Mod.addIntent_room (m : Mod) (i : Intent) (h : (m.intents.filter (fun j => j.phase == 0)).length < 8) :
    ∃ l, m.addIntent i = (m.joined l i).intentShow := by
  unfold Mod.addIntent
  dsimp only
  split
  · exact ⟨_, rfl⟩
  · exact ⟨_, rfl⟩

/-- R166: a pending intent cancels the sheds of its stage. -/
def Mod.cancelFor (m : Mod) (g : Nat) : Mod := if m.intentPending g then (stageGroups g).foldl Mod.shedCancel m else m

theorem AtPhases.cancelFor (m : Mod) (g : Nat) : AtPhases cancelFams m (m.cancelFor g) := by
  unfold Mod.cancelFor
  split
  · exact .foldl AtPhases.shedCancel _ m
  · exact .refl _ m

theorem Mod.intentRx_pending {m : Mod} {a : Share} (time : m.ntimeOk = true) (en : m.cb E.INT_EN 0 = true) (conf : m.cn E.INT_CMIN 0 ≤ a.conf)
    (path : m.intentPath = true) (near : a.tArr ≤ m.ntime + ticksMs (m.cq E.INT_HORIZON 0))
    (early : m.ntime < a.tArr + ticksUs (m.cq E.INT_WIN 0)) :
    m.intentRx a = ((m.addIntent (m.newIntent a)).cancelFor 0).cancelFor 1 := by
  unfold Mod.intentRx
  dsimp only
  rw [if_neg (by rw [time]; decide), if_neg (by simp [en, conf, path]), if_neg (by omega), if_neg (by omega)]
  rfl

/-- R187, R188: an intent that passes the checks, with room for it, is pending. -/
theorem Mod.intentRx_frame {m : Mod} {a : Share} (time : m.ntimeOk = true) (en : m.cb E.INT_EN 0 = true) (conf : m.cn E.INT_CMIN 0 ≤ a.conf)
    (path : m.intentPath = true) (near : a.tArr ≤ m.ntime + ticksMs (m.cq E.INT_HORIZON 0))
    (early : m.ntime < a.tArr + ticksUs (m.cq E.INT_WIN 0)) (room : (m.intents.filter (fun j => j.phase == 0)).length < 8) :
    OnlyFams (E.INT_RX :: ([E.INT_PENDING, E.INT_NEXT_T, E.INT_PB_V] ++ cancelFams)) m (m.intentRx a) ∧
      (m.intentRx a).n E.INT_RX 0 = inc32 (m.n E.INT_RX 0) ∧ m.newIntent a ∈ (m.intentRx a).intents ∧
      (m.intentRx a).n E.INT_PENDING 0 = ((m.intentRx a).intents.filter (fun j => j.phase == 0)).length := by
  obtain ⟨l, put⟩ := m.addIntent_room (m.newIntent a) room
  rw [Mod.intentRx_pending time en conf path near early, put]
  have first : OnlyFams (E.INT_RX :: ([E.INT_PENDING, E.INT_NEXT_T, E.INT_PB_V] ++ cancelFams)) m (m.joined l (m.newIntent a)) :=
    OnlyFams.trans (b := { m with intents := l ++ [m.newIntent a] }) (fun _ _ => rfl) (.setV (f := E.INT_RX) _ 0 _ (by simp))
  have count : (m.joined l (m.newIntent a)).n E.INT_RX 0 = inc32 (m.n E.INT_RX 0) := Mod.n_inc_same _ (by decide)
  have there : m.newIntent a ∈ (m.joined l (m.newIntent a)).intents := List.mem_append_right _ (List.mem_singleton.2 rfl)
  generalize m.joined l (m.newIntent a) = x at first count there
  have listed := Mod.mem_intentShow.1 there rfl
  have shown := OnlyFams.intentShow (fs := [E.INT_PENDING, E.INT_NEXT_T, E.INT_PB_V]) x (fun _ h => h)
  have pending := x.n_pending_intentShow
  generalize x.intentShow = y at listed shown pending
  have cancelled := (AtPhases.cancelFor y 0).trans (.cancelFor _ 1)
  generalize (y.cancelFor 0).cancelFor 1 = z at cancelled
  obtain ⟨only, yard⟩ := cancelled
  have intents := Mod.intents_of_yard yard
  refine ⟨(first.trans (shown.mono (by simp))).trans (only.mono fun f hf => ?_), ?_, intents ▸ listed, ?_⟩
  · exact List.mem_cons_of_mem _ (List.mem_append_right _ hf)
  · rw [only.n E.INT_RX 0 (by decide +kernel), shown.n E.INT_RX 0 (by decide +kernel), count]
  · rw [only.n E.INT_PENDING 0 (by decide +kernel), pending, intents]

/-! ## Arming -/

theorem AtPhases.armGroup (m : Mod) (k : Nat) (i : Rat) : AtPhases addFams m (m.armGroup k i) := by
  unfold Mod.armGroup
  split
  · exact .refl _ m
  · exact .addSequence m k _

theorem AtPhases.armBat (m : Mod) (w : Rat) : AtPhases addFams m (m.armBat w) := by
  unfold Mod.armBat
  dsimp only
  split
  · exact .refl _ m
  · exact .armGroup m 4 _

theorem AtPhases.ite {fs : List Fam} {m a b : Mod} {c : Prop} [Decidable c] (ha : AtPhases fs m a) (hb : AtPhases fs m b) :
    AtPhases fs m (if c then a else b) := by
  split
  · exact ha
  · exact hb

/-- R189: each group arms for its current, at the higher of its two sides' voltages. -/
def Mod.armGroups (m : Mod) (v : Nat → Rat) (l : List (Nat × Rat)) : Mod :=
  l.foldl (fun m x => m.armGroup x.1 (x.2 * (if m.vSys ≤ 0 then 1 else maxR 1 (v x.1 / m.vSys)))) m

theorem AtPhases.armGroups (m : Mod) (v : Nat → Rat) (l : List (Nat × Rat)) : AtPhases addFams m (m.armGroups v l) := by
  induction l generalizing m with
  | nil => exact .refl _ m
  | cons x xs ih => exact (AtPhases.armGroup m x.1 _).trans (ih _)

/-- R189, R193: Stage A's groups arm for a release. -/
def Mod.armBack (m : Mod) (w : Rat) : Mod :=
  match ((List.range 4).find? (fun k => m.n E.QUAL_STATE k == 5 && m.cb E.IN_BIDIR k)).map m.vPort with
  | some u => if u ≤ 0 then m else m.armGroups m.vPort (m.reverseTakes (m.cq E.IN_IREV) (-w * m.stageEff 0 / u))
  | none => m

theorem AtPhases.armBack (m : Mod) (w : Rat) : AtPhases addFams m (m.armBack w) := by
  unfold Mod.armBack
  split
  · exact .ite (.refl _ m) (.armGroups m _ _)
  · exact .refl _ m

theorem AtPhases.armFor (m : Mod) (d : Rat) : AtPhases addFams m (m.armFor d) := by
  unfold Mod.armFor
  extract_lets path w v vin u a need want need' r x
  have groups : AtPhases addFams m x := .armGroups m _ _
  exact .ite (.ite (.armBack m w) (.armBat m _)) (.ite (.armBat m _) (.ite (.refl _ m) (.ite (groups.trans (.armBat _ _)) groups)))

/-! ## What becomes of a pending intent -/

theorem Mod.intentArm_eq {m : Mod} {orig num : Nat} {i : Intent} (h : m.pendingIntent orig num = some i) (ha : i.armed = false)
    (due : i.tArr ≤ m.ntime + ticksUs (m.cq E.INT_T_ARM 0)) : m.intentArm orig num =
      (m.mapIntent orig num (fun i => { i with armed := true, iSysArm := m.reg.iPrev })).armFor (mkRat i.conf 255 * i.dpm) := by
  unfold Mod.intentArm
  rw [h]
  dsimp only
  rw [if_neg (by rw [ha, Bool.false_or, decide_eq_true_eq]; omega)]

/-- R190: the pre-bias of an intent rises. -/
def Intent.preset (i : Intent) : Intent := { i with pre := true }

theorem Mod.prebiasStart_eq {m : Mod} {orig num : Nat} {i : Intent} (h : m.pendingIntent orig num = some i) (hp : i.pre = false)
    (due : i.tArr ≤ m.ntime + ticksUs (m.cq E.INT_T_PB 0)) : m.prebiasStart orig num = (m.mapIntent orig num Intent.preset).intentShow := by
  unfold Mod.prebiasStart
  rw [h]
  dsimp only
  rw [if_neg (by rw [hp, Bool.false_or, decide_eq_true_eq]; omega)]
  rfl

theorem Mod.intentWithdraw_eq {m : Mod} {orig num : Nat} {i : Intent} (h : m.pendingIntent orig num = some i)
    (due : i.tArr + ticksUs (m.cq E.INT_WIN 0) < m.ntime) :
    m.intentWithdraw orig num = ((m.mapIntent orig num m.withdrawn).inc E.INT_MISSED 0).intentShow := by
  unfold Mod.intentWithdraw
  rw [h]
  dsimp only
  rw [if_pos due]

/-- No pending intent of the identifier is as it was after all of them have changed. -/
theorem Mod.mem_mapIntent {m : Mod} {orig num : Nat} {f : Intent → Intent} {j : Intent} (h : j ∈ (m.mapIntent orig num f).intents)
    (ho : j.orig = orig) (hn : j.num = num) (hp : j.phase = 0) : ∃ i, j = f i := by
  obtain ⟨i, -, rfl⟩ := List.mem_map.1 h
  by_cases c : i.orig = orig ∧ i.num = num ∧ i.phase = 0
  · exact ⟨i, if_pos c⟩
  · rw [if_neg c] at ho hn hp
    exact absurd ⟨ho, hn, hp⟩ c

end Sys2Proof.Machine

namespace Sys2Proof

open Machine

/-- Settles O14: a sense pair falls back and is good again; an intent is pending, arms, pre-biases and is withdrawn. -/
theorem senseAndIntentEvents : Obligations.SenseAndIntentEvents := by
  unfold Obligations.SenseAndIntentEvents
  refine ⟨?_, ?_, ?_, ?_, ?_, ?_, ?_, ?_⟩
  · intro t pr s c st ha h hc
    rcases hc with ⟨rfl, rfl⟩ | ⟨rfl, rfl⟩
    · exact DoesM.intro (f := Mod.senseFall (Pair.idx pr) 2) rfl ha (Mod.senseFall_frame 2 (Pair.idx_lt pr) h)
    · exact DoesM.intro (f := Mod.senseFall (Pair.idx pr) 3) rfl ha (Mod.senseFall_frame 3 (Pair.idx_lt pr) h)
  · intro t pr s ha h en
    exact DoesM.intro (f := Mod.senseRestore (Pair.idx pr)) rfl ha (Mod.senseRestore_frame (Pair.idx_lt pr) h en)
  · intro t a idx d s ha time role seg share entry en conf path near early room
    refine DoesM.intro (f := Mod.allocRx a) rfl ha ?_
    have own : (s.m.at t).allocShare a = some { orig := a.orig, num := a.num, dpm := 10 * d, tArr := a.tArr, conf := a.conf } := by
      change (s.m.at t).n E.SHARE_ROLE 0 = 1 at role
      change a.seg = (s.m.at t).n E.SEG_ID 0 at seg
      change (s.m.at t).n E.SHARE_IDX 0 = idx at share
      rw [Mod.allocShare, if_pos ⟨role, seg⟩, share, entry]
      rfl
    unfold Mod.allocRx
    rw [own]
    obtain ⟨only, count, there, pending⟩ := Mod.intentRx_frame (m := s.m.at t)
      (a := { orig := a.orig, num := a.num, dpm := 10 * d, tArr := a.tArr, conf := a.conf }) time en conf path near early room
    refine ⟨only.mono (by simp [cancelFams, countFams]), count, List.any_eq_true.2 ⟨_, there, ?_⟩, pending⟩
    simp [Mod.newIntent]
  · intro t a s ha h
    refine DoesM.intro (f := Mod.allocRx a) rfl ha ?_
    have none_ : (s.m.at t).allocShare a = none := by
      unfold Mod.allocShare
      split
      · rename_i c
        rcases h with h | h | h
        · exact absurd c.1 h
        · exact absurd c.2 h
        · rw [Option.map_eq_none_iff, List.find?_eq_none]
          intro e he
          simpa using List.all_eq_true.1 h e he
      · rfl
    unfold Mod.allocRx
    rw [none_]
    exact ⟨rfl, .refl _ _, .refl _ _, rfl⟩
  · intro t orig num i s ha h armed due
    refine DoesM.intro (f := Mod.intentArm orig num) rfl ha ?_
    rw [Mod.intentArm_eq (m := s.m.at t) h armed due]
    obtain ⟨only, yard⟩ := AtPhases.armFor ((s.m.at t).mapIntent orig num (fun j => { j with armed := true, iSysArm := (s.m.at t).reg.iPrev }))
      (mkRat i.conf 255 * i.dpm)
    exact ⟨OnlyFams.mono only (by simp [addFams, slotFams, countFams]), Mod.intents_of_yard yard⟩
  · intro t orig num i s ha h pre due
    refine DoesM.intro (f := Mod.prebiasStart orig num) rfl ha ?_
    rw [Mod.prebiasStart_eq (m := s.m.at t) h pre due]
    refine ⟨?_, Mod.intentShow_sameOd _⟩
    rw [List.any_eq_false]
    intro j hj c
    simp only [Bool.and_eq_true, beq_iff_eq, Bool.not_eq_true'] at c
    obtain ⟨⟨⟨ho, hn⟩, hp⟩, hpre⟩ := c
    obtain ⟨i, rfl⟩ := Mod.mem_mapIntent (Mod.mem_intentShow.2 hj) ho hn hp
    exact absurd hpre (by simp [Intent.preset])
  · intro t orig num i s ha h due
    refine DoesM.intro (f := Mod.intentWithdraw orig num) rfl ha ?_
    rw [Mod.intentWithdraw_eq (m := s.m.at t) h due]
    generalize s.m.at t = m
    have listed : ((m.mapIntent orig num m.withdrawn).inc E.INT_MISSED 0).intents = (m.mapIntent orig num m.withdrawn).intents := rfl
    have count : ((m.mapIntent orig num m.withdrawn).inc E.INT_MISSED 0).n E.INT_MISSED 0 = inc32 (m.n E.INT_MISSED 0) :=
      Mod.n_inc_same _ (by decide)
    have missed : SameOd [E.INT_MISSED.key 0] m ((m.mapIntent orig num m.withdrawn).inc E.INT_MISSED 0) := fun k hk =>
      Mod.odGet_setV_ne _ E.INT_MISSED 0 _ (by simpa using hk)
    generalize (m.mapIntent orig num m.withdrawn).inc E.INT_MISSED 0 = x at listed count missed
    refine ⟨(SameOd.n x.intentShow_sameOd E.INT_MISSED 0 (by decide +kernel)).trans count, ?_, ?_⟩
    · rw [Mod.pendingIntent, List.find?_eq_none]
      intro j hj c
      simp only [Bool.and_eq_true, beq_iff_eq] at c
      obtain ⟨⟨ho, hn⟩, hp⟩ := c
      obtain ⟨i, rfl⟩ := Mod.mem_mapIntent (listed ▸ Mod.mem_intentShow.2 hj) ho hn hp
      exact absurd hp (by simp [Mod.withdrawn])
    · exact (missed.mono (by simp)).trans (x.intentShow_sameOd.mono (by simp [intentKeys]))
  · intro t s ha due
    refine DoesM.intro (f := Mod.frExpiry) rfl ha ?_
    rw [Mod.frExpiry, if_pos due]
    exact ⟨Mod.deadline_disarm_same _ _, .refl _ _, .disarm _ (by simp), rfl⟩

end Sys2Proof
end

section
/-! PROOF. What becomes of a phase: adding, shedding, re-spacing, and its faults (R156, R163, R165, R171). -/

set_option Elab.async false

namespace Sys2Proof.Machine

open Sys2Proof

/-! ## Timers, and the slots of the other phases -/

theorem Mod.putSlots_timers (m : Mod) (order : List Nat) : (m.putSlots order).timers = m.timers :=
  foldl_keeps Mod.timers (fun (m : Mod) (x : Nat × Nat) => m.setN E.PH_SLOT x.1 x.2) (fun _ _ => rfl) _ m

theorem Mod.respace_timers (m : Mod) (g : Nat) : (m.respace g).timers = m.timers :=
  (Mod.countPhases_timers _).trans (m.putSlots_timers _)

theorem Mod.settleAdding_timers (m : Mod) (k : Nat) : (m.settleAdding k).timers = m.timers := by
  unfold Mod.settleAdding
  split <;> rfl

theorem phSlot_key_ne {p q : Nat} (h : p ≠ q) : E.PH_SLOT.key p ≠ E.PH_SLOT.key q := by
  simp only [Fam.key, Fam.index, E.PH_SLOT]
  omega

/-- A phase outside the order keeps its slot. -/
theorem Mod.putSlots_other (m : Mod) {order : List Nat} {p : Nat} (h : p ∉ order) : (m.putSlots order).n E.PH_SLOT p = m.n E.PH_SLOT p := by
  have all : ∀ (l : List (Nat × Nat)) (x : Mod), (∀ b ∈ l, b.1 ≠ p) → (l.foldl (fun (m : Mod) b => m.setN E.PH_SLOT b.1 b.2) x).n E.PH_SLOT p = x.n E.PH_SLOT p := by
    intro l
    induction l with
    | nil => exact fun _ _ => rfl
    | cons b r ih =>
      intro x hb
      have rest := ih (x.setN E.PH_SLOT b.1 b.2) fun c hc => hb c (List.mem_cons_of_mem _ hc)
      exact rest.trans (Mod.n_setN_ne x b.2 (phSlot_key_ne (hb b (by simp)).symm))
  refine all _ m fun b hb e => h ?_
  have := List.mem_map_of_mem (f := Prod.fst) hb
  rwa [List.zipIdx_map_fst, e] at this

/-- A phase that does not switch keeps its slot as its stage is spaced anew. -/
theorem Mod.respace_other (m : Mod) (g : Nat) {p : Nat} (hp : p < 16) (h : m.switches p = false) :
    (m.respace g).n E.PH_SLOT p = m.n E.PH_SLOT p := by
  have absent : p ∉ m.slotOrder g := fun hp => by
    obtain ⟨s, -, hp⟩ := List.mem_flatMap.1 hp
    have on := (List.mem_filter.1 (List.mem_filter.1 hp).1).2
    exact absurd (show m.switches p = true from on) (by simp [h])
  have apart : ∀ p < 16, E.PH_SLOT.key p ∉ countFams.flatMap Fam.keys := by decide +kernel
  have counted : ∀ x : Mod, x.countPhases.n E.PH_SLOT p = x.n E.PH_SLOT p := fun x => (AtPhases.countPhases x).1.n _ _ (apart p hp)
  exact (counted _).trans (m.putSlots_other absent)

/-! ## Rotation -/

/-- R173: the phases named stand one slot further. -/
def Mod.nextSlots (m : Mod) (n : Nat) (l : List Nat) : Mod := l.foldl (fun m p => m.setN E.PH_SLOT p ((m.n E.PH_SLOT p + 1) % n)) m

theorem Mod.nextSlots_timers (m : Mod) (n : Nat) (l : List Nat) : (m.nextSlots n l).timers = m.timers :=
  foldl_keeps Mod.timers (fun (m : Mod) p => m.setN E.PH_SLOT p ((m.n E.PH_SLOT p + 1) % n)) (fun _ _ => rfl) l m

theorem Mod.nextSlots_stg (m : Mod) (n : Nat) (l : List Nat) : (m.nextSlots n l).stg = m.stg :=
  foldl_keeps Mod.stg (fun (m : Mod) p => m.setN E.PH_SLOT p ((m.n E.PH_SLOT p + 1) % n)) (fun _ _ => rfl) l m

theorem Mod.nextSlots_other (m : Mod) (n : Nat) {l : List Nat} {p : Nat} (h : p ∉ l) : (m.nextSlots n l).n E.PH_SLOT p = m.n E.PH_SLOT p := by
  unfold Mod.nextSlots
  induction l generalizing m with
  | nil => rfl
  | cons q r ih =>
    obtain ⟨hq, hr⟩ := not_or.1 (fun e => h (List.mem_cons.2 e))
    exact (ih _ hr).trans (m.n_setN_ne _ (phSlot_key_ne hq))

theorem Mod.respLeft_modStg (m : Mod) (g j : Nat) {f : Stg → Stg} (hf : ∀ x, (f x).respLeft = x.respLeft) :
    ((m.modStg g f).stgOf j).respLeft = (m.stgOf j).respLeft := by
  by_cases h : j = g
  · rw [h]
    exact (congrArg Stg.respLeft (getD_modAt_same _ _ _ _)).trans (hf _)
  · exact congrArg Stg.respLeft (getD_modAt_ne _ _ _ h)

/-- A rotation event changes what its stage keeps, but not its re-spacing, and may give ACTIVE phases their next slots and count. -/
theorem Mod.rotationEvent_cases (m : Mod) (g : Nat) : ∃ x : Mod,
    (m.rotationEvent g = x ∨ ∃ n l, m.rotationEvent g = (x.nextSlots n l).inc E.ROT_COUNT g ∧ ∀ p ∈ l, m.n E.PH_STATE p = 4) ∧
    x.od = m.od ∧ x.timers = m.timers ∧ ∀ j, (x.stgOf j).respLeft = (m.stgOf j).respLeft := by
  unfold Mod.rotationEvent
  dsimp only
  split
  · exact ⟨_, .inl rfl, rfl, rfl, fun j => m.respLeft_modStg g j fun _ => rfl⟩
  · split
    · exact ⟨m, .inl rfl, rfl, rfl, fun _ => rfl⟩
    · split
      · refine ⟨_, .inr ⟨_, m.stageActive g, rfl, ?_⟩, rfl, rfl, fun j => ?_⟩
        · exact fun p hp => by simpa using (List.mem_filter.1 hp).2
        · rw [Mod.respLeft_modStg, Mod.respLeft_modStg] <;> exact fun _ => rfl
      · exact ⟨_, .inr ⟨0, [], rfl, fun _ h => nomatch h⟩, rfl, rfl, fun j => m.respLeft_modStg g j fun _ => rfl⟩

/-- What a rotation event leaves: timers, re-spacings, and the slots of phases that are not ACTIVE. -/
theorem Mod.rotationEvent_leaves (m : Mod) (g : Nat) : (m.rotationEvent g).timers = m.timers ∧
    (∀ j, ((m.rotationEvent g).stgOf j).respLeft = (m.stgOf j).respLeft) ∧
    ∀ p, m.n E.PH_STATE p ≠ 4 → (m.rotationEvent g).n E.PH_SLOT p = m.n E.PH_SLOT p := by
  obtain ⟨x, e | ⟨n, l, e, active⟩, od, timers, resp⟩ := m.rotationEvent_cases g
  · rw [e]
    refine ⟨timers, resp, fun p _ => ?_⟩
    unfold Mod.n Mod.getV
    rw [od]
  · rw [e]
    refine ⟨(x.nextSlots_timers n l).trans timers, fun j => Eq.trans ?_ (resp j), fun p hp => ?_⟩
    · exact congrArg (fun s : List Stg => ((s[j]?).getD {}).respLeft) (x.nextSlots_stg n l)
    · have apart : E.PH_SLOT.key p ≠ E.ROT_COUNT.key g := by
        simp only [Fam.key, Fam.index, E.PH_SLOT, E.ROT_COUNT]
        omega
      rw [Mod.n_inc_ne _ apart, Mod.nextSlots_other _ n fun h => hp (active p h)]
      unfold Mod.n Mod.getV
      rw [od]

theorem Mod.rotationResume_leaves (m : Mod) (g : Nat) : (m.rotationResume g).timers = m.timers ∧
    (∀ j, ((m.rotationResume g).stgOf j).respLeft = (m.stgOf j).respLeft) ∧
    ∀ p, m.n E.PH_STATE p ≠ 4 → (m.rotationResume g).n E.PH_SLOT p = m.n E.PH_SLOT p := by
  unfold Mod.rotationResume
  split
  · obtain ⟨timers, resp, slots⟩ := (m.modStg g (fun x => { x with rotPending := false })).rotationEvent_leaves g
    exact ⟨timers, fun j => (resp j).trans (m.respLeft_modStg g j fun _ => rfl), slots⟩
  · exact ⟨rfl, fun _ => rfl, fun _ _ => rfl⟩

/-! ## A phase that starts -/

theorem stageOf_lt (p : Nat) : stageOf p < 2 := by
  unfold stageOf
  split <;> decide

theorem f32_zero : f32ToRat (f32OfRat 0) = 0 := by decide +kernel

theorem Mod.respace_resp (m : Mod) (g : Nat) : ((m.respace g).stgOf g).respLeft = m.n E.STG_RESPACE g := by
  have stg := Mod.stg_of_plant (Mod.plant_countPhases ((m.putSlots (m.slotOrder g)).modStg g
    (fun x => { x with respLeft := m.n E.STG_RESPACE g, rotLeft := 0 })))
  have spaced := congrArg (fun s : List Stg => ((s[g]?).getD {}).respLeft) stg
  exact spaced.trans (congrArg Stg.respLeft (getD_modAt_same _ _ _ _))

theorem phaseKeys_apart : ∀ p < 16, (∀ f ∈ [E.PH_STATE, E.PH_ADDS, E.PH_IREF, E.PH_FAULT, E.PH_TAP], f.key p ∉ slotFams.flatMap Fam.keys) ∧
    E.PH_STATE.key p ≠ E.PH_ADDS.key p ∧ E.PH_STATE.key p ≠ E.PH_IREF.key p ∧ E.PH_ADDS.key p ≠ E.PH_IREF.key p := by decide +kernel

/-- R163: what a phase that starts shows and keeps before spacing begins anew. -/
theorem Mod.phaseBegun_does (m : Mod) {p : Nat} (hp : p < 16) : (m.phaseBegun p).n E.PH_STATE p = 3 ∧
    (m.phaseBegun p).n E.PH_ADDS p = inc32 (m.n E.PH_ADDS p) ∧ (m.phaseBegun p).q E.PH_IREF p = 0 ∧
    (m.phaseBegun p).deadline (.arming p) = none := by
  obtain ⟨slots, sa, si, ai⟩ := phaseKeys_apart p hp
  have within : [E.PH_SLOT] ⊆ slotFams := by simp [slotFams]
  have joined := ((AtPhases.joinGap (fs := [E.PH_SLOT]) (m.setN E.PH_STATE p 3) (stageOf p) p (by simp)).1).mono within
  have state := joined.n _ _ (slots E.PH_STATE (by simp))
  have adds := joined.n _ _ (slots E.PH_ADDS (by simp))
  rw [Mod.n_setN_same _ _ hp] at state
  rw [Mod.n_setN_ne _ _ sa.symm] at adds
  unfold Mod.phaseBegun
  generalize (m.setN E.PH_STATE p 3).joinGap (stageOf p) p = x at state adds
  dsimp only
  have same : ∀ (y : Mod) (f : Fam), (((y.disarm (.arming p)).disarm (.armHold p)).modPh p Ph.started).n f p = y.n f p := fun _ _ => rfl
  have ended : ∀ y : Mod, (((y.disarm (.arming p)).disarm (.armHold p)).modPh p Ph.started).deadline (.arming p) = none := fun y =>
    ((y.disarm (.arming p)).deadline_disarm_ne (T := .armHold p) (U := .arming p) (by simp)).trans (y.deadline_disarm_same _)
  refine ⟨?_, ?_, ?_, ended _⟩
  · rw [same, Mod.setQ, Mod.n_setN_ne _ _ si, Mod.n_inc_ne _ sa, state]
  · rw [same, Mod.setQ, Mod.n_setN_ne _ _ ai, Mod.n_inc_same _ hp, adds]
  · unfold Mod.q
    rw [same, Mod.setQ, Mod.n_setN_same _ _ hp]
    exact f32_zero

/-- R163: a phase that starts. -/
theorem Mod.startPhase_does (m : Mod) {p : Nat} (hp : p < 16) : OnlyFams addFams m (m.startPhase p) ∧ (m.startPhase p).n E.PH_STATE p = 3 ∧
    (m.startPhase p).n E.PH_ADDS p = inc32 (m.n E.PH_ADDS p) ∧ (m.startPhase p).q E.PH_IREF p = 0 ∧
    (m.startPhase p).deadline (.arming p) = none ∧ ((m.startPhase p).stgOf (stageOf p)).respLeft = m.n E.STG_RESPACE (stageOf p) := by
  obtain ⟨slots, -⟩ := phaseKeys_apart p hp
  obtain ⟨state, adds, iref, arming⟩ := m.phaseBegun_does hp
  have begun := (AtPhases.phaseBegun m p).1
  have apart : ∀ g < 2, E.STG_RESPACE.key g ∉ addFams.flatMap Fam.keys := by decide +kernel
  have resp := (Mod.respace_resp (m.phaseBegun p) (stageOf p)).trans (begun.n _ _ (apart _ (stageOf_lt p)))
  have spaced := (AtPhases.respace (m.phaseBegun p) (stageOf p)).1
  have timers := (m.phaseBegun p).respace_timers (stageOf p)
  rw [Mod.startPhase_eq]
  refine ⟨begun.trans (spaced.mono (List.subset_append_right _ _)), ?_, ?_, ?_, ?_, resp⟩
  · rw [spaced.n _ _ (slots E.PH_STATE (by simp)), state]
  · rw [spaced.n _ _ (slots E.PH_ADDS (by simp)), adds]
  · unfold Mod.q at iref ⊢
    rw [spaced.n _ _ (slots E.PH_IREF (by simp)), iref]
  · unfold Mod.deadline at arming ⊢
    rw [timers]
    exact arming

/-! ## A phase that is off -/

/-- R27, R171: a phase that is off holds no slot and has no reference. -/
theorem Mod.phaseOff_does (m : Mod) {p : Nat} (st : Nat) (hp : p < 16) : (m.phaseOff p st).n E.PH_STATE p = st ∧
    (m.phaseOff p st).n E.PH_SLOT p = 0xFF ∧ (m.phaseOff p st).q E.PH_IREF p = 0 := by
  have apart : ∀ p < 16, E.PH_STATE.key p ≠ E.PH_SLOT.key p ∧ E.PH_STATE.key p ≠ E.PH_IREF.key p ∧ E.PH_STATE.key p ≠ E.PH_I.key p ∧
      E.PH_SLOT.key p ≠ E.PH_IREF.key p ∧ E.PH_SLOT.key p ≠ E.PH_I.key p ∧ E.PH_IREF.key p ≠ E.PH_I.key p := by decide +kernel
  obtain ⟨ss, si, sc, li, lc, ic⟩ := apart p hp
  have n : ∀ f : Fam, (m.phaseOff p st).n f p = ((((m.setN E.PH_STATE p st).setN E.PH_SLOT p 0xFF).setQ E.PH_IREF p 0).setQ E.PH_I p 0).n f p :=
    fun _ => rfl
  refine ⟨?_, ?_, ?_⟩
  · rw [n, Mod.setQ, Mod.n_setN_ne _ _ sc, Mod.setQ, Mod.n_setN_ne _ _ si, Mod.n_setN_ne _ _ ss, Mod.n_setN_same _ _ hp]
  · rw [n, Mod.setQ, Mod.n_setN_ne _ _ lc, Mod.setQ, Mod.n_setN_ne _ _ li, Mod.n_setN_same _ _ hp]
  · unfold Mod.q
    rw [n, Mod.setQ, Mod.n_setN_ne _ _ ic, Mod.setQ, Mod.n_setN_same _ _ hp]
    exact f32_zero

theorem Mod.switches_state {m : Mod} {p st : Nat} (h : m.n E.PH_STATE p = st) (hs : st ≠ 3 ∧ st ≠ 4 ∧ st ≠ 5) : m.switches p = false := by
  unfold Mod.switches
  rw [h]
  simp [hs]

/-! ## Shedding -/

/-- R165: a phase that has left is ARMED for STG_ARM_HOLD. -/
theorem Mod.shedEnd_does (m : Mod) {p : Nat} (hp : p < 16) : OnlyFams (offFams ++ countFams) m (m.shedEnd p) ∧
    (m.shedEnd p).n E.PH_STATE p = 2 ∧ (m.shedEnd p).n E.PH_SLOT p = 0xFF ∧ (m.shedEnd p).q E.PH_IREF p = 0 ∧
    (m.shedEnd p).deadline (.armHold p) = some (m.tb + ms (m.n E.STG_ARM_HOLD (stageOf p))) := by
  obtain ⟨off, -⟩ := AtPhases.phaseOff m p 2
  obtain ⟨state, slot, iref⟩ := m.phaseOff_does 2 hp
  obtain ⟨slots, -⟩ := phaseKeys_apart p hp
  have ended : m.shedEnd p = ((m.phaseOff p 2).arm (.armHold p) (m.tb + ms (m.n E.STG_ARM_HOLD (stageOf p)))).respace (stageOf p) := rfl
  rw [ended]
  generalize m.phaseOff p 2 = x at off state slot iref
  have armed : ∀ f i, (x.arm (.armHold p) (m.tb + ms (m.n E.STG_ARM_HOLD (stageOf p)))).n f i = x.n f i := fun _ _ => rfl
  have due : (x.arm (.armHold p) (m.tb + ms (m.n E.STG_ARM_HOLD (stageOf p)))).deadline (.armHold p) =
    some (m.tb + ms (m.n E.STG_ARM_HOLD (stageOf p))) := Mod.deadline_arm_same _ _ _
  have same : (x.arm (.armHold p) (m.tb + ms (m.n E.STG_ARM_HOLD (stageOf p)))).od = x.od := rfl
  generalize x.arm (.armHold p) (m.tb + ms (m.n E.STG_ARM_HOLD (stageOf p))) = y at armed due same
  have quiet : y.switches p = false := Mod.switches_state ((armed _ _).trans state) (by decide)
  have spaced := (AtPhases.respace y (stageOf p)).1
  refine ⟨?_, ?_, ?_, ?_, ?_⟩
  · exact ((off.of_od same).mono (List.subset_append_left _ _)).trans (spaced.mono (by simp [slotFams, offFams, countFams]))
  · rw [spaced.n _ _ (slots E.PH_STATE (by simp)), armed, state]
  · rw [y.respace_other (stageOf p) hp quiet, armed, slot]
  · unfold Mod.q at iref ⊢
    rw [spaced.n _ _ (slots E.PH_IREF (by simp)), armed, iref]
  · unfold Mod.deadline at due ⊢
    rw [y.respace_timers]
    exact due

/-- R116: a phase's tap shows the group. -/
theorem Mod.tap_does (m : Mod) {p : Nat} (k : Nat) (hp : p < 16) : OnlyFams (E.PH_TAP :: countFams) m (m.tap p k) ∧ (m.tap p k).n E.PH_TAP p = k ∧
    (∀ f ∈ [E.PH_STATE, E.PH_SLOT, E.PH_IREF], (m.tap p k).n f p = m.n f p) ∧ (m.tap p k).timers = m.timers := by
  have apart : ∀ p < 16, E.PH_TAP.key p ∉ countFams.flatMap Fam.keys ∧
      ∀ f ∈ [E.PH_STATE, E.PH_SLOT, E.PH_IREF], f.key p ≠ E.PH_TAP.key p ∧ f.key p ∉ countFams.flatMap Fam.keys := by decide +kernel
  obtain ⟨tapKey, others⟩ := apart p hp
  have counted := (AtPhases.countPhases (m.setN E.PH_TAP p k)).1
  refine ⟨?_, ?_, fun f hf => ?_, Mod.countPhases_timers _⟩
  · exact (OnlyFams.setV (f := E.PH_TAP) m p _ (by simp)).trans (counted.mono (List.subset_cons_self _ _))
  · exact (counted.n _ _ tapKey).trans (Mod.n_setN_same _ _ hp)
  · exact (counted.n _ _ (others f hf).2).trans (Mod.n_setN_ne _ _ (others f hf).1)

/-- R167: a phase is tapped to the group it was freed for. -/
def Mod.tapTo (m : Mod) (p : Nat) : Option Nat → Mod
  | some k => m.tap p k
  | none => m

theorem Mod.shedDone_eq {m : Mod} {p : Nat} (h : m.n E.PH_STATE p = 5) (ramp : m.n E.STG_SHED_RAMP (stageOf p) ≤ (m.phOf p).step) :
    m.shedDone p = ((m.shedEnd p).tapTo p (m.phOf p).retap).rotationResume (stageOf p) := by
  unfold Mod.shedDone
  dsimp only
  rw [if_pos (by simp [h, ramp])]
  cases (m.phOf p).retap <;> rfl

/-- What a phase that is shed touches. -/
def shedFams : List Fam := offFams ++ countFams ++ [E.PH_TAP, E.ROT_COUNT]

/-- R165, R167, R173: a phase is shed at the end of its ramp. -/
theorem Mod.shedDone_does {m : Mod} {p : Nat} (hp : p < 16) (h : m.n E.PH_STATE p = 5)
    (ramp : m.n E.STG_SHED_RAMP (stageOf p) ≤ (m.phOf p).step) : OnlyFams shedFams m (m.shedDone p) ∧
    (m.shedDone p).n E.PH_STATE p = 2 ∧ (m.shedDone p).n E.PH_SLOT p = 0xFF ∧ (m.shedDone p).q E.PH_IREF p = 0 ∧
    (m.shedDone p).deadline (.armHold p) = some (m.tb + ms (m.n E.STG_ARM_HOLD (stageOf p))) ∧
    ∀ k, (m.phOf p).retap = some k → (m.shedDone p).n E.PH_TAP p = k := by
  obtain ⟨only, state, slot, iref, hold⟩ := m.shedEnd_does hp
  rw [Mod.shedDone_eq h ramp]
  generalize m.shedEnd p = x at only state slot iref hold
  have tapped : OnlyFams shedFams m (x.tapTo p (m.phOf p).retap) ∧ (∀ f ∈ [E.PH_STATE, E.PH_SLOT, E.PH_IREF],
      (x.tapTo p (m.phOf p).retap).n f p = x.n f p) ∧ (x.tapTo p (m.phOf p).retap).timers = x.timers ∧
      ∀ k, (m.phOf p).retap = some k → (x.tapTo p (m.phOf p).retap).n E.PH_TAP p = k := by
    have before := only.mono (List.subset_append_left (offFams ++ countFams) [E.PH_TAP, E.ROT_COUNT])
    cases (m.phOf p).retap with
    | none => exact ⟨before, fun _ _ => rfl, rfl, fun _ h => nomatch h⟩
    | some k =>
      obtain ⟨tap, here, others, timers⟩ := x.tap_does k hp
      exact ⟨before.trans (tap.mono (by simp [countFams])), others, timers, fun j e => by cases e; exact here⟩
  obtain ⟨all, others, timers, tap⟩ := tapped
  generalize x.tapTo p (m.phOf p).retap = y at all others timers tap
  have st := (others E.PH_STATE (by simp)).trans state
  obtain ⟨kept, -, slots⟩ := y.rotationResume_leaves (stageOf p)
  have resumed := (AtPhases.rotationResume y (stageOf p)).1
  have apart : ∀ p < 16, ∀ f ∈ [E.PH_STATE, E.PH_IREF, E.PH_TAP], f.key p ∉ [E.PH_SLOT, E.ROT_COUNT].flatMap Fam.keys := by decide +kernel
  refine ⟨all.trans (resumed.mono (by simp [shedFams, offFams])), ?_, ?_, ?_, ?_, fun k e => ?_⟩
  · rw [resumed.n _ _ (apart p hp _ (by simp)), st]
  · rw [slots p (by omega), others E.PH_SLOT (by simp), slot]
  · unfold Mod.q at iref ⊢
    rw [resumed.n _ _ (apart p hp _ (by simp)), others E.PH_IREF (by simp), iref]
  · unfold Mod.deadline at hold ⊢
    rw [kept, timers]
    exact hold
  · rw [resumed.n _ _ (apart p hp _ (by simp)), tap k e]

/-! ## A phase that is ACTIVE -/

/-- R163, R165: the count of a stage's ACTIVE phases. -/
theorem Mod.countPhases_nact (m : Mod) {g : Nat} (hg : g < 2) :
    m.countPhases.n E.STG_NACT g = ((stagePhases g).filter (fun p => m.n E.PH_STATE p == 4)).length := by
  have inputs : ∀ (k v : Nat) (x : Mod), (x.setN E.IN_PHASES k v).n E.STG_NACT g = x.n E.STG_NACT g := fun k v x => by
    refine Mod.n_setN_ne x v ?_
    simp only [Fam.key, Fam.index, E.STG_NACT, E.IN_PHASES]
    omega
  unfold Mod.countPhases
  dsimp only
  rw [Mod.each_keeps (fun x : Mod => x.n E.STG_NACT g) _ fun k x => inputs k _ x]
  have : g = 0 ∨ g = 1 := by omega
  rcases this with rfl | rfl
  · rw [Mod.n_setN_ne _ _ (by decide), Mod.n_setN_same _ _ (by decide)]
  · rw [Mod.n_setN_same _ _ (by decide)]

theorem AtPhases.groupRefs (m : Mod) (k : Nat) : AtPhases [E.PH_IREF] m (m.groupRefs k) := by
  unfold Mod.groupRefs
  extract_lets ps n iref share ramp part moving act rest
  split
  · exact .refl _ m
  · exact .foldl (f := fun (m : Mod) p => m.setQ E.PH_IREF p
      (clampR (-m.phaseTop p) (m.phaseTop p) (if m.n E.PH_STATE p == 4 then rest else part p)))
      (fun x p => .setV (f := E.PH_IREF) x p _ (by simp)) ps m

theorem Mod.groupRefs_phs (m : Mod) (k : Nat) : (m.groupRefs k).phs = m.phs := by
  unfold Mod.groupRefs
  extract_lets ps n iref share ramp part moving act rest
  split
  · rfl
  · exact foldl_keeps Mod.phs (fun (m : Mod) p => m.setQ E.PH_IREF p
      (clampR (-m.phaseTop p) (m.phaseTop p) (if m.n E.PH_STATE p == 4 then rest else part p))) (fun _ _ => rfl) ps m

theorem Mod.phs_of_plant {m m' : Mod} (h : m'.plant = m.plant) : m'.phs = m.phs := by
  have same := congrArg Mod.phs h
  exact same

/-- R163: what a phase that has become ACTIVE keeps. -/
def Ph.activeFrom (t : Nat) (x : Ph) : Ph := { x with step := 0, activeSince := t, aboveAdd := 0 }

theorem Mod.addDone_eq {m : Mod} {p : Nat} (h : m.n E.PH_STATE p = 3) (step : 2 ≤ (m.phOf p).step) :
    m.addDone p = (((((m.setN E.PH_STATE p 4).modPh p (Ph.activeFrom m.tb)).settleAdding (m.n E.PH_TAP p)).countPhases).groupRefs (m.n E.PH_TAP p)) := by
  unfold Mod.addDone
  rw [if_pos (by simp [h, step])]
  rfl

/-- R163: a phase is ACTIVE after two periods, and its stage's count follows. -/
theorem Mod.addDone_does {m : Mod} {p : Nat} (hp : p < 16) (h : m.n E.PH_STATE p = 3) (step : 2 ≤ (m.phOf p).step) :
    OnlyFams ([E.IN_PHASES, E.PH_IREF, E.PH_STATE, E.STG_NACT]) m (m.addDone p) ∧ (m.addDone p).n E.PH_STATE p = 4 ∧
    ((m.addDone p).phOf p).activeSince = m.tb ∧
    (m.addDone p).n E.STG_NACT (stageOf p) = ((stagePhases (stageOf p)).filter (fun q => (m.addDone p).n E.PH_STATE q == 4)).length := by
  rw [Mod.addDone_eq h step]
  generalize m.n E.PH_TAP p = k
  have begun : OnlyFams [E.IN_PHASES, E.PH_IREF, E.PH_STATE, E.STG_NACT] m ((m.setN E.PH_STATE p 4).modPh p (Ph.activeFrom m.tb)) :=
    .of_od (.setV (f := E.PH_STATE) m p (.num 4) (by simp)) rfl
  have state : ((m.setN E.PH_STATE p 4).modPh p (Ph.activeFrom m.tb)).n E.PH_STATE p = 4 := Mod.n_setN_same m 4 hp
  have since : ((m.setN E.PH_STATE p 4).modPh p (Ph.activeFrom m.tb)).phOf p = Ph.activeFrom m.tb (m.phOf p) := getD_modAt_same _ _ _ _
  generalize (m.setN E.PH_STATE p 4).modPh p (Ph.activeFrom m.tb) = x at begun state since
  have settled : ∀ f i, (x.settleAdding k).n f i = x.n f i := fun f i => by
    unfold Mod.settleAdding
    split <;> rfl
  have phs : (x.settleAdding k).phs = x.phs := by
    unfold Mod.settleAdding
    split <;> rfl
  have keeps := (AtPhases.settleAdding [E.IN_PHASES, E.PH_IREF, E.PH_STATE, E.STG_NACT] x k).1
  generalize x.settleAdding k = y at settled phs keeps
  have counted := (AtPhases.countPhases y).1
  have phs' := (Mod.phs_of_plant y.plant_countPhases).trans phs
  have nact := y.countPhases_nact (stageOf_lt p)
  have states : ∀ q, y.countPhases.n E.PH_STATE q = y.n E.PH_STATE q := fun q => counted.n_sub q (by decide)
  generalize y.countPhases = z at counted phs' nact states
  have refs := (AtPhases.groupRefs z k).1
  have kept : ∀ q, (z.groupRefs k).n E.PH_STATE q = z.n E.PH_STATE q := fun q => refs.n_sub q (by decide)
  refine ⟨((begun.trans keeps).trans (counted.mono (by simp [countFams]))).trans (refs.mono (by simp)), ?_, ?_, ?_⟩
  · rw [kept, states, settled, state]
  · unfold Mod.phOf at since ⊢
    rw [Mod.groupRefs_phs, phs', since]
    rfl
  · have apart : ∀ g < 2, E.STG_NACT.key g ∉ [E.PH_IREF].flatMap Fam.keys := by decide +kernel
    rw [refs.n _ _ (apart _ (stageOf_lt p)), nact]
    simp only [kept, states]

/-! ## An ordinary shed -/

/-- R165: the phase that has been ACTIVE longest is one of its group. -/
theorem Mod.longestActive_mem {m : Mod} {k p : Nat} (h : m.longestActive k = some p) : p ∈ m.active k := by
  have all : ∀ (l : List Nat) (acc : Option Nat), l.foldl (fun (acc : Option Nat) p =>
      match acc with
      | none => some p
      | some q => if (m.phOf p).activeSince < (m.phOf q).activeSince then some p else some q) acc = some p → acc = some p ∨ p ∈ l := by
    intro l
    induction l with
    | nil => exact fun _ h => .inl h
    | cons q r ih =>
      intro acc h
      rcases ih _ h with e | e
      · cases acc with
        | none => exact .inr (by simp_all)
        | some a =>
          dsimp only at e
          split at e
          · exact .inr (by simp_all)
          · exact .inl e
      · exact .inr (List.mem_cons_of_mem _ e)
  rcases all _ _ h with e | e
  · exact absurd e (by simp)
  · exact e

theorem mem_stagePhases {g p : Nat} (h : p ∈ stagePhases g) (hg : g < 2) : p < 16 := by
  obtain ⟨j, hj, rfl⟩ := List.mem_map.1 h
  have := List.mem_range.1 hj
  omega

theorem Mod.groupShedding_of_stage {m : Mod} {k : Nat} (h : m.anyShedding (groupStage k) = false) : m.groupShedding k = false := by
  unfold Mod.anyShedding at h
  unfold Mod.groupShedding
  rw [List.any_eq_false] at h ⊢
  exact fun p hp => h p (List.mem_filter.1 hp).1

theorem Mod.shedStart_does (m : Mod) {p : Nat} (dest : Option Nat) (hp : p < 16) : (m.shedStart p dest).n E.PH_STATE p = 5 ∧
    SameOd (E.PH_STATE.key p :: (E.STG_NACT.keys ++ E.IN_PHASES.keys)) m (m.shedStart p dest) := by
  have begun : SameOd (E.PH_STATE.key p :: (E.STG_NACT.keys ++ E.IN_PHASES.keys)) m ((m.setN E.PH_STATE p 5).modPh p
      (fun x => { x with step := 0, retap := dest })) := fun k hk => m.odGet_setV_ne E.PH_STATE p _ fun e => hk (List.mem_cons.2 (.inl e))
  have state : ((m.setN E.PH_STATE p 5).modPh p (fun x => { x with step := 0, retap := dest })).n E.PH_STATE p = 5 := Mod.n_setN_same m 5 hp
  have shed : m.shedStart p dest = ((m.setN E.PH_STATE p 5).modPh p (fun x => { x with step := 0, retap := dest })).countPhases := rfl
  rw [shed]
  generalize (m.setN E.PH_STATE p 5).modPh p (fun x => { x with step := 0, retap := dest }) = x at begun state
  have counted := (AtPhases.countPhases x).1
  refine ⟨(counted.n_sub p (by decide)).trans state, begun.trans (SameOd.mono counted fun k hk => List.mem_cons_of_mem _ ?_)⟩
  simpa [countFams] using hk

theorem Mod.shedExpiry_eq {m : Mod} {k p : Nat} (due : m.due (.shed k) = true) (holds : m.shedHolds k = true)
    (none_ : m.anyShedding (groupStage k) = false) (h : m.longestActive k = some p) :
    m.shedExpiry k = (m.shedStart p none).disarm (.shed k) := by
  unfold Mod.shedExpiry
  rw [if_pos (by simp [due, holds, Mod.groupShedding_of_stage none_]), h]

/-! ## A phase fault -/

theorem phaseFault_class : ∀ g < 2, ∀ c < 3, srcClass (1 + g) c = some 2 := by decide

/-- R171: a phase that is FAULTED leaves its sequence and its stage. -/
def Mod.faulted (m : Mod) (p cause : Nat) : Mod :=
  let m := ((m.phaseOff p 6).setN E.PH_FAULT p cause).disarm (.arming p)
  ((m.disarm (.armHold p)).settleAdding (m.n E.PH_TAP p)).countPhases

/-- R156: a stage spaces anew where the phase switched. -/
def Mod.respaceIf (m : Mod) (g : Nat) (was : Bool) : Mod := if was then m.respace g else m

theorem Mod.phaseFault_eq {m : Mod} {p cause : Nat} (hp : p < 16) (lo : 1 ≤ cause) (hi : cause ≤ 3) (h : m.n E.PH_STATE p ≠ 6)
    (run : cause = 1 → 8 ≤ (m.phOf p).peakRun) : m.phaseFault p cause =
      ((m.faulted p cause).respaceIf (stageOf p) (m.switches p)).raise (1 + stageOf p) (cause - 1) (some p) := by
  unfold Mod.phaseFault
  rw [if_pos (by
    simp only [hp, lo, hi, decide_true, Bool.true_and, Bool.and_eq_true, bne_iff_ne, ne_eq, h, not_false_eq_true, Bool.or_eq_true, decide_eq_true_eq, true_and]
    by_cases c : cause = 1
    · exact .inr (run c)
    · exact .inl c)]
  rfl

/-- What a phase fault touches before its source is raised. -/
def faultedFams : List Fam := E.PH_FAULT :: (offFams ++ countFams)

theorem Mod.faulted_does (m : Mod) {p : Nat} (cause : Nat) (hp : p < 16) : OnlyFams faultedFams m (m.faulted p cause) ∧
    (m.faulted p cause).n E.PH_STATE p = 6 ∧ (m.faulted p cause).n E.PH_FAULT p = cause ∧ (m.faulted p cause).n E.PH_SLOT p = 0xFF ∧
    (m.faulted p cause).q E.PH_IREF p = 0 ∧ (m.faulted p cause).deadline (.arming p) = none := by
  have apart : ∀ p < 16, (∀ f ∈ [E.PH_STATE, E.PH_FAULT, E.PH_SLOT, E.PH_IREF], f.key p ∉ countFams.flatMap Fam.keys) ∧
      ∀ f ∈ [E.PH_STATE, E.PH_SLOT, E.PH_IREF], f.key p ≠ E.PH_FAULT.key p := by decide +kernel
  obtain ⟨counts, faults⟩ := apart p hp
  obtain ⟨off, -⟩ := AtPhases.phaseOff m p 6
  obtain ⟨state, slot, iref⟩ := m.phaseOff_does 6 hp
  unfold Mod.faulted
  dsimp only
  generalize m.phaseOff p 6 = x at off state slot iref
  generalize hk : ((x.setN E.PH_FAULT p cause).disarm (.arming p)).n E.PH_TAP p = k
  have shown : ∀ f, (((x.setN E.PH_FAULT p cause).disarm (.arming p)).disarm (.armHold p)).n f p = (x.setN E.PH_FAULT p cause).n f p := fun _ => rfl
  have od : (((x.setN E.PH_FAULT p cause).disarm (.arming p)).disarm (.armHold p)).od = (x.setN E.PH_FAULT p cause).od := rfl
  have ended : (((x.setN E.PH_FAULT p cause).disarm (.arming p)).disarm (.armHold p)).deadline (.arming p) = none :=
    (((x.setN E.PH_FAULT p cause).disarm (.arming p)).deadline_disarm_ne (T := .armHold p) (U := .arming p) (by simp)).trans
      (Mod.deadline_disarm_same _ _)
  generalize ((x.setN E.PH_FAULT p cause).disarm (.arming p)).disarm (.armHold p) = y at shown od ended
  have settled := (AtPhases.settleAdding [] y k).1
  have st := y.settleAdding_timers k
  generalize y.settleAdding k = z at settled st
  have same : ∀ f, z.n f p = y.n f p := fun f => settled.n f p (by simp)
  have counted := (AtPhases.countPhases z).1
  have ct := z.countPhases_timers
  have first : OnlyFams faultedFams m z := (OnlyFams.of_od ((off.mono (by simp [faultedFams, offFams])).set (f := E.PH_FAULT)
    (by simp [faultedFams])) od).trans (settled.mono (by simp))
  refine ⟨first.trans (counted.mono (by simp [faultedFams])), ?_, ?_, ?_, ?_, ?_⟩
  · rw [counted.n _ _ (counts E.PH_STATE (by simp)), same, shown, Mod.n_setN_ne _ _ (faults E.PH_STATE (by simp)), state]
  · rw [counted.n _ _ (counts E.PH_FAULT (by simp)), same, shown, Mod.n_setN_same _ _ hp]
  · rw [counted.n _ _ (counts E.PH_SLOT (by simp)), same, shown, Mod.n_setN_ne _ _ (faults E.PH_SLOT (by simp)), slot]
  · unfold Mod.q at iref ⊢
    rw [counted.n _ _ (counts E.PH_IREF (by simp)), same, shown, Mod.n_setN_ne _ _ (faults E.PH_IREF (by simp)), iref]
  · unfold Mod.deadline at ended ⊢
    rw [ct, st]
    exact ended

theorem Mod.respaceIf_does (m : Mod) {p : Nat} (was : Bool) (hp : p < 16) (h : m.n E.PH_STATE p = 6) :
    OnlyFams slotFams m (m.respaceIf (stageOf p) was) ∧ (∀ f ∈ [E.PH_STATE, E.PH_FAULT, E.PH_IREF, E.PH_SLOT],
      (m.respaceIf (stageOf p) was).n f p = m.n f p) ∧ (m.respaceIf (stageOf p) was).timers = m.timers := by
  cases was
  · exact ⟨.refl _ m, fun _ _ => rfl, rfl⟩
  · have spaced := (AtPhases.respace m (stageOf p)).1
    have on : m.respaceIf (stageOf p) true = m.respace (stageOf p) := if_pos rfl
    rw [on]
    refine ⟨spaced, fun f hf => ?_, m.respace_timers _⟩
    obtain ⟨slots, -⟩ := phaseKeys_apart p hp
    simp only [List.mem_cons, List.not_mem_nil, or_false] at hf
    rcases hf with rfl | rfl | rfl | rfl
    · exact spaced.n _ _ (slots E.PH_STATE (by simp))
    · exact spaced.n _ _ (slots E.PH_FAULT (by simp))
    · exact spaced.n _ _ (slots E.PH_IREF (by simp))
    · exact m.respace_other _ hp (Mod.switches_state h (by decide))

/-- R171: a phase fault: the phase is FAULTED, and its stage's block has the source. -/
theorem Mod.phaseFault_does {m : Mod} {p cause : Nat} (hp : p < 16) (lo : 1 ≤ cause) (hi : cause ≤ 3) (h : m.n E.PH_STATE p ≠ 6)
    (run : cause = 1 → 8 ≤ (m.phOf p).peakRun) : OnlyFams (tripFams ++ [E.PH_FAULT]) m (m.phaseFault p cause) ∧
    (m.phaseFault p cause).n E.PH_STATE p = 6 ∧ (m.phaseFault p cause).n E.PH_FAULT p = cause ∧ (m.phaseFault p cause).n E.PH_SLOT p = 0xFF ∧
    (m.phaseFault p cause).q E.PH_IREF p = 0 ∧ (m.phaseFault p cause).deadline (.arming p) = none ∧ (m.phaseFault p cause).excluded p = true ∧
    (m.phaseFault p cause).bitOf E.FLT_ACTIVE (1 + stageOf p) (cause - 1) = true := by
  obtain ⟨only, state, fault, slot, iref, arming⟩ := m.faulted_does cause hp
  rw [Mod.phaseFault_eq hp lo hi h run]
  generalize m.faulted p cause = x at only state fault slot iref arming
  obtain ⟨spaced, same, timers⟩ := x.respaceIf_does (m.switches p) hp state
  generalize x.respaceIf (stageOf p) (m.switches p) = y at spaced same timers
  have cls := phaseFault_class _ (stageOf_lt p) (cause - 1) (by omega)
  have raised := OnlyFams.raiseAs_noticeFams y (1 + stageOf p) (cause - 1) (cls := 2) (some p) (by decide)
  have all := OnlyFams.raise y (1 + stageOf p) (cause - 1) (some p)
  have notice := SameTimers.raiseAs_notice y (1 + stageOf p) (cause - 1) (cls := 2) (some p) (by decide)
  rw [Mod.raise_eq y _ cls] at all ⊢
  have apart : ∀ p < 16, ∀ f ∈ [E.PH_STATE, E.PH_FAULT, E.PH_IREF, E.PH_SLOT], f.key p ∉ noticeFams.flatMap Fam.keys := by decide +kernel
  have kept : ∀ f ∈ [E.PH_STATE, E.PH_FAULT, E.PH_IREF, E.PH_SLOT], (y.raiseAs (1 + stageOf p) (cause - 1) 2 (some p)).n f p = x.n f p :=
    fun f hf => (raised.n f p (apart p hp f hf)).trans (same f hf)
  have ended : (y.raiseAs (1 + stageOf p) (cause - 1) 2 (some p)).deadline (.arming p) = none := by
    rw [notice (.arming p) (by simp [noticeTimers])]
    unfold Mod.deadline at arming ⊢
    rw [timers]
    exact arming
  have st := (kept E.PH_STATE (by simp)).trans state
  refine ⟨((only.mono ?_).trans (spaced.mono ?_)).trans (all.mono fun f hf => by simp [tripFams, hf]), st, (kept E.PH_FAULT (by simp)).trans fault,
    (kept E.PH_SLOT (by simp)).trans slot, ?_, ended, ?_, ?_⟩
  · exact fun f hf => by
      simp only [faultedFams, offFams, countFams, List.cons_append, List.nil_append, List.mem_cons, List.not_mem_nil, or_false] at hf
      rcases hf with rfl | rfl | rfl | rfl | rfl | rfl | rfl <;> simp [tripFams, raiseFams, forceFams, stageFams]
  · exact fun f hf => by
      simp only [slotFams, countFams, List.mem_cons, List.not_mem_nil, or_false] at hf
      rcases hf with rfl | rfl | rfl <;> simp [tripFams, raiseFams, forceFams, stageFams]
  · unfold Mod.q at iref ⊢
    rw [kept E.PH_IREF (by simp), iref]
  · unfold Mod.excluded
    simp [st]
  · exact Mod.raiseAs_bitOf y _ 2 _ (by have := stageOf_lt p; omega)

end Sys2Proof.Machine

namespace Sys2Proof

open Machine

/-- Settles O12: each end of a phase's step by what the operations on phases and slots touch and leave. -/
theorem phaseEvents : Obligations.PhaseEvents := by
  unfold Obligations.PhaseEvents
  refine ⟨?_, ?_, ?_, ?_, ?_, ?_, ?_⟩
  · intro t p s ha hp due st gate excl
    refine DoesM.intro (f := Mod.armingDone p) rfl ha ?_
    have starts : (s.m.at t).armingDone p = (s.m.at t).startPhase p := by
      change (s.m.at t).n E.PH_STATE p = 1 at st
      change (s.m.at t).gated (stageOf p) = false at gate
      change (s.m.at t).excluded p = false at excl
      rw [Mod.armingDone, if_pos due, if_pos (by simp [st, gate, excl])]
    obtain ⟨only, rest⟩ := (s.m.at t).startPhase_does hp
    rw [starts]
    exact ⟨only.mono (by simp [addFams, slotFams, countFams]), rest⟩
  · intro t p s ha hp st step
    exact DoesM.intro (f := Mod.addDone p) rfl ha (Mod.addDone_does (m := s.m.at t) hp st step)
  · intro t k p st s ha hk due holds none_ longest
    have runs : exec (.shedTExpiry t st k) s = execM t (Mod.shedExpiry k) s := by
      cases st <;> exact congrArg (fun j => execM t (Mod.shedExpiry j) s) hk.symm
    refine DoesM.intro runs ha ?_
    rw [Mod.shedExpiry_eq (m := s.m.at t) due holds none_ longest]
    have group : groupStage k < 2 := by
      unfold groupStage
      split <;> decide
    have hp : p < 16 := mem_stagePhases (List.mem_filter.1 (List.mem_filter.1 (Mod.longestActive_mem longest)).1).1 group
    obtain ⟨state, only⟩ := (s.m.at t).shedStart_does none hp
    generalize (s.m.at t).shedStart p none = x at state only
    exact ⟨state, Mod.deadline_disarm_same _ _, only⟩
  · intro t p s ha hp st ramp
    refine DoesM.intro (f := Mod.shedDone p) rfl ha ?_
    obtain ⟨only, rest⟩ := Mod.shedDone_does (m := s.m.at t) hp st ramp
    exact ⟨only.mono (by simp [shedFams, offFams, countFams]), rest⟩
  · intro t p s ha hp due st held intents
    refine DoesM.intro (f := Mod.armHoldExpiry p) rfl ha ?_
    change (s.m.at t).n E.PH_STATE p = 2 at st
    change ((s.m.at t).phOf p).held = false at held
    change (s.m.at t).intentHolds (stageOf p) = false at intents
    rw [Mod.armHoldExpiry, if_pos (by simp [due, st, held, intents])]
    refine ⟨Mod.n_setN_same _ 1 hp, fun k hk => Mod.odGet_setV_ne _ E.PH_STATE p _ (by simpa using hk), ?_, rfl⟩
    exact .disarm ((s.m.at t).setN E.PH_STATE p 1) (by simp)
  · intro t st s ha resp
    refine DoesM.intro (f := Mod.respacingDone (Stage.idx st)) rfl ha ?_
    generalize Stage.idx st = g at *
    change ((s.m.at t).stgOf g).respLeft = 1 at resp
    rw [Mod.respacingDone, if_pos (by simp [resp])]
    have spaced := (AtPhases.atSlots (E.PH_SLOT :: [E.ROT_COUNT]) (s.m.at t) g).1
    have timers : ((s.m.at t).atSlots g).timers = (s.m.at t).timers := 
      foldl_keeps Mod.timers (fun (m : Mod) p => m.modPh p (fun x => { x with pos := m.slotGoal g p })) (fun _ _ => rfl) _ _
    generalize (s.m.at t).atSlots g = x at spaced timers
    have ended : ((x.modStg g (fun y => { y with respLeft := 0 })).stgOf g).respLeft = 0 := congrArg Stg.respLeft (getD_modAt_same _ _ _ _)
    have same : (x.modStg g (fun y => { y with respLeft := 0 })).od = x.od ∧ (x.modStg g (fun y => { y with respLeft := 0 })).timers = x.timers := ⟨rfl, rfl⟩
    generalize x.modStg g (fun y => { y with respLeft := 0 }) = y at ended same
    obtain ⟨od, ts⟩ := same
    obtain ⟨kept, left, -⟩ := y.rotationResume_leaves g
    have resumed := (AtPhases.rotationResume y g).1
    refine ⟨(left g).trans ended, ?_, .of_timers (kept.trans (ts.trans timers))⟩
    exact SameOd.mono ((spaced.of_od od).trans resumed) (by simp)
  · intro t p cause s ha hp lo hi st run
    exact DoesM.intro (f := Mod.phaseFault p cause) rfl ha (Mod.phaseFault_does (m := s.m.at t) hp lo hi st run)

end Sys2Proof
end

section
/-! PROOF. HALERT's causes (R460, R461): what sets them, and that nothing on the way of a source or a trip takes one back. -/

set_option Elab.async false

namespace Sys2Proof.Machine

open Sys2Proof

/-- Every cause of HALERT that stands still does. -/
def Alerts (m m' : Mod) : Prop := ∀ k, bit m.alert k = true → bit m'.alert k = true

theorem Alerts.refl (m : Mod) : Alerts m m := fun _ h => h
theorem Alerts.trans {a b c : Mod} (h : Alerts a b) (g : Alerts b c) : Alerts a c := fun k hk => g k (h k hk)
theorem Alerts.of_alert {m m' : Mod} (h : m'.alert = m.alert) : Alerts m m' := fun _ hk => h ▸ hk

theorem Alerts.when (m : Mod) (c : Bool) {f : Mod → Mod} (hf : Alerts m (f m)) : Alerts m (m.when c f) := by
  cases c
  · exact .refl m
  · exact hf

theorem Alerts.set (m : Mod) (k : Nat) : Alerts m (m.alertSet k) := fun j hj => by
  have cause : (m.alertSet k).alert = Sys2Proof.setBit m.alert k true := rfl
  rw [cause]
  by_cases h : j = k
  · rw [h, bit_setBit_same]
  · rw [bit_setBit_ne _ _ h, hj]

theorem Mod.alertSet_told (m : Mod) (k : Nat) : bit (m.alertSet k).alert k = true := by
  have cause : (m.alertSet k).alert = Sys2Proof.setBit m.alert k true := rfl
  rw [cause, bit_setBit_same]

/-! ## The event log -/

theorem Mod.fillMarks_quiet (m : Mod) (q : Nat) (f : Rat) : (m.fillMarks q f).quiet = m.quiet := by
  have low : ∀ m : Mod, (m.setB E.Q_HIGH q false).quiet = m.quiet := fun _ => rfl
  have high : ∀ m : Mod, ((m.setB E.Q_HIGH q true).inc E.Q_HWM_CNT q).quiet = m.quiet := fun _ => rfl
  have most : ∀ m : Mod, (m.setQ E.Q_MAX q f).quiet = m.quiet := fun _ => rfl
  unfold Mod.fillMarks
  rw [Mod.when_keeps Mod.quiet _ low, Mod.when_keeps Mod.quiet _ high, Mod.when_keeps Mod.quiet _ most]
  rfl

/-- A record of an event leaves all that records do not touch. -/
theorem Mod.logPut_quiet (m : Mod) (r : LogRec) : (m.logPut r).quiet = m.quiet := by
  have waits : ∀ (x : Mod) (r : LogRec), (x.logWait r).quiet = x.quiet := fun x r => by
    unfold Mod.logWait
    split
    · rfl
    · split <;> rfl
  have erase : ∀ (x : Mod) (w : Nat), (x.eraseStart w).quiet = x.quiet := fun x w => by
    unfold Mod.eraseStart
    cases h : x.kpr.running <;> rfl
  unfold Mod.logPut Mod.logWrite Mod.q26Marks
  split
  · rw [Mod.when_keeps Mod.quiet _ fun x => erase x 1]
    rfl
  · rw [Mod.when_keeps Mod.quiet _ fun x => waits x _, Mod.fillMarks_quiet, waits]

theorem Mod.alert_of_quiet {m m' : Mod} (h : m'.quiet = m.quiet) : m'.alert = m.alert := by
  have same := congrArg Mod.alert h
  exact same

theorem Mod.prot_of_quiet {m m' : Mod} (h : m'.quiet = m.quiet) : m'.prot = m.prot := by
  have same := congrArg Mod.prot h
  exact same

theorem Mod.logPut_alert (m : Mod) (r : LogRec) : (m.logPut r).alert = m.alert := Mod.alert_of_quiet (m.logPut_quiet r)

/-! ## Frames and the capture -/

theorem Mod.originateIn_alert (m : Mod) (par : Bool) {cls : Nat} (typ dst : Nat) (content : List Nat) (hc : cls ≤ 2) :
    (m.originateIn par cls typ dst content).alert = m.alert := by
  have sent : ∀ (x : Mod), (x.transmitOn none par cls typ dst content).alert = x.alert := fun x => by
    have cut : ∀ o : Out, (x.cutIn o).alert = x.alert := fun o => by
      obtain ⟨y, l, n, rfl | rfl, e⟩ := x.cutIn_cases o
      · rw [e]
      · rw [e]; rfl
    unfold Mod.transmitOn Mod.sendFrame Mod.sendVia Mod.seqStep
    simp only [hc, if_true]
    exact cut _
  unfold Mod.originateIn
  split
  · rfl
  · split
    · exact sent _
    · rfl

theorem Mod.capTrigger_alert (m : Mod) (bits t : Nat) : (m.capTrigger bits t).alert = m.alert := by
  have placed : ∀ c t : Nat, (m.capPlace c t).alert = m.alert := fun c t => by
    unfold Mod.capPlace
    dsimp only
    split <;> rfl
  have told : ∀ (x : Mod) (t : Nat), (x.capTell t).alert = x.alert := fun x t =>
    Mod.when_keeps Mod.alert _ (fun a => a.originateIn_alert _ _ _ _ (by decide)) _ x
  unfold Mod.capTrigger
  dsimp only
  split
  · rfl
  · split
    · rw [told, placed]
    · split <;> rfl

/-! ## Stages that are gated off -/

theorem Mod.alert_of_yard {m m' : Mod} (h : m'.yard = m.yard) : m'.alert = m.alert := by
  have same := congrArg Mod.alert h
  exact same

theorem Mod.prot_of_yard {m m' : Mod} (h : m'.yard = m.yard) : m'.prot = m.prot := by
  have same := congrArg Mod.prot h
  exact same

theorem Mod.abandonStage_yard (m : Mod) (g : Nat) : (m.abandonStage g).yard = m.yard := by
  have phase : ∀ (x : Mod) (p : Nat), (x.haltPhase p).yard = x.yard := fun x p => by
    unfold Mod.haltPhase
    dsimp only
    split <;> rfl
  have groups : ∀ x : Mod, (x.haltAdds g).yard = x.yard := fun x => by
    have one : ∀ (k : Nat) (y : Mod), (y.modGrp k fun z => { z with adding := false }).yard = y.yard := fun _ _ => rfl
    unfold Mod.haltAdds
    split
    · exact Mod.each_keeps Mod.yard _ one 4 x
    · rfl
  have stopped : ∀ x : Mod, (x.modStg g Stg.halted).yard = x.yard := fun _ => rfl
  rw [Mod.abandonStage_eq, (AtPhases.countPhases _).2, groups, stopped]
  exact foldl_keeps Mod.yard Mod.haltPhase phase _ m

theorem Mod.gateOff_yard (m : Mod) (g c : Nat) : (m.gateOff g c).yard = m.yard := by
  have shown : ∀ x : Mod, (x.gateShow g).yard = x.yard := fun x => by
    have bridge : ∀ y : Mod, (if y.n E.BRIDGE_STATE 0 == 0 then y else y.setN E.BRIDGE_STATE 0 0).yard = y.yard := fun y => by
      split <;> rfl
    unfold Mod.gateShow
    dsimp only
    rw [Mod.when_keeps Mod.yard _ bridge]
    rfl
  have noted : ∀ x : Mod, (x.modStg g (Stg.gatedOff c)).yard = x.yard := fun _ => rfl
  rw [Mod.gateOff_eq, shown, noted, Mod.abandonStage_yard]

theorem Mod.gateOffBoth_yard (m : Mod) (c : Nat) : (m.gateOffBoth c).yard = m.yard := by
  unfold Mod.gateOffBoth
  rw [Mod.gateOff_yard, Mod.gateOff_yard]

/-! ## Sources -/

theorem Mod.contOff_alert (m : Mod) : m.contOff.alert = m.alert := by
  have shown : ∀ x : Mod, (x.setN E.CONT_STATE 0 0).alert = x.alert := fun _ => rfl
  unfold Mod.contOff
  dsimp only
  change (Mod.when _ _ _).alert = _
  rw [Mod.when_keeps Mod.alert _ shown]

theorem Alerts.force (m : Mod) (c : Nat) : Alerts m (m.force c) := by
  have noted : ∀ (x : Mod) (was : Nat), Alerts x (x.forceNoted was c) := fun x was => .when x _
    (((Alerts.of_alert (x.logPut_alert _)).trans (.set _ 4)).trans (.of_alert (Mod.capTrigger_alert _ _ _)))
  have told : ∀ (x : Mod) (was : Nat), Alerts x (x.forceTold was c) := fun x was => .when x _
    (.of_alert (x.originateIn_alert _ _ _ _ (by decide)))
  have stop : ∀ x : Mod, x.forceStop.alert = x.alert := fun x => by
    unfold Mod.forceStop
    split
    · rfl
    · split
      · rfl
      · exact Mod.when_keeps Mod.alert _ Mod.contOff_alert _ x
  have gates : ∀ x : Mod, Alerts x (x.gateOffBoth 0) := fun x => .of_alert (Mod.alert_of_yard (x.gateOffBoth_yard 0))
  have shown : ∀ x : Mod, (x.ilko.dropIntents).alert = x.alert := fun _ => rfl
  have cause : Alerts m (m.forceCause c) := .of_alert rfl
  rw [Mod.force_eq]
  exact (((cause.trans (noted _ _)).trans (gates _)).trans (told _ _)).trans (.of_alert ((stop _).trans (shown _)))

theorem Alerts.faultPin (m : Mod) : Alerts m m.faultPin := by
  unfold Mod.faultPin
  split
  · exact Alerts.trans (b := (m.setB E.FAULT_OUT 0 false).arm .faultContact (m.tb + ms 100)) (.of_alert rfl) (.set _ 1)
  · exact .refl m

theorem Alerts.classF (m : Mod) (b bits : Nat) : Alerts m (m.classF b bits) := by
  have marked : ∀ (x : Mod) (f : Flt → Flt), (((x.modFlt b f).setN E.FLT_CLASS b 3).disarm (.grace b)).alert = x.alert := fun _ _ => rfl
  unfold Mod.classF
  exact Alerts.trans (.of_alert (marked m _)) (.force _ 2)

theorem Alerts.classActs (m : Mod) (b bit cls : Nat) : Alerts m (m.classActs b bit cls) := by
  have fires : ∀ (x : Mod) (c : Bool), Alerts x (x.when c (fun m => m.capTrigger 0x40 m.tb)) := fun x c =>
    .when x c (.of_alert (x.capTrigger_alert _ _))
  have forced : ∀ (x : Mod) (c : Bool), Alerts x (x.when c (·.classF b (1 <<< bit))) := fun x c => .when x c (.classF x b _)
  exact ((forced _ _).trans (fires _ _)).trans (.faultPin _)

theorem Mod.logFault_alert (m : Mod) (b bit cls : Nat) (value : Option Rat) : (m.logFault b bit cls value).alert = m.alert := by
  unfold Mod.logFault
  split
  · rfl
  · dsimp only
    split
    · rfl
    · rfl
    · exact Mod.logPut_alert _ _

theorem Mod.injFound_alert (m : Mod) (b bit : Nat) : (m.injFound b bit).alert = m.alert := by
  unfold Mod.injFound
  split <;> rfl

theorem Mod.sourceTold_alert (m : Mod) (b bit : Nat) : (m.sourceTold b bit).alert = m.alert := by
  have armed : ∀ (x : Mod) (d : Nat), (x.arm (.eventHold b bit) d).alert = x.alert := fun _ _ => rfl
  have told : ∀ (x : Mod) (f : Flt → Flt), (x.modFlt b f).alert = x.alert := fun _ _ => rfl
  unfold Mod.sourceTold
  dsimp only
  rw [Mod.when_keeps Mod.alert _ fun x => armed x _, Mod.when_keeps Mod.alert _ fun x => told x _]

theorem Mod.graceBegun_alert (m : Mod) (b bit cls : Nat) : (m.graceBegun b bit cls).alert = m.alert := by
  have armed : ∀ (x : Mod) (d : Nat), (x.arm (.grace b) d).alert = x.alert := fun _ _ => rfl
  unfold Mod.graceBegun
  refine Mod.when_keeps Mod.alert _ (fun x => ?_) _ m
  dsimp only
  rw [Mod.when_keeps Mod.alert _ fun y => armed y _]
  rfl

theorem Mod.sourceShown_alert (m : Mod) (b cls : Nat) : (m.sourceShown b cls).alert = m.alert :=
  Mod.when_keeps Mod.alert (fun x => x.setN E.FLT_CLASS b cls) (fun _ => rfl) _ m

/-- A source that is raised while it is active counts, and holds its bit. -/
theorem Mod.raiseAs_active_alert (m : Mod) (b bit cls : Nat) (value : Option Rat) (h : m.bitOf E.FLT_ACTIVE b bit = true) :
    (m.raiseAs b bit cls value).alert = m.alert := by
  have active : Sys2Proof.bit (m.n E.FLT_ACTIVE b) bit = true := h
  have armed : ∀ (x : Mod) (d : Nat), (x.arm (.eventHold b bit) d).alert = x.alert := fun _ _ => rfl
  unfold Mod.raiseAs
  rw [if_pos active]
  dsimp only
  rw [Mod.injFound_alert, Mod.when_keeps Mod.alert _ fun x => armed x _]
  rfl

theorem Alerts.raiseAs (m : Mod) (b bit cls : Nat) (value : Option Rat) : Alerts m (m.raiseAs b bit cls value) := by
  by_cases h : m.bitOf E.FLT_ACTIVE b bit = true
  · exact .of_alert (m.raiseAs_active_alert b bit cls value h)
  · have bits : (m.sourceBits b bit).alert = m.alert := rfl
    rw [m.raiseAs_eq b bit cls value (by simpa using h)]
    refine Alerts.trans (.of_alert ?_) (.classActs _ b bit cls)
    rw [Mod.graceBegun_alert, Mod.injFound_alert, Mod.logFault_alert, Mod.sourceTold_alert, Mod.sourceShown_alert, bits]

theorem Alerts.raise (m : Mod) (b bit : Nat) (value : Option Rat) : Alerts m (m.raise b bit value) := by
  unfold Mod.raise
  split
  · exact .raiseAs m _ _ _ _
  · exact .refl m

theorem Alerts.sync (m : Mod) (b bit : Nat) (cond : Bool) (value : Option Rat) : Alerts m (m.sync b bit cond value) := by
  unfold Mod.sync
  split
  · split
    · exact .refl m
    · exact .raise m b bit value
  · unfold Mod.lower
    split
    · exact .of_alert rfl
    · exact .refl m

end Sys2Proof.Machine
end

section
/-! PROOF. What follows a trip (R279, R282, R284, R291), and a port's entry into TRIPPED or LATCHED. -/

set_option Elab.async false

namespace Sys2Proof.Machine

open Sys2Proof

/-! ## What leaves the switches and HALERT's causes -/

/-- Only entries of these families change, every switch stands as it was, and HALERT's causes stand. -/
def Stands (fs : List Fam) (m m' : Mod) : Prop := OnlyFams fs m m' ∧ (∀ j, m'.closed j = m.closed j) ∧ Alerts m m'

theorem Stands.refl (fs : List Fam) (m : Mod) : Stands fs m m := ⟨.refl _ m, fun _ => rfl, .refl m⟩

theorem Stands.trans {fs : List Fam} {a b c : Mod} (h : Stands fs a b) (g : Stands fs b c) : Stands fs a c :=
  ⟨h.1.trans g.1, fun j => (g.2.1 j).trans (h.2.1 j), h.2.2.trans g.2.2⟩

theorem Stands.mono {fs gs : List Fam} {a b : Mod} (h : Stands fs a b) (hs : fs ⊆ gs) : Stands gs a b := ⟨h.1.mono hs, h.2⟩

theorem Stands.when {fs : List Fam} (m : Mod) (c : Bool) {f : Mod → Mod} (hf : Stands fs m (f m)) : Stands fs m (m.when c f) := by
  cases c
  · exact .refl fs m
  · exact hf

theorem Stands.setV {fs : List Fam} (m : Mod) {f : Fam} (i : Nat) (v : Val) (hf : f ∈ fs) : Stands fs m (m.setV f i v) :=
  ⟨.setV m i v hf, fun _ => rfl, .of_alert rfl⟩

theorem Stands.set {fs : List Fam} {m x : Mod} (h : Stands fs m x) {f : Fam} {i : Nat} {v : Val} (hf : f ∈ fs) : Stands fs m (x.setV f i v) :=
  h.trans (.setV x i v hf)

/-- What keeps to the entries and leaves the switches and the alert alone. -/
theorem Stands.of_kept {fs : List Fam} {m m' : Mod} (h : OnlyFams fs m m') (prot : m'.prot = m.prot) (alert : m'.alert = m.alert) : Stands fs m m' :=
  ⟨h, fun j => by unfold Mod.closed Mod.protOf; rw [prot], .of_alert alert⟩

theorem Stands.of_phases {fs : List Fam} {m m' : Mod} (h : AtPhases fs m m') : Stands fs m m' :=
  .of_kept h.1 (Mod.prot_of_yard h.2) (Mod.alert_of_yard h.2)

theorem Stands.disarm (fs : List Fam) (m : Mod) (T : Tmr) : Stands fs m (m.disarm T) := ⟨fun _ _ => rfl, fun _ => rfl, .of_alert rfl⟩

theorem Stands.foldl {fs : List Fam} {β : Type} {f : Mod → β → Mod} (hf : ∀ m b, Stands fs m (f m b)) (l : List β) (m : Mod) :
    Stands fs m (l.foldl f m) := by
  induction l generalizing m with
  | nil => exact .refl fs m
  | cons b r ih => exact (hf m b).trans (ih _)

theorem Stands.logPut (m : Mod) (r : LogRec) : Stands logFams m (m.logPut r) :=
  .of_kept (.logPut m r) (Mod.prot_of_quiet (m.logPut_quiet r)) (m.logPut_alert r)

theorem Mod.prot_of_plant {m m' : Mod} (h : m'.plant = m.plant) : m'.prot = m.prot := by
  have same := congrArg Mod.prot h
  exact same

theorem Stands.originate (m : Mod) {cls : Nat} (typ dst : Nat) (content : List Nat) (hc : cls ≤ 2) : Stands outFams m (m.originate cls typ dst content) :=
  .of_kept (.originate m typ dst content hc) (Mod.prot_of_plant (m.plant_originate _ _ _ _)) (m.originateIn_alert _ _ _ _ hc)

theorem Stands.capTrigger (m : Mod) (bits t : Nat) : Stands (outFams ++ capFams) m (m.capTrigger bits t) :=
  .of_kept (.capTrigger m bits t) (Mod.prot_of_plant (m.plant_capTrigger _ _)) (m.capTrigger_alert _ _)

theorem Stands.of_hull {fs : List Fam} {m m' : Mod} (h : OnlyFams fs m m') (hull : m'.hull = m.hull) (alerts : Alerts m m') : Stands fs m m' :=
  ⟨h, fun j => by unfold Mod.closed Mod.protOf; rw [Mod.prot_of_hull hull], alerts⟩

theorem Stands.raise (m : Mod) (b bit : Nat) (value : Option Rat) : Stands raiseFams m (m.raise b bit value) :=
  .of_hull (.raise m b bit value) (m.hull_raise _ _ _) (.raise m b bit value)

theorem Stands.sync (m : Mod) (b bit : Nat) (cond : Bool) (value : Option Rat) : Stands raiseFams m (m.sync b bit cond value) :=
  .of_hull (.sync m b bit cond value) (m.hull_sync _ _ _ _) (.sync m b bit cond value)

theorem Stands.syncPorts (m : Mod) : Stands raiseFams m m.syncPorts := ((Stands.sync m 12 0 _ none).trans (.sync _ 12 1 _ none)).trans (.sync _ 12 2 _ none)

theorem Stands.gateOff (m : Mod) (g c : Nat) : Stands stageFams m (m.gateOff g c) :=
  .of_kept (.gateOff m g c) (Mod.prot_of_yard (m.gateOff_yard g c)) (Mod.alert_of_yard (m.gateOff_yard g c))

theorem Stands.gateOffBoth (m : Mod) (c : Nat) : Stands stageFams m (m.gateOffBoth c) := (Stands.gateOff m 0 c).trans (.gateOff _ 1 c)

/-! ## The stages that a port holds off -/

/-- R284: a stage is held off, or its cause 1 is taken back. -/
def Mod.portGate (m : Mod) (g : Nat) (on : Bool) : Mod :=
  if on && !bit (m.stgOf g).gate 1 then m.gateOff g 1
  else if on then m else m.modStg g (fun x => { x with gate := Sys2Proof.setBit x.gate 1 false })

theorem Mod.portGates_eq (m : Mod) : m.portGates = (m.portGate 0 (2 ≤ m.n E.PROT_STATE 5)).portGate 1 ((2 ≤ m.n E.PROT_STATE 5 : Bool) || (2 ≤ m.n E.PROT_STATE 4 : Bool)) := rfl

theorem Stands.portGate (m : Mod) (g : Nat) (on : Bool) : Stands stageFams m (m.portGate g on) := by
  unfold Mod.portGate
  split
  · exact .gateOff m g 1
  · split
    · exact .refl _ m
    · exact .of_phases (.modStg _ m g _)

theorem Stands.portGates (m : Mod) : Stands stageFams m m.portGates := by
  rw [Mod.portGates_eq]
  exact (Stands.portGate m 0 _).trans (.portGate _ 1 _)

theorem Mod.portGate_gated (m : Mod) (g : Nat) : (m.portGate g true).gated g = true := by
  unfold Mod.portGate
  cases h : bit (m.stgOf g).gate 1
  · exact m.gateOff_gated g 1
  · refine bne_iff_ne.2 fun z => ?_
    rw [show (m.stgOf g).gate = 0 from z] at h
    exact absurd h (by decide)

theorem Mod.portGate_gated_ne (m : Mod) {g j : Nat} (on : Bool) (h : j ≠ g) : (m.portGate g on).gated j = m.gated j := by
  unfold Mod.gated
  refine congrArg (fun x : Stg => x.gate != 0) ?_
  unfold Mod.portGate
  split
  · exact m.gateOff_stgOf_ne 1 h
  · split
    · rfl
    · exact getD_modAt_ne _ _ _ h

/-- R284, R296: SYS holds both stages off, BAT Stage B. -/
theorem Mod.portGates_gated (m : Mod) : (2 ≤ m.n E.PROT_STATE 5 → m.portGates.gated 0 = true ∧ m.portGates.gated 1 = true) ∧
    (2 ≤ m.n E.PROT_STATE 4 → m.portGates.gated 1 = true) := by
  rw [Mod.portGates_eq]
  refine ⟨fun h => ?_, fun h => ?_⟩
  · rw [decide_eq_true h, Bool.true_or]
    exact ⟨(Mod.portGate_gated_ne _ _ (by decide)).trans (m.portGate_gated 0), Mod.portGate_gated _ 1⟩
  · rw [decide_eq_true h, Bool.or_true]
    exact Mod.portGate_gated _ 1

/-! ## A port that leaves its qualification -/

/-- What an input's ceiling that falls to 0 touches (R130). -/
def ceilFams : List Fam := [E.IN_ICEIL, E.IN_CEIL_SRC]

theorem Stands.zeroCeil (m : Mod) (k : Nat) : Stands ceilFams m (m.zeroCeil k) := by
  have shown : ∀ (x : Mod) (f : InS → InS), Stands ceilFams x ((x.modInp k f).setQ E.IN_ICEIL k 0) := fun x f =>
    Stands.trans (b := x.modInp k f) (.of_kept (fun _ _ => rfl) rfl rfl) (.setV (f := E.IN_ICEIL) _ k _ (by simp [ceilFams]))
  have source : ∀ (x : Mod) (c : Bool), Stands ceilFams x (x.when c (·.setN E.IN_CEIL_SRC k 8)) := fun x c =>
    .when x c (.setV (f := E.IN_CEIL_SRC) x k _ (by simp [ceilFams]))
  exact (shown m _).trans (source _ _)

/-- What a port that goes to another state of its qualification touches (R122). -/
def qualFams : List Fam := [E.QUAL_STATE, E.DEAD_STATE] ++ (ceilFams ++ (offFams ++ countFams))

/-- What a port that leaves its qualification touches (R122, R128). -/
def leaveFams : List Fam := E.QUAL_CAUSE :: qualFams

theorem qualFams_ceil : ceilFams ⊆ qualFams := fun _ h => List.mem_append_right _ (List.mem_append_left _ h)
theorem qualFams_off : offFams ++ countFams ⊆ qualFams := fun _ h => List.mem_append_right _ (List.mem_append_right _ h)
theorem leaveFams_qual : qualFams ⊆ leaveFams := List.subset_cons_self _ _

theorem AtPhases.joinEnd (m : Mod) (k : Nat) : AtPhases (offFams ++ countFams) m (m.joinEnd k) := by
  unfold Mod.joinEnd
  split
  · split
    · exact ((AtPhases.phaseOff m _ 1).mono (List.subset_append_left _ _)).trans ((AtPhases.countPhases _).mono (List.subset_append_right _ _))
    · exact .refl _ m
  · exact .refl _ m

/-- R123: the qualification of a port, as it stops. -/
def Mod.qualRest (m : Mod) (k : Nat) : Mod :=
  (((m.disarm (.insertion k)).disarm (.precharge k)).disarm (.ride k)).modQual k (fun x => { x with cold := false, branch := false, joinPh := none })

/-- R103: a BAT that is no longer qualified is not in recovery, and an input that is not CONNECTED has no ceiling. -/
def Mod.qualLost (m : Mod) (k st : Nat) : Mod :=
  let m := m.when (k == 4 && (st < 3 || st == 7) && m.n E.DEAD_STATE 0 == 1) (·.setN E.DEAD_STATE 0 0)
  m.when (k < 4 && st != 5) (·.zeroCeil k)

theorem Mod.qualTo_eq (m : Mod) (k st : Nat) : m.qualTo k st = ((((m.joinEnd k).setN E.QUAL_STATE k st).qualRest k).qualLost k st) := rfl

theorem Stands.qualLost (m : Mod) (k st : Nat) : Stands (E.DEAD_STATE :: ceilFams) m (m.qualLost k st) := by
  have dead : ∀ (x : Mod) (c : Bool), Stands (E.DEAD_STATE :: ceilFams) x (x.when c (·.setN E.DEAD_STATE 0 0)) := fun x c =>
    .when x c (.setV (f := E.DEAD_STATE) x 0 _ (by simp))
  have ceil : ∀ (x : Mod) (c : Bool), Stands (E.DEAD_STATE :: ceilFams) x (x.when c (·.zeroCeil k)) := fun x c =>
    .when x c ((Stands.zeroCeil x k).mono (List.subset_cons_self _ _))
  exact (dead m _).trans (ceil _ _)

/-- R122: a port of a qualification family goes to another state. -/
theorem Mod.qualTo_does (m : Mod) {k : Nat} (st : Nat) (hk : k < 5) : Stands qualFams m (m.qualTo k st) ∧ (m.qualTo k st).n E.QUAL_STATE k = st := by
  have joined := (Stands.of_phases (AtPhases.joinEnd m k)).mono qualFams_off
  rw [Mod.qualTo_eq]
  generalize m.joinEnd k = x at joined
  have set := joined.set (f := E.QUAL_STATE) (i := k) (v := .num st) (by simp [qualFams])
  have state : (x.setN E.QUAL_STATE k st).n E.QUAL_STATE k = st := Mod.n_setN_same x st hk
  have rests : ∀ y : Mod, Stands qualFams y (y.qualRest k) ∧ (y.qualRest k).n E.QUAL_STATE k = y.n E.QUAL_STATE k := fun y =>
    ⟨.of_kept (fun _ _ => rfl) rfl rfl, rfl⟩
  obtain ⟨rest, same⟩ := rests (x.setN E.QUAL_STATE k st)
  generalize (x.setN E.QUAL_STATE k st).qualRest k = y at rest same
  have lost := Stands.qualLost y k st
  have apart : ∀ k < 5, E.QUAL_STATE.key k ∉ (E.DEAD_STATE :: ceilFams).flatMap Fam.keys := by decide +kernel
  exact ⟨((set.trans rest)).trans (lost.mono (List.cons_subset.2 ⟨by simp [qualFams], qualFams_ceil⟩)), (lost.1.n _ _ (apart k hk)).trans (same.trans state)⟩

theorem Stands.setCause (m : Mod) (k c : Nat) : Stands [E.QUAL_CAUSE] m (m.setCause k c) := by
  unfold Mod.setCause
  dsimp only
  split
  · exact .refl _ m
  · exact (Stands.setV (f := E.QUAL_CAUSE) m k _ (by simp)).trans (.of_kept (fun _ _ => rfl) rfl rfl)

/-- R122, R128: a port that leaves its qualification with a cause. -/
theorem Mod.qualStop_does (m : Mod) (k st cause : Nat) : Stands leaveFams m (m.qualStop k st cause) ∧
    (k < 5 → (m.qualStop k st cause).n E.QUAL_STATE k = st) := by
  unfold Mod.qualStop
  split
  · rename_i hk
    obtain ⟨left, state⟩ := m.qualTo_does st hk
    have caused := Stands.setCause (m.qualTo k st) k cause
    have apart : ∀ k < 5, E.QUAL_STATE.key k ∉ [E.QUAL_CAUSE].flatMap Fam.keys := by decide +kernel
    exact ⟨(left.mono leaveFams_qual).trans (caused.mono (by simp [leaveFams])), fun _ => (caused.1.n _ _ (apart k hk)).trans state⟩
  · rename_i hk
    exact ⟨.refl _ m, fun h => absurd h hk⟩

/-! ## A port that trips -/

/-- R279, R280: a port enters TRIPPED or LATCHED: its entries. -/
def Mod.tripShown (m : Mod) (k st cause : Nat) (i : Rat) : Mod :=
  (((m.setN E.PROT_STATE k st).setN E.PROT_CAUSE k cause).inc E.TRIP_CNT k).setQ E.TRIP_I k (if i < -750 then -750 else if 750 < i then 750 else i)

/-- R279: its switch opens, and its qualification stops. -/
def Mod.tripOpened (m : Mod) (k : Nat) : Mod := (((m.openSwitch k).qualStop k 0 7).disarm (.switchRelease k)).disarm (.limitExit k)

/-- R279, R460: it is recorded, told to the ring and to the host, and its sources follow. -/
def Mod.tripTold (m : Mod) (k st cause : Nat) (i : Rat) : Mod :=
  let m := m.event 0x0040 ([k, cause, st] ++ leBytes 4 (f32OfRat i))
  let m := m.originate 2 0x20 0xFFFF ([1, k, cause, 0] ++ leBytes 8 m.ntime ++ leBytes 4 (f32OfRat i))
  ((((m.alertSet 3).raise 12 (st - 2)).when (cause == 8) (·.raise 12 2)).syncPorts).capTrigger 0x10 m.tb

theorem Mod.protEnter_eq (m : Mod) (k st cause : Nat) (i : Rat) : m.protEnter k st cause i = ((m.tripShown k st cause i).tripOpened k).tripTold k st cause i := rfl

/-- What a port that trips shows. -/
def tripEntries : List Fam := [E.PROT_STATE, E.PROT_CAUSE, E.TRIP_CNT, E.TRIP_I]

theorem Mod.tripShown_does (m : Mod) {k : Nat} (st cause : Nat) (i : Rat) (hk : k < 8) : Stands tripEntries m (m.tripShown k st cause i) ∧
    (m.tripShown k st cause i).n E.PROT_STATE k = st ∧ (m.tripShown k st cause i).n E.PROT_CAUSE k = cause ∧
    (m.tripShown k st cause i).n E.TRIP_CNT k = inc32 (m.n E.TRIP_CNT k) ∧
    ∀ j, j < 8 → j ≠ k → (m.tripShown k st cause i).n E.PROT_STATE j = m.n E.PROT_STATE j := by
  have apart : ∀ k < 8, E.PROT_STATE.key k ≠ E.PROT_CAUSE.key k ∧ E.PROT_STATE.key k ≠ E.TRIP_CNT.key k ∧ E.PROT_STATE.key k ≠ E.TRIP_I.key k ∧
      E.PROT_CAUSE.key k ≠ E.TRIP_CNT.key k ∧ E.PROT_CAUSE.key k ≠ E.TRIP_I.key k ∧ E.TRIP_CNT.key k ≠ E.TRIP_I.key k := by decide +kernel
  have across : ∀ j < 8, ∀ k < 8, j ≠ k → E.PROT_STATE.key j ≠ E.PROT_STATE.key k ∧ E.PROT_STATE.key j ≠ E.PROT_CAUSE.key k ∧
      E.PROT_STATE.key j ≠ E.TRIP_CNT.key k ∧ E.PROT_STATE.key j ≠ E.TRIP_I.key k := by decide +kernel
  obtain ⟨sc, st_, si, ct, ci, ti⟩ := apart k hk
  unfold Mod.tripShown
  refine ⟨((((Stands.refl _ m).set (f := E.PROT_STATE) (by simp [tripEntries])).set (f := E.PROT_CAUSE) (by simp [tripEntries])).set
    (f := E.TRIP_CNT) (by simp [tripEntries])).set (f := E.TRIP_I) (by simp [tripEntries]), ?_, ?_, ?_, fun j hj hjk => ?_⟩
  · rw [Mod.setQ, Mod.n_setN_ne _ _ si, Mod.n_inc_ne _ st_, Mod.n_setN_ne _ _ sc, Mod.n_setN_same _ _ hk]
  · rw [Mod.setQ, Mod.n_setN_ne _ _ ci, Mod.n_inc_ne _ ct, Mod.n_setN_same _ _ hk]
  · rw [Mod.setQ, Mod.n_setN_ne _ _ ti, Mod.n_inc_same _ hk, Mod.n_setN_ne _ _ ct.symm, Mod.n_setN_ne _ _ st_.symm]
  · obtain ⟨ss, sc', st', si'⟩ := across j hj k hk hjk
    rw [Mod.setQ, Mod.n_setN_ne _ _ si', Mod.n_inc_ne _ st', Mod.n_setN_ne _ _ sc', Mod.n_setN_ne _ _ ss]

/-- A switch that is commanded open is open, and the others stand. -/
theorem Mod.openSwitch_closed (m : Mod) (k : Nat) : (m.openSwitch k).closed k = false :=
  congrArg Prot.closed (getD_modAt_same _ _ _ _)

theorem Mod.tripOpened_does (m : Mod) (k : Nat) : OnlyFams leaveFams m (m.tripOpened k) ∧ (m.tripOpened k).closed k = false ∧
    (k < 5 → (m.tripOpened k).n E.QUAL_STATE k = 0) := by
  have opened := m.openSwitch_closed k
  have od : OnlyFams leaveFams m (m.openSwitch k) := fun _ _ => rfl
  generalize hx : m.openSwitch k = x at opened od
  obtain ⟨⟨only, closed, -⟩, state⟩ := x.qualStop_does k 0 7
  unfold Mod.tripOpened
  rw [hx]
  exact ⟨od.trans only, (closed k).trans opened, state⟩

theorem Stands.tripTold (m : Mod) (k st cause : Nat) (i : Rat) : Stands raiseFams m (m.tripTold k st cause i) ∧
    bit (m.tripTold k st cause i).alert 3 = true := by
  have logs : logFams ⊆ raiseFams := fun f h => by simp only [raiseFams, forceFams, List.mem_append]; tauto
  have outs : outFams ⊆ raiseFams := fun f h => by simp only [raiseFams, forceFams, List.mem_append]; tauto
  have caps : outFams ++ capFams ⊆ raiseFams := fun f h => by simp only [raiseFams, forceFams, List.mem_append] at h ⊢; tauto
  unfold Mod.tripTold
  dsimp only
  have recorded := (Stands.logPut m (m.record 0x0040 0 0xFF 0xFF 0 0 0 0xFF ([k, cause, st] ++ leBytes 4 (f32OfRat i)))).mono logs
  generalize hx : m.event 0x0040 ([k, cause, st] ++ leBytes 4 (f32OfRat i)) = x
  replace recorded : Stands raiseFams m x := hx ▸ recorded
  have sent := (Stands.originate x (cls := 2) 0x20 0xFFFF ([1, k, cause, 0] ++ leBytes 8 x.ntime ++ leBytes 4 (f32OfRat i)) (by decide)).mono outs
  generalize x.originate 2 0x20 0xFFFF ([1, k, cause, 0] ++ leBytes 8 x.ntime ++ leBytes 4 (f32OfRat i)) = y at sent
  have alerted : Stands raiseFams y (y.alertSet 3) := ⟨fun _ _ => rfl, fun _ => rfl, .set y 3⟩
  have told := y.alertSet_told 3
  generalize y.alertSet 3 = z at alerted told
  have raised : Stands raiseFams z (((z.raise 12 (st - 2)).when (cause == 8) (·.raise 12 2)).syncPorts) :=
    ((Stands.raise z 12 (st - 2) none).trans (.when _ _ (.raise _ 12 2 none))).trans (.syncPorts _)
  generalize ((z.raise 12 (st - 2)).when (cause == 8) (·.raise 12 2)).syncPorts = w at raised
  have fired := (Stands.capTrigger w 0x10 y.tb).mono caps
  exact ⟨(((recorded.trans sent).trans alerted).trans raised).trans fired, (raised.trans fired).2.2 3 told⟩

end Sys2Proof.Machine
end

section
/-! PROOF. Trips of the ports, and their clearing (R279 to R294). -/

set_option Elab.async false

namespace Sys2Proof.Machine

open Sys2Proof

/-! ## A trip -/

/-- What a port that trips touches beside its own entries. -/
def enterFams : List Fam := leaveFams ++ raiseFams

/-- A port that enters TRIPPED or LATCHED (R279, R280). -/
theorem Mod.protEnter_does (m : Mod) (k st cause : Nat) (i : Rat) :
    OnlyFams enterFams (m.tripShown k st cause i) (m.protEnter k st cause i) ∧ (m.protEnter k st cause i).closed k = false ∧
    bit (m.protEnter k st cause i).alert 3 = true ∧ (k < 5 → (m.protEnter k st cause i).n E.QUAL_STATE k = 0) := by
  rw [Mod.protEnter_eq]
  generalize m.tripShown k st cause i = x
  obtain ⟨opened, closed, qual⟩ := x.tripOpened_does k
  generalize x.tripOpened k = y at opened closed qual
  obtain ⟨⟨only, stand, -⟩, told⟩ := Stands.tripTold y k st cause i
  have apart : ∀ k < 5, E.QUAL_STATE.key k ∉ raiseFams.flatMap Fam.keys := by decide +kernel
  refine ⟨(opened.mono (List.subset_append_left _ _)).trans (only.mono (List.subset_append_right _ _)), (stand k).trans closed, told, fun h => ?_⟩
  exact (only.n _ _ (apart k h)).trans (qual h)

theorem enterFams_apart : ∀ k < 8, ∀ f ∈ [E.PROT_STATE, E.PROT_CAUSE, E.TRIP_CNT], f.key k ∉ enterFams.flatMap Fam.keys := by decide +kernel

/-- R279, R280: what a port that has entered TRIPPED or LATCHED shows. -/
theorem Mod.protEnter_shows (m : Mod) {k : Nat} (st cause : Nat) (i : Rat) (hk : k < 8) :
    OnlyFams (tripEntries ++ enterFams) m (m.protEnter k st cause i) ∧ (m.protEnter k st cause i).n E.PROT_STATE k = st ∧
    (m.protEnter k st cause i).n E.PROT_CAUSE k = cause ∧ (m.protEnter k st cause i).n E.TRIP_CNT k = inc32 (m.n E.TRIP_CNT k) ∧
    ∀ j, j < 8 → j ≠ k → (m.protEnter k st cause i).n E.PROT_STATE j = m.n E.PROT_STATE j := by
  obtain ⟨⟨shown, -⟩, state, caused, count, others⟩ := m.tripShown_does st cause i hk
  obtain ⟨only, -⟩ := m.protEnter_does k st cause i
  refine ⟨(shown.mono (List.subset_append_left _ _)).trans (only.mono (List.subset_append_right _ _)), ?_, ?_, ?_, fun j hj hjk => ?_⟩
  · exact (only.n _ _ (enterFams_apart k hk _ (by simp))).trans state
  · exact (only.n _ _ (enterFams_apart k hk _ (by simp))).trans caused
  · exact (only.n _ _ (enterFams_apart k hk _ (by simp))).trans count
  · exact (only.n _ _ (enterFams_apart j hj _ (by simp))).trans (others j hj hjk)

/-- R280, R294: the repeated trip latches. -/
def Mod.latches (m : Mod) (k : Nat) : Bool :=
  decide (m.n E.PROT_LATCH_N k ≤ 1 + ((m.protOf k).trips.filter (fun u => decide ((m.tb : Int) < u + sec (m.n E.PROT_LATCH_W k)))).length)

/-- R294: the trip is kept with those of the latest window. -/
def Mod.tripKept (m : Mod) (k : Nat) : Mod :=
  m.modProt k (fun x => { x with
    trips := (m.tb : Int) :: (m.protOf k).trips.filter (fun t => decide ((m.tb : Int) < t + sec (m.n E.PROT_LATCH_W k)))
    tripTick := m.modes.tickNo + 1 })

theorem Mod.trip_eq {m : Mod} {k : Nat} (cause : Nat) (i : Rat) (h : m.n E.PROT_STATE k ≤ 1) :
    m.trip k cause i = (m.tripKept k).protEnter k (if m.latches k then 3 else 2) (if m.latches k then 7 else cause) i := by
  have repeated : (m.tripKept k).n E.PROT_LATCH_N k ≤
      ((m.tb : Int) :: (m.protOf k).trips.filter (fun t => decide ((m.tb : Int) < t + sec (m.n E.PROT_LATCH_W k)))).length ↔
      m.latches k = true := by
    rw [List.length_cons, Nat.add_comm]
    exact decide_eq_true_iff.symm
  unfold Mod.trip
  rw [if_neg (by omega)]
  cases c : m.latches k
  · exact if_neg (fun h => Bool.false_ne_true (c.symm.trans (repeated.1 h)))
  · exact if_pos (repeated.2 c)

/-! ## What follows a trip -/

/-- What follows a trip touches (R282, R284, R289, R291). -/
def actFams : List Fam :=
  [E.BRIDGE_EXIT, E.BRIDGE_FORCED, E.COUPLING_ACT, E.BRK_HEAT, E.BRK_HEAT_PCT, E.BRK_LIMITING, E.CLAMP_E] ++ (ceilFams ++ (stageFams ++ (logFams ++ (outFams ++ capFams))))

theorem actFams_stage : stageFams ⊆ actFams := fun f h => by simp only [actFams, List.mem_append]; tauto
theorem actFams_ceil : ceilFams ⊆ actFams := fun f h => by simp only [actFams, List.mem_append]; tauto
theorem actFams_log : logFams ⊆ actFams := fun f h => by simp only [actFams, List.mem_append]; tauto
theorem actFams_cap : outFams ++ capFams ⊆ actFams := fun f h => by simp only [actFams, List.mem_append] at h ⊢; tauto

/-- R108, R284: BAT trips while Stage B is bridged: it leaves BRIDGE at once, under code 4. -/
def Mod.bridgeTripped (m : Mod) : Mod := m.when (m.n E.BRIDGE_STATE 0 == 1 || m.n E.BRIDGE_STATE 0 == 2) (·.bridgeExit 4)

theorem Stands.bridgeTripped (m : Mod) : Stands actFams m m.bridgeTripped := by
  have codes : ∀ x : Mod, Stands actFams x ((x.setN E.BRIDGE_EXIT 0 4).when true (·.inc E.BRIDGE_FORCED 0)) := fun x =>
    (Stands.setV (f := E.BRIDGE_EXIT) x 0 _ (by simp [actFams])).trans (.setV (f := E.BRIDGE_FORCED) _ 0 _ (by simp [actFams]))
  have reg : ∀ (x : Mod) (r : Reg), Stands actFams x { x with reg := r } := fun x r => .of_kept (fun _ _ => rfl) rfl rfl
  have off : ∀ x : Mod, Stands actFams x (((x.setN E.BRIDGE_STATE 0 0).setN E.COUPLING_ACT 0 0).disarm .bridge) := fun x =>
    (((Stands.refl _ x).set (f := E.BRIDGE_STATE) (by simp [actFams, stageFams])).set (f := E.COUPLING_ACT) (by simp [actFams])).trans (.disarm _ _ _)
  have left : ∀ x : Mod, Stands actFams x (x.bridgeLeave 4) := fun x => (((codes x).trans (reg _ _)).trans (reg _ _)).trans (off _)
  refine .when m _ ?_
  unfold Mod.bridgeExit
  split
  · exact left m
  · exact .refl _ m

/-- R179, R284: a waiting retry of a stage is cancelled. -/
def Mod.retryOff (m : Mod) (g : Nat) : Mod := (m.disarm (.hiccup (g == 0))).when (m.n E.SST_STATE g == 5) (·.setN E.SST_STATE g 0)

theorem Stands.retryOff (m : Mod) (g : Nat) : Stands actFams m (m.retryOff g) :=
  (Stands.disarm _ m _).trans (.when _ _ (.setV (f := E.SST_STATE) _ g _ (by simp [actFams, stageFams])))

theorem Mod.retryOff_stg (m : Mod) (g : Nat) : (m.retryOff g).stg = m.stg :=
  Mod.when_keeps Mod.stg (fun x => x.setN E.SST_STATE g 0) (fun _ => rfl) _ _

/-- R282: BRK's chopper turns off. -/
def Mod.brkOff (m : Mod) : Mod :=
  { m.modProt 6 (fun y => { y with zeroFrom := if 0 < m.reg.brkP then some m.tb else y.zeroFrom }) with
    safe := { m.safe with chopperOff := true }
    reg := { m.reg with brkP := 0, brkDuty := 0 } }

theorem Stands.brkOff (m : Mod) : Stands actFams m m.brkOff := by
  refine ⟨fun _ _ => rfl, fun j => ?_, .of_alert rfl⟩
  by_cases h : j = 6
  · rw [h]
    exact (congrArg Prot.closed (getD_modAt_same _ m.prot 6 _) : m.brkOff.closed 6 = _)
  · exact congrArg Prot.closed (getD_modAt_ne _ _ _ h)

theorem Mod.tripActions_eq (m : Mod) (k : Nat) : m.tripActions k =
    if k < 4 then (m.zeroCeil k).forcedShed k
    else if k = 4 then m.bridgeTripped.portGates
    else if k = 5 then (m.portGates.retryOff 0).retryOff 1
    else if k = 6 then m.brkOff else m := by
  unfold Mod.tripActions
  split
  · rename_i h
    rw [Mod.ceilingZero, if_pos h]
  · rfl

theorem Stands.forcedShed (m : Mod) (k : Nat) : Stands stageFams m (m.forcedShed k) :=
  (Stands.of_phases (.forcedShed m k)).mono (by simp [offFams, countFams, stageFams])

theorem Stands.tripActions (m : Mod) (k : Nat) : Stands actFams m (m.tripActions k) := by
  rw [Mod.tripActions_eq]
  split
  · exact ((Stands.zeroCeil m k).mono actFams_ceil).trans ((Stands.forcedShed _ k).mono actFams_stage)
  · split
    · exact (Stands.bridgeTripped m).trans ((Stands.portGates _).mono actFams_stage)
    · split
      · exact (((Stands.portGates m).mono actFams_stage).trans (.retryOff _ 0)).trans (.retryOff _ 1)
      · split
        · exact .brkOff m
        · exact .refl _ m

/-- R284: the stages that a tripped SYS or BAT holds off. -/
theorem Mod.tripActions_gated (m : Mod) {k : Nat} (h : 2 ≤ m.n E.PROT_STATE k) :
    (k = 5 → (m.tripActions k).gated 0 = true ∧ (m.tripActions k).gated 1 = true) ∧ (k = 4 → (m.tripActions k).gated 1 = true) := by
  rw [Mod.tripActions_eq]
  refine ⟨fun e => ?_, fun e => ?_⟩
  · subst e
    obtain ⟨both, -⟩ := m.portGates_gated
    rw [if_neg (by decide), if_neg (by decide), if_pos rfl]
    have stg : ((m.portGates.retryOff 0).retryOff 1).stg = m.portGates.stg := (Mod.retryOff_stg _ 1).trans (Mod.retryOff_stg _ 0)
    have same : ∀ g, ((m.portGates.retryOff 0).retryOff 1).gated g = m.portGates.gated g := fun g => by
      unfold Mod.gated Mod.stgOf
      rw [stg]
    rw [same, same]
    exact both h
  · subst e
    rw [if_neg (by decide), if_pos rfl]
    have apart : E.PROT_STATE.key 4 ∉ actFams.flatMap Fam.keys := by decide +kernel
    exact m.bridgeTripped.portGates_gated.2 (((Stands.bridgeTripped m).1.n _ _ apart).symm ▸ h)

/-! ## A trip, with what follows it -/

/-- What a port that clears touches beside its state. -/
def clearFams : List Fam := [E.SST_STATE, E.SST_HICCUP] ++ (leaveFams ++ raiseFams)

/-- What a trip may touch, with what follows it. -/
def trippedFams : List Fam := tripFams ++ [E.BRIDGE_EXIT, E.BRIDGE_FORCED, E.BRK_HEAT, E.BRK_HEAT_PCT, E.BRK_LIMITING, E.CHG_IREF, E.CLAMP_E,
    E.COUPLING_ACT, E.PH_MODE, E.SW_TEMP, E.TRANS_STATE]

theorem trippedFams_enter : tripEntries ++ enterFams ⊆ trippedFams := by decide +kernel
theorem trippedFams_act : actFams ⊆ trippedFams := by decide +kernel

theorem actFams_apart : ∀ k < 8, ∀ f ∈ [E.PROT_STATE, E.PROT_CAUSE, E.TRIP_CNT], f.key k ∉ actFams.flatMap Fam.keys := by decide +kernel

theorem actFams_qual : ∀ k < 5, E.QUAL_STATE.key k ∉ actFams.flatMap Fam.keys := by decide +kernel

/-- What a trip has made stands where what follows leaves the ports, the causes and the gates. -/
theorem Tripped.before {k cause : Nat} {m a b : Mod} (hk : k < 8) (h : Tripped k cause m a) (later : Stands actFams a b)
    (gates : ∀ g, b.gated g = a.gated g) : Tripped k cause m b where
  frame := h.frame.trans (later.1.mono trippedFams_act)
  state := by
    rw [later.1.n _ _ (actFams_apart k hk E.PROT_STATE (by simp)), later.1.n _ _ (actFams_apart k hk E.PROT_CAUSE (by simp))]
    exact h.state
  count := (later.1.n _ _ (actFams_apart k hk E.TRIP_CNT (by simp))).trans h.count
  switch := (later.2.1 k).trans h.switch
  told := later.2.2 3 h.told
  qual := fun hq => (later.1.n _ _ (actFams_qual k hq)).trans (h.qual hq)
  gates := by
    rw [gates, gates]
    exact h.gates
  others := fun j hj hjk => (later.1.n _ _ (actFams_apart j hj E.PROT_STATE (by simp))).trans (h.others j hj hjk)

/-- A trip is what it is from an earlier module that shows the same ports. -/
theorem Tripped.after {k cause : Nat} {m x a : Mod} (only : OnlyFams trippedFams m x) (tb : x.tb = m.tb) (prot : x.prot = m.prot)
    (same : ∀ f ∈ [E.PROT_STATE, E.TRIP_CNT, E.PROT_LATCH_N, E.PROT_LATCH_W], ∀ j < 8, x.n f j = m.n f j) (hk : k < 8) (h : Tripped k cause x a) :
    Tripped k cause m a where
  frame := only.trans h.frame
  state := by
    have shown := h.state
    rw [same E.PROT_LATCH_N (by simp) k hk, same E.PROT_LATCH_W (by simp) k hk, tb, show x.protOf k = m.protOf k by unfold Mod.protOf; rw [prot]] at shown
    exact shown
  count := h.count.trans (congrArg inc32 (same _ (by simp) k hk))
  switch := h.switch
  told := h.told
  qual := h.qual
  gates := h.gates
  others := fun j hj hjk => (h.others j hj hjk).trans (same _ (by simp) j hj)

/-- R279, R280, R284, R294: a port that was in order trips. -/
theorem Mod.trip_tripped {m : Mod} {k : Nat} (cause : Nat) (i : Rat) (hk : k < 8) (h : m.n E.PROT_STATE k ≤ 1) :
    Tripped k cause m ((m.trip k cause i).tripActions k) := by
  rw [Mod.trip_eq cause i h]
  have latch : ∀ a b : Nat, (if m.latches k then a else b) = if m.n E.PROT_LATCH_N k ≤
      1 + ((m.protOf k).trips.filter (fun u => decide ((m.tb : Int) < u + sec (m.n E.PROT_LATCH_W k)))).length then a else b := fun a b => by
    simp only [Mod.latches, decide_eq_true_eq]
  have kept : (m.tripKept k).od = m.od := rfl
  obtain ⟨only, state, caused, count, others⟩ := (m.tripKept k).protEnter_shows (if m.latches k then 3 else 2) (if m.latches k then 7 else cause) i hk
  obtain ⟨-, closed, told, qual⟩ := (m.tripKept k).protEnter_does k (if m.latches k then 3 else 2) (if m.latches k then 7 else cause) i
  generalize m.tripKept k = x at *
  have same : ∀ f j, x.n f j = m.n f j := fun f j => by unfold Mod.n Mod.getV; rw [kept]
  replace only := (show OnlyFams trippedFams m x from fun _ _ => kept ▸ rfl).trans (only.mono trippedFams_enter)
  generalize x.protEnter k (if m.latches k then 3 else 2) (if m.latches k then 7 else cause) i = y at *
  have high : 2 ≤ y.n E.PROT_STATE k := by rw [state]; split <;> decide
  have acts := Stands.tripActions y k
  have gates := y.tripActions_gated high
  generalize y.tripActions k = z at acts gates
  exact {
    frame := only.trans (acts.1.mono trippedFams_act)
    state := ⟨((acts.1.n _ _ (actFams_apart k hk E.PROT_STATE (by simp))).trans state).trans (latch 3 2),
      ((acts.1.n _ _ (actFams_apart k hk E.PROT_CAUSE (by simp))).trans caused).trans (latch 7 cause)⟩
    count := (acts.1.n _ _ (actFams_apart k hk E.TRIP_CNT (by simp))).trans (count.trans (congrArg inc32 (same _ _)))
    switch := (acts.2.1 k).trans closed
    told := acts.2.2 3 told
    qual := fun hq => (acts.1.n _ _ (actFams_qual k hq)).trans (qual hq)
    gates := gates
    others := fun j hj hjk => (acts.1.n _ _ (actFams_apart j hj E.PROT_STATE (by simp))).trans ((others j hj hjk).trans (same _ _)) }

/-- What the trip of a port that was in order touches, with what follows it. -/
theorem Mod.trip_touches {m : Mod} {k : Nat} (cause : Nat) (i : Rat) (hk : k < 8) (h : m.n E.PROT_STATE k ≤ 1) :
    OnlyFams (tripEntries ++ (enterFams ++ actFams)) m ((m.trip k cause i).tripActions k) := by
  rw [Mod.trip_eq cause i h]
  have kept : OnlyFams (tripEntries ++ enterFams) m (m.tripKept k) := fun _ _ => rfl
  obtain ⟨only, -⟩ := (m.tripKept k).protEnter_shows (if m.latches k then 3 else 2) (if m.latches k then 7 else cause) i hk
  generalize m.tripKept k = x at *
  generalize x.protEnter k (if m.latches k then 3 else 2) (if m.latches k then 7 else cause) i = y at *
  exact ((kept.trans only).mono (by simp)).trans ((Stands.tripActions y k).1.mono (fun f hf => by simp only [List.mem_append]; tauto))

/-- R280: of two causes in one mode tick the lower stands. -/
theorem Mod.trip_lower {m : Mod} {k cause : Nat} (i : Rat) (st : m.n E.PROT_STATE k = 2) (tick : (m.protOf k).tripTick = m.modes.tickNo + 1)
    (lower : cause < m.n E.PROT_CAUSE k) : m.trip k cause i = m.setN E.PROT_CAUSE k cause := by
  unfold Mod.trip
  rw [if_pos (by omega), st, tick, decide_eq_true lower]
  simp only [beq_self_eq_true, Bool.and_self]
  rfl

/-! ## The clamp that a trip of BRK ends (R289) -/

theorem Stands.heatTo (m : Mod) (h : Rat) : Stands actFams m (m.heatTo h) := by
  unfold Mod.heatTo
  extract_lets g top pct m' warm m''
  have shown : Stands actFams m m' := (((Stands.refl _ m).set (f := E.BRK_HEAT) (by simp [actFams])).set (f := E.BRK_HEAT_PCT)
    (by simp [actFams])).set (f := E.BRK_LIMITING) (by simp [actFams])
  have noted : Stands actFams m' m'' := .when _ _ ((Stands.logPut _ _).mono actFams_log)
  exact (shown.trans noted).trans (.of_kept (fun _ _ => rfl) rfl rfl)

theorem Mod.heatTo_stg (m : Mod) (h : Rat) : (m.heatTo h).stg = m.stg := by
  unfold Mod.heatTo
  extract_lets g top pct m' warm m''
  have noted : m''.stg = m'.stg := Mod.when_keeps Mod.stg (fun x => x.noteAt E.BRK_HEAT_PCT 0) (fun x => Mod.stg_of_plant (x.plant_logPut _)) _ _
  exact noted

theorem Stands.clampOver (m : Mod) (e : Rat) : Stands actFams m (m.clampOver e) := by
  unfold Mod.clampOver
  exact ((Stands.heatTo m _).trans (.setV (f := E.CLAMP_E) _ 0 _ (by simp [actFams]))).trans (.of_kept (fun _ _ => rfl) rfl rfl)

/-- R289: the clamp's action is over, and it waits to be armed again. -/
def Mod.clampOff (m : Mod) : Mod := { m.clampEnd with safe := { m.clampEnd.safe with clampArmed := false } }

theorem Mod.clampEnd_does (m : Mod) : Stands actFams m m.clampEnd ∧ m.clampEnd.stg = m.stg :=
  ⟨.when m _ (.clampOver m _), Mod.when_keeps Mod.stg (fun x => x.clampOver (x.safe.clampJ + x.clampPower * mkRat (x.tb - x.n E.TICK_LAST 0 : Nat) 100000000))
    (fun x => x.heatTo_stg _) _ _⟩

theorem Mod.clampOff_does (m : Mod) : Stands actFams m m.clampOff ∧ m.clampOff.stg = m.stg := by
  obtain ⟨ended, stg⟩ := m.clampEnd_does
  exact ⟨ended.trans (.of_kept (fun _ _ => rfl) rfl rfl), stg⟩

theorem Mod.fastTrip_eq {m : Mod} {k : Nat} {x : Rat} (hk : k < 8) (above : m.cq E.FT_MULT k * portRating k ≤ fastSense k x) :
    m.fastTrip k x = if k = 6 then (((m.trip k 1 x).tripActions k).capTrigger 8 m.tb).clampOff else ((m.trip k 1 x).tripActions k).capTrigger 8 m.tb := by
  rw [Mod.fastTrip, if_pos (by simp [hk, above])]
  rfl

/-! ## A port that clears by itself (R280, R286) -/

/-- Sources and gates follow a port that is back in order. -/
def Mod.clearShown (m : Mod) (k : Nat) : Mod := ((m.setN E.PROT_STATE k 0).syncPorts).portGates

/-- R286: what takes a port back into service. -/
def Mod.clearBack (m : Mod) (k : Nat) : Mod :=
  if k < 5 then m.when (qualRuns (m.n E.PATH_ACT 0)) (·.qualBegin k)
  else if k = 5 then m.each 2 (fun g m => m.when (m.n E.SST_STATE g == 4) (fun m => (m.setN E.SST_STATE g 0).setN E.SST_HICCUP g 0))
  else if k = 6 then { m with safe := { m.safe with chopperOff := false, clampArmed := true } }
  else m.reclose 7

theorem Mod.clearPort_eq (m : Mod) (k : Nat) : m.clearPort k = (m.clearShown k).clearBack k := by
  unfold Mod.clearPort Mod.clearBack Mod.clearShown
  rfl

theorem Mod.closeSwitch_od (m : Mod) (k : Nat) : (m.closeSwitch k).od = m.od := by
  unfold Mod.closeSwitch
  split <;> rfl

theorem Mod.clearBack_frame (m : Mod) (k : Nat) : OnlyFams clearFams m (m.clearBack k) := by
  have cold : ∀ (x : Mod) (g : Nat), OnlyFams clearFams x (x.when (x.n E.SST_STATE g == 4) (fun m => (m.setN E.SST_STATE g 0).setN E.SST_HICCUP g 0)) :=
    fun x g => .when x _ (((OnlyFams.refl _ x).set (f := E.SST_STATE) (by simp [clearFams])).set (f := E.SST_HICCUP) (by simp [clearFams]))
  unfold Mod.clearBack
  split
  · rename_i h
    have leave : leaveFams ⊆ clearFams := fun f hf => by simp only [clearFams, List.mem_append]; tauto
    refine .when m _ ?_
    unfold Mod.qualBegin
    exact .when m _ ((m.qualTo_does 1 h).1.1.mono (List.Subset.trans leaveFams_qual leave))
  · split
    · exact (cold m 0).trans (cold _ 1)
    · split
      · exact fun _ _ => rfl
      · unfold Mod.reclose
        exact .when m _ (.of_od (.refl _ m) (Mod.closeSwitch_od m 7))

/-- R286: AUX24's switch closes where nothing keeps it open. -/
theorem Mod.reclose_closed {m : Mod} (usable : (m.reclose 7).portUsable 7 = true) (lock : m.lockstep = false) (pilot : (m.protOf 7).pilotOpen = false) :
    (m.reclose 7).closed 7 = true := by
  unfold Mod.reclose at usable ⊢
  cases open_ : m.closed 7
  · cases u : m.portUsable 7
    · rw [u, open_] at usable
      exact absurd (u.symm.trans usable) (by decide)
    · have closes : m.closeSwitch 7 = m.modProt 7 (fun x => { x with closed := true, openedAt := none, zeroFrom := none }) := by
        unfold Mod.closeSwitch
        rw [lock, pilot]
        rfl
      exact (congrArg (fun x : Mod => x.closed 7) closes).trans (congrArg Prot.closed (getD_modAt_same _ _ _ _))
  · rw [Bool.not_true, Bool.and_false]
    exact open_

theorem Mod.portGate_yard (m : Mod) (g : Nat) (on : Bool) : (m.portGate g on).yard = m.yard := by
  unfold Mod.portGate
  split
  · exact m.gateOff_yard g 1
  · split <;> rfl

theorem Mod.lockstep_of_yard {m m' : Mod} (h : m'.yard = m.yard) : m'.lockstep = m.lockstep := by
  have same := congrArg Mod.lockstep h
  exact same

theorem Mod.hull_syncPorts (m : Mod) : m.syncPorts.hull = m.hull := by
  unfold Mod.syncPorts
  exact ((Mod.hull_sync _ 12 2 _ _).trans (Mod.hull_sync _ 12 1 _ _)).trans (Mod.hull_sync m 12 0 _ _)

theorem Mod.clearPort_cleared (m : Mod) {k : Nat} (hk : k < 8) : Cleared k m (m.clearPort k) ∧
    ∃ x, OnlyFams [E.PROT_STATE] m x ∧ OnlyFams clearFams x (m.clearPort k) := by
  have shown : OnlyFams [E.PROT_STATE] m (m.setN E.PROT_STATE k 0) := (OnlyFams.refl _ m).set (by simp)
  have state : (m.setN E.PROT_STATE k 0).n E.PROT_STATE k = 0 := Mod.n_setN_same m 0 hk
  have kept : (m.setN E.PROT_STATE k 0).prot = m.prot ∧ (m.setN E.PROT_STATE k 0).lockstep = m.lockstep := ⟨rfl, rfl⟩
  rw [Mod.clearPort_eq]
  unfold Mod.clearShown
  generalize m.setN E.PROT_STATE k 0 = x at *
  have told := ((Stands.syncPorts x).1.mono (List.subset_append_right _ _)).trans ((Stands.portGates x.syncPorts).1.mono
    (show stageFams ⊆ [E.SST_STATE, E.SST_HICCUP] ++ leaveFams ++ raiseFams by decide +kernel))
  have same : x.syncPorts.portGates.prot = x.prot ∧ x.syncPorts.portGates.lockstep = x.lockstep := by
    have yard : x.syncPorts.portGates.yard = x.syncPorts.yard := by
      rw [Mod.portGates_eq]
      exact (Mod.portGate_yard _ 1 _).trans (Mod.portGate_yard _ 0 _)
    have hull := x.hull_syncPorts
    exact ⟨(Mod.prot_of_yard yard).trans (Mod.prot_of_hull hull), (Mod.lockstep_of_yard yard).trans (Mod.lockstep_of_hull hull)⟩
  generalize x.syncPorts.portGates = y at *
  have back := y.clearBack_frame k
  have own : ∀ k < 8, ∀ f ∈ [E.PROT_STATE, E.PROT_CAUSE, E.TRIP_CNT], f.key k ∉ clearFams.flatMap Fam.keys := by decide +kernel
  have first : ∀ k < 8, E.PROT_CAUSE.key k ∉ [E.PROT_STATE].flatMap Fam.keys ∧ E.TRIP_CNT.key k ∉ [E.PROT_STATE].flatMap Fam.keys := by decide +kernel
  have all := OnlyFams.trans (fs := clearFams) (told.mono (by simp [clearFams])) back
  refine ⟨⟨(shown.mono (by simp [tripFams])).trans (all.mono (by decide +kernel)), ⟨?_, ?_, ?_⟩, fun h7 usable lock pilot => ?_⟩, x, shown, all⟩
  · exact (all.n _ _ (own k hk _ (by simp))).trans state
  · exact (all.n _ _ (own k hk _ (by simp))).trans (shown.n _ _ (first k hk).1)
  · exact (all.n _ _ (own k hk _ (by simp))).trans (shown.n _ _ (first k hk).2)
  · subst h7
    have pilot' : (y.protOf 7).pilotOpen = false := by
      unfold Mod.protOf at pilot ⊢
      rw [same.1, kept.1]
      exact pilot
    exact Mod.reclose_closed usable (same.2.trans (kept.2.trans lock)) pilot'

theorem execSafe_of_alive {t : Nat} {f : Mod → Mod} {s : State} (ha : s.m.alive = true) : execSafe t f s = execM t f s := by
  have alive : (s.m.at t).alive = true := ha
  unfold execSafe execM
  rw [if_pos alive, if_pos alive]

end Sys2Proof.Machine
namespace Sys2Proof

open Machine

/-- Settles O26: a trip opens its port's switch and tells it, the stages and phases follow, and a port that clears by itself is NORMAL again. -/
theorem portTripsAndClears : Obligations.PortTripsAndClears := by
  unfold Obligations.PortTripsAndClears
  have shown : ∀ (m : Mod) (k : Nat) (x : Rat), k < 8 → (m.setQ E.SW_TEMP k x).n E.SW_TEMP k = f32OfRat x := fun m k x hk => Mod.n_setN_same m _ hk
  have temp : ∀ k < 8, E.SW_TEMP.key k ∉ (tripEntries ++ (enterFams ++ actFams)).flatMap Fam.keys ∧
      E.SW_TEMP.key k ∉ [E.PROT_STATE].flatMap Fam.keys ∧ E.SW_TEMP.key k ∉ clearFams.flatMap Fam.keys := by decide +kernel
  refine ⟨?_, ?_, ?_, ?_, ?_, ?_, ?_, ?_⟩
  · intro t k x s ha hk st above
    refine DoesM.intro (f := Mod.fastTrip k x) (execSafe_of_alive ha) ha ?_
    change (s.m.at t).n E.PROT_STATE k ≤ 1 at st
    change (s.m.at t).cq E.FT_MULT k * portRating k ≤ fastSense k x at above
    generalize s.m.at t = m at *
    have tripped := Mod.trip_tripped 1 x hk st
    rw [Mod.fastTrip_eq hk above]
    generalize (m.trip k 1 x).tripActions k = a at tripped
    replace tripped := tripped.before hk ((Stands.capTrigger a 8 m.tb).mono actFams_cap) (Mod.gated_of_stg (Mod.stg_of_plant (a.plant_capTrigger 8 m.tb)))
    generalize a.capTrigger 8 m.tb = b at tripped
    split
    · obtain ⟨ended, stg⟩ := b.clampOff_does
      exact tripped.before hk ended (Mod.gated_of_stg stg)
    · exact tripped
  · intro t k x s ha hk st hot
    refine DoesM.intro (f := Mod.i2tTrip k x) rfl ha ?_
    change (s.m.at t).n E.PROT_STATE k ≤ 1 at st
    change (s.m.at t).cq E.I2T_K k ≤ ((s.m.at t).protOf k).theta at hot
    generalize s.m.at t = m at *
    have low : m.n E.PROT_STATE k ≤ 2 := by omega
    rw [Mod.i2tTrip, if_pos (by simp [hk, low, hot])]
    dsimp only
    rw [decide_eq_true st]
    exact Mod.trip_tripped 2 x hk st
  · intro t x s ha st above
    refine DoesM.intro (f := Mod.sysOvervoltage x) rfl ha ?_
    change (s.m.at t).n E.PROT_STATE 5 ≤ 1 at st
    change (s.m.at t).ovpThreshold < x at above
    generalize s.m.at t = m at *
    have gates := Stands.gateOffBoth m 5
    have yard := m.gateOffBoth_yard 5
    have apart : ∀ f ∈ [E.PROT_STATE, E.TRIP_CNT, E.PROT_LATCH_N, E.PROT_LATCH_W], ∀ j < 8, f.key j ∉ stageFams.flatMap Fam.keys := by decide +kernel
    rw [Mod.sysOvervoltage, if_pos (by simp [above, st])]
    have port : (m.gateOffBoth 5).n E.PROT_STATE 5 ≤ 1 := (gates.1.n _ _ (apart E.PROT_STATE (by simp) 5 (by decide))).symm ▸ st
    exact (Mod.trip_tripped 3 (m.iPort 5) (by decide) port).after (gates.1.mono (by decide +kernel)) (Mod.tb_of_yard yard) (Mod.prot_of_yard yard)
      (fun f hf j hj => gates.1.n f j (apart f hf j hj)) (by decide)
  · intro t k x s ha hk st hot
    refine DoesM.intro (f := Mod.switchOvertemp k x) rfl ha ?_
    change (s.m.at t).n E.PROT_STATE k ≤ 1 at st
    generalize s.m.at t = m at *
    have apart : ∀ f ∈ [E.PROT_STATE, E.TRIP_CNT, E.PROT_LATCH_N, E.PROT_LATCH_W], ∀ j < 8, ∀ k < 8, f.key j ≠ E.SW_TEMP.key k := by decide +kernel
    have kept : ∀ f ∈ [E.PROT_STATE, E.TRIP_CNT, E.PROT_LATCH_N, E.PROT_LATCH_W], ∀ j < 8, (m.setQ E.SW_TEMP k x).n f j = m.n f j :=
      fun f hf j hj => Mod.n_setN_ne m _ (apart f hf j hj k hk)
    have only : OnlyFams trippedFams m (m.setQ E.SW_TEMP k x) := (OnlyFams.refl _ m).set (by simp [trippedFams])
    have own := shown m k x hk
    have port : (m.setQ E.SW_TEMP k x).n E.PROT_STATE k ≤ 1 := (kept E.PROT_STATE (by simp) k hk).symm ▸ st
    have same : (m.setQ E.SW_TEMP k x).tb = m.tb ∧ (m.setQ E.SW_TEMP k x).prot = m.prot := ⟨rfl, rfl⟩
    rw [Mod.switchOvertemp, if_pos (by simp [hk, hot])]
    dsimp only
    generalize m.setQ E.SW_TEMP k x = y at *
    rw [if_pos port]
    refine ⟨(Mod.trip_tripped 5 (y.iPort k) hk port).after only same.1 same.2 kept hk, ?_⟩
    exact ((Mod.trip_touches 5 (y.iPort k) hk port).n _ _ (temp k hk).1).trans own
  · intro t k x s ha hk st cause hot tick
    refine DoesM.intro (f := Mod.i2tTrip k x) rfl ha ?_
    change (s.m.at t).n E.PROT_STATE k = 2 at st
    change (s.m.at t).cq E.I2T_K k ≤ ((s.m.at t).protOf k).theta at hot
    rw [Mod.i2tTrip, if_pos (by simp [hk, st, hot]), st, Mod.trip_lower x st tick cause]
    exact ⟨Mod.n_setN_same _ 2 hk, fun j hj => Mod.odGet_setV_ne _ E.PROT_CAUSE k _ (by simpa using hj)⟩
  · intro t k s ha hk st cause cool
    refine DoesM.intro (f := Mod.i2tClear k) rfl ha ?_
    change (s.m.at t).n E.PROT_STATE k = 2 at st
    change (s.m.at t).n E.PROT_CAUSE k = 2 at cause
    change (s.m.at t).i2tPct k < (s.m.at t).cq E.I2T_RESET k at cool
    rw [Mod.i2tClear, if_pos (by simp [hk, st, cause, cool])]
    exact ((s.m.at t).clearPort_cleared hk).1
  · intro t k x s ha hk st cause cool
    refine DoesM.intro (f := Mod.switchCool k x) rfl ha ?_
    change (s.m.at t).n E.PROT_STATE k = 2 at st
    change (s.m.at t).n E.PROT_CAUSE k = 5 at cause
    generalize s.m.at t = m at *
    rw [Mod.switchCool, if_pos (by simp [hk, st, cause, cool])]
    have apart : ∀ k < 8, E.PROT_CAUSE.key k ≠ E.SW_TEMP.key k ∧ E.TRIP_CNT.key k ≠ E.SW_TEMP.key k := by decide +kernel
    have only : OnlyFams (tripFams ++ [E.SST_HICCUP, E.SW_TEMP]) m (m.setQ E.SW_TEMP k x) := (OnlyFams.refl _ m).set (by simp)
    have same : (m.setQ E.SW_TEMP k x).n E.PROT_CAUSE k = m.n E.PROT_CAUSE k ∧ (m.setQ E.SW_TEMP k x).n E.TRIP_CNT k = m.n E.TRIP_CNT k :=
      ⟨Mod.n_setN_ne m _ (apart k hk).1, Mod.n_setN_ne m _ (apart k hk).2⟩
    have kept : (m.setQ E.SW_TEMP k x).prot = m.prot ∧ (m.setQ E.SW_TEMP k x).lockstep = m.lockstep := ⟨rfl, rfl⟩
    have own := shown m k x hk
    generalize m.setQ E.SW_TEMP k x = y at *
    obtain ⟨⟨frame, ⟨state, kause, count⟩, switch⟩, z, first, rest⟩ := y.clearPort_cleared hk
    refine ⟨⟨only.trans frame, ⟨state, kause.trans same.1, count.trans same.2⟩, fun h usable lock pilot => ?_⟩, ?_⟩
    · refine switch h usable (kept.2.trans lock) ?_
      unfold Mod.protOf at pilot ⊢
      rw [kept.1]
      exact pilot
    · exact (rest.n _ _ (temp k hk).2.2).trans ((first.n _ _ (temp k hk).2.1).trans own)
  · intro t k s ha hk st due ends
    refine DoesM.intro (f := Mod.limitExit k) rfl ha ?_
    change (s.m.at t).n E.PROT_STATE k = 1 at st
    change (s.m.at t).limitHolds k = false at ends
    rw [Mod.limitExit, if_pos (by simp [hk, st, due, ends])]
    generalize s.m.at t = m at *
    refine ⟨Mod.n_setN_same m 0 hk, fun j hj => Mod.odGet_setV_ne m E.PROT_STATE k _ (by simpa using hj), ?_, rfl⟩
    exact .disarm (m.setN E.PROT_STATE k 0) (by simp)

end Sys2Proof
end

section
/-! PROOF. Soft start and soft stop (R177 to R180). -/

set_option Elab.async false

namespace Sys2Proof.Machine

open Sys2Proof

/-! ## Phases, one by one -/

/-- What is seen of each phase after a pass over phases that differ, where each step changes what is seen of its own alone. -/
theorem foldl_own {α β : Type} (see : α → Nat → β) (change : β → β) {f : α → Nat → α} (l : List Nat) (nodup : l.Nodup)
    (own : ∀ x, ∀ p ∈ l, see (f x p) p = change (see x p)) (other : ∀ x, ∀ p ∈ l, ∀ q ∈ l, q ≠ p → see (f x p) q = see x q) (x : α) :
    ∀ q ∈ l, see (l.foldl f x) q = change (see x q) := by
  have kept : ∀ (r : List Nat) (y : α), r ⊆ l → ∀ q ∈ l, q ∉ r → see (r.foldl f y) q = see y q := by
    intro r
    induction r with
    | nil => exact fun _ _ _ _ _ => rfl
    | cons b r ih =>
      intro y sub q hq out
      obtain ⟨ne, out⟩ := not_or.1 (fun h => out (List.mem_cons.2 h))
      exact (ih (f y b) (fun c hc => sub (List.mem_cons_of_mem _ hc)) q hq out).trans (other y b (sub (by simp)) q hq ne)
  have all : ∀ (r : List Nat) (y : α), r.Nodup → r ⊆ l → ∀ q ∈ r, see (r.foldl f y) q = change (see y q) := by
    intro r
    induction r with
    | nil => exact fun _ _ _ _ h => absurd h (by simp)
    | cons b r ih =>
      intro y nd sub q hq
      obtain ⟨out, nd⟩ := List.nodup_cons.1 nd
      have rest : r ⊆ l := fun c hc => sub (List.mem_cons_of_mem _ hc)
      have hb : b ∈ l := sub (by simp)
      rcases List.mem_cons.1 hq with rfl | h
      · exact (kept r (f y q) rest q hb out).trans (own y q hb)
      · have ne : q ≠ b := fun e => out (e ▸ h)
        exact (ih (f y b) nd rest q h).trans (congrArg change (other y b hb q (rest h) ne))
  exact all l x nodup (List.Subset.refl l)

theorem stagePhases_nodup (g : Nat) : (stagePhases g).Nodup :=
  List.Nodup.map (fun _ _ h => Nat.add_left_cancel h) List.nodup_range

theorem stagePhases_mem (g : Nat) {j : Nat} (h : j < 8) : 8 * g + j ∈ stagePhases g := List.mem_map.2 ⟨j, List.mem_range.2 h, rfl⟩

theorem phState_key_ne {p q : Nat} (h : p ≠ q) : E.PH_STATE.key p ≠ E.PH_STATE.key q := by
  simp only [Fam.key, Fam.index, E.PH_STATE]
  omega

theorem stageIdx_lt (st : Stage) : Stage.idx st < 2 := by cases st <;> decide

/-! ## The ramps begin (R177) -/

/-- R177: what a phase that starts with its stage keeps. -/
def Ph.ramped (tb : Nat) (y : Ph) : Ph := { y with activeSince := tb, fresh := true }

/-- R177: a phase that is ARMED, not excluded and not held back starts with its stage. -/
def Mod.rampPhase (m : Mod) (p : Nat) : Mod :=
  if m.n E.PH_STATE p == 2 && !m.excluded p && !m.armed (.armHold p) then
    (m.setN E.PH_STATE p 4).modPh p (Ph.ramped m.tb)
  else m

/-- R177: the phases of a stage whose ramps begin. -/
def Mod.rampPhases (m : Mod) (g : Nat) : Mod := (stagePhases g).foldl Mod.rampPhase m

/-- What decides whether a phase starts with its stage: its state, PH_EN, its temperature, its hold. -/
def Mod.seePhase (m : Mod) (p : Nat) : Nat × Bool × Bool × Bool := (m.n E.PH_STATE p, m.b E.PH_EN p, (m.phOf p).hot, m.armed (.armHold p))

/-- R177: whether a phase that is seen so starts, and the state it has then. -/
def rampSeen (x : Nat × Bool × Bool × Bool) : Nat × Bool × Bool × Bool :=
  (if x.1 == 2 && !(x.1 == 6 || !x.2.1 || x.2.2.1) && !x.2.2.2 then 4 else x.1, x.2)

theorem Mod.phOf_modPh_hot (m : Mod) (p : Nat) (f : Ph → Ph) (hf : ∀ x, (f x).hot = x.hot) (q : Nat) : ((m.modPh p f).phOf q).hot = (m.phOf q).hot := by
  by_cases h : q = p
  · rw [h]
    exact (congrArg Ph.hot (getD_modAt_same _ m.phs p f)).trans (hf _)
  · exact congrArg Ph.hot (getD_modAt_ne _ _ _ h)

theorem Mod.rampPhase_own (m : Mod) {p : Nat} (hp : p < 16) : (m.rampPhase p).seePhase p = rampSeen (m.seePhase p) := by
  have en : E.PH_EN.key p ≠ E.PH_STATE.key p := by
    have apart : ∀ p < 16, E.PH_EN.key p ≠ E.PH_STATE.key p := by decide +kernel
    exact apart p hp
  unfold Mod.rampPhase
  change _ = ((if m.n E.PH_STATE p == 2 && !m.excluded p && !m.armed (.armHold p) then 4 else m.n E.PH_STATE p), _)
  split
  · have state : (m.setN E.PH_STATE p 4).n E.PH_STATE p = 4 := Mod.n_setN_same m 4 hp
    have enabled : (m.setN E.PH_STATE p 4).b E.PH_EN p = m.b E.PH_EN p := congrArg (· != 0) (Mod.n_setN_ne m 4 en)
    have hot : (((m.setN E.PH_STATE p 4).modPh p (Ph.ramped m.tb)).phOf p).hot = (m.phOf p).hot :=
      Mod.phOf_modPh_hot (m.setN E.PH_STATE p 4) p (Ph.ramped m.tb) (fun _ => rfl) p
    exact Prod.ext state (Prod.ext enabled (Prod.ext hot rfl))
  · rfl

theorem Mod.rampPhase_other (m : Mod) {p q : Nat} (hp : p < 16) (hq : q < 16) (h : q ≠ p) : (m.rampPhase p).seePhase q = m.seePhase q := by
  have apart : ∀ p < 16, ∀ q < 16, E.PH_EN.key q ≠ E.PH_STATE.key p := by decide +kernel
  unfold Mod.rampPhase
  split
  · have state : (m.setN E.PH_STATE p 4).n E.PH_STATE q = m.n E.PH_STATE q := Mod.n_setN_ne m 4 (phState_key_ne h)
    have enabled : (m.setN E.PH_STATE p 4).b E.PH_EN q = m.b E.PH_EN q := congrArg (· != 0) (Mod.n_setN_ne m 4 (apart p hp q hq))
    have hot : (((m.setN E.PH_STATE p 4).modPh p (Ph.ramped m.tb)).phOf q).hot = (m.phOf q).hot :=
      Mod.phOf_modPh_hot (m.setN E.PH_STATE p 4) p (Ph.ramped m.tb) (fun _ => rfl) q
    exact Prod.ext state (Prod.ext enabled (Prod.ext hot rfl))
  · rfl

theorem AtPhases.rampPhase {fs : List Fam} (m : Mod) (p : Nat) (hf : E.PH_STATE ∈ fs) : AtPhases fs m (m.rampPhase p) := by
  unfold Mod.rampPhase
  split
  · exact (AtPhases.setV (f := E.PH_STATE) m p _ hf).trans (.modPh _ _ p _)
  · exact .refl _ m

theorem Mod.rampPhase_timers (m : Mod) (p : Nat) : (m.rampPhase p).timers = m.timers := by
  unfold Mod.rampPhase
  split
  · exact (Mod.modPh_timers _ p _).trans (m.setV_timers _ p _)
  · rfl

theorem Mod.rampPhases_does (m : Mod) {g : Nat} (hg : g < 2) : AtPhases [E.PH_STATE] m (m.rampPhases g) ∧ (m.rampPhases g).timers = m.timers ∧
    ∀ j, j < 8 → (m.rampPhases g).n E.PH_STATE (8 * g + j) =
      if m.n E.PH_STATE (8 * g + j) = 2 ∧ m.excluded (8 * g + j) = false ∧ m.armed (.armHold (8 * g + j)) = false then 4
      else m.n E.PH_STATE (8 * g + j) := by
  have passed : AtPhases [E.PH_STATE] m (m.rampPhases g) := .foldl (fun x p => .rampPhase x p (by simp)) _ m
  have kept : (m.rampPhases g).timers = m.timers := foldl_keeps Mod.timers Mod.rampPhase Mod.rampPhase_timers _ m
  have seen := foldl_own Mod.seePhase rampSeen (f := Mod.rampPhase) (stagePhases g) (stagePhases_nodup g)
    (fun x p hp => x.rampPhase_own (mem_stagePhases hp hg)) (fun x p hp q hq => x.rampPhase_other (mem_stagePhases hp hg) (mem_stagePhases hq hg)) m
  refine ⟨passed, kept, fun j hj => ?_⟩
  have one : (m.rampPhases g).seePhase (8 * g + j) = rampSeen (m.seePhase (8 * g + j)) := seen _ (stagePhases_mem g hj)
  generalize m.rampPhases g = x at one
  have state := congrArg Prod.fst one
  change x.n E.PH_STATE (8 * g + j) = if m.n E.PH_STATE (8 * g + j) == 2 && !m.excluded (8 * g + j) && !m.armed (.armHold (8 * g + j)) then 4
      else m.n E.PH_STATE (8 * g + j) at state
  simp only [Bool.and_eq_true, beq_iff_eq, Bool.not_eq_true', and_assoc] at state
  exact state

/-- R177: carriers at their assigned instant. -/
def Mod.rampCarriers (m : Mod) (g : Nat) : Mod :=
  let m := ((m.putSlots (m.switching g)).atSlots g).countPhases
  m.modStg g (fun x => { x with origin := m.originGoal g })

theorem Mod.sstDelay_eq {m : Mod} {g : Nat} (st : m.n E.SST_STATE g = 1) (due : m.due (.sstDelay (g == 0)) = true) (gate : m.gated g = false) :
    m.sstDelay g = (((m.setN E.SST_STATE g 2).disarm (.sstDelay (g == 0))).rampPhases g).rampCarriers g := by
  have starts : (m.n E.SST_STATE g == 1 && m.due (.sstDelay (g == 0)) && !m.gated g) = true := by simp [st, due, gate]
  unfold Mod.sstDelay
  rw [if_pos starts]
  have phases : ∀ x : Mod, x.rampPhases g = (stagePhases g).foldl (fun m p =>
      if m.n E.PH_STATE p == 2 && !m.excluded p && !m.armed (.armHold p) then
        (m.setN E.PH_STATE p 4).modPh p (fun y => { y with activeSince := m.tb, fresh := true })
      else m) x := fun _ => rfl
  rw [phases]
  unfold Mod.rampCarriers
  rfl

theorem Mod.rampCarriers_does (m : Mod) (g : Nat) : AtPhases slotFams m (m.rampCarriers g) ∧ (m.rampCarriers g).timers = m.timers := by
  have put := AtPhases.putSlots m (m.switching g) (fs := slotFams) (by simp [slotFams])
  have kept := m.putSlots_timers (m.switching g)
  unfold Mod.rampCarriers
  dsimp only
  generalize m.putSlots (m.switching g) = x at *
  have at_ := AtPhases.atSlots slotFams x g
  have still : (x.atSlots g).timers = x.timers :=
    foldl_keeps Mod.timers (fun (m : Mod) p => m.modPh p (fun y => { y with pos := m.slotGoal g p })) (fun _ _ => rfl) _ _
  generalize x.atSlots g = y at *
  have counted := (AtPhases.countPhases y).mono (gs := slotFams) (List.subset_cons_self _ _)
  have same := y.countPhases_timers
  generalize y.countPhases = z at *
  exact ⟨((put.trans at_).trans counted).trans (.modStg _ z g _), same.trans (still.trans kept)⟩

/-- R177: SST_DELAY is over. -/
theorem Mod.sstDelay_does {m : Mod} {g : Nat} (hg : g < 2) (st : m.n E.SST_STATE g = 1) (due : m.due (.sstDelay (g == 0)) = true)
    (gate : m.gated g = false) : OnlyFams [E.SST_STATE, E.PH_STATE, E.PH_SLOT, E.STG_NACT, E.IN_PHASES] m (m.sstDelay g) ∧
    (m.sstDelay g).n E.SST_STATE g = 2 ∧ (m.sstDelay g).deadline (.sstDelay (g == 0)) = none ∧
    ∀ j, j < 8 → (m.sstDelay g).n E.PH_STATE (8 * g + j) =
      if m.n E.PH_STATE (8 * g + j) = 2 ∧ m.excluded (8 * g + j) = false ∧ m.armed (.armHold (8 * g + j)) = false then 4
      else m.n E.PH_STATE (8 * g + j) := by
  rw [Mod.sstDelay_eq st due gate]
  have shown : OnlyFams [E.SST_STATE] m ((m.setN E.SST_STATE g 2).disarm (.sstDelay (g == 0))) :=
    OnlyFams.of_od (x := m.setN E.SST_STATE g 2) (.setV (f := E.SST_STATE) m g _ (by simp)) rfl
  have state : ((m.setN E.SST_STATE g 2).disarm (.sstDelay (g == 0))).n E.SST_STATE g = 2 := Mod.n_setN_same m 2 hg
  have ended : ((m.setN E.SST_STATE g 2).disarm (.sstDelay (g == 0))).deadline (.sstDelay (g == 0)) = none := Mod.deadline_disarm_same _ _
  have holds : ∀ p, ((m.setN E.SST_STATE g 2).disarm (.sstDelay (g == 0))).armed (.armHold p) = m.armed (.armHold p) := fun p =>
    congrArg Option.isSome (Mod.deadline_disarm_ne (m.setN E.SST_STATE g 2) (by simp))
  have hots : ∀ p, (((m.setN E.SST_STATE g 2).disarm (.sstDelay (g == 0))).phOf p).hot = (m.phOf p).hot := fun _ => rfl
  generalize (m.setN E.SST_STATE g 2).disarm (.sstDelay (g == 0)) = x at *
  obtain ⟨⟨ramp, -⟩, still, states⟩ := x.rampPhases_does hg
  generalize x.rampPhases g = y at *
  obtain ⟨⟨carried, -⟩, kept⟩ := y.rampCarriers_does g
  generalize y.rampCarriers g = z at *
  have phases : ∀ p < 16, E.PH_STATE.key p ∉ [E.SST_STATE].flatMap Fam.keys ∧ E.PH_EN.key p ∉ [E.SST_STATE].flatMap Fam.keys ∧
      E.PH_STATE.key p ∉ slotFams.flatMap Fam.keys := by decide +kernel
  have stages : ∀ g < 2, E.SST_STATE.key g ∉ [E.PH_STATE].flatMap Fam.keys ∧ E.SST_STATE.key g ∉ slotFams.flatMap Fam.keys := by decide +kernel
  refine ⟨((shown.mono (by simp)).trans (ramp.mono (by simp))).trans (carried.mono (by simp [slotFams, countFams])), ?_, ?_, fun j hj => ?_⟩
  · exact (carried.n _ _ (stages g hg).2).trans ((ramp.n _ _ (stages g hg).1).trans state)
  · unfold Mod.deadline at ended ⊢
    rw [kept, still]
    exact ended
  · have hp : 8 * g + j < 16 := by omega
    obtain ⟨out, en, slot⟩ := phases _ hp
    have was := shown.n _ _ out
    have excluded : x.excluded (8 * g + j) = m.excluded (8 * g + j) := by
      unfold Mod.excluded Mod.b
      rw [was, shown.n _ _ en, hots]
    rw [carried.n _ _ slot, states j hj, was, excluded, holds]

/-! ## The start is complete (R177, R160, R180) -/

/-- R177: what a stage whose start is complete keeps. -/
def Stg.started (x : Stg) : Stg := { x with deadBus := false, mooringStart := false }

/-- R177, R180: the entries of a stage whose start is complete. -/
def Mod.startShown (m : Mod) (g : Nat) : Mod := ((m.modStg g Stg.started).setN E.SST_STATE g 3).setN E.SST_HICCUP g 0

theorem Mod.startShown_does (m : Mod) {g : Nat} (hg : g < 2) : (m.startShown g).n E.SST_STATE g = 3 ∧ (m.startShown g).n E.SST_HICCUP g = 0 ∧
    ((m.startShown g).stgOf g).deadBus = false ∧ (m.startShown g).journal = m.journal ∧ (m.startShown g).n E.LOOP_CEST g = m.n E.LOOP_CEST g ∧
    SameOd [E.SST_STATE.key g, E.SST_HICCUP.key g] m (m.startShown g) := by
  have apart : ∀ g < 2, E.SST_STATE.key g ≠ E.SST_HICCUP.key g ∧ E.LOOP_CEST.key g ≠ E.SST_HICCUP.key g ∧ E.LOOP_CEST.key g ≠ E.SST_STATE.key g := by decide +kernel
  obtain ⟨sh, lh, ls⟩ := apart g hg
  unfold Mod.startShown
  have dead : ((m.modStg g Stg.started).stgOf g).deadBus = false := congrArg Stg.deadBus (getD_modAt_same _ _ _ _)
  have same : (m.modStg g Stg.started).od = m.od ∧ (m.modStg g Stg.started).journal = m.journal := ⟨rfl, rfl⟩
  have cest : (m.modStg g Stg.started).n E.LOOP_CEST g = m.n E.LOOP_CEST g := rfl
  generalize m.modStg g Stg.started = x at *
  refine ⟨?_, Mod.n_setN_same _ 0 hg, dead, same.2, ?_, fun k hk => ?_⟩
  · rw [Mod.n_setN_ne _ _ sh, Mod.n_setN_same _ _ hg]
  · rw [Mod.n_setN_ne _ _ lh, Mod.n_setN_ne _ _ ls, cest]
  · obtain ⟨k1, k2⟩ := not_or.1 (fun h => hk (List.mem_cons.2 h))
    rw [Mod.setN, Mod.odGet_setV_ne _ _ _ _ (by simpa using k2), Mod.setN, Mod.odGet_setV_ne _ _ _ _ k1, same.1]

theorem Mod.softStartDone_does {m : Mod} {g : Nat} (v i : Rat) (st : m.n E.SST_STATE g = 2) (gate : m.gated g = false)
    (lim : 1 ≤ (m.stgOf g).lim) (ends : m.regStage = some g → m.reg.vset = m.vsetEnd ∧ absR (v - m.q E.V_REF 0) ≤ m.q E.V_REF 0 / 50) :
    m.softStartDone g v i = (m.when (m.stgOf g).deadBus (·.commitQ E.LOOP_CEST g (cestOf i m.deadRate))).startShown g := by
  have done : (m.n E.SST_STATE g == 2 && !m.gated g && decide (1 ≤ (m.stgOf g).lim) &&
      (!(m.regStage == some g) || (decide (m.reg.vset = m.vsetEnd) && decide (absR (v - m.q E.V_REF 0) ≤ m.q E.V_REF 0 / 50)))) = true := by
    by_cases regs : m.regStage = some g
    · obtain ⟨reached, near⟩ := ends regs
      simp [st, gate, lim, reached, near]
    · simp [st, gate, lim, regs]
  unfold Mod.softStartDone
  dsimp only
  rw [if_pos done]
  rfl

/-! ## A short under the ramp (R179, R180) -/

/-- R179: the gates are off and SYS is open. -/
def Mod.rampCut (m : Mod) (g : Nat) : Mod := ((m.abandonStage g).modStg g (fun x => { x with gate := Sys2Proof.setBit x.gate 5 true })).openSwitch 5

theorem Mod.gated_of_bit {m : Mod} {g k : Nat} (h : bit (m.stgOf g).gate k = true) : m.gated g = true := by
  refine bne_iff_ne.2 fun z => ?_
  rw [z] at h
  simp [bit] at h

theorem Mod.rampCut_does (m : Mod) (g : Nat) : OnlyFams stageFams m (m.rampCut g) ∧ (m.rampCut g).closed 5 = false ∧
    (m.rampCut g).gated g = true ∧ (m.rampCut g).tb = m.tb := by
  have off := OnlyFams.abandonStage m g
  have tb := Mod.tb_of_yard (m.abandonStage_yard g)
  unfold Mod.rampCut
  generalize m.abandonStage g = x at *
  have held : bit ((x.modStg g (fun y => { y with gate := Sys2Proof.setBit y.gate 5 true })).stgOf g).gate 5 = true :=
    (congrArg (fun y : Stg => bit y.gate 5) (getD_modAt_same _ x.stg g _)).trans (bit_setBit_same _ 5 true)
  have same : (x.modStg g (fun y => { y with gate := Sys2Proof.setBit y.gate 5 true })).od = x.od ∧
    (x.modStg g (fun y => { y with gate := Sys2Proof.setBit y.gate 5 true })).tb = x.tb := ⟨rfl, rfl⟩
  generalize x.modStg g (fun y => { y with gate := Sys2Proof.setBit y.gate 5 true }) = y at *
  exact ⟨(off.of_od same.1).of_od rfl, y.openSwitch_closed 5, Mod.gated_of_stg rfl g ▸ Mod.gated_of_bit held, same.2.trans tb⟩

/-- What a stage whose start is aborted touches. -/
def abortFams : List Fam := stageFams ++ (logFams ++ (tripEntries ++ enterFams))

/-- R180: the entry and the record of the abort. -/
theorem Mod.rampNoted_does (m : Mod) {g : Nat} (hg : g < 2) : OnlyFams abortFams m (m.setNoted E.SST_STATE g 4) ∧
    (m.setNoted E.SST_STATE g 4).n E.SST_STATE g = 4 ∧ (m.setNoted E.SST_STATE g 4).plant = m.plant := by
  have shown : OnlyFams abortFams m (m.setN E.SST_STATE g 4) := .setV (f := E.SST_STATE) m g _ (by simp [abortFams, stageFams])
  have state : (m.setN E.SST_STATE g 4).n E.SST_STATE g = 4 := Mod.n_setN_same m 4 hg
  have plant : (m.setN E.SST_STATE g 4).plant = m.plant := rfl
  have apart : ∀ g < 2, E.SST_STATE.key g ∉ logFams.flatMap Fam.keys := by decide +kernel
  unfold Mod.setNoted Mod.note
  generalize m.setN E.SST_STATE g 4 = x at *
  have put := OnlyFams.logPut x (x.record 0x0F00 0 0xFF 0xFF 0 (E.SST_STATE.index g) E.SST_STATE.sub 0xFF
    (pad8 E.SST_STATE.ty (m.getV E.SST_STATE g) ++ pad8 E.SST_STATE.ty (x.getV E.SST_STATE g)))
  exact ⟨shown.trans (put.mono fun f hf => by simp only [abortFams, List.mem_append]; tauto), (put.n _ _ (apart g hg)).trans state,
    (Mod.plant_logPut _ _).trans plant⟩

/-- R179, R180: what follows the abort: the wait for a retry, or after the third LATCHED. -/
def Mod.rampEnd (m : Mod) (g : Nat) : Mod :=
  if m.n E.SST_HICCUP g = 3 then ((m.protEnter 5 3 6 (m.iPort 5)).portGates).setN E.SST_STATE g 4
  else (m.setN E.SST_STATE g 5).arm (.hiccup (g == 0)) (m.tb + sec 1)

theorem Mod.rampEnd_does {m : Mod} {g : Nat} (hg : g < 2) (open_ : m.closed 5 = false) (gate : m.gated g = true) :
    OnlyFams abortFams m (m.rampEnd g) ∧ (m.rampEnd g).closed 5 = false ∧ (m.rampEnd g).gated g = true ∧
    (m.n E.SST_HICCUP g ≠ 3 → (m.rampEnd g).n E.SST_STATE g = 5 ∧ (m.rampEnd g).deadline (.hiccup (g == 0)) = some (m.tb + sec 1)) ∧
    (m.n E.SST_HICCUP g = 3 → (m.rampEnd g).n E.SST_STATE g = 4 ∧ (m.rampEnd g).n E.PROT_STATE 5 = 3 ∧ (m.rampEnd g).n E.PROT_CAUSE 5 = 6) := by
  unfold Mod.rampEnd
  split
  · rename_i third
    obtain ⟨only, state, caused, -⟩ := m.protEnter_shows 3 6 (m.iPort 5) (show 5 < 8 by decide)
    obtain ⟨-, closed, -⟩ := m.protEnter_does 5 3 6 (m.iPort 5)
    generalize m.protEnter 5 3 6 (m.iPort 5) = x at *
    obtain ⟨gates, stand, -⟩ := Stands.portGates x
    have both := x.portGates_gated.1 (by omega)
    generalize x.portGates = y at *
    have apart : E.PROT_STATE.key 5 ∉ stageFams.flatMap Fam.keys ∧ E.PROT_CAUSE.key 5 ∉ stageFams.flatMap Fam.keys := by decide +kernel
    have ne : ∀ g < 2, E.PROT_STATE.key 5 ≠ E.SST_STATE.key g ∧ E.PROT_CAUSE.key 5 ≠ E.SST_STATE.key g := by decide +kernel
    have held : y.gated g = true := by
      rcases (show g = 0 ∨ g = 1 by omega) with rfl | rfl
      · exact both.1
      · exact both.2
    refine ⟨((only.mono fun f hf => ?_).trans (gates.mono fun f hf => ?_)).set (f := E.SST_STATE) (by simp [abortFams, stageFams]), (stand 5).trans closed, held,
      fun h => absurd third h, fun _ => ⟨Mod.n_setN_same y 4 hg, ?_, ?_⟩⟩
    · simp only [abortFams, List.mem_append] at hf ⊢
      tauto
    · simp only [abortFams, List.mem_append]
      exact Or.inl hf
    · rw [Mod.n_setN_ne y 4 (ne g hg).1, gates.n _ _ apart.1, state]
    · rw [Mod.n_setN_ne y 4 (ne g hg).2, gates.n _ _ apart.2, caused]
  · rename_i less
    have shown : OnlyFams abortFams m (m.setN E.SST_STATE g 5) := .setV (f := E.SST_STATE) m g _ (by simp [abortFams, stageFams])
    have state : (m.setN E.SST_STATE g 5).n E.SST_STATE g = 5 := Mod.n_setN_same m 5 hg
    have same : (m.setN E.SST_STATE g 5).prot = m.prot ∧ (m.setN E.SST_STATE g 5).stg = m.stg := ⟨rfl, rfl⟩
    generalize m.setN E.SST_STATE g 5 = x at *
    refine ⟨shown.of_od rfl, ?_, (Mod.gated_of_stg (m := m) same.2 g).trans gate, fun _ => ⟨state, Mod.deadline_arm_same _ _ _⟩, fun h => absurd h less⟩
    change x.closed 5 = false
    unfold Mod.closed Mod.protOf at open_ ⊢
    rw [same.1]
    exact open_

theorem Mod.softStartAbort_eq {m : Mod} {g : Nat} (dead : m.deadRamp g = true) (high : 30 ≤ m.reg.vset) (hg : g < 2) (path : m.n E.PATH_ACT 0 ≠ 7) :
    m.softStartAbort g = ((m.rampCut g).setNoted E.SST_STATE g 4).rampEnd g := by
  have apart : E.PATH_ACT.key 0 ∉ abortFams.flatMap Fam.keys := by decide +kernel
  have cut := (m.rampCut_does g).1.mono (gs := abortFams) (List.subset_append_left _ _)
  have noted := ((m.rampCut g).rampNoted_does hg).1
  have same := (noted.n _ _ apart).trans (cut.n _ _ apart)
  have aborts : (m.deadRamp g && decide (30 ≤ m.reg.vset)) = true := by simp [dead, high]
  have out : ¬ ((m.rampCut g).setNoted E.SST_STATE g 4).n E.PATH_ACT 0 = 7 := same ▸ path
  unfold Mod.softStartAbort
  rw [if_pos aborts]
  exact if_neg out

/-! ## The soft stop (R178) -/

theorem Mod.rampDown_does (m : Mod) (g : Nat) (len : Rat) : ((m.rampDown g len).stgOf g).stopping = true ∧
    ((m.rampDown g len).stgOf g).limFrom = (m.stgOf g).lim ∧ ((m.rampDown g len).stgOf g).stopMs = len := by
  have stage : (m.rampDown g len).stgOf g = { m.stgOf g with
    stopping := true, limFrom := (m.stgOf g).lim, stopMs := len, refs := if (m.stgOf g).refs.isEmpty then m.presentRefs g else (m.stgOf g).refs } :=
    getD_modAt_same _ _ _ _
  rw [stage]
  exact ⟨rfl, rfl, rfl⟩

/-- R161: a phase of a stage that turns off is OFF, but where it is FAULTED. -/
def Mod.restPhase (m : Mod) (p : Nat) : Mod := if m.n E.PH_STATE p == 6 then m else (m.phaseOff p 0).disarm (.armHold p)

/-- R178: what a stage that is off shows. -/
def Mod.offShown (m : Mod) (g : Nat) : Mod :=
  let m := m.modStg g (fun x => { x with gate := Sys2Proof.setBit x.gate 5 true })
  let m := (m.setN E.SST_STATE g 0).setN E.SST_HICCUP g 0
  let m := ((m.disarm (.sstDelay (g == 0))).disarm (.sspDelay (g == 0))).disarm (.hiccup (g == 0))
  m.setN E.FB_ACTIVE g 0

theorem Mod.stageOff_eq (m : Mod) (g : Nat) : m.stageOff g = ((stagePhases g).foldl Mod.restPhase (m.abandonStage g)).offShown g := rfl

theorem Mod.phaseOff_other (m : Mod) {p q : Nat} (st : Nat) (h : q ≠ p) : (m.phaseOff p st).n E.PH_STATE q = m.n E.PH_STATE q := by
  have ss : E.PH_STATE.key q ≠ E.PH_SLOT.key p := by simp only [Fam.key, Fam.index, E.PH_STATE, E.PH_SLOT]; omega
  have si : E.PH_STATE.key q ≠ E.PH_IREF.key p := by simp only [Fam.key, Fam.index, E.PH_STATE, E.PH_IREF]; omega
  have sc : E.PH_STATE.key q ≠ E.PH_I.key p := by simp only [Fam.key, Fam.index, E.PH_STATE, E.PH_I]; omega
  have n : (m.phaseOff p st).n E.PH_STATE q = ((((m.setN E.PH_STATE p st).setN E.PH_SLOT p 0xFF).setQ E.PH_IREF p 0).setQ E.PH_I p 0).n E.PH_STATE q := rfl
  rw [n, Mod.setQ, Mod.n_setN_ne _ _ sc, Mod.setQ, Mod.n_setN_ne _ _ si, Mod.n_setN_ne _ _ ss, Mod.n_setN_ne _ _ (phState_key_ne h)]

theorem Mod.restPhase_own (m : Mod) {p : Nat} (hp : p < 16) : (m.restPhase p).n E.PH_STATE p = if m.n E.PH_STATE p = 6 then 6 else 0 := by
  unfold Mod.restPhase
  split
  · rename_i h
    have six : m.n E.PH_STATE p = 6 := beq_iff_eq.1 h
    rw [if_pos six, six]
  · rename_i h
    rw [if_neg (fun six => h (beq_iff_eq.2 six))]
    exact (m.phaseOff_does 0 hp).1

theorem Mod.restPhase_other (m : Mod) {p q : Nat} (h : q ≠ p) : (m.restPhase p).n E.PH_STATE q = m.n E.PH_STATE q := by
  unfold Mod.restPhase
  split
  · rfl
  · exact m.phaseOff_other 0 h

theorem Mod.offShown_does (m : Mod) {g : Nat} (hg : g < 2) : OnlyFams (stageFams ++ [E.SST_HICCUP]) m (m.offShown g) ∧ (m.offShown g).gated g = true ∧
    (m.offShown g).n E.SST_STATE g = 0 ∧ ((m.offShown g).stgOf g).stopping = (m.stgOf g).stopping ∧
    ∀ p, p < 16 → (m.offShown g).n E.PH_STATE p = m.n E.PH_STATE p := by
  have held : bit ((m.modStg g (fun y => { y with gate := Sys2Proof.setBit y.gate 5 true })).stgOf g).gate 5 = true :=
    (congrArg (fun y : Stg => bit y.gate 5) (getD_modAt_same _ m.stg g _)).trans (bit_setBit_same _ 5 true)
  have stops : ((m.modStg g (fun y => { y with gate := Sys2Proof.setBit y.gate 5 true })).stgOf g).stopping = (m.stgOf g).stopping :=
    (congrArg Stg.stopping (getD_modAt_same _ m.stg g _)).trans rfl
  have same : (m.modStg g (fun y => { y with gate := Sys2Proof.setBit y.gate 5 true })).od = m.od := rfl
  unfold Mod.offShown
  dsimp only
  generalize m.modStg g (fun y => { y with gate := Sys2Proof.setBit y.gate 5 true }) = x at *
  have shown : OnlyFams (stageFams ++ [E.SST_HICCUP]) x (((x.setN E.SST_STATE g 0).setN E.SST_HICCUP g 0).setN E.FB_ACTIVE g 0) :=
    (((OnlyFams.refl _ x).set (f := E.SST_STATE) (by simp [stageFams])).set (f := E.SST_HICCUP) (by simp)).set (f := E.FB_ACTIVE) (by simp [stageFams])
  have apart : ∀ g < 2, E.SST_STATE.key g ≠ E.SST_HICCUP.key g ∧ E.SST_STATE.key g ≠ E.FB_ACTIVE.key g := by decide +kernel
  have phases : ∀ g < 2, ∀ p < 16, E.PH_STATE.key p ∉ [E.SST_STATE.key g, E.SST_HICCUP.key g, E.FB_ACTIVE.key g] := by decide +kernel
  have state : (((x.setN E.SST_STATE g 0).setN E.SST_HICCUP g 0).setN E.FB_ACTIVE g 0).n E.SST_STATE g = 0 := by
    rw [Mod.n_setN_ne _ _ (apart g hg).2, Mod.n_setN_ne _ _ (apart g hg).1, Mod.n_setN_same _ _ hg]
  have others : ∀ p, p < 16 → (((x.setN E.SST_STATE g 0).setN E.SST_HICCUP g 0).setN E.FB_ACTIVE g 0).n E.PH_STATE p = x.n E.PH_STATE p := fun p hp => by
    have out := phases g hg p hp
    simp only [List.mem_cons, List.not_mem_nil, or_false, not_or] at out
    rw [Mod.n_setN_ne _ _ out.2.2, Mod.n_setN_ne _ _ out.2.1, Mod.n_setN_ne _ _ out.1]
  have kept : (((x.setN E.SST_STATE g 0).setN E.SST_HICCUP g 0).setN E.FB_ACTIVE g 0).stgOf g = x.stgOf g := rfl
  refine ⟨?_, Mod.gated_of_bit (m := x) held, state, stops, fun p hp => (others p hp).trans ?_⟩
  · exact OnlyFams.of_od (x := ((x.setN E.SST_STATE g 0).setN E.SST_HICCUP g 0).setN E.FB_ACTIVE g 0) ((OnlyFams.of_od (.refl _ m) same).trans shown) rfl
  · unfold Mod.n Mod.getV
    rw [same]

theorem Mod.stageOff_does (m : Mod) {g : Nat} (hg : g < 2) : OnlyFams (stageFams ++ [E.SST_HICCUP]) m (m.stageOff g) ∧ (m.stageOff g).gated g = true ∧
    (m.stageOff g).n E.SST_STATE g = 0 ∧ ((m.stageOff g).stgOf g).stopping = false ∧ ∀ j, j < 8 → (m.stageOff g).switches (8 * g + j) = false := by
  rw [Mod.stageOff_eq]
  have left := (OnlyFams.abandonStage m g).mono (gs := stageFams ++ [E.SST_HICCUP]) (List.subset_append_left _ _)
  have stage : ((m.abandonStage g).stgOf g).stopping = false := by
    unfold Mod.stgOf
    rw [Mod.abandonStage_stg, getD_modAt_same]
    rfl
  generalize m.abandonStage g = x at *
  have rested : OnlyFams (stageFams ++ [E.SST_HICCUP]) x ((stagePhases g).foldl Mod.restPhase x) ∧ ((stagePhases g).foldl Mod.restPhase x).stg = x.stg := by
    have off : ∀ (y : Mod) (p : Nat), OnlyFams (stageFams ++ [E.SST_HICCUP]) y (y.restPhase p) ∧ (y.restPhase p).stg = y.stg := fun y p => by
      unfold Mod.restPhase
      split
      · exact ⟨.refl _ y, rfl⟩
      · exact ⟨((AtPhases.phaseOff y p 0).1.mono (by simp [offFams, stageFams])).of_od rfl, rfl⟩
    exact ⟨.foldl (fun y p => (off y p).1) _ x, foldl_keeps Mod.stg Mod.restPhase (fun y p => (off y p).2) _ x⟩
  have states := foldl_own (fun (y : Mod) p => y.n E.PH_STATE p) (fun st => if st = 6 then 6 else 0) (f := Mod.restPhase) (stagePhases g) (stagePhases_nodup g)
    (fun y p hp => y.restPhase_own (mem_stagePhases hp hg)) (fun y p _ q _ => y.restPhase_other) x
  generalize (stagePhases g).foldl Mod.restPhase x = y at *
  obtain ⟨shown, gate, state, stops, others⟩ := y.offShown_does hg
  refine ⟨(left.trans rested.1).trans shown, gate, state, stops.trans ?_, fun j hj => ?_⟩
  · unfold Mod.stgOf at stage ⊢
    rw [rested.2]
    exact stage
  · have off : (y.offShown g).n E.PH_STATE (8 * g + j) = if x.n E.PH_STATE (8 * g + j) = 6 then 6 else 0 :=
      (others _ (by omega)).trans (states _ (stagePhases_mem g hj))
    unfold Mod.switches
    rw [off]
    split <;> rfl

/-! ## A retry (R177, R180) -/

/-- The phases of a stage that starts are tapped and ARMED, with the switches, the stages and SST_DELAY as they were. -/
def Tapped (m m' : Mod) : Prop := OnlyFams [E.PH_TAP, E.PH_STATE, E.STG_NACT, E.IN_PHASES] m m' ∧ m'.prot = m.prot ∧ m'.stg = m.stg ∧
  ∀ a, m'.deadline (.sstDelay a) = m.deadline (.sstDelay a)

theorem Tapped.refl (m : Mod) : Tapped m m := ⟨.refl _ m, rfl, rfl, fun _ => rfl⟩

theorem Tapped.trans {a b c : Mod} (h : Tapped a b) (g : Tapped b c) : Tapped a c :=
  ⟨h.1.trans g.1, g.2.1.trans h.2.1, g.2.2.1.trans h.2.2.1, fun x => (g.2.2.2 x).trans (h.2.2.2 x)⟩

theorem Tapped.foldl {β : Type} {f : Mod → β → Mod} (hf : ∀ m b, Tapped m (f m b)) (l : List β) (m : Mod) : Tapped m (l.foldl f m) := by
  induction l generalizing m with
  | nil => exact .refl m
  | cons b r ih => exact (hf m b).trans (ih _)

theorem Tapped.countPhases (m : Mod) : Tapped m m.countPhases :=
  ⟨(AtPhases.countPhases m).1.mono (by simp [countFams]), Mod.prot_of_yard (AtPhases.countPhases m).2, Mod.stg_of_plant (Mod.plant_countPhases m),
    fun a => by unfold Mod.deadline; rw [Mod.countPhases_timers]⟩

theorem Tapped.arm (m : Mod) (k p : Nat) : Tapped m (((m.setN E.PH_TAP p k).setN E.PH_STATE p 2).disarm (.armHold p)) :=
  ⟨OnlyFams.of_od (x := (m.setN E.PH_TAP p k).setN E.PH_STATE p 2)
    (((OnlyFams.refl _ m).set (f := E.PH_TAP) (by simp)).set (f := E.PH_STATE) (by simp)) rfl, rfl, rfl,
    fun _ => Mod.deadline_disarm_ne ((m.setN E.PH_TAP p k).setN E.PH_STATE p 2) (by simp)⟩

/-- R177: the stage that regulates takes V_ref from the terminal. -/
def Mod.regStart (m : Mod) (g : Nat) (dead : Bool) : Mod :=
  if dead || m.regStage == some g then { m with reg := { m.reg with vset := maxR 0 (m.vPort 5) } } else m

/-- R177, R116: the phases that start with the stage are tapped and ARMED. -/
def Mod.tapStart (m : Mod) (g : Nat) : Mod :=
  let free := (stagePhases g).filter (fun p => !m.excluded p && m.n E.PH_STATE p ≤ 2)
  let k : Option Nat := if g = 0 then ((m.ladder m.policyEff m.vPort).flatMap Rung.ports).head? else some 4
  match k with
  | none => m
  | some k =>
    let own := free.filter (fun p => m.n E.PH_TAP p == k)
    let rest := if g = 0 then free.filter (fun p => m.n E.PH_TAP p != k) else []
    (((own ++ rest).take (m.n E.STG_NMIN g)).foldl
      (fun m p => ((m.setN E.PH_TAP p k).setN E.PH_STATE p 2).disarm (.armHold p)) m).countPhases

theorem Mod.stageStart_eq (m : Mod) (g : Nat) (dead skip : Bool) : m.stageStart g dead skip = ((m.softStart g dead skip).regStart g dead).tapStart g := rfl

theorem Tapped.tapStart (m : Mod) (g : Nat) : Tapped m (m.tapStart g) := by
  have tap : ∀ (l : List Nat) (k : Nat), Tapped m (l.foldl (fun m p => ((m.setN E.PH_TAP p k).setN E.PH_STATE p 2).disarm (.armHold p)) m).countPhases :=
    fun l k => (Tapped.foldl (f := fun m p => ((m.setN E.PH_TAP p k).setN E.PH_STATE p 2).disarm (.armHold p)) (fun y p => .arm y k p) l m).trans (.countPhases _)
  unfold Mod.tapStart
  dsimp only
  split
  · exact .refl m
  · exact tap _ _

theorem Mod.stageStart_taps (m : Mod) (g : Nat) (dead skip : Bool) : Tapped (m.softStart g dead skip) (m.stageStart g dead skip) := by
  have reg : ∀ x : Mod, Tapped x (x.regStart g dead) := fun x => by
    unfold Mod.regStart
    split
    · exact ⟨fun _ _ => rfl, rfl, rfl, fun _ => rfl⟩
    · exact .refl x
  rw [Mod.stageStart_eq]
  exact (reg _).trans (.tapStart _ g)

/-- What a stage keeps whose soft start begins. -/
def Stg.begun (dead : Bool) (x : Stg) : Stg :=
  { x with lim := 0, stopping := false, endStop := false, refs := [], deadBus := dead, gate := Sys2Proof.setBit x.gate 5 false }

theorem AtPhases.idlePhases {fs : List Fam} (m : Mod) (g : Nat) (hf : E.PH_STATE ∈ fs) : AtPhases fs m (m.idlePhases g) := by
  refine .foldl (fun x p => ?_) _ m
  split
  · exact .setV (f := E.PH_STATE) x p _ hf
  · exact .refl _ x

theorem Mod.idlePhases_stg (m : Mod) (g : Nat) : (m.idlePhases g).stg = m.stg := by
  refine foldl_keeps Mod.stg _ (fun x p => ?_) _ m
  split <;> rfl

/-- R177, R153: the phases of a stage that starts are idle, at its new period. -/
def Mod.startIdle (m : Mod) (g : Nat) : Mod := (m.setN E.STG_PERIOD g (2 * (roundR (1000000 / m.q E.STG_FSW g)).toNat)).idlePhases g

/-- R177: SST_DELAY runs. -/
def Mod.startTimed (m : Mod) (g : Nat) : Mod :=
  let m := (m.setN E.SST_STATE g 1).disarm (.hiccup (g == 0))
  m.arm (.sstDelay (g == 0)) (m.tb + ms (m.cn E.SST_DELAY g))

theorem Mod.softStart_eq (m : Mod) (g : Nat) (dead : Bool) : m.softStart g dead false = ((m.startIdle g).modStg g (Stg.begun dead)).startTimed g := rfl

theorem Mod.startIdle_does (m : Mod) (g : Nat) : AtPhases [E.STG_PERIOD, E.PH_STATE, E.SST_STATE] m (m.startIdle g) ∧ (m.startIdle g).stg = m.stg :=
  ⟨(AtPhases.setV (f := E.STG_PERIOD) m g _ (by simp)).trans (.idlePhases _ g (by simp)), Mod.idlePhases_stg (m.setN E.STG_PERIOD g _) g⟩

theorem Mod.startTimed_does (m : Mod) {g : Nat} (hg : g < 2) : AtPhases [E.STG_PERIOD, E.PH_STATE, E.SST_STATE] m (m.startTimed g) ∧
    (m.startTimed g).n E.SST_STATE g = 1 ∧ (m.startTimed g).stg = m.stg ∧
    (m.startTimed g).deadline (.sstDelay (g == 0)) = some (m.tb + ms (m.cn E.SST_DELAY g)) :=
  ⟨((AtPhases.setV (f := E.SST_STATE) m g (.num 1) (by simp)).trans (.disarm _ _ _)).trans (.arm _ _ _ _), Mod.n_setN_same m 1 hg, rfl,
    Mod.deadline_arm_same _ _ _⟩

/-- R177: time 0 of a soft start. -/
theorem Mod.softStart_does (m : Mod) {g : Nat} (dead : Bool) (hg : g < 2) : AtPhases [E.STG_PERIOD, E.PH_STATE, E.SST_STATE] m (m.softStart g dead false) ∧
    (m.softStart g dead false).n E.SST_STATE g = 1 ∧ (m.softStart g dead false).stgOf g = (m.stgOf g).begun dead ∧
    (m.softStart g dead false).deadline (.sstDelay (g == 0)) = some (m.tb + ms (m.cn E.SST_DELAY g)) := by
  rw [Mod.softStart_eq]
  obtain ⟨idle, stg⟩ := m.startIdle_does g
  generalize m.startIdle g = x at *
  have own : (x.modStg g (Stg.begun dead)).stgOf g = (x.stgOf g).begun dead := getD_modAt_same _ _ _ _
  have begun := AtPhases.modStg [E.STG_PERIOD, E.PH_STATE, E.SST_STATE] x g (Stg.begun dead)
  generalize x.modStg g (Stg.begun dead) = y at *
  obtain ⟨timed, state, kept, ends⟩ := y.startTimed_does hg
  have before := idle.trans begun
  have ctl : y.ctl = m.ctl := by
    have same := congrArg Mod.ctl before.2
    exact same
  rw [Mod.tb_of_yard before.2, show y.cn E.SST_DELAY g = m.cn E.SST_DELAY g by unfold Mod.cn Mod.ctlV; rw [ctl]] at ends
  refine ⟨before.trans timed, state, ?_, ends⟩
  unfold Mod.stgOf at own ⊢
  rw [kept, own, stg]

/-- R180: SYS closes again, and the retry counts. -/
def Mod.retryBegun (m : Mod) (g : Nat) : Mod := m.closeSys.setN E.SST_HICCUP g (m.n E.SST_HICCUP g + 1)

theorem Mod.retryBegun_does {m : Mod} {g : Nat} (hg : g < 2) (lock : m.lockstep = false) (pilot : (m.protOf 5).pilotOpen = false) :
    OnlyFams [E.SST_HICCUP] m (m.retryBegun g) ∧ (m.retryBegun g).n E.SST_HICCUP g = m.n E.SST_HICCUP g + 1 ∧ (m.retryBegun g).closed 5 = true ∧
    (m.retryBegun g).stg = m.stg ∧ (m.retryBegun g).tb = m.tb ∧ (m.retryBegun g).ctl = m.ctl := by
  have closes : m.closeSys = { m.modProt 5 (fun x => { x with closed := true, openedAt := none, zeroFrom := none }) with
      reg := { m.reg with vset := m.vPort 5 } } := by
    unfold Mod.closeSys Mod.closeSwitch
    rw [lock, pilot]
    rfl
  have closed : (m.modProt 5 (fun x => { x with closed := true, openedAt := none, zeroFrom := none })).closed 5 = true :=
    (congrArg Prot.closed (getD_modAt_same _ m.prot 5 _)).trans rfl
  unfold Mod.retryBegun
  rw [closes]
  exact ⟨.setV (f := E.SST_HICCUP) _ g _ (by simp), Mod.n_setN_same _ _ hg, closed, rfl, rfl, rfl⟩

theorem Mod.hiccupRetry_does {m : Mod} {g : Nat} (hg : g < 2) (st : m.n E.SST_STATE g = 5) (due : m.due (.hiccup (g == 0)) = true)
    (gate : (m.stgOf g).gate = 0x20) (usable : m.portUsable 5 = true) (lock : m.lockstep = false) :
    OnlyFams [E.IN_PHASES, E.PH_STATE, E.PH_TAP, E.SST_HICCUP, E.SST_STATE, E.STG_NACT, E.STG_PERIOD] m (m.hiccupRetry g) ∧
    (m.hiccupRetry g).n E.SST_STATE g = 1 ∧ (m.hiccupRetry g).n E.SST_HICCUP g = m.n E.SST_HICCUP g + 1 ∧ (m.hiccupRetry g).closed 5 = true ∧
    (m.hiccupRetry g).gated g = false ∧ (m.hiccupRetry g).deadline (.sstDelay (g == 0)) = some (m.tb + ms (m.cn E.SST_DELAY g)) := by
  have pilot : (m.protOf 5).pilotOpen = false := by
    unfold Mod.portUsable at usable
    simpa using (Bool.and_eq_true_iff.1 usable).2
  have retries : (m.n E.SST_STATE g == 5 && m.due (.hiccup (g == 0)) && (m.stgOf g).gate == 0x20 && m.portUsable 5) = true := by
    simp [st, due, gate, usable]
  have runs : m.hiccupRetry g = (m.retryBegun g).stageStart g true false := by
    unfold Mod.hiccupRetry
    rw [if_pos retries]
    rfl
  obtain ⟨only, count, closed, stg, tb, ctl⟩ := Mod.retryBegun_does hg lock pilot
  rw [runs]
  generalize m.retryBegun g = x at *
  obtain ⟨started, state, stage, ends⟩ := x.softStart_does true hg
  obtain ⟨taps, prot, same, delays⟩ := x.stageStart_taps g true false
  generalize x.softStart g true false = y at *
  generalize x.stageStart g true false = z at *
  have apart : ∀ g < 2, E.SST_HICCUP.key g ∉ [E.STG_PERIOD, E.PH_STATE, E.SST_STATE].flatMap Fam.keys ∧
      (∀ f ∈ [E.SST_STATE, E.SST_HICCUP], f.key g ∉ [E.PH_TAP, E.PH_STATE, E.STG_NACT, E.IN_PHASES].flatMap Fam.keys) := by decide +kernel
  obtain ⟨counts, own⟩ := apart g hg
  refine ⟨((only.mono (by simp)).trans (started.1.mono (by simp))).trans (taps.mono (by simp)), (taps.n _ _ (own _ (by simp))).trans state, ?_, ?_, ?_, ?_⟩
  · exact (taps.n _ _ (own _ (by simp))).trans ((started.1.n _ _ counts).trans count)
  · unfold Mod.closed Mod.protOf at closed ⊢
    rw [prot, Mod.prot_of_yard started.2]
    exact closed
  · rw [Mod.gated_of_stg same g]
    unfold Mod.gated
    rw [stage]
    unfold Mod.stgOf at gate ⊢
    rw [stg]
    change (Sys2Proof.setBit (m.stg[g]?.getD {}).gate 5 false != 0) = false
    rw [gate]
    decide
  · rw [delays, ends, tb]
    unfold Mod.cn Mod.ctlV
    rw [ctl]

end Sys2Proof.Machine

namespace Sys2Proof

open Machine

/-- Settles O13: the ramps begin after SST_DELAY and are complete at their end; a short opens SYS and waits for a retry, and a soft stop ends with the gates off. -/
theorem softStartAndStop : Obligations.SoftStartAndStop := by
  unfold Obligations.SoftStartAndStop
  refine ⟨?_, ?_, ?_, ?_, ?_, ?_⟩
  · intro t st s ha state due gate
    refine DoesM.intro (f := Mod.sstDelay (Stage.idx st)) rfl ha ?_
    have hg := stageIdx_lt st
    generalize Stage.idx st = g at *
    change (s.m.at t).n E.SST_STATE g = 1 at state
    change (s.m.at t).gated g = false at gate
    obtain ⟨only, ramps, ended, phases⟩ := Mod.sstDelay_does hg state due gate
    exact ⟨ramps, ended, phases, SameOd.mono only (by simp)⟩
  · intro t st v i s ha state gate lim ends
    refine DoesM.intro (f := Mod.softStartDone (Stage.idx st) v i) rfl ha ?_
    have hg := stageIdx_lt st
    generalize Stage.idx st = g at *
    change (s.m.at t).n E.SST_STATE g = 2 at state
    change (s.m.at t).gated g = false at gate
    rw [Mod.softStartDone_does (m := s.m.at t) v i state gate lim ends]
    generalize s.m.at t = m
    cases dead : (m.stgOf g).deadBus
    · obtain ⟨runs, none_, live, journal, cest, same⟩ := m.startShown_does hg
      exact ⟨runs, none_, live, fun _ => ⟨journal, cest⟩, fun h => absurd (dead.symm.trans h) Bool.false_ne_true, same.mono (by simp)⟩
    · have kept : SameOd [E.LOOP_CEST.key g] m (m.commitQ E.LOOP_CEST g (cestOf i m.deadRate)) := fun k hk =>
        Mod.odGet_setV_ne m E.LOOP_CEST g _ (by simpa using hk)
      have value : (m.commitQ E.LOOP_CEST g (cestOf i m.deadRate)).n E.LOOP_CEST g = f32OfRat (cestOf i m.deadRate) := Mod.n_setN_same m _ hg
      have records : (m.commitQ E.LOOP_CEST g (cestOf i m.deadRate)).journal.length = m.journal.length + 1 := List.length_append
      change _ ∧ _ ∧ _ ∧ _ ∧ _ ∧ SameOd _ m _
      rw [show m.when true (·.commitQ E.LOOP_CEST g (cestOf i m.deadRate)) = m.commitQ E.LOOP_CEST g (cestOf i m.deadRate) from rfl]
      generalize m.commitQ E.LOOP_CEST g (cestOf i m.deadRate) = x at *
      obtain ⟨runs, none_, live, journal, cest, same⟩ := x.startShown_does hg
      exact ⟨runs, none_, live, fun h => absurd (h.symm.trans dead) Bool.false_ne_true, fun _ => ⟨(congrArg List.length journal).trans records, cest.trans value⟩,
        (kept.mono (by simp)).trans (same.mono (by simp))⟩
  · intro t st s ha dead high path
    refine DoesM.intro (f := Mod.softStartAbort (Stage.idx st)) rfl ha ?_
    have hg := stageIdx_lt st
    generalize Stage.idx st = g at *
    change (s.m.at t).deadRamp g = true at dead
    change (s.m.at t).n E.PATH_ACT 0 ≠ 7 at path
    rw [Mod.softStartAbort_eq dead high hg path]
    generalize s.m.at t = m
    obtain ⟨cut, opened, gate, tb⟩ := m.rampCut_does g
    generalize m.rampCut g = x at *
    obtain ⟨noted, -, plant⟩ := x.rampNoted_does hg
    generalize x.setNoted E.SST_STATE g 4 = y at *
    have opened' : y.closed 5 = false := by
      unfold Mod.closed Mod.protOf at opened ⊢
      rw [Mod.prot_of_plant plant]
      exact opened
    have gate' : y.gated g = true := (Mod.gated_of_stg (Mod.stg_of_plant plant) g).trans gate
    have tb' : y.tb = m.tb := (congrArg Mod.tb plant).trans tb
    have apart : ∀ g < 2, E.SST_HICCUP.key g ∉ abortFams.flatMap Fam.keys := by decide +kernel
    have before : OnlyFams abortFams m y := (cut.mono (List.subset_append_left _ _)).trans noted
    have count := before.n _ _ (apart g hg)
    obtain ⟨ended, stays, off, waits, latched⟩ := Mod.rampEnd_does hg opened' gate'
    have sub : abortFams ⊆ tripFams ++ [E.COUPLING_ACT, E.INT_NEXT_T, E.INT_PB_V, E.INT_PENDING, E.PATH_ACT, E.PATH_REASON, E.TRANS_STATE] := by decide +kernel
    rw [count, tb'] at waits
    rw [count] at latched
    exact ⟨(before.trans ended).mono sub, stays, off, waits, latched⟩
  · intro t st s ha state due gate usable lock
    refine DoesM.intro (f := Mod.hiccupRetry (Stage.idx st)) rfl ha ?_
    have hg := stageIdx_lt st
    generalize Stage.idx st = g at *
    exact Mod.hiccupRetry_does (m := s.m.at t) hg state due gate usable lock
  · intro t st s ha due
    refine DoesM.intro (f := Mod.sspDelay (Stage.idx st)) rfl ha ?_
    generalize Stage.idx st = g at *
    rw [Mod.sspDelay, if_pos due]
    generalize s.m.at t = m
    obtain ⟨stops, from_, len⟩ := m.rampDown_does g (m.cq E.SSP_RAMP g)
    exact ⟨stops, from_, len, Mod.deadline_disarm_same _ _, fun _ _ => rfl⟩
  · intro t st s ha stops lim state fence
    refine DoesM.intro (f := Mod.softStopDone (Stage.idx st)) rfl ha ?_
    have hg := stageIdx_lt st
    generalize Stage.idx st = g at *
    have ends : (((s.m.at t).stgOf g).stopping && decide (((s.m.at t).stgOf g).lim ≤ 0) && (s.m.at t).n E.SS_STATE 0 == 0 && !(s.m.at t).armed .fenceRamp) = true := by
      change ((s.m.stgOf g).stopping && decide ((s.m.stgOf g).lim ≤ 0) && s.m.n E.SS_STATE 0 == 0 && !s.m.armed .fenceRamp) = true
      simp [stops, lim, state, fence]
    have off : (s.m.at t).softStopDone g = (s.m.at t).stageOff g := if_pos ends
    rw [off]
    exact (s.m.at t).stageOff_does hg

end Sys2Proof
end

section
/-! PROOF. Allocation, takeover and fencing (R259, R260, R266, R267, R270). -/

set_option Elab.async false

namespace Sys2Proof.Machine

open Sys2Proof

/-! ## The lantern's table (R348) -/

/-- A record that alone matches is found where it was put. -/
theorem find_putSorted {p : RoleRec → Bool} {r : RoleRec} (l : List RoleRec) (own : p r = true) (none_ : ∀ x ∈ l, p x = false) :
    (putSorted r l).find? p = some r := by
  induction l with
  | nil => exact List.find?_cons_of_pos own
  | cons x xs ih =>
    unfold putSorted
    split
    · exact List.find?_cons_of_pos own
    · rw [List.find?_cons_of_neg (by rw [none_ x (by simp)]; decide)]
      exact ih fun y hy => none_ y (List.mem_cons_of_mem _ hy)

/-- The lantern finds the record of a role that it has put into its table. -/
theorem Mod.leadRole_leadPut (m : Mod) {r : RoleRec} (role : r.idx ≠ 0xFF) (live : r.gen ≠ 0) : (m.leadPut r).leadRole r.seg r.idx = some r := by
  change (tablePut r m.net.lead).find? (fun x => x.seg == r.seg && x.idx == r.idx && x.idx != 0xFF) = some r
  unfold tablePut
  dsimp only
  rw [if_pos role, if_neg (fun h => live h.2)]
  refine find_putSorted _ (by simp [role]) fun x hx => ?_
  have other : sameRole x r = false := by simpa using (List.mem_filter.1 (List.mem_filter.1 hx).1).2
  by_contra found
  have hit : x.seg = r.seg ∧ x.idx = r.idx ∧ x.idx ≠ 0xFF := by simpa [and_assoc] using found
  obtain ⟨seg, idx, _⟩ := hit
  unfold sameRole at other
  rw [if_neg (by simp [role, idx])] at other
  simp [seg, idx] at other

/-- What a find in the table tells of the record. -/
theorem Mod.leadRole_spec {m : Mod} {seg idx : Nat} {r : RoleRec} (h : m.leadRole seg idx = some r) : r.seg = seg ∧ r.idx = idx ∧ r.idx ≠ 0xFF := by
  have hit := List.find?_some h
  simpa [and_assoc] using hit

theorem Mod.heldBy_role {m : Mod} {n : Nat} {r : RoleRec} (h : m.heldBy n = some r) : r.idx ≠ 0xFF := by
  have listed := (List.mem_filter.1 (List.mem_of_find?_eq_some h)).2
  simpa using listed

/-! ## Dark stations and offers that lapse (R266, R267) -/

/-- R266: the station is dark, and counted. -/
def Mod.darkNoted (m : Mod) (n : Nat) : Mod := (m.mapStn n (fun y => { y with dark := true })).inc E.DARK_CNT 0

/-- R266: the role that a dark station holds is dark. -/
def Mod.darkRole (m : Mod) (n : Nat) : Mod :=
  match m.heldBy n with
  | some r => m.leadPut { r with state := 1 }
  | none => m

theorem Mod.stnOf_mapStn {m : Mod} {n : Nat} {x : Stn} {f : Stn → Stn} (hf : ∀ y, (f y).stn = y.stn) (h : m.stnOf n = some x) :
    (m.mapStn n f).stnOf n = some (f x) := by
  have own : x.stn = n := by simpa using List.find?_some h
  change (m.net.stns.map (fun s => if s.stn = n then f s else s)).find? (fun s => s.stn == n) = some (f x)
  have same : (fun s : Stn => (if s.stn = n then f s else s).stn == n) = fun s => s.stn == n := funext fun s => by
    split <;> simp [*]
  rw [List.find?_map, show ((fun s : Stn => s.stn == n) ∘ fun s => if s.stn = n then f s else s) = fun s => s.stn == n from same]
  change (m.stnOf n).map _ = _
  rw [h, Option.map_some, if_pos own]

theorem Mod.darkRole_does (m : Mod) (n : Nat) : (m.darkRole n).stnOf n = m.stnOf n ∧ (m.darkRole n).od = m.od ∧
    (m.darkRole n).net.offer = m.net.offer ∧
    (m.heldBy n).all (fun r => r.gen == 0 || (m.darkRole n).leadRole r.seg r.idx == some { r with state := 1 }) = true := by
  unfold Mod.darkRole
  cases held : m.heldBy n with
  | none => exact ⟨rfl, rfl, rfl, rfl⟩
  | some r =>
    refine ⟨rfl, rfl, rfl, ?_⟩
    change (r.gen == 0 || (m.leadPut { r with state := 1 }).leadRole r.seg r.idx == some { r with state := 1 }) = true
    by_cases live : r.gen = 0
    · simp [live]
    · have role := Mod.heldBy_role held
      have found := m.leadRole_leadPut (r := { r with state := 1 }) role live
      rw [found, beq_self_eq_true, Bool.or_true]

theorem Mod.darkDeclare_eq {m : Mod} {n : Nat} {x : Stn} (h : m.stnOf n = some x) (leads : m.leads = true) (live : x.dark = false)
    (missed : m.n E.DARK_N 0 ≤ x.misses) (none_ : m.net.offer = none) : m.darkDeclare n = (m.darkNoted n).darkRole n := by
  have offers : ((m.darkNoted n).darkRole n).net.offer = none := ((m.darkNoted n).darkRole_does n).2.2.1.trans none_
  unfold Mod.darkDeclare
  rw [h]
  dsimp only
  rw [if_pos (by simp [leads, live, missed])]
  change (match ((m.darkNoted n).darkRole n).net.offer with | some o => _ | none => _) = _
  rw [offers]
  rfl

/-- R267: the place of an offer that lapses is dark again. -/
def Mod.offerBack (m : Mod) (o : Offer) : Mod :=
  match m.leadRole o.seg o.idx with
  | some r => m.leadPut { r with state := 1 }
  | none => m

/-- R267: the offer is gone, and its target is passed over. -/
def Net.offerGone (o : Offer) (x : Net) : Net :=
  { x with offer := none, lapsed := o.target :: x.lapsed.filter (· != o.target), takeFor := if o.target = x.stn then none else x.takeFor }

theorem Mod.takeLapse_eq {m : Mod} {o : Offer} (h : m.net.offer = some o) (due : o.since + 30000 ≤ m.tb) :
    m.takeLapse = (m.offerBack o).modNet (Net.offerGone o) := by
  have stn : (m.offerBack o).net.stn = m.net.stn := by
    unfold Mod.offerBack
    split <;> rfl
  unfold Mod.takeLapse
  rw [h]
  dsimp only
  rw [if_pos due]
  rfl

/-! ## What a frame that is consumed leaves -/

/-- Entries that no frame that is consumed touches. -/
theorem Mod.takenIn_n0 (m : Mod) {h : Hdr} (l who : Nat) (hc : h.cls ≠ 6) (h8 : h.cls < 8) (f : Fam)
    (hf : f.key 0 ∉ (E.CLS_RX :: markFams).flatMap Fam.keys) : (m.takenIn h l who).n f 0 = m.n f 0 := (m.takenIn_frame l who hc h8).1.n f 0 hf

/-- What an offer of a role finds of a module that has consumed it (R267). -/
theorem Mod.takenIn_take (m : Mod) {h : Hdr} (l who : Nat) (hc : h.cls ≠ 6) (h8 : h.cls < 8) : (m.takenIn h l who).fromLantern h = m.fromLantern h ∧
    (m.takenIn h l who).numbered = m.numbered ∧ (m.takenIn h l who).net.stn = m.net.stn ∧ (m.takenIn h l who).mooring = m.mooring ∧
    (m.takenIn h l who).mayTake = m.mayTake ∧ (m.takenIn h l who).n E.SEG_ID 0 = m.n E.SEG_ID 0 := by
  obtain ⟨only, -, -, ls, net⟩ := m.takenIn_frame l who hc h8
  have role := only.n_sub (f := E.LINK_ROLE) h.via (by decide)
  have port := only.n E.PROT_STATE 5 (by decide +kernel)
  have apart : ∀ f ∈ [E.SHARE_ROLE, E.LGEN, E.NET_ADDR, E.DERATE_F, E.SEG_ID], f.key 0 ∉ (E.CLS_RX :: markFams).flatMap Fam.keys := by decide +kernel
  have at0 := fun f hf => only.n f 0 (apart f hf)
  have stn : (m.takenIn h l who).net.stn = m.net.stn := by rw [net]; rfl
  clear net
  generalize m.takenIn h l who = y at *
  refine ⟨?_, ?_, stn, ?_, ?_, at0 _ (by simp)⟩
  · simp [Mod.fromLantern, Mod.fromParent, role, at0]
  · simp [Mod.numbered, at0]
  · simp [Mod.mooring, at0]
  · unfold Mod.mayTake Mod.q
    rw [at0 _ (by simp), port]

theorem Mod.tb_of_plant {m m' : Mod} (h : m'.plant = m.plant) : m'.tb = m.tb := by
  have same := congrArg Mod.tb h
  exact same

/-- What an intent finds of a module that has consumed it (R259, R260). -/
theorem Mod.takenIn_intent (m : Mod) {h : Hdr} (l who : Nat) (hc : h.cls ≠ 6) (h8 : h.cls < 8) (seg : Nat) (dp : Rat) :
    (m.takenIn h l who).leads = m.leads ∧ (m.takenIn h l who).leadGroup seg = m.leadGroup seg ∧ (m.takenIn h l who).ntime = m.ntime ∧
    (m.takenIn h l who).allocRooms seg dp = m.allocRooms seg dp ∧ (m.takenIn h l who).q E.INT_HORIZON 0 = m.q E.INT_HORIZON 0 ∧
    (m.takenIn h l who).q E.INT_WIN 0 = m.q E.INT_WIN 0 := by
  obtain ⟨only, plant, -, ls, net⟩ := m.takenIn_frame l who hc h8
  have apart : ∀ f ∈ [E.NET_ROLE, E.NET_FLAGS, E.NTIME_TRIM, E.INT_HORIZON, E.INT_WIN], f.key 0 ∉ (E.CLS_RX :: markFams).flatMap Fam.keys := by decide +kernel
  have at0 := fun f hf => only.n f 0 (apart f hf)
  have tb := Mod.tb_of_plant plant
  have fields : (m.takenIn h l who).net.lead = m.net.lead ∧ (m.takenIn h l who).net.rpts = m.net.rpts ∧ (m.takenIn h l who).net.ofs = m.net.ofs ∧
      (m.takenIn h l who).net.ofsAt = m.net.ofsAt := by rw [net]; exact ⟨rfl, rfl, rfl, rfl⟩
  clear net
  generalize m.takenIn h l who = y at *
  obtain ⟨lead, rpts, ofs, ofsAt⟩ := fields
  refine ⟨?_, ?_, ?_, ?_, ?_, ?_⟩
  · simp [Mod.leads, Mod.isLantern, Mod.parentLantern, Mod.bitOf, at0]
  · simp [Mod.leadGroup, Mod.leadRoles, lead]
  · simp [Mod.ntime, Mod.ntimeNs, at0, tb, ofs, ofsAt]
  · simp [Mod.allocRooms, Mod.groupReports, Mod.leadRole, lead, rpts, tb]
  · simp [Mod.q, at0]
  · simp [Mod.q, at0]

/-! ## The division of an intent (R259, R260) -/

/-- R260: the shares of an announced step. -/
def Mod.allocShares (m : Mod) (x : IntentMsg) : List (Nat × Rat) :=
  let rooms := m.allocRooms x.seg x.dp
  (waterFill (rooms.length + 1) (minR (absR x.dp) ((rooms.map (·.2)).sum)) (rooms.map (fun r => (r.1, (1 : Rat), r.2)))).filter
    (fun a => decide (0 < a.2))

/-- R260: the shares in the direction of the step. -/
def signedShares (x : IntentMsg) (l : List (Nat × Rat)) : List (Nat × Rat) := l.map (fun s => (s.1, if x.dp < 0 then -s.2 else s.2))

/-- R349: an ALLOC leaves. -/
def Mod.allocSent (m : Mod) (x : IntentMsg) (es : List (Nat × Rat)) : Mod :=
  m.originate 1 0x11 0xFFFF (leBytes 2 x.seg ++ leBytes 2 x.num ++ leBytes 2 x.orig ++ [x.conf, es.length] ++ leBytes 8 x.tArr ++
    es.flatMap (fun e => e.1 :: leBytes 2 (ofSigned 16 (roundR (e.2 / 10)))))

/-- R260: the division is counted, with what it could not place. -/
def Mod.allocCounted (m : Mod) (short : Rat) : Mod := (m.inc E.ALLOC_CNT 0).setQ E.ALLOC_SHORT 0 short

/-- R260: a lantern that is a member takes its own share. -/
def Mod.allocOwn (m : Mod) (x : IntentMsg) (l : List (Nat × Rat)) : Mod :=
  if m.isLantern ∧ m.n E.SHARE_ROLE 0 = 1 ∧ m.n E.SEG_ID 0 = x.seg then
    match l.find? (fun s => s.1 == m.n E.SHARE_IDX 0) with
    | some s => Mod.intentRx { orig := x.orig, num := x.num, dpm := 10 * roundR (s.2 / 10), tArr := x.tArr, conf := x.conf } m
    | none => m
  else m

theorem Mod.allocate_eq {m : Mod} {x : IntentMsg} (group : (m.leadGroup x.seg).isEmpty = false)
    (near : x.tArr ≤ m.ntime + ticksMs (m.q E.INT_HORIZON 0)) (early : m.ntime < x.tArr + ticksUs (m.q E.INT_WIN 0)) :
    m.allocate x = (((allocFrames 7 (signedShares x (m.allocShares x))).foldl (fun (m : Mod) es => m.allocSent x es) (m.through 30 64 x.orig x.num)).allocCounted
      (absR x.dp - ((m.allocShares x).map (·.2)).sum)).allocOwn x (signedShares x (m.allocShares x)) := by
  unfold Mod.allocate
  dsimp only
  rw [if_neg (by simp [group]; omega)]
  rfl

theorem Mod.allocate_drops {m : Mod} {x : IntentMsg}
    (why : (m.leadGroup x.seg).isEmpty = true ∨ m.ntime + ticksMs (m.q E.INT_HORIZON 0) < x.tArr) : m.allocate x = m.inc E.ALLOC_DROP 0 := by
  unfold Mod.allocate
  dsimp only
  rcases why with empty | far
  · rw [if_pos (by simp [empty])]
  · rw [if_pos (by simp [far])]

/-- What an intent that is taken, or dropped, touches (R187 to R189, R166). -/
def takeFams : List Fam := [E.INT_IGNORED, E.INT_FAR, E.INT_LATE, E.INT_RX, E.INT_DROPPED, E.INT_PENDING, E.INT_NEXT_T, E.INT_PB_V] ++ cancelFams

theorem OnlyFams.addIntent (m : Mod) (i : Intent) : OnlyFams takeFams m (m.addIntent i) := by
  have shown : ∀ x : Mod, OnlyFams takeFams x x.intentShow := fun x => .intentShow x (by simp [takeFams])
  have counted : ∀ (x : Mod) (f : Fam) (l : List Intent), f ∈ takeFams → OnlyFams takeFams x (({ x with intents := l } : Mod).inc f 0) := fun x f l hf =>
    OnlyFams.trans (b := { x with intents := l }) (fun _ _ => rfl) (.setV _ 0 _ hf)
  have put : ∀ l : List Intent, OnlyFams takeFams m (({ m with intents := l ++ [i] } : Mod).inc E.INT_RX 0).intentShow := fun l =>
    (counted m E.INT_RX _ (by simp [takeFams])).trans (shown _)
  unfold Mod.addIntent
  dsimp only
  split
  · exact put _
  · split
    · exact put _
    · split
      · split
        · exact (put _).trans (.setV (f := E.INT_DROPPED) _ 0 _ (by simp [takeFams]))
        · exact .setV (f := E.INT_DROPPED) m 0 _ (by simp [takeFams])
      · exact .refl _ m

theorem OnlyFams.intentRx (m : Mod) (a : Share) : OnlyFams takeFams m (m.intentRx a) := by
  have counted : ∀ f ∈ takeFams, OnlyFams takeFams m (m.inc f 0) := fun f hf => .setV m 0 _ hf
  have cancels : ∀ (x : Mod) (g : Nat), OnlyFams takeFams x (if x.intentPending g then (stageGroups g).foldl Mod.shedCancel x else x) := fun x g =>
    (AtPhases.cancelFor x g).1.mono (List.subset_append_right _ _)
  unfold Mod.intentRx
  dsimp only
  split
  · exact .refl _ m
  · split
    · exact counted _ (by simp [takeFams])
    · split
      · exact counted _ (by simp [takeFams])
      · split
        · exact counted _ (by simp [takeFams])
        · exact ((OnlyFams.addIntent m _).trans (cancels _ 0)).trans (cancels _ 1)

/-- What an intent that a lantern divides touches. -/
def allocFams : List Fam := [E.ALLOC_CNT, E.ALLOC_SHORT] ++ (markFams ++ (outFams ++ takeFams))

theorem Mod.allocate_does {m : Mod} {x : IntentMsg} (group : (m.leadGroup x.seg).isEmpty = false)
    (near : x.tArr ≤ m.ntime + ticksMs (m.q E.INT_HORIZON 0)) (early : m.ntime < x.tArr + ticksUs (m.q E.INT_WIN 0)) :
    OnlyFams allocFams m (m.allocate x) ∧ (m.allocate x).n E.ALLOC_CNT 0 = inc32 (m.n E.ALLOC_CNT 0) ∧
    (m.allocate x).n E.ALLOC_SHORT 0 = f32OfRat (absR x.dp - ((m.allocShares x).map (·.2)).sum) := by
  rw [Mod.allocate_eq group near early]
  generalize m.allocShares x = l
  have queued := (OnlyFams.through m (q := 30) 64 x.orig x.num (by decide)).mono (gs := markFams ++ outFams) (List.subset_append_left _ _)
  have sent : ∀ (y : Mod) (es : List (Nat × Rat)), OnlyFams (markFams ++ outFams) y (y.allocSent x es) := fun y es =>
    (OnlyFams.originate y _ _ _ (by decide)).mono (List.subset_append_right _ _)
  generalize m.through 30 64 x.orig x.num = y at *
  have left := OnlyFams.foldl (f := fun (m : Mod) es => m.allocSent x es) sent (allocFrames 7 (signedShares x l)) y
  generalize (allocFrames 7 (signedShares x l)).foldl (fun (m : Mod) es => m.allocSent x es) y = z at *
  have before := queued.trans left
  have counted : OnlyFams allocFams z (z.allocCounted (absR x.dp - (l.map (·.2)).sum)) :=
    ((OnlyFams.refl _ z).set (f := E.ALLOC_CNT) (by simp [allocFams])).set (f := E.ALLOC_SHORT) (by simp [allocFams])
  have count : (z.allocCounted (absR x.dp - (l.map (·.2)).sum)).n E.ALLOC_CNT 0 = inc32 (z.n E.ALLOC_CNT 0) := by
    unfold Mod.allocCounted
    rw [Mod.setQ, Mod.n_setN_ne _ _ (by decide), Mod.n_inc_same _ (by decide)]
  have short : (z.allocCounted (absR x.dp - (l.map (·.2)).sum)).n E.ALLOC_SHORT 0 = f32OfRat (absR x.dp - (l.map (·.2)).sum) := Mod.n_setN_same _ _ (by decide)
  generalize z.allocCounted (absR x.dp - (l.map (·.2)).sum) = w at *
  have own : OnlyFams takeFams w (w.allocOwn x (signedShares x l)) := by
    unfold Mod.allocOwn
    split
    · split
      · exact .intentRx w _
      · exact .refl _ w
    · exact .refl _ w
  refine ⟨((before.mono fun f hf => ?_).trans counted).trans (own.mono fun f hf => ?_), (own.n _ _ (by decide +kernel)).trans (count.trans ?_),
    (own.n _ _ (by decide +kernel)).trans short⟩
  · simp only [allocFams, List.mem_append] at hf ⊢
    tauto
  · simp only [allocFams, List.mem_append]
    tauto
  · rw [before.n E.ALLOC_CNT 0 (by decide +kernel)]

/-- An intent that passes is divided by the lantern (R259). -/
theorem Mod.intentAllocate_eq {m : Mod} {h : Hdr} {x : IntentMsg} (passes : Passes m h 0x10 none) (leads : m.leads = true) (seg : x.seg ≠ 0)
    (hc : h.cls = 1) : m.intentAllocate h x = (m.takenIn h h.via (originator h 0)).allocate x := by
  obtain ⟨leads', -⟩ := m.takenIn_intent h.via (originator h 0) (h := h) (by omega) (by omega) x.seg x.dp
  unfold Mod.intentAllocate
  refine (Mod.onFrame_passes (fun m => m.intentMsg h x) passes).trans ?_
  change (m.takenIn h h.via (originator h 0)).intentMsg h x = _
  unfold Mod.intentMsg
  rw [if_neg (fun z => seg z.2), if_pos (leads'.trans leads)]

/-- R267: the offer is noted. -/
def Net.offered (x : TakeMsg) (n : Net) : Net := { n with takeFor := some x }

theorem Mod.takeRx_eq {m : Mod} {h : Hdr} {x : TakeMsg} (passes : Passes m h 0x32 none) (hc : h.cls = 3) (lant : m.fromLantern h = true)
    (numbered : m.numbered = true) (target : x.target = m.net.stn) (mooring : m.mooring = true) (may : m.mayTake = true)
    (seg : x.seg = m.n E.SEG_ID 0) : m.takeRx h x = (m.takenIn h h.via (originator h 0)).modNet (Net.offered x) := by
  obtain ⟨lant', numbered', stn', mooring', may', seg'⟩ := m.takenIn_take h.via (originator h 0) (h := h) (by omega) (by omega)
  unfold Mod.takeRx
  refine (Mod.onFrame_passes _ passes).trans (if_pos ?_)
  change ((m.takenIn h h.via (originator h 0)).fromLantern h && (m.takenIn h h.via (originator h 0)).numbered &&
    x.target == (m.takenIn h h.via (originator h 0)).net.stn && (m.takenIn h h.via (originator h 0)).mooring &&
    (m.takenIn h h.via (originator h 0)).mayTake && x.seg == (m.takenIn h h.via (originator h 0)).n E.SEG_ID 0) = true
  rw [lant', numbered', stn', mooring', may', seg', lant, numbered, mooring, may, target, seg]
  simp

/-! ## The end of a fenced module's ramp (R270) -/

/-- No phase switches (R163). -/
def Mod.allOff (m : Mod) : Prop := ∀ p, p < 16 → m.switches p = false

theorem Mod.allOff_of_n {m m' : Mod} (h : ∀ p, p < 16 → m'.n E.PH_STATE p = m.n E.PH_STATE p) (off : m.allOff) : m'.allOff := fun p hp => by
  have same := off p hp
  unfold Mod.switches at same ⊢
  rw [h p hp]
  exact same

/-- A phase that does not switch goes on so where a phase turns off. -/
theorem Mod.switches_phaseOff (m : Mod) (p : Nat) {st q : Nat} (hst : st ≤ 1) (hq : q < 16) (off : m.switches q = false) : (m.phaseOff p st).switches q = false := by
  unfold Mod.switches at off ⊢
  by_cases h : q = p
  · subst h
    rw [(m.phaseOff_does st hq).1]
    have idle : st ≠ 3 ∧ st ≠ 4 ∧ st ≠ 5 := by omega
    simp [idle]
  · rw [m.phaseOff_other st h]
    exact off

theorem Mod.phaseOff_allOff {m : Mod} (p : Nat) (off : m.allOff) : (m.phaseOff p 1).allOff := fun q hq =>
  m.switches_phaseOff p (by decide) hq (off q hq)

/-- What a switch that an unused port opens leaves (R68): the stages as they were, and the phases off. -/
def Idles (m m' : Mod) : Prop := OnlyFams qualFams m m' ∧ m'.stg = m.stg ∧ (m.allOff → m'.allOff) ∧
  m'.deadline .fenceRamp = m.deadline .fenceRamp

theorem Idles.refl (m : Mod) : Idles m m := ⟨.refl _ m, rfl, id, rfl⟩

theorem Idles.trans {a b c : Mod} (h : Idles a b) (g : Idles b c) : Idles a c := ⟨h.1.trans g.1, g.2.1.trans h.2.1, fun x => g.2.2.1 (h.2.2.1 x), g.2.2.2.trans h.2.2.2⟩

theorem Idles.when (m : Mod) (c : Bool) {f : Mod → Mod} (hf : Idles m (f m)) : Idles m (m.when c f) := by
  cases c
  · exact .refl m
  · exact hf

theorem phStates_apart : ∀ p < 16, E.PH_STATE.key p ∉ (E.QUAL_STATE :: E.DEAD_STATE :: (ceilFams ++ countFams)).flatMap Fam.keys := by decide +kernel

/-- What changes no phase idles. -/
theorem Idles.of_only {m m' : Mod} (h : OnlyFams (E.QUAL_STATE :: E.DEAD_STATE :: (ceilFams ++ countFams)) m m') (stg : m'.stg = m.stg)
    (timer : m'.deadline .fenceRamp = m.deadline .fenceRamp) : Idles m m' :=
  ⟨h.mono fun f hf => by simp only [qualFams, List.mem_append, List.mem_cons, List.not_mem_nil, or_false] at hf ⊢; tauto, stg,
    Mod.allOff_of_n fun p hp => h.n _ _ (phStates_apart p hp), timer⟩

theorem Idles.joinEnd (m : Mod) (k : Nat) : Idles m (m.joinEnd k) := by
  unfold Mod.joinEnd
  split
  · rename_i p _
    split
    · have off : Idles m (m.phaseOff p 1) := ⟨(AtPhases.phaseOff m p 1).1.mono (fun f hf => List.mem_append_right _ (List.mem_append_right _ (List.mem_append_left _ hf))), rfl, Mod.phaseOff_allOff p, rfl⟩
      exact off.trans (.of_only ((AtPhases.countPhases _).1.mono (List.subset_cons_of_subset _ (List.subset_cons_of_subset _ (List.subset_append_right _ _)))) (Mod.stg_of_plant (Mod.plant_countPhases _))
        (by unfold Mod.deadline; rw [Mod.countPhases_timers]))
    · exact .refl m
  · exact .refl m

theorem Idles.qualTo (m : Mod) (k st : Nat) : Idles m (m.qualTo k st) := by
  have state : ∀ x : Mod, Idles x ((x.setN E.QUAL_STATE k st).qualRest k) := fun x =>
    .of_only (OnlyFams.of_od (x := x.setN E.QUAL_STATE k st) (.setV (f := E.QUAL_STATE) x k _ (by simp)) rfl) rfl (by
      have timers : ((x.setN E.QUAL_STATE k st).qualRest k).deadline .fenceRamp =
        ((((x.setN E.QUAL_STATE k st).disarm (.insertion k)).disarm (.precharge k)).disarm (.ride k)).deadline .fenceRamp := rfl
      rw [timers, Mod.deadline_disarm_ne _ (by simp), Mod.deadline_disarm_ne _ (by simp), Mod.deadline_disarm_ne _ (by simp)]
      rfl)
  have lost : ∀ x : Mod, Idles x (x.qualLost k st) := fun x => by
    have dead : ∀ (y : Mod) (c : Bool), Idles y (y.when c (·.setN E.DEAD_STATE 0 0)) := fun y c =>
      .when y c (.of_only (.setV (f := E.DEAD_STATE) y 0 _ (by simp)) rfl rfl)
    have ceil : ∀ (y : Mod) (c : Bool), Idles y (y.when c (·.zeroCeil k)) := fun y c => by
      refine .when y c (.of_only ((Stands.zeroCeil y k).1.mono (List.subset_cons_of_subset _ (List.subset_cons_of_subset _ (List.subset_append_left _ _)))) ?_ ?_)
      · unfold Mod.zeroCeil
        exact (Mod.when_keeps Mod.stg (fun x => x.setN E.IN_CEIL_SRC k 8) (fun _ => rfl) _ _)
      · unfold Mod.zeroCeil
        exact (Mod.when_keeps (fun x => x.deadline .fenceRamp) (fun x => x.setN E.IN_CEIL_SRC k 8) (fun _ => rfl) _ _)
    exact (dead x _).trans (ceil _ _)
  rw [Mod.qualTo_eq]
  exact ((Idles.joinEnd m k).trans (state _)).trans (lost _)

theorem Idles.openSwitch (m : Mod) (k : Nat) : Idles m (m.openSwitch k) := .of_only (fun _ _ => rfl) rfl rfl

theorem Idles.openUnused (m : Mod) (path coupling : Nat) (hold : Bool) : Idles m (m.openUnused path coupling hold) := by
  have port : ∀ (x : Mod) (c : Bool) (k st : Nat), Idles x (x.when c (fun m => (m.openSwitch k).qualTo k st)) := fun x c k st =>
    .when x c ((Idles.openSwitch x k).trans (.qualTo _ k st))
  have each : ∀ (l : List Nat) (f : Nat → Mod → Mod) (x : Mod), (∀ k y, Idles y (f k y)) → Idles x (l.foldl (fun m k => f k m) x) := fun l f x hf => by
    induction l generalizing x with
    | nil => exact .refl x
    | cons k r ih => exact (hf k x).trans (ih _)
  unfold Mod.openUnused
  exact (((each _ _ m fun k y => port y _ k _)).trans (port _ _ 4 _)).trans (.when _ _ (.openSwitch _ 5))

/-- R270: the stages are off, the trim is let go. -/
def Mod.fenceOff (m : Mod) : Mod := (((m.stageOff 0).stageOff 1).disarm .fenceRamp).setQ E.LL_TRIM 0 0

theorem Mod.gated_stageOff_ne (m : Mod) {g j : Nat} (h : j ≠ g) : (m.stageOff g).gated j = m.gated j := by
  have abandoned : (m.abandonStage g).stgOf j = m.stgOf j := by
    unfold Mod.stgOf
    rw [Mod.abandonStage_stg, getD_modAt_ne _ _ _ h]
  have rested : ((stagePhases g).foldl Mod.restPhase (m.abandonStage g)).stg = (m.abandonStage g).stg :=
    foldl_keeps Mod.stg Mod.restPhase (fun y p => by unfold Mod.restPhase; split <;> rfl) _ _
  rw [Mod.stageOff_eq]
  generalize m.abandonStage g = x at *
  generalize (stagePhases g).foldl Mod.restPhase x = y at *
  have shown : (y.offShown g).stgOf j = y.stgOf j := getD_modAt_ne _ _ _ h
  unfold Mod.gated
  rw [shown, ← abandoned]
  unfold Mod.stgOf
  rw [rested]

theorem counts_apart : ∀ p < 16, E.PH_STATE.key p ∉ countFams.flatMap Fam.keys := by decide +kernel

/-- What a stage that turns off leaves of the phases that do not switch. -/
theorem Mod.switches_stageOff (m : Mod) {g p : Nat} (hg : g < 2) (hp : p < 16) (off : m.switches p = false) : (m.stageOff g).switches p = false := by
  have all : ∀ (f : Mod → Nat → Mod), (∀ x q, x.switches p = false → (f x q).switches p = false) → ∀ (l : List Nat) (x : Mod), x.switches p = false →
      (l.foldl f x).switches p = false := fun f hf l => by
    induction l with
    | nil => exact fun _ h => h
    | cons q r ih => exact fun x h => ih _ (hf x q h)
  have halt : ∀ (x : Mod) (q : Nat), x.switches p = false → (x.haltPhase q).switches p = false := fun x q h => by
    unfold Mod.haltPhase
    dsimp only
    split
    · exact (x.disarm (.arming q)).switches_phaseOff q (by decide) hp h
    · exact h
  have rest : ∀ (x : Mod) (q : Nat), x.switches p = false → (x.restPhase q).switches p = false := fun x q h => by
    unfold Mod.restPhase
    split
    · exact h
    · exact x.switches_phaseOff q (by decide) hp h
  have counts : ∀ x : Mod, x.switches p = false → x.countPhases.switches p = false := fun x h => by
    unfold Mod.switches at h ⊢
    rw [(AtPhases.countPhases x).1.n _ _ (counts_apart p hp)]
    exact h
  have left : (m.abandonStage g).switches p = false := by
    rw [Mod.abandonStage_eq]
    refine counts _ ?_
    have halted := all _ halt (stagePhases g) m off
    generalize (stagePhases g).foldl Mod.haltPhase m = z at halted ⊢
    have od : ((z.modStg g Stg.halted).haltAdds g).od = z.od := Mod.haltAdds_od (z.modStg g Stg.halted) g
    unfold Mod.switches Mod.n Mod.getV at halted ⊢
    rw [od]
    exact halted
  rw [Mod.stageOff_eq]
  have rested := all _ rest (stagePhases g) _ left
  generalize (stagePhases g).foldl Mod.restPhase (m.abandonStage g) = y at *
  obtain ⟨-, -, -, -, same⟩ := y.offShown_does hg
  unfold Mod.switches at rested ⊢
  rw [same p hp]
  exact rested

theorem Mod.fenceOff_does (m : Mod) : OnlyFams (stageFams ++ [E.DEAD_STATE, E.IN_CEIL_SRC, E.IN_ICEIL, E.LL_TRIM, E.QUAL_STATE, E.SST_HICCUP]) m m.fenceOff ∧
    m.fenceOff.deadline .fenceRamp = none ∧ m.fenceOff.gated 0 = true ∧ m.fenceOff.gated 1 = true ∧ m.fenceOff.n E.LL_TRIM 0 = 0 ∧ m.fenceOff.allOff := by
  obtain ⟨onlyA, gateA, -, -, phasesA⟩ := m.stageOff_does (g := 0) (by decide)
  unfold Mod.fenceOff
  generalize m.stageOff 0 = x at *
  obtain ⟨onlyB, gateB, -, -, phasesB⟩ := x.stageOff_does (g := 1) (by decide)
  have stillA := x.gated_stageOff_ne (g := 1) (j := 0) (by decide)
  have stays : ∀ p, p < 8 → (x.stageOff 1).switches p = false := fun p hp =>
    x.switches_stageOff (by decide) (by omega) (by have off := phasesA p hp; rwa [Nat.mul_zero, Nat.zero_add] at off)
  generalize x.stageOff 1 = y at *
  have off : y.allOff := fun p hp => by
    by_cases low : p < 8
    · exact stays p low
    · have high := phasesB (p - 8) (by omega)
      rwa [show 8 * 1 + (p - 8) = p by omega] at high
  have before := onlyA.trans onlyB
  have ended : (y.disarm .fenceRamp).deadline .fenceRamp = none := Mod.deadline_disarm_same _ _
  have same : (y.disarm .fenceRamp).od = y.od := rfl
  have gates : ∀ g, (y.disarm .fenceRamp).gated g = y.gated g := fun _ => rfl
  have still : (y.disarm .fenceRamp).allOff := off
  generalize y.disarm .fenceRamp = z at *
  have trim : OnlyFams [E.LL_TRIM] z (z.setQ E.LL_TRIM 0 0) := .setV (f := E.LL_TRIM) z 0 _ (by simp)
  have apart : ∀ p < 16, E.PH_STATE.key p ∉ [E.LL_TRIM].flatMap Fam.keys := by decide +kernel
  refine ⟨((before.of_od same).mono (by simp)).trans (trim.mono (by simp)), ended, (gates 0).trans (stillA.trans gateA), (gates 1).trans gateB, ?_,
    Mod.allOff_of_n (fun p hp => trim.n _ _ (apart p hp)) still⟩
  rw [Mod.setQ, Mod.n_setN_same _ _ (by decide)]
  decide +kernel

end Sys2Proof.Machine

namespace Sys2Proof

open Machine

/-- Settles O19: a lantern divides an announced step or drops it, a dark station is declared, offers are noted and lapse, and a fenced module's ramp ends with its gates off. -/
theorem allocationTakeoverAndFencing : Obligations.AllocationTakeoverAndFencing := by
  unfold Obligations.AllocationTakeoverAndFencing
  refine ⟨?_, ?_, ?_, ?_, ?_, ?_⟩
  · intro t h x s ha passes leads seg group near early
    refine DoesM.intro (f := Mod.intentAllocate h x) rfl ha ?_
    have cls : h.cls = 1 := (Option.some.inj (passes.cls.symm.trans (by decide)))
    change (s.m.at t).leads = true at leads
    change ((s.m.at t).leadGroup x.seg).isEmpty = false at group
    change x.tArr ≤ (s.m.at t).ntime + ticksMs ((s.m.at t).q E.INT_HORIZON 0) at near
    change (s.m.at t).ntime < x.tArr + ticksUs ((s.m.at t).q E.INT_WIN 0) at early
    rw [Mod.intentAllocate_eq passes leads seg cls]
    generalize s.m.at t = m at *
    obtain ⟨taken, -⟩ := m.takenIn_frame h.via (originator h 0) (h := h) (by omega) (by omega)
    obtain ⟨leads', group', time, rooms, horizon, win⟩ := m.takenIn_intent h.via (originator h 0) (h := h) (by omega) (by omega) x.seg x.dp
    generalize m.takenIn h h.via (originator h 0) = y at *
    obtain ⟨only, count, short⟩ := Mod.allocate_does (m := y) (x := x) (by rw [group', group]) (by rw [time, horizon]; exact near) (by rw [time, win]; exact early)
    have shares : y.allocShares x = m.allocShares x := by
      unfold Mod.allocShares
      rw [rooms]
    have marks : E.CLS_RX :: markFams ⊆ tripFams ++ [E.ALLOC_CNT, E.ALLOC_DROP, E.ALLOC_SHORT, E.CLS_DROP, E.CLS_RX, E.INT_DROPPED, E.INT_FAR,
        E.INT_IGNORED, E.INT_LATE, E.INT_NEXT_T, E.INT_PB_V, E.INT_PENDING, E.INT_RX, E.LINK_FCS_ERR, E.LINK_YIELDS,
        E.NET_AUTH_FAIL, E.NET_BAD_HDR, E.NET_EXP_DROP, E.NET_GEN_STALE, E.NET_LGEN_OLD, E.NET_REPLAY, E.STG_SHED_CANCEL] := by decide +kernel
    have parts : allocFams ⊆ tripFams ++ [E.ALLOC_CNT, E.ALLOC_DROP, E.ALLOC_SHORT, E.CLS_DROP, E.CLS_RX, E.INT_DROPPED, E.INT_FAR,
        E.INT_IGNORED, E.INT_LATE, E.INT_NEXT_T, E.INT_PB_V, E.INT_PENDING, E.INT_RX, E.LINK_FCS_ERR, E.LINK_YIELDS,
        E.NET_AUTH_FAIL, E.NET_BAD_HDR, E.NET_EXP_DROP, E.NET_GEN_STALE, E.NET_LGEN_OLD, E.NET_REPLAY, E.STG_SHED_CANCEL] := by decide +kernel
    have dropped : E.ALLOC_DROP.key 0 ∉ allocFams.flatMap Fam.keys ∧ E.ALLOC_DROP.key 0 ∉ (E.CLS_RX :: markFams).flatMap Fam.keys := by decide +kernel
    refine ⟨(taken.mono marks).trans (only.mono parts), ?_, ?_, ?_⟩
    · rw [count, taken.n E.ALLOC_CNT 0 (by decide +kernel)]
    · rw [short, shares]
      rfl
    · exact (only.n _ _ dropped.1).trans (taken.n _ _ dropped.2)
  · intro t h x s ha passes leads seg why
    refine DoesM.intro (f := Mod.intentAllocate h x) rfl ha ?_
    have cls : h.cls = 1 := (Option.some.inj (passes.cls.symm.trans (by decide)))
    change (s.m.at t).leads = true at leads
    change ((s.m.at t).leadGroup x.seg).isEmpty = true ∨ (s.m.at t).ntime + ticksMs ((s.m.at t).q E.INT_HORIZON 0) < x.tArr at why
    rw [Mod.intentAllocate_eq passes leads seg cls]
    generalize s.m.at t = m at *
    obtain ⟨taken, -⟩ := m.takenIn_frame h.via (originator h 0) (h := h) (by omega) (by omega)
    obtain ⟨leads', group', time, -, horizon, -⟩ := m.takenIn_intent h.via (originator h 0) (h := h) (by omega) (by omega) x.seg x.dp
    generalize m.takenIn h h.via (originator h 0) = y at *
    rw [Mod.allocate_drops (by rw [group', time, horizon]; exact why)]
    have counted : SameOd E.ALLOC_DROP.keys y (y.inc E.ALLOC_DROP 0) := fun k hk =>
      Mod.odGet_setV_ne y E.ALLOC_DROP 0 _ (fun e => hk (e ▸ (by decide)))
    refine ⟨?_, ?_⟩
    · rw [Mod.n_inc_same _ (by decide), taken.n E.ALLOC_DROP 0 (by decide +kernel)]
    · exact (SameOd.mono taken (fun k hk => List.mem_append_right _ (takenFams_frameKeys hk))).trans (counted.mono (List.subset_append_left _ _))
  · intro t n x s ha leads known live missed none_
    refine DoesM.intro (f := Mod.darkDeclare n) rfl ha ?_
    change (s.m.at t).stnOf n = some x at known
    rw [Mod.darkDeclare_eq (m := s.m.at t) known leads live missed none_]
    generalize s.m.at t = m at *
    have noted : (m.darkNoted n).stnOf n = some { x with dark := true } := Mod.stnOf_mapStn (fun _ => rfl) known
    have count : (m.darkNoted n).n E.DARK_CNT 0 = inc32 (m.n E.DARK_CNT 0) := Mod.n_inc_same _ (by decide)
    have same : SameOd [E.DARK_CNT.key 0] m (m.darkNoted n) := fun k hk => Mod.odGet_setV_ne m E.DARK_CNT 0 _ (by simpa using hk)
    have held : (m.darkNoted n).heldBy n = m.heldBy n := rfl
    generalize m.darkNoted n = y at *
    obtain ⟨stn, od, -, role⟩ := y.darkRole_does n
    refine ⟨stn.trans noted, ?_, held ▸ role, SameOd.of_od same od⟩
    exact (congrArg Val.toNat (by unfold Mod.getV; rw [od])).trans count
  · intro t h x s ha passes lant numbered target mooring may seg
    refine DoesM.intro (f := Mod.takeRx h x) rfl ha ?_
    have cls : h.cls = 3 := (Option.some.inj (passes.cls.symm.trans (by decide)))
    obtain ⟨taken, -⟩ := (s.m.at t).takenIn_frame h.via (originator h 0) (h := h) (by omega) (by omega)
    rw [Mod.takeRx_eq (m := s.m.at t) passes cls lant numbered target mooring may seg]
    exact ⟨rfl, SameOd.mono taken takenFams_frameKeys⟩
  · intro t o r s ha offer due role live
    refine DoesM.intro (f := Mod.takeLapse) rfl ha ?_
    change (s.m.at t).net.offer = some o at offer
    change (s.m.at t).leadRole o.seg o.idx = some r at role
    rw [Mod.takeLapse_eq offer due]
    generalize s.m.at t = m at *
    obtain ⟨seg, idx, named⟩ := Mod.leadRole_spec role
    have back : m.offerBack o = m.leadPut { r with state := 1 } := by
      unfold Mod.offerBack
      rw [role]
    rw [back]
    have found := m.leadRole_leadPut (r := { r with state := 1 }) named live
    rw [← seg, ← idx]
    exact ⟨rfl, found, fun _ _ => rfl⟩
  · intro t s ha fenced due
    refine DoesM.intro (f := Mod.fenceRampDone) rfl ha ?_
    change (s.m.at t).fenced = true at fenced
    have ends : (s.m.at t).fenceRampDone = (s.m.at t).fenceOff.openUnused 1 0 false := if_pos (by simp [fenced, due])
    rw [ends]
    generalize s.m.at t = m at *
    obtain ⟨only, ended, gateA, gateB, trim, phases⟩ := m.fenceOff_does
    generalize m.fenceOff = x at *
    obtain ⟨opened, stg, still, timer⟩ := Idles.openUnused x 1 0 false
    generalize x.openUnused 1 0 false = y at *
    refine ⟨only.trans (opened.mono (by decide +kernel)), timer.trans ended, (Mod.gated_of_stg stg 0).trans gateA, (Mod.gated_of_stg stg 1).trans gateB,
      (opened.n E.LL_TRIM 0 (by decide +kernel)).trans trim, still phases⟩

end Sys2Proof
end

section
/-! PROOF. The periods of the engines (R88, R133, R151, R155, R157, R158, R168, R175). -/

set_option Elab.async false

namespace Sys2Proof.Machine

open Sys2Proof

/-! ## What a part of the voltage loop leaves -/

/-- What a period of the voltage loops touches. -/
def loopFams : List Fam := [E.CHG_IREF, E.FB_ACTIVE, E.FR_HEADS, E.INT_HIT, E.INT_NEXT_T, E.INT_PB_V, E.INT_PENDING, E.LL_DROOP_V,
  E.REGEN_RANK, E.V_REF]

/-- What regulates SYS: V_set and its goal, the filtered current, the hand-over, what stands before each stage. -/
structure Helm where
  vset : Rat
  iF : Rat
  ffwd : Rat
  demandA : Rat
  demandB : Rat
  run : Nat
  intents : List Intent
  ctl : List (Nat × Val)

/-- What regulates SYS in a module. -/
def Mod.helm (m : Mod) : Helm := ⟨m.reg.vset, m.reg.iF, m.reg.ffwd, m.reg.demandA, m.reg.demandB, m.cable.run, m.intents, m.ctl⟩

/-- Only entries of these families change, and what regulates SYS stands. -/
def Steers (fs : List Fam) (m m' : Mod) : Prop := OnlyFams fs m m' ∧ m'.helm = m.helm

theorem Steers.refl (fs : List Fam) (m : Mod) : Steers fs m m := ⟨.refl _ m, rfl⟩

theorem Steers.trans {fs : List Fam} {a b c : Mod} (h : Steers fs a b) (g : Steers fs b c) : Steers fs a c := ⟨h.1.trans g.1, g.2.trans h.2⟩

theorem Steers.mono {fs gs : List Fam} {a b : Mod} (h : Steers fs a b) (hs : fs ⊆ gs) : Steers gs a b := ⟨h.1.mono hs, h.2⟩

theorem Steers.when {fs : List Fam} (m : Mod) (c : Bool) {f : Mod → Mod} (hf : Steers fs m (f m)) : Steers fs m (m.when c f) := by
  cases c
  · exact .refl fs m
  · exact hf

theorem Steers.setV {fs : List Fam} (m : Mod) {f : Fam} (i : Nat) (v : Val) (hf : f ∈ fs) : Steers fs m (m.setV f i v) := ⟨.setV m i v hf, rfl⟩

theorem Steers.each {fs : List Fam} {f : Nat → Mod → Mod} (hf : ∀ k m, Steers fs m (f k m)) (n : Nat) (m : Mod) : Steers fs m (m.each n f) := by
  unfold Mod.each
  induction List.range n generalizing m with
  | nil => exact .refl fs m
  | cons b r ih => exact (hf b m).trans (ih _)

/-! ## V_set (R88) -/

theorem Steers.keepGood (m : Mod) (j : Nat) (remote loc : Rat) : Steers [] m (m.keepGood j remote loc) := by
  unfold Mod.keepGood
  split
  · exact ⟨fun _ _ => rfl, rfl⟩
  · exact .refl _ m

theorem Steers.cableWatch (m : Mod) (v : Rat) : Steers [] m (m.cableWatch v) := .when m _ ⟨fun _ _ => rfl, rfl⟩

/-- What moves V_set, and what decides how far, in a module. -/
structure Course where
  vset : Rat
  goal : Rat
  hand : Bool
  bridgeTo : Option Rat
  stg : List Stg
  ctl : List (Nat × Val)
  od : List (Nat × Val)

def Mod.course (m : Mod) : Course := ⟨m.reg.vset, m.reg.goal, m.reg.hand, m.reg.bridgeTo, m.stg, m.ctl, m.od⟩

/-- R158: the first part of a period, before V_set moves. -/
def Mod.loopTaken (m : Mod) (x : VLoopIn) (v vb : Rat) : Mod :=
  ((((m.keepGood 0 x.vSense x.vLocal).keepGood 1 x.vSnsBat x.vBat).loopStart vb).cableWatch v).moveDuty

theorem Mod.keepGood_course (m : Mod) (j : Nat) (remote loc : Rat) : (m.keepGood j remote loc).course = m.course := by
  unfold Mod.keepGood
  split <;> rfl

theorem Mod.loopTaken_does (m : Mod) (x : VLoopIn) (v vb : Rat) : (m.loopTaken x v vb).od = m.od ∧
    (m.loopTaken x v vb).helm = { m.helm with ffwd := 0 } ∧
    (m.reg.bridgeTo = none → (m.loopTaken x v vb).course = m.course) := by
  unfold Mod.loopTaken
  have good := (Steers.keepGood m 0 x.vSense x.vLocal).trans (.keepGood _ 1 x.vSnsBat x.vBat)
  have course := (Mod.keepGood_course (m.keepGood 0 x.vSense x.vLocal) 1 x.vSnsBat x.vBat).trans (m.keepGood_course 0 x.vSense x.vLocal)
  generalize (m.keepGood 0 x.vSense x.vLocal).keepGood 1 x.vSnsBat x.vBat = y at *
  have watch : ((y.loopStart vb).cableWatch v).moveDuty.od = y.od ∧ ((y.loopStart vb).cableWatch v).moveDuty.helm = { y.helm with ffwd := 0 } ∧
      ((y.loopStart vb).cableWatch v).moveDuty.course = { y.course with bridgeTo := y.reg.bridgeTo.map (fun _ => vb) } := by
    unfold Mod.cableWatch Mod.when
    split <;> exact ⟨rfl, rfl, rfl⟩
  obtain ⟨od, helm, goes⟩ := watch
  refine ⟨od.trans (congrArg Course.od course), by rw [helm, good.2], fun none_ => ?_⟩
  have to_ : y.reg.bridgeTo = none := (congrArg Course.bridgeTo course).trans none_
  rw [goes, to_, ← course]
  change { y.course with bridgeTo := none } = y.course
  rw [← to_]
  rfl

/-- R88, R89: V_set moves at SYS_SLEW toward its goal while its stage runs on a live bus. -/
theorem Mod.moveVset_vset {m : Mod} {g : Nat} (regs : m.regStage = some g) (runs : m.running g = true) (live : m.deadRamp g = false)
    (none_ : m.reg.bridgeTo = none) : m.moveVset.reg.vset =
      grid (if m.reg.goal < m.reg.vset - m.cq E.SYS_SLEW 0 * loopMs then m.reg.vset - m.cq E.SYS_SLEW 0 * loopMs
        else if m.reg.vset + m.cq E.SYS_SLEW 0 * loopMs < m.reg.goal then m.reg.vset + m.cq E.SYS_SLEW 0 * loopMs else m.reg.goal) := by
  have goal : m.vsetEnd = m.reg.goal := by
    unfold Mod.vsetEnd
    rw [none_]
    rfl
  unfold Mod.moveVset
  rw [regs]
  dsimp only
  rw [if_neg (by rw [runs]; decide), live, goal]
  rfl

/-- What decides that V_set moves is the same in two modules on one course. -/
theorem Mod.regStage_of_course {a b : Mod} (h : a.course = b.course) (g : Nat) : a.regStage = b.regStage ∧ a.running g = b.running g ∧
    a.deadRamp g = b.deadRamp g ∧ a.reg.goal = b.reg.goal ∧ a.reg.vset = b.reg.vset ∧ a.reg.bridgeTo = b.reg.bridgeTo ∧
    a.cq E.SYS_SLEW 0 = b.cq E.SYS_SLEW 0 := by
  have od : a.od = b.od := congrArg Course.od h
  have stg : a.stg = b.stg := congrArg Course.stg h
  have ctl : a.ctl = b.ctl := congrArg Course.ctl h
  have hand : a.reg.hand = b.reg.hand := congrArg Course.hand h
  have n : ∀ f i, a.n f i = b.n f i := fun f i => by unfold Mod.n Mod.getV; rw [od]
  have own : a.stgOf g = b.stgOf g := by unfold Mod.stgOf; rw [stg]
  refine ⟨?_, ?_, ?_, congrArg Course.goal h, congrArg Course.vset h, congrArg Course.bridgeTo h, ?_⟩
  · unfold Mod.regStage
    rw [n, hand]
  · unfold Mod.running Mod.gated
    rw [n, own]
  · unfold Mod.deadRamp
    rw [n, own]
  · unfold Mod.cq Mod.cn Mod.ctlV
    rw [ctl]

theorem Mod.moveVset_keeps (m : Mod) : m.moveVset.od = m.od ∧ m.moveVset.helm = { m.helm with vset := m.moveVset.reg.vset } := by
  have still : m.helm = { m.helm with vset := m.reg.vset } := rfl
  unfold Mod.moveVset
  split
  · exact ⟨rfl, still⟩
  · split
    · exact ⟨rfl, still⟩
    · exact ⟨rfl, rfl⟩

/-! ## Limits, intents, the load line -/

theorem Steers.moveLim (m : Mod) (g : Nat) : Steers [] m (m.moveLim g) := by
  unfold Mod.moveLim
  dsimp only
  split
  · exact ⟨fun _ _ => rfl, rfl⟩
  · split
    · exact ⟨fun _ _ => rfl, rfl⟩
    · exact .refl _ m

theorem Mod.intentShow_helm (m : Mod) : m.intentShow.helm = { m.helm with intents := m.intentShow.intents } := rfl

theorem Mod.intentShow_none {m : Mod} (h : m.intents = []) : m.intentShow.intents = [] := by
  have shown := fun i => (Mod.mem_intentShow (m := m) (i := i)).2
  exact List.eq_nil_iff_forall_not_mem.2 fun i hi => by
    have listed := shown i hi
    rw [h] at listed
    exact absurd listed (by simp)

/-- What the detection of intents changes beside what it shows. -/
theorem Mod.intentDetect_cases (m : Mod) (i : Rat) : m.intentDetect i = m ∨ ∃ (f : Rat) (l : List Intent),
    m.intentDetect i = ({ m with reg := { m.reg with ffwd := f }, intents := l } : Mod).inc E.INT_HIT 0 := by
  unfold Mod.intentDetect
  dsimp only
  split
  · exact .inl rfl
  · exact .inr ⟨_, _, rfl⟩

theorem Mod.intentDetect_none {m : Mod} (i : Rat) (h : m.intents = []) : m.intentDetect i = m := by
  unfold Mod.intentDetect
  rw [h]
  rfl

theorem Mod.intentDetect_does (m : Mod) (i : Rat) : OnlyFams loopFams m (m.intentDetect i) ∧
    ∃ (f : Rat) (l : List Intent), (m.intentDetect i).helm = { m.helm with ffwd := f, intents := l } := by
  rcases m.intentDetect_cases i with e | ⟨f, l, e⟩
  · rw [e]
    exact ⟨.refl _ m, m.reg.ffwd, m.intents, rfl⟩
  · rw [e]
    exact ⟨OnlyFams.trans (b := { m with reg := { m.reg with ffwd := f }, intents := l }) (fun _ _ => rfl) (.setV (f := E.INT_HIT) _ 0 _ (by simp [loopFams])),
      f, l, rfl⟩

/-- R158: limits, and intents. -/
def Mod.loopIntents (m : Mod) (i : Rat) : Mod := ((((m.moveLim 0).moveLim 1).intentShow).intentDetect i).intentShow

theorem Mod.loopIntents_does (m : Mod) (i : Rat) : OnlyFams loopFams m (m.loopIntents i) ∧
    (∃ (f : Rat) (l : List Intent), (m.loopIntents i).helm = { m.helm with ffwd := f, intents := l }) ∧
    (m.intents = [] → (m.loopIntents i).helm = { m.helm with intents := [] }) := by
  have lims := (Steers.moveLim m 0).trans (.moveLim _ 1)
  unfold Mod.loopIntents
  generalize (m.moveLim 0).moveLim 1 = y at *
  have showFams : [E.INT_PENDING, E.INT_NEXT_T, E.INT_PB_V] ⊆ loopFams := by simp [loopFams]
  have first := OnlyFams.intentShow y showFams
  have helm := y.intentShow_helm
  have empty := fun h => Mod.intentShow_none (m := y) h
  generalize y.intentShow = z at *
  obtain ⟨seen, f, l, found⟩ := z.intentDetect_does i
  have unseen := fun h => Mod.intentDetect_none (m := z) i h
  generalize z.intentDetect i = w at *
  have second := OnlyFams.intentShow w showFams
  have last := w.intentShow_helm
  have none_ := fun h => Mod.intentShow_none (m := w) h
  generalize w.intentShow = u at *
  refine ⟨(((lims.1.mono (List.nil_subset _)).trans first).trans seen).trans second, ⟨f, u.intents, ?_⟩, fun h => ?_⟩
  · rw [last, found, helm, lims.2]
  · have idle : y.intents = [] := (congrArg Helm.intents lims.2).trans h
    have calm : z.intents = [] := empty idle
    have same := unseen calm
    rw [last, none_ (same ▸ calm), same, helm, lims.2]

/-- R175: the filtered SYS current. -/
def Mod.nextIF (m : Mod) (i : Rat) : Rat :=
  grid (m.reg.iF + (i - m.reg.iF) * (if m.cq E.LL_TAU 0 ≤ dec 625 2 then 1 else dec 625 2 / m.cq E.LL_TAU 0))

/-- R175: the droop term at a filtered current, with its bound. -/
def Mod.droopAt (m : Mod) (iF : Rat) : Rat :=
  if m.n E.BRIDGE_STATE 0 = 2 then 0 else clampR (-(m.cq E.LL_MAXDEV 0 / 100 * m.cq E.SYS_VSET 0))
    (m.cq E.LL_MAXDEV 0 / 100 * m.cq E.SYS_VSET 0) (m.cq E.LL_R 0 / 1000 * iF)

theorem Mod.loadLine_does (m : Mod) (i : Rat) : OnlyFams [E.LL_DROOP_V, E.V_REF] m (m.loadLine i) ∧
    (m.loadLine i).helm = { m.helm with iF := m.nextIF i } ∧
    (m.loadLine i).n E.V_REF 0 = f32OfRat (clampR 0 1015 (m.reg.vset + m.trimNow + m.q E.INT_PB_V 0 - m.droopAt (m.nextIF i))) :=
  ⟨(OnlyFams.trans (b := { m with reg := { m.reg with iF := m.nextIF i } }) (fun _ _ => rfl) (.setV (f := E.LL_DROOP_V) _ 0 _ (by simp))).set
    (f := E.V_REF) (by simp), rfl, Mod.n_setN_same _ _ (by decide)⟩

/-- R257, R258: a step of the first responder, or of a member that follows, begins. -/
def Mod.frBegun (m : Mod) (err : Rat) (regs : Bool) : Mod :=
  if m.n E.SHARE_ROLE 0 == 1 && m.cb E.FR_EN 0 && regs && m.reg.frAt.isNone && decide (m.cq E.FR_DET 0 * (m.cq E.SYS_VSET 0 / 100) < err) then
    let lead := m.b E.FR_SELF 0
    let m : Mod := { m with reg := { m.reg with frAt := some m.tb, frLead := lead } }
    (m.when lead (·.inc E.FR_HEADS 0)).arm .fr (m.tb + ticksUs (m.cq E.FR_T 0))
  else m

/-- R258: a step's limit ends, or the step is over. -/
def Mod.frEnded (m : Mod) (base err : Rat) : Mod :=
  let free := decide (m.cq E.FR_REL 0 * base < err) || m.intentPending 0 || m.intentPending 1 || decide (m.reg.ffwd ≠ 0) ||
    m.net.eligible == [m.n E.SHARE_IDX 0]
  if m.reg.frAt.isSome && !m.reg.frLead && free then m.disarm .fr
  else if m.reg.frAt.isSome && !m.armed .fr && decide (err ≤ m.cq E.FR_DET 0 * base) then
    { m with reg := { m.reg with frAt := none, frLead := false } }
  else m

theorem Mod.frDetect_eq (m : Mod) (v : Rat) : m.frDetect v = (m.frBegun (absR (m.q E.V_REF 0 - v)) (match m.regStage with
    | some g => m.running g
    | none => false)).frEnded (m.cq E.SYS_VSET 0 / 100) (absR (m.q E.V_REF 0 - v)) := rfl

theorem Steers.frDetect (m : Mod) (v : Rat) : Steers [E.FR_HEADS] m (m.frDetect v) := by
  have begins : ∀ (x : Mod) (lead : Bool) (d : Nat), Steers [E.FR_HEADS] x ((x.when lead (·.inc E.FR_HEADS 0)).arm .fr d) := fun x lead d =>
    Steers.trans (.when x lead (.setV (f := E.FR_HEADS) x 0 _ (by simp))) ⟨fun _ _ => rfl, rfl⟩
  have reg : ∀ (x : Mod) (a : Option Nat) (l : Bool), Steers [E.FR_HEADS] x { x with reg := { x.reg with frAt := a, frLead := l } } := fun _ _ _ =>
    ⟨fun _ _ => rfl, rfl⟩
  have first : ∀ (err : Rat) (regs : Bool), Steers [E.FR_HEADS] m (m.frBegun err regs) := fun err regs => by
    unfold Mod.frBegun
    split
    · exact (reg m _ _).trans (begins _ _ _)
    · exact .refl _ m
  have last : ∀ (x : Mod) (base err : Rat), Steers [E.FR_HEADS] x (x.frEnded base err) := fun x base err => by
    unfold Mod.frEnded
    dsimp only
    split
    · exact ⟨fun _ _ => rfl, rfl⟩
    · split
      · exact reg x _ _
      · exact .refl _ x
  rw [Mod.frDetect_eq]
  exact (first _ _).trans (last _ _ _)

/-! ## The stages' periods -/

/-- R130, R157: what an input and its group take. -/
def Mod.inputTake (r : List (Nat × Rat)) (ratio : Nat → Rat) (k : Nat) (m : Mod) : Mod :=
  (m.modInp k (fun y => { y with take := takeOf r k })).modGrp k (fun y => { y with iref := takeOf r k * ratio k })

/-- R133: Stage A's demand, with what its inputs take of it. -/
def Mod.loopPut (m : Mod) (r : List (Nat × Rat) × Rat) (ratio : Nat → Rat) (d s : Rat) : Mod :=
  let m := m.each 4 (Mod.inputTake r.1 ratio)
  { m with reg := { m.reg with demandA := d, unmet := r.2, sysDemand := s } }

theorem Mod.loopPut_does (m : Mod) (r : List (Nat × Rat) × Rat) (ratio : Nat → Rat) (d s : Rat) : OnlyFams [] m (m.loopPut r ratio d s) ∧
    (m.loopPut r ratio d s).helm = { m.helm with demandA := d } := by
  have took : Steers [] m (m.each 4 (Mod.inputTake r.1 ratio)) := .each (f := Mod.inputTake r.1 ratio) (fun _ _ => ⟨fun _ _ => rfl, rfl⟩) 4 m
  unfold Mod.loopPut
  generalize m.each 4 (Mod.inputTake r.1 ratio) = y at took
  refine ⟨took.1.of_od rfl, ?_⟩
  rw [← took.2]
  rfl

/-- R105, R133: the demand of Stage A. -/
def Mod.demandNow (m : Mod) (x : VLoopIn) (vSys vb : Rat) : Rat :=
  if m.n E.BRIDGE_STATE 0 == 2 then m.inAmps (fun k => (x.vIn[k]?).getD 0) vSys (m.bridgedAmps x vb vSys)
  else x.demandA + (if m.regStage == some 0 then m.inAmps (fun k => (x.vIn[k]?).getD 0) vSys (m.reg.ffwd + m.cableAdd 1) else 0)

theorem Mod.loopA_eq (m : Mod) (x : VLoopIn) (vSys vb : Rat) : ∃ (r : List (Nat × Rat) × Rat) (s : Rat), m.loopA x vSys vb =
    m.loopPut r (fun k => if vSys ≤ 0 then 1 else maxR 1 ((x.vIn[k]?).getD 0 / vSys)) (m.demandNow x vSys vb) s := by
  unfold Mod.loopA
  rcases m.boundsA vSys with ⟨fwd, rev⟩
  exact ⟨_, _, rfl⟩

theorem Mod.inAmps_zero (m : Mod) (v : Nat → Rat) (vSys : Rat) : m.inAmps v vSys 0 = 0 := by
  unfold Mod.inAmps
  dsimp only
  split
  · rfl
  · rw [zero_mul, zero_div]

theorem Mod.demandNow_own {m : Mod} (x : VLoopIn) (vSys vb : Rat) (out : m.n E.BRIDGE_STATE 0 ≠ 2) (calm : m.reg.ffwd = 0) (idle : m.cable.run = 0) :
    m.demandNow x vSys vb = x.demandA := by
  have step : m.cableAdd 1 = 0 := by
    unfold Mod.cableAdd
    rw [if_neg (fun h => by rw [idle] at h; exact absurd h.1 (by decide))]
  unfold Mod.demandNow
  rw [if_neg (by simpa using out), calm, step, add_zero, m.inAmps_zero, ite_self, add_zero]

theorem Steers.scanDisturb (m : Mod) : Steers [] m m.scanDisturb := by
  unfold Mod.scanDisturb
  split
  · exact ⟨fun _ _ => rfl, rfl⟩
  · exact .refl _ m

/-- R102: Stage B's demand, and what a step asks beyond its limits. -/
def Mod.loopBBegun (m : Mod) (x : VLoopIn) : Mod :=
  { m with reg := { m.reg with excess := if m.pathB = 3 then maxR 0 x.excess else 0, demandB := x.demandB } }

theorem Steers.loopB (m : Mod) (x : VLoopIn) (vSys vb : Rat) : Steers [E.CHG_IREF] (m.loopBBegun x) (m.loopB x vSys vb) := by
  have refs : ∀ (y : Mod) (j r : Rat), Steers [E.CHG_IREF] y ((y.setQ E.CHG_IREF 0 (clampR (-200) 200 j)).modGrp 4 (fun z => { z with iref := r })) :=
    fun y j r => Steers.trans (.setV (f := E.CHG_IREF) y 0 _ (by simp)) ⟨fun _ _ => rfl, rfl⟩
  have sums : ∀ (y : Mod) (d t : Rat), Steers [E.CHG_IREF] y { y with reg := { y.reg with sysDemand := d, sysTot := t } } := fun _ _ _ => ⟨fun _ _ => rfl, rfl⟩
  have total : ∀ (y : Mod) (t : Rat), Steers [E.CHG_IREF] y { y with reg := { y.reg with sysTot := t } } := fun _ _ => ⟨fun _ _ => rfl, rfl⟩
  have disturbed : ∀ (y : Mod) (c : Bool), Steers [E.CHG_IREF] y (y.when c Mod.scanDisturb) := fun y c => .when y c ((Steers.scanDisturb y).mono (List.nil_subset _))
  unfold Mod.loopB
  extract_lets path island _ m0 m1 bnd lim pTop top0 top left lo own i out_ slewed j ratio m2 _
  have before : Steers [E.CHG_IREF] (m.loopBBegun x) m2 := (disturbed m0 _).trans (refs m1 j (j * ratio))
  split
  · exact before.trans (sums m2 _ _)
  · exact before.trans (total m2 _)

theorem Steers.chopper (m : Mod) (x : VLoopIn) (vSys : Rat) : Steers [] m (m.chopper x vSys) := by
  have off : ∀ y : Mod, Steers [] y (y.modProt 6 (fun z => { z with zeroFrom := some y.tb })) := fun _ => ⟨fun _ _ => rfl, rfl⟩
  have reg : ∀ (y : Mod) (p d : Rat), Steers [] y { y with reg := { y.reg with brkP := p, brkDuty := d } } := fun _ _ _ => ⟨fun _ _ => rfl, rfl⟩
  have bleeds : ∀ (y : Mod) (b : Bool), Steers [] y { y with safe := { y.safe with bleeder := b } } := fun _ _ => ⟨fun _ _ => rfl, rfl⟩
  exact ((bleeds m _).trans (.when _ _ (off _))).trans (reg _ _ _)

theorem Steers.showFoldback (m : Mod) (v : Rat) : Steers [E.FB_ACTIVE] m (m.showFoldback v) := by
  have shown : ∀ (y : Mod) (g : Nat) (b : Bool), Steers [E.FB_ACTIVE] y (y.setB E.FB_ACTIVE g b) := fun y g _ => .setV (f := E.FB_ACTIVE) y g _ (by simp)
  unfold Mod.showFoldback
  split
  · exact .refl _ m
  · dsimp only
    split
    · exact (shown m _ _).trans (shown _ 1 _)
    · exact shown m _ _

theorem Steers.keepPath (m : Mod) : Steers [] m m.keepPath := by
  have kept : ∀ (y : Mod) (g r : Nat), Steers [] y (y.modStg g (fun z => { z with runPath := r })) := fun _ _ _ => ⟨fun _ _ => rfl, rfl⟩
  exact .each (fun g y => .when y _ (kept y g _)) 2 m

theorem Steers.stepRecord (a b v : Rat) (m : Mod) : Steers [] m (Mod.stepRecord a b v m) := by
  have noted : ∀ x : Meas, Steers [] m { m with meas := x } := fun _ => ⟨fun _ _ => rfl, rfl⟩
  unfold Mod.stepRecord
  extract_lets
  split
  · exact noted _
  · exact noted _

/-! ## A period of the voltage loops (R158) -/

/-- R158: the load line, and the detection of a step. -/
def Mod.loopLine (m : Mod) (x : VLoopIn) (v : Rat) : Mod :=
  let m := (m.loadLine x.iSys).frDetect v
  m.setN E.REGEN_RANK 0 (m.rankAt v)

/-- R158, R317: the end of a period. -/
def Mod.loopEnd (m : Mod) (x : VLoopIn) (v : Rat) : Mod :=
  let regs := match m.regStage with
    | some g => m.running g
    | none => false
  let m := m.when regs (Mod.stepRecord (m.q E.V_REF 0) (m.finalRef x.iSys) v)
  { m with reg := { m.reg with iPrev := x.iSys } }

/-- R158: what follows both stages' periods. -/
def Mod.loopRest (m : Mod) (x : VLoopIn) (v : Rat) : Mod := (((m.chopper x v).showFoldback v).keepPath).loopEnd x v

theorem Mod.voltageLoop_eq (m : Mod) (x : VLoopIn) : ∃ v vb : Rat, m.voltageLoop x =
    ((((((m.loopTaken x v vb).moveVset).loopIntents x.iSys).loopLine x v).loopA x v vb).loopB x v vb).loopRest x v := by
  refine ⟨m.senseFrom 0 x.vSense x.vLocal x.iSys, m.senseFrom 1 x.vSnsBat x.vBat x.iBat, ?_⟩
  unfold Mod.voltageLoop
  extract_lets v vb m1 m2 m3 m4 m5 m6 m7 regs m8
  have moved : m2 = (m.loopTaken x v vb).moveVset := rfl
  have seen : m4 = m2.loopIntents x.iSys := rfl
  have line : m6 = m4.loopLine x v := rfl
  change _ = ((((((m.loopTaken x v vb).moveVset).loopIntents x.iSys).loopLine x v).loopA x v vb).loopB x v vb).loopRest x v
  rw [← moved, ← seen, ← line]
  change _ = m7.loopEnd x v
  clear_value m7
  rfl

/-- What the load line and the detection of a step touch. -/
def lineFams : List Fam := [E.LL_DROOP_V, E.V_REF, E.FR_HEADS, E.REGEN_RANK]

theorem Mod.loopLine_does (m : Mod) (x : VLoopIn) (v : Rat) : OnlyFams lineFams m (m.loopLine x v) ∧
    (m.loopLine x v).helm = { m.helm with iF := m.nextIF x.iSys } ∧
    (m.loopLine x v).n E.V_REF 0 = f32OfRat (clampR 0 1015 (m.reg.vset + m.trimNow + m.q E.INT_PB_V 0 - m.droopAt (m.nextIF x.iSys))) := by
  obtain ⟨line, helm, ref⟩ := m.loadLine_does x.iSys
  unfold Mod.loopLine
  dsimp only
  generalize m.loadLine x.iSys = y at *
  obtain ⟨detects, same⟩ := Steers.frDetect y v
  generalize y.frDetect v = z at *
  refine ⟨((line.mono (by simp [lineFams])).trans (detects.mono (by simp [lineFams]))).set (f := E.REGEN_RANK) (by simp [lineFams]), same.trans helm, ?_⟩
  rw [Mod.n_setN_ne _ _ (by decide), detects.n E.V_REF 0 (by decide +kernel), ref]

theorem Mod.loopRest_does (m : Mod) (x : VLoopIn) (v : Rat) : OnlyFams [E.FB_ACTIVE] m (m.loopRest x v) ∧ (m.loopRest x v).helm = m.helm ∧
    (m.loopRest x v).n E.V_REF 0 = m.n E.V_REF 0 ∧ (m.loopRest x v).reg.iPrev = x.iSys := by
  have shown : Steers [E.FB_ACTIVE] m (((m.chopper x v).showFoldback v).keepPath) := (((Steers.chopper m x v).mono (List.nil_subset _)).trans
    (.showFoldback _ v)).trans ((Steers.keepPath _).mono (List.nil_subset _))
  unfold Mod.loopRest
  generalize ((m.chopper x v).showFoldback v).keepPath = y at *
  unfold Mod.loopEnd
  extract_lets regs z _
  have noted : Steers [E.FB_ACTIVE] y z := .when y regs ((Steers.stepRecord (y.q E.V_REF 0) (y.finalRef x.iSys) v y).mono (List.nil_subset _))
  obtain ⟨only, helm⟩ := shown.trans noted
  clear_value z
  exact ⟨only.of_od rfl, helm, only.n E.V_REF 0 (by decide +kernel), rfl⟩

/-- Entries that the loops read and do not touch. -/
theorem loopFams_apart : ∀ f ∈ [E.BRIDGE_STATE, E.SHARE_ROLE, E.LL_TRIM], f.key 0 ∉ loopFams.flatMap Fam.keys := by decide +kernel

/-- What both stages' periods make of what regulates SYS. -/
theorem Mod.loopsAB_does (m : Mod) (x : VLoopIn) (v vb : Rat) : OnlyFams [E.CHG_IREF] m ((m.loopA x v vb).loopB x v vb) ∧
    ((m.loopA x v vb).loopB x v vb).helm = { m.helm with demandA := m.demandNow x v vb, demandB := x.demandB } := by
  obtain ⟨r, s, e⟩ := m.loopA_eq x v vb
  rw [e]
  obtain ⟨took, helm⟩ := m.loopPut_does r (fun k => if v ≤ 0 then 1 else maxR 1 ((x.vIn[k]?).getD 0 / v)) (m.demandNow x v vb) s
  generalize m.loopPut r _ _ _ = y at *
  have begun : OnlyFams [E.CHG_IREF] y (y.loopBBegun x) ∧ (y.loopBBegun x).helm = { y.helm with demandB := x.demandB } := ⟨fun _ _ => rfl, rfl⟩
  obtain ⟨only, same⟩ := Steers.loopB y x v vb
  exact ⟨((took.mono (List.nil_subset _)).trans begun.1).trans only, same.trans (by rw [begun.2, helm])⟩

/-- R158: a period touches the loops' entries alone. -/
theorem Mod.voltageLoop_only (m : Mod) (x : VLoopIn) : OnlyFams loopFams m (m.voltageLoop x) := by
  obtain ⟨v, vb, e⟩ := m.voltageLoop_eq x
  rw [e]
  have taken := (m.loopTaken_does x v vb).1
  generalize m.loopTaken x v vb = a at *
  have moved := a.moveVset_keeps.1
  generalize a.moveVset = b at *
  have intents := (b.loopIntents_does x.iSys).1
  generalize b.loopIntents x.iSys = c at *
  have line := (c.loopLine_does x v).1
  generalize c.loopLine x v = d at *
  have stages := (d.loopsAB_does x v vb).1
  generalize (d.loopA x v vb).loopB x v vb = f at *
  have rest := (f.loopRest_does x v).1
  exact ((((OnlyFams.of_od (.refl _ m) (moved.trans taken)).trans intents).trans (line.mono (by simp [lineFams, loopFams]))).trans
    (stages.mono (by simp [loopFams]))).trans (rest.mono (by simp [loopFams]))

/-- R88: where V_set stands after a period. -/
theorem Mod.voltageLoop_vset {m : Mod} (x : VLoopIn) {g : Nat} (regs : m.regStage = some g) (runs : m.running g = true) (live : m.deadRamp g = false)
    (none_ : m.reg.bridgeTo = none) : (m.voltageLoop x).reg.vset =
      grid (if m.reg.goal < m.reg.vset - m.cq E.SYS_SLEW 0 * loopMs then m.reg.vset - m.cq E.SYS_SLEW 0 * loopMs
        else if m.reg.vset + m.cq E.SYS_SLEW 0 * loopMs < m.reg.goal then m.reg.vset + m.cq E.SYS_SLEW 0 * loopMs else m.reg.goal) := by
  obtain ⟨v, vb, e⟩ := m.voltageLoop_eq x
  rw [e]
  have course := (m.loopTaken_does x v vb).2.2 none_
  generalize m.loopTaken x v vb = a at *
  obtain ⟨regs', runs', live', goal, vset, none', slew⟩ := Mod.regStage_of_course course g
  have moved := Mod.moveVset_vset (m := a) (regs'.trans regs) (runs'.trans runs) (live'.trans live) (none'.trans none_)
  rw [goal, vset, slew] at moved
  generalize a.moveVset = b at *
  obtain ⟨-, ⟨f, l, intents⟩, -⟩ := b.loopIntents_does x.iSys
  generalize b.loopIntents x.iSys = c at *
  have line := (c.loopLine_does x v).2.1
  generalize c.loopLine x v = d at *
  have stages := (d.loopsAB_does x v vb).2
  generalize (d.loopA x v vb).loopB x v vb = y at *
  have rest := (y.loopRest_does x v).2.1
  generalize y.loopRest x v = z at *
  refine Eq.trans ?_ moved
  rw [stages, line, intents] at rest
  exact congrArg Helm.vset rest

/-- R133, R158, R175: what a period makes of the demands, the filtered current and V_ref. -/
theorem Mod.voltageLoop_does (m : Mod) (x : VLoopIn) :
    (m.n E.BRIDGE_STATE 0 ≠ 2 → m.cable.run = 0 → m.intents = [] → (m.voltageLoop x).reg.demandA = x.demandA) ∧
    (m.voltageLoop x).reg.demandB = x.demandB ∧ (m.voltageLoop x).reg.iPrev = x.iSys ∧ (m.voltageLoop x).reg.iF = m.nextIF x.iSys ∧
    (m.voltageLoop x).n E.V_REF 0 = f32OfRat (clampR 0 1015 ((m.voltageLoop x).reg.vset + m.trimNow + (m.voltageLoop x).q E.INT_PB_V 0 -
      m.droopAt (m.voltageLoop x).reg.iF)) := by
  have whole := m.voltageLoop_only x
  obtain ⟨v, vb, e⟩ := m.voltageLoop_eq x
  rw [e] at whole ⊢
  clear e
  obtain ⟨taken, helm, -⟩ := m.loopTaken_does x v vb
  generalize m.loopTaken x v vb = a at *
  obtain ⟨moved, helmB⟩ := a.moveVset_keeps
  generalize a.moveVset = b at *
  have same : b.od = m.od := moved.trans taken
  obtain ⟨intents, ⟨f, l, helmC⟩, calm⟩ := b.loopIntents_does x.iSys
  generalize b.loopIntents x.iSys = c at *
  have before : OnlyFams loopFams m c := (OnlyFams.of_od (.refl _ m) same).trans intents
  obtain ⟨line, helmD, ref⟩ := c.loopLine_does x v
  generalize c.loopLine x v = d at *
  obtain ⟨stages, helmE⟩ := d.loopsAB_does x v vb
  have pre := stages.n E.INT_PB_V 0 (by decide +kernel)
  have refE := stages.n E.V_REF 0 (by decide +kernel)
  have demand := Mod.demandNow_own (m := d) x v vb
  generalize (d.loopA x v vb).loopB x v vb = y at *
  obtain ⟨rest, helmF, refF, prev⟩ := y.loopRest_does x v
  generalize y.loopRest x v = z at *
  have at0 : ∀ f ∈ [E.BRIDGE_STATE, E.SHARE_ROLE, E.LL_TRIM], c.n f 0 = m.n f 0 := fun f hf => before.n f 0 (loopFams_apart f hf)
  have atC : c.helm = { m.helm with vset := b.reg.vset, ffwd := f, intents := l } := by rw [helmC, helmB, helm]
  have ctl : c.ctl = m.ctl := congrArg Helm.ctl atC
  have cq : ∀ f, c.cq f 0 = m.cq f 0 := fun f => by unfold Mod.cq Mod.cn Mod.ctlV; rw [ctl]
  have next : c.nextIF x.iSys = m.nextIF x.iSys := by
    unfold Mod.nextIF
    rw [show c.reg.iF = m.reg.iF from congrArg Helm.iF atC, cq]
  have trim : c.trimNow = m.trimNow := by
    unfold Mod.trimNow Mod.q
    rw [at0 E.SHARE_ROLE (by simp), at0 E.LL_TRIM (by simp)]
  have droop : ∀ i, c.droopAt i = m.droopAt i := fun i => by
    unfold Mod.droopAt
    rw [at0 E.BRIDGE_STATE (by simp), cq, cq, cq]
  have atD : d.helm = { m.helm with vset := b.reg.vset, ffwd := f, intents := l, iF := m.nextIF x.iSys } := by rw [helmD, atC, next]
  have atZ : z.helm = { m.helm with vset := b.reg.vset, ffwd := f, intents := l, iF := m.nextIF x.iSys, demandA := d.demandNow x v vb, demandB := x.demandB } := by
    rw [helmF, helmE, atD]
  have vset : z.reg.vset = b.reg.vset := congrArg Helm.vset atZ
  have iF : z.reg.iF = m.nextIF x.iSys := congrArg Helm.iF atZ
  have vsetC : c.reg.vset = b.reg.vset := congrArg Helm.vset atC
  have bias : z.q E.INT_PB_V 0 = c.q E.INT_PB_V 0 := by
    unfold Mod.q
    rw [rest.n E.INT_PB_V 0 (by decide +kernel), pre, line.n E.INT_PB_V 0 (by decide +kernel)]
  refine ⟨fun out idle none_ => ?_, congrArg Helm.demandB atZ, prev, iF, ?_⟩
  · have bridge : d.n E.BRIDGE_STATE 0 ≠ 2 := by
      rw [line.n E.BRIDGE_STATE 0 (by decide +kernel), at0 E.BRIDGE_STATE (by simp)]
      exact out
    have fresh : b.intents = [] := (congrArg Helm.intents (helmB.trans (by rw [helm]))).trans none_
    have still : c.helm = { m.helm with vset := b.reg.vset, ffwd := 0, intents := [] } := by rw [calm fresh, helmB, helm]
    have atD' : d.helm = { m.helm with vset := b.reg.vset, ffwd := 0, intents := [], iF := c.nextIF x.iSys } := by rw [helmD, still]
    have ffwd : d.reg.ffwd = 0 := congrArg Helm.ffwd atD'
    have run : d.cable.run = 0 := (congrArg Helm.run atD').trans idle
    exact (congrArg Helm.demandA atZ).trans (demand bridge ffwd run)
  · rw [refF, refE, ref, vset, iF, bias, trim, droop, next, vsetC]

end Sys2Proof.Machine
end

section
/-! PROOF. The switching period and the peak comparator (R151, R155, R157, R164, R168, R169). -/

set_option Elab.async false

namespace Sys2Proof.Machine

open Sys2Proof

/-! ## What the carriers and the comparators keep -/

/-- Where the carriers of each stage stand, and what holds its gates off. -/
def Mod.carriers (m : Mod) : Nat → Nat × Nat := fun g => ((m.stgOf g).origin, (m.stgOf g).gate)

/-- The phases whose comparator has acted in this period. -/
def Mod.peaks (m : Mod) : Nat → Bool := fun q => (m.phOf q).peakNow

theorem Mod.carriers_modStg (m : Mod) (g : Nat) (f : Stg → Stg) (hf : ∀ x, (f x).origin = x.origin ∧ (f x).gate = x.gate) :
    (m.modStg g f).carriers = m.carriers := by
  funext k
  by_cases h : k = g
  · have same : (m.modStg g f).stgOf k = f (m.stgOf k) := by rw [h]; exact getD_modAt_same _ m.stg g f
    unfold Mod.carriers
    rw [same, (hf _).1, (hf _).2]
  · have same : (m.modStg g f).stgOf k = m.stgOf k := getD_modAt_ne _ _ _ h
    unfold Mod.carriers
    rw [same]

theorem Mod.peaks_modPh (m : Mod) (p : Nat) (f : Ph → Ph) (hf : ∀ x, (f x).peakNow = x.peakNow) : (m.modPh p f).peaks = m.peaks := by
  funext k
  by_cases h : k = p
  · have same : (m.modPh p f).phOf k = f (m.phOf k) := by rw [h]; exact getD_modAt_same _ m.phs p f
    unfold Mod.peaks
    rw [same, hf]
  · have same : (m.modPh p f).phOf k = m.phOf k := getD_modAt_ne _ _ _ h
    unfold Mod.peaks
    rw [same]

/-- An operation that leaves the carriers and the comparators as they are. -/
def Paced (m m' : Mod) : Prop := m'.carriers = m.carriers ∧ m'.peaks = m.peaks

theorem Paced.refl (m : Mod) : Paced m m := ⟨rfl, rfl⟩

theorem Paced.trans {a b c : Mod} (h : Paced a b) (g : Paced b c) : Paced a c := ⟨g.1.trans h.1, g.2.trans h.2⟩

theorem Paced.modStg (m : Mod) (g : Nat) (f : Stg → Stg)
    (hf : ∀ x, (f x).origin = x.origin ∧ (f x).gate = x.gate := by exact fun _ => ⟨rfl, rfl⟩) : Paced m (m.modStg g f) :=
  ⟨m.carriers_modStg g f hf, rfl⟩

theorem Paced.modPh (m : Mod) (p : Nat) (f : Ph → Ph) (hf : ∀ x, (f x).peakNow = x.peakNow) : Paced m (m.modPh p f) := ⟨rfl, m.peaks_modPh p f hf⟩

theorem Paced.setV (m : Mod) (f : Fam) (i : Nat) (v : Val) : Paced m (m.setV f i v) := ⟨rfl, rfl⟩

theorem Paced.set {m x : Mod} (h : Paced m x) {f : Fam} {i : Nat} {v : Val} : Paced m (x.setV f i v) := h.trans (.setV x f i v)

theorem Paced.ph {m x : Mod} (h : Paced m x) {p : Nat} {f : Ph → Ph} (hf : ∀ y, (f y).peakNow = y.peakNow) : Paced m (x.modPh p f) :=
  h.trans (.modPh x p f hf)

theorem Paced.disarm {m x : Mod} (h : Paced m x) {T : Tmr} : Paced m (x.disarm T) := h

theorem Paced.at_stg {m x : Mod} (h : Paced m x) {g : Nat} {f : Stg → Stg} (hf : ∀ y, (f y).origin = y.origin ∧ (f y).gate = y.gate) :
    Paced m (x.modStg g f) := h.trans (.modStg x g f hf)

theorem Paced.when {m : Mod} (c : Bool) {f : Mod → Mod} (hf : Paced m (f m)) : Paced m (m.when c f) := by
  cases c
  · exact .refl m
  · exact hf

theorem Paced.foldl {β : Type} {f : Mod → β → Mod} (hf : ∀ m b, Paced m (f m b)) (l : List β) (m : Mod) : Paced m (l.foldl f m) := by
  induction l generalizing m with
  | nil => exact .refl m
  | cons b r ih => exact (hf m b).trans (ih _)

theorem Paced.each {f : Nat → Mod → Mod} (hf : ∀ k m, Paced m (f k m)) (n : Nat) (m : Mod) : Paced m (m.each n f) :=
  .foldl (fun x k => hf k x) _ m

/-! ## Slots, adding and shedding -/

theorem Paced.putSlots (m : Mod) (order : List Nat) : Paced m (m.putSlots order) :=
  .foldl (f := fun (m : Mod) (x : Nat × Nat) => m.setN E.PH_SLOT x.1 x.2) (fun x b => .setV x E.PH_SLOT b.1 _) _ m

theorem Paced.countPhases (m : Mod) : Paced m m.countPhases :=
  ((Paced.setV m E.STG_NACT 0 _).trans (.setV _ E.STG_NACT 1 _)).trans (.each (fun k x => .setV x E.IN_PHASES k _) 4 _)

theorem Paced.respace (m : Mod) (g : Nat) : Paced m (m.respace g) := by
  have slots := Paced.putSlots m (m.slotOrder g)
  unfold Mod.respace
  generalize m.putSlots (m.slotOrder g) = x at *
  have moved := x.carriers_modStg g (fun y => { y with respLeft := m.n E.STG_RESPACE g, rotLeft := 0 }) fun _ => ⟨rfl, rfl⟩
  exact (slots.trans ⟨moved, rfl⟩).trans (.countPhases _)

theorem Paced.joinGap (m : Mod) (g p : Nat) : Paced m (m.joinGap g p) := by
  unfold Mod.joinGap
  dsimp only
  split
  · exact ((Paced.refl m).set (f := E.PH_SLOT)).ph fun _ => rfl
  · refine Paced.trans ?_ (.putSlots _ _)
    exact (Paced.refl m).ph fun _ => rfl

theorem Paced.phaseBegun (m : Mod) (p : Nat) : Paced m (m.phaseBegun p) := by
  have joined := (Paced.setV m E.PH_STATE p (.num 3)).trans (.joinGap (m.setN E.PH_STATE p 3) (stageOf p) p)
  unfold Mod.phaseBegun
  change Paced m (((((((m.setN E.PH_STATE p 3).joinGap (stageOf p) p).inc E.PH_ADDS p).setQ E.PH_IREF p 0).disarm (.arming p)).disarm (.armHold p)).modPh p Ph.started)
  generalize (m.setN E.PH_STATE p 3).joinGap (stageOf p) p = x at *
  have shown : Paced m ((x.inc E.PH_ADDS p).setQ E.PH_IREF p 0) := (joined.set (f := E.PH_ADDS)).set (f := E.PH_IREF)
  generalize (x.inc E.PH_ADDS p).setQ E.PH_IREF p 0 = y at *
  exact shown.trans (Paced.trans (b := (y.disarm (.arming p)).disarm (.armHold p)) ⟨rfl, rfl⟩ (.modPh _ p _ fun _ => rfl))

theorem Paced.addPhase (m : Mod) (p : Nat) : Paced m (m.addPhase p) := by
  unfold Mod.addPhase
  split
  · exact (Paced.phaseBegun m p).trans (.respace _ _)
  · split
    · exact ⟨rfl, rfl⟩
    · exact .refl m

theorem Paced.addSequence (m : Mod) (k : Nat) (ps : List Nat) : Paced m (m.addSequence k ps) := by
  unfold Mod.addSequence
  split
  · exact .refl m
  · exact (Paced.foldl Paced.addPhase ps (m.modGrp k _)).trans (.modStg _ _ _ fun _ => ⟨rfl, rfl⟩)

theorem Paced.shareRef (m : Mod) (k : Nat) : Paced m (m.shareRef k) := .foldl (fun x p => .setV x E.PH_IREF p _) _ m

/-- R166: a phase whose shed is cancelled is ACTIVE again. -/
def Mod.shedBack (m : Mod) (k p : Nat) : Mod :=
  let m := m.modGrp k (fun x => { x with retapRetry := x.retapRetry || (m.phOf p).retap.isSome })
  let m := (m.setN E.PH_STATE p 4).modPh p (fun x => { x with step := 0, retap := none })
  (m.inc E.STG_SHED_CANCEL (stageOf p)).disarm (.shed k)

theorem Mod.shedCancel_eq (m : Mod) (k : Nat) : m.shedCancel k = (m.groupPhases k).foldl (fun m p =>
    if m.n E.PH_STATE p == 5 then (m.shedBack k p).countPhases.shareRef k else m) m := rfl

theorem Paced.shedBack (m : Mod) (k p : Nat) : Paced m (m.shedBack k p) :=
  ⟨rfl, (Mod.peaks_modPh (m.setN E.PH_STATE p 4) p (fun x => { x with step := 0, retap := none }) fun _ => rfl)⟩

theorem Paced.shedCancel (m : Mod) (k : Nat) : Paced m (m.shedCancel k) := by
  rw [Mod.shedCancel_eq]
  refine .foldl (fun x p => ?_) _ m
  split
  · exact ((Paced.shedBack x k p).trans (.countPhases _)).trans (.shareRef _ k)
  · exact .refl x

theorem Paced.scanDisturb (m : Mod) : Paced m m.scanDisturb := by
  unfold Mod.scanDisturb
  split <;> exact ⟨rfl, rfl⟩

/-- R164: an emergency add is an add sequence that STG_FASTADDS counts, or nothing. -/
theorem Mod.emergencyAdd_cases (m : Mod) (k : Nat) : m.emergencyAdd k = m ∨
    ∃ ps, m.emergencyAdd k = ((m.addSequence k ps).inc E.STG_FASTADDS (groupStage k)).when (k == 4) Mod.scanDisturb := by
  unfold Mod.emergencyAdd
  extract_lets a coming
  clear_value coming
  cases a with
  | nil => exact .inl rfl
  | cons p r =>
    dsimp only
    generalize List.take _ (m.addable k) = ps
    by_cases none_ : (ps.isEmpty || m.addsFrozen k || !m.running (groupStage k)) = true
    · exact .inl (if_pos none_)
    · exact .inr ⟨ps, if_neg none_⟩

theorem Mod.scanDisturb_od (m : Mod) : m.scanDisturb.od = m.od := by
  unfold Mod.scanDisturb
  split <;> rfl

/-- What an emergency add touches. -/
def fastFams : List Fam := E.STG_FASTADDS :: addFams

theorem Mod.emergencyAdd_does (m : Mod) (k : Nat) : OnlyFams fastFams m (m.emergencyAdd k) ∧ Paced m (m.emergencyAdd k) := by
  obtain same | ⟨ps, same⟩ := m.emergencyAdd_cases k
  · rw [same]
    exact ⟨.refl _ m, .refl m⟩
  · rw [same]
    have passed := (AtPhases.addSequence m k ps).1.mono (gs := fastFams) (List.subset_cons_self _ _)
    have paced := Paced.addSequence m k ps
    generalize m.addSequence k ps = x at *
    refine ⟨?_, (paced.trans (.setV x E.STG_FASTADDS _ _)).trans (.when _ (.scanDisturb _))⟩
    have counted := passed.set (f := E.STG_FASTADDS) (i := groupStage k) (v := .num (inc32 (x.n E.STG_FASTADDS (groupStage k)))) (by simp [fastFams])
    refine counted.of_od ?_
    cases k == 4
    · rfl
    · exact Mod.scanDisturb_od _

/-! ## Rotation and spacing -/

theorem Paced.rotationEvent (m : Mod) (g : Nat) : Paced m (m.rotationEvent g) := by
  unfold Mod.rotationEvent
  dsimp only
  split
  · exact .modStg m g _ fun _ => ⟨rfl, rfl⟩
  · split
    · exact .refl m
    · refine Paced.trans ?_ (.setV _ E.ROT_COUNT g _)
      split
      · refine Paced.trans (Paced.at_stg (Paced.at_stg (.refl m) ?_) ?_) (.foldl (fun x p => .setV x E.PH_SLOT p _) _ _)
        · exact fun _ => ⟨rfl, rfl⟩
        · exact fun _ => ⟨rfl, rfl⟩
      · exact .modStg m g _ fun _ => ⟨rfl, rfl⟩

/-- What a rotation touches. -/
def turnFams : List Fam := [E.PH_SLOT, E.ROT_COUNT]

/-- Nothing changes but entries of these families, and no carrier moves. -/
def Turns (fs : List Fam) (m m' : Mod) : Prop := OnlyFams fs m m' ∧ m'.carriers = m.carriers

theorem Turns.refl (fs : List Fam) (m : Mod) : Turns fs m m := ⟨.refl _ m, rfl⟩

theorem Turns.trans {fs : List Fam} {a b c : Mod} (h : Turns fs a b) (g : Turns fs b c) : Turns fs a c := ⟨h.1.trans g.1, g.2.trans h.2⟩

theorem Turns.mono {fs gs : List Fam} {a b : Mod} (h : Turns fs a b) (hs : fs ⊆ gs) : Turns gs a b := ⟨h.1.mono hs, h.2⟩

theorem Turns.of {fs : List Fam} {m m' : Mod} (h : OnlyFams fs m m') (p : Paced m m') : Turns fs m m' := ⟨h, p.1⟩

theorem Turns.foldl {fs : List Fam} {β : Type} {f : Mod → β → Mod} (hf : ∀ m b, Turns fs m (f m b)) (l : List β) (m : Mod) : Turns fs m (l.foldl f m) := by
  induction l generalizing m with
  | nil => exact .refl fs m
  | cons b r ih => exact (hf m b).trans (ih _)

theorem Turns.modStg (fs : List Fam) (m : Mod) (g : Nat) (f : Stg → Stg) (hf : ∀ x, (f x).origin = x.origin ∧ (f x).gate = x.gate := by exact fun _ => ⟨rfl, rfl⟩) :
    Turns fs m (m.modStg g f) := ⟨fun _ _ => rfl, m.carriers_modStg g f hf⟩

theorem Turns.modPh (fs : List Fam) (m : Mod) (p : Nat) (f : Ph → Ph) : Turns fs m (m.modPh p f) := ⟨fun _ _ => rfl, rfl⟩

theorem Turns.rotationEvent (m : Mod) (g : Nat) : Turns turnFams m (m.rotationEvent g) := .of (AtPhases.rotationEvent m g).1 (.rotationEvent m g)

theorem Turns.rotateOnce (m : Mod) (g : Nat) : Turns turnFams m (m.rotateOnce g) := by
  unfold Mod.rotateOnce
  split
  · exact .refl _ m
  · exact (Turns.rotationEvent m g).trans (.modStg _ _ g _)

theorem Turns.rotateWanted (m : Mod) (g : Nat) : Turns turnFams m (m.rotateWanted g) := by
  unfold Mod.rotateWanted
  split
  · exact (Turns.modStg _ m g _).trans (.rotateOnce _ g)
  · exact .refl _ m

theorem Turns.rotationResume (m : Mod) (g : Nat) : Turns turnFams m (m.rotationResume g) := by
  unfold Mod.rotationResume
  split
  · exact (Turns.modStg _ m g _).trans (.rotationEvent _ g)
  · exact .refl _ m

theorem Turns.rotationStep (m : Mod) (g left : Nat) : Turns turnFams m (m.rotationStep g left) := by
  unfold Mod.rotationStep
  dsimp only
  split
  · exact .foldl (fun x p => .modPh _ x p _) _ m
  · exact .foldl (fun x p => .modPh _ x p _) _ m

theorem Turns.spacing (m : Mod) (g : Nat) : Turns turnFams m (m.spacing g) := by
  unfold Mod.spacing
  dsimp only
  have moved : Turns turnFams m (if (m.stgOf g).respLeft != 0 then m.respaceStep g (m.stgOf g).respLeft
      else m.when ((m.stgOf g).rotLeft != 0) (·.rotationStep g (m.stgOf g).rotLeft)) := by
    split
    · exact .foldl (fun x p => .modPh _ x p _) _ m
    · cases (m.stgOf g).rotLeft != 0
      · exact .refl _ m
      · exact .rotationStep m g _
  exact (moved.trans (.modStg _ _ g _)).trans (.rotationResume _ g)

/-! ## The events of a period (R168) -/

/-- What the events of a period touch. -/
def eventFams : List Fam := fastFams ++ (cancelFams ++ turnFams)

theorem fast_event : fastFams ⊆ eventFams := List.subset_append_left _ _
theorem add_event : addFams ⊆ eventFams := List.Subset.trans (List.subset_cons_self _ _) fast_event
theorem cancel_event : cancelFams ⊆ eventFams := List.Subset.trans (List.subset_append_left _ _) (List.subset_append_right _ _)
theorem turn_event : turnFams ⊆ eventFams := List.Subset.trans (List.subset_append_right _ _) (List.subset_append_right _ _)

theorem Turns.addSequence (m : Mod) (k : Nat) (ps : List Nat) : Turns eventFams m (m.addSequence k ps) :=
  .of ((AtPhases.addSequence m k ps).1.mono add_event) (.addSequence m k ps)

theorem Turns.ordinaryStep (m : Mod) (k : Nat) : Turns eventFams m (m.ordinaryStep k) := by
  unfold Mod.ordinaryStep
  have lacking := Turns.addSequence m k (m.lacking k)
  generalize m.addSequence k (m.lacking k) = x at *
  dsimp only
  split
  · split
    · exact lacking.trans (.addSequence x k _)
    · exact lacking
  · exact lacking

theorem Turns.shedTimer (fs : List Fam) (m : Mod) (k : Nat) : Turns fs m (m.shedTimer k) := by
  unfold Mod.shedTimer
  split
  · exact ⟨fun _ _ => rfl, rfl⟩
  · split
    · exact .refl _ m
    · exact ⟨fun _ _ => rfl, rfl⟩

theorem Turns.stageEvents (m : Mod) (ks : List Nat) : Turns eventFams m (m.stageEvents ks) := by
  have cancels : ∀ (x : Mod) (k : Nat), Turns eventFams x (if x.cancelHolds k then x.shedCancel k else x) := fun x k => by
    split
    · exact .of ((AtPhases.shedCancel x k).1.mono cancel_event) (.shedCancel x k)
    · exact .refl _ x
  have emergencies : ∀ (x : Mod) (k : Nat), Turns eventFams x (if x.emergency k then x.emergencyAdd k else x) := fun x k => by
    split
    · obtain ⟨only, paced⟩ := x.emergencyAdd_does k
      exact .of (only.mono fast_event) paced
    · exact .refl _ x
  exact (((Turns.foldl cancels ks m).trans (.foldl emergencies ks _)).trans (.foldl Turns.ordinaryStep ks _)).trans (.foldl (Turns.shedTimer _) ks _)

theorem Turns.groupRefs (m : Mod) (k : Nat) : Turns eventFams m (m.groupRefs k) := by
  obtain ⟨only, yard⟩ := AtPhases.groupRefs m k
  refine ⟨only.mono (by simp [eventFams, fastFams, addFams]), ?_⟩
  unfold Mod.groupRefs
  dsimp only
  split
  · rfl
  · exact (Turns.foldl (fs := [E.PH_IREF]) (fun x p => .of (.setV (f := E.PH_IREF) x p _ (by simp)) (.setV x E.PH_IREF p _)) _ m).2

/-- R168: what a period does beyond its samples, but for the carriers. -/
def Mod.periodEvents (m : Mod) (g : Nat) : Mod :=
  ((stageGroups g).foldl Mod.groupRefs ((((stagePhases g).foldl (Mod.countPeriods g) m).stageEvents (stageGroups g)).rotateWanted g)).spacing g

theorem Turns.periodEvents (m : Mod) (g : Nat) : Turns eventFams m (m.periodEvents g) := by
  have counted : Turns eventFams m ((stagePhases g).foldl (Mod.countPeriods g) m) := .foldl (fun x p => .modPh _ x p _) _ m
  exact (((counted.trans (.stageEvents _ _)).trans ((Turns.rotateWanted _ g).mono turn_event)).trans
    (.foldl Turns.groupRefs _ _)).trans ((Turns.spacing _ g).mono turn_event)

/-! ## The samples of a period (R150, R157) -/

/-- R171: what a period boundary takes up of PH_EN touches. -/
theorem Turns.phaseEnRefresh (m : Mod) (p : Nat) : Turns (offFams ++ countFams) m (m.phaseEnRefresh p) := by
  unfold Mod.phaseEnRefresh
  split
  · exact .refl _ m
  · have off := (AtPhases.phaseOff m p 0).1.mono (gs := offFams ++ countFams) (List.subset_append_left _ _)
    have same : (m.phaseOff p 0).carriers = m.carriers := rfl
    generalize m.phaseOff p 0 = x at *
    have counted := (AtPhases.countPhases ((x.disarm (.armHold p)).disarm (.arming p))).1.mono (gs := offFams ++ countFams) (List.subset_append_right _ _)
    exact ⟨(off.trans (OnlyFams.of_od (.refl _ x) rfl)).trans counted, (Paced.countPhases _).1.trans same⟩

theorem Turns.periodTakes (m : Mod) (g : Nat) : Turns (offFams ++ countFams) m (m.periodTakes g) :=
  (Turns.foldl Turns.phaseEnRefresh _ m).trans (.modStg _ _ g _)

/-- A phase whose current is taken: it switches, or is bridged. -/
def carries (st : Nat) : Bool := st == 3 || st == 4 || st == 5 || st == 7

/-- R157: what a sample shows as PH_I of phase `j` of a stage in state `st`. -/
def sampled (x : SwIn) (j st : Nat) : Nat := f32OfRat (if carries st then clampR (-70) 70 ((x.iPh[j]?).getD 0) else 0)

theorem Turns.samplePhase (x : SwIn) (g : Nat) (m : Mod) (p : Nat) : Turns [E.PH_I, E.PH_MODE] m (m.samplePhase x g p) := by
  unfold Mod.samplePhase
  dsimp only
  split
  · have taken : Turns [E.PH_I, E.PH_MODE] m ((m.setQ E.PH_I p (clampR (-70) 70 ((x.iPh[p - 8 * g]?).getD 0))).phSample p
        (clampR (-70) 70 ((x.iPh[p - 8 * g]?).getD 0))) :=
      ⟨OnlyFams.of_od (x := m.setQ E.PH_I p _) (.setV (f := E.PH_I) m p _ (by simp)) rfl, rfl⟩
    split
    · refine taken.trans ?_
      generalize (m.setQ E.PH_I p (clampR (-70) 70 ((x.iPh[p - 8 * g]?).getD 0))).phSample p
        (clampR (-70) 70 ((x.iPh[p - 8 * g]?).getD 0)) = y
      exact (Turns.of (OnlyFams.setV (f := E.PH_MODE) y p _ (by simp)) (Paced.setV y E.PH_MODE p _)).trans (.modPh _ _ p _)
    · exact taken
  · exact ⟨OnlyFams.of_od (x := m.setQ E.PH_I p 0) (.setV (f := E.PH_I) m p _ (by simp)) rfl, rfl⟩

theorem phState_unsampled : ∀ p < 16, E.PH_STATE.key p ∉ [E.PH_I, E.PH_MODE].flatMap Fam.keys := by decide +kernel

theorem phI_apart : ∀ p < 16, ∀ q < 16, E.PH_MODE.key p ≠ E.PH_I.key q ∧ E.PH_I.key p ≠ E.PH_STATE.key q ∧ E.PH_MODE.key p ≠ E.PH_STATE.key q := by
  decide +kernel

theorem phI_key_ne : ∀ p < 16, ∀ q < 16, q ≠ p → E.PH_I.key q ≠ E.PH_I.key p := by decide +kernel

/-- What a sample goes by, and shows: the phase, its state, PH_I. -/
def Mod.seeSample (m : Mod) (p : Nat) : Nat × Nat × Nat := (p, m.n E.PH_STATE p, m.n E.PH_I p)

/-- R157: a sample, on what it goes by. -/
def sampleSeen (x : SwIn) (g : Nat) (y : Nat × Nat × Nat) : Nat × Nat × Nat := (y.1, y.2.1, sampled x (y.1 - 8 * g) y.2.1)

theorem Mod.samplePhase_own (x : SwIn) (g : Nat) (m : Mod) {p : Nat} (hp : p < 16) :
    (m.samplePhase x g p).seeSample p = sampleSeen x g (m.seeSample p) := by
  obtain ⟨mode, state, modeState⟩ := phI_apart p hp p hp
  have only := (Turns.samplePhase x g m p).1.n E.PH_STATE p (phState_unsampled p hp)
  refine Prod.ext rfl (Prod.ext only ?_)
  change (m.samplePhase x g p).n E.PH_I p = sampled x (p - 8 * g) (m.n E.PH_STATE p)
  unfold Mod.samplePhase sampled carries
  dsimp only
  generalize clampR (-70) 70 ((x.iPh[p - 8 * g]?).getD 0) = i
  have taken : ∀ v : Rat, (m.setQ E.PH_I p v).n E.PH_I p = f32OfRat v := fun v => Mod.n_setN_same m _ hp
  unfold Mod.switches
  dsimp only
  split
  · split
    · refine Eq.trans ?_ (taken i)
      exact Mod.n_setN_ne ((m.setQ E.PH_I p i).phSample p i) _ (Ne.symm mode)
    · exact taken i
  · exact taken 0

theorem Mod.samplePhase_other (x : SwIn) (g : Nat) (m : Mod) {p q : Nat} (hp : p < 16) (hq : q < 16) (h : q ≠ p) :
    (m.samplePhase x g p).seeSample q = m.seeSample q := by
  have only := (Turns.samplePhase x g m p).1.n E.PH_STATE q (phState_unsampled q hq)
  refine Prod.ext rfl (Prod.ext only ?_)
  change (m.samplePhase x g p).n E.PH_I q = m.n E.PH_I q
  have kept : ∀ v : Rat, (m.setQ E.PH_I p v).n E.PH_I q = m.n E.PH_I q := fun v => Mod.n_setN_ne m _ (phI_key_ne p hp q hq h)
  unfold Mod.samplePhase
  dsimp only
  generalize clampR (-70) 70 ((x.iPh[p - 8 * g]?).getD 0) = i
  split
  · split
    · refine Eq.trans ?_ (kept i)
      exact Mod.n_setN_ne ((m.setQ E.PH_I p i).phSample p i) _ (Ne.symm (phI_apart p hp q hq).1)
    · exact kept i
  · exact kept 0

/-- R157: the samples of a period. -/
def Mod.samples (m : Mod) (g : Nat) (x : SwIn) : Mod := (stagePhases g).foldl (Mod.samplePhase x g) m

theorem Turns.samples (m : Mod) (g : Nat) (x : SwIn) : Turns [E.PH_I, E.PH_MODE] m (m.samples g x) := .foldl (fun y p => .samplePhase x g y p) _ m

theorem Mod.samples_phI (m : Mod) {g : Nat} (hg : g < 2) (x : SwIn) {j : Nat} (hj : j < 8) :
    (m.samples g x).n E.PH_I (8 * g + j) = sampled x j (m.n E.PH_STATE (8 * g + j)) := by
  have seen := foldl_own Mod.seeSample (sampleSeen x g) (f := Mod.samplePhase x g) (stagePhases g) (stagePhases_nodup g)
    (fun y p hp => y.samplePhase_own x g (mem_stagePhases hp hg))
    (fun y p hp q hq => y.samplePhase_other x g (mem_stagePhases hp hg) (mem_stagePhases hq hg)) m
  have one : (m.samples g x).seeSample (8 * g + j) = sampleSeen x g (m.seeSample (8 * g + j)) := seen _ (stagePhases_mem g hj)
  generalize m.samples g x = y at one
  have shown : y.n E.PH_I (8 * g + j) = sampled x (8 * g + j - 8 * g) (m.n E.PH_STATE (8 * g + j)) := congrArg (fun s => s.2.2) one
  rw [shown, Nat.add_sub_cancel_left]

/-! ## A whole period (R155, R168) -/

/-- What a switching period touches. -/
def periodFams : List Fam := [E.IN_PHASES, E.PH_ADDS, E.PH_I, E.PH_IREF, E.PH_MODE, E.PH_SLOT, E.PH_STATE, E.ROT_COUNT, E.STG_FASTADDS,
  E.STG_NACT, E.STG_SHED_CANCEL]

theorem Mod.switchingPeriod_eq (m : Mod) (g : Nat) (x : SwIn) : m.switchingPeriod g x =
    if ((m.periodTakes g).samples g x).gated g then (m.periodTakes g).samples g x
    else if g = 1 ∧ ((m.periodTakes g).samples g x).n E.BRIDGE_STATE 0 = 2 then (m.periodTakes g).samples g x
    else (((m.periodTakes g).samples g x).periodEvents g).trackCarrier g := rfl

theorem Turns.sampledPeriod (m : Mod) (g : Nat) (x : SwIn) : Turns periodFams m ((m.periodTakes g).samples g x) :=
  ((Turns.periodTakes m g).mono (by simp [periodFams, offFams, countFams])).trans ((Turns.samples _ g x).mono (by simp [periodFams]))

/-- R155: a carrier moves by at most one count. -/
theorem Mod.trackCarrier_origin (m : Mod) (g : Nat) : OnlyFams [] m (m.trackCarrier g) ∧
    (((m.trackCarrier g).stgOf g).origin = (m.stgOf g).origin ∨ ((m.trackCarrier g).stgOf g).origin = ((m.stgOf g).origin + 1) % m.n E.STG_PERIOD g ∨
      ((m.trackCarrier g).stgOf g).origin = ((m.stgOf g).origin + m.n E.STG_PERIOD g - 1) % m.n E.STG_PERIOD g) := by
  unfold Mod.trackCarrier
  extract_lets period goal at_ ahead next
  have moved : ((m.modStg g (fun x => { x with origin := next })).stgOf g).origin = next :=
    congrArg Stg.origin (getD_modAt_same _ m.stg g (fun x => { x with origin := next }))
  refine ⟨fun _ _ => rfl, ?_⟩
  rw [moved]
  clear moved
  by_cases still : ahead = 0
  · exact .inl (if_pos still)
  · by_cases up : 2 * ahead ≤ period
    · exact .inr (.inl ((if_neg still).trans (if_pos up)))
    · exact .inr (.inr ((if_neg still).trans (if_neg up)))

theorem Mod.switchingPeriod_only (m : Mod) (g : Nat) (x : SwIn) : OnlyFams periodFams m (m.switchingPeriod g x) := by
  rw [Mod.switchingPeriod_eq]
  have first := (Turns.sampledPeriod m g x).1
  generalize (m.periodTakes g).samples g x = y at *
  split
  · exact first
  · split
    · exact first
    · exact (first.trans ((Turns.periodEvents y g).1.mono (by simp [periodFams, eventFams, fastFams, addFams, slotFams, countFams, cancelFams, turnFams]))).trans
        ((Mod.trackCarrier_origin _ g).1.mono (List.nil_subset _))

/-- R157: PH_I of each phase after a period. -/
theorem Mod.switchingPeriod_phI (m : Mod) {g : Nat} (hg : g < 2) (x : SwIn) {j : Nat} (hj : j < 8) :
    (m.switchingPeriod g x).n E.PH_I (8 * g + j) = sampled x j ((m.periodTakes g).n E.PH_STATE (8 * g + j)) := by
  rw [Mod.switchingPeriod_eq]
  have shown := (m.periodTakes g).samples_phI hg x hj
  generalize (m.periodTakes g).samples g x = y at *
  split
  · exact shown
  · split
    · exact shown
    · have events := (Turns.periodEvents y g).1.trans ((Mod.trackCarrier_origin (y.periodEvents g) g).1.mono (List.nil_subset _))
      exact (events.n_sub _ (by decide)).trans shown

theorem period_apart : ∀ g < 2, E.STG_PERIOD.key g ∉ periodFams.flatMap Fam.keys := by decide +kernel

/-- R155: the carrier of a stage that switches moves by at most one count in a period. -/
theorem Mod.switchingPeriod_origin (m : Mod) {g : Nat} (hg : g < 2) (x : SwIn) (gate : m.gated g = false) (out : ¬ (g = 1 ∧ m.n E.BRIDGE_STATE 0 = 2)) :
    ((m.switchingPeriod g x).stgOf g).origin = (m.stgOf g).origin ∨
    ((m.switchingPeriod g x).stgOf g).origin = ((m.stgOf g).origin + 1) % m.n E.STG_PERIOD g ∨
    ((m.switchingPeriod g x).stgOf g).origin = ((m.stgOf g).origin + m.n E.STG_PERIOD g - 1) % m.n E.STG_PERIOD g := by
  rw [Mod.switchingPeriod_eq]
  have first := Turns.sampledPeriod m g x
  have bridge := first.1.n E.BRIDGE_STATE 0 (by decide +kernel)
  generalize (m.periodTakes g).samples g x = y at *
  have open_ : y.gated g = false := by
    unfold Mod.gated at gate ⊢
    have same : (y.stgOf g).gate = (m.stgOf g).gate := congrArg (fun c => (c g).2) first.2
    rw [same, gate]
  rw [if_neg (by rw [open_]; decide), if_neg (by rw [bridge]; exact out)]
  have whole := first.trans ((Turns.periodEvents y g).mono (gs := periodFams)
    (by simp [periodFams, eventFams, fastFams, addFams, slotFams, countFams, cancelFams, turnFams]))
  generalize y.periodEvents g = z at *
  have stood : (z.stgOf g).origin = (m.stgOf g).origin := congrArg (fun c => (c g).1) whole.2
  have length : z.n E.STG_PERIOD g = m.n E.STG_PERIOD g := whole.1.n _ _ (period_apart g hg)
  have moved := (z.trackCarrier_origin g).2
  rwa [stood, length] at moved

/-! ## The peak comparator (R108, R151, R164) -/

/-- What leaving BRIDGE touches. -/
def leftFams : List Fam := [E.BRIDGE_EXIT, E.BRIDGE_FORCED, E.PH_STATE, E.PH_MODE, E.PH_SLOT, E.STG_NACT, E.IN_PHASES, E.CHG_IREF, E.PH_IREF,
  E.BRIDGE_STATE, E.COUPLING_ACT, E.TRANS_STATE]

/-- What leaves every entry of other families, and every comparator, as it is. -/
def Quiet (fs : List Fam) (m m' : Mod) : Prop := OnlyFams fs m m' ∧ m'.peaks = m.peaks

theorem Quiet.refl (fs : List Fam) (m : Mod) : Quiet fs m m := ⟨.refl _ m, rfl⟩

theorem Quiet.trans {fs : List Fam} {a b c : Mod} (h : Quiet fs a b) (g : Quiet fs b c) : Quiet fs a c := ⟨h.1.trans g.1, g.2.trans h.2⟩

theorem Quiet.mono {fs gs : List Fam} {a b : Mod} (h : Quiet fs a b) (hs : fs ⊆ gs) : Quiet gs a b := ⟨h.1.mono hs, h.2⟩

theorem Quiet.setV {fs : List Fam} (m : Mod) {f : Fam} (i : Nat) (v : Val) (hf : f ∈ fs) : Quiet fs m (m.setV f i v) := ⟨.setV m i v hf, rfl⟩

theorem Quiet.foldl {fs : List Fam} {β : Type} {f : Mod → β → Mod} (hf : ∀ m b, Quiet fs m (f m b)) (l : List β) (m : Mod) : Quiet fs m (l.foldl f m) := by
  induction l generalizing m with
  | nil => exact .refl fs m
  | cons b r ih => exact (hf m b).trans (ih _)

/-- R108: a BRIDGED phase is ACTIVE as Stage B resumes switching. -/
def Mod.resumePhase (m : Mod) (p : Nat) : Mod :=
  if m.n E.PH_STATE p == 7 then
    ((m.setN E.PH_STATE p 4).setN E.PH_MODE p 0).modPh p (fun x => { x with fresh := true, activeSince := m.tb })
  else m

/-- What a bridged Stage B's phases and loop take up as it resumes. -/
def resumeFams : List Fam := [E.PH_STATE, E.PH_MODE, E.PH_SLOT, E.STG_NACT, E.IN_PHASES, E.CHG_IREF, E.PH_IREF]

theorem Quiet.resumePhase (m : Mod) (p : Nat) : Quiet resumeFams m (m.resumePhase p) := by
  unfold Mod.resumePhase
  split
  · have shown : OnlyFams resumeFams m ((m.setN E.PH_STATE p 4).setN E.PH_MODE p 0) :=
      ((OnlyFams.refl _ m).set (f := E.PH_STATE) (by simp [resumeFams])).set (f := E.PH_MODE) (by simp [resumeFams])
    exact ⟨shown.of_od rfl, Mod.peaks_modPh ((m.setN E.PH_STATE p 4).setN E.PH_MODE p 0) p (fun x => { x with fresh := true, activeSince := m.tb }) fun _ => rfl⟩
  · exact .refl _ m

/-- R205: the step that waits for the end of BRIDGE keeps the references of the one before. -/
def Mod.seedPlan (m : Mod) (i : Rat) : Mod :=
  { m with prof := { m.prof with iRef := if m.prof.waitBridge then m.prof.iRef else grid (maxR 0 i) } }

/-- R107, R108: `i` A for Stage B's loop, `j` A for its group. -/
def Mod.seedWith (m : Mod) (i j : Rat) : Mod := (m.setQ E.CHG_IREF 0 (clampR (-200) 200 i)).modGrp 4 (fun x => { x with iref := j })

theorem Mod.seedB_eq (m : Mod) (i : Rat) : ∃ j, m.seedB i = ((m.seedPlan i).seedWith i j).shareRef 4 := ⟨_, rfl⟩

theorem Quiet.seedB (m : Mod) (i : Rat) : Quiet resumeFams m (m.seedB i) := by
  obtain ⟨j, same⟩ := m.seedB_eq i
  rw [same]
  have plan : Quiet resumeFams m (m.seedPlan i) := ⟨fun _ _ => rfl, rfl⟩
  generalize m.seedPlan i = x at *
  have seeded : Quiet resumeFams x (x.seedWith i j) :=
    ⟨OnlyFams.of_od (x := x.setQ E.CHG_IREF 0 (clampR (-200) 200 i)) (.setV (f := E.CHG_IREF) x 0 _ (by simp [resumeFams])) rfl, rfl⟩
  generalize x.seedWith i j = y at *
  exact (plan.trans seeded).trans ⟨(AtPhases.shareRef y 4 (by simp [resumeFams])).1, (Paced.shareRef y 4).2⟩

/-- R108, R169: Stage B resumes switching, its carriers at their slots, its loop seeded for cause `code`. -/
def Mod.resumeB (m : Mod) (code : Nat) : Mod := (((m.putSlots (m.switching 1)).atSlots 1).countPhases).seedB (m.bridgeSeed code)

theorem Quiet.atSlots (fs : List Fam) (m : Mod) (g : Nat) : Quiet fs m (m.atSlots g) :=
  .foldl (f := fun (m : Mod) (p : Nat) => m.modPh p (fun x => { x with pos := m.slotGoal g p }))
    (fun x p => ⟨fun _ _ => rfl, x.peaks_modPh p _ (by exact fun _ => rfl)⟩) _ m

theorem Quiet.resumeB (m : Mod) (code : Nat) : Quiet resumeFams m (m.resumeB code) := by
  unfold Mod.resumeB
  have slots : Quiet resumeFams m (m.putSlots (m.switching 1)) :=
    ⟨(AtPhases.putSlots m _ (by simp [resumeFams])).1, (Paced.putSlots m _).2⟩
  generalize m.putSlots (m.switching 1) = x at *
  have placed := slots.trans (.atSlots _ x 1)
  generalize x.atSlots 1 = y at *
  have counted : Quiet resumeFams y y.countPhases := ⟨(AtPhases.countPhases y).1.mono (by simp [countFams, resumeFams]), (Paced.countPhases y).2⟩
  generalize y.countPhases = z at *
  exact (placed.trans counted).trans (.seedB z _)

/-- R108: that BRIDGE is left, and for what cause. -/
def Mod.leaveTold (m : Mod) (code : Nat) : Mod :=
  let m := (m.setN E.BRIDGE_EXIT 0 code).when (2 ≤ code) (·.inc E.BRIDGE_FORCED 0)
  { m with reg := { m.reg with bridgeTo := none, vset := m.vSys } }

/-- R108: the phases and the loop of Stage B as BRIDGE is left. -/
def Mod.leaveResumed (m : Mod) (code : Nat) : Mod :=
  ((stagePhases 1).foldl Mod.resumePhase m).when (m.n E.BRIDGE_STATE 0 == 2) (·.resumeB code)

/-- R107, R108: the duty's ramp down begins. -/
def Mod.leaveRamp (m : Mod) : Mod :=
  let m := (m.setN E.BRIDGE_STATE 0 3).setN E.COUPLING_ACT 0 1
  m.arm .bridge (m.tb + ticksMs (m.reg.bridgeDuty * m.cq E.BRIDGE_RAMP 0))

theorem Mod.bridgeLeave_eq (m : Mod) {code : Nat} (h : code ≠ 4) : m.bridgeLeave code = ((m.leaveTold code).leaveResumed code).leaveRamp := if_neg h

theorem Mod.leaveTold_does (m : Mod) : Quiet [E.BRIDGE_EXIT, E.BRIDGE_FORCED] m (m.leaveTold 6) ∧ (m.leaveTold 6).n E.BRIDGE_EXIT 0 = 6 ∧
    (m.leaveTold 6).n E.BRIDGE_FORCED 0 = inc32 (m.n E.BRIDGE_FORCED 0) := by
  have told : Quiet [E.BRIDGE_EXIT, E.BRIDGE_FORCED] m ((m.setN E.BRIDGE_EXIT 0 6).inc E.BRIDGE_FORCED 0) :=
    (Quiet.setV (f := E.BRIDGE_EXIT) m 0 _ (by simp)).trans (.setV (f := E.BRIDGE_FORCED) _ 0 _ (by simp))
  have exit_ : ((m.setN E.BRIDGE_EXIT 0 6).inc E.BRIDGE_FORCED 0).n E.BRIDGE_EXIT 0 = 6 :=
    (Mod.n_inc_ne _ (by decide)).trans (Mod.n_setN_same m 6 (by decide))
  have count : ((m.setN E.BRIDGE_EXIT 0 6).inc E.BRIDGE_FORCED 0).n E.BRIDGE_FORCED 0 = inc32 (m.n E.BRIDGE_FORCED 0) :=
    (Mod.n_inc_same _ (by decide)).trans (congrArg inc32 (Mod.n_setN_ne m 6 (by decide)))
  exact ⟨told, exit_, count⟩

theorem Quiet.leaveResumed (m : Mod) (code : Nat) : Quiet resumeFams m (m.leaveResumed code) := by
  unfold Mod.leaveResumed
  have phases : Quiet resumeFams m ((stagePhases 1).foldl Mod.resumePhase m) := .foldl Quiet.resumePhase _ m
  cases m.n E.BRIDGE_STATE 0 == 2
  · exact phases
  · exact phases.trans (.resumeB _ code)

theorem Mod.leaveRamp_does (m : Mod) : Quiet [E.BRIDGE_STATE, E.COUPLING_ACT] m m.leaveRamp ∧ m.leaveRamp.n E.BRIDGE_STATE 0 = 3 := by
  have shown : Quiet [E.BRIDGE_STATE, E.COUPLING_ACT] m ((m.setN E.BRIDGE_STATE 0 3).setN E.COUPLING_ACT 0 1) :=
    (Quiet.setV (f := E.BRIDGE_STATE) m 0 _ (by simp)).trans (.setV (f := E.COUPLING_ACT) _ 0 _ (by simp))
  have state : ((m.setN E.BRIDGE_STATE 0 3).setN E.COUPLING_ACT 0 1).n E.BRIDGE_STATE 0 = 3 :=
    (Mod.n_setN_ne _ 1 (by decide)).trans (Mod.n_setN_same m 3 (by decide))
  exact ⟨shown, state⟩

theorem left_apart : ∀ f ∈ [E.BRIDGE_EXIT, E.BRIDGE_FORCED], f.key 0 ∉ (resumeFams ++ [E.BRIDGE_STATE, E.COUPLING_ACT]).flatMap Fam.keys := by
  decide +kernel

/-- R108: BRIDGE is left for a limit that was passed. -/
theorem Mod.bridgeLeave_does (m : Mod) : Quiet leftFams m (m.bridgeLeave 6) ∧ (m.bridgeLeave 6).n E.BRIDGE_EXIT 0 = 6 ∧
    (m.bridgeLeave 6).n E.BRIDGE_FORCED 0 = inc32 (m.n E.BRIDGE_FORCED 0) ∧ (m.bridgeLeave 6).n E.BRIDGE_STATE 0 = 3 := by
  rw [m.bridgeLeave_eq (by decide)]
  obtain ⟨told, code, count⟩ := m.leaveTold_does
  generalize m.leaveTold 6 = x at *
  have resumed := Quiet.leaveResumed x 6
  generalize x.leaveResumed 6 = y at *
  obtain ⟨ramp, state⟩ := y.leaveRamp_does
  generalize y.leaveRamp = z at *
  have rest := (resumed.mono (List.subset_append_left _ [E.BRIDGE_STATE, E.COUPLING_ACT])).trans (ramp.mono (List.subset_append_right _ _))
  have kept : ∀ f ∈ [E.BRIDGE_EXIT, E.BRIDGE_FORCED], z.n f 0 = x.n f 0 := fun f hf => rest.1.n f 0 (left_apart f hf)
  exact ⟨(told.mono (by simp [leftFams])).trans (rest.mono (by simp [resumeFams, leftFams])), (kept _ (by simp)).trans code, (kept _ (by simp)).trans count, state⟩

/-- R108: BRIDGE, where it is entered or in force, is left for a limit that was passed. -/
theorem Mod.bridgeExit_does (m : Mod) : Quiet leftFams m (m.bridgeExit 6) ∧ (m.n E.BRIDGE_STATE 0 = 2 → (m.bridgeExit 6).n E.BRIDGE_EXIT 0 = 6 ∧
    (m.bridgeExit 6).n E.BRIDGE_FORCED 0 = inc32 (m.n E.BRIDGE_FORCED 0) ∧ (m.bridgeExit 6).n E.BRIDGE_STATE 0 = 3) := by
  unfold Mod.bridgeExit
  split
  · obtain ⟨only, code, count, state⟩ := m.bridgeLeave_does
    dsimp only
    generalize m.bridgeLeave 6 = x at *
    cases (6 : Nat) != 4 && x.n E.TRANS_STATE 0 == 0
    · exact ⟨only, fun _ => ⟨code, count, state⟩⟩
    · have kept : ∀ f : Fam, f.key 0 ≠ E.TRANS_STATE.key 0 → (x.setN E.TRANS_STATE 0 1).n f 0 = x.n f 0 := fun f hf => Mod.n_setN_ne x 1 hf
      exact ⟨only.trans (.setV (f := E.TRANS_STATE) x 0 _ (by simp [leftFams])), fun _ =>
        ⟨(kept _ (by decide)).trans code, (kept _ (by decide)).trans count, (kept _ (by decide)).trans state⟩⟩
  · rename_i none_
    exact ⟨.refl _ m, fun on => absurd (by simp [Mod.bridging, on]) none_⟩

theorem Mod.n_of_od {a b : Mod} (h : a.od = b.od) (f : Fam) (i : Nat) : a.n f i = b.n f i := by
  unfold Mod.n Mod.getV
  rw [h]

/-- R151: a peak comparator counts once in a period. -/
def Mod.peakTaken (m : Mod) (p : Nat) : Mod :=
  ((m.when (!(m.phOf p).peakNow) (·.inc E.PH_PEAK_CNT p)).modPh p (fun y => { y with peakNow := true })).when (8 ≤ p) Mod.scanDisturb

/-- R108, R164: what a peak comparator brings, the `first` time in its period. -/
def Mod.peakAnswer (m : Mod) (p : Nat) (first : Bool) : Mod :=
  if m.n E.PH_STATE p == 7 then { m.bridgeExit 6 with modes := { (m.bridgeExit 6).modes with bridgeLeft := some (m.bridgeExit 6).tb } }
  else if first && m.n E.PH_STATE p == 4 then (m.shedCancel (m.n E.PH_TAP p)).emergencyAdd (m.n E.PH_TAP p)
  else m

theorem Mod.peakComparator_eq {m : Mod} {p : Nat} (hp : p < 16) (on : m.switches p = true ∨ m.n E.PH_STATE p = 7) :
    m.peakComparator p = (m.peakTaken p).peakAnswer p (!(m.phOf p).peakNow) := by
  have acts : (p < 16 && (m.switches p || m.n E.PH_STATE p == 7)) = true := by
    rcases on with on | on <;> simp [hp, on]
  exact if_pos acts

theorem Mod.peakTaken_does (m : Mod) {p : Nat} (hp : p < 16) : OnlyFams [E.PH_PEAK_CNT] m (m.peakTaken p) ∧
    (m.peakTaken p).n E.PH_PEAK_CNT p = (if (m.phOf p).peakNow then m.n E.PH_PEAK_CNT p else inc32 (m.n E.PH_PEAK_CNT p)) ∧
    ((m.peakTaken p).phOf p).peakNow = true := by
  have calm : ∀ x : Mod, (x.when (8 ≤ p) Mod.scanDisturb).od = x.od ∧ (x.when (8 ≤ p) Mod.scanDisturb).phs = x.phs := fun x => by
    have part : x.scanDisturb.od = x.od ∧ x.scanDisturb.phs = x.phs := by
      unfold Mod.scanDisturb
      split <;> exact ⟨rfl, rfl⟩
    cases decide (8 ≤ p)
    · exact ⟨rfl, rfl⟩
    · exact part
  unfold Mod.peakTaken
  cases (m.phOf p).peakNow
  · obtain ⟨od, phs⟩ := calm ((m.inc E.PH_PEAK_CNT p).modPh p (fun y => { y with peakNow := true }))
    have counted : OnlyFams [E.PH_PEAK_CNT] m (m.inc E.PH_PEAK_CNT p) := .setV (f := E.PH_PEAK_CNT) m p _ (by simp)
    have number : (m.inc E.PH_PEAK_CNT p).n E.PH_PEAK_CNT p = inc32 (m.n E.PH_PEAK_CNT p) := Mod.n_inc_same m hp
    have acted : (((m.inc E.PH_PEAK_CNT p).modPh p (fun y => { y with peakNow := true })).phOf p).peakNow = true :=
      congrArg Ph.peakNow (getD_modAt_same _ m.phs p (fun y => { y with peakNow := true }))
    exact ⟨counted.of_od od, (Mod.n_of_od od _ _).trans number, (congrArg (fun l : List Ph => ((l[p]?).getD {}).peakNow) phs).trans acted⟩
  · obtain ⟨od, phs⟩ := calm (m.modPh p (fun y => { y with peakNow := true }))
    have acted : ((m.modPh p (fun y => { y with peakNow := true })).phOf p).peakNow = true :=
      congrArg Ph.peakNow (getD_modAt_same _ m.phs p (fun y => { y with peakNow := true }))
    exact ⟨(OnlyFams.refl _ m).of_od od, Mod.n_of_od od _ _, (congrArg (fun l : List Ph => ((l[p]?).getD {}).peakNow) phs).trans acted⟩

/-- What the answer to a peak comparator touches. -/
def answerFams : List Fam := leftFams ++ (cancelFams ++ fastFams)

theorem Mod.peakAnswer_does (m : Mod) (p : Nat) (first : Bool) : Quiet answerFams m (m.peakAnswer p first) ∧
    (m.n E.PH_STATE p = 7 → m.n E.BRIDGE_STATE 0 = 2 → (m.peakAnswer p first).n E.BRIDGE_EXIT 0 = 6 ∧
      (m.peakAnswer p first).n E.BRIDGE_FORCED 0 = inc32 (m.n E.BRIDGE_FORCED 0) ∧ (m.peakAnswer p first).n E.BRIDGE_STATE 0 = 3) := by
  unfold Mod.peakAnswer
  split
  · obtain ⟨only, left⟩ := m.bridgeExit_does
    generalize m.bridgeExit 6 = x at *
    exact ⟨only.mono (List.subset_append_left _ _), fun _ => left⟩
  · rename_i other
    have none_ : m.n E.PH_STATE p ≠ 7 := fun h => other (by simp [h])
    refine ⟨?_, fun h => absurd h none_⟩
    split
    · have cancelled : Quiet answerFams m (m.shedCancel (m.n E.PH_TAP p)) :=
        ⟨(AtPhases.shedCancel m _).1.mono (List.Subset.trans (List.subset_append_left _ _) (List.subset_append_right _ _)), (Paced.shedCancel m _).2⟩
      generalize m.shedCancel (m.n E.PH_TAP p) = x at *
      obtain ⟨added, paced⟩ := x.emergencyAdd_does (m.n E.PH_TAP p)
      exact cancelled.trans ⟨added.mono (List.Subset.trans (List.subset_append_right _ _) (List.subset_append_right _ _)), paced.2⟩
    · exact .refl _ m

end Sys2Proof.Machine
end

section
/-! PROOF. The engines' periods and the peak comparator (R88, R108, R133, R151, R155, R157, R158, R168, R175). -/

set_option Elab.async false

namespace Sys2Proof.Machine

open Sys2Proof

/-- R157: the phases whose current is taken switch or are bridged. -/
theorem Mod.carries_iff (m : Mod) (p : Nat) : carries (m.n E.PH_STATE p) = true ↔ m.switches p = true ∨ m.n E.PH_STATE p = 7 := by
  unfold carries Mod.switches
  simp [or_assoc]

theorem Mod.sampled_eq (m : Mod) (x : SwIn) (j p : Nat) : sampled x j (m.n E.PH_STATE p) =
    f32OfRat (if m.switches p = true ∨ m.n E.PH_STATE p = 7 then clampR (-70) 70 ((x.iPh[j]?).getD 0) else 0) := by
  unfold sampled
  simp only [m.carries_iff p]

/-- R108, R151, R164: a whole act of a peak comparator. -/
theorem Mod.peakComparator_does {m : Mod} {p : Nat} (hp : p < 16) (on : m.switches p = true ∨ m.n E.PH_STATE p = 7) :
    OnlyFams (E.PH_PEAK_CNT :: answerFams) m (m.peakComparator p) ∧
    (m.peakComparator p).n E.PH_PEAK_CNT p = (if (m.phOf p).peakNow then m.n E.PH_PEAK_CNT p else inc32 (m.n E.PH_PEAK_CNT p)) ∧
    ((m.peakComparator p).phOf p).peakNow = true ∧
    (m.n E.PH_STATE p = 7 → m.n E.BRIDGE_STATE 0 = 2 → (m.peakComparator p).n E.BRIDGE_EXIT 0 = 6 ∧
      (m.peakComparator p).n E.BRIDGE_FORCED 0 = inc32 (m.n E.BRIDGE_FORCED 0) ∧ (m.peakComparator p).n E.BRIDGE_STATE 0 = 3) := by
  rw [Mod.peakComparator_eq hp on]
  generalize (!(m.phOf p).peakNow) = first
  obtain ⟨only, count, acted⟩ := m.peakTaken_does hp
  generalize m.peakTaken p = x at *
  obtain ⟨answer, left⟩ := x.peakAnswer_does p first
  generalize x.peakAnswer p first = y at *
  have apart : ∀ p < 16, E.PH_STATE.key p ∉ [E.PH_PEAK_CNT].flatMap Fam.keys ∧ E.PH_PEAK_CNT.key p ∉ answerFams.flatMap Fam.keys := by
    decide +kernel
  have state : x.n E.PH_STATE p = m.n E.PH_STATE p := only.n _ _ (apart p hp).1
  have bridge : x.n E.BRIDGE_STATE 0 = m.n E.BRIDGE_STATE 0 := only.n _ _ (by decide +kernel)
  have forced : x.n E.BRIDGE_FORCED 0 = m.n E.BRIDGE_FORCED 0 := only.n _ _ (by decide +kernel)
  rw [state, bridge, forced] at left
  exact ⟨(only.mono (by simp)).trans (answer.1.mono (List.subset_cons_self _ _)), (answer.1.n _ _ (apart p hp).2).trans count,
    (congrFun answer.2 p).trans acted, left⟩

theorem answer_frame : E.PH_PEAK_CNT :: answerFams ⊆ stageFams ++ [E.BRIDGE_EXIT, E.CHG_IREF, E.BRIDGE_FORCED, E.COUPLING_ACT, E.PH_ADDS, E.PH_MODE,
    E.PH_PEAK_CNT, E.ROT_COUNT, E.STG_FASTADDS, E.STG_SHED_CANCEL, E.TRANS_STATE] := by
  decide +kernel

theorem loop_frame : loopFams.flatMap Fam.keys ⊆ E.INT_PENDING.keys ++ (E.INT_NEXT_T.keys ++ (E.INT_PB_V.keys ++ (E.INT_HIT.keys ++
    (E.LL_DROOP_V.keys ++ (E.V_REF.keys ++ (E.FR_HEADS.keys ++ (E.REGEN_RANK.keys ++ (E.CHG_IREF.keys ++ E.FB_ACTIVE.keys)))))))) := by
  decide +kernel

end Sys2Proof.Machine

namespace Sys2Proof
open Machine

/-- Settles O11: a period of the voltage loops through what each of its parts keeps of the regulation; a switching period through
its samples, its events and the carriers' step; a peak comparator through its count and its answer. -/
theorem enginePeriods : Obligations.EnginePeriods := by
  unfold Obligations.EnginePeriods
  refine ⟨?_, ?_, ?_, ?_⟩
  · intro t g x s alive regs runs live none_
    refine DoesM.intro (f := Mod.voltageLoop x) rfl alive ?_
    exact ⟨Mod.voltageLoop_only _ x, Mod.voltageLoop_vset x regs runs live none_⟩
  · intro t x s alive
    refine DoesM.intro (f := Mod.voltageLoop x) rfl alive ?_
    obtain ⟨demand, demandB, prev, iF, ref⟩ := (s.m.at t).voltageLoop_does x
    exact ⟨demand, demandB, prev, iF, ref, SameOd.mono (Mod.voltageLoop_only _ x) loop_frame⟩
  · intro t st x s alive
    refine DoesM.intro (f := Mod.switchingPeriod (Stage.idx st) x) rfl alive ?_
    refine ⟨Mod.switchingPeriod_only _ _ x, fun j hj => ?_, fun gate out => Mod.switchingPeriod_origin _ (stageIdx_lt st) x gate out⟩
    rw [Mod.switchingPeriod_phI _ (stageIdx_lt st) x hj, Mod.sampled_eq]
  · intro t p s alive hp on
    refine DoesM.intro (f := Mod.peakComparator p) rfl alive ?_
    obtain ⟨only, rest⟩ := Mod.peakComparator_does (m := s.m.at t) hp on
    exact ⟨only.mono answer_frame, rest⟩

end Sys2Proof
end

section
/-! PROOF. A start (R516 to R518): what its parts keep of the module that begins to run. -/

set_option Elab.async false

namespace Sys2Proof.Machine

open Sys2Proof

/-! ## What a start keeps -/

/-- The places that tell of a start: its cause, its epoch, the axes as they begin. -/
def startKeys : List Nat := [E.RST_CAUSE.key 0, E.EPOCH.key 0, E.ENV_REQ.key 0, E.ENV_EFF.key 0, E.POWER_ACT.key 0]

/-- Families none of which tells of a start, or of source 8:1. -/
def unTold (fs : List Fam) : Bool :=
  (startKeys ++ [E.FLT_ACTIVE.key 8, E.FLT_STICKY.key 8]).all (fun k => !(fs.flatMap Fam.keys).contains k)

/-- Source 8:1 is sticky where it is active. -/
def Marked (m : Mod) : Prop := m.bitOf E.FLT_ACTIVE 8 1 = true → m.bitOf E.FLT_STICKY 8 1 = true

/-- What of the module no part of a start but its own row changes: the parameter store, TB, how it runs, and that ENV_BOOT waits. -/
structure Stem where
  pst : List (Nat × Val)
  tb : Nat
  phase : Phase
  rst : Option Nat
  issued : Bool

def Mod.stem (m : Mod) : Stem := ⟨m.pst, m.tb, m.phase, m.rst, m.modes.bootIssued⟩

/-- The path holds a stage's gates off (R27). -/
def Mod.pathOff (m : Mod) (g : Nat) : Bool := bit (m.stgOf g).gate 5

/-- A part of a start keeps what the start has told, and what stands off stays off. -/
structure Starts (m m' : Mod) : Prop where
  told : ∀ k ∈ startKeys, odGet m'.od k = odGet m.od k
  stem : m'.stem = m.stem
  keys : m.keys.latch = false → m.keys.scrub = false → m'.keys = m.keys
  gates : ∀ g, m.pathOff g = true → m'.pathOff g = true
  switches : ∀ k, k < 6 → m.closed k = false → m'.closed k = false
  sticky : m.bitOf E.FLT_STICKY 8 1 = true → m'.bitOf E.FLT_STICKY 8 1 = true
  marked : Marked m → Marked m'

theorem Starts.refl (m : Mod) : Starts m m := ⟨fun _ _ => rfl, rfl, fun _ _ => rfl, fun _ h => h, fun _ _ h => h, fun h => h, fun h => h⟩

theorem Starts.trans {a b c : Mod} (h : Starts a b) (g : Starts b c) : Starts a c where
  told k hk := (g.told k hk).trans (h.told k hk)
  stem := g.stem.trans h.stem
  keys la sc := by
    have same := h.keys la sc
    exact (g.keys (by rw [same]; exact la) (by rw [same]; exact sc)).trans same
  gates g' hg := g.gates g' (h.gates g' hg)
  switches k hk hc := g.switches k hk (h.switches k hk hc)
  sticky hs := g.sticky (h.sticky hs)
  marked hm := g.marked (h.marked hm)

theorem Starts.when (m : Mod) (c : Bool) {f : Mod → Mod} (hf : Starts m (f m)) : Starts m (m.when c f) := by
  cases c
  · exact .refl m
  · exact hf

theorem Starts.foldl {β : Type} {f : Mod → β → Mod} (hf : ∀ m b, Starts m (f m b)) (l : List β) (m : Mod) : Starts m (l.foldl f m) := by
  induction l generalizing m with
  | nil => exact .refl m
  | cons b r ih => exact (hf m b).trans (ih _)

theorem Starts.each {f : Nat → Mod → Mod} (hf : ∀ k m, Starts m (f k m)) (n : Nat) (m : Mod) : Starts m (m.each n f) :=
  .foldl (fun x k => hf k x) _ m

theorem unTold_apart {fs : List Fam} (free : unTold fs = true) :
    ∀ k ∈ startKeys ++ [E.FLT_ACTIVE.key 8, E.FLT_STICKY.key 8], k ∉ fs.flatMap Fam.keys := fun k hk h => by
  have none_ := List.all_eq_true.1 free k hk
  rw [List.contains_iff_mem.2 h] at none_
  exact absurd none_ (by decide)

/-- Entries of other families change. -/
theorem Starts.of_only {fs : List Fam} {m m' : Mod} (only : OnlyFams fs m m') (free : unTold fs = true) (stem : m'.stem = m.stem)
    (keys : m.keys.latch = false → m.keys.scrub = false → m'.keys = m.keys) (gates : ∀ g, m.pathOff g = true → m'.pathOff g = true)
    (switches : ∀ k, k < 6 → m.closed k = false → m'.closed k = false) : Starts m m' := by
  have apart := unTold_apart free
  have active := OnlyFams.bitOf only E.FLT_ACTIVE 8 1 (apart _ (by simp))
  have sticky := OnlyFams.bitOf only E.FLT_STICKY 8 1 (apart _ (by simp))
  exact ⟨fun k hk => only k (apart k (List.mem_append_left _ hk)), stem, keys, gates, switches, fun h => sticky.trans h,
    fun h a => sticky.trans (h (active.symm.trans a))⟩

theorem Mod.stem_of_site {m m' : Mod} (h : m'.site = m.site) (issued : m'.modes.bootIssued = m.modes.bootIssued) : m'.stem = m.stem := by
  have hull := Mod.hull_of_site h
  have pst : m'.pst = m.pst := by have same := congrArg Mod.pst h; exact same
  have rst : m'.rst = m.rst := by have same := congrArg Mod.rst h; exact same
  unfold Mod.stem
  rw [pst, rst, Mod.tb_of_hull hull, Mod.phase_of_hull hull, issued]

theorem Mod.keys_of_hull {m m' : Mod} (h : m'.hull = m.hull) : m'.keys = m.keys := by
  have same := congrArg Mod.keys h
  exact same

theorem Mod.closed_of_prot {m m' : Mod} (h : m'.prot = m.prot) (k : Nat) : m'.closed k = m.closed k := by
  unfold Mod.closed Mod.protOf
  rw [h]

theorem Mod.pathOff_of_stg {m m' : Mod} (h : m'.stg = m.stg) (g : Nat) : m'.pathOff g = m.pathOff g := by
  unfold Mod.pathOff Mod.stgOf
  rw [h]

/-- What the stages' gates, and ENV_BOOT, see of an operation. -/
def GatesKept (m m' : Mod) : Prop := (∀ g, m.pathOff g = true → m'.pathOff g = true) ∧ m'.modes.bootIssued = m.modes.bootIssued

theorem GatesKept.refl (m : Mod) : GatesKept m m := ⟨fun _ h => h, rfl⟩

theorem GatesKept.trans {a b c : Mod} (h : GatesKept a b) (g : GatesKept b c) : GatesKept a c :=
  ⟨fun k hk => g.1 k (h.1 k hk), g.2.trans h.2⟩

theorem GatesKept.of_stg {m m' : Mod} (stg : m'.stg = m.stg) (issued : m'.modes.bootIssued = m.modes.bootIssued) : GatesKept m m' :=
  ⟨fun g h => (Mod.pathOff_of_stg stg g).trans h, issued⟩

theorem GatesKept.of_bulk {m m' : Mod} (h : m'.bulk = m.bulk) : GatesKept m m' :=
  .of_stg (Mod.stg_of_bulk h) (congrArg Modes.bootIssued (Mod.modes_of_bulk h))

theorem GatesKept.of_plant {m m' : Mod} (h : m'.plant = m.plant) : GatesKept m m' := .of_bulk (Mod.bulk_of_plant h)

theorem GatesKept.when {m : Mod} (c : Bool) {f : Mod → Mod} (hf : GatesKept m (f m)) : GatesKept m (m.when c f) := by
  cases c
  · exact .refl m
  · exact hf

/-- A change of a stage's gate causes that leaves the path's. -/
theorem Mod.pathOff_modStg (m : Mod) (g : Nat) (f : Stg → Stg) (hf : ∀ x, bit x.gate 5 = true → bit (f x).gate 5 = true) (k : Nat)
    (h : m.pathOff k = true) : (m.modStg g f).pathOff k = true := by
  unfold Mod.pathOff at h ⊢
  by_cases e : k = g
  · have same : (m.modStg g f).stgOf k = f (m.stgOf k) := by rw [e]; exact getD_modAt_same _ m.stg g f
    rw [same]
    exact hf _ h
  · have same : (m.modStg g f).stgOf k = m.stgOf k := getD_modAt_ne _ _ _ e
    rw [same]
    exact h

theorem GatesKept.modStg (m : Mod) (g : Nat) (f : Stg → Stg) (hf : ∀ x, bit x.gate 5 = true → bit (f x).gate 5 = true) : GatesKept m (m.modStg g f) :=
  ⟨fun k h => m.pathOff_modStg g f hf k h, rfl⟩

theorem Mod.phaseOff_modes (m : Mod) (p st : Nat) : (m.phaseOff p st).modes = m.modes := rfl

theorem Mod.gateOff_modes (m : Mod) (g c : Nat) : (m.gateOff g c).modes = m.modes := by
  have same := congrArg Mod.modes (m.gateOff_yard g c)
  exact same

theorem Stg.gatedOff_path (c : Nat) (x : Stg) : bit (x.gatedOff c).gate 5 = true := bit_setBit_same (Sys2Proof.setBit x.gate c true) 5 true

theorem GatesKept.gateOff (m : Mod) (g c : Nat) : GatesKept m (m.gateOff g c) := by
  refine ⟨fun k h => ?_, congrArg Modes.bootIssued (m.gateOff_modes g c)⟩
  unfold Mod.pathOff at h ⊢
  by_cases e : k = g
  · unfold Mod.stgOf
    rw [Mod.gateOff_stg, e, getD_modAt_same]
    exact Stg.gatedOff_path c _
  · rw [m.gateOff_stgOf_ne c e]
    exact h

theorem GatesKept.force (m : Mod) (c : Nat) : GatesKept m (m.force c) := by
  rw [Mod.force_eq]
  have cause : GatesKept m (m.forceCause c) := .of_stg rfl rfl
  generalize m.forceCause c = a at *
  have noted := GatesKept.of_plant (a.plant_forceNoted (m.n E.SAFE_FORCE_SRC 0) c)
  generalize a.forceNoted (m.n E.SAFE_FORCE_SRC 0) c = b at *
  have off : GatesKept b (b.gateOffBoth 0) := (GatesKept.gateOff b 0 0).trans (.gateOff _ 1 0)
  generalize b.gateOffBoth 0 = d at *
  have told := (GatesKept.of_plant (d.plant_forceTold (m.n E.SAFE_FORCE_SRC 0) c)).trans (.of_plant (Mod.plant_ilko _))
  generalize (d.forceTold (m.n E.SAFE_FORCE_SRC 0) c).ilko = e at *
  have dropped : GatesKept e e.dropIntents := .of_stg rfl rfl
  generalize e.dropIntents = x at *
  have issued : x.forceStop.modes = x.modes := by
    have coil : ∀ y : Mod, y.contOff.modes = y.modes := fun y =>
      Mod.when_keeps Mod.modes (·.setN E.CONT_STATE 0 0) (fun _ => rfl) _ _
    unfold Mod.forceStop
    split
    · rfl
    · split
      · rfl
      · exact Mod.when_keeps Mod.modes _ coil _ x
  exact ((((cause.trans noted).trans off).trans told).trans dropped).trans (.of_stg (Mod.forceStop_stg x) (congrArg Modes.bootIssued issued))

/-- A source that comes does what its class does on a module whose bulk is as it was. -/
theorem Mod.raiseAs_acts (m : Mod) (b bit cls : Nat) (value : Option Rat) (h : m.bitOf E.FLT_ACTIVE b bit = false) :
    ∃ x : Mod, x.bulk = m.bulk ∧ m.raiseAs b bit cls value = x.classActs b bit cls :=
  ⟨_, by simp [Mod.sourceBits], m.raiseAs_eq b bit cls value h⟩

theorem GatesKept.classActs (m : Mod) (b bit cls : Nat) : GatesKept m (m.classActs b bit cls) := by
  have held : GatesKept m (m.classF b (1 <<< bit)) := by
    rw [Mod.classF_eq]
    exact (GatesKept.of_bulk (m.bulk_classFNoted b (1 <<< bit))).trans (.force _ 2)
  have acts : GatesKept m (m.when (cls == 3) (·.classF b (1 <<< bit))) := .when _ held
  unfold Mod.classActs
  generalize m.when (cls == 3) (·.classF b (1 <<< bit)) = x at *
  have fires : GatesKept x (x.when (2 ≤ cls) (fun m => m.capTrigger 0x40 m.tb)) := .when _ (.of_plant (x.plant_capTrigger _ _))
  exact (acts.trans fires).trans (.of_plant (Mod.plant_faultPin _))

theorem GatesKept.raiseAs (m : Mod) (b bit cls : Nat) (value : Option Rat) : GatesKept m (m.raiseAs b bit cls value) := by
  by_cases h : m.bitOf E.FLT_ACTIVE b bit = true
  · exact .of_bulk (m.raiseAs_active b bit cls value h).2
  · obtain ⟨x, bulk, same⟩ := m.raiseAs_acts b bit cls value (by simpa using h)
    rw [same]
    exact (GatesKept.of_bulk bulk).trans (.classActs x b bit cls)

theorem GatesKept.raise (m : Mod) (b bit : Nat) (value : Option Rat) : GatesKept m (m.raise b bit value) := by
  unfold Mod.raise
  split
  · exact .raiseAs m _ _ _ _
  · exact .refl m

/-! ## Entries, records, frames -/

theorem Starts.of_plant {fs : List Fam} {m m' : Mod} (only : OnlyFams fs m m') (free : unTold fs = true) (plant : m'.plant = m.plant) : Starts m m' := by
  have site := Mod.site_of_plant plant
  have kept := GatesKept.of_plant plant
  exact .of_only only free (Mod.stem_of_site site kept.2) (fun _ _ => Mod.keys_of_hull (Mod.hull_of_site site)) kept.1
    (fun k _ h => (Mod.closed_of_prot (Mod.prot_of_plant plant) k).trans h)

theorem Starts.of_site {fs : List Fam} {m m' : Mod} (only : OnlyFams fs m m') (free : unTold fs = true) (site : m'.site = m.site)
    (kept : GatesKept m m') : Starts m m' :=
  .of_only only free (Mod.stem_of_site site kept.2) (fun _ _ => Mod.keys_of_hull (Mod.hull_of_site site)) kept.1
    (fun k _ h => (Mod.closed_of_prot (Mod.prot_of_hull (Mod.hull_of_site site)) k).trans h)

theorem Starts.setV (m : Mod) (f : Fam) (i : Nat) (v : Val) (free : unTold [f] = true) : Starts m (m.setV f i v) :=
  .of_plant (.setV m i v (by simp)) free rfl

/-- The entries stay, and every field that a start is told by. -/
theorem Starts.of_fields {m m' : Mod} (od : m'.od = m.od) (stem : m'.stem = m.stem) (keys : m'.keys = m.keys) (stg : m'.stg = m.stg)
    (prot : m'.prot = m.prot) : Starts m m' :=
  .of_only (fs := []) (OnlyFams.of_od (.refl _ m) od) rfl stem (fun _ _ => keys) (fun g h => (Mod.pathOff_of_stg stg g).trans h)
    (fun k _ h => (Mod.closed_of_prot prot k).trans h)

theorem Starts.modNet (m : Mod) (f : Net → Net) : Starts m (m.modNet f) := .of_fields rfl rfl rfl rfl rfl
theorem Starts.modLink (m : Mod) (l : Nat) (f : LinkS → LinkS) : Starts m (m.modLink l f) := .of_fields rfl rfl rfl rfl rfl

theorem Starts.carry (m old : Mod) (f : Fam) (free : unTold [f] = true) : Starts m (m.carry old f) :=
  .each (fun i x => .setV x f i _ free) _ m

theorem Starts.carryAll (m old : Mod) (fs : List Fam) (free : ∀ f ∈ fs, unTold [f] = true) : Starts m (m.carryAll old fs) := by
  unfold Mod.carryAll
  induction fs generalizing m with
  | nil => exact .refl m
  | cons f r ih => exact (Starts.carry m old f (free f (by simp))).trans (ih _ fun g hg => free g (List.mem_cons_of_mem _ hg))

theorem logFams_unTold : unTold logFams = true := by decide +kernel
theorem outFams_unTold : unTold outFams = true := by decide +kernel
theorem stageFams_unTold : unTold stageFams = true := by decide +kernel
theorem forceFams_unTold : unTold forceFams = true := by decide +kernel

theorem Starts.logPut (m : Mod) (r : LogRec) : Starts m (m.logPut r) := .of_plant (.logPut m r) logFams_unTold (m.plant_logPut r)

theorem Starts.originate (m : Mod) {cls : Nat} (typ dst : Nat) (content : List Nat) (hc : cls ≤ 2) : Starts m (m.originate cls typ dst content) :=
  .of_plant (.originate m typ dst content hc) outFams_unTold (m.plant_originate _ _ _ _)

theorem Starts.commit (m : Mod) (f : Fam) (i : Nat) (v : Val) (free : unTold [f] = true) : Starts m (m.commit f i v) :=
  (Starts.setV m f i v free).trans (.of_fields rfl rfl rfl rfl rfl)

theorem Starts.arm (m : Mod) (T : Tmr) (d : Nat) : Starts m (m.arm T d) := .of_fields rfl rfl rfl rfl rfl
theorem Starts.disarm (m : Mod) (T : Tmr) : Starts m (m.disarm T) := .of_fields rfl rfl rfl rfl rfl

/-! ## Sources and gates -/

/-- What raising a source touches beside FLT_ACTIVE and FLT_STICKY says nothing of a start. -/
theorem raiseEffects_unTold : unTold raiseEffects = true := by decide +kernel

theorem fault_keys_apart : ∀ b < 16, ∀ k ∈ startKeys, k ≠ E.FLT_ACTIVE.key b ∧ k ≠ E.FLT_STICKY.key b := by decide +kernel

theorem fault_keys_ne : ∀ b < 16, E.FLT_ACTIVE.key 8 ≠ E.FLT_STICKY.key b ∧ E.FLT_STICKY.key 8 ≠ E.FLT_ACTIVE.key b ∧
    (b ≠ 8 → E.FLT_ACTIVE.key 8 ≠ E.FLT_ACTIVE.key b ∧ E.FLT_STICKY.key 8 ≠ E.FLT_STICKY.key b) := by decide +kernel

theorem Mod.bitOf_setBit_key (m : Mod) {f g : Fam} {i j : Nat} (k l : Nat) (b : Bool) (h : g.key j ≠ f.key i) :
    (m.setBit f i k b).bitOf g j l = m.bitOf g j l := by
  unfold Mod.bitOf
  rw [Mod.setBit_eq, Mod.n_setV_ne _ _ _ _ _ _ h]

/-- A source's bits, as source 8:1 sees them: both of its own are set, or it stays as it was. -/
theorem Mod.sourceBits_marks (m : Mod) {b : Nat} (bit : Nat) (hb : b < 16) :
    ((m.sourceBits b bit).bitOf E.FLT_STICKY 8 1 = true) ∨
    ((m.sourceBits b bit).bitOf E.FLT_STICKY 8 1 = m.bitOf E.FLT_STICKY 8 1 ∧ (m.sourceBits b bit).bitOf E.FLT_ACTIVE 8 1 = m.bitOf E.FLT_ACTIVE 8 1) := by
  obtain ⟨as, sa, other⟩ := fault_keys_ne b hb
  unfold Mod.sourceBits
  by_cases h8 : b = 8
  · subst h8
    by_cases h1 : bit = 1
    · subst h1
      exact .inl (Mod.bitOf_setBit_same _ 1 true (by decide))
    · refine .inr ⟨(Mod.bitOf_setBit_ne _ true (by decide) (Ne.symm h1)).trans (Mod.bitOf_setBit_key m bit 1 true sa), ?_⟩
      exact (Mod.bitOf_setBit_key _ bit 1 true as).trans (m.bitOf_setBit_ne true (by decide) (Ne.symm h1))
  · obtain ⟨aa, ss⟩ := other h8
    exact .inr ⟨(Mod.bitOf_setBit_key _ bit 1 true ss).trans (Mod.bitOf_setBit_key m bit 1 true sa),
      (Mod.bitOf_setBit_key _ bit 1 true as).trans (Mod.bitOf_setBit_key m bit 1 true aa)⟩

theorem Starts.sourceBits (m : Mod) {b : Nat} (bit : Nat) (hb : b < 16) : Starts m (m.sourceBits b bit) := by
  have marks := m.sourceBits_marks bit hb
  refine ⟨fun k hk => ?_, rfl, fun _ _ => rfl, fun _ h => h, fun _ _ h => h, fun h => ?_, fun h a => ?_⟩
  · obtain ⟨active, sticky⟩ := fault_keys_apart b hb k hk
    exact (Mod.odGet_setV_ne _ E.FLT_STICKY b _ sticky).trans (Mod.odGet_setV_ne m E.FLT_ACTIVE b _ active)
  · exact marks.elim id fun same => same.1.trans h
  · exact marks.elim id fun same => same.1.trans (h (same.2.symm.trans a))

theorem Starts.raiseAs (m : Mod) {b : Nat} (bit cls : Nat) (value : Option Rat) (hb : b < 16) : Starts m (m.raiseAs b bit cls value) := by
  have hull := m.hull_raiseAs b bit cls value
  have gates := GatesKept.raiseAs m b bit cls value
  have pst : (m.raiseAs b bit cls value).pst = m.pst := by have same := congrArg Mod.pst hull; exact same
  have rst : (m.raiseAs b bit cls value).rst = m.rst := by have same := congrArg Mod.rst hull; exact same
  have stem : (m.raiseAs b bit cls value).stem = m.stem := by
    unfold Mod.stem
    rw [pst, rst, Mod.tb_of_hull hull, Mod.phase_of_hull hull, gates.2]
  have keys := Mod.keys_of_hull hull
  have prot := Mod.prot_of_hull hull
  by_cases h : m.bitOf E.FLT_ACTIVE b bit = true
  · exact .of_only (fs := []) (OnlyFams.of_od (.refl _ m) (m.raiseAs_active b bit cls value h).1) rfl stem (fun _ _ => keys) gates.1
      (fun k _ h => (Mod.closed_of_prot prot k).trans h)
  · exact (Starts.sourceBits m bit hb).trans (.of_only (OnlyFams.raiseAs_effects m b bit cls value (by simpa using h)) raiseEffects_unTold
      stem (fun _ _ => keys) gates.1 (fun k _ h => (Mod.closed_of_prot prot k).trans h))

theorem Starts.raise (m : Mod) {b : Nat} (bit : Nat) (value : Option Rat) (hb : b < 16) : Starts m (m.raise b bit value) := by
  unfold Mod.raise
  split
  · exact .raiseAs m _ _ _ hb
  · exact .refl m

/-- Source 8:1 is sticky once it has been raised. -/
theorem Mod.raise_marks (m : Mod) (h : Marked m) : (m.raise 8 1).bitOf E.FLT_STICKY 8 1 = true := by
  rw [Mod.raise_eq m none (show srcClass 8 1 = some 2 by decide)]
  exact (Starts.raiseAs m 1 2 none (by decide)).marked h (m.raiseAs_bitOf 1 2 none (by decide))

theorem Starts.lower (m : Mod) {b : Nat} (bit : Nat) (hb : b < 16) (h8 : b ≠ 8) : Starts m (m.lower b bit) := by
  obtain ⟨-, sa, other⟩ := fault_keys_ne b hb
  have shown : Starts m (m.setBit E.FLT_ACTIVE b bit false) := by
    have sticky := m.bitOf_setBit_key bit 1 false sa
    have active := m.bitOf_setBit_key bit 1 false (other h8).1
    exact ⟨fun k hk => Mod.odGet_setV_ne m E.FLT_ACTIVE b _ (fault_keys_apart b hb k hk).1, rfl, fun _ _ => rfl, fun _ h => h, fun _ _ h => h,
      fun h => sticky.trans h, fun h a => sticky.trans (h (active.symm.trans a))⟩
  unfold Mod.lower
  split
  · generalize m.setBit E.FLT_ACTIVE b bit false = x at *
    exact shown.trans (.of_fields rfl rfl rfl rfl rfl)
  · exact .refl m

theorem Starts.sync (m : Mod) {b : Nat} (bit : Nat) (cond : Bool) (value : Option Rat) (hb : b < 16) (h8 : b ≠ 8) :
    Starts m (m.sync b bit cond value) := by
  unfold Mod.sync
  split
  · split
    · exact .refl m
    · exact .raise m bit value hb
  · exact .lower m bit hb h8

theorem Starts.gateOff (m : Mod) (g c : Nat) : Starts m (m.gateOff g c) := .of_site (.gateOff m g c) stageFams_unTold (m.site_gateOff g c) (.gateOff m g c)

theorem Starts.gateOffBoth (m : Mod) (c : Nat) : Starts m (m.gateOffBoth c) := (Starts.gateOff m 0 c).trans (.gateOff _ 1 c)

theorem Starts.force (m : Mod) (c : Nat) : Starts m (m.force c) := .of_site (.force m c) forceFams_unTold (m.site_force c) (.force m c)

theorem Starts.ilko (m : Mod) : Starts m m.ilko := .of_plant (.ilko m) (by decide +kernel) m.plant_ilko

/-- A gate cause other than the path's is taken back. -/
theorem Starts.ungate (m : Mod) (g : Nat) {c : Nat} (h : c ≠ 5) : Starts m (m.modStg g (fun x => { x with gate := Sys2Proof.setBit x.gate c false })) := by
  have kept := GatesKept.modStg m g (fun x => { x with gate := Sys2Proof.setBit x.gate c false }) fun x hx =>
    (bit_setBit_ne x.gate false (Ne.symm h)).trans hx
  exact .of_site (fs := []) (fun _ _ => rfl) rfl rfl kept

theorem Starts.portGate (m : Mod) (g : Nat) (on : Bool) : Starts m (m.portGate g on) := by
  unfold Mod.portGate
  split
  · exact .gateOff m g 1
  · split
    · exact .refl m
    · exact .ungate m g (by decide)

theorem Starts.portGates (m : Mod) : Starts m m.portGates := by
  rw [Mod.portGates_eq]
  exact (Starts.portGate m 0 _).trans (.portGate _ 1 _)

theorem Starts.syncPorts (m : Mod) : Starts m m.syncPorts :=
  ((Starts.sync m 0 _ none (b := 12) (by decide) (by decide)).trans (.sync _ 1 _ none (by decide) (by decide))).trans (.sync _ 2 _ none (by decide) (by decide))

theorem Starts.unforce (m : Mod) (c : Nat) : Starts m (m.unforce c) := by
  unfold Mod.unforce
  extract_lets was x y
  have shown : Starts m x := (Starts.setV m E.SAFE_FORCE_SRC 0 _ (by decide +kernel)).trans (.ilko _)
  clear_value x
  have freed : Starts x y := .when x _ (.each (fun g z => .ungate z g (by decide)) 2 x)
  clear_value y
  exact (shown.trans freed).trans (.when y _ (.logPut y _))

/-! ## Ports, links, monitors -/

/-- A switch of an auxiliary output or of BRK closes. -/
theorem Starts.closeSwitch (m : Mod) {k : Nat} (h : 6 ≤ k) : Starts m (m.closeSwitch k) := by
  unfold Mod.closeSwitch
  split
  · exact .refl m
  · refine .of_only (fs := []) (fun _ _ => rfl) rfl rfl (fun _ _ => rfl) (fun _ h => h) fun j hj hc => ?_
    have other : (m.modProt k (fun x => { x with closed := true, openedAt := none, zeroFrom := none })).protOf j = m.protOf j :=
      getD_modAt_ne _ _ _ (by omega)
    unfold Mod.closed at hc ⊢
    rw [other]
    exact hc

theorem Starts.commitNew (m : Mod) (f : Fam) (v : Nat) (free : unTold [f] = true) : Starts m (m.commitNew f v) := .when m _ (.commit m f 0 _ free)

theorem Starts.setRole (m : Mod) (role idx gen : Nat) : Starts m (m.setRole role idx gen) := by
  rw [Mod.setRole_eq]
  have put := ((Starts.commitNew m E.SHARE_ROLE role (by decide +kernel)).trans (.commitNew _ E.SHARE_IDX idx (by decide +kernel))).trans
    (.commitNew _ E.SHARE_GEN gen (by decide +kernel))
  generalize ((m.commitNew E.SHARE_ROLE role).commitNew E.SHARE_IDX idx).commitNew E.SHARE_GEN gen = x at *
  exact put.trans (.when x _ ((Starts.setV x E.LL_TRIM 0 _ (by decide +kernel)).trans (.modNet _ _)))

theorem Starts.giveUpRoles (m : Mod) : Starts m m.giveUpRoles :=
  ((Starts.setV m E.NET_ROLE 0 _ (by decide +kernel)).trans (.setV _ E.NET_FLAGS 0 _ (by decide +kernel))).trans (.of_fields rfl rfl rfl rfl rfl)

theorem Starts.ringHead (m : Mod) : Starts m m.ringHead := by
  unfold Mod.ringHead
  extract_lets own par x y
  have shown : Starts m x := .setV m E.NET_FLAGS 0 _ (by decide +kernel)
  clear_value x
  have heads : Starts x y := .when x _ ((Starts.giveUpRoles x).trans (.setV _ E.NET_ROLE 0 _ (by decide +kernel)))
  clear_value y
  exact (shown.trans heads).trans (.when y _ (((Starts.giveUpRoles y).trans (.setV _ E.NET_ADDR_P 0 _ (by decide +kernel))).trans
    (.modNet _ _)))

theorem Starts.ringSize (m : Mod) (alone : Bool) : Starts m (m.ringSize alone) := by
  unfold Mod.ringSize
  split
  · extract_lets x
    have one : Starts m x := (Starts.setV m E.RING_N 0 _ (by decide +kernel)).trans (.modNet _ _)
    clear_value x
    exact one.trans (.when x _ (.setRole x _ _ _))
  · exact .of_fields rfl rfl rfl rfl rfl

theorem Starts.ringShape (m : Mod) : Starts m m.ringShape := by
  rw [Mod.ringShape_eq]
  exact (Starts.ringHead m).trans (.ringSize _ _)

theorem Starts.imdTo (m : Mod) (st : Nat) : Starts m (m.imdTo st) := by
  unfold Mod.imdTo
  split
  · exact .refl m
  · extract_lets x y act
    have noted : Starts m x := (Starts.setV m E.IMD_STATE 0 _ (by decide +kernel)).trans (.logPut _ _)
    clear_value x
    have told : Starts x y := .originate x _ _ _ (by decide)
    clear_value y
    refine (noted.trans told).trans ?_
    split
    · have classed : Starts y (y.modFlt 15 (fun x => { x with imdClass := act })) := .of_fields rfl rfl rfl rfl rfl
      generalize y.modFlt 15 (fun x => { x with imdClass := act }) = z at *
      exact classed.trans (.raiseAs z 0 act _ (by decide))
    · split
      · exact .lower y 0 (by decide) (by decide)
      · exact .refl y

theorem Starts.imdStop (m : Mod) (role : Nat) : Starts m (m.imdStop role) :=
  (((Starts.setV m E.IMD_ROLE 0 _ (by decide +kernel)).trans (.setV _ E.IMD_RISO 0 _ (by decide +kernel))).trans (.imdTo _ 0)).trans (.disarm _ _)

theorem Starts.imdStart (m : Mod) : Starts m m.imdStart := .when m _ ((Starts.setV m E.IMD_ROLE 0 _ (by decide +kernel)).trans (.imdTo _ 4))

theorem Starts.imdOffer (m : Mod) : Starts m m.imdOffer := .when m _ (.setV m E.IMD_ROLE 0 _ (by decide +kernel))

theorem Starts.imdRefresh (m : Mod) : Starts m m.imdRefresh := by
  unfold Mod.imdRefresh
  split
  · exact .imdStop m 0
  · split
    · exact .imdStart m
    · exact ((Starts.when m _ (.imdStop m 0)).trans (.imdOffer _)).trans (.when _ _ (.logPut _ _))

theorem Starts.estopRefresh (m : Mod) : Starts m m.estopRefresh := by
  unfold Mod.estopRefresh
  split
  · exact .when m _ (.setV m E.ESTOP_STATE 0 _ (by decide +kernel))
  · extract_lets _ x
    have reset : Starts m x := .of_fields rfl rfl rfl rfl rfl
    clear_value x
    exact (reset.trans (.setV x E.ESTOP_STATE 0 _ (by decide +kernel))).trans (.when _ _ (.unforce _ 0))

theorem Starts.ilkRefresh (m : Mod) : Starts m m.ilkRefresh := by
  unfold Mod.ilkRefresh
  split
  · exact .when m _ (.setV m E.ILK_STATE 0 _ (by decide +kernel))
  · extract_lets _ x
    have reset : Starts m x := .of_fields rfl rfl rfl rfl rfl
    clear_value x
    exact (reset.trans (.setV x E.ILK_STATE 0 _ (by decide +kernel))).trans (.when _ _ (.unforce _ 1))

theorem Starts.senseRefresh (m : Mod) (j : Nat) : Starts m (m.senseRefresh j) := by
  unfold Mod.senseRefresh
  split
  · exact .when m _ (.setV m E.SNS_STATE j _ (by decide +kernel))
  · have reset : Starts m { m.setN E.SNS_STATE j 0 with sns := setAt {} m.sns j {} } :=
      (Starts.setV m E.SNS_STATE j (.num 0) (by decide +kernel)).trans (.of_fields rfl rfl rfl rfl rfl)
    generalize ({ m.setN E.SNS_STATE j 0 with sns := setAt {} m.sns j {} } : Mod) = x at *
    dsimp only
    split
    · exact reset
    · exact reset.trans (.lower x 4 (by decide) (by decide))

theorem Starts.linkRefresh (m : Mod) (l : Nat) : Starts m (m.linkRefresh l) := by
  unfold Mod.linkRefresh
  split
  · have down : Starts m ((m.setN E.LINK_STATE l 0).modLink l (fun x => { x with phy := false })) :=
      (Starts.setV m E.LINK_STATE l _ (by decide +kernel)).trans (.modLink _ l _)
    exact down.trans (.ringShape _)
  · exact .when m _ (.setV m E.LINK_STATE l _ (by decide +kernel))

theorem Starts.termRefresh (m : Mod) : Starts m m.termRefresh := .of_fields rfl rfl rfl rfl rfl

theorem Starts.refreshAll (m : Mod) : Starts m m.refreshAll := by
  unfold Mod.refreshAll
  extract_lets x y z w
  have stops : Starts m x := (Starts.estopRefresh m).trans (.ilkRefresh _)
  clear_value x
  have senses : Starts x y := .each (fun j a => .senseRefresh a j) 2 x
  clear_value y
  have links : Starts y z := .each (fun l a => .linkRefresh a l) 4 y
  clear_value z
  have delays : Starts z w := by
    have shown : Starts z (z.each 5 (fun k m => m.setN E.QUAL_DLY_EFF k (m.n E.QUAL_DLY k))) :=
      .each (fun k a => .setV a E.QUAL_DLY_EFF k _ (by decide +kernel)) 5 z
    exact shown.trans (.termRefresh _)
  clear_value w
  exact ((((stops.trans senses).trans links).trans delays).trans (.when w _ (.setV w E.CAP_LEN 0 _ (by decide +kernel)))).trans (.imdRefresh _)

theorem Starts.heatTo (m : Mod) (h : Rat) : Starts m (m.heatTo h) := by
  unfold Mod.heatTo
  extract_lets g top pct x warm y
  have shown : Starts m x := ((Starts.setV m E.BRK_HEAT 0 _ (by decide +kernel)).trans (.setV _ E.BRK_HEAT_PCT 0 _ (by decide +kernel))).trans
    (.setV _ E.BRK_LIMITING 0 _ (by decide +kernel))
  clear_value x
  have noted : Starts x y := .when x _ (.logPut x _)
  clear_value y
  exact (shown.trans noted).trans (.of_fields rfl rfl rfl rfl rfl)

theorem Starts.bmsRestart (m : Mod) : Starts m m.bmsRestart := by
  have reset : Starts m { m with bms := { m.bms with last := List.replicate 5 m.tb, written := false } } := .of_fields rfl rfl rfl rfl rfl
  unfold Mod.bmsRestart
  generalize ({ m with bms := { m.bms with last := List.replicate 5 m.tb, written := false } } : Mod) = x at *
  exact (reset.trans (.setV x E.BMS_FRESH 0 _ (by decide +kernel))).trans (.setV _ E.BMS_AGE 0 _ (by decide +kernel))

theorem Starts.profileCheck (m : Mod) (n : Nat) : Starts m (m.profileCheck n) :=
  (Starts.setV m E.PROF_ERR n _ (by decide +kernel)).trans (.setV _ E.PROF_VALID n _ (by decide +kernel))

theorem Starts.estopTo (m : Mod) (st : Nat) : Starts m (m.estopTo st) := by
  have open_ : Starts m { m with safe := { m.safe with estopOpen := true } } := .of_fields rfl rfl rfl rfl rfl
  unfold Mod.estopTo
  generalize ({ m with safe := { m.safe with estopOpen := true } } : Mod) = x at *
  exact (open_.trans (.setV x E.ESTOP_STATE 0 _ (by decide +kernel))).trans (.force _ 0)

theorem Starts.ilkOpened (m : Mod) : Starts m m.ilkOpened := by
  unfold Mod.ilkOpened
  split
  · have open_ : Starts m { m with safe := { m.safe with ilkOpen := true, ilkOpenAt := m.tb } } := .of_fields rfl rfl rfl rfl rfl
    generalize ({ m with safe := { m.safe with ilkOpen := true, ilkOpenAt := m.tb } } : Mod) = x at *
    exact (open_.trans (.setV x E.ILK_STATE 0 _ (by decide +kernel))).trans (.force _ 1)
  · exact .refl m

end Sys2Proof.Machine
end

section
/-! PROOF. A start, part by part (R517). -/

set_option Elab.async false

namespace Sys2Proof.Machine

open Sys2Proof

/-! ## The parts of a start -/

/-- R519: what the AO domain has kept at a start of cause `c`. -/
def bootKept (c : Nat) (x : BootIn) : BootIn :=
  { x with records := c != 1 && x.records, heat := c != 1 && x.heat, theta := c != 1 && x.theta,
           counters := c != 1 && x.counters, totals := c != 1 && x.totals, fails := c != 1 && x.fails,
           evidence := c != 1 && x.evidence, queue := c != 1 && x.queue }

/-- R394, R446: the secrets as they were before the journal records that are not durable. -/
def Mod.bootKeys (old : Mod) : Mod :=
  old.journal.foldr (fun (j : JRec) (m : Mod) => if 3 ≤ j.kind then j.olds.foldl (fun m o => m.putSecret j.kind o.2) m else m) old

/-- R343: the ring and station number that the parameter store gives. -/
def bootNumbers (p : List (Nat × Val)) : Nat := ((odGet p (E.NET_ADDR.key 0)).map (·.toNat)).getD 0xFFFF

/-- R517: the module as it begins, its memory afresh. -/
def Mod.bootBase (old : Mod) (x kept : BootIn) (p : List (Nat × Val)) : Mod :=
  { pst := p, tb := old.tb, meas := { pkT := List.replicate 8 old.tb, stepT := old.tb }, phase := .running, rst := none, freeCtr := old.freeCtr,
    sens := old.sens, mean := old.mean, log := old.log, retired := old.retired, keys := old.bootKeys.keys, fw := { old.fw with sectors := 0 }, elog := old.elog,
    ePos := old.ePos - old.elogQ.length, cal := if x.crcBad.contains (E.CAL_ID.key 0) then [] else old.cal,
    safe := { estopOpen := old.safe.estopOpen, ilkOpen := old.safe.ilkOpen, tamperOpen := old.safe.tamperOpen },
    q26Lost := if kept.queue then old.q26Lost + old.q26.length else 0,
    net := { ring := bootNumbers p / 256, stn := bootNumbers p % 256, parLgen := ((odGet p (E.NET_ADDR_P.key 0)).map (·.toNat)).getD 0 } }

/-- R411: the committed entries take the parameter store's values. -/
def Mod.bootStore (m : Mod) (p : List (Nat × Val)) : Mod :=
  ((p.filter (fun e => !numberPlaces.contains e.1)).foldl (fun m e => m.putPlace e.1 e.2) m).latchControls

/-- R519: the lifetime counters, where the AO domain has kept them. -/
def Mod.bootCounters (m old : Mod) (on : Bool) : Mod :=
  if on then
    { (m.carryAll old [E.BAT_AH_IN_LIFE, E.BAT_AH_OUT_LIFE, E.E_POS, E.E_NEG]) with
      meas := { m.meas with ePos := old.meas.ePos, eNeg := old.meas.eNeg, qIn := old.meas.qIn, qOut := old.meas.qOut } }
  else m

/-- R519: what the module before leaves. -/
def Mod.bootCarried (m old : Mod) (c adv : Nat) (kept : BootIn) : Mod :=
  let m := m.carryAll old [E.LOG_CNT, E.LOG_NEXT, E.LOG_OVERWRITE]
  let m := if c != 1 then m.bootAo old c adv kept else m
  let m := m.bootCounters old kept.counters
  let m := m.when (c != 1) (fun m => m.setN E.RTC 0 (m.n E.RTC 0 + adv))
  ((m.bootHeat old kept adv).bootCap old c).telBegin

/-- R515, R519: the cause of the start. -/
def Mod.bootCause (m : Mod) (c : Nat) (kept : BootIn) : Mod :=
  let m := (m.setN E.RST_CAUSE 0 c).setB E.RET_VALID 0
    (kept.records && kept.heat && kept.theta && kept.counters && kept.totals && kept.fails && kept.evidence && kept.queue)
  (m.setB E.PLL_LOCK 0 true).setB E.FAULT_OUT 0 true

/-- R518: the epoch that begins, durable already. -/
def Mod.bootEpoch (m : Mod) (epoch : Nat) : Mod :=
  let m : Mod := { m with pst := odPut m.pst (E.EPOCH.key 0) (.num (epoch + 1)) }
  m.setN E.EPOCH 0 (epoch + 1)

/-- R448, R452: the tamper latch is read, and the firmware bank that runs is told. -/
def Mod.bootLatch (m old : Mod) (bankOk : Bool) : Mod :=
  let m := ((m.when (old.phase == .epochWait) (·.carry old E.ERASE_T)).bootTamper).bootFw bankOk
  m.when m.keys.scrub (·.scrubDone)

/-- R394, R411: what the parameter store's check has found. -/
def Mod.bootFaults (m : Mod) (old : Mod) (bad : List Nat) (calBad tries : Bool) : Mod :=
  let m := m.setN E.JOURNAL_ROLLBACK 0 old.journal.length
  let m := (m.setN E.PSTORE_ERR 0 bad.length).when (!bad.isEmpty) (·.raise 8 0)
  let m := m.when calBad (fun m => (m.setN E.CAL_STATE 0 1).raise 5 3)
  m.when tries (·.raise 8 1)

/-- R495: a keeper expiry is recorded. -/
def Mod.bootKeeper (m : Mod) : Mod :=
  if m.kpr.expiredAt.isSome then
    let r := m.record 0x0011 0 0xFF 0xFF 1 0 0 0xFF ([m.n E.KPR_CAUSE 0] ++ leBytes 2 (m.n E.KPR_MISSING 0) ++
      leBytes 4 (m.n E.KPR_PC0 0) ++ leBytes 4 (m.n E.KPR_PC1 0) ++ leBytes 8 (m.n E.KPR_LAST_SVC 0))
    let m := ({ m with kpr := { m.kpr with expiredAt := none } } : Mod).logPut r
    m.commitN E.KPR_EXP_CNT 0 (inc32 (m.n E.KPR_EXP_CNT 0))
  else m

/-- R334, R425: the records of a start. -/
def Mod.bootRecords (m old : Mod) (c epoch : Nat) (totals : Bool) : Mod :=
  let m := m.bootSession old totals
  let m := m.event 0x0020 (c :: leBytes 4 epoch)
  let m := m.bootKeeper
  let m := m.commit E.RST_CNTS 0 (.bytes (countCause (m.bytes E.RST_CNTS 0) c))
  m.when m.fw.trial (·.arm .trial (m.tb + sec 60))

/-- The ports of a module that starts. -/
def Mod.bootPorts (m : Mod) (live : Bool) : Mod :=
  let m : Mod := { m with usb := { m.usb with powered := live } }
  let m := m.each 2 (fun i m => m.when (m.protOk (6 + i)) (·.closeSwitch (6 + i)))
  (m.syncPorts).portGates

/-- What a start shows of the entries as they stand. -/
def Mod.bootShown (m old : Mod) (c : Nat) : Mod :=
  let m := m.each 16 (fun n m => m.profileCheck n)
  let m := (((m.bmsRestart).refreshAll).ringShape).heatTo m.safe.heat
  let m := m.arm .lifetime (m.tb + sec 3600)
  if c = 1 ∨ c = 8 then m.arm .holdup300 (m.tb + ms 300) else m.carry old E.HOLDUP_E

/-- R296: the safety inputs as the start finds them. -/
def Mod.bootSafe (m old : Mod) : Mod :=
  let m := if m.lockstep then (m.gateOffBoth 0).setB E.FAULT_OUT 0 false else m
  let m := m.when (m.b E.ESTOP_EN 0 && m.safe.estopOpen) (·.estopTo 1)
  let m := m.when (m.b E.ILK_EN 0 && old.safe.ilkOpen)
    (fun m => { m with safe := { m.safe with ilkOpen := false } }.ilkOpened)
  (m.when m.safe.tamperOpen (·.force 3)).ilko

/-- The module with its store and the AO domain's memory taken up. -/
def Mod.bootTaken (old : Mod) (c adv : Nat) (x : BootIn) : Mod :=
  (((old.bootBase x (bootKept c x) (old.loadStore x.crcBad)).bootStore (old.loadStore x.crcBad)).bootCarried old c adv (bootKept c x)).bootCause c (bootKept c x)

/-- The module with its epoch, its secrets and its faults. -/
def Mod.bootEntered (m old : Mod) (x : BootIn) (tries : Bool) : Mod :=
  (((m.bootEpoch old.durableEpoch).bootLatch old x.bankOk).bootFaults old (x.crcBad.filter (fun k => (odGet old.pst k).isSome))
    (x.crcBad.contains (E.CAL_ID.key 0)) tries)

/-- The rest of a start. -/
def Mod.bootEnds (m old : Mod) (c : Nat) (x : BootIn) : Mod :=
  ((((m.bootRecords old c old.durableEpoch (bootKept c x).totals).bootPorts x.portLive).bootShown old c).bootSafe old)

theorem Mod.boot0_eq (old : Mod) (c adv : Nat) (x : BootIn) (tries : Bool) :
    old.boot0 c adv x tries = ((old.bootTaken c adv x).bootEntered old x tries).bootEnds old c x := by
  unfold Mod.boot0
  extract_lets ao kept bad calBad p epoch numbers secrets tb fw base stored logged aoKept srcA srcB counted timed warm caused pinned durable entered latched scrubbed
    rolled checked calibrated raised closed told entry kpr logged_ keeper counts trial usb powered switched synced checked_ warmed life held locked stopped opened
  have taken : pinned = old.bootTaken c adv x := by
    have first : stored = (old.bootBase x (bootKept c x) p).bootStore p := rfl
    clear_value stored
    have carried : warm = stored.bootCarried old c adv (bootKept c x) := rfl
    clear_value warm
    have told : pinned = warm.bootCause c (bootKept c x) := rfl
    rw [told, carried, first]
    rfl
  clear_value pinned
  have enters : raised = pinned.bootEntered old x tries := by
    have begun : entered = pinned.bootEpoch old.durableEpoch := rfl
    clear_value entered
    have read : scrubbed = entered.bootLatch old x.bankOk := rfl
    clear_value scrubbed
    have found : raised = scrubbed.bootFaults old bad calBad tries := rfl
    rw [found, read, begun]
    rfl
  clear_value raised
  have records : trial = raised.bootRecords old c old.durableEpoch (bootKept c x).totals := rfl
  clear_value trial
  have ports : synced = trial.bootPorts x.portLive := rfl
  clear_value synced
  have shows : held = synced.bootShown old c := rfl
  clear_value held
  have ends : (opened.when opened.safe.tamperOpen (·.force 3)).ilko = held.bootSafe old := rfl
  rw [ends, shows, ports, records, enters, taken]
  rfl

/-! ## What each part keeps -/

theorem Starts.eraseSecrets {m : Mod} (cause : Nat) (latch : m.keys.latch = true) : Starts m (m.eraseSecrets cause) := by
  have none_ : ∀ {P : Prop}, m.keys.latch = false → P := fun h => absurd (latch.symm.trans h) (by decide)
  unfold Mod.eraseSecrets
  extract_lets _ x y
  have erased : Starts m x := .of_only (fs := []) (fun _ _ => rfl) rfl rfl (fun h => none_ h) (fun _ h => h) (fun _ _ h => h)
  clear_value x
  have journal : Starts x y := .of_fields rfl rfl rfl rfl rfl
  clear_value y
  exact ((erased.trans journal).trans (.setV y E.ERASE_T 0 _ (by decide +kernel))).trans (.arm _ _ _)

theorem Mod.eraseSecrets_latch (m : Mod) (cause : Nat) : (m.eraseSecrets cause).keys.latch = m.keys.latch := rfl

/-- A change of the key store of a module whose tamper latch is set. -/
theorem Starts.latchKeys {m : Mod} (k : Keys) (latch : m.keys.latch = true) : Starts m { m with keys := k } :=
  .of_only (fs := []) (fun _ _ => rfl) rfl rfl (fun h => absurd (latch.symm.trans h) (by decide)) (fun _ h => h) (fun _ _ h => h)

theorem Starts.bootErase (m : Mod) : Starts m m.bootErase ∧ m.bootErase.keys.latch = m.keys.latch := by
  unfold Mod.bootErase
  split
  · rename_i on
    have latch : m.keys.latch = true := (Bool.and_eq_true _ _ ▸ on : _ ∧ _).1
    have erased := Starts.eraseSecrets 2 latch
    have kept := m.eraseSecrets_latch 2
    dsimp only
    generalize m.eraseSecrets 2 = x at *
    exact ⟨erased.trans (.latchKeys _ (kept.trans latch)), kept⟩
  · exact ⟨.refl m, rfl⟩

theorem Starts.bootTamper (m : Mod) : Starts m m.bootTamper := by
  unfold Mod.bootTamper
  obtain ⟨erased, latch⟩ := Starts.bootErase m
  dsimp only
  generalize m.bootErase = x at *
  split
  · rename_i on
    have set_ : x.keys.latch = true := (Bool.and_eq_true _ _ ▸ on : _ ∧ _).1
    have noted := Starts.latchKeys { x.keys with latchNoted := true } set_
    generalize ({ x with keys := { x.keys with latchNoted := true } } : Mod) = y at *
    exact (erased.trans noted).trans (.logPut y _)
  · exact erased

theorem Starts.fw (m : Mod) (f : Fw) : Starts m { m with fw := f } := .of_fields rfl rfl rfl rfl rfl

theorem Starts.bootFw (m : Mod) (ok : Bool) : Starts m (m.bootFw ok) := by
  have failed : ∀ g : Fw, Starts m (({ m with fw := { g with trial := false, trialBoots := 0, switchPending := false, altState := 3 } } : Mod).fwEvent 2 3 0) :=
    fun g => (Starts.fw m _).trans (.logPut _ _)
  unfold Mod.bootFw
  dsimp only
  split
  · split
    · exact .fw m _
    · exact failed _
  · split
    · split
      · exact .fw m _
      · exact failed _
    · exact .refl m

theorem Starts.scrubbed (m : Mod) : Starts m (m.when m.keys.scrub (·.scrubDone)) := by
  cases scrub : m.keys.scrub
  · exact .refl m
  · refine .of_only (fs := []) (fun _ _ => rfl) rfl rfl (fun _ h => absurd (scrub.symm.trans h) (by decide)) (fun _ h => h) (fun _ _ h => h)

theorem Starts.bootLatch (m old : Mod) (ok : Bool) : Starts m (m.bootLatch old ok) := by
  have carried : Starts m (m.when (old.phase == .epochWait) (·.carry old E.ERASE_T)) := .when m _ (.carry m old E.ERASE_T (by decide +kernel))
  unfold Mod.bootLatch
  generalize m.when (old.phase == .epochWait) (·.carry old E.ERASE_T) = x at *
  exact ((carried.trans (.bootTamper x)).trans (.bootFw _ ok)).trans (.scrubbed _)

/-- What the parameter store's check has found, but for the epoch's attempts. -/
def Mod.bootChecked (m old : Mod) (bad : List Nat) (calBad : Bool) : Mod :=
  let m := m.setN E.JOURNAL_ROLLBACK 0 old.journal.length
  let m := (m.setN E.PSTORE_ERR 0 bad.length).when (!bad.isEmpty) (·.raise 8 0)
  m.when calBad (fun m => (m.setN E.CAL_STATE 0 1).raise 5 3)

theorem Mod.bootFaults_eq (m old : Mod) (bad : List Nat) (calBad tries : Bool) :
    m.bootFaults old bad calBad tries = (m.bootChecked old bad calBad).when tries (·.raise 8 1) := rfl

theorem Starts.bootChecked (m old : Mod) (bad : List Nat) (calBad : Bool) : Starts m (m.bootChecked old bad calBad) := by
  unfold Mod.bootChecked
  extract_lets x y
  have rolled : Starts m x := .setV m E.JOURNAL_ROLLBACK 0 _ (by decide +kernel)
  clear_value x
  have checked : Starts x y := (Starts.setV x E.PSTORE_ERR 0 _ (by decide +kernel)).trans (.when _ _ (.raise _ 0 none (by decide)))
  clear_value y
  exact (rolled.trans checked).trans (.when y _ ((Starts.setV y E.CAL_STATE 0 _ (by decide +kernel)).trans (.raise _ 3 none (by decide))))

theorem Starts.bootFaults (m old : Mod) (bad : List Nat) (calBad tries : Bool) : Starts m (m.bootFaults old bad calBad tries) := by
  rw [Mod.bootFaults_eq]
  exact (Starts.bootChecked m old bad calBad).trans (.when _ _ (.raise _ 1 none (by decide)))

theorem Starts.esess (m : Mod) (e : Esess) : Starts m { m with esess := e } := .of_fields rfl rfl rfl rfl rfl

theorem Starts.eraseStart (m : Mod) (w : Nat) : Starts m (m.eraseStart w) := by
  have begun : Starts m { m with eraseOp := some (w, m.tb), kpr := if m.kpr.running then { m.kpr with suspendedAt := some m.tb } else m.kpr } :=
    .of_fields rfl rfl rfl rfl rfl
  unfold Mod.eraseStart
  generalize ({ m with eraseOp := some (w, m.tb), kpr := if m.kpr.running then { m.kpr with suspendedAt := some m.tb } else m.kpr } : Mod) = x at *
  exact (begun.trans (.when x _ (.setV x E.KPR_STATE 0 _ (by decide +kernel)))).trans (.arm _ _ _)

theorem Starts.elogPut (m : Mod) (r : ERec) : Starts m (m.elogPut r) := by
  unfold Mod.elogPut Mod.elogPlace
  split
  · exact .of_fields rfl rfl rfl rfl rfl
  · have placed : Starts m { m with elog := r :: m.elog } := .of_fields rfl rfl rfl rfl rfl
    generalize ({ m with elog := r :: m.elog } : Mod) = x at *
    exact placed.trans (.when x _ (.eraseStart x 2))

theorem Starts.elogWrite (m : Mod) (kind seq : Nat) (tot : List Nat) (rtc : Nat) : Starts m (m.elogWrite kind seq tot rtc) := by
  unfold Mod.elogWrite
  extract_lets b used
  split
  · exact .esess m _
  · have moved : Starts m { m with ePos := m.ePos + 1, esess := { m.esess with seq := seq + 1, prev := b, gap := false } } := .of_fields rfl rfl rfl rfl rfl
    generalize ({ m with ePos := m.ePos + 1, esess := { m.esess with seq := seq + 1, prev := b, gap := false } } : Mod) = x at *
    exact moved.trans (.elogPut x _)

theorem Starts.bootSession (m old : Mod) (totals : Bool) : Starts m (m.bootSession old totals) := by
  unfold Mod.bootSession
  split
  · have gap : Starts m { m with esess := { old.esess with gap := true } } := .esess m _
    generalize ({ m with esess := { old.esess with gap := true } } : Mod) = x at *
    dsimp only
    cases totals
    · exact (gap.trans (.elogWrite x _ _ _ _)).trans (.esess _ _)
    · exact (gap.trans (.elogWrite x _ _ _ _)).trans (.esess _ _)
  · exact .refl m

theorem Starts.bootKeeper (m : Mod) : Starts m m.bootKeeper := by
  unfold Mod.bootKeeper
  split
  · extract_lets r _ y
    have noted : Starts m y := by
      have kept : Starts m { m with kpr := { m.kpr with expiredAt := none } } := .of_fields rfl rfl rfl rfl rfl
      exact kept.trans (.logPut _ _)
    clear_value y
    exact noted.trans (.commit y E.KPR_EXP_CNT 0 _ (by decide +kernel))
  · exact .refl m

theorem Starts.bootRecords (m old : Mod) (c epoch : Nat) (totals : Bool) : Starts m (m.bootRecords old c epoch totals) := by
  unfold Mod.bootRecords
  extract_lets x y z w
  have session : Starts m x := .bootSession m old totals
  clear_value x
  have told : Starts x y := .logPut x _
  clear_value y
  have keeper : Starts y z := .bootKeeper y
  clear_value z
  have counted : Starts z w := .commit z E.RST_CNTS 0 _ (by decide +kernel)
  clear_value w
  exact (((session.trans told).trans keeper).trans counted).trans (.when w _ (.arm w _ _))

theorem Starts.bootPorts (m : Mod) (live : Bool) : Starts m (m.bootPorts live) := by
  unfold Mod.bootPorts
  extract_lets _ x y
  have powered : Starts m x := .of_fields rfl rfl rfl rfl rfl
  clear_value x
  have closes : Starts x y := .each (fun i z => .when z _ (.closeSwitch z (by omega))) 2 x
  clear_value y
  exact ((powered.trans closes).trans (.syncPorts y)).trans (.portGates _)

theorem Starts.bootShown (m old : Mod) (c : Nat) : Starts m (m.bootShown old c) := by
  unfold Mod.bootShown
  extract_lets x y z
  have profiles : Starts m x := .each (fun n a => .profileCheck a n) 16 m
  clear_value x
  have shown : Starts x y := (((Starts.bmsRestart x).trans (.refreshAll _)).trans (.ringShape _)).trans (.heatTo _ _)
  clear_value y
  have armed : Starts y z := .arm y _ _
  clear_value z
  refine ((profiles.trans shown).trans armed).trans ?_
  split
  · exact .arm z _ _
  · exact .carry z old E.HOLDUP_E (by decide +kernel)

theorem Starts.bootSafe (m old : Mod) : Starts m (m.bootSafe old) := by
  unfold Mod.bootSafe
  extract_lets x y z
  have locked : Starts m x := by
    change Starts m (if m.lockstep then (m.gateOffBoth 0).setB E.FAULT_OUT 0 false else m)
    split
    · exact (Starts.gateOffBoth m 0).trans (.setV _ E.FAULT_OUT 0 _ (by decide +kernel))
    · exact .refl m
  clear_value x
  have stopped : Starts x y := .when x _ (.estopTo x 1)
  clear_value y
  have opened : Starts y z := by
    have reset : Starts y { y with safe := { y.safe with ilkOpen := false } } := .of_fields rfl rfl rfl rfl rfl
    exact .when y _ (reset.trans (.ilkOpened _))
  clear_value z
  exact (((locked.trans stopped).trans opened).trans (.when z _ (.force z 3))).trans (.ilko _)

theorem Starts.bootEnds (m old : Mod) (c : Nat) (x : BootIn) : Starts m (m.bootEnds old c x) :=
  (((Starts.bootRecords m old c _ _).trans (.bootPorts _ _)).trans (.bootShown _ old c)).trans (.bootSafe _ old)

/-! ## The entries that the parameter store gives -/

theorem Fam.inst_index {f : Fam} {index i : Nat} (h : f.inst index = some i) : f.index i = index := by
  unfold Fam.inst at h
  split at h
  · exact absurd h (by simp)
  · rename_i below
    dsimp only at h
    split at h
    · rename_i whole
      have place : f.stride * ((index - f.base) / f.stride) = index - f.base := Nat.mul_div_cancel' (Nat.dvd_of_mod_eq_zero whole.1)
      rw [Option.some.inj h] at place
      unfold Fam.index
      omega
    · exact absurd h (by simp)

theorem findEntry_place {index sub : Nat} {l : List Fam} {f : Fam} {i : Nat} (h : findEntry index sub l = some (f, i)) :
    f.index i = index ∧ f.sub = sub := by
  induction l with
  | nil => exact absurd h (by simp [findEntry])
  | cons g r ih =>
    unfold findEntry at h
    split at h
    · rename_i same
      split at h
      · rename_i j at_
        obtain ⟨rfl, rfl⟩ := Prod.mk.inj (Option.some.inj h)
        exact ⟨Fam.inst_index at_, same⟩
      · exact ih h
    · exact ih h

/-- The entry at a place stands there. -/
theorem entryAt_key {key : Nat} {f : Fam} {i : Nat} (h : entryAt key = some (f, i)) : f.key i = key := by
  obtain ⟨index, sub⟩ := findEntry_place h
  unfold Fam.key
  rw [index, sub]
  omega

/-- Places that the parameter store does not keep: the axes, and what block 8 has active. -/
def freshKeys : List Nat := [E.ENV_REQ.key 0, E.ENV_EFF.key 0, E.POWER_ACT.key 0, E.FLT_ACTIVE.key 8]

theorem freshKeys_uncommitted : ∀ k ∈ freshKeys, (entryAt k).any (·.1.committed) = false := by decide +kernel

/-- What a start is told by, beside its entries. -/
def Mod.begins (m : Mod) : Stem × Keys × List Stg × List Prot := (m.stem, m.keys, m.stg, m.prot)

theorem Mod.putPlace_begins (m : Mod) (k : Nat) (v : Val) : (m.putPlace k v).begins = m.begins := by
  unfold Mod.putPlace
  split <;> rfl

theorem Mod.odGet_putPlace_ne (m : Mod) {k j : Nat} (v : Val) (h : j ≠ k) : odGet (m.putPlace k v).od j = odGet m.od j := by
  unfold Mod.putPlace
  split
  · rename_i f i at_
    exact Mod.odGet_setV_ne m f i v fun e => h (e.trans (entryAt_key at_))
  · rfl

theorem Mod.putPlaces_od (l : List (Nat × Val)) (m : Mod) {j : Nat} (h : ∀ e ∈ l, j ≠ e.1) :
    odGet (l.foldl (fun m e => m.putPlace e.1 e.2) m).od j = odGet m.od j := by
  induction l generalizing m with
  | nil => rfl
  | cons e r ih =>
    exact (ih (m.putPlace e.1 e.2) fun a ha => h a (List.mem_cons_of_mem _ ha)).trans (m.odGet_putPlace_ne e.2 (h e (by simp)))

/-- R411: the parameter store gives nothing at a place that is not committed. -/
theorem Mod.loadStore_fresh (old : Mod) (bad : List Nat) {j : Nat} (hj : j ∈ freshKeys) :
    ∀ e ∈ (old.loadStore bad).filter (fun e => !numberPlaces.contains e.1), j ≠ e.1 := fun e he same => by
  obtain ⟨stored, place⟩ := List.mem_filter.1 he
  have number : numberPlaces.contains e.1 = false := by simpa using place
  unfold Mod.loadStore at stored
  have kept := (Bool.and_eq_true _ _ ▸ (List.mem_filter.1 stored).2 : _ ∧ _).1
  rw [number, Bool.or_false, ← same, freshKeys_uncommitted j hj] at kept
  exact absurd kept (by decide)

/-! ## The module as it begins -/

/-- A module that has begun to run as R517 has it, its axes at rest. -/
structure Begun (old m : Mod) : Prop where
  time : m.tb = old.tb
  runs : m.phase = .running ∧ m.rst = none ∧ m.modes.bootIssued = false
  keys : old.keys.latch = false → old.journal = [] → old.keys.scrub = false → m.keys = old.keys
  gates : ∀ g, m.pathOff g = true
  switches : ∀ k, k < 6 → m.closed k = false
  axes : m.n E.ENV_REQ 0 = 0 ∧ m.n E.ENV_EFF 0 = 0 ∧ m.n E.POWER_ACT 0 = 0
  marked : Marked m

theorem Mod.n_of_odGet {a b : Mod} {f : Fam} {i : Nat} (h : odGet a.od (f.key i) = odGet b.od (f.key i)) : a.n f i = b.n f i := by
  unfold Mod.n Mod.getV
  rw [h]

theorem Begun.starts {old a b : Mod} (h : Begun old a) (g : Starts a b) : Begun old b where
  time := (congrArg Stem.tb g.stem).trans h.time
  runs := ⟨(congrArg Stem.phase g.stem).trans h.runs.1, (congrArg Stem.rst g.stem).trans h.runs.2.1, (congrArg Stem.issued g.stem).trans h.runs.2.2⟩
  keys la jo sc := by
    have same := h.keys la jo sc
    exact (g.keys (by rw [same]; exact la) (by rw [same]; exact sc)).trans same
  gates k := g.gates k (h.gates k)
  switches k hk := g.switches k hk (h.switches k hk)
  axes := ⟨(Mod.n_of_odGet (g.told _ (by simp [startKeys]))).trans h.axes.1, (Mod.n_of_odGet (g.told _ (by simp [startKeys]))).trans h.axes.2.1,
    (Mod.n_of_odGet (g.told _ (by simp [startKeys]))).trans h.axes.2.2⟩
  marked := g.marked h.marked

theorem Mod.bootKeys_empty {old : Mod} (h : old.journal = []) : old.bootKeys = old := by
  unfold Mod.bootKeys
  rw [h]
  rfl

theorem replicate_getD {α : Type} (d : α) (n k : Nat) : ((List.replicate n d)[k]?).getD d = d := by
  rw [List.getElem?_replicate]
  split <;> rfl

theorem Begun.stored (old : Mod) (x kept : BootIn) : Begun old ((old.bootBase x kept (old.loadStore x.crcBad)).bootStore (old.loadStore x.crcBad)) := by
  have fresh : ∀ j ∈ freshKeys, odGet ((old.bootBase x kept (old.loadStore x.crcBad)).bootStore (old.loadStore x.crcBad)).od j = none := fun j hj =>
    Mod.putPlaces_od _ _ (old.loadStore_fresh x.crcBad hj)
  have begins : ((old.bootBase x kept (old.loadStore x.crcBad)).bootStore (old.loadStore x.crcBad)).begins =
      (⟨old.loadStore x.crcBad, old.tb, .running, none, false⟩, old.bootKeys.keys, List.replicate 2 {}, List.replicate 8 {}) :=
    foldl_keeps Mod.begins (fun m (e : Nat × Val) => m.putPlace e.1 e.2) (fun m e => m.putPlace_begins e.1 e.2)
      ((old.loadStore x.crcBad).filter (fun e => !numberPlaces.contains e.1)) (old.bootBase x kept (old.loadStore x.crcBad))
  generalize (old.bootBase x kept (old.loadStore x.crcBad)).bootStore (old.loadStore x.crcBad) = m at *
  have stem : m.stem = ⟨old.loadStore x.crcBad, old.tb, .running, none, false⟩ := congrArg (·.1) begins
  have keys : m.keys = old.bootKeys.keys := congrArg (·.2.1) begins
  have stg : m.stg = List.replicate 2 {} := congrArg (·.2.2.1) begins
  have prot : m.prot = List.replicate 8 {} := congrArg (·.2.2.2) begins
  have zero : ∀ f i, f.key i ∈ freshKeys → (f.dflt i).toNat = 0 → m.n f i = 0 := fun f i hf d => by
    unfold Mod.n Mod.getV
    rw [fresh _ hf]
    exact d
  refine ⟨congrArg Stem.tb stem, ⟨congrArg Stem.phase stem, congrArg Stem.rst stem, congrArg Stem.issued stem⟩, fun _ jo _ => ?_, fun g => ?_, fun k _ => ?_,
    ⟨zero E.ENV_REQ 0 (by simp [freshKeys]) (by decide), zero E.ENV_EFF 0 (by simp [freshKeys]) (by decide),
      zero E.POWER_ACT 0 (by simp [freshKeys]) (by decide)⟩, fun active => ?_⟩
  · rw [keys, Mod.bootKeys_empty jo]
  · unfold Mod.pathOff Mod.stgOf
    rw [stg, replicate_getD]
    exact (by decide : bit ({} : Stg).gate 5 = true)
  · unfold Mod.closed Mod.protOf
    rw [prot, replicate_getD]
  · unfold Mod.bitOf at active
    rw [zero E.FLT_ACTIVE 8 (by simp [freshKeys]) (by decide)] at active
    exact absurd active (by decide)

/-! ## What the module before leaves -/

theorem closed_map_open (f : Prot → Prot) (hf : ∀ p, (f p).closed = false) (l : List Prot) (k : Nat) : (((l.map f)[k]?).getD {}).closed = false := by
  rw [List.getElem?_map]
  cases l[k]? with
  | none => rfl
  | some p => exact hf p

theorem Starts.bootAo (m old : Mod) (c adv : Nat) (x : BootIn) : Starts m (m.bootAo old c adv x) := by
  unfold Mod.bootAo
  extract_lets y on _ z w
  have carried : Starts m y := .carryAll m old _ (by decide +kernel)
  clear_value y
  have prot : Starts y z := by
    exact .of_only (fs := []) (fun _ _ => rfl) rfl rfl (fun _ _ => rfl) (fun _ h => h)
      fun k _ _ => closed_map_open _ (fun p => by by_cases h : on <;> simp [h]) old.prot k
  clear_value z
  have keeper : Starts z w := .when z _ (.carryAll z old _ (by decide +kernel))
  clear_value w
  have evidence : Starts w { w with kpr := { w.kpr with expiredAt := old.kpr.expiredAt } } := .of_fields rfl rfl rfl rfl rfl
  exact ((carried.trans prot).trans keeper).trans (.when w _ (evidence.trans (.carryAll _ old _ (by decide +kernel))))

theorem Starts.bootCounters (m old : Mod) (on : Bool) : Starts m (m.bootCounters old on) := by
  unfold Mod.bootCounters
  split
  · have carried := Starts.carryAll m old [E.BAT_AH_IN_LIFE, E.BAT_AH_OUT_LIFE, E.E_POS, E.E_NEG] (by decide +kernel)
    generalize m.carryAll old [E.BAT_AH_IN_LIFE, E.BAT_AH_OUT_LIFE, E.E_POS, E.E_NEG] = x at *
    exact carried.trans (.of_fields rfl rfl rfl rfl rfl)
  · exact .refl m

theorem Starts.modProt (m : Mod) (k : Nat) (f : Prot → Prot) (hf : ∀ x, (f x).closed = x.closed) : Starts m (m.modProt k f) := by
  refine .of_only (fs := []) (fun _ _ => rfl) rfl rfl (fun _ _ => rfl) (fun _ h => h) fun j _ hc => ?_
  unfold Mod.closed at hc ⊢
  by_cases e : j = k
  · have same : (m.modProt k f).protOf j = f (m.protOf j) := by rw [e]; exact getD_modAt_same _ m.prot k f
    rw [same, hf]
    exact hc
  · have same : (m.modProt k f).protOf j = m.protOf j := getD_modAt_ne _ _ _ e
    rw [same]
    exact hc

theorem Starts.bootHeat (m old : Mod) (kept : BootIn) (dt : Rat) : Starts m (m.bootHeat old kept dt) := by
  unfold Mod.bootHeat
  extract_lets decay heat _ x theta
  have warm : Starts m x := .of_fields rfl rfl rfl rfl rfl
  clear_value x
  exact warm.trans (.each (fun k z => .modProt z k _ (by exact fun _ => rfl)) 8 x)

theorem Starts.bootCap (m old : Mod) (c : Nat) : Starts m (m.bootCap old c) := by
  unfold Mod.bootCap
  split
  · have carried := Starts.carryAll m old [E.CAP_NUM, E.CAP_TRIG_T, E.CAP_TRIG_CAUSE, E.CAP_FLAGS, E.CAP_MASK, E.CAP_DEC, E.CAP_LEN] (by decide +kernel)
    dsimp only
    generalize m.carryAll old [E.CAP_NUM, E.CAP_TRIG_T, E.CAP_TRIG_CAUSE, E.CAP_FLAGS, E.CAP_MASK, E.CAP_DEC, E.CAP_LEN] = x at *
    have cap : Starts x { x with cap := { old.cap with blocks := 0 } } := .of_fields rfl rfl rfl rfl rfl
    exact (carried.trans cap).trans (.setV _ E.CAP_STATE 0 _ (by decide +kernel))
  · exact .refl m

theorem Starts.telBegin (m : Mod) : Starts m m.telBegin := .of_fields rfl rfl rfl rfl rfl

theorem Starts.bootCarried (m old : Mod) (c adv : Nat) (kept : BootIn) : Starts m (m.bootCarried old c adv kept) := by
  unfold Mod.bootCarried
  extract_lets x y z w
  have logs : Starts m x := .carryAll m old _ (by decide +kernel)
  clear_value x
  have ao : Starts x y := by
    change Starts x (if c != 1 then x.bootAo old c adv kept else x)
    split
    · exact .bootAo x old c adv kept
    · exact .refl x
  clear_value y
  have counters : Starts y z := .bootCounters y old _
  clear_value z
  have clock : Starts z w := .when z _ (.setV z E.RTC 0 _ (by decide +kernel))
  clear_value w
  exact ((((logs.trans ao).trans counters).trans clock).trans (.bootHeat w old kept _)).trans ((Starts.bootCap _ old c).trans (.telBegin _))


/-! ## A whole start -/

/-- R515: the cause is told. -/
theorem Begun.bootCause {old m : Mod} (h : Begun old m) (c : Nat) (kept : BootIn) : Begun old (m.bootCause c kept) ∧
    (m.bootCause c kept).n E.RST_CAUSE 0 = c := by
  have rest : ∀ x : Mod, ∀ v : Bool, Starts x (((x.setB E.RET_VALID 0 v).setB E.PLL_LOCK 0 true).setB E.FAULT_OUT 0 true) := fun x v =>
    ((Starts.setV x E.RET_VALID 0 _ (by decide +kernel)).trans (.setV _ E.PLL_LOCK 0 _ (by decide +kernel))).trans
      (.setV _ E.FAULT_OUT 0 _ (by decide +kernel))
  have told : Begun old (m.setN E.RST_CAUSE 0 c) := by
    have apart : ∀ f : Fam, f.key 0 ≠ E.RST_CAUSE.key 0 → (m.setN E.RST_CAUSE 0 c).n f 0 = m.n f 0 := fun f hf => Mod.n_setN_ne m c hf
    have active := (OnlyFams.setV (fs := [E.RST_CAUSE]) (f := E.RST_CAUSE) m 0 (.num c) (by simp)).bitOf E.FLT_ACTIVE 8 1 (by decide)
    have sticky := (OnlyFams.setV (fs := [E.RST_CAUSE]) (f := E.RST_CAUSE) m 0 (.num c) (by simp)).bitOf E.FLT_STICKY 8 1 (by decide)
    obtain ⟨req, eff, power⟩ := h.axes
    exact ⟨h.time, h.runs, h.keys, h.gates, h.switches, ⟨(apart _ (by decide)).trans req, (apart _ (by decide)).trans eff, (apart _ (by decide)).trans power⟩,
      fun a => sticky.trans (h.marked (active.symm.trans a))⟩
  have cause : (m.setN E.RST_CAUSE 0 c).n E.RST_CAUSE 0 = c := Mod.n_setN_same m c (by decide)
  have same : m.bootCause c kept = (((m.setN E.RST_CAUSE 0 c).setB E.RET_VALID 0 (kept.records && kept.heat && kept.theta && kept.counters &&
      kept.totals && kept.fails && kept.evidence && kept.queue)).setB E.PLL_LOCK 0 true).setB E.FAULT_OUT 0 true := rfl
  have more := rest (m.setN E.RST_CAUSE 0 c) (kept.records && kept.heat && kept.theta && kept.counters && kept.totals && kept.fails && kept.evidence && kept.queue)
  rw [same]
  generalize m.setN E.RST_CAUSE 0 c = y at *
  exact ⟨told.starts more, (Mod.n_of_odGet (more.told _ (by simp [startKeys]))).trans cause⟩

/-- R518: the epoch begins, and is durable. -/
theorem Begun.bootEpoch {old m : Mod} (h : Begun old m) (e : Nat) : Begun old (m.bootEpoch e) ∧ (m.bootEpoch e).n E.EPOCH 0 = e + 1 ∧
    (m.bootEpoch e).durableEpoch = e + 1 ∧ (m.bootEpoch e).n E.RST_CAUSE 0 = m.n E.RST_CAUSE 0 := by
  have only : OnlyFams [E.EPOCH] m (m.bootEpoch e) := .setV (f := E.EPOCH) m 0 (.num (e + 1)) (by simp)
  have epoch : (m.bootEpoch e).n E.EPOCH 0 = e + 1 := Mod.n_setN_same { m with pst := odPut m.pst (E.EPOCH.key 0) (.num (e + 1)) } (e + 1) (by decide)
  have durable : (m.bootEpoch e).durableEpoch = e + 1 := by
    change ((odGet (odPut m.pst (E.EPOCH.key 0) (.num (e + 1))) (E.EPOCH.key 0)).getD (.num 0)).toNat = e + 1
    rw [odGet_odPut_same]
    rfl
  have active := only.bitOf E.FLT_ACTIVE 8 1 (by decide)
  have sticky := only.bitOf E.FLT_STICKY 8 1 (by decide)
  obtain ⟨req, eff, power⟩ := h.axes
  refine ⟨⟨h.time, h.runs, h.keys, h.gates, h.switches, ⟨?_, ?_, ?_⟩, fun a => sticky.trans (h.marked (active.symm.trans a))⟩, epoch, durable,
    only.n _ _ (by decide)⟩
  · exact (only.n _ _ (by decide)).trans req
  · exact (only.n _ _ (by decide)).trans eff
  · exact (only.n _ _ (by decide)).trans power

/-- What a start leaves running (R517, R518). -/
structure Booted (old : Mod) (c : Nat) (m : Mod) : Prop extends Begun old m where
  cause : m.n E.RST_CAUSE 0 = c
  epoch : m.n E.EPOCH 0 = old.durableEpoch + 1
  durable : m.durableEpoch = old.durableEpoch + 1

theorem Booted.starts {old a b : Mod} {c : Nat} (h : Booted old c a) (g : Starts a b) : Booted old c b where
  toBegun := h.toBegun.starts g
  cause := (Mod.n_of_odGet (g.told _ (by simp [startKeys]))).trans h.cause
  epoch := (Mod.n_of_odGet (g.told _ (by simp [startKeys]))).trans h.epoch
  durable := by
    have pst : b.pst = a.pst := congrArg Stem.pst g.stem
    have before := h.durable
    unfold Mod.durableEpoch at before ⊢
    rw [pst]
    exact before

theorem Mod.boot0_does (old : Mod) (c adv : Nat) (x : BootIn) (tries : Bool) : Booted old c (old.boot0 c adv x tries) ∧
    (tries = true → (old.boot0 c adv x tries).bitOf E.FLT_STICKY 8 1 = true) := by
  rw [Mod.boot0_eq]
  have begun := Begun.stored old x (bootKept c x)
  unfold Mod.bootTaken
  generalize (old.bootBase x (bootKept c x) (old.loadStore x.crcBad)).bootStore (old.loadStore x.crcBad) = a at *
  have carried := begun.starts (Starts.bootCarried a old c adv (bootKept c x))
  generalize a.bootCarried old c adv (bootKept c x) = b at *
  obtain ⟨told, cause⟩ := carried.bootCause c (bootKept c x)
  generalize b.bootCause c (bootKept c x) = d at *
  obtain ⟨entered, epoch, durable, same⟩ := told.bootEpoch old.durableEpoch
  unfold Mod.bootEntered
  generalize d.bootEpoch old.durableEpoch = e at *
  have booted : Booted old c e := ⟨entered, same.trans cause, epoch, durable⟩
  have latched := booted.starts (Starts.bootLatch e old x.bankOk)
  generalize e.bootLatch old x.bankOk = f at *
  rw [Mod.bootFaults_eq]
  generalize x.crcBad.filter (fun k => (odGet old.pst k).isSome) = bad
  generalize x.crcBad.contains (E.CAL_ID.key 0) = calBad
  have checked := latched.starts (Starts.bootChecked f old bad calBad)
  generalize f.bootChecked old bad calBad = g at *
  have raised : Starts g (g.when tries (·.raise 8 1)) := .when g _ (.raise g 1 none (by decide))
  have sticky : tries = true → (g.when tries (·.raise 8 1)).bitOf E.FLT_STICKY 8 1 = true := fun t => by
    rw [t]
    exact g.raise_marks checked.marked
  generalize g.when tries (·.raise 8 1) = h at *
  have ends := Starts.bootEnds h old c x
  exact ⟨(checked.starts raised).starts ends, fun t => ends.sticky (sticky t)⟩

end Sys2Proof.Machine
end

section
/-! PROOF. Start-up (R448, R516 to R518). -/

set_option Elab.async false

namespace Sys2Proof.Machine

open Sys2Proof

/-- What a start leaves of the server's memory (R392, R397, R443). -/
def Fresh (v : Srv) : Prop := v.stage = [] ∧ v.sessions.all (fun q => q.requester == usbRequester) = true ∧ v.asms = [] ∧ v.snaps = [] ∧ v.commit = none

theorem bootSrv_fresh (v : Srv) (m : Mod) (records fails : Bool) : Fresh (bootSrv v m records fails) := ⟨rfl, rfl, rfl, rfl, rfl⟩

theorem Fresh.setLevel {v : Srv} (h : Fresh v) (level now : Nat) : Fresh (v.setLevel usbRequester level now) := by
  obtain ⟨stage, sessions, asms, snaps, commit⟩ := h
  refine ⟨stage, ?_, asms, snaps, commit⟩
  have others : (v.sessions.filter (·.requester != usbRequester)).all (fun q => q.requester == usbRequester) = true :=
    List.all_eq_true.2 fun q hq => List.all_eq_true.1 sessions q (List.mem_filter.1 hq).1
  change ((usbRequester == usbRequester) && _) = true
  rw [others]
  rfl

/-- R430: an attach at a start. -/
theorem Starts.usbAttachWith (src : Bool) (x : Sys) : Starts x.1 (usbAttachWith src x).1 ∧ (Fresh x.2 → Fresh (usbAttachWith src x).2) := by
  refine ⟨?_, fun h => h.setLevel _ _⟩
  have attached : Starts x.1 { x.1 with usb := { powered := x.1.usb.powered, attached := true, attachSrc := src } } := .of_fields rfl rfl rfl rfl rfl
  unfold Machine.usbAttachWith
  dsimp only
  generalize ({ x.1 with usb := { powered := x.1.usb.powered, attached := true, attachSrc := src } } : Mod) = m at *
  have role : Starts m (m.usbRole src) := by
    have usb : Starts m { m with usb := { m.usb with discharging := src, srcOn := false, vbusLive := false, swapping := false } } :=
      .of_fields rfl rfl rfl rfl rfl
    unfold Mod.usbRole
    exact usb.trans (.setV _ E.USB_PWR_ROLE 0 _ (by decide +kernel))
  generalize m.usbRole src = n at *
  exact ((attached.trans role).trans (.setV n E.USB_DATA_ROLE 0 _ (by decide +kernel))).trans (.setV _ E.USB_STATE 0 _ (by decide +kernel))

/-- R517, R518: a start whose epoch is durable. -/
theorem bootRun_does (adv : Nat) (x : BootIn) (tries : Bool) (s : Sys) : Booted s.1 (s.1.rst.getD 1) (bootRun adv x tries s).1 ∧
    (tries = true → (bootRun adv x tries s).1.bitOf E.FLT_STICKY 8 1 = true) ∧ Fresh (bootRun adv x tries s).2 := by
  obtain ⟨booted, sticky⟩ := s.1.boot0_does (s.1.rst.getD 1) adv x tries
  have fresh := bootSrv_fresh s.2 (s.1.boot0 (s.1.rst.getD 1) adv x tries) (s.1.rst.getD 1 != 1 && x.records) (s.1.rst.getD 1 != 1 && x.fails)
  unfold bootRun
  dsimp only
  generalize bootSrv s.2 (s.1.boot0 (s.1.rst.getD 1) adv x tries) (s.1.rst.getD 1 != 1 && x.records) (s.1.rst.getD 1 != 1 && x.fails) = v at *
  generalize s.1.boot0 (s.1.rst.getD 1) adv x tries = m at *
  have noted : Starts m (m.when (!s.2.stage.isEmpty) (fun m => (m.setN E.STAGE_DISCARDS 0 1).noteAt E.STAGE_DISCARDS 0)) :=
    .when m _ ((Starts.setV m E.STAGE_DISCARDS 0 _ (by decide +kernel)).trans (.logPut _ _))
  generalize m.when (!s.2.stage.isEmpty) (fun m => (m.setN E.STAGE_DISCARDS 0 1).noteAt E.STAGE_DISCARDS 0) = n at *
  split
  · rename_i src _
    obtain ⟨attached, kept⟩ := Starts.usbAttachWith (src && n.mayBeSource) (n, v)
    generalize usbAttachWith (src && n.mayBeSource) (n, v) = y at *
    exact ⟨(booted.starts noted).starts attached, fun t => attached.sticky (noted.sticky (sticky t)), kept fresh⟩
  · exact ⟨booted.starts noted, fun t => noted.sticky (sticky t), fresh⟩

theorem Mod.gated_of_pathOff {m : Mod} {g : Nat} (h : m.pathOff g = true) : m.gated g = true := by
  refine bne_iff_ne.2 fun zero => ?_
  unfold Mod.pathOff at h
  rw [show (m.stgOf g).gate = 0 from zero] at h
  exact absurd h (by decide)

/-- A start from a module that tells of `m`'s store, secrets and journal is a start from `m`. -/
theorem Booted.startedFrom {m old : Mod} {y : Sys} (h : Booted old (m.rst.getD 1) y.1) (fresh : Fresh y.2) (pst : old.pst = m.pst)
    (keys : old.keys = m.keys) (journal : old.journal = m.journal) : StartedFrom old.tb m y := by
  have epoch : old.durableEpoch = m.durableEpoch := by
    unfold Mod.durableEpoch
    rw [pst]
  obtain ⟨phase, rst, issued⟩ := h.runs
  obtain ⟨req, eff, power⟩ := h.axes
  exact ⟨⟨phase, rst⟩, h.cause, epoch ▸ ⟨h.epoch, h.durable⟩, h.time, ⟨req, eff, power, issued⟩,
    ⟨Mod.gated_of_pathOff (h.gates 0), Mod.gated_of_pathOff (h.gates 1), h.switches⟩, fresh,
    fun la jo sc => (h.keys (keys ▸ la) (journal.trans jo) (keys ▸ sc)).trans keys⟩

/-! ## A start that does not run the module -/

/-- R448: SAFE reads the tamper latch. -/
theorem Mod.bootErase_secrets (m : Mod) : SecretsAtStart m m.bootErase := by
  unfold SecretsAtStart Mod.bootErase
  by_cases due : m.keys.latch = true ∧ m.keys.latchErased = false
  · rw [if_pos due, if_pos (by simp [due.1, due.2])]
    exact ⟨rfl, rfl, rfl, rfl, rfl⟩
  · rw [if_neg due, if_neg (by simpa using due)]

theorem Mod.bootErase_keeps (m : Mod) : SameOd [E.ERASE_T.key 0] m m.bootErase ∧ m.bootErase.pst = m.pst ∧ m.bootErase.rst = m.rst ∧ m.bootErase.tb = m.tb := by
  unfold Mod.bootErase
  split
  · exact ⟨fun k hk => Mod.odGet_setV_ne m E.ERASE_T 0 _ (by simpa using hk), rfl, rfl, rfl⟩
  · exact ⟨fun _ _ => rfl, rfl, rfl, rfl⟩

/-- The module as its start-up finds it: a reset that loses TB counts it anew (R515). -/
def Mod.woken (m : Mod) : Mod := { m with out := [], tb := if m.rst.getD 1 ≤ 2 ∨ m.rst.getD 1 = 8 then 0 else m.tb }

theorem startUp_eq {adv : Nat} {ok : Bool} {x : BootIn} {s : Sys} (held : s.1.rst.isSome = true) (off : s.1.phase = .off ∨ s.1.phase = .booting) :
    startUp adv ok x s = if s.1.durableEpoch = 0xFFFFFFFF then ({ s.1.woken.bootErase with phase := .stopped }, s.2)
      else if ok then bootRun adv x false (s.1.woken, s.2)
      else ({ (s.1.woken.setN E.ERASE_T 0 0).bootErase with phase := .epochWait, boot := some (adv, x) }, s.2) := by
  have some_ : s.1.rst.isNone = false := by
    cases h : s.1.rst
    · rw [h] at held
      exact absurd held (by decide)
    · rfl
  have waits : (s.1.phase == .off || s.1.phase == .booting) = true := by
    rcases off with h | h <;> rw [h] <;> decide
  have starts : ¬ (s.1.rst.isNone || !(s.1.phase == .off || s.1.phase == .booting)) = true := by
    rw [some_, waits]
    decide
  exact if_neg starts

/-- The module at a further attempt to write its epoch. -/
def Mod.hushed (m : Mod) : Mod := { m with out := [] }

theorem epochRetry_eq {adv : Nat} {ok : Bool} {x : BootIn} {s : Sys} (waits : s.1.phase = .epochWait) (boot : s.1.boot = some (adv, x)) :
    epochRetry ok s = if ok then bootRun adv x true (s.1.hushed, s.2) else (s.1.hushed, s.2) := by
  unfold epochRetry
  rw [waits, boot]
  rfl

end Sys2Proof.Machine

namespace Sys2Proof
open Machine

/-- Settles O44: a start is the composition of its parts, each of which keeps what the start is told by (`Starts`); where it does not
run the module, SAFE has read the tamper latch. -/
theorem startUpRuns : Obligations.StartUpRuns := by
  unfold Obligations.StartUpRuns
  refine ⟨?_, ?_, ?_, ?_, ?_⟩
  · intro adv x s held off below
    have runs : startUp adv true x (s.m, s.srv) = bootRun adv x false (s.m.woken, s.srv) :=
      (startUp_eq held off).trans (if_neg (Nat.ne_of_lt below))
    obtain ⟨booted, -, fresh⟩ := bootRun_does adv x false (s.m.woken, s.srv)
    refine ⟨bootRun adv x false (s.m.woken, s.srv), ?_, Booted.startedFrom (m := s.m) booted fresh rfl rfl rfl⟩
    change Host.Outcome.next { s with m := (startUp adv true x (s.m, s.srv)).1, srv := (startUp adv true x (s.m, s.srv)).2 } = _
    rw [runs]
  · intro adv x s held off below
    have waits := (startUp_eq (adv := adv) (ok := false) (x := x) (s := (s.m, s.srv)) held off).trans (if_neg (Nat.ne_of_lt below))
    have secrets := Mod.bootErase_secrets (s.m.woken.setN E.ERASE_T 0 0)
    obtain ⟨only, pst, rst, tb⟩ := Mod.bootErase_keeps (s.m.woken.setN E.ERASE_T 0 0)
    have cleared : SameOd [E.ERASE_T.key 0] s.m (s.m.woken.setN E.ERASE_T 0 0) := fun k hk =>
      Mod.odGet_setV_ne s.m.woken E.ERASE_T 0 _ (by simpa using hk)
    refine ⟨{ (s.m.woken.setN E.ERASE_T 0 0).bootErase with phase := .epochWait, boot := some (adv, x) }, ?_, rfl, rfl, pst, rst, tb, secrets,
      SameOd.trans cleared only⟩
    change Host.Outcome.next { s with m := (startUp adv false x (s.m, s.srv)).1, srv := (startUp adv false x (s.m, s.srv)).2 } = _
    rw [waits]
    rfl
  · intro adv ok x s held off top
    have stops := (startUp_eq (adv := adv) (ok := ok) (x := x) (s := (s.m, s.srv)) held off).trans (if_pos top)
    obtain ⟨only, pst, -, -⟩ := s.m.woken.bootErase_keeps
    refine ⟨{ s.m.woken.bootErase with phase := .stopped }, ?_, rfl, pst, s.m.woken.bootErase_secrets, only⟩
    change Host.Outcome.next { s with m := (startUp adv ok x (s.m, s.srv)).1, srv := (startUp adv ok x (s.m, s.srv)).2 } = _
    rw [stops]
  · intro adv x s waits boot _
    have runs : epochRetry true (s.m, s.srv) = bootRun adv x true (s.m.hushed, s.srv) := epochRetry_eq waits boot
    obtain ⟨booted, sticky, fresh⟩ := bootRun_does adv x true (s.m.hushed, s.srv)
    refine ⟨bootRun adv x true (s.m.hushed, s.srv), ?_, Booted.startedFrom (m := s.m) (old := s.m.hushed) booted fresh rfl rfl rfl, sticky rfl⟩
    change Host.Outcome.next { s with m := (epochRetry true (s.m, s.srv)).1, srv := (epochRetry true (s.m, s.srv)).2 } = _
    rw [runs]
  · intro adv x s waits boot
    have keeps : epochRetry false (s.m, s.srv) = (s.m.hushed, s.srv) := epochRetry_eq waits boot
    change Host.Outcome.next { s with m := (epochRetry false (s.m, s.srv)).1, srv := (epochRetry false (s.m, s.srv)).2 } = _
    rw [keeps]
    rfl

end Sys2Proof
end

section
/-! PROOF. The HOST2W window's desk. -/

set_option Elab.async false

namespace Sys2Proof.Machine

open Sys2Proof

/-- What of the window only its own transactions change: not HALERT, the responses that wait, the address in force and page 1. -/
def H2w.desk (h : H2w) : H2w := { h with mask := 0, pulled := false, waiting := [], addr := none, live := [] }

theorem H2w.desk_waiting (h : H2w) (w : List (List Nat)) : H2w.desk { h with waiting := w } = h.desk := rfl

theorem H2w.desk_pulled (h : H2w) (b : Bool) : H2w.desk { h with pulled := b } = h.desk := rfl

theorem H2w.desk_addr (h : H2w) (a : Option Nat) : H2w.desk { h with addr := a } = h.desk := rfl

@[simp] theorem desk_ite (c : Prop) [Decidable c] (a b : Mod) : (if c then a else b).h2w.desk = if c then a.h2w.desk else b.h2w.desk := by
  split <;> rfl

@[simp] theorem desk_ite_fst (c : Prop) [Decidable c] (a b : Sys) : (if c then a else b).1.h2w.desk = if c then a.1.h2w.desk else b.1.h2w.desk := by
  split <;> rfl

@[simp] theorem desk_when (m : Mod) (c : Bool) (f : Mod → Mod) : (m.when c f).h2w.desk = if c then (f m).h2w.desk else m.h2w.desk :=
  desk_ite _ _ _

theorem desk_foldl {β : Type} {f : Mod → β → Mod} (h : ∀ m b, (f m b).h2w.desk = m.h2w.desk) (l : List β) (m : Mod) :
    (l.foldl f m).h2w.desk = m.h2w.desk := foldl_keeps (fun m => m.h2w.desk) f h l m

theorem desk_each {f : Nat → Mod → Mod} (h : ∀ k m, (f k m).h2w.desk = m.h2w.desk) (n : Nat) (m : Mod) :
    (m.each n f).h2w.desk = m.h2w.desk := desk_foldl (fun x k => h k x) _ m

end Sys2Proof.Machine
end

section
/-! PROOF. The state's own operations leave the window's desk. -/

set_option Elab.async false

namespace Sys2Proof.Machine

open Sys2Proof

@[simp] theorem Mod.latchControls_desk (m : Mod) : m.latchControls.h2w.desk = m.h2w.desk := by simp [Mod.latchControls]

@[simp] theorem Mod.setV_desk (m : Mod) (f : Fam) (i : Nat) (v : Val) : (m.setV f i v).h2w.desk = m.h2w.desk := by simp [Mod.setV]

@[simp] theorem Mod.setN_desk (m : Mod) (f : Fam) (i : Nat) (v : Nat) : (m.setN f i v).h2w.desk = m.h2w.desk := by simp [Mod.setN]

@[simp] theorem Mod.setQ_desk (m : Mod) (f : Fam) (i : Nat) (v : Rat) : (m.setQ f i v).h2w.desk = m.h2w.desk := by simp [Mod.setQ]

@[simp] theorem Mod.setB_desk (m : Mod) (f : Fam) (i : Nat) (v : Bool) : (m.setB f i v).h2w.desk = m.h2w.desk := by simp [Mod.setB]

@[simp] theorem Mod.setBytes_desk (m : Mod) (f : Fam) (i : Nat) (v : List Nat) : (m.setBytes f i v).h2w.desk = m.h2w.desk := by simp [Mod.setBytes]

@[simp] theorem Mod.inc_desk (m : Mod) (f : Fam) (i : Nat) : (m.inc f i).h2w.desk = m.h2w.desk := by simp [Mod.inc]

@[simp] theorem Mod.add_desk (m : Mod) (f : Fam) (i k : Nat) : (m.add f i k).h2w.desk = m.h2w.desk := by simp [Mod.add]

@[simp] theorem Mod.setBit_desk (m : Mod) (f : Fam) (i k : Nat) (v : Bool) : (m.setBit f i k v).h2w.desk = m.h2w.desk := by simp [Mod.setBit]

@[simp] theorem Mod.carry_desk (m old : Mod) (f : Fam) : (m.carry old f).h2w.desk = m.h2w.desk := by
  simp -implicitDefEqProofs [Mod.carry, desk_each]

@[simp] theorem Mod.carryAll_desk (m old : Mod) (fs : List Fam) : (m.carryAll old fs).h2w.desk = m.h2w.desk := by
  simp -implicitDefEqProofs [Mod.carryAll, desk_foldl]

@[simp] theorem Mod.safeOnly_desk (m x : Mod) : (m.safeOnly x).h2w.desk = m.h2w.desk := by simp [Mod.safeOnly]

@[simp] theorem Mod.arm_desk (m : Mod) (T : Tmr) (d : Nat) : (m.arm T d).h2w.desk = m.h2w.desk := by simp [Mod.arm]

@[simp] theorem Mod.disarm_desk (m : Mod) (T : Tmr) : (m.disarm T).h2w.desk = m.h2w.desk := by simp [Mod.disarm]

@[simp] theorem Mod.emit_desk (m : Mod) (o : Out) : (m.emit o).h2w.desk = m.h2w.desk := by simp [Mod.emit]

@[simp] theorem Mod.freeStep_desk (m : Mod) : m.freeStep.h2w.desk = m.h2w.desk := by simp [Mod.freeStep]

@[simp] theorem Mod.alertTo_desk (m : Mod) (cause mask : Nat) : (m.alertTo cause mask).h2w.desk = m.h2w.desk := rfl

@[simp] theorem Mod.alertSet_desk (m : Mod) (k : Nat) : (m.alertSet k).h2w.desk = m.h2w.desk := by simp [Mod.alertSet]

@[simp] theorem Mod.eraseStart_desk (m : Mod) (which : Nat) : (m.eraseStart which).h2w.desk = m.h2w.desk := by simp [Mod.eraseStart]

@[simp] theorem Mod.logWrite_desk (m : Mod) (r : LogRec) : (m.logWrite r).h2w.desk = m.h2w.desk := by simp [Mod.logWrite]

@[simp] theorem Mod.logWait_desk (m : Mod) (r : LogRec) : (m.logWait r).h2w.desk = m.h2w.desk := by
  unfold Mod.logWait
  split
  · rfl
  · split <;> rfl

@[simp] theorem Mod.fillMarks_desk (m : Mod) (q : Nat) (f : Rat) : (m.fillMarks q f).h2w.desk = m.h2w.desk := by simp [Mod.fillMarks]

@[simp] theorem Mod.q26Marks_desk (m : Mod) : m.q26Marks.h2w.desk = m.h2w.desk := by simp [Mod.q26Marks]

@[simp] theorem Mod.logPut_desk (m : Mod) (r : LogRec) : (m.logPut r).h2w.desk = m.h2w.desk := by simp [Mod.logPut]

@[simp] theorem Mod.event_desk (m : Mod) (kind : Nat) (data : List Nat) : (m.event kind data).h2w.desk = m.h2w.desk := by simp [Mod.event]

@[simp] theorem Mod.note_desk (m : Mod) (f : Fam) (i : Nat) (old : Val) : (m.note f i old).h2w.desk = m.h2w.desk := by simp [Mod.note]

@[simp] theorem Mod.noteAt_desk (m : Mod) (f : Fam) (i : Nat) : (m.noteAt f i).h2w.desk = m.h2w.desk := by simp [Mod.noteAt]

@[simp] theorem Mod.noteRefused_desk (m : Mod) (f : Fam) (i status : Nat) : (m.noteRefused f i status).h2w.desk = m.h2w.desk := by simp [Mod.noteRefused]

@[simp] theorem Mod.setNoted_desk (m : Mod) (f : Fam) (i v : Nat) : (m.setNoted f i v).h2w.desk = m.h2w.desk := by simp [Mod.setNoted]

@[simp] theorem Mod.queueMarks_desk (m : Mod) (q : Nat) : (m.queueMarks q).h2w.desk = m.h2w.desk := by simp [Mod.queueMarks]

@[simp] theorem Mod.enqueue_desk (m : Mod) (q bytes peer seq : Nat) : (m.enqueue q bytes peer seq).h2w.desk = m.h2w.desk := by simp [Mod.enqueue]

@[simp] theorem Mod.dequeue_desk (m : Mod) (q : Nat) : (m.dequeue q).h2w.desk = m.h2w.desk := by simp [Mod.dequeue]

@[simp] theorem Mod.queueDrop_desk (m : Mod) (q : Nat) : (m.queueDrop q).h2w.desk = m.h2w.desk := by simp [Mod.queueDrop]

@[simp] theorem Mod.queueFlush_desk (m : Mod) (q : Nat) : (m.queueFlush q).h2w.desk = m.h2w.desk := by simp [Mod.queueFlush]

@[simp] theorem Mod.through_desk (m : Mod) (q bytes peer seq : Nat) : (m.through q bytes peer seq).h2w.desk = m.h2w.desk := by simp [Mod.through]

@[simp] theorem Mod.modLink_desk (m : Mod) (l : Nat) (f : LinkS → LinkS) : (m.modLink l f).h2w.desk = m.h2w.desk := by simp [Mod.modLink]

@[simp] theorem Mod.useCredit_desk (m : Mod) (cls credits : Nat) (o : Out) : (m.useCredit cls credits o).h2w.desk = m.h2w.desk := by
  simp only [Mod.useCredit]
  split <;> simp

@[simp] theorem Mod.freeClass_desk (m : Mod) (l cls credits : Nat) : (m.freeClass l cls credits).h2w.desk = m.h2w.desk := by
  simp only [Mod.freeClass]
  split <;> simp

@[simp] theorem Mod.launch_desk (m : Mod) (f : HeldF) : (m.launch f).h2w.desk = m.h2w.desk := by
  unfold Mod.launch
  split
  · rfl
  · dsimp only
    split <;> simp

theorem drrPick_desk (k n : Nat) (m : Mod) : (Mod.drrPick k n m).1.h2w.desk = m.h2w.desk := by
  induction n generalizing m with
  | zero => rfl
  | succ n ih =>
    unfold Mod.drrPick
    dsimp only
    split
    · split
      · rfl
      · simp [ih]
    · simp [ih]

theorem serveLink_desk (k n : Nat) (m : Mod) : (Mod.serveLink k n m).h2w.desk = m.h2w.desk := by
  induction n generalizing m with
  | zero => rfl
  | succ n ih =>
    unfold Mod.serveLink
    have picked := drrPick_desk k 40 m
    split
    · split
      next m' f hp =>
        rw [hp] at picked
        simpa [ih] using picked
      next m' hp =>
        rw [hp] at picked
        exact picked
    · rfl

@[simp] theorem Mod.serveOne_desk (m : Mod) (k : Nat) : (m.serveOne k).h2w.desk = m.h2w.desk := serveLink_desk k _ m

@[simp] theorem Mod.creditFlush_desk (m : Mod) : m.creditFlush.h2w.desk = m.h2w.desk := by simp [Mod.creditFlush]

@[simp] theorem Mod.cutIn_desk (m : Mod) (o : Out) : (m.cutIn o).h2w.desk = m.h2w.desk := by
  simp only [Mod.cutIn]
  split <;> simp

@[simp] theorem Mod.sendVia_desk (via : Option Nat) (m : Mod) (cls credits : Nat) (o : Out) : (m.sendVia via cls credits o).h2w.desk = m.h2w.desk := by
  unfold Mod.sendVia
  cases m.outLink o <;> simp

@[simp] theorem Mod.sendFrame_desk (m : Mod) (cls credits : Nat) (o : Out) : (m.sendFrame cls credits o).h2w.desk = m.h2w.desk := by simp [Mod.sendFrame]

@[simp] theorem Mod.seqStep_desk (m : Mod) (cls : Nat) : (m.seqStep cls).h2w.desk = m.h2w.desk := by simp [Mod.seqStep]

@[simp] theorem Mod.transmitOn_desk (m : Mod) (link : Option Nat) (par : Bool) (cls typ dst : Nat) (content : List Nat) : (m.transmitOn link par cls typ dst content).h2w.desk = m.h2w.desk := by simp [Mod.transmitOn]

@[simp] theorem Mod.transmit_desk (m : Mod) (cls typ dst : Nat) (content : List Nat) : (m.transmit cls typ dst content).h2w.desk = m.h2w.desk := by simp [Mod.transmit]

@[simp] theorem Mod.expHold_desk (m : Mod) (o : Out) : (m.expHold o).h2w.desk = m.h2w.desk := by simp [Mod.expHold]

@[simp] theorem Mod.originateIn_desk (m : Mod) (par : Bool) (cls typ dst : Nat) (content : List Nat) :
    (m.originateIn par cls typ dst content).h2w.desk = m.h2w.desk := by
  unfold Mod.originateIn
  split
  · rfl
  · split <;> simp

@[simp] theorem Mod.originate_desk (m : Mod) (cls typ dst : Nat) (content : List Nat) : (m.originate cls typ dst content).h2w.desk = m.h2w.desk := by simp [Mod.originate]

@[simp] theorem Mod.canSend_desk (m : Mod) (u peer seq : Nat) (f : CanFrame) : (m.canSend u peer seq f).h2w.desk = m.h2w.desk := by simp [Mod.canSend]

@[simp] theorem Mod.respond_desk (m : Mod) (r : Resp) : (m.respond r).h2w.desk = m.h2w.desk := by
  have queued : (m.enqueue 21 (20 + r.data.length) r.requester r.seq).h2w.desk = m.h2w.desk := by simp
  unfold Mod.respond
  split
  · rfl
  · exact queued
  · simp
  · simp
  · simp

@[simp] theorem Mod.commit_desk (m : Mod) (f : Fam) (i : Nat) (v : Val) : (m.commit f i v).h2w.desk = m.h2w.desk := by simp [Mod.commit]

@[simp] theorem Mod.commitN_desk (m : Mod) (f : Fam) (i v : Nat) : (m.commitN f i v).h2w.desk = m.h2w.desk := by simp [Mod.commitN]

@[simp] theorem Mod.commitQ_desk (m : Mod) (f : Fam) (i : Nat) (v : Rat) : (m.commitQ f i v).h2w.desk = m.h2w.desk := by simp [Mod.commitQ]

@[simp] theorem Mod.modFlt_desk (m : Mod) (b : Nat) (f : Flt → Flt) : (m.modFlt b f).h2w.desk = m.h2w.desk := by simp [Mod.modFlt]

@[simp] theorem Mod.faultPin_desk (m : Mod) : m.faultPin.h2w.desk = m.h2w.desk := by simp [Mod.faultPin]

@[simp] theorem Mod.contOff_desk (m : Mod) : m.contOff.h2w.desk = m.h2w.desk := by simp [Mod.contOff]

@[simp] theorem Mod.contClose_desk (m : Mod) : m.contClose.h2w.desk = m.h2w.desk := by simp [Mod.contClose]

@[simp] theorem Mod.ilko_desk (m : Mod) : m.ilko.h2w.desk = m.h2w.desk := by simp [Mod.ilko]

@[simp] theorem Mod.modStg_desk (m : Mod) (g : Nat) (f : Stg → Stg) : (m.modStg g f).h2w.desk = m.h2w.desk := by simp [Mod.modStg]

@[simp] theorem Mod.modPh_desk (m : Mod) (p : Nat) (f : Ph → Ph) : (m.modPh p f).h2w.desk = m.h2w.desk := by simp [Mod.modPh]

@[simp] theorem Mod.modGrp_desk (m : Mod) (k : Nat) (f : Grp → Grp) : (m.modGrp k f).h2w.desk = m.h2w.desk := by simp [Mod.modGrp]

@[simp] theorem Mod.modInp_desk (m : Mod) (k : Nat) (f : InS → InS) : (m.modInp k f).h2w.desk = m.h2w.desk := by simp [Mod.modInp]

@[simp] theorem Mod.modProt_desk (m : Mod) (k : Nat) (f : Prot → Prot) : (m.modProt k f).h2w.desk = m.h2w.desk := by simp [Mod.modProt]

@[simp] theorem Mod.modQual_desk (m : Mod) (k : Nat) (f : Qual → Qual) : (m.modQual k f).h2w.desk = m.h2w.desk := by simp [Mod.modQual]

@[simp] theorem Mod.countPhases_desk (m : Mod) : m.countPhases.h2w.desk = m.h2w.desk := by
  simp -implicitDefEqProofs [Mod.countPhases, desk_each]

@[simp] theorem Mod.phaseOff_desk (m : Mod) (p st : Nat) : (m.phaseOff p st).h2w.desk = m.h2w.desk := by simp [Mod.phaseOff]

@[simp] theorem Mod.abandonStage_desk (m : Mod) (g : Nat) : (m.abandonStage g).h2w.desk = m.h2w.desk := by
  simp -implicitDefEqProofs [Mod.abandonStage, desk_foldl, desk_each]

@[simp] theorem Mod.gateOff_desk (m : Mod) (g c : Nat) : (m.gateOff g c).h2w.desk = m.h2w.desk := by simp [Mod.gateOff]

@[simp] theorem Mod.gateOffBoth_desk (m : Mod) (c : Nat) : (m.gateOffBoth c).h2w.desk = m.h2w.desk := by simp [Mod.gateOffBoth]

@[simp] theorem Mod.openSwitch_desk (m : Mod) (k : Nat) : (m.openSwitch k).h2w.desk = m.h2w.desk := by simp [Mod.openSwitch]

@[simp] theorem Mod.closeSwitch_desk (m : Mod) (k : Nat) : (m.closeSwitch k).h2w.desk = m.h2w.desk := by simp [Mod.closeSwitch]

@[simp] theorem Mod.zeroCeil_desk (m : Mod) (k : Nat) : (m.zeroCeil k).h2w.desk = m.h2w.desk := by simp [Mod.zeroCeil]

@[simp] theorem Mod.joinEnd_desk (m : Mod) (k : Nat) : (m.joinEnd k).h2w.desk = m.h2w.desk := by
  simp only [Mod.joinEnd]
  split <;> simp

@[simp] theorem Mod.qualTo_desk (m : Mod) (k st : Nat) : (m.qualTo k st).h2w.desk = m.h2w.desk := by simp [Mod.qualTo]

@[simp] theorem Mod.setCause_desk (m : Mod) (k c : Nat) : (m.setCause k c).h2w.desk = m.h2w.desk := by simp [Mod.setCause]

@[simp] theorem Mod.qualStop_desk (m : Mod) (k st cause : Nat) : (m.qualStop k st cause).h2w.desk = m.h2w.desk := by simp [Mod.qualStop]

@[simp] theorem Mod.capPlace_desk (m : Mod) (cause t : Nat) : (m.capPlace cause t).h2w.desk = m.h2w.desk := by simp [Mod.capPlace]

@[simp] theorem Mod.capTell_desk (m : Mod) (t : Nat) : (m.capTell t).h2w.desk = m.h2w.desk := by simp [Mod.capTell]

@[simp] theorem Mod.capTrigger_desk (bits t : Nat) (m : Mod) : (m.capTrigger bits t).h2w.desk = m.h2w.desk := by simp [Mod.capTrigger]

@[simp] theorem Mod.force_desk (m : Mod) (c : Nat) : (m.force c).h2w.desk = m.h2w.desk := by simp [Mod.force]

@[simp] theorem Mod.unforce_desk (m : Mod) (c : Nat) : (m.unforce c).h2w.desk = m.h2w.desk := by
  simp -implicitDefEqProofs [Mod.unforce, desk_each]

@[simp] theorem Mod.logFault_desk (m : Mod) (b bit cls : Nat) (value : Option Rat) : (m.logFault b bit cls value).h2w.desk = m.h2w.desk := by
  unfold Mod.logFault
  split
  · rfl
  · dsimp only
    split
    · rfl
    · rfl
    · simp

@[simp] theorem Mod.classF_desk (m : Mod) (b bits : Nat) : (m.classF b bits).h2w.desk = m.h2w.desk := by simp [Mod.classF]

@[simp] theorem Mod.injFound_desk (m : Mod) (b bit : Nat) : (m.injFound b bit).h2w.desk = m.h2w.desk := by simp [Mod.injFound]

@[simp] theorem Mod.raiseAs_desk (m : Mod) (b bit cls : Nat) (value : Option Rat) : (m.raiseAs b bit cls value).h2w.desk = m.h2w.desk := by simp [Mod.raiseAs]

@[simp] theorem Mod.raise_desk (m : Mod) (b bit : Nat) (value : Option Rat) : (m.raise b bit value).h2w.desk = m.h2w.desk := by
  simp only [Mod.raise]
  split <;> simp

@[simp] theorem Mod.lower_desk (m : Mod) (b bit : Nat) : (m.lower b bit).h2w.desk = m.h2w.desk := by simp [Mod.lower]

@[simp] theorem Mod.sync_desk (m : Mod) (b bit : Nat) (cond : Bool) (value : Option Rat) : (m.sync b bit cond value).h2w.desk = m.h2w.desk := by simp [Mod.sync]

@[simp] theorem Mod.heatTo_desk (m : Mod) (h : Rat) : (m.heatTo h).h2w.desk = m.h2w.desk := by simp [Mod.heatTo]

@[simp] theorem Mod.clampOver_desk (m : Mod) (e : Rat) : (m.clampOver e).h2w.desk = m.h2w.desk := by simp [Mod.clampOver]

@[simp] theorem Mod.clampEnd_desk (m : Mod) : m.clampEnd.h2w.desk = m.h2w.desk := by simp [Mod.clampEnd]

@[simp] theorem Mod.syncPorts_desk (m : Mod) : m.syncPorts.h2w.desk = m.h2w.desk := by
  simp -implicitDefEqProofs [Mod.syncPorts]

@[simp] theorem Mod.protEnter_desk (m : Mod) (k st cause : Nat) (i : Rat) : (m.protEnter k st cause i).h2w.desk = m.h2w.desk := by
  simp -implicitDefEqProofs [Mod.protEnter]

@[simp] theorem Mod.trip_desk (m : Mod) (k cause : Nat) (i : Rat) : (m.trip k cause i).h2w.desk = m.h2w.desk := by
  simp -implicitDefEqProofs [Mod.trip]

@[simp] theorem Mod.portGates_desk (m : Mod) : m.portGates.h2w.desk = m.h2w.desk := by simp [Mod.portGates]

@[simp] theorem Mod.kprTask_desk (m : Mod) (k : Nat) : (m.kprTask k).h2w.desk = m.h2w.desk := by simp [Mod.kprTask]

end Sys2Proof.Machine
end

section
/-! PROOF. The server leaves the window's desk, where a rule does. -/

set_option Elab.async false

namespace Sys2Proof.Machine

open Sys2Proof

@[simp] theorem touchSession_desk (x : Sys) (r : Req) : (touchSession x r).1.h2w.desk = x.1.h2w.desk := by
  simp only [touchSession]
  split <;> simp

@[simp] theorem markStaged_desk (x : Sys) (l : List Staged) (old new : Nat) : (markStaged x l old new).1.h2w.desk = x.1.h2w.desk := by simp [markStaged]

@[simp] theorem discardStage_desk (x : Sys) : (discardStage x).1.h2w.desk = x.1.h2w.desk := by simp [discardStage]

@[simp] theorem stageLevel_desk (x : Sys) (req level : Nat) : (stageLevel x req level).1.h2w.desk = x.1.h2w.desk := by simp [stageLevel]

@[simp] theorem setSession_desk (x : Sys) (req level : Nat) : (setSession x req level).1.h2w.desk = x.1.h2w.desk := by simp [setSession]

@[simp] theorem endSession_desk (x : Sys) (req : Nat) : (endSession x req).1.h2w.desk = x.1.h2w.desk := by simp [endSession]

@[simp] theorem makeRecord_desk (x : Sys) (a : Asker) : (makeRecord x a).1.h2w.desk = x.1.h2w.desk := by
  unfold makeRecord
  dsimp only
  split
  · rfl
  · split <;> simp

@[simp] theorem completeRecord_desk (x : Sys) (a : Asker) (status detail eff : Nat) : (completeRecord x a status detail eff).1.h2w.desk = x.1.h2w.desk := by simp [completeRecord]

@[simp] theorem markRecord_desk (x : Sys) (a : Asker) (eff : Nat) : (markRecord x a eff).1.h2w.desk = x.1.h2w.desk := by simp [markRecord]

@[simp] theorem finish_desk (x : Sys) (a : Asker) (status detail : Nat) (data : List Nat) (eff : Nat) (staged : Bool) : (finish x a status detail data eff staged).1.h2w.desk = x.1.h2w.desk := by simp [finish]

@[simp] theorem reject_desk (x : Sys) (r : Req) (status detail : Nat) (data : List Nat) : (reject x r status detail data).1.h2w.desk = x.1.h2w.desk := by simp [reject]

@[simp] theorem rejectEarly_desk (x : Sys) (r : Req) (status : Nat) : (rejectEarly x r status).1.h2w.desk = x.1.h2w.desk := by simp [rejectEarly]

@[simp] theorem refuse_desk (x : Sys) (a : Asker) (status : Nat) (data : List Nat) (detail : Nat) : (refuse x a status data detail).1.h2w.desk = x.1.h2w.desk := by simp [refuse]

@[simp] theorem answerRead_desk (x : Sys) (a : Asker) (r : Req) (f : Fam) (v : Val) (staged : Bool) :
    (answerRead x a r f v staged).1.h2w.desk = x.1.h2w.desk := by
  unfold answerRead
  split
  · split <;> simp
  · dsimp only
    split
    · simp
    · split <;> simp

@[simp] theorem plainAct_desk (f : Fam) (i : Nat) (a : Asker) (v : Val) (x : Sys) : (plainAct f i a v x).1.1.h2w.desk = x.1.h2w.desk := by
  simp only [plainAct]
  split <;> simp

@[simp] theorem stageWrite_desk (x : Sys) (a : Asker) (f : Fam) (i : Nat) (level : Nat) (v : Val) : (stageWrite x a f i level v).1.h2w.desk = x.1.h2w.desk := by
  simp -implicitDefEqProofs [stageWrite]

/-- A rule whose acts, clearing read and first segment leave the desk. -/
structure Rule.KeepsDesk (ru : Rule) : Prop where
  act : ∀ a r v x, (ru.act a r v x).1.1.h2w.desk = x.1.h2w.desk
  clear : ∀ c, ru.clear = some c → ∀ m, (c m).h2w.desk = m.h2w.desk
  first : ∀ m, (ru.first m).h2w.desk = m.h2w.desk

theorem writeValue_desk (x : Sys) (a : Asker) (r : Req) (f : Fam) (i : Nat) {ru : Rule} (hr : ru.KeepsDesk) (v : Val) :
    (writeValue x a r f i ru v).1.h2w.desk = x.1.h2w.desk := by
  have acted := hr.act a r (f.mask v) x
  unfold writeValue
  split
  · simp
  split
  · simp
  · split <;> simp_all

theorem writeSegment_desk (x : Sys) (a : Asker) (r : Req) (f : Fam) (i : Nat) {ru : Rule} (hr : ru.KeepsDesk) :
    (writeSegment x a r f i ru).1.h2w.desk = x.1.h2w.desk := by
  unfold writeSegment
  dsimp only
  split
  · simp
  split
  · simp
  split
  · simp
  split
  · split
    · simp [hr.first]
    · simp
  · simp [writeValue_desk _ _ _ _ _ hr]

theorem serveWrite_desk (x : Sys) (a : Asker) (r : Req) (f : Fam) (i : Nat) {ru : Rule} (hr : ru.KeepsDesk) :
    (serveWrite x a r f i ru).1.h2w.desk = x.1.h2w.desk := by
  unfold serveWrite
  split
  · simp [writeValue_desk _ _ _ _ _ hr]
  · simp [writeValue_desk _ _ _ _ _ hr, writeSegment_desk _ _ _ _ _ hr]

theorem serveRead_desk (x : Sys) (a : Asker) (r : Req) (f : Fam) {ru : Rule} (hr : ru.KeepsDesk) :
    (serveRead x a r f ru).1.h2w.desk = x.1.h2w.desk := by
  unfold serveRead
  dsimp only
  split
  · simp
  split
  · simp
  split
  · simp
  split
  next c hc => simp [hr.clear c hc]
  next => simp

@[simp] theorem serveSubZero_desk (x : Sys) (a : Asker) (r : Req) : (serveSubZero x a r).1.h2w.desk = x.1.h2w.desk := by
  simp -implicitDefEqProofs [serveSubZero]

@[simp] theorem serveDiscard_desk (x : Sys) (a : Asker) : (serveDiscard x a).1.h2w.desk = x.1.h2w.desk := by
  simp -implicitDefEqProofs [serveDiscard]

@[simp] theorem serveCommit_desk (x : Sys) (a : Asker) : (serveCommit x a).1.h2w.desk = x.1.h2w.desk := by
  simp -implicitDefEqProofs [serveCommit]

theorem serveEntry_desk {rules : Fam → Nat → Rule} (hr : ∀ f i, (rules f i).KeepsDesk) (x : Sys) (a : Asker) (r : Req) : (serveEntry rules x a r).1.h2w.desk = x.1.h2w.desk := by
  unfold serveEntry
  split
  · simp
  split
  · simp
  split
  · simp
  split
  · simp
  split
  · simp
  · simp [serveRead_desk _ _ _ _ (hr _ _), serveWrite_desk _ _ _ _ _ (hr _ _)]

@[simp] theorem takeIn_desk (a : Asker) (r : Req) (x : Sys) : (takeIn a r x).1.h2w.desk = x.1.h2w.desk := by simp [takeIn]

theorem accept_desk {rules : Fam → Nat → Rule} (hr : ∀ f i, (rules f i).KeepsDesk) (x : Sys) (r : Req) : (accept rules x r).1.h2w.desk = x.1.h2w.desk := by
  simp [accept, serveEntry_desk hr]

@[simp] theorem queued_desk (r : Req) (x : Sys) : (queued r x).1.h2w.desk = x.1.h2w.desk := by simp [queued]

theorem serve_desk {rules : Fam → Nat → Rule} (hr : ∀ f i, (rules f i).KeepsDesk) (r : Req) (x : Sys) : (serve rules r x).1.h2w.desk = x.1.h2w.desk := by
  unfold serve
  extract_lets cur old y
  have entered : y.1.h2w.desk = x.1.h2w.desk := by simp [y]
  clear_value y
  split
  · simp
  split
  · simp [entered]
  split
  · simp [entered]
  split
  · simp [entered]
  split
  · simp [entered]
  split
  · split <;> simp [entered]
  · split
    · simp [accept_desk hr, entered]
    · split
      · simp [accept_desk hr, entered]
      · split
        · simp [entered]
        · split <;> simp [entered]

@[simp] theorem Mod.putPlace_desk (m : Mod) (key : Nat) (v : Val) : (m.putPlace key v).h2w.desk = m.h2w.desk := by
  simp only [Mod.putPlace]
  split <;> simp

@[simp] theorem Mod.putSecret_desk (m : Mod) (kind : Nat) (v : Val) : (m.putSecret kind v).h2w.desk = m.h2w.desk := by
  simp only [Mod.putSecret]
  split <;> simp

@[simp] theorem Mod.putBack_desk (m : Mod) (j : JRec) : (m.putBack j).h2w.desk = m.h2w.desk := by
  refine desk_foldl (fun m o => ?_) _ _
  split
  · rfl
  · simp

@[simp] theorem stageDone_desk (x : Sys) (j : JRec) : (stageDone x j).1.h2w.desk = x.1.h2w.desk := by simp [stageDone]

@[simp] theorem journalDone_desk (x : Sys) : (journalDone x).1.h2w.desk = x.1.h2w.desk := by
  unfold journalDone
  split
  · rfl
  · dsimp only
    split <;> simp

@[simp] theorem journalFail_desk (x : Sys) : (journalFail x).1.h2w.desk = x.1.h2w.desk := by
  unfold journalFail
  split
  · rfl
  · dsimp only
    split <;> simp

@[simp] theorem journalAll_desk (x : Sys) : (journalAll x).1.h2w.desk = x.1.h2w.desk :=
  foldl_keeps (fun y : Sys => y.1.h2w.desk) _ (fun y _ => journalDone_desk y) _ x

@[simp] theorem Mod.lastRecord_desk (m : Mod) : m.lastRecord.h2w.desk = m.h2w.desk := by
  simp only [Mod.lastRecord]
  split <;> simp

@[simp] theorem Mod.newSecret_desk (m : Mod) : m.newSecret.h2w.desk = m.h2w.desk := by simp [Mod.newSecret]

@[simp] theorem Mod.eraseSecrets_desk (m : Mod) (cause : Nat) : (m.eraseSecrets cause).h2w.desk = m.h2w.desk := by simp [Mod.eraseSecrets]

@[simp] theorem Mod.resetBegin_desk (m : Mod) (c : Nat) : (m.resetBegin c).h2w.desk = m.h2w.desk := by
  simp -implicitDefEqProofs [Mod.resetBegin, desk_foldl]

@[simp] theorem Mod.wakeBegin_desk (m : Mod) (code : Nat) (supply : Bool) : (m.wakeBegin code supply).h2w.desk = m.h2w.desk := by simp [Mod.wakeBegin]

@[simp] theorem Mod.intentShow_desk (m : Mod) : m.intentShow.h2w.desk = m.h2w.desk := by simp [Mod.intentShow]

@[simp] theorem Mod.withdrawAll_desk (m : Mod) : m.withdrawAll.h2w.desk = m.h2w.desk := by simp [Mod.withdrawAll]

@[simp] theorem Mod.shareRef_desk (m : Mod) (k : Nat) : (m.shareRef k).h2w.desk = m.h2w.desk := by
  simp -implicitDefEqProofs [Mod.shareRef, desk_foldl]

@[simp] theorem Mod.putSlots_desk (m : Mod) (order : List Nat) : (m.putSlots order).h2w.desk = m.h2w.desk := by
  simp -implicitDefEqProofs [Mod.putSlots, desk_foldl]

@[simp] theorem Mod.joinGap_desk (m : Mod) (g p : Nat) : (m.joinGap g p).h2w.desk = m.h2w.desk := by
  simp only [Mod.joinGap]
  split <;> simp

@[simp] theorem Mod.respace_desk (m : Mod) (g : Nat) : (m.respace g).h2w.desk = m.h2w.desk := by simp [Mod.respace]

@[simp] theorem Mod.atSlots_desk (m : Mod) (g : Nat) : (m.atSlots g).h2w.desk = m.h2w.desk := by
  simp -implicitDefEqProofs [Mod.atSlots, desk_foldl]

@[simp] theorem Mod.respaceStep_desk (m : Mod) (g left : Nat) : (m.respaceStep g left).h2w.desk = m.h2w.desk := by
  simp -implicitDefEqProofs [Mod.respaceStep, desk_foldl]

@[simp] theorem Mod.rotationEvent_desk (m : Mod) (g : Nat) : (m.rotationEvent g).h2w.desk = m.h2w.desk := by
  simp -implicitDefEqProofs [Mod.rotationEvent, desk_foldl]

@[simp] theorem Mod.rotateOnce_desk (m : Mod) (g : Nat) : (m.rotateOnce g).h2w.desk = m.h2w.desk := by simp [Mod.rotateOnce]

@[simp] theorem Mod.rotateWanted_desk (m : Mod) (g : Nat) : (m.rotateWanted g).h2w.desk = m.h2w.desk := by simp [Mod.rotateWanted]

@[simp] theorem Mod.rotationResume_desk (m : Mod) (g : Nat) : (m.rotationResume g).h2w.desk = m.h2w.desk := by simp [Mod.rotationResume]

@[simp] theorem Mod.rotationStep_desk (m : Mod) (g left : Nat) : (m.rotationStep g left).h2w.desk = m.h2w.desk := by
  simp -implicitDefEqProofs [Mod.rotationStep, desk_foldl]

@[simp] theorem Mod.startPhase_desk (m : Mod) (p : Nat) : (m.startPhase p).h2w.desk = m.h2w.desk := by simp [Mod.startPhase]

@[simp] theorem Mod.addPhase_desk (m : Mod) (p : Nat) : (m.addPhase p).h2w.desk = m.h2w.desk := by simp [Mod.addPhase]

@[simp] theorem Mod.addSequence_desk (m : Mod) (k : Nat) (ps : List Nat) : (m.addSequence k ps).h2w.desk = m.h2w.desk := by
  simp -implicitDefEqProofs [Mod.addSequence, desk_foldl]

@[simp] theorem Mod.settleAdding_desk (m : Mod) (k : Nat) : (m.settleAdding k).h2w.desk = m.h2w.desk := by simp [Mod.settleAdding]

@[simp] theorem Mod.scanDisturb_desk (m : Mod) : m.scanDisturb.h2w.desk = m.h2w.desk := by simp [Mod.scanDisturb]

@[simp] theorem Mod.emergencyAdd_desk (m : Mod) (k : Nat) : (m.emergencyAdd k).h2w.desk = m.h2w.desk := by
  simp only [Mod.emergencyAdd]
  split <;> simp

@[simp] theorem Mod.shedStart_desk (m : Mod) (p : Nat) (dest : Option Nat) : (m.shedStart p dest).h2w.desk = m.h2w.desk := by simp [Mod.shedStart]

@[simp] theorem Mod.shedEnd_desk (m : Mod) (p : Nat) : (m.shedEnd p).h2w.desk = m.h2w.desk := by simp [Mod.shedEnd]

@[simp] theorem Mod.tap_desk (m : Mod) (p k : Nat) : (m.tap p k).h2w.desk = m.h2w.desk := by simp [Mod.tap]

@[simp] theorem Mod.forcedShed_desk (m : Mod) (k : Nat) : (m.forcedShed k).h2w.desk = m.h2w.desk := by
  simp -implicitDefEqProofs [Mod.forcedShed, desk_foldl]

@[simp] theorem Mod.shedCancel_desk (m : Mod) (k : Nat) : (m.shedCancel k).h2w.desk = m.h2w.desk := by
  simp -implicitDefEqProofs [Mod.shedCancel, desk_foldl]

@[simp] theorem Mod.idlePhases_desk (m : Mod) (g : Nat) : (m.idlePhases g).h2w.desk = m.h2w.desk := by
  simp -implicitDefEqProofs [Mod.idlePhases, desk_foldl]

@[simp] theorem Mod.softStart_desk (m : Mod) (g : Nat) (dead skip : Bool) : (m.softStart g dead skip).h2w.desk = m.h2w.desk := by simp [Mod.softStart]

@[simp] theorem Mod.rampDown_desk (m : Mod) (g : Nat) (len : Rat) : (m.rampDown g len).h2w.desk = m.h2w.desk := by simp [Mod.rampDown]

@[simp] theorem Mod.softStop_desk (m : Mod) (g : Nat) : (m.softStop g).h2w.desk = m.h2w.desk := by simp [Mod.softStop]

@[simp] theorem Mod.stageOff_desk (m : Mod) (g : Nat) : (m.stageOff g).h2w.desk = m.h2w.desk := by
  simp -implicitDefEqProofs [Mod.stageOff, desk_foldl]

@[simp] theorem Mod.keepGood_desk (j : Nat) (remote loc : Rat) (m : Mod) : (m.keepGood j remote loc).h2w.desk = m.h2w.desk := by simp [Mod.keepGood]

@[simp] theorem Mod.auxTick_desk (m : Mod) : m.auxTick.h2w.desk = m.h2w.desk := by simp [Mod.auxTick]

@[simp] theorem Mod.auxHibernate_desk (m : Mod) : m.auxHibernate.h2w.desk = m.h2w.desk := by simp [Mod.auxHibernate]

@[simp] theorem Mod.lifetimeCommit_desk (m : Mod) : m.lifetimeCommit.h2w.desk = m.h2w.desk := by simp [Mod.lifetimeCommit]

@[simp] theorem Mod.gather_desk (m : Mod) (f : Fam) (i : Nat) (unit have_ : Rat) : (m.gather f i unit have_).1.h2w.desk = m.h2w.desk := by simp [Mod.gather]

@[simp] theorem Mod.energyTick_desk (m : Mod) : m.energyTick.h2w.desk = m.h2w.desk :=
  desk_each (fun _ _ => rfl) 8 m

@[simp] theorem Mod.sessTick_desk (m : Mod) : m.sessTick.h2w.desk = m.h2w.desk := by simp [Mod.sessTick]

@[simp] theorem Mod.elogPlace_desk (m : Mod) (r : ERec) : (m.elogPlace r).h2w.desk = m.h2w.desk := by simp [Mod.elogPlace]

@[simp] theorem Mod.elogPut_desk (m : Mod) (r : ERec) : (m.elogPut r).h2w.desk = m.h2w.desk := by simp [Mod.elogPut]

@[simp] theorem Mod.elogFlush_desk (m : Mod) : m.elogFlush.h2w.desk = m.h2w.desk := by
  simp -implicitDefEqProofs [Mod.elogFlush, desk_foldl]

@[simp] theorem Mod.elogDrop_desk (m : Mod) (num : Nat) : (m.elogDrop num).h2w.desk = m.h2w.desk := by simp [Mod.elogDrop]

@[simp] theorem Mod.elogWrite_desk (m : Mod) (kind seq : Nat) (tot : List Nat) (rtc : Nat) : (m.elogWrite kind seq tot rtc).h2w.desk = m.h2w.desk := by simp [Mod.elogWrite]

@[simp] theorem Mod.sessOpen_desk (m : Mod) : m.sessOpen.h2w.desk = m.h2w.desk := by simp [Mod.sessOpen]

@[simp] theorem Mod.sessClose_desk (m : Mod) : m.sessClose.h2w.desk = m.h2w.desk := by simp [Mod.sessClose]

@[simp] theorem Mod.sessInterim_desk (m : Mod) : m.sessInterim.h2w.desk = m.h2w.desk := by simp [Mod.sessInterim]

@[simp] theorem Mod.peakTick_desk (m : Mod) (x : Nat × List Int) : (m.peakTick x).h2w.desk = m.h2w.desk := by simp [Mod.peakTick]

@[simp] theorem Mod.peakTake_desk (m : Mod) (smp : List (List Rat)) : (m.peakTake smp).h2w.desk = m.h2w.desk := by
  simp -implicitDefEqProofs [Mod.peakTake, desk_foldl]

@[simp] theorem Mod.peakSnap_desk (m : Mod) (k : Nat) : (m.peakSnap k).h2w.desk = m.h2w.desk := by simp [Mod.peakSnap]

@[simp] theorem Mod.phtSnap_desk (m : Mod) (p : Nat) : (m.phtSnap p).h2w.desk = m.h2w.desk := by simp [Mod.phtSnap]

@[simp] theorem Mod.phSample_desk (m : Mod) (p : Nat) (i : Rat) : (m.phSample p i).h2w.desk = m.h2w.desk := by simp [Mod.phSample]

@[simp] theorem Mod.telTick_desk (m : Mod) (rows : List (List Int)) : (m.telTick rows).h2w.desk = m.h2w.desk := by simp [Mod.telTick]

@[simp] theorem Mod.telLast_desk (w : Nat) (smp : List (List Rat)) (m : Mod) : (m.telLast w smp).h2w.desk = m.h2w.desk := by simp [Mod.telLast]

@[simp] theorem Mod.setMean_desk (m : Mod) (f : Fam) (k : Nat) (v : Option Rat) : (m.setMean f k v).h2w.desk = m.h2w.desk := by
  simp only [Mod.setMean]
  split <;> simp

@[simp] theorem Mod.telPublish_desk (m : Mod) (v i p : Fam) (w : Tel) : (m.telPublish v i p w).h2w.desk = m.h2w.desk := by
  simp -implicitDefEqProofs [Mod.telPublish, desk_each]

@[simp] theorem Mod.phIdle_desk (m : Mod) (p : Nat) : (m.phIdle p).h2w.desk = m.h2w.desk := by simp [Mod.phIdle]

@[simp] theorem Mod.phPublish_desk (m : Mod) (w : Tel) : (m.phPublish w).h2w.desk = m.h2w.desk := by
  simp -implicitDefEqProofs [Mod.phPublish, desk_each]

@[simp] theorem Mod.satPublish_desk (m : Mod) : m.satPublish.h2w.desk = m.h2w.desk := by simp [Mod.satPublish]

@[simp] theorem Mod.telWindow_desk (w : Nat) (smp : List (List Rat)) (m : Mod) : (m.telWindow w smp).h2w.desk = m.h2w.desk := by simp [Mod.telWindow]

@[simp] theorem Mod.telBegin_desk (m : Mod) : m.telBegin.h2w.desk = m.h2w.desk := by simp [Mod.telBegin]

@[simp] theorem Mod.telRestart_desk (m : Mod) (w : Nat) : (m.telRestart w).h2w.desk = m.h2w.desk := by simp [Mod.telRestart]

@[simp] theorem Mod.stepRecord_desk (vref final v : Rat) (m : Mod) : (m.stepRecord vref final v).h2w.desk = m.h2w.desk := by simp [Mod.stepRecord]

@[simp] theorem Mod.stepSnap_desk (m : Mod) : m.stepSnap.h2w.desk = m.h2w.desk := by simp [Mod.stepSnap]

@[simp] theorem Mod.capInvalid_desk (m : Mod) (ch : Nat) : (m.capInvalid ch).h2w.desk = m.h2w.desk := by simp [Mod.capInvalid]

@[simp] theorem Mod.satTick_desk (smp : List (List Rat)) (m : Mod) : (m.satTick smp).h2w.desk = m.h2w.desk := by
  simp -implicitDefEqProofs [Mod.satTick]

@[simp] theorem Mod.channelSaturated_desk (ch : Nat) (m : Mod) : (m.channelSaturated ch).h2w.desk = m.h2w.desk := by
  simp -implicitDefEqProofs [Mod.channelSaturated]

@[simp] theorem Mod.channelRangeFail_desk (ch : Nat) (m : Mod) : (m.channelRangeFail ch).h2w.desk = m.h2w.desk := by
  simp -implicitDefEqProofs [Mod.channelRangeFail]

@[simp] theorem Mod.capFeed_desk (m : Mod) (l : List (Nat × List Int)) : (m.capFeed l).h2w.desk = m.h2w.desk := by simp [Mod.capFeed]

@[simp] theorem Mod.strbFeed_desk (m : Mod) (l : List (Nat × List Int)) : (m.strbFeed l).h2w.desk = m.h2w.desk := by simp [Mod.strbFeed]

@[simp] theorem Mod.sampleTick_desk (m : Mod) (rows : List (List Int)) (sat : List Nat) : (m.sampleTick rows sat).h2w.desk = m.h2w.desk := by
  simp -implicitDefEqProofs [Mod.sampleTick, desk_foldl]

@[simp] theorem Mod.autoZero_desk (k : Nat) (ofs temp : Rat) (m : Mod) : (m.autoZero k ofs temp).h2w.desk = m.h2w.desk := by
  simp -implicitDefEqProofs [Mod.autoZero]

@[simp] theorem Mod.qualBegin_desk (m : Mod) (k : Nat) : (m.qualBegin k).h2w.desk = m.h2w.desk := by simp [Mod.qualBegin]

@[simp] theorem Mod.qualDelay_desk (m : Mod) (k : Nat) : (m.qualDelay k).h2w.desk = m.h2w.desk := by simp [Mod.qualDelay]

@[simp] theorem Mod.connect_desk (m : Mod) (k : Nat) : (m.connect k).h2w.desk = m.h2w.desk := by simp [Mod.connect]

@[simp] theorem Mod.runAlone_desk (m : Mod) (p : Nat) : (m.runAlone p).h2w.desk = m.h2w.desk := by simp [Mod.runAlone]

@[simp] theorem Mod.warmJoin_desk (m : Mod) (k : Nat) : (m.warmJoin k).h2w.desk = m.h2w.desk := by
  simp only [Mod.warmJoin]
  split <;> simp

@[simp] theorem Mod.prechargeFail_desk (m : Mod) (k : Nat) : (m.prechargeFail k).h2w.desk = m.h2w.desk := by simp [Mod.prechargeFail]

@[simp] theorem Mod.prechargeStart_desk (m : Mod) (k : Nat) : (m.prechargeStart k).h2w.desk = m.h2w.desk := by simp [Mod.prechargeStart]

@[simp] theorem Mod.closeSys_desk (m : Mod) : m.closeSys.h2w.desk = m.h2w.desk := by simp [Mod.closeSys]

@[simp] theorem Mod.stageStart_desk (m : Mod) (g : Nat) (dead skip : Bool) : (m.stageStart g dead skip).h2w.desk = m.h2w.desk := by
  unfold Mod.stageStart
  dsimp only
  split
  · simp
  · simp -implicitDefEqProofs [desk_foldl]

@[simp] theorem Mod.stopCancel_desk (m : Mod) (g : Nat) : (m.stopCancel g).h2w.desk = m.h2w.desk := by simp [Mod.stopCancel]

@[simp] theorem Mod.runStages_desk (m : Mod) (path coupling : Nat) (hold : Bool) : (m.runStages path coupling hold).h2w.desk = m.h2w.desk := by simp [Mod.runStages]

@[simp] theorem Mod.openUnused_desk (m : Mod) (path coupling : Nat) (hold : Bool) : (m.openUnused path coupling hold).h2w.desk = m.h2w.desk := by
  simp -implicitDefEqProofs [Mod.openUnused, desk_each]

@[simp] theorem Mod.safestopBegin_desk (m : Mod) : m.safestopBegin.h2w.desk = m.h2w.desk := by simp [Mod.safestopBegin]

@[simp] theorem Mod.blackstartBegin_desk (m : Mod) : m.blackstartBegin.h2w.desk = m.h2w.desk := by simp [Mod.blackstartBegin]

@[simp] theorem Mod.blackstartFail_desk (m : Mod) : m.blackstartFail.h2w.desk = m.h2w.desk := by simp [Mod.blackstartFail]

@[simp] theorem Mod.startTransition_desk (m : Mod) (old path : Nat) : (m.startTransition old path).h2w.desk = m.h2w.desk := by
  simp -implicitDefEqProofs [Mod.startTransition, desk_each]

@[simp] theorem Mod.latchPolicy_desk (m : Mod) : m.latchPolicy.h2w.desk = m.h2w.desk := by
  simp -implicitDefEqProofs [Mod.latchPolicy, desk_each]

@[simp] theorem Mod.climb_desk (m : Mod) : m.climb.h2w.desk = m.h2w.desk := by
  simp -implicitDefEqProofs [Mod.climb, desk_each]

@[simp] theorem Mod.freeCeil_desk (m : Mod) (rungs : List Rung) (k : Nat) : (m.freeCeil rungs k).h2w.desk = m.h2w.desk := by simp [Mod.freeCeil]

@[simp] theorem Mod.updateCeil_desk (m : Mod) (rungs : List Rung) (k : Nat) : (m.updateCeil rungs k).h2w.desk = m.h2w.desk := by simp [Mod.updateCeil]

@[simp] theorem Mod.moveTap_desk (counts : List (Nat × Nat × Bool)) (m : Mod) (c : Nat × Nat × Bool) :
    (Mod.moveTap counts m c).h2w.desk = m.h2w.desk := by
  unfold Mod.moveTap
  dsimp only
  split
  · rfl
  split
  · simp
  split
  · split
    · rfl
    · split <;> simp
  · rfl

@[simp] theorem Mod.moveTaps_desk (m : Mod) (counts : List (Nat × Nat × Bool)) : (m.moveTaps counts).h2w.desk = m.h2w.desk := by
  simp -implicitDefEqProofs [Mod.moveTaps, desk_foldl]

@[simp] theorem Mod.setCounts_desk (m : Mod) (counts : List (Nat × Nat × Bool)) : (m.setCounts counts).h2w.desk = m.h2w.desk := by
  simp -implicitDefEqProofs [Mod.setCounts, desk_each]

theorem Mod.holdNext_go_desk (l : List Nat) (m : Mod) : (Mod.holdNext.go l m).h2w.desk = m.h2w.desk := by
  induction l generalizing m with
  | nil => rfl
  | cons a l ih =>
    cases l with
    | nil => rfl
    | cons b rest =>
      unfold Mod.holdNext.go
      dsimp only
      rw [ih]
      split <;> simp

@[simp] theorem Mod.holdNext_desk (m : Mod) (rungs : List Rung) : (m.holdNext rungs).h2w.desk = m.h2w.desk := by
  unfold Mod.holdNext
  dsimp only
  split
  · refine desk_foldl (fun _ _ => ?_) _ m
    rfl
  · refine (Mod.holdNext_go_desk _ _).trans (desk_foldl (fun _ _ => ?_) _ m)
    rfl

end Sys2Proof.Machine
end

section
/-! PROOF. The power path, profiles and protection leave the window's desk. -/

set_option Elab.async false

namespace Sys2Proof.Machine

open Sys2Proof

@[simp] theorem Mod.profileCheck_desk (m : Mod) (n : Nat) : (m.profileCheck n).h2w.desk = m.h2w.desk := by simp [Mod.profileCheck]

@[simp] theorem Mod.moveClamp_desk (m : Mod) : m.moveClamp.h2w.desk = m.h2w.desk := by simp [Mod.moveClamp]

@[simp] theorem Mod.postRefs_desk (m : Mod) : m.postRefs.h2w.desk = m.h2w.desk := by
  simp -implicitDefEqProofs [Mod.postRefs]

@[simp] theorem Mod.moveRef_desk (m : Mod) : m.moveRef.h2w.desk = m.h2w.desk := by simp [Mod.moveRef]

@[simp] theorem Mod.flagsRefresh_desk (m : Mod) : m.flagsRefresh.h2w.desk = m.h2w.desk := by simp [Mod.flagsRefresh]

@[simp] theorem Mod.scanEnd_desk (m : Mod) (st : Nat) : (m.scanEnd st).h2w.desk = m.h2w.desk := by simp [Mod.scanEnd]

@[simp] theorem Mod.scanAbort_desk (m : Mod) : m.scanAbort.h2w.desk = m.h2w.desk := by simp [Mod.scanAbort]

@[simp] theorem Mod.scanStart_desk (m : Mod) : m.scanStart.h2w.desk = m.h2w.desk := by simp [Mod.scanStart]

@[simp] theorem Mod.scanWatch_desk (m : Mod) : m.scanWatch.h2w.desk = m.h2w.desk := by simp [Mod.scanWatch]

@[simp] theorem Mod.scanPoint_desk (x : ScanPoint) (m : Mod) : (m.scanPoint x).h2w.desk = m.h2w.desk := by
  simp -implicitDefEqProofs [Mod.scanPoint]

@[simp] theorem Mod.runShow_desk (m : Mod) (s : Nat) : (m.runShow s).h2w.desk = m.h2w.desk := by simp [Mod.runShow]

@[simp] theorem Mod.runTick_desk (m : Mod) : m.runTick.h2w.desk = m.h2w.desk := by simp [Mod.runTick]

@[simp] theorem Mod.visitLog_desk (m : Mod) (s : Nat) (old : Val) : (m.visitLog s old).h2w.desk = m.h2w.desk := by simp [Mod.visitLog]

@[simp] theorem Mod.leaveStep_desk (m : Mod) (code : Option Nat) : (m.leaveStep code).h2w.desk = m.h2w.desk := by
  unfold Mod.leaveStep
  split <;> simp

@[simp] theorem Mod.endStop_desk (m : Mod) : m.endStop.h2w.desk = m.h2w.desk := by simp [Mod.endStop]

@[simp] theorem Mod.profileEnd_desk (m : Mod) (result : Nat) : (m.profileEnd result).h2w.desk = m.h2w.desk := by simp [Mod.profileEnd]

@[simp] theorem Mod.autoClose_desk (m : Mod) : m.autoClose.h2w.desk = m.h2w.desk := by simp [Mod.autoClose]

@[simp] theorem Mod.seedRefs_desk (m : Mod) : m.seedRefs.h2w.desk = m.h2w.desk := by simp [Mod.seedRefs]

@[simp] theorem Mod.enterStep_desk (m : Mod) (s : Nat) : (m.enterStep s).h2w.desk = m.h2w.desk := by simp [Mod.enterStep]

@[simp] theorem Mod.profileStart_desk (m : Mod) (n : Nat) : (m.profileStart n).h2w.desk = m.h2w.desk := by
  simp -implicitDefEqProofs [Mod.profileStart, desk_each]

@[simp] theorem Mod.profileComplete_desk (m : Mod) : m.profileComplete.h2w.desk = m.h2w.desk := by simp [Mod.profileComplete]

@[simp] theorem Mod.go_desk (m : Mod) (target : Nat) : (m.go target).h2w.desk = m.h2w.desk := by simp [Mod.go]

@[simp] theorem Mod.profApply_desk (m : Mod) (code : Nat) : (m.profApply code).h2w.desk = m.h2w.desk := by
  unfold Mod.profApply
  extract_lets st m'
  have checked : m'.h2w.desk = m.h2w.desk := by simp [m']
  split
  · rfl
  split
  · simp [checked]
  split <;> simp [checked]

@[simp] theorem Mod.profApplyAll_desk (m : Mod) : m.profApplyAll.h2w.desk = m.h2w.desk := by
  simp -implicitDefEqProofs [Mod.profApplyAll, desk_foldl]

@[simp] theorem Mod.profBoundary_desk (code : Nat) (m : Mod) : (m.profBoundary code).h2w.desk = m.h2w.desk := by
  simp only [Mod.profBoundary]
  split <;> simp

@[simp] theorem Mod.autostart_desk (m : Mod) : m.autostart.h2w.desk = m.h2w.desk := by simp [Mod.autostart]

@[simp] theorem Mod.connectPort_desk (m : Mod) (k : Nat) : (m.connectPort k).h2w.desk = m.h2w.desk := by simp [Mod.connectPort]

@[simp] theorem Mod.recoveryEntry_desk (m : Mod) : m.recoveryEntry.h2w.desk = m.h2w.desk := by
  simp -implicitDefEqProofs [Mod.recoveryEntry, desk_each]

@[simp] theorem Mod.recoveryFail_desk (m : Mod) : m.recoveryFail.h2w.desk = m.h2w.desk := by simp [Mod.recoveryFail]

@[simp] theorem Mod.exitTimers_desk (m : Mod) : m.exitTimers.h2w.desk = m.h2w.desk := by simp [Mod.exitTimers]

@[simp] theorem Mod.seeVoltage_desk (m : Mod) : m.seeVoltage.h2w.desk = m.h2w.desk := by simp [Mod.seeVoltage]

@[simp] theorem Mod.suspend_desk (m : Mod) (cause : Nat) : (m.suspend cause).h2w.desk = m.h2w.desk := by simp [Mod.suspend]

@[simp] theorem Mod.resume_desk (m : Mod) : m.resume.h2w.desk = m.h2w.desk := by simp [Mod.resume]

@[simp] theorem Mod.profileTick_desk (m : Mod) : m.profileTick.h2w.desk = m.h2w.desk := by
  simp -implicitDefEqProofs [Mod.profileTick]

@[simp] theorem Mod.seedB_desk (m : Mod) (i : Rat) : (m.seedB i).h2w.desk = m.h2w.desk := by simp [Mod.seedB]

@[simp] theorem Mod.bridgeLeave_desk (m : Mod) (code : Nat) : (m.bridgeLeave code).h2w.desk = m.h2w.desk := by
  simp -implicitDefEqProofs [Mod.bridgeLeave, desk_foldl]

@[simp] theorem Mod.changePath_desk (m : Mod) (path coupling : Nat) : (m.changePath path coupling).h2w.desk = m.h2w.desk := by simp [Mod.changePath]

@[simp] theorem Mod.handOver_desk (m : Mod) : m.handOver.h2w.desk = m.h2w.desk := by simp [Mod.handOver]

@[simp] theorem Mod.resolve_desk (m : Mod) : m.resolve.h2w.desk = m.h2w.desk := by simp [Mod.resolve]

@[simp] theorem Mod.autoDwellExpiry_desk (m : Mod) : m.autoDwellExpiry.h2w.desk = m.h2w.desk := by
  simp only [Mod.autoDwellExpiry]
  split <;> simp

@[simp] theorem Mod.rotationTick_desk (m : Mod) : m.rotationTick.h2w.desk = m.h2w.desk := by simp [Mod.rotationTick]

@[simp] theorem hibernateEntry_desk (x : Sys) : (hibernateEntry x).1.h2w.desk = x.1.h2w.desk := by
  simp -implicitDefEqProofs [hibernateEntry, desk_foldl, desk_each]

@[simp] theorem Mod.activeReturnDone_desk (m : Mod) : m.activeReturnDone.h2w.desk = m.h2w.desk := by
  simp -implicitDefEqProofs [Mod.activeReturnDone, desk_each]

@[simp] theorem Mod.bridgeQualExpiry_desk (m : Mod) : m.bridgeQualExpiry.h2w.desk = m.h2w.desk := by simp [Mod.bridgeQualExpiry]

@[simp] theorem Mod.bridgeEntryDone_desk (m : Mod) : m.bridgeEntryDone.h2w.desk = m.h2w.desk := by
  simp -implicitDefEqProofs [Mod.bridgeEntryDone, desk_foldl]

@[simp] theorem Mod.bridgeExit_desk (m : Mod) (code : Nat) : (m.bridgeExit code).h2w.desk = m.h2w.desk := by simp [Mod.bridgeExit]

@[simp] theorem Mod.bridgeExitDone_desk (m : Mod) : m.bridgeExitDone.h2w.desk = m.h2w.desk := by simp [Mod.bridgeExitDone]

@[simp] theorem Mod.bsAdvance_desk (m : Mod) : m.bsAdvance.h2w.desk = m.h2w.desk := by simp [Mod.bsAdvance]

@[simp] theorem Mod.bsTerminalLive_desk (v : Rat) (m : Mod) : (m.bsTerminalLive v).h2w.desk = m.h2w.desk := by simp [Mod.bsTerminalLive]

@[simp] theorem Mod.bsContTExpiry_desk (m : Mod) : m.bsContTExpiry.h2w.desk = m.h2w.desk := by simp [Mod.bsContTExpiry]

@[simp] theorem Mod.bsPrechargeDone_desk (vInt vTerm : Rat) (m : Mod) : (m.bsPrechargeDone vInt vTerm).h2w.desk = m.h2w.desk := by simp [Mod.bsPrechargeDone]

@[simp] theorem Mod.bsPrechargeTimeout_desk (m : Mod) : m.bsPrechargeTimeout.h2w.desk = m.h2w.desk := by simp [Mod.bsPrechargeTimeout]

@[simp] theorem Mod.bsWatch_desk (m : Mod) : m.bsWatch.h2w.desk = m.h2w.desk := by simp [Mod.bsWatch]

@[simp] theorem Mod.bsSettleExpiry_desk (m : Mod) : m.bsSettleExpiry.h2w.desk = m.h2w.desk := by simp [Mod.bsSettleExpiry]

@[simp] theorem Mod.bsTimeout_desk (m : Mod) : m.bsTimeout.h2w.desk = m.h2w.desk := by simp [Mod.bsTimeout]

@[simp] theorem Mod.ssRampEnd_desk (m : Mod) : m.ssRampEnd.h2w.desk = m.h2w.desk := by simp [Mod.ssRampEnd]

@[simp] theorem Mod.ssSwitchOpen_desk (m : Mod) : m.ssSwitchOpen.h2w.desk = m.h2w.desk := by
  simp -implicitDefEqProofs [Mod.ssSwitchOpen, desk_foldl, desk_each]

@[simp] theorem Mod.ssLinkDischarged_desk (vLink : Rat) (m : Mod) : (m.ssLinkDischarged vLink).h2w.desk = m.h2w.desk := by simp [Mod.ssLinkDischarged]

@[simp] theorem Mod.ovlExpiry_desk (g : Nat) (m : Mod) : (m.ovlExpiry g).h2w.desk = m.h2w.desk := by simp [Mod.ovlExpiry]

@[simp] theorem Mod.ovlClear_desk (g : Nat) (m : Mod) : (m.ovlClear g).h2w.desk = m.h2w.desk := by simp [Mod.ovlClear]

@[simp] theorem Mod.stepExit_desk (x : Nat) (m : Mod) : (m.stepExit x).h2w.desk = m.h2w.desk := by simp [Mod.stepExit]

@[simp] theorem Mod.stepTimeout_desk (m : Mod) : m.stepTimeout.h2w.desk = m.h2w.desk := by simp [Mod.stepTimeout]

@[simp] theorem Mod.stepRequestFail_desk (index sub status : Nat) (m : Mod) : (m.stepRequestFail index sub status).h2w.desk = m.h2w.desk := by simp [Mod.stepRequestFail]

@[simp] theorem Mod.pulseChange_desk (m : Mod) : m.pulseChange.h2w.desk = m.h2w.desk := by
  simp -implicitDefEqProofs [Mod.pulseChange]

@[simp] theorem Mod.ageShow_desk (m : Mod) : m.ageShow.h2w.desk = m.h2w.desk := by simp [Mod.ageShow]

@[simp] theorem Mod.wakeEnd_desk (m : Mod) : m.wakeEnd.h2w.desk = m.h2w.desk := by simp [Mod.wakeEnd]

@[simp] theorem Mod.setFresh_desk (m : Mod) (f : Nat) : (m.setFresh f).h2w.desk = m.h2w.desk := by simp [Mod.setFresh]

@[simp] theorem Mod.bmsPut_desk (m : Mod) (f : Fam) (v : Nat) (i : Option Nat) : (m.bmsPut f v i).h2w.desk = m.h2w.desk := by
  simp only [Mod.bmsPut]
  split <;> simp

@[simp] theorem Mod.bmsSettle_desk (m : Mod) : m.bmsSettle.h2w.desk = m.h2w.desk := by simp [Mod.bmsSettle]

@[simp] theorem Mod.bmsRestart_desk (m : Mod) : m.bmsRestart.h2w.desk = m.h2w.desk := by simp [Mod.bmsRestart]

@[simp] theorem Mod.bmsReject_desk (m : Mod) : m.bmsReject.h2w.desk = m.h2w.desk := by simp [Mod.bmsReject]

@[simp] theorem Mod.bmsAging_desk (m : Mod) : m.bmsAging.h2w.desk = m.h2w.desk := by simp [Mod.bmsAging]

@[simp] theorem Mod.bmsStale_desk (m : Mod) : m.bmsStale.h2w.desk = m.h2w.desk := by simp [Mod.bmsStale]

@[simp] theorem Mod.wakeAction_desk (m : Mod) : m.wakeAction.h2w.desk = m.h2w.desk := by
  unfold Mod.wakeAction
  dsimp only
  split <;> simp -implicitDefEqProofs [desk_foldl]

@[simp] theorem Mod.wakeStart_desk (m : Mod) : m.wakeStart.h2w.desk = m.h2w.desk := by
  unfold Mod.wakeStart
  split <;> simp

@[simp] theorem Mod.wakeFail_desk (m : Mod) : m.wakeFail.h2w.desk = m.h2w.desk := by simp [Mod.wakeFail]

@[simp] theorem Mod.wakeResend_desk (m : Mod) : m.wakeResend.h2w.desk = m.h2w.desk := by
  unfold Mod.wakeResend
  split <;> simp

@[simp] theorem Mod.contRequest_desk (m : Mod) : m.contRequest.h2w.desk = m.h2w.desk := by simp [Mod.contRequest]

@[simp] theorem Mod.tempRead_desk (j : Nat) (m : Mod) : (m.tempRead j).h2w.desk = m.h2w.desk := by simp [Mod.tempRead]

@[simp] theorem Mod.tempTick_desk (m : Mod) : m.tempTick.h2w.desk = m.h2w.desk := by
  unfold Mod.tempTick
  dsimp only
  split <;> simp -implicitDefEqProofs [desk_each]

@[simp] theorem Mod.windowEnter_desk (k : Nat) (v : Rat) (m : Mod) : (m.windowEnter k v).h2w.desk = m.h2w.desk := by simp [Mod.windowEnter]

@[simp] theorem Mod.windowExcursion_desk (k : Nat) (v : Rat) (m : Mod) : (m.windowExcursion k v).h2w.desk = m.h2w.desk := by simp [Mod.windowExcursion]

@[simp] theorem Mod.insertionExpiry_desk (k : Nat) (m : Mod) : (m.insertionExpiry k).h2w.desk = m.h2w.desk := by
  simp -implicitDefEqProofs [Mod.insertionExpiry]

@[simp] theorem Mod.prechargeDone_desk (k : Nat) (vInt vTerm : Rat) (m : Mod) : (m.prechargeDone k vInt vTerm).h2w.desk = m.h2w.desk := by simp [Mod.prechargeDone]

@[simp] theorem Mod.prechargeTimeout_desk (k : Nat) (m : Mod) : (m.prechargeTimeout k).h2w.desk = m.h2w.desk := by simp [Mod.prechargeTimeout]

@[simp] theorem Mod.ceilingZero_desk (m : Mod) (k : Nat) : (m.ceilingZero k).h2w.desk = m.h2w.desk := by simp [Mod.ceilingZero]

@[simp] theorem Mod.countDrop_desk (m : Mod) (k : Nat) : (m.countDrop k).h2w.desk = m.h2w.desk := by simp [Mod.countDrop]

@[simp] theorem Mod.dropPort_desk (m : Mod) (k cause : Nat) : (m.dropPort k cause).h2w.desk = m.h2w.desk := by simp [Mod.dropPort]

@[simp] theorem Mod.rideEntry_desk (k : Nat) (v : Rat) (m : Mod) : (m.rideEntry k v).h2w.desk = m.h2w.desk := by simp [Mod.rideEntry]

@[simp] theorem Mod.rideReturn_desk (k : Nat) (v : Rat) (m : Mod) : (m.rideReturn k v).h2w.desk = m.h2w.desk := by simp [Mod.rideReturn]

@[simp] theorem Mod.rideExpiry_desk (k : Nat) (v : Rat) (m : Mod) : (m.rideExpiry k v).h2w.desk = m.h2w.desk := by
  simp -implicitDefEqProofs [Mod.rideExpiry]

@[simp] theorem Mod.flapExpiry_desk (k : Nat) (m : Mod) : (m.flapExpiry k).h2w.desk = m.h2w.desk := by simp [Mod.flapExpiry]

@[simp] theorem Mod.leave_desk (m : Mod) (k cause : Nat) : (m.leave k cause).h2w.desk = m.h2w.desk := by simp [Mod.leave]

@[simp] theorem Mod.collapse_desk (k : Nat) (v fall : Rat) (m : Mod) : (m.collapse k v fall).h2w.desk = m.h2w.desk := by simp [Mod.collapse]

@[simp] theorem Mod.overvoltage_desk (k : Nat) (v : Rat) (m : Mod) : (m.overvoltage k v).h2w.desk = m.h2w.desk := by simp [Mod.overvoltage]

@[simp] theorem Mod.reverseFault_desk (k : Nat) (i : Rat) (m : Mod) : (m.reverseFault k i).h2w.desk = m.h2w.desk := by simp [Mod.reverseFault]

@[simp] theorem Mod.pilotOpened_desk (k : Nat) (m : Mod) : (m.pilotOpened k).h2w.desk = m.h2w.desk := by simp [Mod.pilotOpened]

@[simp] theorem Mod.pilotClosed_desk (k : Nat) (m : Mod) : (m.pilotClosed k).h2w.desk = m.h2w.desk := by simp [Mod.pilotClosed]

@[simp] theorem Mod.adaptExpiry_desk (k : Nat) (m : Mod) : (m.adaptExpiry k).h2w.desk = m.h2w.desk := by simp [Mod.adaptExpiry]

@[simp] theorem Mod.adaptDiscard_desk (m : Mod) (k : Nat) : (m.adaptDiscard k).h2w.desk = m.h2w.desk := by simp [Mod.adaptDiscard]

@[simp] theorem Mod.adaptLimit_desk (m : Mod) (k : Nat) : (m.adaptLimit k).h2w.desk = m.h2w.desk := by simp [Mod.adaptLimit]

@[simp] theorem Mod.adaptDone_desk (k : Nat) (v i dv loadChange : Rat) (m : Mod) : (m.adaptDone k v i dv loadChange).h2w.desk = m.h2w.desk := by
  simp only [Mod.adaptDone]
  split <;> simp

@[simp] theorem Mod.adaptBackoff_desk (k : Nat) (v i : Rat) (m : Mod) : (m.adaptBackoff k v i).h2w.desk = m.h2w.desk := by simp [Mod.adaptBackoff]

@[simp] theorem Mod.moveVset_desk (m : Mod) : m.moveVset.h2w.desk = m.h2w.desk := by
  simp only [Mod.moveVset]
  split <;> simp

@[simp] theorem Mod.loadLine_desk (m : Mod) (iSys : Rat) : (m.loadLine iSys).h2w.desk = m.h2w.desk := by simp [Mod.loadLine]

@[simp] theorem Mod.moveLim_desk (m : Mod) (g : Nat) : (m.moveLim g).h2w.desk = m.h2w.desk := by simp [Mod.moveLim]

@[simp] theorem Mod.moveDuty_desk (m : Mod) : m.moveDuty.h2w.desk = m.h2w.desk := by simp [Mod.moveDuty]

@[simp] theorem Mod.showFoldback_desk (m : Mod) (v : Rat) : (m.showFoldback v).h2w.desk = m.h2w.desk := by
  unfold Mod.showFoldback
  dsimp only
  split <;> simp -implicitDefEqProofs

@[simp] theorem Mod.cableWatch_desk (m : Mod) (vSys : Rat) : (m.cableWatch vSys).h2w.desk = m.h2w.desk := by simp [Mod.cableWatch]

@[simp] theorem Mod.loopA_desk (m : Mod) (x : VLoopIn) (vSys vb : Rat) : (m.loopA x vSys vb).h2w.desk = m.h2w.desk := by
  simp -implicitDefEqProofs [Mod.loopA, desk_each]

@[simp] theorem Mod.loopB_desk (m : Mod) (x : VLoopIn) (vSys vb : Rat) : (m.loopB x vSys vb).h2w.desk = m.h2w.desk := by simp [Mod.loopB]

@[simp] theorem Mod.chopper_desk (m : Mod) (x : VLoopIn) (vSys : Rat) : (m.chopper x vSys).h2w.desk = m.h2w.desk := by simp [Mod.chopper]

@[simp] theorem Mod.intentDetect_desk (m : Mod) (iSys : Rat) : (m.intentDetect iSys).h2w.desk = m.h2w.desk := by
  simp only [Mod.intentDetect]
  split <;> simp

@[simp] theorem Mod.frDetect_desk (m : Mod) (vSys : Rat) : (m.frDetect vSys).h2w.desk = m.h2w.desk := by simp [Mod.frDetect]

@[simp] theorem Mod.frExpiry_desk (m : Mod) : m.frExpiry.h2w.desk = m.h2w.desk := by simp [Mod.frExpiry]

@[simp] theorem Mod.keepPath_desk (m : Mod) : m.keepPath.h2w.desk = m.h2w.desk := by
  simp -implicitDefEqProofs [Mod.keepPath, desk_each]

@[simp] theorem Mod.loopStart_desk (m : Mod) (vb : Rat) : (m.loopStart vb).h2w.desk = m.h2w.desk := by simp [Mod.loopStart]

@[simp] theorem Mod.voltageLoop_desk (x : VLoopIn) (m : Mod) : (m.voltageLoop x).h2w.desk = m.h2w.desk := by simp [Mod.voltageLoop]

@[simp] theorem Mod.samplePhase_desk (x : SwIn) (g : Nat) (m : Mod) (p : Nat) : (m.samplePhase x g p).h2w.desk = m.h2w.desk := by
  simp -implicitDefEqProofs [Mod.samplePhase]

@[simp] theorem Mod.phaseEnRefresh_desk (m : Mod) (p : Nat) : (m.phaseEnRefresh p).h2w.desk = m.h2w.desk := by simp [Mod.phaseEnRefresh]

@[simp] theorem Mod.countPeriods_desk (g : Nat) (m : Mod) (p : Nat) : (m.countPeriods g p).h2w.desk = m.h2w.desk := by simp [Mod.countPeriods]

@[simp] theorem Mod.groupRefs_desk (m : Mod) (k : Nat) : (m.groupRefs k).h2w.desk = m.h2w.desk := by
  simp -implicitDefEqProofs [Mod.groupRefs, desk_foldl]

@[simp] theorem Mod.trackCarrier_desk (m : Mod) (g : Nat) : (m.trackCarrier g).h2w.desk = m.h2w.desk := by simp [Mod.trackCarrier]

@[simp] theorem Mod.shedTimer_desk (m : Mod) (k : Nat) : (m.shedTimer k).h2w.desk = m.h2w.desk := by simp [Mod.shedTimer]

@[simp] theorem Mod.ordinaryStep_desk (m : Mod) (k : Nat) : (m.ordinaryStep k).h2w.desk = m.h2w.desk := by
  unfold Mod.ordinaryStep
  dsimp only
  split
  · split <;> simp
  · simp

@[simp] theorem Mod.stageEvents_desk (m : Mod) (ks : List Nat) : (m.stageEvents ks).h2w.desk = m.h2w.desk := by
  simp -implicitDefEqProofs [Mod.stageEvents, desk_foldl]

@[simp] theorem Mod.spacing_desk (m : Mod) (g : Nat) : (m.spacing g).h2w.desk = m.h2w.desk := by simp [Mod.spacing]

@[simp] theorem Mod.periodTakes_desk (m : Mod) (g : Nat) : (m.periodTakes g).h2w.desk = m.h2w.desk := by
  simp -implicitDefEqProofs [Mod.periodTakes, desk_foldl]

@[simp] theorem Mod.switchingPeriod_desk (g : Nat) (x : SwIn) (m : Mod) : (m.switchingPeriod g x).h2w.desk = m.h2w.desk := by
  simp -implicitDefEqProofs [Mod.switchingPeriod, desk_foldl]

@[simp] theorem Mod.peakComparator_desk (p : Nat) (m : Mod) : (m.peakComparator p).h2w.desk = m.h2w.desk := by simp [Mod.peakComparator]

@[simp] theorem Mod.armingDone_desk (p : Nat) (m : Mod) : (m.armingDone p).h2w.desk = m.h2w.desk := by simp [Mod.armingDone]

@[simp] theorem Mod.addDone_desk (p : Nat) (m : Mod) : (m.addDone p).h2w.desk = m.h2w.desk := by simp [Mod.addDone]

@[simp] theorem Mod.shedExpiry_desk (k : Nat) (m : Mod) : (Mod.shedExpiry k m).h2w.desk = m.h2w.desk := by
  unfold Mod.shedExpiry
  split
  · split <;> simp
  · rfl

@[simp] theorem Mod.shedDone_desk (p : Nat) (m : Mod) : (Mod.shedDone p m).h2w.desk = m.h2w.desk := by
  unfold Mod.shedDone
  cases (m.phOf p).retap <;> simp

@[simp] theorem Mod.armHoldExpiry_desk (p : Nat) (m : Mod) : (m.armHoldExpiry p).h2w.desk = m.h2w.desk := by simp [Mod.armHoldExpiry]

@[simp] theorem Mod.respacingDone_desk (g : Nat) (m : Mod) : (m.respacingDone g).h2w.desk = m.h2w.desk := by simp [Mod.respacingDone]

@[simp] theorem Mod.phaseFault_desk (p cause : Nat) (m : Mod) : (m.phaseFault p cause).h2w.desk = m.h2w.desk := by simp [Mod.phaseFault]

@[simp] theorem Mod.sstDelay_desk (g : Nat) (m : Mod) : (m.sstDelay g).h2w.desk = m.h2w.desk := by
  simp -implicitDefEqProofs [Mod.sstDelay, desk_foldl]

@[simp] theorem Mod.softStartDone_desk (g : Nat) (v iMean : Rat) (m : Mod) : (m.softStartDone g v iMean).h2w.desk = m.h2w.desk := by simp [Mod.softStartDone]

@[simp] theorem Mod.softStartAbort_desk (g : Nat) (m : Mod) : (m.softStartAbort g).h2w.desk = m.h2w.desk := by simp [Mod.softStartAbort]

@[simp] theorem Mod.hiccupRetry_desk (g : Nat) (m : Mod) : (m.hiccupRetry g).h2w.desk = m.h2w.desk := by simp [Mod.hiccupRetry]

@[simp] theorem Mod.sspDelay_desk (g : Nat) (m : Mod) : (m.sspDelay g).h2w.desk = m.h2w.desk := by simp [Mod.sspDelay]

@[simp] theorem Mod.softStopDone_desk (g : Nat) (m : Mod) : (m.softStopDone g).h2w.desk = m.h2w.desk := by simp [Mod.softStopDone]

@[simp] theorem Mod.senseMove_desk (m : Mod) (j span : Nat) (bad : Bool) (v : Rat) : (m.senseMove j span bad v).h2w.desk = m.h2w.desk := by simp [Mod.senseMove]

@[simp] theorem Mod.senseFall_desk (j st : Nat) (m : Mod) : (m.senseFall j st).h2w.desk = m.h2w.desk := by simp [Mod.senseFall]

@[simp] theorem Mod.senseRestore_desk (j : Nat) (m : Mod) : (m.senseRestore j).h2w.desk = m.h2w.desk := by simp [Mod.senseRestore]

@[simp] theorem Mod.addIntent_desk (m : Mod) (i : Intent) : (m.addIntent i).h2w.desk = m.h2w.desk := by
  have put : ∀ l, (({ m with intents := l ++ [i] } : Mod).inc E.INT_RX 0).intentShow.h2w.desk = m.h2w.desk := fun l => by simp
  unfold Mod.addIntent
  dsimp only
  split
  · exact put (m.intents.filter _)
  split
  · exact put m.intents
  split
  · split
    · simp
    · rfl
  · rfl

@[simp] theorem Mod.intentRx_desk (a : Share) (m : Mod) : (m.intentRx a).h2w.desk = m.h2w.desk := by
  simp -implicitDefEqProofs [Mod.intentRx, desk_foldl]

@[simp] theorem Mod.allocRx_desk (a : AllocMsg) (m : Mod) : (m.allocRx a).h2w.desk = m.h2w.desk := by
  simp only [Mod.allocRx]
  split <;> simp

@[simp] theorem Mod.armGroup_desk (m : Mod) (k : Nat) (i : Rat) : (m.armGroup k i).h2w.desk = m.h2w.desk := by
  simp only [Mod.armGroup]
  split <;> simp

@[simp] theorem Mod.armBat_desk (m : Mod) (w : Rat) : (m.armBat w).h2w.desk = m.h2w.desk := by simp [Mod.armBat]

@[simp] theorem Mod.armFor_desk (m : Mod) (d : Rat) : (m.armFor d).h2w.desk = m.h2w.desk := by
  unfold Mod.armFor
  dsimp only
  split
  · split
    · split
      · split
        · rfl
        · simp -implicitDefEqProofs [desk_foldl]
      · rfl
    · simp
  · simp -implicitDefEqProofs [desk_foldl]

@[simp] theorem Mod.mapIntent_desk (m : Mod) (orig num : Nat) (f : Intent → Intent) : (m.mapIntent orig num f).h2w.desk = m.h2w.desk := by simp [Mod.mapIntent]

@[simp] theorem Mod.intentArm_desk (orig num : Nat) (m : Mod) : (m.intentArm orig num).h2w.desk = m.h2w.desk := by
  simp only [Mod.intentArm]
  split <;> simp

@[simp] theorem Mod.prebiasStart_desk (orig num : Nat) (m : Mod) : (m.prebiasStart orig num).h2w.desk = m.h2w.desk := by
  simp only [Mod.prebiasStart]
  split <;> simp

@[simp] theorem Mod.intentWithdraw_desk (orig num : Nat) (m : Mod) : (m.intentWithdraw orig num).h2w.desk = m.h2w.desk := by
  simp only [Mod.intentWithdraw]
  split <;> simp

@[simp] theorem Mod.tripActions_desk (m : Mod) (k : Nat) : (m.tripActions k).h2w.desk = m.h2w.desk := by
  simp -implicitDefEqProofs [Mod.tripActions, desk_each]

@[simp] theorem Mod.fastTrip_desk (k : Nat) (i : Rat) (m : Mod) : (m.fastTrip k i).h2w.desk = m.h2w.desk := by simp [Mod.fastTrip]

@[simp] theorem Mod.i2tTrip_desk (k : Nat) (i : Rat) (m : Mod) : (m.i2tTrip k i).h2w.desk = m.h2w.desk := by simp [Mod.i2tTrip]

@[simp] theorem Mod.reclose_desk (m : Mod) (k : Nat) : (m.reclose k).h2w.desk = m.h2w.desk := by simp [Mod.reclose]

@[simp] theorem Mod.clearPort_desk (m : Mod) (k : Nat) : (m.clearPort k).h2w.desk = m.h2w.desk := by
  simp -implicitDefEqProofs [Mod.clearPort, desk_each]

@[simp] theorem Mod.i2tClear_desk (k : Nat) (m : Mod) : (m.i2tClear k).h2w.desk = m.h2w.desk := by simp [Mod.i2tClear]

@[simp] theorem Mod.limitExit_desk (k : Nat) (m : Mod) : (m.limitExit k).h2w.desk = m.h2w.desk := by simp [Mod.limitExit]

@[simp] theorem Mod.sysOvervoltage_desk (v : Rat) (m : Mod) : (m.sysOvervoltage v).h2w.desk = m.h2w.desk := by simp [Mod.sysOvervoltage]

@[simp] theorem Mod.brkClamp_desk (v : Rat) (m : Mod) : (m.brkClamp v).h2w.desk = m.h2w.desk := by simp [Mod.brkClamp]

@[simp] theorem Mod.brkRelease_desk (v e : Rat) (m : Mod) : (m.brkRelease v e).h2w.desk = m.h2w.desk := by simp [Mod.brkRelease]

@[simp] theorem Mod.linkOvervoltage_desk (v : Rat) (m : Mod) : (m.linkOvervoltage v).h2w.desk = m.h2w.desk := by
  simp -implicitDefEqProofs [Mod.linkOvervoltage, desk_each]

@[simp] theorem Mod.switchFailure_desk (k : Nat) (i : Rat) (m : Mod) : (m.switchFailure k i).h2w.desk = m.h2w.desk := by
  simp only [Mod.switchFailure]
  split <;> simp

@[simp] theorem Mod.switchOvertemp_desk (k : Nat) (c : Rat) (m : Mod) : (m.switchOvertemp k c).h2w.desk = m.h2w.desk := by
  simp -implicitDefEqProofs [Mod.switchOvertemp]

@[simp] theorem Mod.switchCool_desk (k : Nat) (c : Rat) (m : Mod) : (m.switchCool k c).h2w.desk = m.h2w.desk := by simp [Mod.switchCool]

@[simp] theorem Mod.portDisable_desk (m : Mod) (k : Nat) : (m.portDisable k).h2w.desk = m.h2w.desk := by simp [Mod.portDisable]

@[simp] theorem Mod.switchRelease_desk (k : Nat) (i : Rat) (m : Mod) : (m.switchRelease k i).h2w.desk = m.h2w.desk := by simp [Mod.switchRelease]

@[simp] theorem Mod.portEnable_desk (m : Mod) (k : Nat) : (m.portEnable k).h2w.desk = m.h2w.desk := by simp [Mod.portEnable]

@[simp] theorem Mod.ilkOpened_desk (m : Mod) : m.ilkOpened.h2w.desk = m.h2w.desk := by simp [Mod.ilkOpened]

@[simp] theorem Mod.ilkClosed_desk (m : Mod) : m.ilkClosed.h2w.desk = m.h2w.desk := by
  simp -implicitDefEqProofs [Mod.ilkClosed, desk_each]

@[simp] theorem Mod.estopTo_desk (m : Mod) (st : Nat) : (m.estopTo st).h2w.desk = m.h2w.desk := by simp [Mod.estopTo]

@[simp] theorem Mod.estopOpened_desk (m : Mod) : m.estopOpened.h2w.desk = m.h2w.desk := by simp [Mod.estopOpened]

@[simp] theorem Mod.estopClosed_desk (m : Mod) : m.estopClosed.h2w.desk = m.h2w.desk := by simp [Mod.estopClosed]

@[simp] theorem Mod.estopTested_desk (pass : Bool) (m : Mod) : (m.estopTested pass).h2w.desk = m.h2w.desk := by simp [Mod.estopTested]

@[simp] theorem Mod.lockstepMismatch_desk (m : Mod) : m.lockstepMismatch.h2w.desk = m.h2w.desk := by
  simp -implicitDefEqProofs [Mod.lockstepMismatch, desk_foldl]

@[simp] theorem Mod.contHold_desk (m : Mod) : m.contHold.h2w.desk = m.h2w.desk := by simp [Mod.contHold]

@[simp] theorem Mod.contOpenLoad_desk (i : Rat) (m : Mod) : (m.contOpenLoad i).h2w.desk = m.h2w.desk := by simp [Mod.contOpenLoad]

@[simp] theorem Mod.contOvercurrent_desk (i : Rat) (m : Mod) : (m.contOvercurrent i).h2w.desk = m.h2w.desk := by simp [Mod.contOvercurrent]

@[simp] theorem Mod.imdTo_desk (m : Mod) (st : Nat) : (m.imdTo st).h2w.desk = m.h2w.desk := by simp [Mod.imdTo]

@[simp] theorem Mod.imdStop_desk (m : Mod) (role : Nat) : (m.imdStop role).h2w.desk = m.h2w.desk := by simp [Mod.imdStop]

@[simp] theorem Mod.imdOffer_desk (m : Mod) : m.imdOffer.h2w.desk = m.h2w.desk := by simp [Mod.imdOffer]

@[simp] theorem Mod.imdStart_desk (m : Mod) : m.imdStart.h2w.desk = m.h2w.desk := by simp [Mod.imdStart]

@[simp] theorem Mod.imdGrant_desk (gsys node : Nat) (m : Mod) : (m.imdGrant gsys node).h2w.desk = m.h2w.desk := by simp [Mod.imdGrant]

@[simp] theorem Mod.imdExpiry_desk (m : Mod) : m.imdExpiry.h2w.desk = m.h2w.desk := by simp [Mod.imdExpiry]

@[simp] theorem Mod.imdHalf_desk (riso csys pole : Rat) (m : Mod) : (m.imdHalf riso csys pole).h2w.desk = m.h2w.desk := by
  simp -implicitDefEqProofs [Mod.imdHalf]

@[simp] theorem Mod.imdClash_desk (m : Mod) : m.imdClash.h2w.desk = m.h2w.desk := by simp [Mod.imdClash]

@[simp] theorem Mod.pd_desk (m : Mod) (msg : String) (args : List Nat) : (m.pd msg args).h2w.desk = m.h2w.desk := by simp [Mod.pd]

@[simp] theorem Mod.usbTo_desk (m : Mod) (st : Nat) : (m.usbTo st).h2w.desk = m.h2w.desk := by simp [Mod.usbTo]

@[simp] theorem Mod.usbContract_desk (m : Mod) (v i : Rat) (epr : Bool) : (m.usbContract v i epr).h2w.desk = m.h2w.desk := by simp [Mod.usbContract]

@[simp] theorem Mod.usbNoContract_desk (m : Mod) : m.usbNoContract.h2w.desk = m.h2w.desk := by simp [Mod.usbNoContract]

@[simp] theorem Mod.deepEnd_desk (m : Mod) : m.deepEnd.h2w.desk = m.h2w.desk := by simp [Mod.deepEnd]

@[simp] theorem Mod.usbRole_desk (m : Mod) (src : Bool) : (m.usbRole src).h2w.desk = m.h2w.desk := by simp [Mod.usbRole]

@[simp] theorem usbAttachWith_desk (src : Bool) (x : Sys) : (usbAttachWith src x).1.h2w.desk = x.1.h2w.desk := by simp [usbAttachWith]

@[simp] theorem usbDetach_desk (x : Sys) : (usbDetach x).1.h2w.desk = x.1.h2w.desk := by simp [usbDetach]

@[simp] theorem Mod.swapsTx_desk (m : Mod) : m.swapsTx.h2w.desk = m.h2w.desk := by simp [Mod.swapsTx]

@[simp] theorem Mod.afterContract_desk (m : Mod) : m.afterContract.h2w.desk = m.h2w.desk := by simp [Mod.afterContract]

@[simp] theorem Mod.sourceCaps_desk (c : SrcCaps) (m : Mod) : (Mod.sourceCaps c m).h2w.desk = m.h2w.desk := by
  unfold Mod.sourceCaps
  split
  · split <;> simp
  · rfl

@[simp] theorem Mod.eprEnd_desk (m : Mod) : m.eprEnd.h2w.desk = m.h2w.desk := by simp [Mod.eprEnd]

@[simp] theorem Mod.keepAlive_desk (answered : Bool) (m : Mod) : (m.keepAlive answered).h2w.desk = m.h2w.desk := by simp [Mod.keepAlive]

@[simp] theorem Mod.pdRequest_desk (volts : Nat) (m : Mod) : (m.pdRequest volts).h2w.desk = m.h2w.desk := by simp [Mod.pdRequest]

@[simp] theorem Mod.vbusDone_desk (vbus : Rat) (m : Mod) : (m.vbusDone vbus).h2w.desk = m.h2w.desk := by simp [Mod.vbusDone]

@[simp] theorem Mod.prSwap_desk (m : Mod) : m.prSwap.h2w.desk = m.h2w.desk := by simp [Mod.prSwap]

@[simp] theorem Mod.drSwap_desk (m : Mod) : m.drSwap.h2w.desk = m.h2w.desk := by simp [Mod.drSwap]

@[simp] theorem Mod.frSwap_desk (asMessage : Bool) (m : Mod) : (m.frSwap asMessage).h2w.desk = m.h2w.desk := by simp [Mod.frSwap]

@[simp] theorem Mod.notSupported_desk (message : Nat) (m : Mod) : (m.notSupported message).h2w.desk = m.h2w.desk := by simp [Mod.notSupported]

@[simp] theorem Mod.hardReset_desk (sent : Bool) (m : Mod) : (m.hardReset sent).h2w.desk = m.h2w.desk := by simp [Mod.hardReset]

@[simp] theorem Mod.discoverIdentity_desk (m : Mod) : m.discoverIdentity.h2w.desk = m.h2w.desk := by simp [Mod.discoverIdentity]

@[simp] theorem Mod.discoverSvids_desk (m : Mod) : m.discoverSvids.h2w.desk = m.h2w.desk := by simp [Mod.discoverSvids]

@[simp] theorem Mod.discoverModes_desk (svid : Nat) (m : Mod) : (m.discoverModes svid).h2w.desk = m.h2w.desk := by simp [Mod.discoverModes]

@[simp] theorem Mod.partnerIdentity_desk (vdos : List Nat) (m : Mod) : (m.partnerIdentity vdos).h2w.desk = m.h2w.desk := by simp [Mod.partnerIdentity]

@[simp] theorem enterMode_desk (svid pos : Nat) (x : Sys) : (enterMode svid pos x).1.h2w.desk = x.1.h2w.desk := by simp [enterMode]

@[simp] theorem Mod.exitMode_desk (m : Mod) : m.exitMode.h2w.desk = m.h2w.desk := by simp [Mod.exitMode]

@[simp] theorem Mod.tamperOpened_desk (m : Mod) : m.tamperOpened.h2w.desk = m.h2w.desk := by simp [Mod.tamperOpened]

@[simp] theorem Mod.tamperClosed_desk (m : Mod) : m.tamperClosed.h2w.desk = m.h2w.desk := by simp [Mod.tamperClosed]

@[simp] theorem sessionIdle_desk (req : Nat) (x : Sys) : (sessionIdle req x).1.h2w.desk = x.1.h2w.desk := by simp [sessionIdle]

@[simp] theorem Mod.lockoutEnd_desk (cls : Nat) (m : Mod) : (m.lockoutEnd cls).h2w.desk = m.h2w.desk := by simp [Mod.lockoutEnd]

@[simp] theorem Mod.scrubDone_desk (m : Mod) : m.scrubDone.h2w.desk = m.h2w.desk := by simp [Mod.scrubDone]

@[simp] theorem Mod.fwEvent_desk (m : Mod) (old new check : Nat) : (m.fwEvent old new check).h2w.desk = m.h2w.desk := by simp [Mod.fwEvent]

@[simp] theorem Mod.fwVerified_desk (x : FwImage) (m : Mod) : (Mod.fwVerified x m).h2w.desk = m.h2w.desk := by
  unfold Mod.fwVerified
  split
  · dsimp only
    split <;> simp
  · rfl

@[simp] theorem Mod.trialConfirm_desk (m : Mod) : m.trialConfirm.h2w.desk = m.h2w.desk := by simp [Mod.trialConfirm]

@[simp] theorem Mod.capEcc_desk (m : Mod) : m.capEcc.h2w.desk = m.h2w.desk := by simp [Mod.capEcc]

@[simp] theorem Mod.raiseEffect_desk (m : Mod) (b bit : Nat) : (m.raiseEffect b bit).h2w.desk = m.h2w.desk := by simp [Mod.raiseEffect]

@[simp] theorem Mod.faultRaise_desk (b bit : Nat) (active : Bool) (value : Rat) (m : Mod) : (Mod.faultRaise b bit active value m).h2w.desk = m.h2w.desk := by
  unfold Mod.faultRaise
  split
  · simp
  · split <;> simp

@[simp] theorem Mod.faultScan_desk (m : Mod) : m.faultScan.h2w.desk = m.h2w.desk := by
  simp -implicitDefEqProofs [Mod.faultScan, desk_each]

@[simp] theorem Mod.faultAck_desk (b bits : Nat) (m : Mod) : (m.faultAck b bits).h2w.desk = m.h2w.desk := by simp [Mod.faultAck]

@[simp] theorem Mod.eventHold_desk (b bit : Nat) (m : Mod) : (m.eventHold b bit).h2w.desk = m.h2w.desk := by simp [Mod.eventHold]

@[simp] theorem Mod.faultGates_desk (m : Mod) : m.faultGates.h2w.desk = m.h2w.desk := by simp [Mod.faultGates]

@[simp] theorem Mod.streamAbort_desk (m : Mod) (status : Nat) : (m.streamAbort status).h2w.desk = m.h2w.desk := by simp [Mod.streamAbort]

@[simp] theorem Mod.holdover_desk (m : Mod) : m.holdover.h2w.desk = m.h2w.desk := by simp [Mod.holdover]

@[simp] theorem Mod.resetDone_desk (b : Nat) (m : Mod) : (Mod.resetDone b m).h2w.desk = m.h2w.desk := by
  unfold Mod.resetDone
  extract_lets m₁ m₂ m₂' m₃ f
  have begun : m₂.h2w.desk = m.h2w.desk := by simp [m₂, m₁]
  have reset : m₃.h2w.desk = m₂.h2w.desk := by
    clear_value m₂
    unfold m₃
    split <;> simp -implicitDefEqProofs [m₂', desk_each]
  split
  · simp [reset, begun]
  · rfl

@[simp] theorem Mod.recovered_desk (m : Mod) (b : Nat) : (m.recovered b).h2w.desk = m.h2w.desk := by simp [Mod.recovered]

@[simp] theorem Mod.faultRecover_desk (b : Nat) (m : Mod) : (m.faultRecover b).h2w.desk = m.h2w.desk := by
  simp -implicitDefEqProofs [Mod.faultRecover]

@[simp] theorem Mod.latchClear_desk (m : Mod) (b : Nat) : (m.latchClear b).h2w.desk = m.h2w.desk := by
  simp -implicitDefEqProofs [Mod.latchClear]

@[simp] theorem Mod.stickyClear_desk (m : Mod) (b bits : Nat) : (m.stickyClear b bits).h2w.desk = m.h2w.desk := by simp [Mod.stickyClear]

@[simp] theorem Mod.faultRestore_desk (m : Mod) : m.faultRestore.h2w.desk = m.h2w.desk := by simp [Mod.faultRestore]

@[simp] theorem Mod.inject_desk (m : Mod) (b bits : Nat) : (m.inject b bits).h2w.desk = m.h2w.desk := by simp [Mod.inject]

@[simp] theorem Mod.injMiss_desk (b bit : Nat) (m : Mod) : (m.injMiss b bit).h2w.desk = m.h2w.desk := by simp [Mod.injMiss]

@[simp] theorem Mod.kprWindow_desk (m : Mod) : m.kprWindow.h2w.desk = m.h2w.desk := by simp [Mod.kprWindow]

@[simp] theorem Mod.kprStart_desk (m : Mod) : m.kprStart.h2w.desk = m.h2w.desk := by simp [Mod.kprStart]

@[simp] theorem Mod.kprExpire_desk (m : Mod) (cause : Nat) : (m.kprExpire cause).h2w.desk = m.h2w.desk := by
  simp -implicitDefEqProofs [Mod.kprExpire, desk_foldl]

@[simp] theorem Mod.kprKey_desk (m : Mod) (key : Nat) (host : Bool) : (m.kprKey key host).1.h2w.desk = m.h2w.desk := by
  unfold Mod.kprKey
  dsimp only
  split
  · rfl
  split
  · split <;> rfl
  split
  · rfl
  split
  · simp
  split
  · rfl
  · simp

@[simp] theorem Mod.kprCheckin_desk (m : Mod) (bits : Nat) : (m.kprCheckin bits).h2w.desk = m.h2w.desk := by simp [Mod.kprCheckin]

@[simp] theorem Mod.kprSelf_desk (m : Mod) : m.kprSelf.h2w.desk = m.h2w.desk := by simp [Mod.kprSelf]

@[simp] theorem Mod.kprLate_desk (m : Mod) : m.kprLate.h2w.desk = m.h2w.desk := by simp [Mod.kprLate]

@[simp] theorem Mod.bankErase_desk (m : Mod) : m.bankErase.h2w.desk = m.h2w.desk := by simp [Mod.bankErase]

@[simp] theorem Mod.eraseEnd_desk (m : Mod) : m.eraseEnd.h2w.desk = m.h2w.desk := by
  simp only [Mod.eraseEnd]
  split <;> simp

@[simp] theorem Mod.q26Flush_desk (m : Mod) : m.q26Flush.h2w.desk = m.h2w.desk := by
  simp -implicitDefEqProofs [Mod.q26Flush, desk_foldl]

@[simp] theorem Mod.dropEvents_desk (m : Mod) : m.dropEvents.h2w.desk = m.h2w.desk := by
  simp only [Mod.dropEvents]
  split <;> simp

@[simp] theorem Mod.dropEnergy_desk (m : Mod) : m.dropEnergy.h2w.desk = m.h2w.desk := by
  simp only [Mod.dropEnergy]
  split <;> simp

@[simp] theorem Mod.eraseDone_desk (m : Mod) : m.eraseDone.h2w.desk = m.h2w.desk := by
  simp only [Mod.eraseDone]
  split <;> simp

@[simp] theorem Mod.eraseTimeout_desk (m : Mod) : m.eraseTimeout.h2w.desk = m.h2w.desk := by
  simp only [Mod.eraseTimeout]
  split <;> simp

end Sys2Proof.Machine
end

section
/-! PROOF. The ring and its frames leave the window's desk. -/

set_option Elab.async false

namespace Sys2Proof.Machine

open Sys2Proof

@[simp] theorem Mod.modNet_desk (m : Mod) (f : Net → Net) : (m.modNet f).h2w.desk = m.h2w.desk := by simp [Mod.modNet]

@[simp] theorem Mod.showAddr_desk (m : Mod) : m.showAddr.h2w.desk = m.h2w.desk := by simp [Mod.showAddr]

@[simp] theorem Mod.heard_desk (m : Mod) (l : Nat) : (m.heard l).h2w.desk = m.h2w.desk := by simp [Mod.heard]

@[simp] theorem Mod.freeCredits_desk (m : Mod) (l : Nat) (h : Hdr) : (m.freeCredits l h).h2w.desk = m.h2w.desk := by simp [Mod.freeCredits]

@[simp] theorem Mod.freeEnded_desk (m : Mod) (l : Nat) (h : Hdr) : (m.freeEnded l h).h2w.desk = m.h2w.desk := by simp [Mod.freeEnded]

@[simp] theorem Mod.fcsFail_desk (m : Mod) (l : Nat) (h : Hdr) : (m.fcsFail l h).h2w.desk = m.h2w.desk := by simp [Mod.fcsFail]

@[simp] theorem Mod.macFail_desk (m : Mod) : m.macFail.h2w.desk = m.h2w.desk := by simp [Mod.macFail]

@[simp] theorem Mod.gapSend_desk (m : Mod) (d : DropS) : (m.gapSend d).h2w.desk = m.h2w.desk := by simp [Mod.gapSend]

@[simp] theorem Mod.gapBefore_desk (m : Mod) (h : Hdr) : (m.gapBefore h).h2w.desk = m.h2w.desk := by
  simp only [Mod.gapBefore]
  split <;> simp

@[simp] theorem Mod.gapsHere_desk (m : Mod) (h : Hdr) : (m.gapsHere h).h2w.desk = m.h2w.desk := by
  simp -implicitDefEqProofs [Mod.gapsHere, desk_foldl]

@[simp] theorem Mod.dropClass6_desk (m : Mod) (orig dst typ seq : Nat) : (m.dropClass6 orig dst typ seq).h2w.desk = m.h2w.desk := by simp [Mod.dropClass6]

@[simp] theorem Mod.consume_desk (m : Mod) (h : Hdr) (who : Nat) : (m.consume h who).1.h2w.desk = m.h2w.desk := by
  unfold Mod.consume
  split
  · split
    · simp
    · split <;> simp
  · simp

@[simp] theorem Mod.delayBad_desk (m : Mod) (l typ : Nat) : (m.delayBad l typ).h2w.desk = m.h2w.desk := by simp [Mod.delayBad]

@[simp] theorem Mod.frameCheckBy_desk (m : Mod) (h : Hdr) (typ : Nat) (ln : Option Nat) (who : Nat) : (m.frameCheckBy h typ ln who).1.h2w.desk = m.h2w.desk := by
  unfold Mod.frameCheckBy
  dsimp only
  split
  · simp
  split
  · rfl
  split
  · simp
  split
  · simp
  split_ifs <;> simp

@[simp] theorem Mod.frameCheck_desk (m : Mod) (h : Hdr) (typ : Nat) (ln : Option Nat) : (m.frameCheck h typ ln).1.h2w.desk = m.h2w.desk := by simp [Mod.frameCheck]

@[simp] theorem Mod.onFrame_desk (m : Mod) (h : Hdr) (typ : Nat) (ln : Option Nat) (f : Mod → Mod) : (m.onFrame h typ ln f).h2w.desk = if (m.frameCheck h typ ln).2 then (f (m.frameCheck h typ ln).1).h2w.desk else m.h2w.desk := by
  have checked : (m.frameCheck h typ ln).1.h2w.desk = m.h2w.desk := by simp
  unfold Mod.onFrame
  generalize m.frameCheck h typ ln = x at checked ⊢
  obtain ⟨m', passed⟩ := x
  cases passed
  · exact checked
  · rfl

@[simp] theorem Mod.setRole_desk (m : Mod) (role idx gen : Nat) : (m.setRole role idx gen).h2w.desk = m.h2w.desk := by simp [Mod.setRole]

@[simp] theorem Mod.trimWait_desk (m : Mod) : m.trimWait.h2w.desk = m.h2w.desk := by simp [Mod.trimWait]

@[simp] theorem Mod.memberAt_desk (m : Mod) (idx gen : Nat) : (m.memberAt idx gen).h2w.desk = m.h2w.desk := by simp [Mod.memberAt]

@[simp] theorem Mod.frShow_desk (m : Mod) : m.frShow.h2w.desk = m.h2w.desk := by simp [Mod.frShow]

@[simp] theorem Mod.ilShow_desk (m : Mod) : m.ilShow.h2w.desk = m.h2w.desk := by simp [Mod.ilShow]

@[simp] theorem Mod.fenceFound_desk (m : Mod) (cause newGen : Nat) : (m.fenceFound cause newGen).h2w.desk = m.h2w.desk := by simp [Mod.fenceFound]

@[simp] theorem Mod.giveUpRoles_desk (m : Mod) : m.giveUpRoles.h2w.desk = m.h2w.desk := by simp [Mod.giveUpRoles]

@[simp] theorem Mod.fence_desk (m : Mod) (cause : Nat) : (m.fence cause).h2w.desk = m.h2w.desk := by
  unfold Mod.fence
  dsimp only
  split <;> simp -implicitDefEqProofs

@[simp] theorem Mod.fenceRampDone_desk (m : Mod) : m.fenceRampDone.h2w.desk = m.h2w.desk := by simp [Mod.fenceRampDone]

@[simp] theorem Mod.takeRole_desk (m : Mod) (r : RoleRec) : (m.takeRole r).h2w.desk = m.h2w.desk := by
  simp -implicitDefEqProofs [Mod.takeRole, desk_each]

@[simp] theorem Mod.leadPut_desk (m : Mod) (r : RoleRec) : (m.leadPut r).h2w.desk = m.h2w.desk := by simp [Mod.leadPut]

@[simp] theorem Mod.leadDrop_desk (m : Mod) (seg idx : Nat) : (m.leadDrop seg idx).h2w.desk = m.h2w.desk := by simp [Mod.leadDrop]

@[simp] theorem Mod.mapStn_desk (m : Mod) (n : Nat) (f : Stn → Stn) : (m.mapStn n f).h2w.desk = m.h2w.desk := by simp [Mod.mapStn]

@[simp] theorem Mod.roleSeen_desk (m : Mod) (r : RoleRec) : (m.roleSeen r).h2w.desk = m.h2w.desk := by
  simp -implicitDefEqProofs [Mod.roleSeen]

@[simp] theorem Mod.sendStnRec_desk (m : Mod) : m.sendStnRec.h2w.desk = m.h2w.desk := by simp [Mod.sendStnRec]

@[simp] theorem Mod.setTrim_desk (m : Mod) (p : Rat) : (m.setTrim p).h2w.desk = m.h2w.desk := by simp [Mod.setTrim]

@[simp] theorem Mod.steer_desk (m : Mod) (nt : Rat) : (m.steer nt).h2w.desk = m.h2w.desk := by simp [Mod.steer]

@[simp] theorem Mod.timeHeard_desk (m : Mod) : m.timeHeard.h2w.desk = m.h2w.desk := by
  simp -implicitDefEqProofs [Mod.timeHeard]

@[simp] theorem Mod.timeLost_desk (m : Mod) : m.timeLost.h2w.desk = m.h2w.desk := by simp [Mod.timeLost]

@[simp] theorem Mod.ringShape_desk (m : Mod) : m.ringShape.h2w.desk = m.h2w.desk := by simp [Mod.ringShape]

@[simp] theorem Mod.linkFail_desk (m : Mod) (l : Nat) : (m.linkFail l).h2w.desk = m.h2w.desk := by simp [Mod.linkFail]

@[simp] theorem Mod.commitPlace_desk (m : Mod) (key v : Nat) : (m.commitPlace key v).h2w.desk = m.h2w.desk := by simp [Mod.commitPlace]

@[simp] theorem Mod.takeNumber_desk (m : Mod) (ring stn : Nat) : (m.takeNumber ring stn).h2w.desk = m.h2w.desk := by simp [Mod.takeNumber]

@[simp] theorem Mod.becomeLantern_desk (m : Mod) (lgen : Nat) : (m.becomeLantern lgen).h2w.desk = m.h2w.desk := by simp [Mod.becomeLantern]

@[simp] theorem Mod.capBegin_desk (m : Mod) : m.capBegin.h2w.desk = m.h2w.desk := by simp [Mod.capBegin]

@[simp] theorem Mod.captureTrigger_desk (x : TrigIn) (m : Mod) : (m.captureTrigger x).h2w.desk = m.h2w.desk := by simp [Mod.captureTrigger]

@[simp] theorem Mod.capHeld_desk (m : Mod) : m.capHeld.h2w.desk = m.h2w.desk := by simp [Mod.capHeld]

@[simp] theorem Mod.capFreeze_desk (m : Mod) : m.capFreeze.h2w.desk = m.h2w.desk := by simp [Mod.capFreeze]

@[simp] theorem Mod.capTrigRx_desk (h : Hdr) (ntime : Nat) (m : Mod) : (m.capTrigRx h ntime).h2w.desk = m.h2w.desk := by simp [Mod.capTrigRx]

@[simp] theorem streamPump_desk (n : Nat) (m : Mod) : (Mod.streamPump n m).h2w.desk = m.h2w.desk := by
  induction n generalizing m with
  | zero => rfl
  | succ n ih =>
    unfold Mod.streamPump
    dsimp only
    split
    · rfl
    · simp [ih]

@[simp] theorem Mod.streamBegin_desk (m : Mod) : m.streamBegin.h2w.desk = m.h2w.desk := by
  simp [Mod.streamBegin]

@[simp] theorem Mod.capCommand_desk (m : Mod) (cmd : Nat) : (m.capCommand cmd).h2w.desk = m.h2w.desk := by
  simp only [Mod.capCommand]
  split <;> simp

@[simp] theorem Mod.streamEnd_desk (status : Nat) (m : Mod) : (m.streamEnd status).h2w.desk = m.h2w.desk := by simp [Mod.streamEnd]

@[simp] theorem Mod.streamB_desk (m : Mod) : m.streamB.h2w.desk = m.h2w.desk := by simp [Mod.streamB]

@[simp] theorem Mod.streamGap_desk (m : Mod) (blocks : Nat) : (m.streamGap blocks).h2w.desk = m.h2w.desk := by simp [Mod.streamGap]

@[simp] theorem Mod.cableAsk_desk (m : Mod) (c : Nat) : (m.cableAsk c).h2w.desk = m.h2w.desk := by simp [Mod.cableAsk]

@[simp] theorem Mod.cableStart_desk (m : Mod) (c : Nat) : (m.cableStart c).h2w.desk = m.h2w.desk := by simp [Mod.cableStart]

@[simp] theorem Mod.cableTick_desk (m : Mod) : m.cableTick.h2w.desk = m.h2w.desk := by simp [Mod.cableTick]

@[simp] theorem Mod.brkAuto_desk (vLink : Rat) (m : Mod) : (m.brkAuto vLink).h2w.desk = m.h2w.desk := by simp [Mod.brkAuto]

@[simp] theorem Mod.commitAll_desk (m : Mod) (l : List (Fam × Nat × Val)) : (m.commitAll l).h2w.desk = m.h2w.desk := by
  simp -implicitDefEqProofs [Mod.commitAll, desk_foldl]

@[simp] theorem Mod.cableValid_desk (m : Mod) (j : Nat) (x : CableRes) : (m.cableValid j x).h2w.desk = m.h2w.desk := by simp [Mod.cableValid]

@[simp] theorem Mod.cableResult_desk (run : Nat) (x : CableRes) (m : Mod) : (m.cableResult run x).h2w.desk = m.h2w.desk := by simp [Mod.cableResult]

@[simp] theorem Mod.calAdjust_desk (m : Mod) (b : List Nat) : (m.calAdjust b).h2w.desk = m.h2w.desk := by simp [Mod.calAdjust]

@[simp] theorem Mod.loopGone_desk (m : Mod) (l : Nat) : (m.loopGone l).h2w.desk = m.h2w.desk := by simp [Mod.loopGone]

@[simp] theorem Mod.phyLink_desk (l : Nat) (up : Bool) (m : Mod) : (m.phyLink l up).h2w.desk = m.h2w.desk := by simp [Mod.phyLink]

@[simp] theorem Mod.linkUp_desk (l : Nat) (m : Mod) : (m.linkUp l).h2w.desk = m.h2w.desk := by simp [Mod.linkUp]

@[simp] theorem Mod.linkDown_desk (l : Nat) (m : Mod) : (m.linkDown l).h2w.desk = m.h2w.desk := by simp [Mod.linkDown]

@[simp] theorem Mod.linkFrame_desk (m : Mod) (l typ : Nat) (content : List Nat) : (m.linkFrame l typ content).h2w.desk = m.h2w.desk := by simp [Mod.linkFrame]

@[simp] theorem Mod.delayReqTx_desk (l : Nat) (m : Mod) : (m.delayReqTx l).h2w.desk = m.h2w.desk := by simp [Mod.delayReqTx]

@[simp] theorem Mod.delayReqRx_desk (l : Nat) (h : Hdr) (residence : Rat) (m : Mod) : (m.delayReqRx l h residence).h2w.desk = m.h2w.desk := by simp [Mod.delayReqRx]

@[simp] theorem Mod.injUsed_desk (m : Mod) (k l : Nat) : (m.injUsed k l).h2w.desk = m.h2w.desk := by simp [Mod.injUsed]

@[simp] theorem Mod.holdLoop_desk (m : Mod) (l : Nat) : (m.holdLoop l).h2w.desk = m.h2w.desk := by
  simp -implicitDefEqProofs [Mod.holdLoop, desk_foldl]

@[simp] theorem Mod.delayDone_desk (l : Nat) (x : DelayResp) (m : Mod) : (m.delayDone l x).h2w.desk = m.h2w.desk := by simp [Mod.delayDone]

@[simp] theorem Mod.delayRespRx_desk (l : Nat) (h : Hdr) (x : DelayResp) (m : Mod) : (m.delayRespRx l h x).h2w.desk = m.h2w.desk := by simp [Mod.delayRespRx]

@[simp] theorem Mod.beaconRecords_desk (m : Mod) : m.beaconRecords.1.h2w.desk = m.h2w.desk := by simp [Mod.beaconRecords]

@[simp] theorem Mod.showLoop_desk (m : Mod) : m.showLoop.h2w.desk = m.h2w.desk := by simp [Mod.showLoop]

@[simp] theorem Mod.sendBeacon_desk (m : Mod) (b : Beacon) : (m.sendBeacon b).h2w.desk = m.h2w.desk := by
  simp only [Mod.sendBeacon]
  split <;> simp

@[simp] theorem Mod.sendRelay_desk (m : Mod) (t0 : Nat) (cf : Rat) : (m.sendRelay t0 cf).h2w.desk = m.h2w.desk := by simp [Mod.sendRelay]

@[simp] theorem Mod.conflictShow_desk (m : Mod) (l : List Nat) : (m.conflictShow l).h2w.desk = m.h2w.desk := by simp [Mod.conflictShow]

@[simp] theorem Mod.beaconTx_desk (m : Mod) : m.beaconTx.h2w.desk = m.h2w.desk := by
  simp -implicitDefEqProofs [Mod.beaconTx, desk_foldl]

@[simp] theorem Mod.beaconForward_desk (m : Mod) (l : Nat) (h : Hdr) (b : Beacon) (slot : Option Slot) (residence : Nat) : (m.beaconForward l h b slot residence).h2w.desk = m.h2w.desk := by simp [Mod.beaconForward]

@[simp] theorem Mod.beaconTake_desk (m : Mod) (l : Nat) (b : Beacon) : (m.beaconTake l b).h2w.desk = m.h2w.desk := by
  simp -implicitDefEqProofs [Mod.beaconTake, desk_foldl]

@[simp] theorem Mod.beaconOwn_desk (m : Mod) (l : Nat) (b : Beacon) : (m.beaconOwn l b).h2w.desk = m.h2w.desk := by simp [Mod.beaconOwn]

@[simp] theorem Mod.beaconParent_desk (m : Mod) (l : Nat) (b : Beacon) : (m.beaconParent l b).h2w.desk = m.h2w.desk := by simp [Mod.beaconParent]

@[simp] theorem Mod.beaconRx_desk (l : Nat) (h : Hdr) (b : Beacon) (residence : Nat) (m : Mod) : (m.beaconRx l h b residence).h2w.desk = m.h2w.desk := by simp [Mod.beaconRx]

@[simp] theorem Mod.settleClaim_desk (m : Mod) (n seg idx gen : Nat) : (m.settleClaim n seg idx gen).h2w.desk = m.h2w.desk := by
  unfold Mod.settleClaim
  dsimp only
  split
  · rfl
  split
  · simp
  · split_ifs <;> simp

@[simp] theorem Mod.takeCommit_desk (m : Mod) (n : Nat) : (m.takeCommit n).h2w.desk = m.h2w.desk := by
  unfold Mod.takeCommit
  split
  · split
    · split <;> simp
    · rfl
  · rfl

@[simp] theorem Mod.darkEnd_desk (m : Mod) (n : Nat) : (m.darkEnd n).h2w.desk = m.h2w.desk := by
  simp only [Mod.darkEnd]
  split <;> simp

@[simp] theorem Mod.flashResponse_desk (m : Mod) (n : Nat) (s : Option Slot) : (m.flashResponse n s).h2w.desk = m.h2w.desk := by
  unfold Mod.flashResponse
  split
  next x =>
    extract_lets was m₁ m₂ m₃ m₄ seg m₅ m₆
    have kept : m₂.h2w.desk = m.h2w.desk := by
      unfold m₂
      split <;> simp [m₁]
    simp [m₆, m₅, m₄, m₃, kept]
  · simp

@[simp] theorem Mod.beaconReturn_desk (cycle : Nat) (slots : List Slot) (loopTime : Option Rat) (turned : Bool) (m : Mod) : (Mod.beaconReturn cycle slots loopTime turned m).h2w.desk = m.h2w.desk := by
  unfold Mod.beaconReturn
  split
  · extract_lets m₁ ok m₂ m₃
    have timed : m₁.h2w.desk = m.h2w.desk := by
      unfold m₁
      split <;> simp
    have told : m₂.h2w.desk = m₁.h2w.desk := by
      clear_value m₁
      simp -implicitDefEqProofs [m₂, desk_foldl]
    clear_value m₂
    simp [m₃, told, timed]
  · rfl

@[simp] theorem Mod.creditRx_desk (l : Nat) (h : Hdr) (freed : List Nat) (m : Mod) : (m.creditRx l h freed).h2w.desk = m.h2w.desk := by simp [Mod.creditRx]

@[simp] theorem Mod.creditTx_desk (l : Nat) (m : Mod) : (m.creditTx l).h2w.desk = m.h2w.desk := by simp [Mod.creditTx]

@[simp] theorem Mod.claimTx_desk (m : Mod) : m.claimTx.h2w.desk = m.h2w.desk := by simp [Mod.claimTx]

@[simp] theorem Mod.offerEnd_desk (m : Mod) : m.offerEnd.h2w.desk = m.h2w.desk := by simp [Mod.offerEnd]

@[simp] theorem Mod.claimRx_desk (l : Nat) (h : Hdr) (x : ClaimMsg) (m : Mod) : (m.claimRx l h x).h2w.desk = m.h2w.desk := by simp [Mod.claimRx]

@[simp] theorem Mod.electionWin_desk (m : Mod) : m.electionWin.h2w.desk = m.h2w.desk := by simp [Mod.electionWin]

@[simp] theorem Mod.ringOfOne_desk (m : Mod) : m.ringOfOne.h2w.desk = m.h2w.desk := by simp [Mod.ringOfOne]

@[simp] theorem Mod.handoverOffer_desk (m : Mod) (stn : Nat) : (m.handoverOffer stn).h2w.desk = m.h2w.desk := by simp [Mod.handoverOffer]

@[simp] theorem Mod.handoverRx_desk (h : Hdr) (target lgen : Nat) (m : Mod) : (m.handoverRx h target lgen).h2w.desk = m.h2w.desk := by simp [Mod.handoverRx]

@[simp] theorem Mod.handoverLapse_desk (m : Mod) : m.handoverLapse.h2w.desk = m.h2w.desk := by simp [Mod.handoverLapse]

@[simp] theorem Mod.relayOn_desk (m : Mod) (l : Nat) (h : Hdr) (t0 : Nat) (cf : RelayCf) : (m.relayOn l h t0 cf).h2w.desk = m.h2w.desk := by simp [Mod.relayOn]

@[simp] theorem Mod.relayTake_desk (m : Mod) (l : Nat) (h : Hdr) (t0 : Nat) (cf : RelayCf) : (m.relayTake l h t0 cf).h2w.desk = m.h2w.desk := by simp [Mod.relayTake]

@[simp] theorem Mod.timeRelayRx_desk (l : Nat) (h : Hdr) (t0 : Nat) (cf : RelayCf) (m : Mod) : (m.timeRelayRx l h t0 cf).h2w.desk = m.h2w.desk := by simp [Mod.timeRelayRx]

@[simp] theorem Mod.synciEdge_desk (m : Mod) : m.synciEdge.h2w.desk = m.h2w.desk := by
  simp -implicitDefEqProofs [Mod.synciEdge]

@[simp] theorem Mod.syncoPulse_desk (m : Mod) : m.syncoPulse.h2w.desk = m.h2w.desk := by simp [Mod.syncoPulse]

@[simp] theorem Mod.keepStn_desk (m : Mod) (x : StnRec) (n : Nat) : (m.keepStn x n).h2w.desk = m.h2w.desk := by simp [Mod.keepStn]

@[simp] theorem Mod.stnRecRx_desk (h : Hdr) (x : StnRec) (m : Mod) : (Mod.stnRecRx h x m).h2w.desk = m.h2w.desk := by
  have checked : (m.frameCheckBy h 0x33 none (originator h (0x10000 + x.mac))).1.h2w.desk = m.h2w.desk := by simp
  unfold Mod.stnRecRx
  generalize m.frameCheckBy h 0x33 none (originator h (0x10000 + x.mac)) = y at checked
  obtain ⟨m', passed⟩ := y
  cases passed
  · exact checked
  · dsimp only at checked ⊢
    split
    · split <;> simp [checked]
    · simp [checked]

@[simp] theorem Mod.stnAssignRx_desk (h : Hdr) (mac stn ring : Nat) (m : Mod) : (m.stnAssignRx h mac stn ring).h2w.desk = m.h2w.desk := by simp [Mod.stnAssignRx]

@[simp] theorem Mod.ringSumTx_desk (m : Mod) : m.ringSumTx.h2w.desk = m.h2w.desk := by simp [Mod.ringSumTx]

@[simp] theorem Mod.confirmRing_desk (m : Mod) (mac ring : Nat) : (m.confirmRing mac ring).h2w.desk = m.h2w.desk := by simp [Mod.confirmRing]

@[simp] theorem Mod.settleNumbers_desk (m : Mod) : m.settleNumbers.h2w.desk = m.h2w.desk := by
  simp -implicitDefEqProofs [Mod.settleNumbers, desk_foldl]

@[simp] theorem Mod.ringSumRx_desk (h : Hdr) (x : RingSum) (m : Mod) : (m.ringSumRx h x).h2w.desk = m.h2w.desk := by simp [Mod.ringSumRx]

@[simp] theorem Mod.depthFlags_desk (m : Mod) (d di dt : Nat) : (m.depthFlags d di dt).h2w.desk = m.h2w.desk := by simp [Mod.depthFlags]

@[simp] theorem Mod.fleetStateTx_desk (m : Mod) : m.fleetStateTx.h2w.desk = m.h2w.desk := by simp [Mod.fleetStateTx]

@[simp] theorem Mod.fleetStateRx_desk (h : Hdr) (x : FleetState) (m : Mod) : (m.fleetStateRx h x).h2w.desk = m.h2w.desk := by simp [Mod.fleetStateRx]

@[simp] theorem Mod.imdGrantRx_desk (h : Hdr) (gsys node : Nat) (m : Mod) : (m.imdGrantRx h gsys node).h2w.desk = m.h2w.desk := by simp [Mod.imdGrantRx]

@[simp] theorem Mod.imdGrantTx_desk (m : Mod) : m.imdGrantTx.h2w.desk = m.h2w.desk := by
  unfold Mod.imdGrantTx
  split
  · refine desk_foldl (fun m g => ?_) _ _
    split <;> simp
  · rfl

@[simp] theorem Mod.imdAlarmRx_desk (h : Hdr) (role : Nat) (m : Mod) : (m.imdAlarmRx h role).h2w.desk = m.h2w.desk := by simp [Mod.imdAlarmRx]

@[simp] theorem Mod.gapRx_desk (h : Hdr) (x : GapMsg) (m : Mod) : (Mod.gapRx h x m).h2w.desk = m.h2w.desk := by
  unfold Mod.gapRx
  rw [Mod.onFrame_desk]
  dsimp only
  rw [desk_ite]
  simp

@[simp] theorem Mod.gapTx_desk (x : GapMsg) (m : Mod) : (m.gapTx x).h2w.desk = m.h2w.desk := by
  simp only [Mod.gapTx]
  split <;> simp

@[simp] theorem Mod.keepReport_desk (m : Mod) (r : ShareRpt) : (m.keepReport r).h2w.desk = m.h2w.desk := by simp [Mod.keepReport]

@[simp] theorem Mod.shareTx_desk (m : Mod) : m.shareTx.h2w.desk = m.h2w.desk := by simp [Mod.shareTx]

@[simp] theorem Mod.shareRptRx_desk (h : Hdr) (x : ShareRpt) (m : Mod) : (m.shareRptRx h x).h2w.desk = m.h2w.desk := by simp [Mod.shareRptRx]

@[simp] theorem Mod.setTrimOf_desk (m : Mod) (seg : Nat) (v : Rat) : (m.setTrimOf seg v).h2w.desk = m.h2w.desk := by simp [Mod.setTrimOf]

@[simp] theorem Mod.trimTake_desk (m : Mod) (x : Trim) : (m.trimTake x).h2w.desk = m.h2w.desk := by simp [Mod.trimTake]

@[simp] theorem Mod.trimRx_desk (h : Hdr) (x : Trim) (m : Mod) : (m.trimRx h x).h2w.desk = m.h2w.desk := by simp [Mod.trimRx]

@[simp] theorem Mod.trimHoldEnd_desk (m : Mod) : m.trimHoldEnd.h2w.desk = m.h2w.desk := by simp [Mod.trimHoldEnd]

@[simp] theorem Mod.sendTrim_desk (m : Mod) (seg : Nat) : (m.sendTrim seg).h2w.desk = m.h2w.desk := by simp [Mod.sendTrim]

@[simp] theorem Mod.conflictTo_desk (m : Mod) (seg : Nat) (bad : Bool) : (m.conflictTo seg bad).h2w.desk = m.h2w.desk := by simp [Mod.conflictTo]

@[simp] theorem Mod.trimGroup_desk (m : Mod) (seg : Nat) : (m.trimGroup seg).h2w.desk = m.h2w.desk := by simp [Mod.trimGroup]

@[simp] theorem Mod.letIn_desk (m : Mod) (n seg mode : Nat) : (m.letIn n seg mode).h2w.desk = m.h2w.desk := by
  unfold Mod.letIn
  dsimp only
  split
  · rfl
  split
  · split <;> simp
  split
  · split <;> simp
  · split <;> simp

@[simp] theorem Mod.admission_desk (m : Mod) : m.admission.h2w.desk = m.h2w.desk := by
  unfold Mod.admission
  extract_lets m'
  have asked : m'.h2w.desk = m.h2w.desk := by
    refine desk_foldl (fun m s => ?_) _ _
    split
    · split <;> simp
    · rfl
  simp [asked]

@[simp] theorem Mod.takeOffer_desk (m : Mod) : m.takeOffer.h2w.desk = m.h2w.desk := by
  unfold Mod.takeOffer
  split
  · rfl
  split
  · rfl
  · split
    · rfl
    · simp

@[simp] theorem Mod.secondary_desk (m : Mod) : m.secondary.h2w.desk = m.h2w.desk := by
  simp -implicitDefEqProofs [Mod.secondary, desk_foldl]

@[simp] theorem Mod.allocate_desk (m : Mod) (x : IntentMsg) : (m.allocate x).h2w.desk = m.h2w.desk := by
  unfold Mod.allocate
  extract_lets now rooms need shares signed m₁ m₂
  have told : m₁.h2w.desk = m.h2w.desk := by
    refine (desk_foldl (fun m es => ?_) _ _).trans ?_ <;> simp
  have noted : m₂.h2w.desk = m.h2w.desk := by simp [m₂, told]
  split
  · rfl
  split
  · split <;> simp [noted]
  · exact noted

@[simp] theorem Mod.intentMsg_desk (m : Mod) (h : Hdr) (x : IntentMsg) : (m.intentMsg h x).h2w.desk = m.h2w.desk := by simp [Mod.intentMsg]

@[simp] theorem Mod.intentAllocate_desk (h : Hdr) (x : IntentMsg) (m : Mod) : (m.intentAllocate h x).h2w.desk = m.h2w.desk := by simp [Mod.intentAllocate]

@[simp] theorem Mod.darkDeclare_desk (n : Nat) (m : Mod) : (Mod.darkDeclare n m).h2w.desk = m.h2w.desk := by
  unfold Mod.darkDeclare
  split
  · split
    · extract_lets m₁ m₂
      have dark : m₂.h2w.desk = m.h2w.desk := by
        unfold m₂
        split <;> simp [m₁]
      split
      · split
        · dsimp only
          split <;> simp [dark]
        · exact dark
      · exact dark
    · rfl
  · rfl

@[simp] theorem Mod.takeRx_desk (h : Hdr) (x : TakeMsg) (m : Mod) : (m.takeRx h x).h2w.desk = m.h2w.desk := by simp [Mod.takeRx]

@[simp] theorem Mod.takeLapse_desk (m : Mod) : m.takeLapse.h2w.desk = m.h2w.desk := by
  unfold Mod.takeLapse
  split
  · split
    · dsimp only
      split <;> simp
    · rfl
  · rfl

@[simp] theorem Mod.roleDrop_desk (m : Mod) (v : Nat) : (m.roleDrop v).h2w.desk = m.h2w.desk := by simp [Mod.roleDrop]

@[simp] theorem Mod.shareReadmit_desk (m : Mod) : m.shareReadmit.h2w.desk = m.h2w.desk := by simp [Mod.shareReadmit]

@[simp] theorem Mod.roleRelease_desk (m : Mod) (seg mode : Nat) : (m.roleRelease seg mode).h2w.desk = m.h2w.desk := by simp [Mod.roleRelease]

end Sys2Proof.Machine
end

section
/-! PROOF. Measurement, safety inputs and the written rows leave the window's desk. -/

set_option Elab.async false

namespace Sys2Proof.Machine

open Sys2Proof

@[simp] theorem Mod.imdRefresh_desk (m : Mod) : m.imdRefresh.h2w.desk = m.h2w.desk := by simp [Mod.imdRefresh]

@[simp] theorem Mod.estopRefresh_desk (m : Mod) : m.estopRefresh.h2w.desk = m.h2w.desk := by simp [Mod.estopRefresh]

@[simp] theorem Mod.ilkRefresh_desk (m : Mod) : m.ilkRefresh.h2w.desk = m.h2w.desk := by simp [Mod.ilkRefresh]

@[simp] theorem Mod.senseRefresh_desk (m : Mod) (j : Nat) : (m.senseRefresh j).h2w.desk = m.h2w.desk := by simp [Mod.senseRefresh]

@[simp] theorem Mod.linkRefresh_desk (m : Mod) (l : Nat) : (m.linkRefresh l).h2w.desk = m.h2w.desk := by simp [Mod.linkRefresh]

@[simp] theorem Mod.capRefresh_desk (m : Mod) : m.capRefresh.h2w.desk = m.h2w.desk := by simp [Mod.capRefresh]

@[simp] theorem Mod.contRefresh_desk (m : Mod) : m.contRefresh.h2w.desk = m.h2w.desk := by simp [Mod.contRefresh]

@[simp] theorem Mod.termRefresh_desk (m : Mod) : m.termRefresh.h2w.desk = m.h2w.desk := by simp [Mod.termRefresh]

@[simp] theorem Mod.refreshAll_desk (m : Mod) : m.refreshAll.h2w.desk = m.h2w.desk := by
  simp -implicitDefEqProofs [Mod.refreshAll, desk_each]

theorem followersA_desk : ∀ x ∈ followersA, ∀ k old m, (x.2 k old m).h2w.desk = m.h2w.desk := by
  simp [followersA]

theorem followersB_desk : ∀ x ∈ followersB, ∀ k old m, (x.2 k old m).h2w.desk = m.h2w.desk := by
  simp [followersB]

theorem followersC_desk : ∀ x ∈ followersC, ∀ k old m, (x.2 k old m).h2w.desk = m.h2w.desk := by
  simp [followersC, H2w.desk_pulled, H2w.desk_addr]

@[simp] theorem Mod.follow_desk (m : Mod) (f : Fam) (i : Nat) (old : Val) : (m.follow f i old).h2w.desk = m.h2w.desk := by
  unfold Mod.follow
  split
  next x hx =>
    have mem := List.mem_of_find?_eq_some hx
    simp only [followers, List.mem_append] at mem
    obtain mem | mem | mem := mem
    · exact followersA_desk x mem i old m
    · exact followersB_desk x mem i old m
    · exact followersC_desk x mem i old m
  · rfl

@[simp] theorem Mod.followPlace_desk (m : Mod) (key : Nat) (old : Val) : (m.followPlace key old).h2w.desk = m.h2w.desk := by
  simp only [Mod.followPlace]
  split <;> simp

@[simp] theorem Mod.afterValues_desk (m : Mod) (keys : List Nat) : (m.afterValues keys).h2w.desk = m.h2w.desk := by
  refine desk_foldl (fun m k => ?_) _ _
  split
  · rfl
  · simp

@[simp] theorem journalBack_desk (x : Sys) : (journalBack x).1.h2w.desk = x.1.h2w.desk := by
  unfold journalBack
  dsimp only
  split <;> simp -implicitDefEqProofs [desk_foldl]

@[simp] theorem h2wAbort_desk (x : Sys) : (h2wAbort x).1.h2w.desk = x.1.h2w.desk := by
  unfold h2wAbort
  split
  · split
    · rfl
    · dsimp only
      simp [H2w.desk_waiting]
  · rfl

@[simp] theorem blockEffect_desk (b : Nat) (x : Sys) : (blockEffect b x).1.h2w.desk = x.1.h2w.desk := by
  unfold blockEffect
  dsimp only
  split <;> simp -implicitDefEqProofs [desk_foldl, desk_each]

@[simp] theorem blockReset_desk (b : Nat) (x : Sys) : (blockReset b x).1.h2w.desk = x.1.h2w.desk := by simp [blockReset]

@[simp] theorem faultEscalate_desk (b : Nat) (x : Sys) : (faultEscalate b x).1.h2w.desk = x.1.h2w.desk := by
  unfold faultEscalate
  dsimp only
  split
  · split <;> simp
  · simp

@[simp] theorem Mod.clockFail_desk (bit_ : Nat) (m : Mod) : (m.clockFail bit_).h2w.desk = m.h2w.desk := by simp [Mod.clockFail]

@[simp] theorem Mod.pllUnlock_desk (m : Mod) : m.pllUnlock.h2w.desk = m.h2w.desk := by simp [Mod.pllUnlock]

@[simp] theorem Mod.pllTimeout_desk (m : Mod) : m.pllTimeout.h2w.desk = m.h2w.desk := by simp [Mod.pllTimeout]

@[simp] theorem Mod.bootAo_desk (m old : Mod) (c rtcAdv : Nat) (x : BootIn) : (m.bootAo old c rtcAdv x).h2w.desk = m.h2w.desk := by simp [Mod.bootAo]

@[simp] theorem Mod.bootHeat_desk (m old : Mod) (kept : BootIn) (dt : Rat) : (m.bootHeat old kept dt).h2w.desk = m.h2w.desk := by
  simp -implicitDefEqProofs [Mod.bootHeat, desk_each]

@[simp] theorem Mod.bootCap_desk (m old : Mod) (c : Nat) : (m.bootCap old c).h2w.desk = m.h2w.desk := by simp [Mod.bootCap]

@[simp] theorem Mod.bootFw_desk (m : Mod) (bankOk : Bool) : (m.bootFw bankOk).h2w.desk = m.h2w.desk := by simp [Mod.bootFw]

@[simp] theorem Mod.bootSession_desk (m old : Mod) (totals : Bool) : (m.bootSession old totals).h2w.desk = m.h2w.desk := by simp [Mod.bootSession]

@[simp] theorem Mod.bootErase_desk (m : Mod) : m.bootErase.h2w.desk = m.h2w.desk := by simp [Mod.bootErase]

@[simp] theorem Mod.bootTamper_desk (m : Mod) : m.bootTamper.h2w.desk = m.h2w.desk := by simp [Mod.bootTamper]

@[simp] theorem holdup_desk (x : Sys) : (holdup x).1.h2w.desk = x.1.h2w.desk := by simp [holdup]

@[simp] theorem Mod.sourceReturn_desk (port : Bool) (m : Mod) : (m.sourceReturn port).h2w.desk = m.h2w.desk := by simp [Mod.sourceReturn]

@[simp] theorem Mod.recharge_desk (e : Rat) (m : Mod) : (m.recharge e).h2w.desk = m.h2w.desk := by
  simp -implicitDefEqProofs [Mod.recharge]

@[simp] theorem Mod.raisePower_desk (m : Mod) : m.raisePower.h2w.desk = m.h2w.desk := by simp [Mod.raisePower]

@[simp] theorem Mod.envTake_desk (v : Nat) (m : Mod) : (m.envTake v).h2w.desk = m.h2w.desk := by simp [Mod.envTake]

@[simp] theorem Mod.envInternal_desk (v : Nat) (m : Mod) : (m.envInternal v).h2w.desk = m.h2w.desk := by simp [Mod.envInternal]

@[simp] theorem Mod.couplingTake_desk (v : Nat) (m : Mod) : (m.couplingTake v).h2w.desk = m.h2w.desk := by simp [Mod.couplingTake]

@[simp] theorem Mod.powerTake_desk (v : Nat) (m : Mod) : (m.powerTake v).h2w.desk = m.h2w.desk := by simp [Mod.powerTake]

@[simp] theorem secretAct_desk (kind key : Nat) (v old : Val) (a : Asker) (x : Sys) : (secretAct kind key v old a x).1.1.h2w.desk = x.1.h2w.desk := by simp [secretAct]

@[simp] theorem credLogin_desk (r : Req) (v : Val) (x : Sys) : (credLogin r v x).1.1.h2w.desk = x.1.h2w.desk := by
  unfold credLogin
  dsimp only
  split
  · simp
  · split <;> simp

@[simp] theorem credSet_desk (a : Asker) (v : Val) (x : Sys) : (credSet a v x).1.1.h2w.desk = x.1.h2w.desk := by simp [credSet]

@[simp] theorem signKeygen_desk (a : Asker) (x : Sys) : (signKeygen a x).1.1.h2w.desk = x.1.h2w.desk := by simp [signKeygen]

@[simp] theorem Mod.imageFirst_desk (m : Mod) : m.imageFirst.h2w.desk = m.h2w.desk := by simp [Mod.imageFirst]

@[simp] theorem imageLast_desk (r : Req) (v : Val) (x : Sys) : (imageLast r v x).1.1.h2w.desk = x.1.h2w.desk := by simp [imageLast]

@[simp] theorem Mod.cmpHold_desk (m : Mod) (c : Nat) : (m.cmpHold c).h2w.desk = m.h2w.desk := by simp [Mod.cmpHold]

@[simp] theorem cmpAct_desk (f : Fam) (c : Nat) (v : Val) (x : Sys) : (cmpAct f c v x).1.1.h2w.desk = x.1.h2w.desk := by simp [cmpAct]

end Sys2Proof.Machine
end

section
/-! PROOF. The rows of the rules leave the window's desk. -/
set_option Elab.async false
namespace Sys2Proof.Machine
open Sys2Proof

theorem Rule.base_keepsDesk (f : Fam) (i : Nat) : (Rule.base f i).KeepsDesk where
  act := fun a _ v x => by
    have acted := plainAct_desk f i a v x
    simp only [Rule.base]
    generalize plainAct f i a v x = y at acted ⊢
    exact (Mod.follow_desk _ _ _ _).trans acted
  clear := fun _ h => nomatch h
  first := fun _ => rfl

/-- A row leaves the desk where the table's rule does. -/
def Tweak.KeepsDesk (t : Tweak) : Prop := ∀ i r, Rule.KeepsDesk r → Rule.KeepsDesk (t.2 i r)

/-- A row with an act of its own. -/
theorem Tweak.KeepsDesk.of_act {t : Tweak} (ha : ∀ i r a q v x, ((t.2 i r).act a q v x).1.1.h2w.desk = x.1.h2w.desk)
    (hc : ∀ i r, (t.2 i r).clear = r.clear := by exact fun _ _ => rfl)
    (hf : ∀ i r, (t.2 i r).first = r.first := by exact fun _ _ => rfl) : Tweak.KeepsDesk t :=
  fun i r h => ⟨ha i r, hc i r ▸ h.clear, hf i r ▸ h.first⟩

/-- A row with the table's act. -/
theorem Tweak.KeepsDesk.of_kept {t : Tweak} (ha : ∀ i r, (t.2 i r).act = r.act := by exact fun _ _ => rfl)
    (hc : ∀ i r, (t.2 i r).clear = r.clear := by exact fun _ _ => rfl)
    (hf : ∀ i r, (t.2 i r).first = r.first := by exact fun _ _ => rfl) : Tweak.KeepsDesk t :=
  fun i r h => ⟨ha i r ▸ h.act, hc i r ▸ h.clear, hf i r ▸ h.first⟩

/-- A row whose reads clear. -/
theorem Tweak.KeepsDesk.of_clear {t : Tweak} {g : Nat → Mod → Mod} (hg : ∀ i m, (g i m).h2w.desk = m.h2w.desk)
    (hc : ∀ i r, (t.2 i r).clear = some (g i) := by exact fun _ _ => rfl)
    (ha : ∀ i r, (t.2 i r).act = r.act := by exact fun _ _ => rfl)
    (hf : ∀ i r, (t.2 i r).first = r.first := by exact fun _ _ => rfl) : Tweak.KeepsDesk t := fun i r h =>
  { act := ha i r ▸ h.act
    clear := fun c e => by
      obtain rfl := Option.some.inj ((hc i r).symm.trans e)
      exact hg i
    first := hf i r ▸ h.first }

theorem modeRows_desk : ∀ t ∈ modeRows, Tweak.KeepsDesk t := by
  simp only [modeRows, List.forall_mem_cons, List.not_mem_nil, false_imp_iff, implies_true, and_true]
  exact ⟨.of_act fun _ _ _ _ _ x => Mod.envTake_desk _ x.1, .of_act fun _ _ _ _ _ x => Mod.couplingTake_desk _ x.1,
    .of_act fun _ _ _ _ _ x => Mod.powerTake_desk _ x.1, .of_kept, .of_kept, .of_kept⟩

theorem profileRows_desk : ∀ t ∈ profileRows, Tweak.KeepsDesk t := by
  simp only [profileRows, List.forall_mem_cons, List.not_mem_nil, false_imp_iff, implies_true, and_true]
  exact ⟨.of_act fun _ _ _ _ _ _ => rfl, .of_kept⟩

theorem ringRows_desk : ∀ t ∈ ringRows, Tweak.KeepsDesk t := by
  simp only [ringRows, List.forall_mem_cons, List.not_mem_nil, false_imp_iff, implies_true, and_true]
  have mode := Rule.base_keepsDesk E.SHARE_MODE
  have segment := Rule.base_keepsDesk E.SEG_ID
  exact ⟨.of_kept, .of_act fun _ _ _ _ _ x => Mod.roleDrop_desk x.1 _, .of_act fun _ _ _ _ _ x => Mod.shareReadmit_desk x.1,
    .of_act fun i _ a q v x => ((mode i).act a q v _).trans (Mod.roleRelease_desk x.1 _ _),
    .of_act fun i _ a q v x => ((segment i).act a q v _).trans (Mod.roleRelease_desk x.1 _ _),
    .of_act fun _ _ _ _ _ x => Mod.handoverOffer_desk x.1 _, .of_act fun _ _ _ _ _ _ => rfl⟩

theorem portRows_desk : ∀ t ∈ portRows, Tweak.KeepsDesk t := by
  simp only [portRows, List.forall_mem_cons, List.not_mem_nil, false_imp_iff, implies_true, and_true]
  exact ⟨.of_act fun _ _ _ _ _ _ => by simp [Rule.command0], .of_act fun _ _ _ _ _ x => Mod.stickyClear_desk x.1 _ _,
    .of_act fun _ _ _ _ _ x => Mod.latchClear_desk x.1 _,
    .of_act fun _ _ _ _ _ _ => by simp -implicitDefEqProofs [Rule.command0, desk_each]⟩

theorem measureRows_desk : ∀ t ∈ measureRows, Tweak.KeepsDesk t := by
  simp only [measureRows, List.forall_mem_cons, List.not_mem_nil, false_imp_iff, implies_true, and_true]
  exact ⟨.of_act fun _ _ _ _ _ x => Mod.capCommand_desk x.1 _, .of_act fun _ _ _ _ _ x => Mod.cableAsk_desk x.1 _,
    .of_act fun _ _ _ _ _ x => Mod.calAdjust_desk x.1 _, .of_act fun _ _ _ _ _ _ => by simp [Rule.command],
    .of_clear fun k m => Mod.peakSnap_desk m k, .of_clear fun p m => Mod.phtSnap_desk m p,
    .of_clear fun _ m => Mod.stepSnap_desk m, .of_kept, .of_kept⟩

theorem systemRows_desk : ∀ t ∈ systemRows, Tweak.KeepsDesk t := by
  simp only [systemRows, List.forall_mem_cons, List.not_mem_nil, false_imp_iff, implies_true, and_true]
  exact ⟨.of_act fun _ _ _ _ _ _ => by simp, .of_act fun _ _ _ _ _ x => Mod.resetBegin_desk x.1 _,
    .of_act fun _ _ _ _ _ _ => by simp [Rule.command0], .of_act fun _ _ _ _ _ x => Mod.kprKey_desk x.1 _ _,
    .of_act fun _ _ _ _ _ x => Mod.kprCheckin_desk x.1 _, .of_act fun _ _ _ _ _ _ => rfl, .of_act fun _ _ _ _ _ _ => rfl,
    .of_act fun _ _ _ _ _ _ => rfl⟩

theorem secretRows_desk : ∀ t ∈ secretRows, Tweak.KeepsDesk t := by
  simp only [secretRows, List.forall_mem_cons, List.not_mem_nil, false_imp_iff, implies_true, and_true]
  exact ⟨.of_act fun _ _ _ _ _ _ => credLogin_desk _ _ _, .of_act fun _ _ _ _ _ _ => setSession_desk _ _ _,
    .of_act fun _ _ _ _ _ _ => credSet_desk _ _ _, .of_act fun _ _ _ _ _ x => Mod.eraseSecrets_desk x.1 _,
    .of_act fun _ _ _ _ _ _ => secretAct_desk _ _ _ _ _ _, .of_act fun _ _ _ _ _ _ => secretAct_desk _ _ _ _ _ _,
    .of_act fun _ _ _ _ _ _ => signKeygen_desk _ _,
    fun _ _ h => ⟨fun _ _ _ _ => imageLast_desk _ _ _, h.clear, Mod.imageFirst_desk⟩, .of_act fun _ _ _ _ _ _ => rfl⟩

theorem readRows_desk : ∀ t ∈ readRowsA ++ (readRowsB ++ readRowsC), Tweak.KeepsDesk t := by
  have kept : ∀ t ∈ readRowsA ++ (readRowsB ++ readRowsC),
      ∀ i r, (t.2 i r).act = r.act ∧ (t.2 i r).clear = r.clear ∧ (t.2 i r).first = r.first := by
    simp [readRowsA, readRowsB, readRowsC, Rule.reads, Rule.readsB]
  exact fun t ht => .of_kept (fun i r => (kept t ht i r).1) (fun i r => (kept t ht i r).2.1) fun i r => (kept t ht i r).2.2

theorem heldRows_desk : ∀ t ∈ heldRows, Tweak.KeepsDesk t := by
  simp only [heldRows, List.mem_append, List.mem_map]
  rintro t (⟨f, -, rfl⟩ | ⟨f, -, rfl⟩ | ⟨f, -, rfl⟩ | ⟨f, -, rfl⟩) <;> exact .of_kept

theorem tweaks_desk : ∀ t ∈ tweaks, Tweak.KeepsDesk t := by
  have keeper : ∀ f, Tweak.KeepsDesk (keeperRow f) := fun _ => .of_act fun _ _ _ _ _ _ => rfl
  have cmp : ∀ f, Tweak.KeepsDesk (cmpRow f) := fun f => .of_act fun c _ _ _ v x => cmpAct_desk f c v x
  have reads := readRows_desk
  simp only [List.forall_mem_append] at reads
  obtain ⟨readsA, readsB, readsC⟩ := reads
  simp only [tweaks, List.forall_mem_append, List.forall_mem_cons, List.not_mem_nil, false_imp_iff, implies_true, and_true]
  exact ⟨modeRows_desk, profileRows_desk, ringRows_desk, portRows_desk, measureRows_desk, systemRows_desk,
    ⟨keeper _, keeper _, keeper _, cmp _, cmp _, cmp _⟩, secretRows_desk, readsA, readsB, readsC, heldRows_desk⟩

theorem ruleOf_desk (f : Fam) (i : Nat) : (ruleOf f i).KeepsDesk := by
  have base := Rule.base_keepsDesk f i
  unfold ruleOf
  split
  · rename_i t ht
    obtain ⟨act, clear, first⟩ := tweaks_desk t (List.mem_of_find?_eq_some ht) i _ base
    exact ⟨act, clear, first⟩
  · exact ⟨base.act, base.clear, base.first⟩

@[simp] theorem serve_ruleOf_desk (r : Req) (x : Sys) : (serve ruleOf r x).1.h2w.desk = x.1.h2w.desk := serve_desk ruleOf_desk r x

end Sys2Proof.Machine
end

section
/-! PROOF. The buses and ports other than HOST2W leave the window's desk. -/

set_option Elab.async false

namespace Sys2Proof.Machine

open Sys2Proof

@[simp] theorem Mod.h2wFlag_desk (m : Mod) (k : Nat) : (m.h2wFlag k).h2w.desk = m.h2w.desk := by simp [Mod.h2wFlag]

@[simp] theorem Mod.h2wNack_desk (m : Mod) : m.h2wNack.h2w.desk = m.h2w.desk := by simp [Mod.h2wNack]

@[simp] theorem Mod.alertClear_desk (m : Mod) (bits : Nat) : (m.alertClear bits).h2w.desk = m.h2w.desk := by simp [Mod.alertClear]

@[simp] theorem Mod.h2wStop_desk (m : Mod) : m.h2wStop.h2w.desk = m.h2w.desk := by
  unfold Mod.h2wStop
  split <;> rfl

@[simp] theorem Mod.modB2w_desk (m : Mod) (u : Nat) (f : B2w → B2w) : (m.modB2w u f).h2w.desk = m.h2w.desk := by simp [Mod.modB2w]

@[simp] theorem Mod.b2wFlag_desk (m : Mod) (u k : Nat) : (m.b2wFlag u k).h2w.desk = m.h2w.desk := by simp [Mod.b2wFlag]

@[simp] theorem Mod.pollFailed_desk (m : Mod) (u : Nat) : (m.pollFailed u).h2w.desk = m.h2w.desk := by simp [Mod.pollFailed]

@[simp] theorem Mod.b2wFail_desk (m : Mod) (u : Nat) : (m.b2wFail u).h2w.desk = m.h2w.desk := by
  simp -implicitDefEqProofs [Mod.b2wFail]

@[simp] theorem Mod.tmoFault_desk (m : Mod) : m.tmoFault.h2w.desk = m.h2w.desk := by simp [Mod.tmoFault]

@[simp] theorem Mod.blockRead_desk (m : Mod) (u : Nat) : (m.blockRead u).h2w.desk = m.h2w.desk := by simp [Mod.blockRead]

@[simp] theorem Mod.writeWord_desk (m : Mod) (u : Nat) : (m.writeWord u).h2w.desk = m.h2w.desk := by simp [Mod.writeWord]

@[simp] theorem Mod.pollAfter_desk (m : Mod) (u span : Nat) : (m.pollAfter u span).h2w.desk = m.h2w.desk := by simp [Mod.pollAfter]

@[simp] theorem Mod.blockField_desk (m : Mod) (x : Nat × Fam × Rat × Option Nat) : (m.blockField x).h2w.desk = m.h2w.desk := by simp [Mod.blockField]

@[simp] theorem Mod.blockDone_desk (u : Nat) (x : BmsBlock) (m : Mod) : (m.blockDone u x).h2w.desk = m.h2w.desk := by
  simp -implicitDefEqProofs [Mod.blockDone, desk_foldl]

@[simp] theorem Mod.b2wRetry_desk (u : Nat) (m : Mod) : (m.b2wRetry u).h2w.desk = m.h2w.desk := by
  simp -implicitDefEqProofs [Mod.b2wRetry]

@[simp] theorem Mod.arbLost_desk (u : Nat) (atStop : Bool) (m : Mod) : (m.arbLost u atStop).h2w.desk = m.h2w.desk := by simp [Mod.arbLost]

@[simp] theorem canRequest_desk (f : CanFrame) (x : Sys) : (canRequest f x).1.h2w.desk = x.1.h2w.desk := by
  simp only [canRequest]
  split <;> simp

@[simp] theorem Mod.canStatus_desk (m : Mod) : m.canStatus.h2w.desk = m.h2w.desk := by
  simp -implicitDefEqProofs [Mod.canStatus, desk_each]

@[simp] theorem mapWrite_desk (f : Fam) (i bus : Nat) (v : Val) (x : Sys) : (mapWrite f i bus v x).1.1.h2w.desk = x.1.h2w.desk := by
  have acted := (ruleOf_desk f i).act (askerOf (mapReq f i bus) 0) (mapReq f i bus) (f.mask v) x
  unfold mapWrite
  dsimp only
  split
  · rfl
  · split
    · rfl
    · exact acted

@[simp] theorem mapApply_desk (i bus : Nat) (q : Rat) (x : Sys) : (mapApply i bus q x).1.1.h2w.desk = x.1.h2w.desk := by
  unfold mapApply
  split
  · rfl
  · split
    · rfl
    · split_ifs <;> simp

@[simp] theorem mapFrame_desk (f : CanFrame) (x : Sys) (i : Nat) : (mapFrame f x i).1.h2w.desk = x.1.h2w.desk := by
  unfold mapFrame
  extract_lets m len field st c m₁ m₂ m₃
  have heard : m₃.h2w.desk = x.1.h2w.desk := by
    unfold m₃
    split <;> rfl
  clear_value m₃
  split
  · rfl
  split
  · split
    · rfl
    · simp [m]
  split
  · exact heard
  · simp [heard]

@[simp] theorem mappedFrame_desk (f : CanFrame) (x : Sys) : (mappedFrame f x).1.h2w.desk = x.1.h2w.desk := by
  unfold mappedFrame
  split
  · exact foldl_keeps (fun y : Sys => y.1.h2w.desk) _ (fun y i => mapFrame_desk f y i) _ x
  · rfl

@[simp] theorem Mod.mapStale_desk (i : Nat) (m : Mod) : (m.mapStale i).h2w.desk = m.h2w.desk := by simp [Mod.mapStale]

@[simp] theorem Mod.canFaults_desk (m : Mod) : m.canFaults.h2w.desk = m.h2w.desk := by simp [Mod.canFaults]

@[simp] theorem Mod.canBusOff_desk (u : Nat) (m : Mod) : (m.canBusOff u).h2w.desk = m.h2w.desk := by simp [Mod.canBusOff]

@[simp] theorem Mod.canRecover_desk (u : Nat) (m : Mod) : (m.canRecover u).h2w.desk = m.h2w.desk := by
  simp -implicitDefEqProofs [Mod.canRecover, desk_foldl]

@[simp] theorem Mod.canPassive_desk (u : Nat) (passive : Bool) (m : Mod) : (m.canPassive u passive).h2w.desk = m.h2w.desk := by simp [Mod.canPassive]

@[simp] theorem ownWrite_desk (f : Fam) (r : Req) (x : Sys) : (ownWrite f r x).1.h2w.desk = x.1.h2w.desk := by simp [ownWrite]

@[simp] theorem ownCode_desk (f : Fam) (c : Nat) (r : Req) (x : Sys) : (ownCode f c r x).1.h2w.desk = x.1.h2w.desk := by simp [ownCode]

@[simp] theorem ownRead_desk (f : Fam) (r : Req) (x : Sys) : (ownRead f r x).1.h2w.desk = x.1.h2w.desk := by simp [ownRead]

@[simp] theorem profCommand_desk (code : Nat) (c : CmdStage) (x : Sys) : (profCommand code c x).1.h2w.desk = x.1.h2w.desk := by
  simp only [profCommand]
  split <;> simp

@[simp] theorem ownOp_desk (op : Nat) (r : Req) (x : Sys) : (ownOp op r x).1.h2w.desk = x.1.h2w.desk := by simp [ownOp]

@[simp] theorem usbTransfer_desk (length : Nat) (r : Req) (x : Sys) : (usbTransfer length r x).1.h2w.desk = x.1.h2w.desk := by simp [usbTransfer]

@[simp] theorem commitApply_desk (x : Sys) : (commitApply x).1.h2w.desk = x.1.h2w.desk := by
  unfold commitApply
  split
  · rfl
  · extract_lets v y all olds m
    have placed : all.h2w.desk = x.1.h2w.desk := by
      refine desk_foldl (fun m e => ?_) _ _
      simp
    split
    · simp [y]
    · simp [m, placed]

@[simp] theorem journalEnd_desk (ok : Bool) (x : Sys) : (journalEnd ok x).1.h2w.desk = x.1.h2w.desk := by
  simp only [journalEnd]
  split <;> simp

@[simp] theorem stageTimeout_desk (x : Sys) : (stageTimeout x).1.h2w.desk = x.1.h2w.desk := by simp [stageTimeout]

@[simp] theorem assemblyTimeout_desk (req : Nat) (x : Sys) : (assemblyTimeout req x).1.h2w.desk = x.1.h2w.desk := by simp [assemblyTimeout]

@[simp] theorem snapshotExpiry_desk (req : Nat) (x : Sys) : (snapshotExpiry req x).1.h2w.desk = x.1.h2w.desk := by simp [snapshotExpiry]

@[simp] theorem queueTimeout_desk (r : Req) (x : Sys) : (queueTimeout r x).1.h2w.desk = x.1.h2w.desk := by simp [queueTimeout]

@[simp] theorem recordHold_desk (x : Sys) : (recordHold x).1.h2w.desk = x.1.h2w.desk := by simp [recordHold]

@[simp] theorem Mod.cmpHit_desk (m : Mod) (c : Nat) : (m.cmpHit c).h2w.desk = m.h2w.desk := by simp [Mod.cmpHit]

@[simp] theorem Mod.cmpMatch_desk (c : Nat) (m : Mod) : (m.cmpMatch c).h2w.desk = m.h2w.desk := by simp [Mod.cmpMatch]

@[simp] theorem Mod.forwardOn_desk (m : Mod) (l k : Nat) (h : Hdr) : (m.forwardOn l k h).h2w.desk = m.h2w.desk := by simp [Mod.forwardOn]

@[simp] theorem Mod.forwardRing_desk (m : Mod) (l : Nat) (h : Hdr) : (m.forwardRing l h).h2w.desk = m.h2w.desk := by
  simp only [Mod.forwardRing]
  split <;> simp

@[simp] theorem Mod.relay_desk (m : Mod) (l : Nat) (h : Hdr) : (m.relay l h).h2w.desk = m.h2w.desk := by
  simp only [Mod.relay]
  split <;> simp

@[simp] theorem Mod.passOn_desk (m : Mod) (l : Nat) (h : Hdr) : (m.passOn l h).h2w.desk = m.h2w.desk := by simp [Mod.passOn]

@[simp] theorem Mod.forwardFail_desk (m : Mod) (l : Nat) (h : Hdr) : (m.forwardFail l h).h2w.desk = m.h2w.desk := by simp [Mod.forwardFail]

@[simp] theorem frameRequest_desk (l : Nat) (h : Hdr) (typ : Nat) (r : Req) (x : Sys) : (frameRequest l h typ r x).1.h2w.desk = x.1.h2w.desk := by simp [frameRequest]

@[simp] theorem frameConsume_desk (l : Nat) (h : Hdr) (b : FwdBody) (x : Sys) : (frameConsume l h b x).1.h2w.desk = x.1.h2w.desk := by
  simp only [frameConsume]
  split <;> simp

@[simp] theorem Mod.noteSum_desk (m : Mod) (l : Nat) (h : Hdr) (b : FwdBody) : (m.noteSum l h b).h2w.desk = m.h2w.desk := by
  simp only [Mod.noteSum]
  split <;> simp

@[simp] theorem frameForward_desk (l : Nat) (h : Hdr) (b : FwdBody) (x : Sys) : (frameForward l h b x).1.h2w.desk = x.1.h2w.desk := by simp [frameForward]

@[simp] theorem Mod.transientTick_desk (m : Mod) : m.transientTick.h2w.desk = m.h2w.desk := by
  simp -implicitDefEqProofs [Mod.transientTick, desk_each]

@[simp] theorem Mod.latch_desk (m : Mod) (x : TickIn) : (m.latch x).h2w.desk = m.h2w.desk := by
  simp -implicitDefEqProofs [Mod.latch, desk_each]

@[simp] theorem Mod.heatSinks_desk (m : Mod) : m.heatSinks.h2w.desk = m.h2w.desk := by
  simp -implicitDefEqProofs [Mod.heatSinks, desk_each]

@[simp] theorem Mod.i2tTick_desk (m : Mod) : m.i2tTick.h2w.desk = m.h2w.desk := by
  simp -implicitDefEqProofs [Mod.i2tTick, desk_each]

@[simp] theorem Mod.brkTick_desk (m : Mod) : m.brkTick.h2w.desk = m.h2w.desk := by simp [Mod.brkTick]

@[simp] theorem Mod.senseTick_desk (m : Mod) : m.senseTick.h2w.desk = m.h2w.desk := by
  simp -implicitDefEqProofs [Mod.senseTick, desk_each]

@[simp] theorem Mod.overloadTick_desk (m : Mod) (g : Nat) : (m.overloadTick g).h2w.desk = m.h2w.desk := by simp [Mod.overloadTick]

@[simp] theorem Mod.powerTick_desk (m : Mod) (g : Nat) : (m.powerTick g).h2w.desk = m.h2w.desk := by simp [Mod.powerTick]

@[simp] theorem Mod.tickMeasure_desk (x : TickIn) (m : Mod) : (m.tickMeasure x).h2w.desk = m.h2w.desk := by
  simp -implicitDefEqProofs [Mod.tickMeasure, desk_each]

@[simp] theorem Mod.bootRequest_desk (m : Mod) : m.bootRequest.h2w.desk = m.h2w.desk := by simp [Mod.bootRequest]

@[simp] theorem Mod.powerStandby_desk (m : Mod) : m.powerStandby.h2w.desk = m.h2w.desk := by simp [Mod.powerStandby]

@[simp] theorem Mod.latchLoops_desk (m : Mod) : m.latchLoops.h2w.desk = m.h2w.desk := by
  simp -implicitDefEqProofs [Mod.latchLoops, desk_each]

@[simp] theorem Mod.shareTick_desk (m : Mod) : m.shareTick.h2w.desk = m.h2w.desk := by
  unfold Mod.shareTick
  extract_lets m₁ m₂ m₃ m₄ t d
  have h₁ : m₁.h2w.desk = m.h2w.desk := rfl
  have h₂ : m₂.h2w.desk = m₁.h2w.desk := by
    unfold m₂
    split <;> simp
  have h₃ : m₃.h2w.desk = m₂.h2w.desk := by
    unfold m₃
    split <;> simp
  have h₄ : m₄.h2w.desk = m₃.h2w.desk := by
    unfold m₄
    split <;> simp
  simp [h₄, h₃, h₂, h₁]

@[simp] theorem Mod.lanternWatch_desk (m : Mod) : m.lanternWatch.h2w.desk = m.h2w.desk := by simp [Mod.lanternWatch]

@[simp] theorem Mod.sendHeld_desk (m : Mod) (o : Out) : (m.sendHeld o).h2w.desk = m.h2w.desk := by
  unfold Mod.sendHeld
  dsimp only
  split
  · split
    · rfl
    · split <;> simp
  · rfl

@[simp] theorem Mod.heldFrames_desk (m : Mod) : m.heldFrames.h2w.desk = m.h2w.desk := by
  simp -implicitDefEqProofs [Mod.heldFrames, desk_foldl]

@[simp] theorem Mod.bridgeOverride_desk (m : Mod) : m.bridgeOverride.h2w.desk = m.h2w.desk := by
  simp only [Mod.bridgeOverride]
  split <;> simp

@[simp] theorem Mod.bridgeWatch_desk (m : Mod) : m.bridgeWatch.h2w.desk = m.h2w.desk := by
  unfold Mod.bridgeWatch
  dsimp only
  split
  · simp
  split
  · split <;> simp
  · rfl

@[simp] theorem Mod.bridgeCount_desk (m : Mod) : m.bridgeCount.h2w.desk = m.h2w.desk := by simp [Mod.bridgeCount]

@[simp] theorem Mod.joinPorts_desk (m : Mod) : m.joinPorts.h2w.desk = m.h2w.desk := by
  simp -implicitDefEqProofs [Mod.joinPorts, desk_each]

@[simp] theorem Mod.shareInputs_desk (m : Mod) : m.shareInputs.h2w.desk = m.h2w.desk := by
  simp -implicitDefEqProofs [Mod.shareInputs, desk_each]

@[simp] theorem Mod.tickResolve_desk (m : Mod) : m.tickResolve.h2w.desk = m.h2w.desk := by simp [Mod.tickResolve]

@[simp] theorem Mod.tickTasks_desk (m : Mod) : m.tickTasks.h2w.desk = m.h2w.desk := by simp [Mod.tickTasks]

@[simp] theorem usbUnpowered_desk (x : Sys) : (usbUnpowered x).1.h2w.desk = x.1.h2w.desk := by simp [usbUnpowered]

end Sys2Proof.Machine
end

section
/-! PROOF. The form of the window's request buffer, by every command (R455). -/

set_option Elab.async false

namespace Sys2Proof.Machine

open Sys2Proof

/-! ## Starts and mode ticks -/

theorem Mod.bootTaken_desk (old : Mod) (c adv : Nat) (x : BootIn) : (old.bootTaken c adv x).h2w.desk = H2w.desk {} := by
  have store : ∀ m p, (Mod.bootStore m p).h2w.desk = m.h2w.desk := fun m p => by
    simp -implicitDefEqProofs [Mod.bootStore, desk_foldl]
  simp [Mod.bootTaken, Mod.bootCause, Mod.bootCarried, Mod.bootCounters, store]
  rfl

@[simp] theorem Mod.bootEntered_desk (m old : Mod) (x : BootIn) (tries : Bool) : (m.bootEntered old x tries).h2w.desk = m.h2w.desk := by
  simp [Mod.bootEntered, Mod.bootEpoch, Mod.bootLatch, Mod.bootFaults]

@[simp] theorem Mod.bootEnds_desk (m old : Mod) (c : Nat) (x : BootIn) : (m.bootEnds old c x).h2w.desk = m.h2w.desk := by
  have records : ∀ (m : Mod) e t, (m.bootRecords old c e t).h2w.desk = m.h2w.desk := fun m e t => by
    simp [Mod.bootRecords, Mod.bootKeeper]
  have ports : ∀ (m : Mod) live, (m.bootPorts live).h2w.desk = m.h2w.desk := fun m live => by
    simp -implicitDefEqProofs [Mod.bootPorts, desk_each]
  have shows : ∀ m : Mod, (m.bootShown old c).h2w.desk = m.h2w.desk := fun m => by
    simp -implicitDefEqProofs [Mod.bootShown, desk_each]
  have safe : ∀ m : Mod, (m.bootSafe old).h2w.desk = m.h2w.desk := fun m => by
    simp [Mod.bootSafe]
  rw [Mod.bootEnds, safe, shows, ports, records]

theorem Mod.boot0_desk (old : Mod) (c adv : Nat) (x : BootIn) (tries : Bool) : (old.boot0 c adv x tries).h2w.desk = H2w.desk {} := by
  rw [Mod.boot0_eq, Mod.bootEnds_desk, Mod.bootEntered_desk, Mod.bootTaken_desk]

theorem bootRun_desk (adv : Nat) (x : BootIn) (tries : Bool) (s : Sys) : (bootRun adv x tries s).1.h2w.desk = H2w.desk {} := by
  unfold bootRun
  dsimp only
  split <;> simp [Mod.boot0_desk]

theorem H2w.desk_live (h : H2w) (l : List Nat) : H2w.desk { h with live := l } = h.desk := rfl

@[simp] theorem modeTick_desk (x : TickIn) (y : Sys) : (modeTick x y).1.h2w.desk = y.1.h2w.desk := by
  have shown : ∀ m : Mod, ({ m.flagsRefresh with h2w := { m.h2w with live := m.pageOne } } : Mod).h2w.desk = m.h2w.desk := fun m => rfl
  simp only [modeTick, shown]
  simp

/-! ## The form of the buffer -/

/-- R455: the form in which the request buffer is kept. -/
def H2w.Formed (h : H2w) : Prop := Memory.wf h.buf = true

theorem H2w.buf_of_desk {h h' : H2w} (e : h'.desk = h.desk) : h'.buf = h.buf := (congrArg H2w.buf e :)

theorem H2w.Formed.of_buf {h h' : H2w} (f : h.Formed) (e : h'.buf = h.buf) : h'.Formed := (congrArg Memory.wf e).trans f

theorem H2w.Formed.of_desk {h h' : H2w} (f : h.Formed) (e : h'.desk = h.desk) : h'.Formed := f.of_buf (H2w.buf_of_desk e)

/-! ### The window's own transactions -/

theorem Mod.h2wRelease_buf (m : Mod) : m.h2wRelease.h2w.buf = m.h2w.buf := by
  unfold Mod.h2wRelease
  split <;> rfl

theorem Mod.h2wResponse_buf (m : Mod) : m.h2wResponse.h2w.buf = m.h2w.buf := by
  have served := H2w.buf_of_desk (Mod.dequeue_desk m 21)
  unfold Mod.h2wResponse
  split
  · split
    · generalize m.dequeue 21 = y at served ⊢
      exact (H2w.buf_of_desk (Mod.alertSet_desk _ 0)).trans served
    · rfl
  · rfl

theorem Mod.alertResponse_buf (won : Bool) (m : Mod) : (Mod.alertResponse won m).h2w.buf = m.h2w.buf := by
  unfold Mod.alertResponse
  split
  · cases won <;> rfl
  · rfl

theorem Mod.h2wReadBytes_buf (m : Mod) (n : Nat) : (m.h2wReadBytes n).1.h2w.buf = m.h2w.buf := by
  induction n generalizing m with
  | zero => rfl
  | succ n ih => exact (ih m.h2wReadByte.1).trans rfl

theorem Mod.h2wRead_buf (count : Nat) (m : Mod) : (Mod.h2wRead count m).h2w.buf = m.h2w.buf := by
  unfold Mod.h2wRead
  split
  · rfl
  · refine (H2w.buf_of_desk (Mod.h2wStop_desk _)).trans ?_
    exact Mod.h2wReadBytes_buf _ count

theorem Mod.lineTimeout_buf (k port : Nat) (m : Mod) : (Mod.lineTimeout k port m).h2w.buf = m.h2w.buf := by
  unfold Mod.lineTimeout
  split
  · exact (H2w.buf_of_desk (Mod.tmoFault_desk _)).trans rfl
  split
  · exact H2w.buf_of_desk (by simp)
  · rfl

theorem Mod.unlessBusy_buf {f : Mod → Mod} (hf : ∀ m : Mod, (f m).h2w.buf = m.h2w.buf) (m : Mod) : (m.unlessBusy f).h2w.buf = m.h2w.buf := by
  unfold Mod.unlessBusy
  split
  · rfl
  · exact hf m

theorem h2wGo_buf (x : Sys) : (h2wGo x).1.h2w.buf = x.1.h2w.buf := by
  unfold h2wGo
  split
  · exact (H2w.buf_of_desk (serve_ruleOf_desk _ _)).trans rfl
  · rfl

theorem h2wGoWrite_buf (x : Sys) : (h2wGoWrite x).1.h2w.buf = x.1.h2w.buf := by
  unfold h2wGoWrite
  split
  · rfl
  · exact h2wGo_buf x

theorem h2wWord_buf {m m' : Mod} {ofs high : Nat} (h : m.h2wWord ofs high = some m') : m'.h2w.buf = m.h2w.buf := by
  unfold Mod.h2wWord at h
  dsimp only at h
  split at h <;> cases h <;> rfl

theorem h2wPut_formed (ofs b : Nat) {x : Sys} (h : x.1.h2w.Formed) : (h2wPut ofs b x).1.1.h2w.Formed := by
  unfold h2wPut
  dsimp only
  split
  · split
    · exact h
    · exact bufPut_wf _ _ _ h
  split
  · exact h
  split
  · split
    · exact h.of_buf (h2wGo_buf x)
    · split
      · exact h.of_buf (Mod.h2wRelease_buf x.1)
      · exact h
  · split
    · exact h
    · split
      next m hm => exact h.of_buf (h2wWord_buf hm)
      next => exact h

theorem h2wByte_formed (w : WriteX) (b : Nat) (h : w.x.1.h2w.Formed) : (h2wByte w b).x.1.h2w.Formed := by
  unfold h2wByte
  dsimp only
  split
  · exact h
  split
  · split <;> exact h
  · exact h2wPut_formed _ _ h

theorem h2wWrite_formed (bytes : List Nat) (e : Ending) {x : Sys} (h : x.1.h2w.Formed) : (h2wWrite bytes e x).1.h2w.Formed := by
  have ended : ∀ (m : Mod) (acks : List Bool), m.h2w.Formed →
      ((m.emit (.h2wAck acks)).when (e == .stop) (fun m => (m.inc E.H2W_XFERS 0).h2wStop)).h2w.Formed := fun m _ hm => hm.of_desk (by simp)
  have begun : (x.1.when (e == .srInAck) (·.h2wFlag 0)).h2w.Formed := h.of_desk (by simp)
  unfold h2wWrite
  split
  · exact h
  · dsimp only
    refine ended _ _ ?_
    split
    · exact begun
    next p rest _ => exact rest.foldlRecOn (motive := fun w : WriteX => w.x.1.h2w.Formed) _ begun fun w hw b _ => h2wByte_formed w b hw

end Sys2Proof.Machine
end

section
/-! PROOF. Every step keeps the form of the window's request buffer (R455). -/

set_option Elab.async false

namespace Sys2Proof.Machine

open Sys2Proof

/-! ## The outcome of a command -/

theorem next_formed {s s' : State} {m : Mod} (hs : (.next { s with m := m } : Host.Outcome State Fault Refusal) = .next s')
    (h : m.h2w.Formed) : s'.m.h2w.Formed := by
  cases hs
  exact h

theorem execM_formed {t : Nat} {f : Mod → Mod} {s s' : State} (hf : ∀ m : Mod, m.h2w.Formed → (f m).h2w.Formed) (h : s.m.h2w.Formed)
    (hs : execM t f s = .next s') : s'.m.h2w.Formed := by
  refine next_formed hs ?_
  split
  · exact hf _ h
  · exact h

theorem execM_buf {t : Nat} {f : Mod → Mod} {s s' : State} (hf : ∀ m : Mod, (f m).h2w.buf = m.h2w.buf) (h : s.m.h2w.Formed)
    (hs : execM t f s = .next s') : s'.m.h2w.Formed := execM_formed (fun m hm => hm.of_buf (hf m)) h hs

theorem execM_desk {t : Nat} {f : Mod → Mod} {s s' : State} (hf : ∀ m : Mod, (f m).h2w.desk = m.h2w.desk) (h : s.m.h2w.Formed)
    (hs : execM t f s = .next s') : s'.m.h2w.Formed := execM_formed (fun m hm => hm.of_desk (hf m)) h hs

theorem execSafe_desk {t : Nat} {f : Mod → Mod} {s s' : State} (hf : ∀ m : Mod, (f m).h2w.desk = m.h2w.desk) (h : s.m.h2w.Formed)
    (hs : execSafe t f s = .next s') : s'.m.h2w.Formed := by
  refine next_formed hs ?_
  split
  · exact H2w.Formed.of_desk h (hf _)
  split
  · exact H2w.Formed.of_desk h (Mod.safeOnly_desk _ _)
  · exact h

theorem execS_formed {t : Nat} {f : Sys → Sys} {s s' : State} (hf : ∀ x : Sys, x.1.h2w.Formed → (f x).1.h2w.Formed) (h : s.m.h2w.Formed)
    (hs : execS t f s = .next s') : s'.m.h2w.Formed := by
  unfold execS at hs
  split at hs <;> cases hs
  · exact hf (s.m.at t, s.srv) h
  · exact h

theorem execS_buf {t : Nat} {f : Sys → Sys} {s s' : State} (hf : ∀ x : Sys, (f x).1.h2w.buf = x.1.h2w.buf) (h : s.m.h2w.Formed)
    (hs : execS t f s = .next s') : s'.m.h2w.Formed := execS_formed (fun x hx => hx.of_buf (hf x)) h hs

theorem execS_desk {t : Nat} {f : Sys → Sys} {s s' : State} (hf : ∀ x : Sys, (f x).1.h2w.desk = x.1.h2w.desk) (h : s.m.h2w.Formed)
    (hs : execS t f s = .next s') : s'.m.h2w.Formed := execS_formed (fun x hx => hx.of_desk (hf x)) h hs

theorem execModeTick_formed {t : Nat} {x : TickIn} {s s' : State} (h : s.m.h2w.Formed) (hs : execModeTick t x s = .next s') :
    s'.m.h2w.Formed := by
  unfold execModeTick at hs
  split at hs
  · split at hs
    · cases hs
    · exact execS_desk (modeTick_desk x) h hs
  · exact execS_desk (modeTick_desk x) h hs

theorem execUsbAttach_formed {t : Nat} {source : Bool} {s s' : State} (h : s.m.h2w.Formed) (hs : execUsbAttach t source s = .next s') :
    s'.m.h2w.Formed := by
  unfold execUsbAttach at hs
  dsimp only at hs
  split at hs
  · refine next_formed hs (H2w.Formed.of_desk (h := (s.m.at t).h2w) h ?_)
    split <;> simp
  · exact execS_desk (fun x => by simp) h hs

/-! ## Starts: the buffer is empty after one -/

theorem H2w.Formed.begun {h : H2w} (e : h.desk = H2w.desk {}) : h.Formed := H2w.Formed.of_desk (h := {}) rfl e

theorem startUp_formed (adv : Nat) (epochOk : Bool) (x : BootIn) {s : Sys} (h : s.1.h2w.Formed) : (startUp adv epochOk x s).1.h2w.Formed := by
  unfold startUp
  extract_lets m c tb k
  have begun : k.h2w.Formed := h
  clear_value k
  split
  · exact h
  split
  · exact H2w.Formed.of_desk begun (Mod.bootErase_desk k)
  split
  · exact .begun (bootRun_desk _ _ _ _)
  · exact H2w.Formed.of_desk begun (Mod.bootErase_desk _)

theorem epochRetry_formed (ok : Bool) {s : Sys} (h : s.1.h2w.Formed) : (epochRetry ok s).1.h2w.Formed := by
  unfold epochRetry
  split
  · split
    · exact .begun (bootRun_desk _ _ _ _)
    · exact h
  · exact h

/-! ## Every command -/

theorem exec_formed {c : Instr} {s s' : State} (h : s.m.h2w.Formed) (hs : exec c s = .next s') : s'.m.h2w.Formed := by
  cases c
  case modeTick => exact execModeTick_formed h hs
  case usbAttach => exact execUsbAttach_formed h hs
  case startUp adv epochOk x =>
    cases hs
    exact startUp_formed adv epochOk x (s := (s.m, s.srv)) h
  case epochWriteRetry ok =>
    cases hs
    exact epochRetry_formed ok (s := (s.m, s.srv)) h
  case tamperOpen => exact next_formed hs (H2w.Formed.of_desk h (Mod.tamperOpened_desk _))
  case tamperClose => exact next_formed hs (H2w.Formed.of_desk h (Mod.tamperClosed_desk _))
  case por => exact next_formed hs (H2w.Formed.of_desk h (Mod.resetBegin_desk _ _))
  case sourceReturn => exact next_formed hs (H2w.Formed.of_desk h (Mod.sourceReturn_desk _ _))
  case bor | wakeEvent | aoReserveExhausted => exact next_formed hs (H2w.Formed.of_desk h (by simp))
  case h2wWriteTransaction | h2wPageSelect => exact execS_formed (fun _ hx => h2wWrite_formed _ _ hx) h hs
  case h2wGo => exact execS_buf h2wGoWrite_buf h hs
  case h2wRelease => exact execM_buf (Mod.unlessBusy_buf Mod.h2wRelease_buf) h hs
  case alertCauseWrite => exact execM_buf (Mod.unlessBusy_buf (f := fun m => m.alertClear _) fun _ => rfl) h hs
  case h2wReadTransaction => exact execM_buf (Mod.h2wRead_buf _) h hs
  case h2wResponse => exact execM_buf Mod.h2wResponse_buf h hs
  case alertResponse => exact execM_buf (Mod.alertResponse_buf _) h hs
  case sclTimeout | sdaTimeout => exact execM_buf (Mod.lineTimeout_buf _ _) h hs
  case lifetimeCommit => exact execM_desk (f := fun m => if m.due .lifetime then m.lifetimeCommit else m) (fun m => by simp) h hs
  case wrstPin => exact execM_desk (f := fun m => m.resetBegin 3) (fun m => Mod.resetBegin_desk m 3) h hs
  case wdrst => exact execM_desk (f := fun m => if m.due .wdrst then m.resetBegin 5 else m) (fun m => by simp) h hs
  case sfrst => exact execM_desk (f := fun m => if m.armed .reset then m.resetBegin 6 else m) (fun m => by simp) h hs
  case h2wSrInAck => exact execM_desk (f := fun m => m.h2wFlag 0) (fun m => Mod.h2wFlag_desk m 0) h hs
  case bat2wPoll t u => exact execM_desk (f := fun m => m.pollAfter u (ms (m.n E.B2W_POLL u))) (fun m => by simp) h hs
  case balertEdge t u => exact execM_desk (f := fun m => (m.inc E.BALERT_CNT u).pollAfter u (ms 10)) (fun m => by simp) h hs
  case pkSnap t r =>
    exact execS_desk (f := fun x => ownRead E.PK_SNAP r (x.1.peakTake r.smp, x.2)) (fun x => by simp) h hs
  case fastTrip | brkClamp | brkClampRelease | linkOvervoltage | ilkOpen | ilkClose | estopOpen | estopClose | estopTest |
      lockstepMismatch =>
    exact execSafe_desk (fun m => by simp) h hs
  case envReqWrite | couplingReqWrite | powerReqWrite | hibernateEntry | sysVsetWrite | srcPolicyWrite | manSlackWrite |
      loopPresetWrite | profStart | profStop | profRestart | profSkip | ringEnvWrite | roleDrop | shareReadmit | portDisable |
      portEnable | ilkOpenReqWrite | holdupOperation | phtSnap | stepSnap | capArm | capTriggerCmd | capStreamA |
      capAbort | cableSys | cableBat | cableBrk | calSet | esessOpen | esessClose | netHandover | linkWakeTx | odRead |
      odWrite | odCommit | odDiscard | journalDurable | stageTimeout | assemblyTimeout | queueTimeout | recordHoldExpiry |
      pstoreDefaults | rstCmd | rtcWrite | cmpModeWrite | kprKey | kprCheckin | faultEscalate | fltStickyClear |
      fltLatchedClear | fltInject | usbDetach | enterMode | usbTransfer | credLogin | credLogout | credSet |
      sessionIdleTimeout | secretErase | ringKeyOwn | ringKeyPar | signKeygen | fwImg | fwSwitch | canRequest |
      canMappedFrame | frameForward | readSnapshotExpiry =>
    exact execS_desk (fun x => by simp) h hs
  all_goals exact execM_desk (fun m => by simp) h hs

end Sys2Proof.Machine

namespace Sys2Proof

open Machine

/-- Settles O5: of every command; an empty queue changes nothing. -/
theorem everyStepKeepsTheRequestBuffer : Obligations.EveryStepKeepsTheRequestBuffer := by
  intro s s' h hs
  unfold step at hs
  split at hs
  · cases hs
    exact h
  · rename_i c rest _
    exact exec_formed (s := { s with pending := rest }) h hs

end Sys2Proof
end

section
/-! PROOF. Requests over the HOST2W window and HALERT (R457, R458, R460, R461). -/

set_option Elab.async false

namespace Sys2Proof.Machine

open Sys2Proof

/-! ## Bits that are cleared -/

/-- A number is the sum of what it shares with another and of what it has alone. -/
theorem land_add_ldiff (n m : Nat) : (n &&& m) + Nat.ldiff n m = n := by
  induction n using Nat.binaryRec generalizing m with
  | zero => simp [Nat.ldiff]
  | bit a n ih =>
    obtain ⟨b, k, rfl⟩ : ∃ b k, m = Nat.bit b k := ⟨m.bodd, m.div2, (Nat.bit_bodd_div2 m).symm⟩
    rw [Nat.land_bit, Nat.ldiff_bit]
    have rest := ih k
    simp only [Nat.bit_val]
    cases a <;> cases b <;> simp <;> omega

theorem clearBits_eq_ldiff (n m : Nat) : clearBits n m = Nat.ldiff n m := by
  have sum := land_add_ldiff n m
  unfold clearBits
  omega

/-- A bit stands after a clearing where it stood and was not cleared. -/
theorem bit_clearBits (n m k : Nat) : bit (clearBits n m) k = (bit n k && !bit m k) := by
  rw [clearBits_eq_ldiff]
  exact Nat.testBit_ldiff n m k

theorem bit_land (n m k : Nat) : bit (n &&& m) k = (bit n k && bit m k) := Nat.testBit_and n m k

theorem ne_zero_of_bit {n k : Nat} (h : bit n k = true) : n ≠ 0 := fun e => by
  rw [e] at h
  exact absurd h (by simp [bit])

/-! ## HALERT (R461) -/

theorem Mod.alertTo_released (m : Mod) {cause mask : Nat} (h : cause &&& mask = 0) : (m.alertTo cause mask).h2w.pulled = false :=
  if_pos h

/-- A cause that is not masked and did not stand pulls HALERT where it may. -/
theorem Mod.alertSet_pulled {m : Mod} {k : Nat} (hm : bit m.h2w.mask k = true) (ha : bit m.alert k = false)
    (he : m.b E.HALERT_EN 0 = true) : (m.alertSet k).h2w.pulled = true := by
  have now : bit (Sys2Proof.setBit m.alert k true &&& m.h2w.mask) k = true := by
    rw [bit_land, bit_setBit_same, hm]
    rfl
  have rise : bit (clearBits (Sys2Proof.setBit m.alert k true &&& m.h2w.mask) (m.alert &&& m.h2w.mask)) k = true := by
    rw [bit_clearBits, now, bit_land, ha]
    rfl
  refine (if_neg (ne_zero_of_bit now)).trans ?_
  rw [Bool.or_eq_true, Bool.and_eq_true]
  exact .inr ⟨bne_iff_ne.2 (ne_zero_of_bit rise), he⟩

/-! ## Queues leave the window -/

theorem Mod.dequeue_window (m : Mod) {q : Nat} (hq : q ≠ 26) : (m.dequeue q).h2w = m.h2w ∧ (m.dequeue q).alert = m.alert := by
  have same : ∀ x : Mod, (x.queueMarks q).quiet = x.quiet := fun x => by
    rw [Mod.queueMarks, if_neg hq]
    exact x.fillMarks_quiet q _
  have quiet : (m.dequeue q).quiet = ({ m with queues := setAt {} m.queues q { m.queue q with items := (m.queue q).items.drop 1, status := 0 } } : Mod).quiet := same _
  exact ⟨(congrArg Mod.h2w quiet :), (congrArg Mod.alert quiet :)⟩

theorem Mod.waiting_of_plant {m m' : Mod} (h : m'.plant = m.plant) : m'.h2w.waiting = m.h2w.waiting :=
  (congrArg (fun x : Mod => x.h2w.waiting) h :)

theorem queued_waiting (r : Req) (x : Sys) : (queued r x).1.h2w.waiting = x.1.h2w.waiting :=
  Mod.waiting_of_plant ((Mod.plant_dequeue _ _).trans (Mod.plant_enqueue _ _ _ _ _))

theorem makeRecord_waiting (x : Sys) (a : Asker) : (makeRecord x a).1.h2w.waiting = x.1.h2w.waiting := by
  unfold makeRecord
  split
  · rfl
  · split
    · rfl
    · exact Mod.when_keeps (fun m => m.h2w.waiting) (·.inc E.REC_EARLY 0) (fun _ => rfl) _ _

theorem takeIn_waiting (a : Asker) (r : Req) (x : Sys) : (takeIn a r x).1.h2w.waiting = x.1.h2w.waiting := by
  have touched : ∀ y : Sys, (touchSession y r).1.h2w.waiting = y.1.h2w.waiting := fun y => by
    unfold touchSession
    split <;> rfl
  exact ((touched _).trans (Mod.when_keeps (fun m => m.h2w.waiting) (fun m => m.arm .stage (m.tb + sec (m.n E.STAGE_TMO 0))) (fun _ => rfl) _ _)).trans (makeRecord_waiting x a)

/-! ## A response for the window (R457) -/

theorem Mod.respond_window (m : Mod) {r : Resp} (h : r.transport = .host2w) :
    SameOd serviceKeys m (m.respond r) ∧ (m.respond r).h2w.waiting = m.h2w.waiting ++ [r.body] := by
  simp only [Mod.respond, h]
  have enter := m.enqueue_service (q := 21) (20 + r.data.length) r.requester r.seq (by decide) (by decide)
  exact ⟨enter.1.of_od (by dsimp only), congrArg (· ++ [r.body]) (Mod.waiting_of_plant (m.plant_enqueue 21 (20 + r.data.length) r.requester r.seq))⟩

/-- A request over the window that is finished has its body wait for the window. -/
theorem finish_window (x : Sys) {a : Asker} (status detail : Nat) (data : List Nat) (eff : Nat) (h : a.transport = .host2w) :
    SameOd serviceKeys x.1 (finish x a status detail data eff).1 ∧
      (finish x a status detail data eff).1.h2w.waiting.length = x.1.h2w.waiting.length + 1 := by
  have told : ∀ r : Resp, r.transport = .host2w → SameOd serviceKeys x.1 ((x.1.respond r).kprTask 1) ∧
      ((x.1.respond r).kprTask 1).h2w.waiting.length = x.1.h2w.waiting.length + 1 := fun r hr => by
    obtain ⟨od, waits⟩ := x.1.respond_window hr
    have task : ((x.1.respond r).kprTask 1).h2w = (x.1.respond r).h2w := by
      unfold Mod.kprTask
      split <;> rfl
    exact ⟨od.trans (Mod.kprTask_service _ 1), by rw [task, waits, List.length_append]; rfl⟩
  exact told _ h

/-- A DISCARD by the stage's owner over the window (R393). -/
theorem serve_discard_window {x : Sys} {r : Req} (hadm : Admitted x r) (hop : r.op = 4) (ht : r.transport = .host2w)
    (hs : x.2.stage ≠ []) (ho : x.2.owner = some r.requester) :
    SameOd serviceKeys x.1 (serve ruleOf r x).1 ∧ (serve ruleOf r x).1.h2w.waiting.length = x.1.h2w.waiting.length + 1 := by
  rw [serve_discard hadm hop]
  generalize ha : askerOf r (x.1.n E.EPOCH 0) = a
  have who : a.requester = r.requester ∧ a.transport = .host2w := ha ▸ ⟨rfl, ht⟩
  have through : Serviced x.1 (queued r x).1 :=
    x.1.through_service (20 + r.data.length) r.requester r.seq (by rw [ht]; decide) (by rw [ht]; decide)
  have taken := through.trans (takeIn_service a r (queued r x))
  have waits := (takeIn_waiting a r (queued r x)).trans (queued_waiting r x)
  obtain ⟨-, stage, owner⟩ := takeIn_server a r (x := queued r x) hadm.record
  generalize takeIn a r (queued r x) = y at taken waits stage owner
  rw [serveDiscard_owner (by rw [stage]; exact hs) (owner.trans (ho.trans (by rw [who.1])))]
  obtain ⟨od, more⟩ := finish_window (y.1.disarm .stage, { (markStaged y y.2.stage 3 0).2 with stage := [], owner := none, commit := none })
    0 0 [] 1 who.2
  exact ⟨taken.1.trans od, more.trans (congrArg (·.length + 1) waits)⟩

theorem serveFams_keys : serveFams.flatMap Fam.keys = serviceKeys := by
  simp [serveFams, serviceKeys]

/-! ## GO (R457) -/

/-- The module that has taken a GO. -/
def Mod.h2wGone (m : Mod) : Mod :=
  m.modH2w (fun h => { h with xstate := 1, go := some (askerOf m.h2wRequest (m.n E.EPOCH 0)), busyTo := m.tb + us 50 })

theorem h2wGoWrite_served {x : Sys} (hb : x.1.h2wBusy = false) (hg : x.1.mayGo = true) :
    h2wGoWrite x = serve ruleOf x.1.h2wRequest (x.1.h2wGone, x.2) := by
  unfold h2wGoWrite h2wGo
  rw [if_neg (by simp [hb]), if_pos hg]
  rfl

theorem Mod.unlessBusy_free {m : Mod} (f : Mod → Mod) (h : m.h2wBusy = false) : m.unlessBusy f = f m := if_neg (by simp [h])

/-! ## The response comes (R457, R458) -/

/-- The window with the response of the request in flight. -/
def Mod.h2wAnswered (m : Mod) (b : List Nat) (rest : List (List Nat)) : Mod :=
  (m.dequeue 21).modH2w (fun h => { h with waiting := rest, rsp := b, xstate := 2, go := none, busyTo := m.tb + us 50 })

theorem Mod.h2wResponse_comes {m : Mod} {b : List Nat} {rest : List (List Nat)} (hx : m.h2w.xstate = 1) (hw : m.h2w.waiting = b :: rest) :
    m.h2wResponse = (m.h2wAnswered b rest).alertSet 0 := by
  unfold Mod.h2wResponse
  rw [hw]
  exact if_pos hx

/-- What the response changes besides HALERT: the window's and the queue's own. -/
theorem Mod.h2wAnswered_frame (m : Mod) (b : List Nat) (rest : List (List Nat)) :
    OnlyFams markFams m (m.h2wAnswered b rest) ∧ (m.h2wAnswered b rest).alert = m.alert ∧
      (m.h2wAnswered b rest).h2w = { m.h2w with waiting := rest, rsp := b, xstate := 2, go := none, busyTo := m.tb + us 50 } := by
  have marks := OnlyFams.dequeue m (q := 21) (by decide)
  obtain ⟨window, alert⟩ := m.dequeue_window (q := 21) (by decide)
  unfold Mod.h2wAnswered
  generalize m.dequeue 21 = y at marks window alert
  exact ⟨marks, alert, congrArg (fun h : H2w => { h with waiting := rest, rsp := b, xstate := 2, go := none, busyTo := m.tb + us 50 }) window⟩

end Sys2Proof.Machine

namespace Sys2Proof

open Machine

/-- Settles O54: a GO through the server, which leaves the window's desk; a DISCARD over the window with its one waiting body; and
HALERT by the bits of ALERT_CAUSE and ALERT_MASK. -/
theorem windowRequests : Obligations.WindowRequests := by
  unfold Obligations.WindowRequests
  refine ⟨?_, ?_, ?_, ?_, ?_, ?_, ?_⟩
  · intro t s ha hb hg
    refine DoesS.intro (f := h2wGoWrite) rfl ha ?_
    rw [h2wGoWrite_served hb hg]
    have desk := serve_ruleOf_desk (s.m.at t).h2wRequest ((s.m.at t).h2wGone, s.srv)
    exact ⟨(congrArg H2w.xstate desk :), (congrArg H2w.go desk :), (congrArg H2w.busyTo desk :), (congrArg H2w.buf desk :)⟩
  · intro t s ha hb hg hop hadm hs ho
    refine DoesS.intro (f := h2wGoWrite) rfl ha ?_
    rw [h2wGoWrite_served hb hg]
    have admitted : Admitted ((s.m.at t).h2wGone, s.srv) (s.m.at t).h2wRequest :=
      ⟨hadm.room, hadm.session, hadm.fresh, hadm.epoch, hadm.newSeq, hadm.record⟩
    obtain ⟨od, waits⟩ := serve_discard_window admitted hop rfl hs ho
    obtain ⟨stage, owner, record⟩ := serve_discard_server admitted hop hs ho
    refine ⟨?_, stage, owner, record, waits⟩
    rw [OnlyFams, serveFams_keys]
    exact od
  · intro t b rest s ha hx hw
    refine DoesM.intro (f := Mod.h2wResponse) rfl ha ?_
    rw [Mod.h2wResponse_comes (m := s.m.at t) hx hw]
    obtain ⟨marks, alert, window⟩ := (s.m.at t).h2wAnswered_frame b rest
    generalize (s.m.at t).h2wAnswered b rest = y at marks alert window
    have kept : (y.alertSet 0).h2w = { y.h2w with pulled := (y.alertSet 0).h2w.pulled } := rfl
    rw [window] at kept
    refine ⟨congrArg H2w.rsp kept, congrArg H2w.waiting kept, congrArg H2w.xstate kept, congrArg H2w.busyTo kept, y.alertSet_told 0,
      fun hm hal he => ?_, ?_⟩
    · refine Mod.alertSet_pulled ?_ ?_ ?_
      · exact (congrArg (fun h : H2w => bit h.mask 0) window).trans hm
      · exact (congrArg (bit · 0) alert).trans hal
      · exact (congrArg (· != 0) (OnlyFams.n marks E.HALERT_EN 0 (by decide +kernel))).trans he
    · exact SameOd.mono (ks := markFams.flatMap Fam.keys) marks (by simp [markFams])
  · intro t s ha hb hx
    refine DoesM.intro (f := fun m => m.unlessBusy Mod.h2wRelease) rfl ha ?_
    have held : (s.m.at t).h2w.xstate = 2 := hx
    rw [Mod.unlessBusy_free _ hb, Mod.h2wRelease, if_pos held]
    exact ⟨rfl, rfl, bit_setBit_same _ 0 false, fun _ _ => rfl, fun _ _ => rfl⟩
  · intro t bits s ha hb
    refine DoesM.intro (f := fun m => m.unlessBusy (·.alertClear bits)) rfl ha ?_
    rw [Mod.unlessBusy_free _ hb]
    refine ⟨fun k _ => ?_, fun h => Mod.alertTo_released _ h, fun _ _ => rfl, fun _ _ => rfl⟩
    change bit (clearBits s.m.alert (clearBits bits (s.m.at t).alertNew)) k = _
    rw [bit_clearBits, bit_clearBits, Bool.not_and, Bool.not_not]
    rfl
  · intro t won s ha hp
    refine DoesM.intro (f := Mod.alertResponse won) rfl ha ?_
    have pulled : (s.m.at t).h2w.pulled = true := hp
    unfold Mod.alertResponse
    rw [if_pos pulled]
    cases won
    · exact ⟨rfl, hp, fun _ _ => rfl, fun _ _ => rfl⟩
    · exact ⟨rfl, rfl, fun _ _ => rfl, fun _ _ => rfl⟩
  · intro t s ha
    refine DoesM.intro (f := fun m => m.h2wFlag 0) rfl ha ?_
    obtain ⟨flag, od⟩ := (s.m.at t).h2wFlag_frame 0
    exact ⟨flag, od, fun _ _ => rfl, rfl⟩

end Sys2Proof
end

section
/-! PROOF. Every step keeps the server's memory within its bounds (R391, R397, R445): what each operation of the server does to the
lengths of the stage, the records, the latest SEQs and the failed logins; then each command. -/

namespace Sys2Proof.Machine

open Sys2Proof

/-! ## Sessions, the stage, and records -/

theorem touchSession_bounded {x : Sys} (r : Req) (h : x.2.Bounded) : (touchSession x r).2.Bounded := by
  cases ht : r.transport <;> simp only [touchSession, ht]
  case engine | usb => exact h
  case host2w =>
    split
    · exact h
    · exact ⟨h.stage, h.recs, h.seqs, h.fails⟩
  all_goals exact ⟨h.stage, h.recs, h.seqs, h.fails⟩

theorem markStaged_bounded {x : Sys} (l : List Staged) (old new : Nat) (h : x.2.Bounded) : (markStaged x l old new).2.Bounded :=
  ⟨h.stage, (List.length_map _).trans_le h.recs, h.seqs, h.fails⟩

theorem discardStage_bounded {x : Sys} (h : x.2.Bounded) : (discardStage x).2.Bounded := by
  unfold discardStage
  split
  · exact h
  · have marked := markStaged_bounded x.2.stage 3 0 h
    exact ⟨Nat.zero_le _, marked.recs, marked.seqs, marked.fails⟩

theorem setSession_bounded {x : Sys} (req level : Nat) (h : x.2.Bounded) : (setSession x req level).2.Bounded := by
  have set : (x.2.setLevel req level x.1.tb).Bounded := ⟨h.stage, h.recs, h.seqs, h.fails⟩
  unfold setSession stageLevel
  split
  · exact discardStage_bounded set
  · exact set

theorem endSession_bounded {x : Sys} (req : Nat) (h : x.2.Bounded) : (endSession x req).2.Bounded := by
  unfold endSession
  split
  · have left := discardStage_bounded h
    exact ⟨left.stage, left.recs, left.seqs, left.fails⟩
  · exact ⟨h.stage, h.recs, h.seqs, h.fails⟩

/-- The record given up is one of those held. -/
theorem oldestDone_mem {l : List CRec} {d : CRec} (h : oldestDone l = some d) : d ∈ l := by
  induction l with
  | nil => simp [oldestDone] at h
  | cons c cs ih =>
    simp only [oldestDone] at h
    split at h
    · split at h <;> simp_all
    · split at h <;> simp_all

/-- R397: a record takes a free place, or that of a completed one. -/
theorem makeRecord_bounded {x : Sys} (a : Asker) (h : x.2.Bounded) : (makeRecord x a).2.Bounded := by
  unfold makeRecord
  split
  · rename_i room
    exact ⟨h.stage, room, h.seqs, h.fails⟩
  · split
    · exact h
    · rename_i d hd
      refine ⟨h.stage, ?_, h.seqs, h.fails⟩
      have taken := List.length_erase_add_one (oldestDone_mem hd)
      have := h.recs
      simp only [List.length_cons]
      omega

theorem noteSeq_bounded {v : Srv} (req seq : Nat) (h : v.Bounded) : (noteSeq v req seq).Bounded :=
  ⟨h.stage, h.recs, List.length_take_le _ _, h.fails⟩

theorem completeRecord_bounded {x : Sys} (a : Asker) (status detail eff : Nat) (h : x.2.Bounded) :
    (completeRecord x a status detail eff).2.Bounded :=
  ⟨h.stage, (List.length_map _).trans_le h.recs, h.seqs, h.fails⟩

theorem markRecord_bounded {x : Sys} (a : Asker) (eff : Nat) (h : x.2.Bounded) : (markRecord x a eff).2.Bounded :=
  ⟨h.stage, (List.length_map _).trans_le h.recs, h.seqs, h.fails⟩

/-! ## Answers, reads and writes -/

theorem finish_bounded {x : Sys} (a : Asker) (status detail : Nat) (data : List Nat) (eff : Nat) (staged : Bool) (h : x.2.Bounded) :
    (finish x a status detail data eff staged).2.Bounded :=
  completeRecord_bounded a status detail eff h

theorem refuse_bounded {x : Sys} (a : Asker) (status : Nat) (data : List Nat) (detail : Nat) (h : x.2.Bounded) :
    (refuse x a status data detail).2.Bounded :=
  finish_bounded a status detail data 0 false h

theorem answerRead_bounded {x : Sys} (a : Asker) (r : Req) (f : Fam) (v : Val) (staged : Bool) (h : x.2.Bounded) :
    (answerRead x a r f v staged).2.Bounded := by
  simp only [answerRead]
  split
  · split
    · exact refuse_bounded _ _ _ _ h
    · exact finish_bounded _ _ _ _ _ _ h
  · split
    · exact refuse_bounded _ _ _ _ h
    · split
      · exact refuse_bounded _ _ _ _ h
      · exact completeRecord_bounded _ _ _ _ ⟨h.stage, h.recs, h.seqs, h.fails⟩

/-- R391: a value joins the stage only where 512 are not exceeded. -/
theorem stageWrite_bounded {x : Sys} (a : Asker) (f : Fam) (i level : Nat) (v : Val) (h : x.2.Bounded) :
    (stageWrite x a f i level v).2.Bounded := by
  simp only [stageWrite]
  split
  · exact refuse_bounded _ _ _ _ h
  · rename_i room
    have marked := markStaged_bounded (x.2.stage.filter (·.key == f.key i)) 3 0 h
    refine finish_bounded _ _ _ _ _ _ ⟨?_, marked.recs, marked.seqs, marked.fails⟩
    simp only [List.length_append, List.length_singleton]
    omega

/-- An entry's accepted write leaves the server's memory within its bounds. -/
def Rule.Bounded (ru : Rule) : Prop := ∀ a r v (x : Sys), x.2.Bounded → (ru.act a r v x).1.2.Bounded

theorem writeValue_bounded {x : Sys} (a : Asker) (r : Req) (f : Fam) (i : Nat) {ru : Rule} (v : Val) (hr : ru.Bounded) (h : x.2.Bounded) :
    (writeValue x a r f i ru v).2.Bounded := by
  simp only [writeValue]
  split
  · exact refuse_bounded _ _ _ _ h
  · split
    · exact stageWrite_bounded _ _ _ _ _ h
    · have acted := hr a r (f.mask v) x h
      split
      · rename_i hact
        rw [hact] at acted
        exact finish_bounded _ _ _ _ _ _ acted
      · rename_i hact
        rw [hact] at acted
        exact acted

theorem writeSegment_bounded {x : Sys} (a : Asker) (r : Req) (f : Fam) (i : Nat) {ru : Rule} (hr : ru.Bounded) (h : x.2.Bounded) :
    (writeSegment x a r f i ru).2.Bounded := by
  have dropped : Srv.Bounded { x.2 with asms := x.2.asms.filter (·.requester != r.requester) } := ⟨h.stage, h.recs, h.seqs, h.fails⟩
  simp only [writeSegment]
  split
  · exact refuse_bounded _ _ _ _ dropped
  · split
    · exact refuse_bounded _ _ _ _ dropped
    · split
      · exact refuse_bounded _ _ _ _ dropped
      · split
        · split
          · refine finish_bounded _ _ _ _ _ _ ?_
            split <;> exact ⟨h.stage, h.recs, h.seqs, h.fails⟩
          · exact refuse_bounded _ _ _ _ dropped
        · exact writeValue_bounded _ _ _ _ _ hr dropped

theorem serveWrite_bounded {x : Sys} (a : Asker) (r : Req) (f : Fam) (i : Nat) {ru : Rule} (hr : ru.Bounded) (h : x.2.Bounded) :
    (serveWrite x a r f i ru).2.Bounded := by
  unfold serveWrite
  repeat' split
  all_goals first
    | exact refuse_bounded _ _ _ _ h
    | exact writeValue_bounded _ _ _ _ _ hr h
    | exact writeSegment_bounded _ _ _ _ hr h

theorem serveRead_bounded {x : Sys} (a : Asker) (r : Req) (f : Fam) (ru : Rule) (h : x.2.Bounded) :
    (serveRead x a r f ru).2.Bounded := by
  simp only [serveRead]
  split_ifs
  · exact refuse_bounded _ _ _ _ h
  · exact refuse_bounded _ _ _ _ h
  · exact refuse_bounded _ _ _ _ h
  · split <;> exact answerRead_bounded _ _ _ _ _ h
  · split <;> exact answerRead_bounded _ _ _ _ _ h

theorem serveSubZero_bounded {x : Sys} (a : Asker) (r : Req) (h : x.2.Bounded) : (serveSubZero x a r).2.Bounded := by
  unfold serveSubZero
  split_ifs
  case neg => exact finish_bounded _ _ _ _ _ _ h
  all_goals exact refuse_bounded _ _ _ _ h

theorem serveDiscard_bounded {x : Sys} (a : Asker) (h : x.2.Bounded) : (serveDiscard x a).2.Bounded := by
  unfold serveDiscard
  split_ifs
  · exact finish_bounded _ _ _ _ _ _ h
  · exact refuse_bounded _ _ _ _ h
  · have marked := markStaged_bounded x.2.stage 3 0 h
    exact finish_bounded _ _ _ _ _ _ ⟨Nat.zero_le _, marked.recs, marked.seqs, marked.fails⟩

theorem serveCommit_bounded {x : Sys} (a : Asker) (h : x.2.Bounded) : (serveCommit x a).2.Bounded := by
  unfold serveCommit
  split_ifs
  · exact finish_bounded _ _ _ _ _ _ h
  · exact refuse_bounded _ _ _ _ h
  · exact ⟨h.stage, h.recs, h.seqs, h.fails⟩

/-! ## The rules of the entries -/

theorem plainAct_bounded (f : Fam) (i : Nat) (a : Asker) (v : Val) {x : Sys} (h : x.2.Bounded) :
    (plainAct f i a v x).1.2.Bounded := by
  unfold plainAct
  split
  · exact markRecord_bounded _ _ h
  · exact h

theorem Rule.base_bounded (f : Fam) (i : Nat) : (Rule.base f i).Bounded := by
  intro a _ v x h
  have acted := plainAct_bounded f i a v h
  simp only [Rule.base]
  generalize plainAct f i a v x = y at acted
  exact acted

theorem secretAct_bounded (kind key : Nat) (v old : Val) (a : Asker) {x : Sys} (h : x.2.Bounded) :
    (secretAct kind key v old a x).1.2.Bounded :=
  markRecord_bounded _ _ h

theorem loginClass_lt (t : Transport) : loginClass t < 4 := by
  cases t <;> simp [loginClass]

theorem length_modAt {α : Type} (d : α) (l : List α) (f : α → α) {k : Nat} (hk : k < l.length) : (modAt d l k f).length = l.length := by
  induction l generalizing k with
  | nil => simp at hk
  | cons a l ih =>
    cases k with
    | zero => rfl
    | succ k => simpa [modAt] using ih (by simpa using hk)

/-- R445: one class's count is set; there remain four. -/
theorem setAt_fails_bounded {v : Srv} (h : v.Bounded) {c : Nat} (hc : c < 4) (n : Nat) :
    Srv.Bounded { v with fails := setAt 0 v.fails c n } :=
  ⟨h.stage, h.recs, h.seqs, (length_modAt 0 v.fails _ (h.fails ▸ hc)).trans h.fails⟩

theorem credLogin_bounded (r : Req) (v : Val) {x : Sys} (h : x.2.Bounded) : (credLogin r v x).1.2.Bounded := by
  simp only [credLogin]
  split
  · exact setSession_bounded _ _ h
  · split <;> exact setSession_bounded _ _ (setAt_fails_bounded h (loginClass_lt _) _)

/-- A row's act keeps to the bounds where that of the table row does. -/
def Tweak.Bounded (t : Tweak) : Prop := ∀ i r, Rule.Bounded r → Rule.Bounded (t.2 i r)

/-- A row whose act leaves the server's memory as it was. -/
theorem Tweak.Bounded.of_same {t : Tweak} (ht : ∀ i r a q v x, ((t.2 i r).act a q v x).1.2 = x.2) : Tweak.Bounded t :=
  fun i r _ a q v x h => (ht i r a q v x).symm ▸ h

/-- A row that leaves the table row's act as it was. -/
theorem Tweak.Bounded.of_kept {t : Tweak} (ht : ∀ i r, (t.2 i r).act = r.act) : Tweak.Bounded t :=
  fun i r hr a q v x h => (ht i r).symm ▸ hr a q v x h

theorem modeRows_bounded : ∀ t ∈ modeRows, Tweak.Bounded t := by
  simp only [modeRows, List.forall_mem_cons, List.not_mem_nil, false_imp_iff, implies_true, and_true]
  exact ⟨.of_same fun _ _ _ _ _ _ => rfl, .of_same fun _ _ _ _ _ _ => rfl, .of_same fun _ _ _ _ _ _ => rfl, .of_kept fun _ _ =>
    rfl, .of_kept fun _ _ => rfl, .of_kept fun _ _ => rfl⟩

theorem profileRows_bounded : ∀ t ∈ profileRows, Tweak.Bounded t := by
  simp only [profileRows, List.forall_mem_cons, List.not_mem_nil, false_imp_iff, implies_true, and_true]
  exact ⟨.of_same fun _ _ _ _ _ _ => rfl, .of_kept fun _ _ => rfl⟩

theorem ringRows_bounded : ∀ t ∈ ringRows, Tweak.Bounded t := by
  simp only [ringRows, List.forall_mem_cons, List.not_mem_nil, false_imp_iff, implies_true, and_true]
  have base : ∀ (f : Fam) (role : Val → Mod → Mod) (i : Nat) (r : Rule),
      Rule.Bounded { r with act := fun a q v x => (Rule.base f i).act a q v (role v x.1, x.2) } :=
    fun f role i _ a q v x h => Rule.base_bounded f i a q v (role v x.1, x.2) h
  have mode := fun (i : Nat) (r : Rule) (_ : r.Bounded) =>
    base E.SHARE_MODE (fun v m => m.roleRelease (m.n E.SEG_ID 0) v.toNat) i r
  have segment := fun (i : Nat) (r : Rule) (_ : r.Bounded) =>
    base E.SEG_ID (fun v m => m.roleRelease v.toNat (m.n E.SHARE_MODE 0)) i r
  exact ⟨.of_kept fun _ _ => rfl, .of_same fun _ _ _ _ _ _ => rfl, .of_same fun _ _ _ _ _ _ => rfl, mode, segment, .of_same fun
    _ _ _ _ _ _ => rfl, .of_same fun _ _ _ _ _ _ => rfl⟩

theorem portRows_bounded : ∀ t ∈ portRows, Tweak.Bounded t := by
  simp only [portRows, List.forall_mem_cons, List.not_mem_nil, false_imp_iff, implies_true, and_true]
  exact ⟨.of_same fun _ _ _ _ _ _ => rfl, .of_same fun _ _ _ _ _ _ => rfl, .of_same fun _ _ _ _ _ _ => rfl, .of_same fun _ _ _ _
    _ _ => rfl⟩

theorem measureRows_bounded : ∀ t ∈ measureRows, Tweak.Bounded t := by
  simp only [measureRows, List.forall_mem_cons, List.not_mem_nil, false_imp_iff, implies_true, and_true]
  exact ⟨.of_same fun _ _ _ _ _ _ => rfl, .of_same fun _ _ _ _ _ _ => rfl, .of_same fun _ _ _ _ _ _ => rfl, .of_same fun _ _ _ _
    _ _ => rfl, .of_kept fun _ _ => rfl, .of_kept fun _ _ => rfl, .of_kept fun _ _ => rfl, .of_kept fun _ _ => rfl, .of_kept
    fun _ _ => rfl⟩

theorem systemRows_bounded : ∀ t ∈ systemRows, Tweak.Bounded t := by
  simp only [systemRows, List.forall_mem_cons, List.not_mem_nil, false_imp_iff, implies_true, and_true]
  exact ⟨fun _ _ _ _ _ _ _ h => markRecord_bounded _ _ h, .of_same fun _ _ _ _ _ _ => rfl, .of_same fun _ _ _ _ _ _ => rfl,
    .of_same fun _ _ _ _ _ _ => rfl, .of_same fun _ _ _ _ _ _ => rfl, .of_same fun _ _ _ _ _ _ => rfl, .of_same fun _ _ _ _ _
    _ => rfl, .of_same fun _ _ _ _ _ _ => rfl⟩

theorem secretRows_bounded : ∀ t ∈ secretRows, Tweak.Bounded t := by
  simp only [secretRows, List.forall_mem_cons, List.not_mem_nil, false_imp_iff, implies_true, and_true]
  exact ⟨fun _ _ _ _ q v _ h => credLogin_bounded q v h, fun _ _ _ _ _ _ _ h => setSession_bounded _ _ h, fun _ _ _ _ _ _ _ h =>
    secretAct_bounded _ _ _ _ _ h, .of_same fun _ _ _ _ _ _ => rfl, fun _ _ _ _ _ _ _ h => secretAct_bounded _ _ _ _ _ h, fun
    _ _ _ _ _ _ _ h => secretAct_bounded _ _ _ _ _ h, fun _ _ _ _ _ _ _ h => secretAct_bounded _ _ _ _ _ h, .of_same fun _ _ _
    _ _ _ => rfl, .of_same fun _ _ _ _ _ _ => rfl⟩

theorem readRowsA_bounded : ∀ t ∈ readRowsA, Tweak.Bounded t := by
  simp only [readRowsA, List.forall_mem_cons, List.not_mem_nil, false_imp_iff, implies_true, and_true]
  exact ⟨.of_kept fun _ _ => rfl, .of_kept fun _ _ => rfl, .of_kept fun _ _ => rfl, .of_kept fun _ _ => rfl, .of_kept fun _ _ =>
    rfl, .of_kept fun _ _ => rfl, .of_kept fun _ _ => rfl, .of_kept fun _ _ => rfl, .of_kept fun _ _ => rfl, .of_kept fun _ _
    => rfl, .of_kept fun _ _ => rfl, .of_kept fun _ _ => rfl, .of_kept fun _ _ => rfl⟩

theorem readRowsB_bounded : ∀ t ∈ readRowsB, Tweak.Bounded t := by
  simp only [readRowsB, List.forall_mem_cons, List.not_mem_nil, false_imp_iff, implies_true, and_true]
  exact ⟨.of_kept fun _ _ => rfl, .of_kept fun _ _ => rfl, .of_kept fun _ _ => rfl, .of_kept fun _ _ => rfl, .of_kept fun _ _ =>
    rfl, .of_kept fun _ _ => rfl, .of_kept fun _ _ => rfl, .of_kept fun _ _ => rfl, .of_kept fun _ _ => rfl, .of_kept fun _ _
    => rfl, .of_kept fun _ _ => rfl, .of_kept fun _ _ => rfl, .of_kept fun _ _ => rfl⟩

theorem readRowsC_bounded : ∀ t ∈ readRowsC, Tweak.Bounded t := by
  simp only [readRowsC, List.forall_mem_cons, List.not_mem_nil, false_imp_iff, implies_true, and_true]
  exact ⟨.of_kept fun _ _ => rfl, .of_kept fun _ _ => rfl, .of_kept fun _ _ => rfl, .of_kept fun _ _ => rfl, .of_kept fun _ _ =>
    rfl, .of_kept fun _ _ => rfl, .of_kept fun _ _ => rfl, .of_kept fun _ _ => rfl, .of_kept fun _ _ => rfl⟩

theorem heldRows_bounded : ∀ t ∈ heldRows, Tweak.Bounded t := by
  simp only [heldRows, List.mem_append, List.mem_map]
  rintro t (⟨f, -, rfl⟩ | ⟨f, -, rfl⟩ | ⟨f, -, rfl⟩ | ⟨f, -, rfl⟩) <;> exact .of_kept fun _ _ => rfl

theorem tweaks_bounded : ∀ t ∈ tweaks, Tweak.Bounded t := by
  simp only [tweaks, List.forall_mem_append, List.forall_mem_cons, List.not_mem_nil, false_imp_iff, implies_true, and_true]
  have keeper : ∀ f, Tweak.Bounded (keeperRow f) := fun _ => .of_same fun _ _ _ _ _ _ => rfl
  have cmp : ∀ f, Tweak.Bounded (cmpRow f) := fun _ => .of_same fun _ _ _ _ _ _ => rfl
  exact ⟨modeRows_bounded, profileRows_bounded, ringRows_bounded, portRows_bounded, measureRows_bounded, systemRows_bounded,
    ⟨keeper _, keeper _, keeper _, cmp _, cmp _, cmp _⟩, secretRows_bounded, readRowsA_bounded, readRowsB_bounded,
    readRowsC_bounded, heldRows_bounded⟩

theorem ruleOf_bounded (f : Fam) (i : Nat) : (ruleOf f i).Bounded := by
  intro a r v x h
  simp only [ruleOf]
  split
  · rename_i t ht
    exact tweaks_bounded t (List.mem_of_find?_eq_some ht) i _ (Rule.base_bounded f i) a r v x h
  · exact Rule.base_bounded f i a r v x h

/-! ## Serving a request -/

theorem serveEntry_bounded {x : Sys} (a : Asker) (r : Req) (h : x.2.Bounded) : (serveEntry ruleOf x a r).2.Bounded := by
  unfold serveEntry
  split
  · exact serveCommit_bounded _ h
  split
  · exact serveDiscard_bounded _ h
  split
  · exact refuse_bounded _ _ _ _ h
  split
  · exact serveSubZero_bounded _ _ h
  · split
    · exact refuse_bounded _ _ _ _ h
    · dsimp only
      split_ifs
      · exact refuse_bounded _ _ _ _ h
      · exact serveRead_bounded _ _ _ _ h
      · exact serveWrite_bounded _ _ _ _ (ruleOf_bounded _ _) h

theorem takeIn_bounded {x : Sys} (a : Asker) (r : Req) (h : x.2.Bounded) : (takeIn a r x).2.Bounded :=
  touchSession_bounded r (noteSeq_bounded _ _ (makeRecord_bounded a h))

theorem accept_bounded {x : Sys} (r : Req) (h : x.2.Bounded) : (accept ruleOf x r).2.Bounded := by
  simp only [accept]
  split_ifs
  · exact h
  · exact serveEntry_bounded _ _ (takeIn_bounded _ _ h)
  · exact serveEntry_bounded _ _ (touchSession_bounded r (noteSeq_bounded _ _ h))

theorem serve_bounded {x : Sys} (r : Req) (h : x.2.Bounded) : (serve ruleOf r x).2.Bounded := by
  have arrived : (queued r x).2.Bounded := h
  simp only [serve]
  split
  · exact h
  split
  · exact arrived
  split
  · exact arrived
  split
  · exact arrived
  split
  · exact arrived
  split
  · split <;> exact arrived
  · split
    · exact accept_bounded r arrived
    · split
      · exact accept_bounded r arrived
      · split
        · exact arrived
        · split <;> exact arrived

/-! ## The commands that concern the server -/

/-- The operation leaves the server's memory within its bounds. -/
def KeepsBounds (f : Sys → Sys) : Prop := ∀ x : Sys, x.2.Bounded → (f x).2.Bounded

/-- It leaves the server's memory as it was. -/
theorem KeepsBounds.of_same {f : Sys → Sys} (hf : ∀ x, (f x).2 = x.2) : KeepsBounds f := fun x h => (hf x).symm ▸ h

theorem ownWrite_bounded (f : Fam) (r : Req) : KeepsBounds (ownWrite f r) := fun _ h => by
  unfold ownWrite
  split
  · exact serve_bounded r h
  · exact h

theorem ownCode_bounded (f : Fam) (c : Nat) (r : Req) : KeepsBounds (ownCode f c r) := fun _ h => by
  unfold ownCode
  split
  · exact serve_bounded r h
  · exact h

theorem ownRead_bounded (f : Fam) (r : Req) : KeepsBounds (ownRead f r) := fun _ h => by
  unfold ownRead
  split
  · exact serve_bounded r h
  · exact h

theorem ownOp_bounded (op : Nat) (r : Req) : KeepsBounds (ownOp op r) := fun _ h => by
  unfold ownOp
  split
  · exact serve_bounded r h
  · exact h

theorem profCommand_bounded (code : Nat) (c : CmdStage) : KeepsBounds (profCommand code c) := fun x h => by
  cases c with
  | accept r => exact ownCode_bounded _ _ r x h
  | boundary => exact h

theorem usbTransfer_bounded (length : Nat) (r : Req) : KeepsBounds (usbTransfer length r) := fun _ h => by
  unfold usbTransfer
  split
  · exact serve_bounded _ h
  · exact h

theorem usbDetach_bounded : KeepsBounds usbDetach := fun _ h => by
  unfold usbDetach
  split
  · exact endSession_bounded _ h
  · exact h

theorem usbAttachWith_bounded (src : Bool) : KeepsBounds (usbAttachWith src) := fun _ h => ⟨h.stage, h.recs, h.seqs, h.fails⟩

theorem enterMode_server (svid pos : Nat) (x : Sys) : (enterMode svid pos x).2 = x.2 := by
  unfold enterMode
  split_ifs <;> rfl

theorem sessionIdle_bounded (req : Nat) : KeepsBounds (sessionIdle req) := fun x h => by
  unfold sessionIdle
  split
  · exact setSession_bounded (x := x) req 0 h
  · exact h

/-! ### The journal and commits -/

theorem stageDone_bounded (j : JRec) {x : Sys} (h : x.2.Bounded) : (stageDone x j).2.Bounded := by
  simp only [stageDone]
  split
  · exact h
  · have marked := markStaged_bounded (x.2.stage.filter fun e => j.writes.any fun w => w.1 == e.key && w.2 == e.val) 2 1 h
    split
    · exact ⟨Nat.zero_le _, marked.recs, marked.seqs, marked.fails⟩
    · exact ⟨(List.length_filter_le _ _).trans h.stage, marked.recs, marked.seqs, marked.fails⟩

theorem journalDone_bounded : KeepsBounds journalDone := fun x h => by
  simp only [journalDone]
  split
  · exact h
  · rename_i j js hj
    have stored : (stageDone ({ x.1 with journal := js, pst := j.store x.1.pst }, x.2) j).2.Bounded := stageDone_bounded j h
    split
    · exact finish_bounded _ _ _ _ _ _ stored
    · exact stored

theorem journalFail_bounded : KeepsBounds journalFail := fun x h => by
  simp only [journalFail]
  split
  · exact h
  · rename_i j js hj
    have failed : (if j.kind = 1 then markStaged (({ x.1 with journal := js } : Mod).putBack j, x.2) x.2.stage 2 3
        else (({ x.1 with journal := js } : Mod).putBack j, x.2)).2.Bounded := by
      split
      · exact markStaged_bounded _ _ _ h
      · exact h
    split
    · exact finish_bounded _ _ _ _ _ _ failed
    · exact failed

theorem journalAll_bounded : KeepsBounds journalAll := fun _ h =>
  List.foldlRecOn (motive := fun y : Sys => y.2.Bounded) _ _ h fun y hy _ _ => journalDone_bounded y hy

theorem journalBack_bounded : KeepsBounds journalBack := fun x h => by
  unfold journalBack
  split
  · exact h
  · exact journalFail_bounded x h

theorem journalEnd_bounded (ok : Bool) : KeepsBounds (journalEnd ok) := fun x h => by
  simp only [journalEnd]
  split
  · exact h
  · split_ifs
    · exact journalDone_bounded _ h
    · exact h
    · exact journalDone_bounded _ h
    · exact journalBack_bounded _ h

theorem commitApply_bounded : KeepsBounds commitApply := fun x h => by
  have begun : Srv.Bounded { x.2 with commit := none } := ⟨h.stage, h.recs, h.seqs, h.fails⟩
  simp only [commitApply]
  split
  · exact h
  · split
    · exact refuse_bounded _ _ _ _ begun
    · exact markRecord_bounded _ _ (markStaged_bounded _ _ _ begun)

theorem hibernateEntry_bounded : KeepsBounds hibernateEntry := fun x h => by
  unfold hibernateEntry
  split
  · exact journalAll_bounded x h
  · exact h

/-! ### Timers, blocks, resets and ticks -/

theorem stageTimeout_bounded : KeepsBounds stageTimeout := fun _ h => by
  unfold stageTimeout
  split
  · exact discardStage_bounded h
  · exact h

theorem assemblyTimeout_bounded (req : Nat) : KeepsBounds (assemblyTimeout req) := fun _ h => by
  unfold assemblyTimeout
  split
  · exact ⟨h.stage, h.recs, h.seqs, h.fails⟩
  · exact h

theorem snapshotExpiry_bounded (req : Nat) : KeepsBounds (snapshotExpiry req) := fun _ h => by
  unfold snapshotExpiry
  split
  · exact ⟨h.stage, h.recs, h.seqs, h.fails⟩
  · exact h

theorem queueTimeout_server (r : Req) (x : Sys) : (queueTimeout r x).2 = x.2 := by
  unfold queueTimeout
  split <;> rfl

theorem recordHold_bounded : KeepsBounds recordHold := fun _ h =>
  ⟨h.stage, (List.length_filter_le _ _).trans h.recs, h.seqs, h.fails⟩

theorem h2wAbort_bounded : KeepsBounds h2wAbort := fun x h => by
  simp only [h2wAbort]
  split
  · split
    · exact h
    · refine completeRecord_bounded _ _ _ _ ?_
      dsimp only
      split
      · exact ⟨h.stage, h.recs, h.seqs, h.fails⟩
      · exact h
  · exact h

theorem blockEffect_bounded (b : Nat) : KeepsBounds (blockEffect b) := fun x h => by
  simp only [blockEffect]
  split
  case h_4 =>
    split
    · exact h
    · exact journalBack_bounded _ h
  case h_5 => exact usbDetach_bounded x h
  case h_6 => exact h2wAbort_bounded _ h
  all_goals exact h

theorem blockReset_bounded (b : Nat) : KeepsBounds (blockReset b) := fun x h => by
  unfold blockReset
  split
  · exact h
  · exact blockEffect_bounded b _ h

theorem faultEscalate_bounded (b : Nat) : KeepsBounds (faultEscalate b) := fun x h => by
  simp only [faultEscalate]
  split
  · split
    · exact blockReset_bounded b _ h
    · exact h
    · exact h
  · exact h

theorem holdup_bounded : KeepsBounds holdup := fun x h => by
  simp only [holdup]
  split
  · split
    · exact usbDetach_bounded _ h
    · exact h
  · exact h

theorem usbUnpowered_bounded : KeepsBounds usbUnpowered := fun x h => by
  unfold usbUnpowered
  split
  · exact usbDetach_bounded x h
  · exact h

theorem modeTick_bounded (x : TickIn) : KeepsBounds (modeTick x) := fun y h =>
  usbUnpowered_bounded _ (commitApply_bounded (y.1.latchControls.tickMeasure x, y.2) h)

/-! ### Start-up -/

theorem bootSrv_bounded {v : Srv} (m : Mod) (records fails : Bool) (h : v.Bounded) : (bootSrv v m records fails).Bounded := by
  refine ⟨Nat.zero_le _, ?_, ?_, ?_⟩
  · cases records
    · exact Nat.zero_le _
    · exact (List.length_map _).trans_le ((List.length_filter_le _ _).trans h.recs)
  · cases records
    · exact Nat.zero_le _
    · exact h.seqs
  · cases fails
    · rfl
    · exact h.fails

theorem bootRun_bounded (rtcAdv : Nat) (x : BootIn) (tries : Bool) : KeepsBounds (bootRun rtcAdv x tries) := fun s h => by
  have booted := fun m records fails => bootSrv_bounded m records fails h
  simp only [bootRun]
  split
  · exact usbAttachWith_bounded _ _ (booted _ _ _)
  · exact booted _ _ _

theorem startUp_bounded (rtcAdv : Nat) (epochOk : Bool) (x : BootIn) : KeepsBounds (startUp rtcAdv epochOk x) := fun s h => by
  unfold startUp
  extract_lets
  split
  · exact h
  split
  · exact h
  split
  · exact bootRun_bounded _ _ _ _ h
  · exact h

theorem epochRetry_bounded (ok : Bool) : KeepsBounds (epochRetry ok) := fun s h => by
  unfold epochRetry
  split
  · split
    · exact bootRun_bounded _ _ _ _ h
    · exact h
  · exact h

/-! ### The buses and the ring -/

theorem h2wGo_bounded : KeepsBounds h2wGo := fun _ h => by
  simp only [h2wGo]
  split
  · exact serve_bounded _ h
  · exact h

theorem h2wGoWrite_bounded : KeepsBounds h2wGoWrite := fun x h => by
  unfold h2wGoWrite
  split
  · exact h
  · exact h2wGo_bounded x h

theorem h2wPut_bounded (ofs b : Nat) {x : Sys} (h : x.2.Bounded) : (h2wPut ofs b x).1.2.Bounded := by
  simp only [h2wPut]
  split
  · split <;> exact h
  split
  · exact h
  split
  · split
    · exact h2wGo_bounded x h
    · split <;> exact h
  · split
    · exact h
    · split <;> exact h

theorem h2wByte_bounded (b : Nat) {w : WriteX} (h : w.x.2.Bounded) : (h2wByte w b).x.2.Bounded := by
  simp only [h2wByte]
  split_ifs
  · exact h
  · exact h
  · exact h
  · exact h2wPut_bounded _ _ h

theorem h2wWrite_bounded (bytes : List Nat) (e : Ending) : KeepsBounds (h2wWrite bytes e) := fun x h => by
  simp only [h2wWrite]
  split
  · exact h
  · split
    · exact h
    · rename_i rest _
      exact rest.foldlRecOn (motive := fun w : WriteX => w.x.2.Bounded) _ h fun w hw b _ => h2wByte_bounded b hw

theorem canRequest_bounded (f : CanFrame) : KeepsBounds (canRequest f) := fun x h => by
  unfold canRequest
  split
  · exact serve_bounded _ h
  · exact h

theorem mapWrite_bounded (f : Fam) (i bus : Nat) (v : Val) {x : Sys} (h : x.2.Bounded) : (mapWrite f i bus v x).1.2.Bounded := by
  simp only [mapWrite]
  split
  · exact h
  · split
    · exact h
    · exact ruleOf_bounded f i (askerOf (mapReq f i bus) 0) (mapReq f i bus) (f.mask v) x h

theorem mapApply_bounded (i bus : Nat) (q : Rat) {x : Sys} (h : x.2.Bounded) : (mapApply i bus q x).1.2.Bounded := by
  simp only [mapApply]
  split
  · exact h
  · split
    · exact h
    · split_ifs
      · exact h
      · exact h
      · exact h
      · exact mapWrite_bounded _ _ _ _ h

theorem mapFrame_bounded (f : CanFrame) (i : Nat) {x : Sys} (h : x.2.Bounded) : (mapFrame f x i).2.Bounded := by
  simp only [mapFrame]
  split
  · exact h
  · split
    · split <;> exact h
    · split
      · exact h
      · exact mapApply_bounded _ _ _ h

theorem mappedFrame_bounded (f : CanFrame) : KeepsBounds (mappedFrame f) := fun x h => by
  unfold mappedFrame
  split
  · exact List.foldlRecOn (motive := fun y : Sys => y.2.Bounded) _ _ h fun y hy i _ => mapFrame_bounded f i hy
  · exact h

theorem frameRequest_bounded (l : Nat) (h : Hdr) (typ : Nat) (r : Req) : KeepsBounds (frameRequest l h typ r) := fun x hx => by
  simp only [frameRequest]
  split_ifs
  · exact hx
  · exact hx
  · exact serve_bounded _ hx

theorem frameConsume_bounded (l : Nat) (h : Hdr) (b : FwdBody) : KeepsBounds (frameConsume l h b) := fun x hx => by
  cases b
  case odReq r => exact frameRequest_bounded _ _ _ _ x hx
  case bulk r => exact frameRequest_bounded _ _ _ _ x hx
  all_goals exact hx

theorem frameForward_bounded (l : Nat) (h : Hdr) (b : FwdBody) : KeepsBounds (frameForward l h b) := fun x hx => by
  simp only [frameForward]
  split
  · exact hx
  split
  · exact frameConsume_bounded _ _ _ _ hx
  split
  · exact hx
  split <;> exact hx

/-! ## Every command -/

/-- Of the state that a command answers. -/
theorem execS_bounded {t : Nat} {f : Sys → Sys} {s s' : State} (hf : KeepsBounds f) (h : s.srv.Bounded)
    (hs : execS t f s = .next s') : s'.srv.Bounded := by
  unfold execS at hs
  split at hs <;> cases hs
  · exact hf (s.m.at t, s.srv) h
  · exact h

/-- Of the state that a command answers which does not concern the server. -/
theorem next_server {s s' : State} {m : Mod} (hs : (.next { s with m := m } : Host.Outcome State Fault Refusal) = .next s') :
    s'.srv = s.srv := by
  cases hs
  rfl

theorem execUsbAttach_bounded {t : Nat} {source : Bool} {s s' : State} (h : s.srv.Bounded)
    (hs : execUsbAttach t source s = .next s') : s'.srv.Bounded := by
  simp only [execUsbAttach] at hs
  split at hs
  · exact (next_server hs).symm ▸ h
  · refine execS_bounded (fun x hx => ?_) h hs
    split
    · exact hx
    · exact usbAttachWith_bounded _ x hx

theorem execModeTick_bounded {t : Nat} {x : TickIn} {s s' : State} (h : s.srv.Bounded)
    (hs : execModeTick t x s = .next s') : s'.srv.Bounded := by
  unfold execModeTick at hs
  split at hs
  · split at hs
    · cases hs
    · exact execS_bounded (modeTick_bounded x) h hs
  · exact execS_bounded (modeTick_bounded x) h hs

theorem exec_bounded {c : Instr} {s s' : State} (h : s.srv.Bounded) (hs : exec c s = .next s') : s'.srv.Bounded := by
  cases c
  case modeTick => exact execModeTick_bounded h hs
  case usbAttach => exact execUsbAttach_bounded h hs
  case envReqWrite | couplingReqWrite | powerReqWrite | sysVsetWrite | srcPolicyWrite | manSlackWrite | loopPresetWrite |
      ringEnvWrite | roleDrop | shareReadmit | ilkOpenReqWrite | calSet | netHandover | linkWakeTx | pstoreDefaults | rstCmd |
      rtcWrite | cmpModeWrite | kprKey | kprCheckin | fltStickyClear | fltLatchedClear | fltInject | credLogin | credLogout |
      credSet | secretErase | ringKeyOwn | ringKeyPar | signKeygen | fwImg | fwSwitch =>
    exact execS_bounded (ownWrite_bounded _ _) h hs
  case portDisable | portEnable | capArm | capTriggerCmd | capStreamA | capAbort | cableSys | cableBat | cableBrk | esessOpen |
      esessClose => exact execS_bounded (ownCode_bounded _ _ _) h hs
  case profStart | profStop | profRestart | profSkip => exact execS_bounded (profCommand_bounded _ _) h hs
  case pkSnap t r => exact execS_bounded (fun x hx => ownRead_bounded E.PK_SNAP r (x.1.peakTake r.smp, x.2) hx) h hs
  case phtSnap | stepSnap => exact execS_bounded (ownRead_bounded _ _) h hs
  case odRead | odWrite | odCommit | odDiscard => exact execS_bounded (ownOp_bounded _ _) h hs
  case hibernateEntry => exact execS_bounded hibernateEntry_bounded h hs
  case usbDetach => exact execS_bounded usbDetach_bounded h hs
  case enterMode => exact execS_bounded (.of_same (enterMode_server _ _)) h hs
  case sessionIdleTimeout => exact execS_bounded (sessionIdle_bounded _) h hs
  case faultEscalate => exact execS_bounded (faultEscalate_bounded _) h hs
  case holdupOperation => exact execS_bounded holdup_bounded h hs
  case h2wWriteTransaction | h2wPageSelect => exact execS_bounded (h2wWrite_bounded _ _) h hs
  case h2wGo => exact execS_bounded h2wGoWrite_bounded h hs
  case canRequest => exact execS_bounded (canRequest_bounded _) h hs
  case canMappedFrame => exact execS_bounded (mappedFrame_bounded _) h hs
  case usbTransfer => exact execS_bounded (usbTransfer_bounded _ _) h hs
  case journalDurable => exact execS_bounded (journalEnd_bounded _) h hs
  case stageTimeout => exact execS_bounded stageTimeout_bounded h hs
  case assemblyTimeout => exact execS_bounded (assemblyTimeout_bounded _) h hs
  case readSnapshotExpiry => exact execS_bounded (snapshotExpiry_bounded _) h hs
  case queueTimeout => exact execS_bounded (.of_same (queueTimeout_server _)) h hs
  case recordHoldExpiry => exact execS_bounded recordHold_bounded h hs
  case frameForward => exact execS_bounded (frameForward_bounded _ _ _) h hs
  case startUp rtcAdv epochOk x =>
    cases hs
    exact startUp_bounded rtcAdv epochOk x (s.m, s.srv) h
  case epochWriteRetry ok =>
    cases hs
    exact epochRetry_bounded ok (s.m, s.srv) h
  all_goals exact (next_server hs).symm ▸ h

end Sys2Proof.Machine

namespace Sys2Proof

open Machine

/-- Settles O4: of every command; an empty queue changes nothing. -/
theorem everyStepKeepsTheServerBounded : Obligations.EveryStepKeepsTheServerBounded := by
  intro s s' h hs
  unfold step at hs
  split at hs
  · cases hs
    exact h
  · rename_i c rest _
    exact exec_bounded (s := { s with pending := rest }) h hs

end Sys2Proof
end
